-- ==== Sys2Proof/Word.lean ====
section
/-! DEFINITION. The byte and word of the device and their plainest arithmetic (spec 00: registers are 32 bits wide). -/

namespace Sys2Proof

/-- An octet of a frame, of a memory or of the flash. -/
abbrev Byte := BitVec 8

/-- A register word (00_scope, Registers: 32 bits, aligned to 4 bytes). -/
abbrev Word := BitVec 32

/-- Bit field `[lo + w - 1 : lo]` of a number, as a number. -/
def bits (v lo w : Nat) : Nat := (v >>> lo) % 2 ^ w

/-- Bit `i` of a number. -/
def bit (v i : Nat) : Bool := v.testBit i

/-- A Boolean as a bit. -/
def b2n (b : Bool) : Nat := if b then 1 else 0

/-- The two's-complement value of the low `w` bits of a number. -/
def sgn (w v : Nat) : Int :=
  let m := v % 2 ^ w
  if m < 2 ^ (w - 1) then (m : Int) else (m : Int) - (2 ^ w : Nat)

/-- The low `w` bits that stand for an integer. -/
def unsgn (w : Nat) (x : Int) : Nat := (x % ((2 ^ w : Nat) : Int)).toNat

/-- `x` kept between `lo` and `hi`. -/
def clampI (lo hi x : Int) : Int := if x < lo then lo else if hi < x then hi else x

end Sys2Proof
end

