-- ==== Sys2Proof/Syntax.lean ====
section
/-! DEFINITION. The commands of the LQ9512: one constructor of `Instr` for each row of spec/opcode_table.json, with the
data that the outside (a pin, a port, a bus, an engine, the partner, a clock) brings with it. -/

namespace Sys2Proof

/-- The start delimiter of a received packet (04, R157 check 1, R182, R184). -/
inductive Smd where
  | express
  | first
  | continued
  | verify
  | respond
  deriving DecidableEq, Repr

/-- What the medium shows a receiving MAC when a frame ends (04, Table 4-5). -/
structure RxEnd where
  /-- number of octets received before a cut by loss of clock or link (R32, R150) -/
  cutAt : Option Nat
  /-- a code error or RX_ER during the frame (check 8) -/
  codeErr : Bool
  /-- a missing or out-of-order fragment, or a bad mCRC (R184) -/
  fragErr : Bool
  deriving DecidableEq, Repr

/-- A queue whose HEAD0 register an engine reads (03, R110 and the queues that obey it). -/
inductive HeadQueue where
  | ingress (port : Fin 24)
  | egress (port : Fin 24)
  | skew
  | capture (n : Fin 4)
  | canTxEvent (n : Fin 16)
  | farError
  | events
  deriving DecidableEq, Repr

/-- A CAN frame as the bus carries it (10, Table 10-3). -/
structure CanFrame where
  ident : BitVec 29
  ide : Bool
  fdf : Bool
  xlf : Bool
  brs : Bool
  esi : Bool
  rtr : Bool
  rrs : Bool
  sec : Bool
  dlc : BitVec 11
  sdt : BitVec 8
  af : Word
  vcid : BitVec 8
  data : List Byte
  deriving DecidableEq, Repr

/-- What an error on a CAN bus was (10, R466, R426). -/
inductive CanErrorKind where
  | transmit (tecStep : Nat)
  | receive (recStep : Nat)
  | disabledFormat (xl : Bool)
  deriving DecidableEq, Repr

/-- Why a serial message closes (11, R473). -/
inductive SerClose where
  | gap
  | maxLen
  | brk
  deriving DecidableEq, Repr

/-- A maintenance request, after the EtherType (15, Table 15-8), with what the frame path knows of it. -/
structure MaintReq where
  inPort : Fin 24
  src : BitVec 48
  router : BitVec 48
  vid : BitVec 12
  version : Byte
  slot : Byte
  counter : BitVec 64
  reqStatus : Byte
  reserved : Byte
  args : List Byte
  tag : List Byte
  deriving DecidableEq, Repr

/-- A linear ramp (09, R372): from `a` to `b` over `len` samples, `n` of them done. -/
structure Ramp where
  a : Int
  b : Int
  len : Nat
  n : Nat
  deriving DecidableEq, Repr

/-- A voice of a tone generator, as latched at a trigger (09, R401). -/
structure Voice where
  inc : Nat
  level : Nat
  start : Nat
  duration : Nat
  sustain : Bool
  deriving DecidableEq, Repr

/-- A tone generator: the index of its trigger while it is started, and its latched voices (09, R401). -/
structure ToneGen where
  trigger : Option Nat
  voices : List Voice
  deriving DecidableEq, Repr

/-- A scheduled control change (09, R377; 13, Table 13-6, type 0x01). -/
structure AudChange where
  kind : Nat
  index : Nat
  esi : Nat
  w0 : Word
  w1 : Word
  deriving DecidableEq, Repr

/-- The AUD_SYNC set (13, R567). -/
structure AudSync where
  apply : Nat
  entries : List (Nat × List Word)
  gens : List ToneGen
  talkers : List Bool
  gains : List (Nat × Ramp)
  ducks : List (Nat × Ramp)
  pmax : List (Nat × Int)
  active : List (Nat × Nat)
  deriving DecidableEq, Repr

/-- A Quosor heartbeat (13, Table 13-5). -/
structure Heartbeat where
  unitB : Bool
  duty : Bool
  forming : Bool
  mirroring : Bool
  linkOnlySeen : Bool
  role : Nat
  number : BitVec 16
  fingerprint : BitVec 64
  wtSrc : Bool
  wtState : Nat
  mac : BitVec 48
  sent : BitVec 64
  tdmDriven : BitVec 4
  coord : Byte
  ack : BitVec 16
  faults : Word
  hbSeq : Word
  deriving DecidableEq, Repr

/-- A frame that crosses the pair link on VC2 with its metadata (13, Table 13-3; 04, R144). -/
structure PairFrame where
  bytes : List Byte
  vid : Nat
  pcp : Nat
  dei : Bool
  colour : Nat
  sc : Option Nat
  deriving DecidableEq, Repr

/-- Why a received link frame is discarded (13, R555, R541, Table 13-3). -/
inductive LinkBad where
  | tag
  | crc
  | seq
  | reserved
  deriving DecidableEq, Repr

/-- The sleep agreement message of the partner (13, Table 13-6, type 0x0A; 14, R607). -/
inductive WakMsg where
  | prepare
  | commit
  | abort
  deriving DecidableEq, Repr

/-- A lease message (13, Table 13-6, type 0x09): a request, a grant, a ceiling or an acknowledgement. -/
inductive LeaseMsg where
  | request
  | grant (block : Nat) (toHome : Bool)
  | ack (block : Nat)
  | ceiling (c : Nat)
  | nextUnleased (block : Nat)
  deriving DecidableEq, Repr

/-- What a CAN wake detector sees (14, R616, R617). -/
inductive CanWakeEvent where
  | dominant (us : Nat)
  | frame (f : CanFrame)
  | decodeError
  deriving DecidableEq, Repr

/-- What a T1S wake receiver sees (14, R620). -/
inductive T1sWakeEvent where
  | carrier (us : Nat)
  | frame (bytes : List Byte)
  deriving DecidableEq, Repr

/-- The arithmetic of an atomic memory operation (RV32A, named by 15, R627). -/
inductive AmoOp where
  | swap | add | xor | and | or | min | max | minu | maxu
  deriving DecidableEq, Repr

/-- Where a memory word with an error lies, for the background scrub (16, Table 16-1). -/
inductive EccPlace where
  | cellData (cell : BitVec 16)
  | keySlot (slot : Byte)
  /-- element `element` of a ring of a CAN controller: FQ0 to FQ2, RXQ0, RXQ1 -/
  | canRing (n : Fin 16) (ring : Fin 5) (element : Nat)
  | other (block : Byte) (wordAddr : BitVec 24)
  deriving DecidableEq, Repr

/-- The commands. Each constructor is one row of the opcode table; the comment names the row's rule. -/
inductive Instr where
  -- resets and bring-up (R720, R729, R80, R51, R52, R44, R56)
  | coldReset (pairId testEn : Bool)
  | warmReset (pairId : Bool)
  | aonReady
  | pllLock
  | imageStreamed
  | signatureVerified
  | pollTimeout
  | forwarding
  -- configuration (R65, R71, R73, R70, R79)
  | configurationScrub (disturbed : List Byte)
  | censusEvaluate
  | censusSettle
  | censusAge (entry : Fin 64)
  | trialConfirm
  -- maintenance and staging (R75 to R77, R654 to R657)
  | stageBegin (req : MaintReq)
  | stageWrite (req : MaintReq)
  | stageVerify (req : MaintReq)
  | stageCheckDone
  | arm (req : MaintReq)
  | disarm (req : MaintReq)
  | stageAbort (req : MaintReq)
  | challenge (req : MaintReq)
  | read (req : MaintReq)
  | readBottle (req : MaintReq)
  | restart (req : MaintReq)
  -- network time (R82 to R136)
  | dcStep (n : Fin 2) (stepNs : Word)
  | dcRate (n : Fin 2) (rate : Word)
  | usableSet (n : Fin 2)
  | domainLost (n : Fin 2)
  | forceStep
  | loadWt
  | wtSrcWrite (src : Fin 2)
  | snap
  | slewUpdate
  | pairWtMismatch
  | frameStartRx (port : Fin 24) (smd : Smd) (preambleOk : Bool) (phase : Nat) (bytes : List Byte)
  | calibrationDone (port : Fin 24)
  | head0Read (engine : Fin 8) (queue : HeadQueue)
  | plsCtrlWrite (n : Fin 8) (value : Word)
  | pulseEdge (n : Fin 8)
  | captureEdge (n : Fin 4) (rising : Bool) (heldNs phase : Nat)
  | sampleStrobe (errNs : Int) (tdmIn tdmLine : List (List Word))
  -- Ethernet ports (R143 to R182)
  | macCtrlWrite (port : Fin 24) (value : Word)
  | linkUp (port : Fin 24) (speed : Nat) (fullDuplex : Bool)
  | linkDown (port : Fin 24)
  | linkdownDiscard (port : Fin 24)
  | krTrainFailed (port : Fin 24)
  | krRetry (port : Fin 24)
  | frameEndRx (port : Fin 24) (ending : RxEnd)
  | pauseExpiry (port : Fin 24) (cls : Fin 8)
  | pauseWdTrip (port : Fin 24)
  | pauseIgnoredEnd (port : Fin 24)
  | pauseRefresh (port : Fin 24)
  | verifyTimer (port : Fin 24)
  | plcaBeaconLost (port : Fin 24)
  | mdioStart (value : Word)
  | mdioDone (data : BitVec 16)
  -- forwarding (R188 to R228)
  | forwardingDecision (port : Fin 28)
  | stagingCellTake (port : Fin 28)
  | learnInsert
  | tableWrite (value : Word)
  | macInsert
  | macDelete
  | macLookup
  | seedWrite (which : Fin 2) (value : Word)
  | migrateStart
  | migrateStep
  | ageingSweep
  | fwdFlush (value : Word)
  | tcamScrub (slice : Fin 4096) (upset shadowUncorrectable : Bool)
  -- stream channels (R242 to R271)
  | sctCommit (value : Word)
  | sctStateSel (value : Word)
  | rcvReset (handle : Fin 512)
  | latencyClear (monitor : Fin 16) (value : Word)
  -- egress scheduling (R318 to R360)
  | listHeaderCommit (list : Fin 256)
  | gateEntryCommit (entry : Fin 4096)
  | egsListSel (value : Word)
  | gateEvent (list : Fin 256)
  | changeInstant (list : Fin 256)
  | transmitSelection (port : Fin 28)
  | holdRequest (port : Fin 16)
  | egressStamp (port : Fin 24) (phase : Nat)
  | transmitComplete (port : Fin 28)
  | shaperWrite (queue : Fin 224) (burst : Bool) (value : Word)
  | maxdlyClear (value : Word)
  | hmClear (monitor : Fin 8)
  | hmQueueWrite (monitor : Fin 8) (value : Word)
  | depthSample (monitor : Fin 8)
  -- buffer (R300 to R315)
  | bufCommit (value : Word)
  | leakAudit
  | auditWalkDone
  | stuckHead (queue : Fin 224)
  | queueFlush (value : Word)
  -- audio crosspoint (R371 to R417)
  | tapChange (index : BitVec 13)
  | outputChange (index : BitVec 13)
  | tgTrigger (index : BitVec 13)
  | tgStop (index : BitVec 13)
  | localOffset (index : BitVec 13)
  | talker (index : BitVec 13)
  | audCommit (index : BitVec 13)
  | wrEsiHiWrite (n : Fin 8) (value : Word)
  | marginClear (listener : Fin 64) (value : Word)
  | listenerFrame
  -- CAN (R420 to R470)
  | canFrameReceived (n : Fin 16) (ago : Nat) (frame : CanFrame)
  | canFrameStart (n : Fin 16)
  | canFrameSent (n : Fin 16)
  | arbitrationLost (n : Fin 16)
  | canError (n : Fin 16) (kind : CanErrorKind)
  | canRecover (n : Fin 16) (value : Word)
  | busOffRecovery (n : Fin 16)
  | tbLoad (n : Fin 16) (tb : Fin 3)
  | fqPut (n : Fin 16) (fq : Fin 3) (value : Word)
  | fqFlush (n : Fin 16) (fq : Fin 3)
  | tbCancel (n : Fin 16) (value : Word)
  | trellisColumn (n : Fin 16) (busIdle : Bool)
  | trellisWrite (n : Fin 16) (reg : Fin 3) (value : Word)
  | modeChange (n : Fin 16)
  | bitTimingWrite (n : Fin 16) (reg : Fin 4) (value : Word)
  | mirrorExpired (n : Fin 16) (tb : Fin 3)
  -- serial channels and glove frames (R472 to R492)
  | serialCharacter (n : Fin 8) (value : Byte) (parityErr framingErr : Bool)
  | messageClose (n : Fin 8) (cause : SerClose)
  | serialTxStart (n : Fin 8)
  | serialTxEnd (n : Fin 8)
  | serTxqPut (n : Fin 8) (value : Word)
  | serBaudWrite (n : Fin 8) (value : Word)
  | serMirrorExpired (n : Fin 8)
  | gloveItem
  | bundleClose (c : Fin 24)
  | gloveKeepalive (c : Fin 24)
  | decapsulate
  | resync (d : Fin 64)
  | glvCommit (value : Word)
  -- cipher engine and keys (R495 to R523)
  | ringPut (engine : Fin 8) (value : Word)
  | nop (engine : Fin 8)
  | gcmEnc (engine : Fin 8)
  | gcmDec (engine : Fin 8)
  | cmacGen (engine : Fin 8)
  | cmacVer (engine : Fin 8)
  | wrap (engine : Fin 8)
  | unwrap (engine : Fin 8)
  | derive (engine : Fin 8)
  | jobComplete (engine : Fin 8) (differs : Bool)
  | ringAbort (engine : Fin 8)
  | keyErase (value : Word)
  | keyDestroyed (slot : Byte)
  | cphKsSel (value : Word)
  | pairEnWrite (value : Word)
  | txAnWrite (port : Fin 16) (an : Fin 4)
  -- the pair (R539 to R588)
  | lanesAligned
  | epoch (value : Word)
  | heartbeat (hb : Heartbeat)
  | heartbeatTx
  | nak (seq : BitVec 16)
  | retransmit
  | quosorLinkDown
  | pairProbe
  | partnerLost
  | formWait
  | mirrorLost
  | frame (f : PairFrame)
  | audChange (c : AudChange)
  | liFrame (tdm : Fin 4) (strobe : Nat) (slots : List Word)
  | twinDigest (talker : Fin 64) (block : Nat) (crc : Word)
  | tdmCmp (tdm : Fin 4) (strobe : Nat)
  | canAppend (n : Fin 16) (fq : Fin 3) (element : List Byte)
  | canFlush (n : Fin 16) (fq : Fin 3)
  | canCancel (n : Fin 16) (tb : Fin 3) (tag : BitVec 16) (ident : BitVec 29)
  | serAppend (n : Fin 8) (element : List Byte)
  | serFlush (n : Fin 8)
  | lease (counter : Fin 48) (msg : LeaseMsg)
  | wakState (msg : WakMsg)
  | audSync (set : AudSync)
  | dutyOffer (index : Nat)
  | dutyTaken
  | restartReq
  | restartRsp (accepted : Bool)
  | qlbRestart (value : Word)
  | qlbHandover (value : Word)
  | bridgeRead (tag : Fin 32) (size : Byte) (addr : Word)
  | bridgeWrite (tag : Fin 64) (size : Byte) (addr data : Word)
  | semAcq (tag : Fin 32) (sem : Fin 32)
  | semRel (tag : Fin 32) (sem : Fin 32)
  | readRsp (tag : Fin 32) (status : Fin 5) (data : Word)
  | writeAck (tag : Fin 64) (status : Fin 5)
  | semRsp (tag : Fin 32) (status : Fin 5)
  | semRetry (tag : Fin 32)
  | partnerWindowLoad (engine : Fin 8) (addr : Word) (size : Byte)
  | partnerWindowStore (engine : Fin 8) (addr data : Word) (size : Byte)
  | bridgeTimeout (tag : Fin 64)
  | qlbFence (engine fence : Fin 8)
  | lr (engine : Fin 8) (addr : Word)
  | sc (engine : Fin 8) (addr data : Word)
  | amo (engine : Fin 8) (op : AmoOp) (addr data : Word)
  -- sleep and wake (R595 to R626, R677)
  | keepAliveTx
  | keepAliveRx
  | needWrite (value : Word)
  | peerNeedExpiry (peer : BitVec 48)
  | minAwake
  | readyHold
  | sleepCommit
  | sleepEntry
  | wakeN (heldUs : Nat)
  | wakeTimer
  | signalDetect (port : Fin 4) (heldUs : Nat)
  | canWake (c : Fin 4) (ev : CanWakeEvent)
  | t1sWake (n : Fin 8) (ev : T1sWakeEvent)
  | dwellEnd
  | wakeSupplyGood
  | supplyFail
  | falseWake
  | quarantineEnd (source : Fin 32)
  | quarClear (value : Word)
  | failsafeSleep
  | throttleEnter
  | throttleExit
  | throttleBottling
  | brownOut (millivolt : Nat)
  | crystalCheck (within : Bool)
  -- engines and access paths (R639 to R653, R699, R11)
  | wdKick (engine : Fin 8) (value : Word)
  | watchdog (engine : Fin 8)
  | machineTimer (engine : Fin 8)
  | mtimeLoRead (engine : Fin 8)
  | mbSend (engine : Fin 8) (value : Word)
  | mailboxRead (engine : Fin 8)
  | eventRoute
  | txrPut (engine : Fin 8) (value : Word)
  | txDescriptor (engine : Fin 8)
  | rxrFrame
  | flashWindowRead (engine : Fin 8) (addr : Word) (size : Byte)
  | counterLoRead (engine : Fin 8) (addr : Word)
  | registerWrite (engine : Fin 8) (addr value : Word)
  -- faults, the cellar and debug (R629, R663 to R692)
  | lockstepMismatch (engine : Fin 8)
  | backgroundScrub (place : Option EccPlace) (correctable : Bool)
  | supplyMonitor (rail : Fin 5) (high : Bool)
  | clockMonitor (clock : Fin 6)
  | faultRestart (pairId : Bool)
  | cellarRecord
  | fltLogCmd (engine : Fin 8) (value : Word)
  | bottled (flashOk : Bool)
  | debugOpen (code : BitVec 16)
  | zeroisationDone (verified : Bool)
  -- counters and harvest (R702 to R717)
  | harvestSweep
  | harvestStart (value : Word)
  | harvestPeriodWrite (value : Word)
  | sweepComplete
  | tdSnap (engine : Fin 8)
  -- ports, buffer, link and temperature events (R156, R362, R315, R218, R539, R555, R752)
  | plcaBeacon (port : Fin 24)
  | collision (port : Fin 24)
  | queueFlushDone
  | fwdFlushDone
  | epochSend
  | linkFrameDiscarded (why : LinkBad)
  | devTempUpdate (temp : BitVec 16)
  deriving DecidableEq, Repr

end Sys2Proof
end

