-- ==== Sys2Proof/Decode.lean ====
section
/-! DEFINITION. Words that spell commands: the opcode table gives no row of this block any bits, so no word spells one. -/

namespace Sys2Proof

/-- The command that a word spells by the table's bits: none, as no row of spec/opcode_table.json has bits. -/
def decodeTableWord (_nbits _w : Nat) : Option Instr := none

end Sys2Proof
end

