-- ==== Sys2Proof/Config.lean ====
section
/-! DEFINITION. What an implementation fixes and the spec does not give: each is an opaque constant, so that nothing can be
proved of its value. -/

namespace Sys2Proof

/-- The 64 KiB boot ROM by address (15, Table 15-1: the spec gives its place and not its bytes).
Conventions: log entry 1 (PRESUMED). -/
opaque Config.bootRom : Nat → Byte

/-- A fresh value that the spec leaves open, by the count of such values drawn so far (log entry 2).
Conventions: log entry 2 (DESIGN CHOICE). -/
opaque Config.freeValue : Nat → Nat

/-- The octets of the persistent store in the flash, by what it holds and the offset (02, Table 2-1: the spec gives its place and
content and not its layout). -/
opaque Config.persLayout : List Nat → Nat → Byte

/-- The decapsulation entry whose ITEM_BAD counts an XL frame that an NTSCF channel discards, by the channel (11, R486: the rule names
the counter and not the entry). Conventions: log entry 60 (DESIGN CHOICE). -/
opaque Config.itemBadOf : Nat → Nat

end Sys2Proof
end

