-- ==== Sys2Proof/Machine/RegTable.lean ====
section
/-! DEFINITION. The register map (00, R11, R14, R22; the register tables of chapters 02 to 18): for each register its address,
its instances, and the access type, place and reset value of each of its fields. Bits that no field holds are reserved. -/

namespace Sys2Proof.Machine

/-- The access types of Table 0-2 (R11). -/
inductive Access where
  | rw | ro | w1c | wo | rws
  deriving DecidableEq, Repr

/-- A field of a register table: lowest bit, width, access type, value after a cold reset. -/
structure FieldRow where
  lo : Nat
  w : Nat
  acc : Access
  reset : Nat
  deriving DecidableEq, Repr

/-- A row of a register table: the address of the first instance, the stride and number of the instances (outermost first), the
fields, and the reset values of the instances whose reset differs (from, below, value). -/
structure RegRow where
  base : Nat
  dims : List (Nat × Nat)
  fields : List FieldRow
  spans : List (Nat × Nat × Nat)
  deriving DecidableEq, Repr

/-- A field of one register: address, lowest bit, width. -/
structure Fld where
  addr : Nat
  lo : Nat
  w : Nat
  deriving DecidableEq, Repr

/-- Registers of DEV. -/
def rowsDEV0 : List RegRow := [
  ⟨0x20100010, [], [⟨4, 4, .ro, 0x0⟩, ⟨0, 3, .ro, 0x0⟩], []⟩, -- DEV_RESET_CAUSE
  ⟨0x20100000, [], [⟨28, 4, .ro, 0x1⟩, ⟨12, 16, .ro, 0x9512⟩, ⟨1, 11, .ro, 0x4BB⟩, ⟨0, 1, .ro, 0x1⟩], []⟩, -- DEV_ID
  ⟨0x20100004, [], [⟨1, 1, .ro, 0x0⟩, ⟨0, 1, .ro, 0x0⟩], []⟩, -- DEV_STRAP
  ⟨0x20100014, [], [⟨0, 32, .ro, 0x0⟩], []⟩, -- DEV_MAC_LO
  ⟨0x20100018, [], [⟨0, 16, .ro, 0x0⟩], []⟩, -- DEV_MAC_HI
  ⟨0x20100020, [], [⟨16, 16, .ro, 0x8000⟩, ⟨0, 16, .ro, 0x8000⟩], []⟩ -- DEV_TEMP
]

/-- Registers of CFG. -/
def rowsCFG0 : List RegRow := [
  ⟨0x20200000, [], [⟨6, 1, .ro, 0x0⟩, ⟨5, 1, .ro, 0x0⟩, ⟨4, 1, .ro, 0x0⟩, ⟨0, 4, .ro, 0x0⟩], []⟩, -- CFG_STATUS
  ⟨0x20200004, [], [⟨16, 16, .ro, 0x0⟩, ⟨0, 16, .ro, 0x0⟩], []⟩, -- CFG_VINTAGE
  ⟨0x20200008, [], [⟨0, 32, .ro, 0x0⟩], []⟩, -- CFG_FP_LO
  ⟨0x2020000C, [], [⟨0, 32, .ro, 0x0⟩], []⟩, -- CFG_FP_HI
  ⟨0x20200010, [], [⟨0, 32, .ro, 0x0⟩], []⟩, -- CFG_BRINGUP_TIME
  ⟨0x20200020, [], [⟨24, 8, .ro, 0x0⟩, ⟨8, 8, .ro, 0x0⟩, ⟨0, 8, .ro, 0x0⟩], []⟩, -- CFG_SCRUB_STATUS
  ⟨0x20200030, [], [⟨16, 16, .ro, 0x0⟩, ⟨0, 7, .ro, 0x0⟩], []⟩, -- CFG_CENSUS_CFG
  ⟨0x2020003C, [], [⟨16, 16, .ro, 0x0⟩, ⟨0, 16, .ro, 0x0⟩], []⟩, -- CFG_CENSUS_HOLD
  ⟨0x20200034, [], [⟨31, 1, .ro, 0x0⟩, ⟨24, 1, .ro, 0x0⟩, ⟨16, 7, .ro, 0x0⟩, ⟨8, 7, .ro, 0x0⟩, ⟨0, 7, .ro, 0x0⟩], []⟩, -- CFG_CENSUS_STATUS
  ⟨0x20200038, [], [⟨3, 1, .w1c, 0x0⟩, ⟨2, 1, .w1c, 0x0⟩, ⟨1, 1, .w1c, 0x0⟩, ⟨0, 1, .w1c, 0x0⟩], []⟩, -- CFG_EVENT
  ⟨0x20200040, [], [⟨28, 4, .ro, 0x0⟩, ⟨25, 1, .ro, 0x0⟩, ⟨0, 25, .ro, 0x0⟩], []⟩, -- CFG_STAGE_STATUS
  ⟨0x20200044, [], [⟨24, 8, .ro, 0x0⟩, ⟨0, 16, .ro, 0x0⟩], []⟩, -- CFG_STAGE_VINTAGE
  ⟨0x20200048, [], [⟨0, 32, .ro, 0x0⟩], []⟩, -- CFG_STAGE_FP_LO
  ⟨0x2020004C, [], [⟨0, 32, .ro, 0x0⟩], []⟩, -- CFG_STAGE_FP_HI
  ⟨0x20201000, [(0x20, 64)], [⟨0, 32, .ro, 0x0⟩], []⟩, -- CFG_CENSUS_E_MAC_LO
  ⟨0x20201004, [(0x20, 64)], [⟨0, 16, .ro, 0x0⟩, ⟨16, 1, .ro, 0x0⟩, ⟨17, 1, .ro, 0x0⟩, ⟨18, 1, .ro, 0x0⟩], []⟩, -- CFG_CENSUS_E_MAC_HI
  ⟨0x20201008, [(0x20, 64)], [⟨0, 16, .ro, 0x0⟩, ⟨16, 1, .ro, 0x0⟩], []⟩, -- CFG_CENSUS_E_NUMBER
  ⟨0x2020100C, [(0x20, 64)], [⟨0, 32, .ro, 0x0⟩], []⟩, -- CFG_CENSUS_E_FP_LO
  ⟨0x20201010, [(0x20, 64)], [⟨0, 32, .ro, 0x0⟩], []⟩, -- CFG_CENSUS_E_FP_HI
  ⟨0x20201014, [(0x20, 64)], [⟨0, 32, .ro, 0x0⟩], []⟩, -- CFG_CENSUS_E_SEEN
  ⟨0x20201018, [(0x20, 64), (0x4, 2)], [], []⟩ -- reserved words of the census entries (Table 2-12)
]

/-- Registers of TSU, part 1. -/
def rowsTSU0 : List RegRow := [
  ⟨0x20300000, [], [⟨16, 16, .rw, 0x5⟩, ⟨10, 1, .wo, 0x0⟩, ⟨9, 1, .wo, 0x0⟩, ⟨8, 1, .wo, 0x0⟩, ⟨1, 1, .rw, 0x1⟩, ⟨0, 1, .rw, 0x0⟩], []⟩, -- TSU_CTRL
  ⟨0x20300004, [], [⟨8, 1, .ro, 0x0⟩, ⟨5, 1, .ro, 0x0⟩, ⟨4, 1, .ro, 0x0⟩, ⟨0, 3, .ro, 0x0⟩], []⟩, -- TSU_WT_STATUS
  ⟨0x20300008, [], [⟨0, 32, .ro, 0x0⟩], []⟩, -- TSU_WT_RESIDUAL
  ⟨0x2030000C, [], [⟨16, 16, .rw, 0x64⟩, ⟨0, 16, .rw, 0x7D0⟩], []⟩, -- TSU_WT_SLEW
  ⟨0x20300010, [], [⟨0, 32, .rw, 0xC350⟩], []⟩, -- TSU_WT_LIMIT
  ⟨0x20300014, [], [⟨0, 32, .rw, 0x0⟩], []⟩, -- TSU_WT_LOAD_NS
  ⟨0x20300018, [], [⟨0, 32, .rw, 0x0⟩], []⟩, -- TSU_WT_LOAD_S_LO
  ⟨0x2030001C, [], [⟨0, 16, .rw, 0x0⟩], []⟩, -- TSU_WT_LOAD_S_HI
  ⟨0x20300020, [], [⟨0, 9, .w1c, 0x0⟩], []⟩, -- TSU_EVENT
  ⟨0x20300024, [], [⟨0, 16, .ro, 0x0⟩], []⟩, -- TSU_MEDIA_STATUS
  ⟨0x20300100, [(0x20, 2)], [⟨16, 16, .rw, 0x177⟩, ⟨8, 1, .rw, 0x0⟩, ⟨0, 8, .rw, 0x0⟩], [(0, 1, 0x1770000), (1, 2, 0x1770001)]⟩, -- TSU_DC_CTRL
  ⟨0x20300104, [(0x20, 2)], [⟨0, 32, .rw, 0x0⟩], []⟩, -- TSU_DC_RATE
  ⟨0x20300108, [(0x20, 2)], [⟨0, 32, .wo, 0x0⟩], []⟩, -- TSU_DC_STEP_NS
  ⟨0x2030010C, [(0x20, 2)], [⟨0, 16, .wo, 0x0⟩], []⟩, -- TSU_DC_STEP_FRAC
  ⟨0x20300110, [(0x20, 2)], [⟨0, 32, .wo, 0x0⟩], []⟩, -- TSU_DC_STEP_S
  ⟨0x20300114, [(0x20, 2)], [⟨0, 16, .ro, 0xFFFF⟩], []⟩, -- TSU_DC_SYNC_AGE
  ⟨0x20300200, [], [⟨0, 32, .ro, 0x0⟩], []⟩, -- TSU_SNAP_LC_NS
  ⟨0x20300204, [], [⟨0, 32, .ro, 0x0⟩], []⟩, -- TSU_SNAP_LC_S_LO
  ⟨0x20300208, [], [⟨0, 16, .ro, 0x0⟩], []⟩, -- TSU_SNAP_LC_S_HI
  ⟨0x2030020C, [], [⟨0, 32, .ro, 0x0⟩], []⟩, -- TSU_SNAP_DC0_NS
  ⟨0x20300210, [], [⟨0, 32, .ro, 0x0⟩], []⟩, -- TSU_SNAP_DC0_S_LO
  ⟨0x20300214, [], [⟨0, 16, .ro, 0x0⟩], []⟩, -- TSU_SNAP_DC0_S_HI
  ⟨0x20300218, [], [⟨0, 32, .ro, 0x0⟩], []⟩, -- TSU_SNAP_DC1_NS
  ⟨0x2030021C, [], [⟨0, 32, .ro, 0x0⟩], []⟩, -- TSU_SNAP_DC1_S_LO
  ⟨0x20300220, [], [⟨0, 16, .ro, 0x0⟩], []⟩ -- TSU_SNAP_DC1_S_HI
]

/-- Registers of TSU, part 2. -/
def rowsTSU1 : List RegRow := [
  ⟨0x20300224, [], [⟨0, 32, .ro, 0x0⟩], []⟩, -- TSU_SNAP_WT_NS
  ⟨0x20300228, [], [⟨0, 32, .ro, 0x0⟩], []⟩, -- TSU_SNAP_WT_S_LO
  ⟨0x2030022C, [], [⟨0, 16, .ro, 0x0⟩], []⟩, -- TSU_SNAP_WT_S_HI
  ⟨0x20300230, [], [⟨0, 32, .ro, 0x0⟩], []⟩, -- TSU_SNAP_ESI_LO
  ⟨0x20300234, [], [⟨0, 32, .ro, 0x0⟩], []⟩, -- TSU_SNAP_ESI_HI
  ⟨0x20300238, [], [⟨31, 1, .ro, 0x0⟩, ⟨4, 1, .ro, 0x0⟩, ⟨0, 3, .ro, 0x0⟩], []⟩, -- TSU_SNAP_STATE
  ⟨0x20300400, [(0x40, 24)], [⟨0, 20, .rw, 0x0⟩], []⟩, -- TSU_P_RX_LAT
  ⟨0x20300404, [(0x40, 24)], [⟨0, 20, .rw, 0x0⟩], []⟩, -- TSU_P_TX_LAT
  ⟨0x20300408, [(0x40, 24)], [⟨0, 24, .rw, 0x0⟩], []⟩, -- TSU_P_MEAN_DELAY
  ⟨0x2030040C, [(0x40, 24)], [⟨0, 32, .rw, 0x0⟩], []⟩, -- TSU_P_ASYM
  ⟨0x20300410, [(0x40, 24)], [⟨2, 1, .rw, 0x0⟩, ⟨1, 1, .rw, 0x0⟩, ⟨0, 1, .rw, 0x1⟩], []⟩, -- TSU_P_CTRL
  ⟨0x20300414, [(0x40, 24)], [⟨24, 1, .ro, 0x0⟩, ⟨17, 1, .ro, 0x0⟩, ⟨16, 1, .ro, 0x0⟩, ⟨8, 6, .ro, 0x0⟩, ⟨0, 6, .ro, 0x0⟩], []⟩, -- TSU_P_QSTAT
  ⟨0x20300418, [(0x40, 24)], [⟨0, 32, .ro, 0x0⟩], []⟩, -- TSU_P_IQ_LOST
  ⟨0x2030041C, [(0x40, 24)], [⟨0, 32, .ro, 0x0⟩], []⟩, -- TSU_P_EQ_LOST
  ⟨0x20300420, [(0x40, 24)], [⟨0, 32, .ro, 0x0⟩], []⟩, -- TSU_P_IQ_HEAD0
  ⟨0x20300424, [(0x40, 24)], [⟨0, 32, .ro, 0x0⟩], []⟩, -- TSU_P_IQ_HEAD1
  ⟨0x20300428, [(0x40, 24)], [⟨0, 32, .ro, 0x0⟩], []⟩, -- TSU_P_IQ_HEAD2
  ⟨0x2030042C, [(0x40, 24)], [⟨0, 32, .ro, 0x0⟩], []⟩, -- TSU_P_IQ_HEAD3
  ⟨0x20300430, [(0x40, 24)], [⟨0, 32, .ro, 0x0⟩], []⟩, -- TSU_P_EQ_HEAD0
  ⟨0x20300434, [(0x40, 24)], [⟨0, 32, .ro, 0x0⟩], []⟩, -- TSU_P_EQ_HEAD1
  ⟨0x20300438, [(0x40, 24)], [⟨0, 32, .ro, 0x0⟩], []⟩, -- TSU_P_EQ_HEAD2
  ⟨0x2030043C, [(0x40, 24)], [⟨0, 32, .ro, 0x0⟩], []⟩, -- TSU_P_EQ_HEAD3
  ⟨0x20300A00, [(0x20, 8)], [⟨16, 16, .rw, 0x0⟩, ⟨5, 1, .ro, 0x0⟩, ⟨4, 1, .rw, 0x0⟩, ⟨2, 2, .rw, 0x0⟩, ⟨0, 2, .rw, 0x0⟩], []⟩, -- TSU_PLS_CTRL
  ⟨0x20300A04, [(0x20, 8)], [⟨0, 32, .rw, 0x0⟩], []⟩, -- TSU_PLS_START_NS
  ⟨0x20300A08, [(0x20, 8)], [⟨0, 32, .rw, 0x0⟩], []⟩ -- TSU_PLS_START_S_LO
]

/-- Registers of TSU, part 3. -/
def rowsTSU2 : List RegRow := [
  ⟨0x20300A0C, [(0x20, 8)], [⟨0, 16, .rw, 0x0⟩], []⟩, -- TSU_PLS_START_S_HI
  ⟨0x20300A10, [(0x20, 8)], [⟨0, 32, .rw, 0x0⟩], []⟩, -- TSU_PLS_PERIOD
  ⟨0x20300A14, [(0x20, 8)], [⟨0, 32, .rw, 0x0⟩], []⟩, -- TSU_PLS_WIDTH
  ⟨0x20300B00, [(0x20, 4)], [⟨8, 8, .rw, 0x0⟩, ⟨0, 2, .rw, 0x0⟩], []⟩, -- TSU_CAP_CTRL
  ⟨0x20300B04, [(0x20, 4)], [⟨0, 32, .ro, 0x0⟩], []⟩, -- TSU_CAP_HEAD0
  ⟨0x20300B08, [(0x20, 4)], [⟨0, 32, .ro, 0x0⟩], []⟩, -- TSU_CAP_HEAD1
  ⟨0x20300B0C, [(0x20, 4)], [⟨0, 32, .ro, 0x0⟩], []⟩, -- TSU_CAP_HEAD2
  ⟨0x20300B10, [(0x20, 4)], [⟨0, 32, .ro, 0x0⟩], []⟩, -- TSU_CAP_HEAD3
  ⟨0x20300B14, [(0x20, 4)], [⟨0, 32, .ro, 0x0⟩], []⟩, -- TSU_CAP_LOST
  ⟨0x20300C00, [], [⟨0, 16, .rw, 0x64⟩], []⟩, -- TSU_SKEW_CTRL
  ⟨0x20300C04, [], [⟨0, 32, .ro, 0x0⟩], []⟩, -- TSU_SKEW_HEAD0
  ⟨0x20300C08, [], [⟨0, 32, .ro, 0x0⟩], []⟩, -- TSU_SKEW_HEAD1
  ⟨0x20300C0C, [], [⟨0, 32, .ro, 0x0⟩], []⟩, -- TSU_SKEW_HEAD2
  ⟨0x20300C10, [], [⟨0, 32, .ro, 0x0⟩], []⟩, -- TSU_SKEW_HEAD3
  ⟨0x20300C14, [], [⟨0, 32, .ro, 0x0⟩], []⟩ -- TSU_SKEW_LOST
]

/-- Registers of MAC. -/
def rowsMAC0 : List RegRow := [
  ⟨0x20400000, [(0x1000, 24)], [⟨24, 1, .rw, 0x0⟩, ⟨22, 2, .rw, 0x0⟩, ⟨21, 1, .rw, 0x0⟩, ⟨20, 1, .rw, 0x0⟩, ⟨19, 1, .rw, 0x0⟩, ⟨18, 1, .rw, 0x0⟩, ⟨17, 1, .rw, 0x1⟩, ⟨16, 1, .rw, 0x0⟩, ⟨15, 1, .rw, 0x0⟩, ⟨14, 1, .rw, 0x0⟩, ⟨13, 1, .rw, 0x0⟩, ⟨12, 1, .rw, 0x0⟩, ⟨11, 1, .rw, 0x1⟩, ⟨8, 3, .rw, 0x2⟩, ⟨4, 4, .rw, 0x0⟩, ⟨0, 1, .rw, 0x0⟩], [(0, 4, 0x20A00), (4, 12, 0x20A50), (12, 16, 0x20A80), (16, 24, 0xA90)]⟩, -- MAC_CTRL
  ⟨0x20400004, [(0x1000, 24)], [⟨22, 2, .ro, 0x0⟩, ⟨21, 1, .ro, 0x0⟩, ⟨20, 1, .ro, 0x0⟩, ⟨17, 3, .ro, 0x0⟩, ⟨16, 1, .ro, 0x0⟩, ⟨8, 8, .ro, 0x0⟩, ⟨5, 1, .ro, 0x0⟩, ⟨4, 1, .ro, 0x0⟩, ⟨1, 3, .ro, 0x0⟩, ⟨0, 1, .ro, 0x0⟩], []⟩, -- MAC_STATUS
  ⟨0x20400008, [(0x1000, 24)], [⟨0, 14, .rw, 0x5F2⟩], []⟩, -- MAC_MAXFRAME
  ⟨0x2040000C, [(0x1000, 24)], [⟨18, 2, .rw, 0x0⟩, ⟨16, 2, .rw, 0x0⟩, ⟨12, 3, .rw, 0x0⟩, ⟨0, 12, .rw, 0x1⟩], []⟩, -- MAC_TAG
  ⟨0x20400010, [(0x1000, 24)], [⟨16, 16, .rw, 0x8000⟩, ⟨0, 16, .rw, 0xFFFF⟩], []⟩, -- MAC_PAUSE
  ⟨0x20400014, [(0x1000, 24)], [⟨16, 16, .rw, 0x3E8⟩, ⟨0, 16, .rw, 0x64⟩], []⟩, -- MAC_PAUSE_WD
  ⟨0x20400018, [(0x1000, 16)], [], []⟩, -- MAC_PLCA of P0 to P15, reserved
  ⟨0x20410018, [(0x1000, 8)], [⟨24, 8, .rw, 0x0⟩, ⟨16, 8, .rw, 0x20⟩, ⟨8, 5, .rw, 0x8⟩, ⟨4, 4, .rw, 0x1⟩, ⟨0, 1, .rw, 0x1⟩], []⟩, -- MAC_PLCA
  ⟨0x2040001C, [(0x1000, 16)], [], []⟩, -- MAC_PLCA_BURST of P0 to P15, reserved
  ⟨0x2041001C, [(0x1000, 8)], [⟨0, 8, .rw, 0x80⟩], []⟩, -- MAC_PLCA_BURST
  ⟨0x20400020, [(0x1000, 24)], [⟨0, 32, .rw, 0x0⟩], []⟩, -- MAC_GHASH0
  ⟨0x20400024, [(0x1000, 24)], [⟨0, 32, .rw, 0x0⟩], []⟩, -- MAC_GHASH1
  ⟨0x20400028, [(0x1000, 24)], [⟨0, 32, .rw, 0x0⟩], []⟩, -- MAC_GHASH2
  ⟨0x2040002C, [(0x1000, 24)], [⟨0, 32, .rw, 0x0⟩], []⟩, -- MAC_GHASH3
  ⟨0x20400030, [(0x1000, 24)], [⟨0, 32, .rw, 0x0⟩], []⟩, -- MAC_GHASH4
  ⟨0x20400034, [(0x1000, 24)], [⟨0, 32, .rw, 0x0⟩], []⟩, -- MAC_GHASH5
  ⟨0x20400038, [(0x1000, 24)], [⟨0, 32, .rw, 0x0⟩], []⟩, -- MAC_GHASH6
  ⟨0x2040003C, [(0x1000, 24)], [⟨0, 32, .rw, 0x0⟩], []⟩, -- MAC_GHASH7
  ⟨0x20400040, [(0x1000, 12)], [⟨11, 5, .rw, 0x0⟩, ⟨5, 6, .rw, 0x3F⟩, ⟨0, 5, .rw, 0x0⟩], []⟩, -- MAC_SERDES
  ⟨0x2040C040, [(0x1000, 12)], [], []⟩, -- MAC_SERDES of P12 to P23, reserved
  ⟨0x20400048, [(0x1000, 24)], [⟨0, 7, .w1c, 0x0⟩], []⟩, -- MAC_EVENT
  ⟨0x20420000, [], [⟨0, 16, .rw, 0x88A8⟩], []⟩, -- MAC_S_TPID
  ⟨0x20420004, [], [⟨24, 8, .rw, 0x63⟩, ⟨15, 1, .ro, 0x0⟩, ⟨14, 1, .wo, 0x0⟩, ⟨13, 1, .rw, 0x0⟩, ⟨11, 2, .rw, 0x0⟩, ⟨6, 5, .rw, 0x0⟩, ⟨0, 5, .rw, 0x0⟩], []⟩, -- MAC_MDIO_CMD
  ⟨0x20420008, [], [⟨0, 16, .rw, 0x0⟩], []⟩, -- MAC_MDIO_DATA
  ⟨0x2042000C, [], [⟨0, 24, .ro, 0x0⟩], []⟩, -- MAC_LINK_SUMMARY
  ⟨0x20400100, [(0x1000, 24), (0x4, 30)], [⟨0, 32, .ro, 0x0⟩], []⟩ -- counters MAC_RX_FRAMES to MAC_COLLISIONS
]

/-- Registers of FWD, part 1. -/
def rowsFWD0 : List RegRow := [
  ⟨0x20500000, [], [⟨0, 32, .rw, 0x0⟩], []⟩, -- FWD_STAGE0
  ⟨0x20500004, [], [⟨0, 32, .rw, 0x0⟩], []⟩, -- FWD_STAGE1
  ⟨0x20500008, [], [⟨0, 32, .rw, 0x0⟩], []⟩, -- FWD_STAGE2
  ⟨0x2050000C, [], [⟨0, 32, .rw, 0x0⟩], []⟩, -- FWD_STAGE3
  ⟨0x20500010, [], [⟨0, 32, .rw, 0x0⟩], []⟩, -- FWD_STAGE4
  ⟨0x20500014, [], [⟨0, 32, .rw, 0x0⟩], []⟩, -- FWD_STAGE5
  ⟨0x20500018, [], [⟨0, 32, .rw, 0x0⟩], []⟩, -- FWD_STAGE6
  ⟨0x2050001C, [], [⟨0, 32, .rw, 0x0⟩], []⟩, -- FWD_STAGE7
  ⟨0x20500020, [], [⟨28, 4, .wo, 0x0⟩, ⟨26, 2, .wo, 0x0⟩, ⟨0, 12, .wo, 0x0⟩], []⟩, -- FWD_COMMIT
  ⟨0x20500024, [], [⟨16, 16, .ro, 0x0⟩, ⟨2, 1, .ro, 0x0⟩, ⟨0, 2, .ro, 0x0⟩], []⟩, -- FWD_COMMIT_STATUS
  ⟨0x20500030, [], [⟨0, 32, .rw, 0xFFFFFFFF⟩], []⟩, -- FWD_SEED_CUR0
  ⟨0x20500034, [], [⟨0, 32, .rw, 0x5A5A5A5A⟩], []⟩, -- FWD_SEED_CUR1
  ⟨0x20500038, [], [⟨0, 32, .rw, 0x0⟩], []⟩, -- FWD_SEED_NEXT0
  ⟨0x2050003C, [], [⟨0, 32, .rw, 0x0⟩], []⟩, -- FWD_SEED_NEXT1
  ⟨0x20500040, [], [⟨16, 16, .ro, 0x0⟩, ⟨1, 2, .ro, 0x0⟩, ⟨0, 1, .wo, 0x0⟩], []⟩, -- FWD_MIGRATE
  ⟨0x20500044, [], [⟨0, 32, .ro, 0x0⟩], []⟩, -- FWD_REHASH_KEY_LO
  ⟨0x20500048, [], [⟨0, 16, .ro, 0x0⟩, ⟨16, 6, .ro, 0x0⟩, ⟨24, 4, .ro, 0x0⟩], []⟩, -- FWD_REHASH_KEY_HI
  ⟨0x2050004C, [], [⟨0, 16, .rw, 0x12C⟩], []⟩, -- FWD_AGE
  ⟨0x20500050, [], [⟨31, 1, .wo, 0x0⟩, ⟨30, 1, .ro, 0x0⟩, ⟨28, 2, .rw, 0x0⟩, ⟨8, 5, .rw, 0x0⟩, ⟨0, 6, .rw, 0x0⟩], []⟩, -- FWD_FLUSH
  ⟨0x20500054, [], [⟨3, 1, .rw, 0x0⟩, ⟨2, 1, .rw, 0x1⟩, ⟨1, 1, .rw, 0x0⟩, ⟨0, 1, .rw, 0x0⟩], []⟩, -- FWD_L3_CTRL
  ⟨0x20500058, [], [⟨0, 5, .rw, 0x0⟩], []⟩, -- FWD_TCAM_PART
  ⟨0x2050005C, [], [⟨2, 2, .rw, 0x2⟩, ⟨0, 2, .rw, 0x3⟩], []⟩, -- FWD_TRAP
  ⟨0x20500060, [], [⟨0, 6, .w1c, 0x0⟩], []⟩, -- FWD_EVENT
  ⟨0x20500100, [(0x4, 28)], [⟨4, 1, .rw, 0x0⟩, ⟨3, 1, .rw, 0x1⟩, ⟨2, 1, .rw, 0x0⟩, ⟨1, 1, .rw, 0x0⟩, ⟨0, 1, .rw, 0x1⟩], [(0, 24, 0x9), (24, 28, 0x8)]⟩, -- FWD_PORT_CTRL
  ⟨0x20500180, [(0x4, 28)], [⟨0, 24, .rw, 0xFAC688⟩], []⟩ -- FWD_PORT_PCPMAP
]

/-- Registers of FWD, part 2. -/
def rowsFWD1 : List RegRow := [
  ⟨0x20500200, [(0x8, 16)], [⟨0, 32, .rw, 0x0⟩], []⟩, -- FWD_RMAC_LO
  ⟨0x20500204, [(0x8, 16)], [⟨0, 16, .rw, 0x0⟩], []⟩, -- FWD_RMAC_HI
  ⟨0x20500400, [(0x4, 32)], [⟨0, 32, .ro, 0x0⟩], []⟩ -- counters FWD_VLAN_UNKNOWN to FWD_TRAP_DROP
]

/-- Registers of SCT, part 1. -/
def rowsSCT0 : List RegRow := [
  ⟨0x20600000, [], [⟨0, 32, .rw, 0x0⟩], []⟩, -- SCT_STAGE0
  ⟨0x20600004, [], [⟨0, 32, .rw, 0x0⟩], []⟩, -- SCT_STAGE1
  ⟨0x20600008, [], [⟨0, 32, .rw, 0x0⟩], []⟩, -- SCT_STAGE2
  ⟨0x2060000C, [], [⟨0, 32, .rw, 0x0⟩], []⟩, -- SCT_STAGE3
  ⟨0x20600010, [], [⟨0, 32, .rw, 0x0⟩], []⟩, -- SCT_STAGE4
  ⟨0x20600014, [], [⟨0, 32, .rw, 0x0⟩], []⟩, -- SCT_STAGE5
  ⟨0x20600018, [], [⟨0, 32, .rw, 0x0⟩], []⟩, -- SCT_STAGE6
  ⟨0x2060001C, [], [⟨0, 32, .rw, 0x0⟩], []⟩, -- SCT_STAGE7
  ⟨0x20600020, [], [⟨31, 1, .wo, 0x0⟩, ⟨0, 9, .wo, 0x0⟩], []⟩, -- SCT_COMMIT
  ⟨0x20600030, [], [⟨0, 3, .w1c, 0x0⟩], []⟩, -- SCT_EVENT
  ⟨0x20600040, [], [⟨0, 9, .rw, 0x0⟩], []⟩, -- SCT_STATE_SEL
  ⟨0x20600044, [], [⟨0, 32, .ro, 0x0⟩], []⟩, -- SCT_STATE0
  ⟨0x20600048, [], [⟨0, 32, .ro, 0x0⟩], []⟩, -- SCT_STATE1
  ⟨0x2060004C, [], [⟨16, 16, .ro, 0x0⟩, ⟨0, 16, .ro, 0x0⟩], []⟩, -- SCT_STATE2
  ⟨0x20600050, [], [⟨0, 32, .ro, 0x0⟩], []⟩, -- SCT_STATE3
  ⟨0x20600054, [], [⟨1, 1, .ro, 0x0⟩, ⟨0, 1, .ro, 0x0⟩], []⟩, -- SCT_STATE4
  ⟨0x20600100, [(0x4, 32)], [⟨8, 8, .rw, 0x0⟩, ⟨2, 1, .w1c, 0x0⟩, ⟨1, 1, .ro, 0x1⟩, ⟨0, 1, .rw, 0x0⟩], []⟩, -- SCT_SG_CTRL
  ⟨0x20600200, [(0x20, 16)], [⟨31, 1, .wo, 0x0⟩, ⟨0, 24, .rw, 0x0⟩], []⟩, -- SCT_LAT_THRESH
  ⟨0x20600204, [(0x20, 16)], [⟨0, 32, .ro, 0xFFFFFFFF⟩], []⟩, -- SCT_LAT_MIN
  ⟨0x20600208, [(0x20, 16)], [⟨0, 32, .ro, 0x0⟩], []⟩, -- SCT_LAT_MAX
  ⟨0x2060020C, [(0x20, 16)], [⟨0, 32, .ro, 0x0⟩], []⟩, -- SCT_LAT_SUM_LO
  ⟨0x20600210, [(0x20, 16)], [⟨0, 32, .ro, 0x0⟩], []⟩, -- SCT_LAT_SUM_HI
  ⟨0x20600214, [(0x20, 16)], [⟨0, 32, .ro, 0x0⟩], []⟩, -- SCT_LAT_COUNT
  ⟨0x20600218, [(0x20, 16)], [⟨0, 32, .ro, 0x0⟩], []⟩, -- SCT_LAT_OVER
  ⟨0x20610000, [(0x40, 512), (0x4, 10)], [⟨0, 32, .ro, 0x0⟩], []⟩ -- counters SCT_C_FRAMES to SCT_C_ROGUE
]

/-- Registers of SCT, part 2. -/
def rowsSCT1 : List RegRow := [
  ⟨0x20600400, [(0x4, 5)], [⟨0, 32, .ro, 0x0⟩], []⟩, -- counters SCT_INVALID_SC to SCT_ACTION_INVALID
  ⟨0x20610028, [(0x40, 512), (0x4, 6)], [], []⟩ -- reserved words of the channel counters (Table 6-6)
]

/-- Registers of BUF, part 1. -/
def rowsBUF0 : List RegRow := [
  ⟨0x20700000, [], [⟨0, 32, .rw, 0x0⟩], []⟩, -- BUF_STAGE0
  ⟨0x20700004, [], [⟨0, 32, .rw, 0x0⟩], []⟩, -- BUF_STAGE1
  ⟨0x20700008, [], [⟨0, 32, .rw, 0x0⟩], []⟩, -- BUF_STAGE2
  ⟨0x2070000C, [], [⟨0, 32, .rw, 0x0⟩], []⟩, -- BUF_STAGE3
  ⟨0x20700010, [], [⟨0, 32, .rw, 0x0⟩], []⟩, -- BUF_STAGE4
  ⟨0x20700014, [], [⟨0, 32, .rw, 0x0⟩], []⟩, -- BUF_STAGE5
  ⟨0x20700018, [], [⟨0, 32, .rw, 0x0⟩], []⟩, -- BUF_STAGE6
  ⟨0x2070001C, [], [⟨0, 32, .rw, 0x0⟩], []⟩, -- BUF_STAGE7
  ⟨0x20700020, [], [⟨0, 5, .wo, 0x0⟩], []⟩, -- BUF_COMMIT
  ⟨0x20700030, [], [⟨0, 17, .ro, 0x10000⟩], []⟩, -- BUF_FREE
  ⟨0x20700034, [], [⟨0, 16, .ro, 0x8000⟩], []⟩, -- BUF_PKT_FREE
  ⟨0x20700038, [], [⟨0, 17, .ro, 0x10000⟩], []⟩, -- BUF_COPY_FREE
  ⟨0x2070003C, [], [⟨0, 17, .rw, 0x0⟩], []⟩, -- BUF_RESERVE
  ⟨0x20700040, [], [⟨31, 1, .rw, 0x1⟩, ⟨0, 16, .rw, 0xA⟩], []⟩, -- BUF_AUDIT
  ⟨0x20700044, [], [⟨0, 17, .ro, 0x0⟩], []⟩, -- BUF_AUDIT_STATUS
  ⟨0x20700048, [], [⟨31, 1, .rw, 0x1⟩, ⟨0, 16, .rw, 0x32⟩], []⟩, -- BUF_STUCK
  ⟨0x2070004C, [], [⟨8, 1, .ro, 0x0⟩, ⟨0, 8, .ro, 0x0⟩], []⟩, -- BUF_STUCK_Q
  ⟨0x20700050, [], [⟨31, 1, .wo, 0x0⟩, ⟨30, 1, .ro, 0x0⟩, ⟨0, 8, .rw, 0x0⟩], []⟩, -- BUF_QFLUSH
  ⟨0x20700060, [], [⟨0, 6, .w1c, 0x0⟩], []⟩, -- BUF_EVENT
  ⟨0x20700100, [(0x4, 24)], [⟨0, 1, .rw, 0x1⟩], []⟩, -- BUF_PORT_CT
  ⟨0x20700180, [(0x8, 16)], [⟨16, 16, .rw, 0x0⟩, ⟨0, 16, .rw, 0x0⟩], []⟩, -- BUF_PORT_XOFF
  ⟨0x20700184, [(0x8, 16)], [⟨0, 17, .ro, 0x0⟩], []⟩, -- BUF_PORT_ING
  ⟨0x20701000, [(0x10, 224)], [⟨16, 16, .rw, 0x0⟩, ⟨0, 16, .rw, 0x0⟩], []⟩, -- BUF_Q_CFG
  ⟨0x20701004, [(0x10, 224)], [⟨0, 5, .rw, 0x0⟩], []⟩, -- BUF_Q_PROF
  ⟨0x20701008, [(0x10, 224)], [⟨0, 17, .ro, 0x0⟩], []⟩ -- BUF_Q_DEPTH
]

/-- Registers of BUF, part 2. -/
def rowsBUF1 : List RegRow := [
  ⟨0x2070100C, [(0x10, 224)], [⟨0, 25, .ro, 0x0⟩], []⟩, -- BUF_Q_AVG
  ⟨0x20710000, [(0x20, 224), (0x4, 6)], [⟨0, 32, .ro, 0x0⟩], []⟩, -- counters BUF_Q_ENQUEUED to BUF_Q_DEQUEUED
  ⟨0x20700400, [(0x4, 10)], [⟨0, 32, .ro, 0x0⟩], []⟩, -- counters BUF_NO_CELL to BUF_PAUSE_REQUESTS
  ⟨0x20710018, [(0x20, 224), (0x4, 2)], [], []⟩ -- reserved words of the queue counters (Table 7-4)
]

/-- Registers of EGS, part 1. -/
def rowsEGS0 : List RegRow := [
  ⟨0x20800000, [], [⟨0, 32, .rw, 0x0⟩], []⟩, -- EGS_STAGE0
  ⟨0x20800004, [], [⟨0, 32, .rw, 0x0⟩], []⟩, -- EGS_STAGE1
  ⟨0x20800008, [], [⟨0, 32, .rw, 0x0⟩], []⟩, -- EGS_STAGE2
  ⟨0x2080000C, [], [⟨0, 32, .rw, 0x0⟩], []⟩, -- EGS_STAGE3
  ⟨0x20800010, [], [⟨0, 32, .rw, 0x0⟩], []⟩, -- EGS_STAGE4
  ⟨0x20800014, [], [⟨0, 32, .rw, 0x0⟩], []⟩, -- EGS_STAGE5
  ⟨0x20800018, [], [⟨0, 32, .rw, 0x0⟩], []⟩, -- EGS_STAGE6
  ⟨0x2080001C, [], [⟨0, 32, .rw, 0x0⟩], []⟩, -- EGS_STAGE7
  ⟨0x20800020, [], [⟨0, 13, .wo, 0x0⟩], []⟩, -- EGS_COMMIT
  ⟨0x20800024, [], [⟨0, 2, .ro, 0x0⟩], []⟩, -- EGS_COMMIT_STATUS
  ⟨0x20800030, [], [⟨0, 4, .w1c, 0x0⟩], []⟩, -- EGS_EVENT
  ⟨0x20800040, [], [⟨0, 8, .rw, 0x0⟩], []⟩, -- EGS_LIST_SEL
  ⟨0x20800044, [], [⟨31, 1, .ro, 0x0⟩, ⟨30, 1, .ro, 0x0⟩, ⟨16, 8, .ro, 0x0⟩, ⟨12, 1, .ro, 0x0⟩, ⟨0, 12, .ro, 0x0⟩], []⟩, -- EGS_LIST_STATUS
  ⟨0x20800048, [], [⟨0, 32, .ro, 0x0⟩], []⟩, -- EGS_LIST_CHANGE_NS
  ⟨0x2080004C, [], [⟨0, 32, .ro, 0x0⟩], []⟩, -- EGS_LIST_CHANGE_S
  ⟨0x20800050, [], [⟨31, 1, .wo, 0x0⟩, ⟨0, 8, .wo, 0x0⟩], []⟩, -- EGS_MAXDLY_CLEAR
  ⟨0x20800100, [(0x40, 24)], [⟨31, 1, .rw, 0x0⟩, ⟨0, 8, .rw, 0x0⟩], []⟩, -- EGS_P_GATE
  ⟨0x20800700, [(0x40, 4)], [⟨0, 8, .rw, 0x0⟩], []⟩, -- EGS_P_GATE of P24 to P27, EN reserved
  ⟨0x20800104, [(0x40, 16)], [⟨0, 8, .rw, 0x0⟩], []⟩, -- EGS_P_PREEMPT
  ⟨0x20800504, [(0x40, 12)], [], []⟩, -- EGS_P_PREEMPT of P16 to P27, reserved (R348)
  ⟨0x20800108, [(0x40, 28)], [⟨0, 20, .ro, 0x0⟩], []⟩, -- EGS_P_LEAD
  ⟨0x2080010C, [(0x40, 16)], [⟨31, 1, .rw, 0x1⟩, ⟨0, 20, .rw, 0x0⟩], []⟩, -- EGS_P_LEAD_CFG
  ⟨0x2080050C, [(0x40, 12)], [⟨0, 20, .rw, 0x0⟩], []⟩, -- EGS_P_LEAD_CFG of P16 to P27, TRIM_EN reserved (R356)
  ⟨0x20800110, [(0x40, 16)], [], []⟩, -- EGS_P_T1S_WAIT of P0 to P15, reserved
  ⟨0x20800510, [(0x40, 8)], [⟨0, 24, .rw, 0x0⟩], []⟩, -- EGS_P_T1S_WAIT
  ⟨0x20800710, [(0x40, 4)], [], []⟩, -- EGS_P_T1S_WAIT of P24 to P27, reserved
  ⟨0x20800114, [(0x40, 28)], [⟨0, 32, .ro, 0x0⟩], []⟩, -- EGS_P_LEAD_ERR
  ⟨0x20800118, [(0x40, 28)], [⟨0, 8, .ro, 0xFF⟩], []⟩, -- EGS_P_GSTATE
  ⟨0x2080011C, [(0x40, 28)], [⟨0, 32, .ro, 0x0⟩], []⟩, -- EGS_P_LEAD_SAMPLES
  ⟨0x20801000, [(0x10, 224)], [⟨31, 1, .rw, 0x0⟩, ⟨0, 24, .rw, 0x0⟩], []⟩ -- EGS_Q_SHAPER
]

/-- Registers of EGS, part 2. -/
def rowsEGS1 : List RegRow := [
  ⟨0x20801004, [(0x10, 224)], [⟨16, 14, .rw, 0x0⟩, ⟨0, 16, .rw, 0x0⟩], []⟩, -- EGS_Q_BURST
  ⟨0x20801008, [(0x10, 224)], [⟨0, 32, .ro, 0x0⟩], []⟩, -- EGS_Q_CREDIT
  ⟨0x2080100C, [(0x10, 224)], [⟨0, 32, .ro, 0x0⟩], []⟩, -- EGS_Q_MAXDLY
  ⟨0x20803000, [(0x100, 8)], [⟨31, 1, .rw, 0x0⟩, ⟨30, 1, .wo, 0x0⟩, ⟨16, 8, .rw, 0x0⟩, ⟨0, 16, .rw, 0x0⟩], []⟩, -- EGS_HM_CFG
  ⟨0x20803010, [(0x100, 8), (0x4, 16)], [⟨0, 32, .ro, 0x0⟩], []⟩, -- EGS_HM_DLY_BIN
  ⟨0x20803050, [(0x100, 8), (0x4, 16)], [⟨0, 32, .ro, 0x0⟩], []⟩, -- EGS_HM_DEP_BIN
  ⟨0x20803090, [(0x100, 8)], [⟨0, 32, .ro, 0x0⟩], []⟩, -- EGS_HM_DLY_MAX
  ⟨0x20803094, [(0x100, 8)], [⟨0, 17, .ro, 0x0⟩], []⟩, -- EGS_HM_DEP_MAX
  ⟨0x20810000, [(0x10, 224), (0x4, 4)], [⟨0, 32, .ro, 0x0⟩], []⟩ -- counters EGS_Q_NEVER_FITS to EGS_Q_HOLD_PREEMPTS
]

/-- Registers of AUD, part 1. -/
def rowsAUD0 : List RegRow := [
  ⟨0x20900000, [], [⟨0, 32, .rw, 0x0⟩], []⟩, -- AUD_STAGE0
  ⟨0x20900004, [], [⟨0, 32, .rw, 0x0⟩], []⟩, -- AUD_STAGE1
  ⟨0x20900008, [], [⟨0, 32, .rw, 0x0⟩], []⟩, -- AUD_STAGE2
  ⟨0x2090000C, [], [⟨0, 32, .rw, 0x0⟩], []⟩, -- AUD_STAGE3
  ⟨0x20900010, [], [⟨0, 32, .rw, 0x0⟩], []⟩, -- AUD_STAGE4
  ⟨0x20900014, [], [⟨0, 32, .rw, 0x0⟩], []⟩, -- AUD_STAGE5
  ⟨0x20900018, [], [⟨0, 32, .rw, 0x0⟩], []⟩, -- AUD_STAGE6
  ⟨0x2090001C, [], [⟨0, 32, .rw, 0x0⟩], []⟩, -- AUD_STAGE7
  ⟨0x20900020, [], [⟨0, 13, .wo, 0x0⟩], []⟩, -- AUD_COMMIT
  ⟨0x20900024, [], [⟨0, 32, .rw, 0x0⟩], []⟩, -- AUD_CHG_ESI_LO
  ⟨0x20900028, [], [⟨0, 32, .rw, 0x0⟩], []⟩, -- AUD_CHG_ESI_HI
  ⟨0x2090002C, [], [⟨28, 4, .wo, 0x0⟩, ⟨0, 13, .wo, 0x0⟩], []⟩, -- AUD_CHG_CMD
  ⟨0x20900030, [], [⟨16, 2, .ro, 0x0⟩, ⟨0, 9, .ro, 0x0⟩], []⟩, -- AUD_CHG_STATUS
  ⟨0x20900040, [], [⟨1, 1, .rw, 0x1⟩, ⟨0, 1, .rw, 0x1⟩], []⟩, -- AUD_CTRL
  ⟨0x20900044, [], [⟨31, 1, .rw, 0x0⟩, ⟨16, 8, .ro, 0x0⟩, ⟨8, 8, .rw, 0x0⟩, ⟨0, 8, .rw, 0x0⟩], []⟩, -- AUD_LOCAL
  ⟨0x20900048, [], [⟨0, 16, .rw, 0x0⟩], []⟩, -- AUD_MARGIN_FLOOR
  ⟨0x2090004C, [], [⟨0, 16, .rw, 0x64⟩], []⟩, -- AUD_METER_PERIOD
  ⟨0x20900050, [], [⟨0, 8, .w1c, 0x0⟩], []⟩, -- AUD_EVENT
  ⟨0x20900054, [], [⟨1, 1, .ro, 0x0⟩, ⟨0, 1, .ro, 0x0⟩], []⟩, -- AUD_STATUS
  ⟨0x20900400, [(0x20, 64)], [⟨31, 1, .wo, 0x0⟩, ⟨30, 1, .ro, 0x0⟩, ⟨29, 1, .rw, 0x0⟩, ⟨28, 1, .rw, 0x0⟩, ⟨24, 2, .rw, 0x0⟩, ⟨16, 4, .rw, 0x0⟩, ⟨0, 8, .rw, 0x0⟩], []⟩, -- AUD_L_CFG
  ⟨0x20900404, [(0x20, 64)], [⟨0, 32, .rw, 0x0⟩], []⟩, -- AUD_L_SID_LO
  ⟨0x20900408, [(0x20, 64)], [⟨0, 32, .rw, 0x0⟩], []⟩, -- AUD_L_SID_HI
  ⟨0x2090040C, [(0x20, 64)], [⟨0, 32, .ro, 0x7FFFFFFF⟩], []⟩, -- AUD_L_MARGIN_MIN
  ⟨0x20901000, [(0x20, 64), (0x4, 8)], [⟨0, 32, .ro, 0x0⟩], []⟩, -- AUD_L_BIN
  ⟨0x20902000, [(0x20, 64)], [⟨31, 1, .rw, 0x0⟩, ⟨30, 1, .ro, 0x0⟩, ⟨29, 1, .ro, 0x0⟩, ⟨24, 2, .rw, 0x0⟩, ⟨20, 1, .rw, 0x0⟩, ⟨16, 4, .rw, 0x0⟩, ⟨8, 8, .rw, 0x0⟩, ⟨0, 8, .rw, 0x0⟩], []⟩ -- AUD_T_CFG
]

/-- Registers of AUD, part 2. -/
def rowsAUD1 : List RegRow := [
  ⟨0x20902004, [(0x20, 64)], [⟨0, 32, .rw, 0x0⟩], []⟩, -- AUD_T_DA_LO
  ⟨0x20902008, [(0x20, 64)], [⟨29, 3, .rw, 0x0⟩, ⟨16, 12, .rw, 0x0⟩, ⟨0, 16, .rw, 0x0⟩], []⟩, -- AUD_T_DA_HI
  ⟨0x2090200C, [(0x20, 64)], [⟨0, 32, .rw, 0x0⟩], []⟩, -- AUD_T_SA_LO
  ⟨0x20902010, [(0x20, 64)], [⟨0, 16, .rw, 0x0⟩], []⟩, -- AUD_T_SA_HI
  ⟨0x20902014, [(0x20, 64)], [⟨0, 32, .rw, 0x0⟩], []⟩, -- AUD_T_SID_LO
  ⟨0x20902018, [(0x20, 64)], [⟨0, 32, .rw, 0x0⟩], []⟩, -- AUD_T_SID_HI
  ⟨0x20902800, [(0x10, 4)], [⟨24, 2, .rw, 0x0⟩, ⟨20, 2, .rw, 0x1⟩, ⟨19, 1, .rw, 0x0⟩, ⟨18, 1, .rw, 0x0⟩, ⟨17, 1, .rw, 0x0⟩, ⟨8, 3, .rw, 0x0⟩, ⟨0, 5, .rw, 0x0⟩], []⟩, -- AUD_TDM_CFG
  ⟨0x20902804, [(0x10, 4)], [⟨8, 6, .rw, 0x0⟩, ⟨0, 6, .rw, 0x0⟩], []⟩, -- AUD_TDM_MAP
  ⟨0x20902808, [(0x10, 4)], [⟨1, 1, .ro, 0x0⟩, ⟨0, 1, .ro, 0x0⟩], []⟩, -- AUD_TDM_STATUS
  ⟨0x20902900, [(0x40, 8), (0x10, 4)], [⟨0, 32, .rw, 0x0⟩], []⟩, -- AUD_TG_V_INC
  ⟨0x20902904, [(0x40, 8), (0x10, 4)], [⟨0, 16, .rw, 0x8000⟩], []⟩, -- AUD_TG_V_LEVEL
  ⟨0x20902908, [(0x40, 8), (0x10, 4)], [⟨0, 24, .rw, 0x0⟩], []⟩, -- AUD_TG_V_START
  ⟨0x2090290C, [(0x40, 8), (0x10, 4)], [⟨31, 1, .rw, 0x0⟩, ⟨0, 24, .rw, 0x0⟩], []⟩, -- AUD_TG_V_DUR
  ⟨0x20902B00, [(0x10, 8)], [⟨0, 32, .rw, 0x10000000⟩], []⟩, -- AUD_EP_BASE
  ⟨0x20902B04, [(0x10, 8)], [⟨0, 16, .rw, 0x0⟩], []⟩, -- AUD_EP_LEN
  ⟨0x20902B08, [(0x10, 8)], [⟨0, 32, .rw, 0x0⟩], []⟩, -- AUD_EP_WR_ESI_LO
  ⟨0x20902B0C, [(0x10, 8)], [⟨0, 32, .rw, 0x0⟩], []⟩, -- AUD_EP_WR_ESI_HI
  ⟨0x20902B80, [(0x10, 8)], [⟨0, 32, .rw, 0x10000000⟩], []⟩, -- AUD_EC_BASE
  ⟨0x20902B84, [(0x10, 8)], [⟨0, 16, .rw, 0x0⟩], []⟩, -- AUD_EC_LEN
  ⟨0x20902B88, [(0x10, 8)], [⟨0, 32, .ro, 0x0⟩], []⟩, -- AUD_EC_ESI_LO
  ⟨0x20902B8C, [(0x10, 8)], [⟨0, 32, .ro, 0x0⟩], []⟩, -- AUD_EC_ESI_HI
  ⟨0x20903000, [(0x4, 336)], [⟨16, 16, .ro, 0x8000⟩, ⟨0, 16, .ro, 0x8000⟩], []⟩, -- AUD_MSRC
  ⟨0x20903800, [(0x4, 328)], [⟨16, 16, .ro, 0x8000⟩, ⟨0, 16, .ro, 0x8000⟩], []⟩, -- AUD_MOUT
  ⟨0x20910000, [(0x20, 64), (0x4, 8)], [⟨0, 32, .ro, 0x0⟩], []⟩, -- counters AUD_L_FRAMES to AUD_L_CONCEALED
  ⟨0x20911000, [(0x10, 64), (0x4, 2)], [⟨0, 32, .ro, 0x0⟩], []⟩ -- counters AUD_T_FRAMES to AUD_T_TWIN_DIFF
]

/-- Registers of AUD, part 3. -/
def rowsAUD2 : List RegRow := [
  ⟨0x20912000, [(0x4, 328)], [⟨0, 32, .ro, 0x0⟩], []⟩, -- counters AUD_CLIP to AUD_CLIP
  ⟨0x20913000, [(0x4, 9)], [⟨0, 32, .ro, 0x0⟩], []⟩, -- counters AUD_CHG_LATE to AUD_OFFSET_RAISES
  ⟨0x20913040, [(0x4, 4)], [⟨0, 32, .ro, 0x0⟩], []⟩, -- counters AUD_TDM_CMP_DIFF to AUD_TDM_CMP_DIFF
  ⟨0x20911008, [(0x10, 64), (0x4, 2)], [], []⟩ -- reserved words of the talker counters (Table 9-12)
]

/-- Registers of CAN, part 1. -/
def rowsCAN0 : List RegRow := [
  ⟨0x20A40000, [], [⟨0, 32, .rw, 0x0⟩], []⟩, -- CAN_STAGE0
  ⟨0x20A40004, [], [⟨0, 32, .rw, 0x0⟩], []⟩, -- CAN_STAGE1
  ⟨0x20A40008, [], [⟨0, 32, .rw, 0x0⟩], []⟩, -- CAN_STAGE2
  ⟨0x20A4000C, [], [⟨0, 32, .rw, 0x0⟩], []⟩, -- CAN_STAGE3
  ⟨0x20A40010, [], [⟨0, 32, .rw, 0x0⟩], []⟩, -- CAN_STAGE4
  ⟨0x20A40014, [], [⟨0, 32, .rw, 0x0⟩], []⟩, -- CAN_STAGE5
  ⟨0x20A40018, [], [⟨0, 32, .rw, 0x0⟩], []⟩, -- CAN_STAGE6
  ⟨0x20A4001C, [], [⟨0, 32, .rw, 0x0⟩], []⟩, -- CAN_STAGE7
  ⟨0x20A40020, [], [⟨28, 4, .wo, 0x0⟩, ⟨0, 9, .wo, 0x0⟩], []⟩, -- CAN_COMMIT
  ⟨0x20A40024, [], [⟨16, 16, .ro, 0x0⟩, ⟨0, 16, .ro, 0x0⟩], []⟩, -- CAN_SUMMARY
  ⟨0x20A00000, [(0x4000, 16)], [⟨28, 1, .rw, 0x1⟩, ⟨27, 1, .rw, 0x0⟩, ⟨26, 1, .rw, 0x1⟩, ⟨25, 1, .rw, 0x0⟩, ⟨24, 1, .rw, 0x0⟩, ⟨22, 2, .rw, 0x0⟩, ⟨21, 1, .rw, 0x0⟩, ⟨20, 1, .rw, 0x1⟩, ⟨18, 2, .rw, 0x0⟩, ⟨16, 2, .rw, 0x0⟩, ⟨8, 8, .rw, 0x64⟩, ⟨0, 3, .rw, 0x0⟩], []⟩, -- CAN_CTRL
  ⟨0x20A00004, [(0x4000, 16)], [⟨24, 8, .ro, 0x0⟩, ⟨16, 8, .ro, 0x0⟩, ⟨14, 2, .ro, 0x0⟩, ⟨11, 3, .ro, 0x0⟩, ⟨10, 1, .ro, 0x0⟩, ⟨9, 1, .ro, 0x0⟩, ⟨8, 1, .ro, 0x0⟩], []⟩, -- CAN_STATUS
  ⟨0x20A00008, [(0x4000, 16)], [⟨25, 7, .rw, 0x3⟩, ⟨18, 7, .rw, 0x5⟩, ⟨8, 8, .rw, 0x18⟩, ⟨0, 5, .rw, 0x9⟩], []⟩, -- CAN_NBT
  ⟨0x20A0000C, [(0x4000, 16)], [⟨24, 4, .rw, 0x3⟩, ⟨16, 4, .rw, 0x3⟩, ⟨8, 5, .rw, 0xE⟩, ⟨0, 5, .rw, 0x1⟩], []⟩, -- CAN_DBT
  ⟨0x20A00010, [(0x4000, 16)], [⟨24, 4, .rw, 0x3⟩, ⟨16, 4, .rw, 0x3⟩, ⟨8, 5, .rw, 0xE⟩, ⟨0, 5, .rw, 0x1⟩], []⟩, -- CAN_XBT
  ⟨0x20A00014, [(0x4000, 16)], [⟨31, 1, .rw, 0x0⟩, ⟨16, 8, .rw, 0x0⟩, ⟨0, 8, .rw, 0x0⟩], []⟩, -- CAN_TDC
  ⟨0x20A00018, [(0x4000, 16)], [⟨2, 2, .ro, 0x0⟩, ⟨6, 2, .ro, 0x0⟩, ⟨10, 2, .ro, 0x0⟩, ⟨1, 1, .ro, 0x0⟩, ⟨5, 1, .ro, 0x0⟩, ⟨9, 1, .ro, 0x0⟩, ⟨0, 1, .ro, 0x0⟩, ⟨4, 1, .ro, 0x0⟩, ⟨8, 1, .ro, 0x0⟩], []⟩, -- CAN_TB_STATUS
  ⟨0x20A0001C, [(0x4000, 16)], [⟨0, 3, .wo, 0x0⟩], []⟩, -- CAN_TB_CANCEL
  ⟨0x20A00020, [(0x4000, 16)], [⟨0, 8, .w1c, 0x0⟩], []⟩, -- CAN_EVENT
  ⟨0x20A00024, [(0x4000, 16)], [⟨0, 1, .wo, 0x0⟩], []⟩, -- CAN_RECOVER
  ⟨0x20A00040, [(0x4000, 16), (0x10, 3)], [⟨31, 1, .wo, 0x0⟩, ⟨16, 2, .rw, 0x0⟩, ⟨8, 8, .rw, 0x0⟩, ⟨0, 8, .rw, 0x0⟩], []⟩, -- CAN_FQ_CFG
  ⟨0x20A00044, [(0x4000, 16), (0x10, 3)], [⟨0, 14, .rw, 0x0⟩], []⟩, -- CAN_FQ_PUT
  ⟨0x20A00048, [(0x4000, 16), (0x10, 3)], [⟨0, 14, .ro, 0x0⟩], []⟩, -- CAN_FQ_GET
  ⟨0x20A0004C, [(0x4000, 16), (0x10, 3)], [⟨0, 14, .ro, 0x0⟩], []⟩, -- CAN_FQ_FREE
  ⟨0x20A00080, [(0x4000, 16), (0x10, 2)], [⟨24, 8, .rw, 0x0⟩, ⟨8, 8, .rw, 0x0⟩, ⟨0, 8, .rw, 0x0⟩], []⟩ -- CAN_RXQ_CFG
]

/-- Registers of CAN, part 2. -/
def rowsCAN1 : List RegRow := [
  ⟨0x20A00084, [(0x4000, 16), (0x10, 2)], [⟨0, 14, .ro, 0x0⟩], []⟩, -- CAN_RXQ_PUT
  ⟨0x20A00088, [(0x4000, 16), (0x10, 2)], [⟨0, 14, .rw, 0x0⟩], []⟩, -- CAN_RXQ_GET
  ⟨0x20A0008C, [(0x4000, 16), (0x10, 2)], [⟨16, 1, .ro, 0x0⟩, ⟨0, 14, .ro, 0x0⟩], []⟩, -- CAN_RXQ_FILL
  ⟨0x20A000A0, [(0x4000, 16)], [⟨8, 3, .rw, 0x0⟩, ⟨0, 6, .rw, 0x0⟩], []⟩, -- CAN_TT_CTRL
  ⟨0x20A000A4, [(0x4000, 16)], [⟨0, 32, .rw, 0x0⟩], []⟩, -- CAN_TT_CYCLE
  ⟨0x20A000A8, [(0x4000, 16)], [⟨0, 32, .rw, 0x0⟩], []⟩, -- CAN_TT_PHASE
  ⟨0x20A000AC, [(0x4000, 16)], [⟨16, 6, .ro, 0x0⟩, ⟨8, 5, .ro, 0x0⟩, ⟨1, 1, .ro, 0x0⟩, ⟨0, 1, .ro, 0x0⟩], []⟩, -- CAN_TT_STATUS
  ⟨0x20A000C0, [(0x4000, 16)], [⟨16, 16, .ro, 0x0⟩, ⟨4, 2, .ro, 0x0⟩, ⟨2, 2, .ro, 0x0⟩, ⟨1, 1, .ro, 0x0⟩, ⟨0, 1, .ro, 0x0⟩], []⟩, -- CAN_TXEV_HEAD0
  ⟨0x20A000C4, [(0x4000, 16)], [⟨0, 32, .ro, 0x0⟩], []⟩, -- CAN_TXEV_HEAD1
  ⟨0x20A000C8, [(0x4000, 16)], [⟨0, 32, .ro, 0x0⟩], []⟩, -- CAN_TXEV_HEAD2
  ⟨0x20A00100, [(0x4000, 16), (0x4, 25)], [⟨0, 32, .ro, 0x0⟩], []⟩ -- counters CAN_TX_FRAMES to CAN_TXEV_LOST
]

/-- Registers of SER. -/
def rowsSER0 : List RegRow := [
  ⟨0x20B00000, [(0x100, 8)], [⟨11, 2, .rw, 0x0⟩, ⟨10, 1, .rw, 0x0⟩, ⟨9, 1, .rw, 0x0⟩, ⟨8, 1, .rw, 0x1⟩, ⟨7, 1, .rw, 0x0⟩, ⟨6, 1, .rw, 0x0⟩, ⟨5, 1, .rw, 0x0⟩, ⟨3, 2, .rw, 0x0⟩, ⟨2, 1, .rw, 0x1⟩, ⟨1, 1, .rw, 0x1⟩, ⟨0, 1, .rw, 0x0⟩], []⟩, -- SER_CTRL
  ⟨0x20B00004, [(0x100, 8)], [⟨0, 24, .rw, 0x208D5⟩], []⟩, -- SER_BAUD
  ⟨0x20B00008, [(0x100, 8)], [⟨24, 8, .rw, 0x0⟩, ⟨8, 11, .rw, 0x400⟩, ⟨0, 8, .rw, 0x23⟩], []⟩, -- SER_FRAME
  ⟨0x20B0000C, [(0x100, 8)], [⟨16, 8, .rw, 0x64⟩, ⟨8, 8, .rw, 0x0⟩, ⟨0, 8, .rw, 0x0⟩], []⟩, -- SER_DE
  ⟨0x20B00010, [(0x100, 8)], [⟨5, 1, .ro, 0x1⟩, ⟨4, 1, .ro, 0x0⟩, ⟨3, 1, .ro, 0x0⟩, ⟨2, 1, .ro, 0x0⟩, ⟨1, 1, .ro, 0x0⟩, ⟨0, 1, .ro, 0x0⟩], []⟩, -- SER_STATUS
  ⟨0x20B00014, [(0x100, 8)], [⟨0, 11, .rw, 0x0⟩], []⟩, -- SER_TXQ_PUT
  ⟨0x20B00018, [(0x100, 8)], [⟨0, 11, .ro, 0x0⟩], []⟩, -- SER_TXQ_GET
  ⟨0x20B0001C, [(0x100, 8)], [⟨0, 12, .ro, 0x800⟩], []⟩, -- SER_TXQ_FREE
  ⟨0x20B00020, [(0x100, 8)], [⟨0, 11, .ro, 0x0⟩], []⟩, -- SER_RXQ_PUT
  ⟨0x20B00024, [(0x100, 8)], [⟨0, 11, .rw, 0x0⟩], []⟩, -- SER_RXQ_GET
  ⟨0x20B00028, [(0x100, 8)], [⟨16, 1, .ro, 0x0⟩, ⟨0, 12, .ro, 0x0⟩], []⟩, -- SER_RXQ_FILL
  ⟨0x20B0002C, [(0x100, 8)], [⟨0, 3, .w1c, 0x0⟩], []⟩, -- SER_EVENT
  ⟨0x20B00040, [(0x100, 8), (0x4, 15)], [⟨0, 32, .ro, 0x0⟩], []⟩ -- counters SER_RX_MSGS to SER_TAKEOVER_RESENT
]

/-- Registers of GLV. -/
def rowsGLV0 : List RegRow := [
  ⟨0x20C00000, [], [⟨0, 32, .rw, 0x0⟩], []⟩, -- GLV_STAGE0
  ⟨0x20C00004, [], [⟨0, 32, .rw, 0x0⟩], []⟩, -- GLV_STAGE1
  ⟨0x20C00008, [], [⟨0, 32, .rw, 0x0⟩], []⟩, -- GLV_STAGE2
  ⟨0x20C0000C, [], [⟨0, 32, .rw, 0x0⟩], []⟩, -- GLV_STAGE3
  ⟨0x20C00010, [], [⟨0, 32, .rw, 0x0⟩], []⟩, -- GLV_STAGE4
  ⟨0x20C00014, [], [⟨0, 32, .rw, 0x0⟩], []⟩, -- GLV_STAGE5
  ⟨0x20C00018, [], [⟨0, 32, .rw, 0x0⟩], []⟩, -- GLV_STAGE6
  ⟨0x20C0001C, [], [⟨0, 32, .rw, 0x0⟩], []⟩, -- GLV_STAGE7
  ⟨0x20C00020, [], [⟨0, 7, .wo, 0x0⟩], []⟩, -- GLV_COMMIT
  ⟨0x20C00024, [], [⟨0, 32, .rw, 0x0⟩], []⟩, -- GLV_SA_LO
  ⟨0x20C00028, [], [⟨0, 16, .rw, 0x0⟩], []⟩, -- GLV_SA_HI
  ⟨0x20C00030, [], [⟨0, 3, .w1c, 0x0⟩], []⟩, -- GLV_EVENT
  ⟨0x20C00100, [(0x4, 64)], [⟨16, 1, .ro, 0x0⟩, ⟨0, 16, .ro, 0x0⟩], []⟩, -- GLV_DSTATE
  ⟨0x20C10000, [(0x10, 24), (0x4, 4)], [⟨0, 32, .ro, 0x0⟩], []⟩, -- counters GLV_C_FRAMES to GLV_C_KEEPALIVES_SENT
  ⟨0x20C11000, [(0x20, 64), (0x4, 8)], [⟨0, 32, .ro, 0x0⟩], []⟩, -- counters GLV_D_FRAMES to GLV_D_DEST_DROP
  ⟨0x20C12000, [(0x4, 3)], [⟨0, 32, .ro, 0x0⟩], []⟩ -- counters GLV_NO_DECAP to GLV_KEEPALIVES
]

/-- Registers of CPH, part 1. -/
def rowsCPH0 : List RegRow := [
  ⟨0x20D00000, [], [⟨0, 4, .rw, 0xF⟩], []⟩, -- CPH_CTRL
  ⟨0x20D00004, [], [⟨8, 4, .ro, 0xF⟩, ⟨0, 8, .ro, 0x0⟩], []⟩, -- CPH_STATUS
  ⟨0x20D00008, [], [⟨0, 8, .w1c, 0x0⟩], []⟩, -- CPH_EVENT
  ⟨0x20D0000C, [], [⟨0, 32, .rw, 0xC0000000⟩], []⟩, -- CPH_PN_THRESH
  ⟨0x20D00010, [], [⟨0, 8, .rw, 0x0⟩], []⟩, -- CPH_KS_SEL
  ⟨0x20D00014, [], [⟨16, 16, .ro, 0x0⟩, ⟨8, 8, .ro, 0x0⟩, ⟨7, 1, .ro, 0x0⟩, ⟨6, 1, .ro, 0x0⟩, ⟨5, 1, .ro, 0x0⟩], []⟩, -- CPH_KS_STATE
  ⟨0x20D00018, [], [⟨31, 1, .wo, 0x0⟩, ⟨0, 8, .wo, 0x0⟩], []⟩, -- CPH_KS_ERASE
  ⟨0x20D0001C, [], [⟨0, 6, .ro, 0x20⟩], []⟩, -- CPH_KS_POOL
  ⟨0x20D00020, [], [⟨0, 5, .rw, 0x13⟩], []⟩, -- CPH_SEAL
  ⟨0x20D00024, [], [⟨16, 1, .ro, 0x0⟩, ⟨8, 4, .rw, 0x4⟩, ⟨0, 5, .rw, 0x10⟩], []⟩, -- CPH_LEASE
  ⟨0x20D00028, [], [⟨31, 1, .rw, 0x1⟩, ⟨30, 1, .ro, 0x0⟩, ⟨0, 8, .rw, 0x0⟩], []⟩, -- CPH_QLINK
  ⟨0x20D0002C, [], [⟨0, 32, .ro, 0x0⟩], []⟩, -- CPH_QLINK_EPOCH
  ⟨0x20D00100, [(0x20, 8)], [⟨0, 32, .rw, 0x10000000⟩], []⟩, -- CPH_RING_BASE
  ⟨0x20D00104, [(0x20, 8)], [⟨0, 10, .rw, 0x0⟩], []⟩, -- CPH_RING_SIZE
  ⟨0x20D00108, [(0x20, 8)], [⟨0, 10, .rw, 0x0⟩], []⟩, -- CPH_RING_PUT
  ⟨0x20D0010C, [(0x20, 8)], [⟨0, 10, .ro, 0x0⟩], []⟩, -- CPH_RING_GET
  ⟨0x20D00110, [(0x20, 8)], [⟨31, 1, .wo, 0x0⟩, ⟨0, 1, .rw, 0x0⟩], []⟩, -- CPH_RING_CTRL
  ⟨0x20D01000, [(0x400, 16)], [⟨31, 1, .rw, 0x0⟩, ⟨30, 1, .rw, 0x0⟩, ⟨28, 2, .rw, 0x2⟩, ⟨27, 1, .rw, 0x1⟩, ⟨26, 1, .rw, 0x1⟩, ⟨25, 1, .rw, 0x1⟩, ⟨24, 1, .rw, 0x0⟩, ⟨16, 2, .rw, 0x0⟩, ⟨0, 2, .rw, 0x0⟩], []⟩, -- CPH_MS_CTRL
  ⟨0x20D01004, [(0x400, 16)], [⟨0, 32, .rw, 0x0⟩], []⟩, -- CPH_MS_WINDOW
  ⟨0x20D01008, [(0x400, 16)], [⟨0, 32, .rw, 0x0⟩], []⟩, -- CPH_MS_TXSCI_LO
  ⟨0x20D0100C, [(0x400, 16)], [⟨0, 32, .rw, 0x0⟩], []⟩, -- CPH_MS_TXSCI_HI
  ⟨0x20D01040, [(0x400, 16), (0x20, 4)], [⟨31, 1, .rw, 0x0⟩, ⟨0, 8, .rw, 0x0⟩], []⟩, -- CPH_MS_TXSA_CTRL
  ⟨0x20D01044, [(0x400, 16), (0x20, 4)], [⟨0, 32, .rw, 0x0⟩], []⟩, -- CPH_MS_TXSA_SSCI
  ⟨0x20D01048, [(0x400, 16), (0x20, 4)], [⟨0, 32, .rw, 0x1⟩], []⟩, -- CPH_MS_TXSA_PN_LO
  ⟨0x20D0104C, [(0x400, 16), (0x20, 4)], [⟨0, 32, .rw, 0x0⟩], []⟩ -- CPH_MS_TXSA_PN_HI
]

/-- Registers of CPH, part 2. -/
def rowsCPH1 : List RegRow := [
  ⟨0x20D01050, [(0x400, 16), (0x20, 4)], [⟨0, 32, .rw, 0x0⟩], []⟩, -- CPH_MS_TXSA_SALT0
  ⟨0x20D01054, [(0x400, 16), (0x20, 4)], [⟨0, 32, .rw, 0x0⟩], []⟩, -- CPH_MS_TXSA_SALT1
  ⟨0x20D01058, [(0x400, 16), (0x20, 4)], [⟨0, 32, .rw, 0x0⟩], []⟩, -- CPH_MS_TXSA_SALT2
  ⟨0x20D01100, [(0x400, 16), (0xC0, 4)], [⟨0, 32, .rw, 0x0⟩], []⟩, -- CPH_MS_RXSC_SCI_LO
  ⟨0x20D01104, [(0x400, 16), (0xC0, 4)], [⟨0, 32, .rw, 0x0⟩], []⟩, -- CPH_MS_RXSC_SCI_HI
  ⟨0x20D01108, [(0x400, 16), (0xC0, 4)], [⟨31, 1, .rw, 0x0⟩], []⟩, -- CPH_MS_RXSC_CTRL
  ⟨0x20D01120, [(0x400, 16), (0xC0, 4), (0x20, 4)], [⟨31, 1, .rw, 0x0⟩, ⟨0, 8, .rw, 0x0⟩], []⟩, -- CPH_MS_RXSC_SA_CTRL
  ⟨0x20D01124, [(0x400, 16), (0xC0, 4), (0x20, 4)], [⟨0, 32, .rw, 0x0⟩], []⟩, -- CPH_MS_RXSC_SA_SSCI
  ⟨0x20D01128, [(0x400, 16), (0xC0, 4), (0x20, 4)], [⟨0, 32, .rw, 0x1⟩], []⟩, -- CPH_MS_RXSC_SA_NEXT_PN_LO
  ⟨0x20D0112C, [(0x400, 16), (0xC0, 4), (0x20, 4)], [⟨0, 32, .rw, 0x0⟩], []⟩, -- CPH_MS_RXSC_SA_NEXT_PN_HI
  ⟨0x20D01130, [(0x400, 16), (0xC0, 4), (0x20, 4)], [⟨0, 32, .rw, 0x0⟩], []⟩, -- CPH_MS_RXSC_SA_SALT0
  ⟨0x20D01134, [(0x400, 16), (0xC0, 4), (0x20, 4)], [⟨0, 32, .rw, 0x0⟩], []⟩, -- CPH_MS_RXSC_SA_SALT1
  ⟨0x20D01138, [(0x400, 16), (0xC0, 4), (0x20, 4)], [⟨0, 32, .rw, 0x0⟩], []⟩, -- CPH_MS_RXSC_SA_SALT2
  ⟨0x20D05000, [(0x10, 48)], [⟨0, 32, .ro, 0x0⟩], []⟩, -- CPH_LEASE_NEXT_LO
  ⟨0x20D05004, [(0x10, 48)], [⟨0, 32, .ro, 0x0⟩], []⟩, -- CPH_LEASE_NEXT_HI
  ⟨0x20D05008, [(0x10, 48)], [⟨0, 32, .ro, 0x0⟩], []⟩, -- CPH_LEASE_CEIL
  ⟨0x20D0500C, [(0x10, 48)], [⟨1, 1, .ro, 0x0⟩, ⟨0, 1, .ro, 0x0⟩], []⟩, -- CPH_LEASE_STATE
  ⟨0x20D05800, [(0x8, 64)], [⟨0, 32, .ro, 0x0⟩], []⟩, -- CPH_SEAL_LAST_LO
  ⟨0x20D05804, [(0x8, 64)], [⟨0, 32, .ro, 0x0⟩], []⟩, -- CPH_SEAL_LAST_HI
  ⟨0x20D10000, [(0x40, 16), (0x4, 16)], [⟨0, 32, .ro, 0x0⟩], []⟩, -- counters CPH_MS_TX_PROTECTED to CPH_MS_RX_KEY_EMPTY
  ⟨0x20D10400, [(0x4, 15)], [⟨0, 32, .ro, 0x0⟩], []⟩ -- counters CPH_COMPARE_FAULTS to CPH_ABORTED
]

/-- Registers of QLB. -/
def rowsQLB0 : List RegRow := [
  ⟨0x20E00000, [], [⟨16, 16, .rw, 0x64⟩, ⟨1, 1, .rw, 0x1⟩, ⟨0, 1, .rw, 0x1⟩], []⟩, -- QLB_CTRL
  ⟨0x20E00004, [], [⟨16, 4, .ro, 0x0⟩, ⟨8, 1, .ro, 0x0⟩, ⟨7, 1, .ro, 0x0⟩, ⟨6, 1, .ro, 0x0⟩, ⟨5, 1, .ro, 0x0⟩, ⟨4, 1, .ro, 0x0⟩, ⟨3, 1, .ro, 0x0⟩, ⟨1, 2, .ro, 0x1⟩, ⟨0, 1, .ro, 0x0⟩], []⟩, -- QLB_STATUS
  ⟨0x20E00008, [], [⟨16, 12, .rw, 0x64⟩, ⟨0, 8, .rw, 0x14⟩], []⟩, -- QLB_TIMING
  ⟨0x20E0000C, [], [⟨16, 4, .rw, 0x3⟩, ⟨0, 16, .rw, 0xC8⟩], []⟩, -- QLB_PROBE
  ⟨0x20E00010, [], [⟨0, 16, .rw, 0x64⟩], []⟩, -- QLB_BRIDGE
  ⟨0x20E00014, [], [⟨0, 32, .ro, 0x0⟩], []⟩, -- QLB_PARTNER_MAC_LO
  ⟨0x20E00018, [], [⟨0, 16, .ro, 0x0⟩], []⟩, -- QLB_PARTNER_MAC_HI
  ⟨0x20E0001C, [], [⟨0, 1, .wo, 0x0⟩], []⟩, -- QLB_HANDOVER
  ⟨0x20E00020, [], [⟨0, 16, .wo, 0x0⟩], []⟩, -- QLB_RESTART
  ⟨0x20E00024, [], [⟨0, 10, .w1c, 0x0⟩], []⟩, -- QLB_EVENT
  ⟨0x20E00028, [], [⟨0, 32, .rw, 0x10000000⟩], []⟩, -- QLB_SHARED_BASE
  ⟨0x20E0002C, [], [⟨0, 12, .rw, 0x0⟩], []⟩, -- QLB_SHARED_SIZE
  ⟨0x20E00030, [], [⟨4, 4, .ro, 0x0⟩, ⟨0, 4, .rw, 0xF⟩], []⟩, -- QLB_TDM
  ⟨0x20E00034, [], [⟨2, 1, .ro, 0x0⟩, ⟨0, 2, .ro, 0x0⟩], []⟩, -- QLB_LANES
  ⟨0x20E00038, [], [⟨0, 32, .ro, 0x0⟩], []⟩, -- QLB_RD_ERR_ADDR
  ⟨0x20E0003C, [], [⟨8, 3, .ro, 0x0⟩, ⟨0, 3, .ro, 0x0⟩], []⟩, -- QLB_RD_ERR
  ⟨0x20E00040, [], [⟨0, 32, .ro, 0x0⟩], []⟩, -- QLB_SEM_HELD
  ⟨0x20E00080, [(0x4, 8)], [⟨0, 32, .ro, 0x0⟩], []⟩, -- QLB_FENCE
  ⟨0x20E000C0, [], [⟨0, 1, .ro, 0x0⟩, ⟨1, 1, .ro, 0x0⟩, ⟨4, 3, .ro, 0x0⟩, ⟨8, 3, .ro, 0x0⟩, ⟨11, 1, .ro, 0x0⟩], []⟩, -- QLB_FAR_HEAD0
  ⟨0x20E000C4, [], [⟨0, 32, .ro, 0x0⟩], []⟩, -- QLB_FAR_HEAD1
  ⟨0x20E000C8, [], [⟨0, 32, .ro, 0x0⟩], []⟩, -- QLB_FAR_HEAD2
  ⟨0x20E000CC, [], [⟨0, 32, .ro, 0x0⟩], []⟩, -- QLB_FAR_HEAD3
  ⟨0x20E000D0, [], [⟨0, 32, .ro, 0x0⟩], []⟩, -- QLB_FAR_LOST
  ⟨0x20E10000, [(0x4, 21)], [⟨0, 32, .ro, 0x0⟩], []⟩ -- counters QLB_LF_TX to QLB_PROBES_SENT
]

/-- Registers of WAK, part 1. -/
def rowsWAK0 : List RegRow := [
  ⟨0x20F00000, [], [⟨4, 4, .rw, 0xF⟩, ⟨3, 1, .rw, 0x1⟩, ⟨2, 1, .rw, 0x0⟩, ⟨0, 1, .rw, 0x1⟩], []⟩, -- WAK_CTRL
  ⟨0x20F00004, [], [⟨16, 16, .ro, 0x0⟩, ⟨8, 3, .ro, 0x0⟩, ⟨0, 3, .ro, 0x0⟩], []⟩, -- WAK_STATUS
  ⟨0x20F00008, [], [⟨0, 16, .rw, 0x0⟩], []⟩, -- WAK_NEED
  ⟨0x20F0000C, [], [⟨16, 16, .rw, 0x15E⟩, ⟨0, 16, .rw, 0x64⟩], []⟩, -- WAK_KA
  ⟨0x20F00010, [], [⟨0, 24, .rw, 0xF⟩], []⟩, -- WAK_KA_PORTS
  ⟨0x20F00014, [], [⟨0, 32, .rw, 0x51000010⟩], []⟩, -- WAK_KA_DA_LO
  ⟨0x20F00018, [], [⟨0, 16, .rw, 0x34C⟩], []⟩, -- WAK_KA_DA_HI
  ⟨0x20F0001C, [], [⟨16, 16, .rw, 0x1F4⟩, ⟨0, 16, .rw, 0x7D0⟩], []⟩, -- WAK_HOLD
  ⟨0x20F00020, [], [⟨16, 16, .rw, 0x1E⟩, ⟨0, 16, .rw, 0x5⟩], []⟩, -- WAK_CONFIRM
  ⟨0x20F00024, [], [⟨0, 16, .rw, 0xA⟩], []⟩, -- WAK_DWELL
  ⟨0x20F00028, [], [⟨0, 32, .rw, 0x0⟩], []⟩, -- WAK_TIMER
  ⟨0x20F0002C, [], [⟨0, 16, .rw, 0x3C⟩], []⟩, -- WAK_FAILSAFE
  ⟨0x20F00030, [], [⟨0, 32, .rw, 0x0⟩], []⟩, -- WAK_SRC_EN
  ⟨0x20F00034, [], [⟨9, 1, .ro, 0x0⟩, ⟨8, 1, .ro, 0x0⟩, ⟨0, 5, .ro, 0x0⟩], []⟩, -- WAK_CAUSE
  ⟨0x20F00038, [], [⟨0, 32, .ro, 0x0⟩], []⟩, -- WAK_CAUSE_SET
  ⟨0x20F0003C, [], [⟨0, 32, .ro, 0x0⟩], []⟩, -- WAK_AON_SECONDS
  ⟨0x20F00040, [], [⟨0, 32, .ro, 0x0⟩], []⟩, -- WAK_SLEEP_ENTRY
  ⟨0x20F00044, [], [⟨28, 4, .rw, 0x0⟩, ⟨27, 1, .rw, 0x0⟩], []⟩, -- WAK_CAN_KA
  ⟨0x20F00048, [], [⟨0, 29, .rw, 0x0⟩], []⟩, -- WAK_CAN_KA_ID
  ⟨0x20F0004C, [], [⟨16, 16, .rw, 0xA⟩, ⟨1, 15, .rw, 0x64⟩, ⟨0, 1, .rw, 0x0⟩], []⟩, -- WAK_PINS
  ⟨0x20F00050, [], [⟨0, 10, .w1c, 0x0⟩], []⟩, -- WAK_EVENT
  ⟨0x20F00054, [], [⟨16, 16, .ro, 0x0⟩, ⟨8, 8, .ro, 0x0⟩, ⟨0, 1, .ro, 0x0⟩], []⟩, -- WAK_BO
  ⟨0x20F00100, [(0x20, 4)], [⟨24, 8, .rw, 0x20⟩, ⟨16, 8, .rw, 0x5⟩, ⟨8, 4, .rw, 0x0⟩, ⟨6, 1, .rw, 0x0⟩, ⟨4, 2, .rw, 0x2⟩, ⟨0, 2, .rw, 0x0⟩], []⟩, -- WAK_C_CTRL
  ⟨0x20F00104, [(0x20, 4)], [⟨0, 29, .rw, 0x0⟩], []⟩, -- WAK_C_ID_MATCH
  ⟨0x20F00108, [(0x20, 4)], [⟨0, 29, .rw, 0x0⟩], []⟩ -- WAK_C_ID_MASK
]

/-- Registers of WAK, part 2. -/
def rowsWAK1 : List RegRow := [
  ⟨0x20F0010C, [(0x20, 4)], [⟨0, 32, .rw, 0x0⟩], []⟩, -- WAK_C_DATA_MATCH_LO
  ⟨0x20F00110, [(0x20, 4)], [⟨0, 32, .rw, 0x0⟩], []⟩, -- WAK_C_DATA_MATCH_HI
  ⟨0x20F00114, [(0x20, 4)], [⟨0, 32, .rw, 0x0⟩], []⟩, -- WAK_C_DATA_MASK_LO
  ⟨0x20F00118, [(0x20, 4)], [⟨0, 32, .rw, 0x0⟩], []⟩, -- WAK_C_DATA_MASK_HI
  ⟨0x20F00200, [(0x20, 8)], [⟨16, 16, .rw, 0x64⟩, ⟨8, 8, .rw, 0x0⟩, ⟨3, 1, .rw, 0x0⟩, ⟨2, 1, .rw, 0x0⟩, ⟨0, 2, .rw, 0x0⟩], []⟩, -- WAK_T_CTRL
  ⟨0x20F00204, [(0x20, 8)], [⟨0, 32, .rw, 0x0⟩], []⟩, -- WAK_T_DA_LO
  ⟨0x20F00208, [(0x20, 8)], [⟨16, 16, .rw, 0x0⟩, ⟨0, 16, .rw, 0x0⟩], []⟩, -- WAK_T_DA_HI
  ⟨0x20F0020C, [(0x20, 8)], [⟨0, 32, .rw, 0x0⟩], []⟩, -- WAK_T_DATA_MATCH_LO
  ⟨0x20F00210, [(0x20, 8)], [⟨0, 32, .rw, 0x0⟩], []⟩, -- WAK_T_DATA_MATCH_HI
  ⟨0x20F00214, [(0x20, 8)], [⟨0, 32, .rw, 0x0⟩], []⟩, -- WAK_T_DATA_MASK_LO
  ⟨0x20F00218, [(0x20, 8)], [⟨0, 32, .rw, 0x0⟩], []⟩, -- WAK_T_DATA_MASK_HI
  ⟨0x20F00300, [(0x4, 32)], [⟨16, 16, .ro, 0x0⟩, ⟨0, 16, .ro, 0x0⟩], []⟩, -- WAK_FW
  ⟨0x20F00380, [], [⟨16, 16, .rw, 0x18⟩, ⟨0, 8, .rw, 0x0⟩], []⟩, -- WAK_QUAR
  ⟨0x20F00384, [], [⟨0, 32, .ro, 0x0⟩], []⟩, -- WAK_QUAR_STATUS
  ⟨0x20F00388, [], [⟨0, 32, .wo, 0x0⟩], []⟩, -- WAK_QUAR_CLEAR
  ⟨0x20F10000, [(0x4, 10)], [⟨0, 32, .ro, 0x0⟩], []⟩ -- counters WAK_KA_TX to WAK_SUPPLY_FAILS
]

/-- Registers of ENG, part 1. -/
def rowsENG0 : List RegRow := [
  ⟨0x121000000, [(0x100000000, 8)], [⟨0, 3, .ro, 0x0⟩], [(0, 1, 0x0), (1, 2, 0x1), (2, 3, 0x2), (3, 4, 0x3), (4, 5, 0x4), (5, 6, 0x5), (6, 7, 0x6), (7, 8, 0x7)]⟩, -- ENG_ID
  ⟨0x121000004, [(0x100000000, 8)], [⟨4, 1, .w1c, 0x0⟩, ⟨3, 1, .w1c, 0x0⟩, ⟨2, 1, .w1c, 0x0⟩, ⟨1, 1, .ro, 0x0⟩, ⟨0, 1, .ro, 0x0⟩], []⟩, -- ENG_IRQ_PEND
  ⟨0x121000008, [(0x100000000, 8)], [⟨0, 5, .rw, 0x0⟩], []⟩, -- ENG_IRQ_EN
  ⟨0x12100000C, [(0x100000000, 8)], [⟨0, 32, .ro, 0x0⟩], []⟩, -- ENG_BUSERR_ADDR
  ⟨0x121000010, [(0x100000000, 8)], [⟨8, 1, .ro, 0x0⟩, ⟨0, 3, .ro, 0x0⟩], []⟩, -- ENG_BUSERR_INFO
  ⟨0x121000014, [(0x100000000, 8)], [⟨0, 16, .wo, 0x0⟩], []⟩, -- ENG_WD_KICK
  ⟨0x121000018, [(0x100000000, 8)], [⟨0, 16, .rw, 0xA⟩], []⟩, -- ENG_WD_CFG
  ⟨0x12100001C, [(0x100000000, 8)], [⟨0, 32, .rw, 0xFFFFFFFF⟩], []⟩, -- ENG_MTIMECMP_LO
  ⟨0x121000020, [(0x100000000, 8)], [⟨0, 32, .rw, 0xFFFFFFFF⟩], []⟩, -- ENG_MTIMECMP_HI
  ⟨0x121000030, [(0x100000000, 8)], [⟨0, 32, .ro, 0x0⟩], []⟩, -- ENG_EVQ_HEAD0
  ⟨0x121000034, [(0x100000000, 8)], [⟨0, 32, .ro, 0x0⟩], []⟩, -- ENG_EVQ_HEAD1
  ⟨0x121000038, [(0x100000000, 8)], [⟨0, 32, .ro, 0x0⟩], []⟩, -- ENG_EVQ_HEAD2
  ⟨0x12100003C, [(0x100000000, 8)], [⟨0, 32, .ro, 0x0⟩], []⟩, -- ENG_EVQ_HEAD3
  ⟨0x121000040, [(0x100000000, 8)], [⟨0, 32, .ro, 0x0⟩], []⟩, -- ENG_EVQ_LOST
  ⟨0x121000050, [(0x100000000, 8)], [⟨0, 32, .rw, 0x0⟩], []⟩, -- ENG_MB_TXD0
  ⟨0x121000054, [(0x100000000, 8)], [⟨0, 32, .rw, 0x0⟩], []⟩, -- ENG_MB_TXD1
  ⟨0x121000058, [(0x100000000, 8)], [⟨0, 32, .rw, 0x0⟩], []⟩, -- ENG_MB_TXD2
  ⟨0x12100005C, [(0x100000000, 8)], [⟨0, 32, .rw, 0x0⟩], []⟩, -- ENG_MB_TXD3
  ⟨0x121000060, [(0x100000000, 8)], [⟨0, 3, .wo, 0x0⟩], []⟩, -- ENG_MB_SEND
  ⟨0x121000064, [(0x100000000, 8)], [⟨8, 5, .ro, 0x0⟩, ⟨0, 1, .ro, 0x0⟩], []⟩, -- ENG_MB_STATUS
  ⟨0x121000068, [(0x100000000, 8)], [⟨4, 3, .ro, 0x0⟩, ⟨0, 1, .ro, 0x0⟩], []⟩, -- ENG_MB_RX_HEAD0
  ⟨0x12100006C, [(0x100000000, 8)], [⟨0, 32, .ro, 0x0⟩], []⟩, -- ENG_MB_RX_HEAD1
  ⟨0x121000070, [(0x100000000, 8)], [⟨0, 32, .ro, 0x0⟩], []⟩, -- ENG_MB_RX_HEAD2
  ⟨0x121000074, [(0x100000000, 8)], [⟨0, 32, .ro, 0x0⟩], []⟩, -- ENG_MB_RX_HEAD3
  ⟨0x121000078, [(0x100000000, 8)], [⟨0, 32, .ro, 0x0⟩], []⟩ -- ENG_MB_RX_HEAD4
]

/-- Registers of ENG, part 2. -/
def rowsENG1 : List RegRow := [
  ⟨0x21000800, [], [⟨8, 8, .ro, 0xFE⟩, ⟨0, 8, .ro, 0x1⟩], []⟩, -- ENG_RUN
  ⟨0x21000804, [], [⟨0, 3, .w1c, 0x0⟩], []⟩, -- ENG_EVENT
  ⟨0x21000810, [], [⟨0, 32, .ro, 0x0⟩], []⟩, -- ENG_MTIME_LO
  ⟨0x21000814, [], [⟨0, 32, .ro, 0x0⟩], []⟩, -- ENG_MTIME_HI
  ⟨0x21000900, [], [⟨0, 24, .rw, 0x2088⟩], []⟩, -- ENG_P24_STEER
  ⟨0x21001000, [(0x4, 288)], [⟨0, 8, .rw, 0x1⟩], []⟩, -- ENG_ROUTE
  ⟨0x21002000, [(0x40, 8)], [⟨0, 32, .rw, 0x10000000⟩], []⟩, -- ENG_TXR_BASE
  ⟨0x21002004, [(0x40, 8)], [⟨0, 10, .rw, 0x0⟩], []⟩, -- ENG_TXR_SIZE
  ⟨0x21002008, [(0x40, 8)], [⟨0, 10, .rw, 0x0⟩], []⟩, -- ENG_TXR_PUT
  ⟨0x2100200C, [(0x40, 8)], [⟨0, 10, .ro, 0x0⟩], []⟩, -- ENG_TXR_GET
  ⟨0x21002020, [(0x40, 8)], [⟨0, 32, .rw, 0x10000000⟩], []⟩, -- ENG_RXR_BASE
  ⟨0x21002024, [(0x40, 8)], [⟨0, 10, .rw, 0x0⟩], []⟩, -- ENG_RXR_SIZE
  ⟨0x21002028, [(0x40, 8)], [⟨0, 10, .rw, 0x0⟩], []⟩, -- ENG_RXR_PUT
  ⟨0x2100202C, [(0x40, 8)], [⟨0, 10, .ro, 0x0⟩], []⟩, -- ENG_RXR_GET
  ⟨0x21010000, [(0x20, 8), (0x4, 8)], [⟨0, 32, .ro, 0x0⟩], []⟩ -- counters ENG_TXR_FRAMES to ENG_WD_EXPIRED
]

/-- Registers of FLT. -/
def rowsFLT0 : List RegRow := [
  ⟨0x21100000, [], [⟨31, 1, .ro, 0x0⟩, ⟨30, 1, .ro, 0x0⟩, ⟨29, 1, .ro, 0x0⟩, ⟨28, 1, .ro, 0x0⟩, ⟨0, 4, .ro, 0x0⟩], []⟩, -- FLT_STATUS
  ⟨0x21100004, [], [⟨0, 32, .ro, 0x0⟩], []⟩, -- FLT_FS_DATA
  ⟨0x21100008, [], [⟨22, 10, .ro, 0x0⟩, ⟨0, 12, .ro, 0x0⟩], []⟩, -- FLT_CELLAR_HEAD
  ⟨0x2110000C, [], [⟨1, 18, .rw, 0x3FFFF⟩], []⟩, -- FLT_CELLAR_SEL
  ⟨0x121100010, [(0x100000000, 8)], [⟨0, 32, .rw, 0x0⟩], []⟩, -- FLT_LOG_DATA0
  ⟨0x121100014, [(0x100000000, 8)], [⟨0, 32, .rw, 0x0⟩], []⟩, -- FLT_LOG_DATA1
  ⟨0x121100018, [(0x100000000, 8)], [⟨0, 32, .rw, 0x0⟩], []⟩, -- FLT_LOG_DATA2
  ⟨0x2110001C, [], [], []⟩, -- FLT_RSVD_1C
  ⟨0x21100020, [], [⟨0, 16, .wo, 0x0⟩], []⟩, -- FLT_LOG_CMD
  ⟨0x21100024, [], [⟨8, 4, .ro, 0x0⟩, ⟨4, 2, .ro, 0x0⟩, ⟨0, 4, .ro, 0x0⟩], []⟩, -- FLT_BOTTLE
  ⟨0x21100028, [], [⟨0, 32, .ro, 0x0⟩], []⟩, -- FLT_BOTTLE_SEQ
  ⟨0x2110002C, [], [⟨16, 16, .rw, 0x258⟩, ⟨0, 8, .rw, 0x3⟩], []⟩, -- FLT_RESTART
  ⟨0x21100030, [], [⟨0, 1, .rw, 0x1⟩], []⟩, -- FLT_DBG_CTRL
  ⟨0x21100034, [], [⟨0, 8, .w1c, 0x0⟩], []⟩, -- FLT_EVENT
  ⟨0x21100038, [], [⟨0, 8, .ro, 0x0⟩], []⟩, -- FLT_RESTART_STATUS
  ⟨0x21100040, [], [⟨8, 5, .ro, 0x0⟩, ⟨0, 6, .ro, 0x0⟩], []⟩, -- FLT_MON
  ⟨0x21100100, [(0x8, 16)], [⟨16, 16, .rw, 0x0⟩, ⟨8, 8, .rw, 0x0⟩, ⟨0, 2, .rw, 0x0⟩], [(0, 1, 0x3E81001), (1, 2, 0x3E80403), (2, 3, 0x3E80403), (3, 4, 0x3E80300), (4, 5, 0x3E80403), (5, 6, 0xEA600203), (6, 7, 0x27100403), (7, 8, 0x27100300), (8, 9, 0x27100402), (9, 10, 0xEA600401), (10, 11, 0xEA601000), (11, 12, 0xEA600400), (12, 13, 0x0), (13, 14, 0x0), (14, 15, 0x0), (15, 16, 0x0)]⟩, -- FLT_WIN_CFG
  ⟨0x21100104, [(0x8, 16)], [⟨16, 16, .ro, 0x0⟩, ⟨0, 16, .ro, 0x0⟩], []⟩, -- FLT_WIN_STAT
  ⟨0x21110000, [(0x4, 11)], [⟨0, 32, .ro, 0x0⟩], []⟩ -- counters FLT_CELLAR_RECORDS to FLT_DEBUG_REFUSED
]

/-- Registers of CNT. -/
def rowsCNT0 : List RegRow := [
  ⟨0x21200000, [], [⟨31, 1, .wo, 0x0⟩, ⟨0, 16, .rw, 0xA⟩], []⟩, -- CNT_HARVEST
  ⟨0x21200004, [], [⟨0, 32, .rw, 0x101E0000⟩], []⟩, -- CNT_HARVEST_BASE
  ⟨0x21200008, [], [⟨31, 1, .ro, 0x0⟩, ⟨30, 1, .ro, 0x0⟩, ⟨16, 1, .ro, 0x0⟩, ⟨0, 16, .ro, 0x0⟩], []⟩, -- CNT_HARVEST_STATUS
  ⟨0x2120000C, [], [⟨0, 32, .ro, 0x0⟩], []⟩, -- CNT_HARVEST_SWEEP
  ⟨0x21200010, [], [⟨0, 1, .w1c, 0x0⟩], []⟩, -- CNT_EVENT
  ⟨0x21200020, [], [], []⟩, -- CNT_TD_SNAP
  ⟨0x21200100, [], [⟨0, 32, .ro, 0x0⟩], []⟩, -- CNT_TD_RETIRED_LO
  ⟨0x21200104, [], [⟨0, 32, .ro, 0x0⟩], []⟩, -- CNT_TD_RETIRED_HI
  ⟨0x21200108, [], [⟨0, 32, .ro, 0x0⟩], []⟩, -- CNT_TD_WASTED_LO
  ⟨0x2120010C, [], [⟨0, 32, .ro, 0x0⟩], []⟩, -- CNT_TD_WASTED_HI
  ⟨0x21200110, [], [⟨0, 32, .ro, 0x0⟩], []⟩, -- CNT_TD_FRONT_LO
  ⟨0x21200114, [], [⟨0, 32, .ro, 0x0⟩], []⟩, -- CNT_TD_FRONT_HI
  ⟨0x21200118, [], [⟨0, 32, .ro, 0x0⟩], []⟩, -- CNT_TD_BACK_LO
  ⟨0x2120011C, [], [⟨0, 32, .ro, 0x0⟩], []⟩, -- CNT_TD_BACK_HI
  ⟨0x21200120, [], [⟨0, 32, .ro, 0x0⟩], []⟩, -- CNT_TD_TOTAL_LO
  ⟨0x21200124, [], [⟨0, 32, .ro, 0x0⟩], []⟩ -- CNT_TD_TOTAL_HI
]

/-- The registers of the block that holds an address (Table 0-6). -/
def blockRows (addr : Nat) : List RegRow :=
  match (addr / 0x100000) % 0x1000 with
  | 0x201 => rowsDEV0
  | 0x202 => rowsCFG0
  | 0x203 => rowsTSU0 ++ rowsTSU1 ++ rowsTSU2
  | 0x204 => rowsMAC0
  | 0x205 => rowsFWD0 ++ rowsFWD1
  | 0x206 => rowsSCT0 ++ rowsSCT1
  | 0x207 => rowsBUF0 ++ rowsBUF1
  | 0x208 => rowsEGS0 ++ rowsEGS1
  | 0x209 => rowsAUD0 ++ rowsAUD1 ++ rowsAUD2
  | 0x20A => rowsCAN0 ++ rowsCAN1
  | 0x20B => rowsSER0
  | 0x20C => rowsGLV0
  | 0x20D => rowsCPH0 ++ rowsCPH1
  | 0x20E => rowsQLB0
  | 0x20F => rowsWAK0 ++ rowsWAK1
  | 0x210 => rowsENG0 ++ rowsENG1
  | 0x211 => rowsFLT0
  | 0x212 => rowsCNT0
  | _ => []

/-- Whether an offset from a first instance is an instance: the strides are nested. -/
def inDims : Nat → List (Nat × Nat) → Bool
  | off, [] => off == 0
  | off, (stride, count) :: rest => decide (off / stride < count) && inDims (off % stride) rest

/-- Whether a row holds the register at an address. -/
def RegRow.holds (r : RegRow) (addr : Nat) : Bool := decide (r.base ≤ addr) && inDims (addr - r.base) r.dims

/-- The row of the register at an address, if there is a register there. -/
def regRow? (addr : Nat) : Option RegRow := (blockRows addr).find? (·.holds addr)

/-- The outermost index of an instance. -/
def RegRow.index (r : RegRow) (addr : Nat) : Nat :=
  match r.dims with
  | [] => 0
  | (stride, _) :: _ => (addr - r.base) / stride

/-- The value of a row's fields after a cold reset. -/
def RegRow.resetAt (r : RegRow) (addr : Nat) : Nat :=
  match r.spans.find? (fun o => decide (o.1 ≤ r.index addr) && decide (r.index addr < o.2.1)) with
  | some o => o.2.2
  | none => r.fields.foldl (fun v f => v ||| (f.reset <<< f.lo)) 0

/-- The value of a register after a cold reset (00, Registers: the Reset column); 0 where there is no register. -/
def regReset (addr : Nat) : Word :=
  match regRow? addr with
  | some r => BitVec.ofNat 32 (r.resetAt addr)
  | none => 0

/-- The bits of the fields of the given access types. -/
def RegRow.mask (r : RegRow) (p : Access → Bool) : Nat :=
  r.fields.foldl (fun v f => if p f.acc then v ||| ((2 ^ f.w - 1) <<< f.lo) else v) 0

end Sys2Proof.Machine
end

