-- ==== Sys2Proof/Machine/Fields.lean ====
section
/-! DEFINITION. The names of the registers, of their fields and of the counters, as the register tables of the chapters give
them: `R.X` is an address, `F.X_FIELD` a field of register X, `C.X` the address of a counter. Rows of an indexed register take
the index; the registers 0x000 to 0x07F of ENG and FLT_LOG_DATA, of which each engine has its own (15, Table 15-11; 16, Table
16-9), take the engine. -/

namespace Sys2Proof.Machine

-- 02_configuration_image_and_vintage.md, Table 2-11
abbrev R.DEV_RESET_CAUSE : Nat := 0x20100010
abbrev F.DEV_RESET_CAUSE_SLOT_TRIES : Fld := ⟨R.DEV_RESET_CAUSE, 4, 4⟩
abbrev F.DEV_RESET_CAUSE_CAUSE : Fld := ⟨R.DEV_RESET_CAUSE, 0, 3⟩
-- 02_configuration_image_and_vintage.md, Table 2-14
abbrev R.CFG_STATUS : Nat := 0x20200000
abbrev F.CFG_STATUS_SCRUB_ON : Fld := ⟨R.CFG_STATUS, 6, 1⟩
abbrev F.CFG_STATUS_TRIAL : Fld := ⟨R.CFG_STATUS, 5, 1⟩
abbrev F.CFG_STATUS_BOOT_SLOT : Fld := ⟨R.CFG_STATUS, 4, 1⟩
abbrev F.CFG_STATUS_STATE : Fld := ⟨R.CFG_STATUS, 0, 4⟩
-- 02_configuration_image_and_vintage.md, Table 2-15
abbrev R.CFG_VINTAGE : Nat := 0x20200004
abbrev F.CFG_VINTAGE_EXP_VINTAGE : Fld := ⟨R.CFG_VINTAGE, 16, 16⟩
abbrev F.CFG_VINTAGE_NUMBER : Fld := ⟨R.CFG_VINTAGE, 0, 16⟩
abbrev R.CFG_FP_LO : Nat := 0x20200008
abbrev F.CFG_FP_LO_FP_LO : Fld := ⟨R.CFG_FP_LO, 0, 32⟩
abbrev R.CFG_FP_HI : Nat := 0x2020000C
abbrev F.CFG_FP_HI_FP_HI : Fld := ⟨R.CFG_FP_HI, 0, 32⟩
-- 02_configuration_image_and_vintage.md, Table 2-16
abbrev R.CFG_BRINGUP_TIME : Nat := 0x20200010
abbrev F.CFG_BRINGUP_TIME_US : Fld := ⟨R.CFG_BRINGUP_TIME, 0, 32⟩
-- 02_configuration_image_and_vintage.md, Table 2-17
abbrev R.CFG_SCRUB_STATUS : Nat := 0x20200020
abbrev F.CFG_SCRUB_STATUS_TRANSIENTS : Fld := ⟨R.CFG_SCRUB_STATUS, 24, 8⟩
abbrev F.CFG_SCRUB_STATUS_LAST_GROUP : Fld := ⟨R.CFG_SCRUB_STATUS, 8, 8⟩
abbrev F.CFG_SCRUB_STATUS_GROUPS : Fld := ⟨R.CFG_SCRUB_STATUS, 0, 8⟩
-- 02_configuration_image_and_vintage.md, Table 2-18
abbrev R.CFG_CENSUS_CFG : Nat := 0x20200030
abbrev F.CFG_CENSUS_CFG_AGE : Fld := ⟨R.CFG_CENSUS_CFG, 16, 16⟩
abbrev F.CFG_CENSUS_CFG_EXP_PEERS : Fld := ⟨R.CFG_CENSUS_CFG, 0, 7⟩
abbrev R.CFG_CENSUS_HOLD : Nat := 0x2020003C
abbrev F.CFG_CENSUS_HOLD_TRIAL_HOLD : Fld := ⟨R.CFG_CENSUS_HOLD, 16, 16⟩
abbrev F.CFG_CENSUS_HOLD_SETTLE : Fld := ⟨R.CFG_CENSUS_HOLD, 0, 16⟩
-- 02_configuration_image_and_vintage.md, Table 2-19
abbrev R.CFG_CENSUS_STATUS : Nat := 0x20200034
abbrev F.CFG_CENSUS_STATUS_CENSUS_OK : Fld := ⟨R.CFG_CENSUS_STATUS, 31, 1⟩
abbrev F.CFG_CENSUS_STATUS_OVERFLOW : Fld := ⟨R.CFG_CENSUS_STATUS, 24, 1⟩
abbrev F.CFG_CENSUS_STATUS_DISAGREE : Fld := ⟨R.CFG_CENSUS_STATUS, 16, 7⟩
abbrev F.CFG_CENSUS_STATUS_AGREE : Fld := ⟨R.CFG_CENSUS_STATUS, 8, 7⟩
abbrev F.CFG_CENSUS_STATUS_SEEN : Fld := ⟨R.CFG_CENSUS_STATUS, 0, 7⟩
-- 02_configuration_image_and_vintage.md, Table 2-20
abbrev R.CFG_EVENT : Nat := 0x20200038
abbrev F.CFG_EVENT_SCRUB_WRITE : Fld := ⟨R.CFG_EVENT, 3, 1⟩
abbrev F.CFG_EVENT_OVERFLOW : Fld := ⟨R.CFG_EVENT, 2, 1⟩
abbrev F.CFG_EVENT_AGREED : Fld := ⟨R.CFG_EVENT, 1, 1⟩
abbrev F.CFG_EVENT_DISCORD : Fld := ⟨R.CFG_EVENT, 0, 1⟩
-- 02_configuration_image_and_vintage.md, Table 2-21
abbrev R.CFG_STAGE_STATUS : Nat := 0x20200040
abbrev F.CFG_STAGE_STATUS_STATE : Fld := ⟨R.CFG_STAGE_STATUS, 28, 4⟩
abbrev F.CFG_STAGE_STATUS_SLOT : Fld := ⟨R.CFG_STAGE_STATUS, 25, 1⟩
abbrev F.CFG_STAGE_STATUS_BYTES : Fld := ⟨R.CFG_STAGE_STATUS, 0, 25⟩
-- 02_configuration_image_and_vintage.md, Table 2-22
abbrev R.CFG_STAGE_VINTAGE : Nat := 0x20200044
abbrev F.CFG_STAGE_VINTAGE_CAUSE : Fld := ⟨R.CFG_STAGE_VINTAGE, 24, 8⟩
abbrev F.CFG_STAGE_VINTAGE_NUMBER : Fld := ⟨R.CFG_STAGE_VINTAGE, 0, 16⟩
abbrev R.CFG_STAGE_FP_LO : Nat := 0x20200048
abbrev F.CFG_STAGE_FP_LO_FP_LO : Fld := ⟨R.CFG_STAGE_FP_LO, 0, 32⟩
abbrev R.CFG_STAGE_FP_HI : Nat := 0x2020004C
abbrev F.CFG_STAGE_FP_HI_FP_HI : Fld := ⟨R.CFG_STAGE_FP_HI, 0, 32⟩
-- 03_network_time.md, Table 3-8
abbrev R.TSU_CTRL : Nat := 0x20300000
abbrev F.TSU_CTRL_PAIR_GRACE : Fld := ⟨R.TSU_CTRL, 16, 16⟩
abbrev F.TSU_CTRL_LOAD_WT : Fld := ⟨R.TSU_CTRL, 10, 1⟩
abbrev F.TSU_CTRL_FORCE_STEP : Fld := ⟨R.TSU_CTRL, 9, 1⟩
abbrev F.TSU_CTRL_SNAP : Fld := ⟨R.TSU_CTRL, 8, 1⟩
abbrev F.TSU_CTRL_AUTO_HANDOVER : Fld := ⟨R.TSU_CTRL, 1, 1⟩
abbrev F.TSU_CTRL_WT_SRC : Fld := ⟨R.TSU_CTRL, 0, 1⟩
abbrev R.TSU_WT_STATUS : Nat := 0x20300004
abbrev F.TSU_WT_STATUS_MEDIA_LOCK : Fld := ⟨R.TSU_WT_STATUS, 8, 1⟩
abbrev F.TSU_WT_STATUS_PARTNER_MISMATCH : Fld := ⟨R.TSU_WT_STATUS, 5, 1⟩
abbrev F.TSU_WT_STATUS_SRC : Fld := ⟨R.TSU_WT_STATUS, 4, 1⟩
abbrev F.TSU_WT_STATUS_STATE : Fld := ⟨R.TSU_WT_STATUS, 0, 3⟩
abbrev R.TSU_WT_RESIDUAL : Nat := 0x20300008
abbrev F.TSU_WT_RESIDUAL_RESIDUAL : Fld := ⟨R.TSU_WT_RESIDUAL, 0, 32⟩
abbrev R.TSU_WT_SLEW : Nat := 0x2030000C
abbrev F.TSU_WT_SLEW_RAMP : Fld := ⟨R.TSU_WT_SLEW, 16, 16⟩
abbrev F.TSU_WT_SLEW_MAX : Fld := ⟨R.TSU_WT_SLEW, 0, 16⟩
abbrev R.TSU_WT_LIMIT : Nat := 0x20300010
abbrev F.TSU_WT_LIMIT_LIMIT : Fld := ⟨R.TSU_WT_LIMIT, 0, 32⟩
abbrev R.TSU_WT_LOAD_NS : Nat := 0x20300014
abbrev F.TSU_WT_LOAD_NS_NS : Fld := ⟨R.TSU_WT_LOAD_NS, 0, 32⟩
abbrev R.TSU_WT_LOAD_S_LO : Nat := 0x20300018
abbrev F.TSU_WT_LOAD_S_LO_S_LO : Fld := ⟨R.TSU_WT_LOAD_S_LO, 0, 32⟩
abbrev R.TSU_WT_LOAD_S_HI : Nat := 0x2030001C
abbrev F.TSU_WT_LOAD_S_HI_S_HI : Fld := ⟨R.TSU_WT_LOAD_S_HI, 0, 16⟩
abbrev R.TSU_EVENT : Nat := 0x20300020
abbrev F.TSU_EVENT_EV : Fld := ⟨R.TSU_EVENT, 0, 9⟩
abbrev R.TSU_MEDIA_STATUS : Nat := 0x20300024
abbrev F.TSU_MEDIA_STATUS_PHASE_ERR : Fld := ⟨R.TSU_MEDIA_STATUS, 0, 16⟩
-- 03_network_time.md, Table 3-9
abbrev R.TSU_DC_CTRL (n : Nat) : Nat := 0x20300100 + n * 0x20
abbrev F.TSU_DC_CTRL_SYNC_TIMEOUT (n : Nat) : Fld := ⟨R.TSU_DC_CTRL n, 16, 16⟩
abbrev F.TSU_DC_CTRL_USABLE (n : Nat) : Fld := ⟨R.TSU_DC_CTRL n, 8, 1⟩
abbrev F.TSU_DC_CTRL_DOMAIN_NUMBER (n : Nat) : Fld := ⟨R.TSU_DC_CTRL n, 0, 8⟩
abbrev R.TSU_DC_RATE (n : Nat) : Nat := 0x20300104 + n * 0x20
abbrev F.TSU_DC_RATE_RATE (n : Nat) : Fld := ⟨R.TSU_DC_RATE n, 0, 32⟩
abbrev R.TSU_DC_STEP_NS (n : Nat) : Nat := 0x20300108 + n * 0x20
abbrev F.TSU_DC_STEP_NS_NS (n : Nat) : Fld := ⟨R.TSU_DC_STEP_NS n, 0, 32⟩
abbrev R.TSU_DC_STEP_FRAC (n : Nat) : Nat := 0x2030010C + n * 0x20
abbrev F.TSU_DC_STEP_FRAC_FRAC (n : Nat) : Fld := ⟨R.TSU_DC_STEP_FRAC n, 0, 16⟩
abbrev R.TSU_DC_STEP_S (n : Nat) : Nat := 0x20300110 + n * 0x20
abbrev F.TSU_DC_STEP_S_S (n : Nat) : Fld := ⟨R.TSU_DC_STEP_S n, 0, 32⟩
abbrev R.TSU_DC_SYNC_AGE (n : Nat) : Nat := 0x20300114 + n * 0x20
abbrev F.TSU_DC_SYNC_AGE_AGE (n : Nat) : Fld := ⟨R.TSU_DC_SYNC_AGE n, 0, 16⟩
-- 03_network_time.md, Table 3-10
abbrev R.TSU_SNAP_LC_NS : Nat := 0x20300200
abbrev F.TSU_SNAP_LC_NS_NS : Fld := ⟨R.TSU_SNAP_LC_NS, 0, 32⟩
abbrev R.TSU_SNAP_LC_S_LO : Nat := 0x20300204
abbrev F.TSU_SNAP_LC_S_LO_S_LO : Fld := ⟨R.TSU_SNAP_LC_S_LO, 0, 32⟩
abbrev R.TSU_SNAP_LC_S_HI : Nat := 0x20300208
abbrev F.TSU_SNAP_LC_S_HI_S_HI : Fld := ⟨R.TSU_SNAP_LC_S_HI, 0, 16⟩
abbrev R.TSU_SNAP_DC0_NS : Nat := 0x2030020C
abbrev F.TSU_SNAP_DC0_NS_NS : Fld := ⟨R.TSU_SNAP_DC0_NS, 0, 32⟩
abbrev R.TSU_SNAP_DC0_S_LO : Nat := 0x20300210
abbrev F.TSU_SNAP_DC0_S_LO_S_LO : Fld := ⟨R.TSU_SNAP_DC0_S_LO, 0, 32⟩
abbrev R.TSU_SNAP_DC0_S_HI : Nat := 0x20300214
abbrev F.TSU_SNAP_DC0_S_HI_S_HI : Fld := ⟨R.TSU_SNAP_DC0_S_HI, 0, 16⟩
abbrev R.TSU_SNAP_DC1_NS : Nat := 0x20300218
abbrev F.TSU_SNAP_DC1_NS_NS : Fld := ⟨R.TSU_SNAP_DC1_NS, 0, 32⟩
abbrev R.TSU_SNAP_DC1_S_LO : Nat := 0x2030021C
abbrev F.TSU_SNAP_DC1_S_LO_S_LO : Fld := ⟨R.TSU_SNAP_DC1_S_LO, 0, 32⟩
abbrev R.TSU_SNAP_DC1_S_HI : Nat := 0x20300220
abbrev F.TSU_SNAP_DC1_S_HI_S_HI : Fld := ⟨R.TSU_SNAP_DC1_S_HI, 0, 16⟩
abbrev R.TSU_SNAP_WT_NS : Nat := 0x20300224
abbrev F.TSU_SNAP_WT_NS_NS : Fld := ⟨R.TSU_SNAP_WT_NS, 0, 32⟩
abbrev R.TSU_SNAP_WT_S_LO : Nat := 0x20300228
abbrev F.TSU_SNAP_WT_S_LO_S_LO : Fld := ⟨R.TSU_SNAP_WT_S_LO, 0, 32⟩
abbrev R.TSU_SNAP_WT_S_HI : Nat := 0x2030022C
abbrev F.TSU_SNAP_WT_S_HI_S_HI : Fld := ⟨R.TSU_SNAP_WT_S_HI, 0, 16⟩
abbrev R.TSU_SNAP_ESI_LO : Nat := 0x20300230
abbrev F.TSU_SNAP_ESI_LO_ESI : Fld := ⟨R.TSU_SNAP_ESI_LO, 0, 32⟩
abbrev R.TSU_SNAP_ESI_HI : Nat := 0x20300234
abbrev F.TSU_SNAP_ESI_HI_ESI : Fld := ⟨R.TSU_SNAP_ESI_HI, 0, 32⟩
abbrev R.TSU_SNAP_STATE : Nat := 0x20300238
abbrev F.TSU_SNAP_STATE_VALID : Fld := ⟨R.TSU_SNAP_STATE, 31, 1⟩
abbrev F.TSU_SNAP_STATE_SRC : Fld := ⟨R.TSU_SNAP_STATE, 4, 1⟩
abbrev F.TSU_SNAP_STATE_STATE : Fld := ⟨R.TSU_SNAP_STATE, 0, 3⟩
-- 03_network_time.md, Table 3-11
abbrev R.TSU_P_RX_LAT (n : Nat) : Nat := 0x20300400 + n * 0x40
abbrev F.TSU_P_RX_LAT_LAT (n : Nat) : Fld := ⟨R.TSU_P_RX_LAT n, 0, 20⟩
abbrev R.TSU_P_TX_LAT (n : Nat) : Nat := 0x20300404 + n * 0x40
abbrev F.TSU_P_TX_LAT_LAT (n : Nat) : Fld := ⟨R.TSU_P_TX_LAT n, 0, 20⟩
abbrev R.TSU_P_MEAN_DELAY (n : Nat) : Nat := 0x20300408 + n * 0x40
abbrev F.TSU_P_MEAN_DELAY_DELAY (n : Nat) : Fld := ⟨R.TSU_P_MEAN_DELAY n, 0, 24⟩
abbrev R.TSU_P_ASYM (n : Nat) : Nat := 0x2030040C + n * 0x40
abbrev F.TSU_P_ASYM_ASYM (n : Nat) : Fld := ⟨R.TSU_P_ASYM n, 0, 32⟩
abbrev R.TSU_P_CTRL (n : Nat) : Nat := 0x20300410 + n * 0x40
abbrev F.TSU_P_CTRL_CAL_LOOP (n : Nat) : Fld := ⟨R.TSU_P_CTRL n, 2, 1⟩
abbrev F.TSU_P_CTRL_TC_EN (n : Nat) : Fld := ⟨R.TSU_P_CTRL n, 1, 1⟩
abbrev F.TSU_P_CTRL_ING_EN (n : Nat) : Fld := ⟨R.TSU_P_CTRL n, 0, 1⟩
abbrev R.TSU_P_QSTAT (n : Nat) : Nat := 0x20300414 + n * 0x40
abbrev F.TSU_P_QSTAT_CAL_DONE (n : Nat) : Fld := ⟨R.TSU_P_QSTAT n, 24, 1⟩
abbrev F.TSU_P_QSTAT_EQ_GAP_PENDING (n : Nat) : Fld := ⟨R.TSU_P_QSTAT n, 17, 1⟩
abbrev F.TSU_P_QSTAT_IQ_GAP_PENDING (n : Nat) : Fld := ⟨R.TSU_P_QSTAT n, 16, 1⟩
abbrev F.TSU_P_QSTAT_EQ_FILL (n : Nat) : Fld := ⟨R.TSU_P_QSTAT n, 8, 6⟩
abbrev F.TSU_P_QSTAT_IQ_FILL (n : Nat) : Fld := ⟨R.TSU_P_QSTAT n, 0, 6⟩
abbrev R.TSU_P_IQ_LOST (n : Nat) : Nat := 0x20300418 + n * 0x40
abbrev F.TSU_P_IQ_LOST_LOST (n : Nat) : Fld := ⟨R.TSU_P_IQ_LOST n, 0, 32⟩
abbrev R.TSU_P_EQ_LOST (n : Nat) : Nat := 0x2030041C + n * 0x40
abbrev F.TSU_P_EQ_LOST_LOST (n : Nat) : Fld := ⟨R.TSU_P_EQ_LOST n, 0, 32⟩
abbrev R.TSU_P_IQ_HEAD0 (n : Nat) : Nat := 0x20300420 + n * 0x40
abbrev F.TSU_P_IQ_HEAD0_ENTRY (n : Nat) : Fld := ⟨R.TSU_P_IQ_HEAD0 n, 0, 32⟩
abbrev R.TSU_P_IQ_HEAD1 (n : Nat) : Nat := 0x20300424 + n * 0x40
abbrev F.TSU_P_IQ_HEAD1_ENTRY (n : Nat) : Fld := ⟨R.TSU_P_IQ_HEAD1 n, 0, 32⟩
abbrev R.TSU_P_IQ_HEAD2 (n : Nat) : Nat := 0x20300428 + n * 0x40
abbrev F.TSU_P_IQ_HEAD2_ENTRY (n : Nat) : Fld := ⟨R.TSU_P_IQ_HEAD2 n, 0, 32⟩
abbrev R.TSU_P_IQ_HEAD3 (n : Nat) : Nat := 0x2030042C + n * 0x40
abbrev F.TSU_P_IQ_HEAD3_ENTRY (n : Nat) : Fld := ⟨R.TSU_P_IQ_HEAD3 n, 0, 32⟩
abbrev R.TSU_P_EQ_HEAD0 (n : Nat) : Nat := 0x20300430 + n * 0x40
abbrev F.TSU_P_EQ_HEAD0_ENTRY (n : Nat) : Fld := ⟨R.TSU_P_EQ_HEAD0 n, 0, 32⟩
abbrev R.TSU_P_EQ_HEAD1 (n : Nat) : Nat := 0x20300434 + n * 0x40
abbrev F.TSU_P_EQ_HEAD1_ENTRY (n : Nat) : Fld := ⟨R.TSU_P_EQ_HEAD1 n, 0, 32⟩
abbrev R.TSU_P_EQ_HEAD2 (n : Nat) : Nat := 0x20300438 + n * 0x40
abbrev F.TSU_P_EQ_HEAD2_ENTRY (n : Nat) : Fld := ⟨R.TSU_P_EQ_HEAD2 n, 0, 32⟩
abbrev R.TSU_P_EQ_HEAD3 (n : Nat) : Nat := 0x2030043C + n * 0x40
abbrev F.TSU_P_EQ_HEAD3_ENTRY (n : Nat) : Fld := ⟨R.TSU_P_EQ_HEAD3 n, 0, 32⟩
-- 03_network_time.md, Table 3-12
abbrev R.TSU_PLS_CTRL (n : Nat) : Nat := 0x20300A00 + n * 0x20
abbrev F.TSU_PLS_CTRL_MEDIA_DIV (n : Nat) : Fld := ⟨R.TSU_PLS_CTRL n, 16, 16⟩
abbrev F.TSU_PLS_CTRL_ACTIVE (n : Nat) : Fld := ⟨R.TSU_PLS_CTRL n, 5, 1⟩
abbrev F.TSU_PLS_CTRL_POLARITY (n : Nat) : Fld := ⟨R.TSU_PLS_CTRL n, 4, 1⟩
abbrev F.TSU_PLS_CTRL_CLOCK (n : Nat) : Fld := ⟨R.TSU_PLS_CTRL n, 2, 2⟩
abbrev F.TSU_PLS_CTRL_MODE (n : Nat) : Fld := ⟨R.TSU_PLS_CTRL n, 0, 2⟩
abbrev R.TSU_PLS_START_NS (n : Nat) : Nat := 0x20300A04 + n * 0x20
abbrev F.TSU_PLS_START_NS_START (n : Nat) : Fld := ⟨R.TSU_PLS_START_NS n, 0, 32⟩
abbrev R.TSU_PLS_START_S_LO (n : Nat) : Nat := 0x20300A08 + n * 0x20
abbrev F.TSU_PLS_START_S_LO_START (n : Nat) : Fld := ⟨R.TSU_PLS_START_S_LO n, 0, 32⟩
abbrev R.TSU_PLS_START_S_HI (n : Nat) : Nat := 0x20300A0C + n * 0x20
abbrev F.TSU_PLS_START_S_HI_START (n : Nat) : Fld := ⟨R.TSU_PLS_START_S_HI n, 0, 16⟩
abbrev R.TSU_PLS_PERIOD (n : Nat) : Nat := 0x20300A10 + n * 0x20
abbrev F.TSU_PLS_PERIOD_PERIOD (n : Nat) : Fld := ⟨R.TSU_PLS_PERIOD n, 0, 32⟩
abbrev R.TSU_PLS_WIDTH (n : Nat) : Nat := 0x20300A14 + n * 0x20
abbrev F.TSU_PLS_WIDTH_WIDTH (n : Nat) : Fld := ⟨R.TSU_PLS_WIDTH n, 0, 32⟩
abbrev R.TSU_CAP_CTRL (n : Nat) : Nat := 0x20300B00 + n * 0x20
abbrev F.TSU_CAP_CTRL_FILTER (n : Nat) : Fld := ⟨R.TSU_CAP_CTRL n, 8, 8⟩
abbrev F.TSU_CAP_CTRL_EDGE (n : Nat) : Fld := ⟨R.TSU_CAP_CTRL n, 0, 2⟩
abbrev R.TSU_CAP_HEAD0 (n : Nat) : Nat := 0x20300B04 + n * 0x20
abbrev F.TSU_CAP_HEAD0_ENTRY (n : Nat) : Fld := ⟨R.TSU_CAP_HEAD0 n, 0, 32⟩
abbrev R.TSU_CAP_HEAD1 (n : Nat) : Nat := 0x20300B08 + n * 0x20
abbrev F.TSU_CAP_HEAD1_ENTRY (n : Nat) : Fld := ⟨R.TSU_CAP_HEAD1 n, 0, 32⟩
abbrev R.TSU_CAP_HEAD2 (n : Nat) : Nat := 0x20300B0C + n * 0x20
abbrev F.TSU_CAP_HEAD2_ENTRY (n : Nat) : Fld := ⟨R.TSU_CAP_HEAD2 n, 0, 32⟩
abbrev R.TSU_CAP_HEAD3 (n : Nat) : Nat := 0x20300B10 + n * 0x20
abbrev F.TSU_CAP_HEAD3_ENTRY (n : Nat) : Fld := ⟨R.TSU_CAP_HEAD3 n, 0, 32⟩
abbrev R.TSU_CAP_LOST (n : Nat) : Nat := 0x20300B14 + n * 0x20
abbrev F.TSU_CAP_LOST_LOST (n : Nat) : Fld := ⟨R.TSU_CAP_LOST n, 0, 32⟩
abbrev R.TSU_SKEW_CTRL : Nat := 0x20300C00
abbrev F.TSU_SKEW_CTRL_DIV : Fld := ⟨R.TSU_SKEW_CTRL, 0, 16⟩
abbrev R.TSU_SKEW_HEAD0 : Nat := 0x20300C04
abbrev F.TSU_SKEW_HEAD0_ENTRY : Fld := ⟨R.TSU_SKEW_HEAD0, 0, 32⟩
abbrev R.TSU_SKEW_HEAD1 : Nat := 0x20300C08
abbrev F.TSU_SKEW_HEAD1_ENTRY : Fld := ⟨R.TSU_SKEW_HEAD1, 0, 32⟩
abbrev R.TSU_SKEW_HEAD2 : Nat := 0x20300C0C
abbrev F.TSU_SKEW_HEAD2_ENTRY : Fld := ⟨R.TSU_SKEW_HEAD2, 0, 32⟩
abbrev R.TSU_SKEW_HEAD3 : Nat := 0x20300C10
abbrev F.TSU_SKEW_HEAD3_ENTRY : Fld := ⟨R.TSU_SKEW_HEAD3, 0, 32⟩
abbrev R.TSU_SKEW_LOST : Nat := 0x20300C14
abbrev F.TSU_SKEW_LOST_LOST : Fld := ⟨R.TSU_SKEW_LOST, 0, 32⟩
-- 04_ethernet_ports.md, Table 4-7
abbrev R.MAC_CTRL (n : Nat) : Nat := 0x20400000 + n * 0x1000
abbrev F.MAC_CTRL_DEI_ENCODE (n : Nat) : Fld := ⟨R.MAC_CTRL n, 24, 1⟩
abbrev F.MAC_CTRL_ADD_FRAG (n : Nat) : Fld := ⟨R.MAC_CTRL n, 22, 2⟩
abbrev F.MAC_CTRL_VERIFY_DIS (n : Nat) : Fld := ⟨R.MAC_CTRL n, 21, 1⟩
abbrev F.MAC_CTRL_PREEMPT_EN (n : Nat) : Fld := ⟨R.MAC_CTRL n, 20, 1⟩
abbrev F.MAC_CTRL_PFC_EN (n : Nat) : Fld := ⟨R.MAC_CTRL n, 19, 1⟩
abbrev F.MAC_CTRL_PAUSE_TX_EN (n : Nat) : Fld := ⟨R.MAC_CTRL n, 18, 1⟩
abbrev F.MAC_CTRL_PAUSE_RX_EN (n : Nat) : Fld := ⟨R.MAC_CTRL n, 17, 1⟩
abbrev F.MAC_CTRL_GFILTER_EN (n : Nat) : Fld := ⟨R.MAC_CTRL n, 16, 1⟩
abbrev F.MAC_CTRL_RX_POL_INV (n : Nat) : Fld := ⟨R.MAC_CTRL n, 15, 1⟩
abbrev F.MAC_CTRL_TX_POL_INV (n : Nat) : Fld := ⟨R.MAC_CTRL n, 14, 1⟩
abbrev F.MAC_CTRL_RGMII_RXID (n : Nat) : Fld := ⟨R.MAC_CTRL n, 13, 1⟩
abbrev F.MAC_CTRL_RGMII_TXID (n : Nat) : Fld := ⟨R.MAC_CTRL n, 12, 1⟩
abbrev F.MAC_CTRL_AN_EN (n : Nat) : Fld := ⟨R.MAC_CTRL n, 11, 1⟩
abbrev F.MAC_CTRL_SPEED (n : Nat) : Fld := ⟨R.MAC_CTRL n, 8, 3⟩
abbrev F.MAC_CTRL_MODE (n : Nat) : Fld := ⟨R.MAC_CTRL n, 4, 4⟩
abbrev F.MAC_CTRL_ENABLE (n : Nat) : Fld := ⟨R.MAC_CTRL n, 0, 1⟩
abbrev R.MAC_STATUS (n : Nat) : Nat := 0x20400004 + n * 0x1000
abbrev F.MAC_STATUS_KR_STATE (n : Nat) : Fld := ⟨R.MAC_STATUS n, 22, 2⟩
abbrev F.MAC_STATUS_PLCA_COORD (n : Nat) : Fld := ⟨R.MAC_STATUS n, 21, 1⟩
abbrev F.MAC_STATUS_PLCA_STATUS (n : Nat) : Fld := ⟨R.MAC_STATUS n, 20, 1⟩
abbrev F.MAC_STATUS_VERIFY_STATE (n : Nat) : Fld := ⟨R.MAC_STATUS n, 17, 3⟩
abbrev F.MAC_STATUS_PAUSE_IGNORED (n : Nat) : Fld := ⟨R.MAC_STATUS n, 16, 1⟩
abbrev F.MAC_STATUS_PAUSED (n : Nat) : Fld := ⟨R.MAC_STATUS n, 8, 8⟩
abbrev F.MAC_STATUS_TX_ON (n : Nat) : Fld := ⟨R.MAC_STATUS n, 5, 1⟩
abbrev F.MAC_STATUS_MODE_ERR (n : Nat) : Fld := ⟨R.MAC_STATUS n, 4, 1⟩
abbrev F.MAC_STATUS_SPEED_ACT (n : Nat) : Fld := ⟨R.MAC_STATUS n, 1, 3⟩
abbrev F.MAC_STATUS_LINK_UP (n : Nat) : Fld := ⟨R.MAC_STATUS n, 0, 1⟩
abbrev R.MAC_MAXFRAME (n : Nat) : Nat := 0x20400008 + n * 0x1000
abbrev F.MAC_MAXFRAME_MAX_FRAME (n : Nat) : Fld := ⟨R.MAC_MAXFRAME n, 0, 14⟩
abbrev R.MAC_TAG (n : Nat) : Nat := 0x2040000C + n * 0x1000
abbrev F.MAC_TAG_PORT_TYPE (n : Nat) : Fld := ⟨R.MAC_TAG n, 18, 2⟩
abbrev F.MAC_TAG_ACCEPT (n : Nat) : Fld := ⟨R.MAC_TAG n, 16, 2⟩
abbrev F.MAC_TAG_DEF_PCP (n : Nat) : Fld := ⟨R.MAC_TAG n, 12, 3⟩
abbrev F.MAC_TAG_PVID (n : Nat) : Fld := ⟨R.MAC_TAG n, 0, 12⟩
abbrev R.MAC_PAUSE (n : Nat) : Nat := 0x20400010 + n * 0x1000
abbrev F.MAC_PAUSE_REFRESH (n : Nat) : Fld := ⟨R.MAC_PAUSE n, 16, 16⟩
abbrev F.MAC_PAUSE_TX_QUANTA (n : Nat) : Fld := ⟨R.MAC_PAUSE n, 0, 16⟩
abbrev R.MAC_PAUSE_WD (n : Nat) : Nat := 0x20400014 + n * 0x1000
abbrev F.MAC_PAUSE_WD_HOLD (n : Nat) : Fld := ⟨R.MAC_PAUSE_WD n, 16, 16⟩
abbrev F.MAC_PAUSE_WD_LIMIT (n : Nat) : Fld := ⟨R.MAC_PAUSE_WD n, 0, 16⟩
abbrev R.MAC_PLCA (n : Nat) : Nat := 0x20400018 + n * 0x1000
abbrev F.MAC_PLCA_MAX_BC (n : Nat) : Fld := ⟨R.MAC_PLCA n, 24, 8⟩
abbrev F.MAC_PLCA_TO_TIMER (n : Nat) : Fld := ⟨R.MAC_PLCA n, 16, 8⟩
abbrev F.MAC_PLCA_NODE_COUNT (n : Nat) : Fld := ⟨R.MAC_PLCA n, 8, 5⟩
abbrev F.MAC_PLCA_NODE_ID_NC (n : Nat) : Fld := ⟨R.MAC_PLCA n, 4, 4⟩
abbrev F.MAC_PLCA_PLCA_EN (n : Nat) : Fld := ⟨R.MAC_PLCA n, 0, 1⟩
abbrev R.MAC_PLCA_BURST (n : Nat) : Nat := 0x2040001C + n * 0x1000
abbrev F.MAC_PLCA_BURST_BURST_TMR (n : Nat) : Fld := ⟨R.MAC_PLCA_BURST n, 0, 8⟩
abbrev R.MAC_GHASH0 (n : Nat) : Nat := 0x20400020 + n * 0x1000
abbrev F.MAC_GHASH0_HASH (n : Nat) : Fld := ⟨R.MAC_GHASH0 n, 0, 32⟩
abbrev R.MAC_GHASH1 (n : Nat) : Nat := 0x20400024 + n * 0x1000
abbrev F.MAC_GHASH1_HASH (n : Nat) : Fld := ⟨R.MAC_GHASH1 n, 0, 32⟩
abbrev R.MAC_GHASH2 (n : Nat) : Nat := 0x20400028 + n * 0x1000
abbrev F.MAC_GHASH2_HASH (n : Nat) : Fld := ⟨R.MAC_GHASH2 n, 0, 32⟩
abbrev R.MAC_GHASH3 (n : Nat) : Nat := 0x2040002C + n * 0x1000
abbrev F.MAC_GHASH3_HASH (n : Nat) : Fld := ⟨R.MAC_GHASH3 n, 0, 32⟩
abbrev R.MAC_GHASH4 (n : Nat) : Nat := 0x20400030 + n * 0x1000
abbrev F.MAC_GHASH4_HASH (n : Nat) : Fld := ⟨R.MAC_GHASH4 n, 0, 32⟩
abbrev R.MAC_GHASH5 (n : Nat) : Nat := 0x20400034 + n * 0x1000
abbrev F.MAC_GHASH5_HASH (n : Nat) : Fld := ⟨R.MAC_GHASH5 n, 0, 32⟩
abbrev R.MAC_GHASH6 (n : Nat) : Nat := 0x20400038 + n * 0x1000
abbrev F.MAC_GHASH6_HASH (n : Nat) : Fld := ⟨R.MAC_GHASH6 n, 0, 32⟩
abbrev R.MAC_GHASH7 (n : Nat) : Nat := 0x2040003C + n * 0x1000
abbrev F.MAC_GHASH7_HASH (n : Nat) : Fld := ⟨R.MAC_GHASH7 n, 0, 32⟩
abbrev R.MAC_SERDES (n : Nat) : Nat := 0x20400040 + n * 0x1000
abbrev F.MAC_SERDES_TX_POST (n : Nat) : Fld := ⟨R.MAC_SERDES n, 11, 5⟩
abbrev F.MAC_SERDES_TX_MAIN (n : Nat) : Fld := ⟨R.MAC_SERDES n, 5, 6⟩
abbrev F.MAC_SERDES_TX_PRE (n : Nat) : Fld := ⟨R.MAC_SERDES n, 0, 5⟩
abbrev R.MAC_EVENT (n : Nat) : Nat := 0x20400048 + n * 0x1000
abbrev F.MAC_EVENT_EV (n : Nat) : Fld := ⟨R.MAC_EVENT n, 0, 7⟩
-- 04_ethernet_ports.md, Table 4-9
abbrev R.MAC_S_TPID : Nat := 0x20420000
abbrev F.MAC_S_TPID_TPID : Fld := ⟨R.MAC_S_TPID, 0, 16⟩
abbrev R.MAC_MDIO_CMD : Nat := 0x20420004
abbrev F.MAC_MDIO_CMD_DIV : Fld := ⟨R.MAC_MDIO_CMD, 24, 8⟩
abbrev F.MAC_MDIO_CMD_BUSY : Fld := ⟨R.MAC_MDIO_CMD, 15, 1⟩
abbrev F.MAC_MDIO_CMD_START : Fld := ⟨R.MAC_MDIO_CMD, 14, 1⟩
abbrev F.MAC_MDIO_CMD_CL45 : Fld := ⟨R.MAC_MDIO_CMD, 13, 1⟩
abbrev F.MAC_MDIO_CMD_OP : Fld := ⟨R.MAC_MDIO_CMD, 11, 2⟩
abbrev F.MAC_MDIO_CMD_PHYAD : Fld := ⟨R.MAC_MDIO_CMD, 6, 5⟩
abbrev F.MAC_MDIO_CMD_REG : Fld := ⟨R.MAC_MDIO_CMD, 0, 5⟩
abbrev R.MAC_MDIO_DATA : Nat := 0x20420008
abbrev F.MAC_MDIO_DATA_DATA : Fld := ⟨R.MAC_MDIO_DATA, 0, 16⟩
abbrev R.MAC_LINK_SUMMARY : Nat := 0x2042000C
abbrev F.MAC_LINK_SUMMARY_LINK : Fld := ⟨R.MAC_LINK_SUMMARY, 0, 24⟩
-- 05_ingress_and_forwarding.md, Table 5-9
abbrev R.FWD_STAGE0 : Nat := 0x20500000
abbrev F.FWD_STAGE0_WORD : Fld := ⟨R.FWD_STAGE0, 0, 32⟩
abbrev R.FWD_STAGE1 : Nat := 0x20500004
abbrev F.FWD_STAGE1_WORD : Fld := ⟨R.FWD_STAGE1, 0, 32⟩
abbrev R.FWD_STAGE2 : Nat := 0x20500008
abbrev F.FWD_STAGE2_WORD : Fld := ⟨R.FWD_STAGE2, 0, 32⟩
abbrev R.FWD_STAGE3 : Nat := 0x2050000C
abbrev F.FWD_STAGE3_WORD : Fld := ⟨R.FWD_STAGE3, 0, 32⟩
abbrev R.FWD_STAGE4 : Nat := 0x20500010
abbrev F.FWD_STAGE4_WORD : Fld := ⟨R.FWD_STAGE4, 0, 32⟩
abbrev R.FWD_STAGE5 : Nat := 0x20500014
abbrev F.FWD_STAGE5_WORD : Fld := ⟨R.FWD_STAGE5, 0, 32⟩
abbrev R.FWD_STAGE6 : Nat := 0x20500018
abbrev F.FWD_STAGE6_WORD : Fld := ⟨R.FWD_STAGE6, 0, 32⟩
abbrev R.FWD_STAGE7 : Nat := 0x2050001C
abbrev F.FWD_STAGE7_WORD : Fld := ⟨R.FWD_STAGE7, 0, 32⟩
abbrev R.FWD_COMMIT : Nat := 0x20500020
abbrev F.FWD_COMMIT_TABLE : Fld := ⟨R.FWD_COMMIT, 28, 4⟩
abbrev F.FWD_COMMIT_OP : Fld := ⟨R.FWD_COMMIT, 26, 2⟩
abbrev F.FWD_COMMIT_INDEX : Fld := ⟨R.FWD_COMMIT, 0, 12⟩
abbrev R.FWD_COMMIT_STATUS : Nat := 0x20500024
abbrev F.FWD_COMMIT_STATUS_WHERE : Fld := ⟨R.FWD_COMMIT_STATUS, 16, 16⟩
abbrev F.FWD_COMMIT_STATUS_IN_STASH : Fld := ⟨R.FWD_COMMIT_STATUS, 2, 1⟩
abbrev F.FWD_COMMIT_STATUS_RESULT : Fld := ⟨R.FWD_COMMIT_STATUS, 0, 2⟩
abbrev R.FWD_SEED_CUR0 : Nat := 0x20500030
abbrev F.FWD_SEED_CUR0_SEED : Fld := ⟨R.FWD_SEED_CUR0, 0, 32⟩
abbrev R.FWD_SEED_CUR1 : Nat := 0x20500034
abbrev F.FWD_SEED_CUR1_SEED : Fld := ⟨R.FWD_SEED_CUR1, 0, 32⟩
abbrev R.FWD_SEED_NEXT0 : Nat := 0x20500038
abbrev F.FWD_SEED_NEXT0_SEED : Fld := ⟨R.FWD_SEED_NEXT0, 0, 32⟩
abbrev R.FWD_SEED_NEXT1 : Nat := 0x2050003C
abbrev F.FWD_SEED_NEXT1_SEED : Fld := ⟨R.FWD_SEED_NEXT1, 0, 32⟩
abbrev R.FWD_MIGRATE : Nat := 0x20500040
abbrev F.FWD_MIGRATE_REMAIN : Fld := ⟨R.FWD_MIGRATE, 16, 16⟩
abbrev F.FWD_MIGRATE_STATE : Fld := ⟨R.FWD_MIGRATE, 1, 2⟩
abbrev F.FWD_MIGRATE_START : Fld := ⟨R.FWD_MIGRATE, 0, 1⟩
abbrev R.FWD_REHASH_KEY_LO : Nat := 0x20500044
abbrev F.FWD_REHASH_KEY_LO_MAC_LO : Fld := ⟨R.FWD_REHASH_KEY_LO, 0, 32⟩
abbrev R.FWD_REHASH_KEY_HI : Nat := 0x20500048
abbrev F.FWD_REHASH_KEY_HI_MAC_HI : Fld := ⟨R.FWD_REHASH_KEY_HI, 0, 16⟩
abbrev F.FWD_REHASH_KEY_HI_FID : Fld := ⟨R.FWD_REHASH_KEY_HI, 16, 6⟩
abbrev F.FWD_REHASH_KEY_HI_STASH_USED : Fld := ⟨R.FWD_REHASH_KEY_HI, 24, 4⟩
abbrev R.FWD_AGE : Nat := 0x2050004C
abbrev F.FWD_AGE_AGE_TIME : Fld := ⟨R.FWD_AGE, 0, 16⟩
abbrev R.FWD_FLUSH : Nat := 0x20500050
abbrev F.FWD_FLUSH_START : Fld := ⟨R.FWD_FLUSH, 31, 1⟩
abbrev F.FWD_FLUSH_BUSY : Fld := ⟨R.FWD_FLUSH, 30, 1⟩
abbrev F.FWD_FLUSH_SCOPE : Fld := ⟨R.FWD_FLUSH, 28, 2⟩
abbrev F.FWD_FLUSH_PORT : Fld := ⟨R.FWD_FLUSH, 8, 5⟩
abbrev F.FWD_FLUSH_FID : Fld := ⟨R.FWD_FLUSH, 0, 6⟩
abbrev R.FWD_L3_CTRL : Nat := 0x20500054
abbrev F.FWD_L3_CTRL_MISS_TRAP : Fld := ⟨R.FWD_L3_CTRL, 3, 1⟩
abbrev F.FWD_L3_CTRL_TTL_TRAP : Fld := ⟨R.FWD_L3_CTRL, 2, 1⟩
abbrev F.FWD_L3_CTRL_IPV6_EN : Fld := ⟨R.FWD_L3_CTRL, 1, 1⟩
abbrev F.FWD_L3_CTRL_IPV4_EN : Fld := ⟨R.FWD_L3_CTRL, 0, 1⟩
abbrev R.FWD_TCAM_PART : Nat := 0x20500058
abbrev F.FWD_TCAM_PART_FLOW_BANKS : Fld := ⟨R.FWD_TCAM_PART, 0, 5⟩
abbrev R.FWD_TRAP : Nat := 0x2050005C
abbrev F.FWD_TRAP_ARP : Fld := ⟨R.FWD_TRAP, 2, 2⟩
abbrev F.FWD_TRAP_LINKLOCAL : Fld := ⟨R.FWD_TRAP, 0, 2⟩
abbrev R.FWD_EVENT : Nat := 0x20500060
abbrev F.FWD_EVENT_EV : Fld := ⟨R.FWD_EVENT, 0, 6⟩
abbrev R.FWD_PORT_CTRL (n : Nat) : Nat := 0x20500100 + n * 0x4
abbrev F.FWD_PORT_CTRL_DEI_DECODE (n : Nat) : Fld := ⟨R.FWD_PORT_CTRL n, 4, 1⟩
abbrev F.FWD_PORT_CTRL_FLUSH_ON_LINKDOWN (n : Nat) : Fld := ⟨R.FWD_PORT_CTRL n, 3, 1⟩
abbrev F.FWD_PORT_CTRL_HAIRPIN (n : Nat) : Fld := ⟨R.FWD_PORT_CTRL n, 2, 1⟩
abbrev F.FWD_PORT_CTRL_LOCK (n : Nat) : Fld := ⟨R.FWD_PORT_CTRL n, 1, 1⟩
abbrev F.FWD_PORT_CTRL_LEARN_EN (n : Nat) : Fld := ⟨R.FWD_PORT_CTRL n, 0, 1⟩
abbrev R.FWD_PORT_PCPMAP (n : Nat) : Nat := 0x20500180 + n * 0x4
abbrev F.FWD_PORT_PCPMAP_MAP (n : Nat) : Fld := ⟨R.FWD_PORT_PCPMAP n, 0, 24⟩
abbrev R.FWD_RMAC_LO (i : Nat) : Nat := 0x20500200 + i * 0x8
abbrev F.FWD_RMAC_LO_MAC_LO (i : Nat) : Fld := ⟨R.FWD_RMAC_LO i, 0, 32⟩
abbrev R.FWD_RMAC_HI (i : Nat) : Nat := 0x20500204 + i * 0x8
abbrev F.FWD_RMAC_HI_MAC_HI (i : Nat) : Fld := ⟨R.FWD_RMAC_HI i, 0, 16⟩
-- 06_stream_channels.md, Table 6-7
abbrev R.SCT_STAGE0 : Nat := 0x20600000
abbrev F.SCT_STAGE0_WORD : Fld := ⟨R.SCT_STAGE0, 0, 32⟩
abbrev R.SCT_STAGE1 : Nat := 0x20600004
abbrev F.SCT_STAGE1_WORD : Fld := ⟨R.SCT_STAGE1, 0, 32⟩
abbrev R.SCT_STAGE2 : Nat := 0x20600008
abbrev F.SCT_STAGE2_WORD : Fld := ⟨R.SCT_STAGE2, 0, 32⟩
abbrev R.SCT_STAGE3 : Nat := 0x2060000C
abbrev F.SCT_STAGE3_WORD : Fld := ⟨R.SCT_STAGE3, 0, 32⟩
abbrev R.SCT_STAGE4 : Nat := 0x20600010
abbrev F.SCT_STAGE4_WORD : Fld := ⟨R.SCT_STAGE4, 0, 32⟩
abbrev R.SCT_STAGE5 : Nat := 0x20600014
abbrev F.SCT_STAGE5_WORD : Fld := ⟨R.SCT_STAGE5, 0, 32⟩
abbrev R.SCT_STAGE6 : Nat := 0x20600018
abbrev F.SCT_STAGE6_WORD : Fld := ⟨R.SCT_STAGE6, 0, 32⟩
abbrev R.SCT_STAGE7 : Nat := 0x2060001C
abbrev F.SCT_STAGE7_WORD : Fld := ⟨R.SCT_STAGE7, 0, 32⟩
abbrev R.SCT_COMMIT : Nat := 0x20600020
abbrev F.SCT_COMMIT_RESET_STATE : Fld := ⟨R.SCT_COMMIT, 31, 1⟩
abbrev F.SCT_COMMIT_INDEX : Fld := ⟨R.SCT_COMMIT, 0, 9⟩
abbrev R.SCT_EVENT : Nat := 0x20600030
abbrev F.SCT_EVENT_EV : Fld := ⟨R.SCT_EVENT, 0, 3⟩
abbrev R.SCT_STATE_SEL : Nat := 0x20600040
abbrev F.SCT_STATE_SEL_HANDLE : Fld := ⟨R.SCT_STATE_SEL, 0, 9⟩
abbrev R.SCT_STATE0 : Nat := 0x20600044
abbrev F.SCT_STATE0_CTOK : Fld := ⟨R.SCT_STATE0, 0, 32⟩
abbrev R.SCT_STATE1 : Nat := 0x20600048
abbrev F.SCT_STATE1_ETOK : Fld := ⟨R.SCT_STATE1, 0, 32⟩
abbrev R.SCT_STATE2 : Nat := 0x2060004C
abbrev F.SCT_STATE2_GEN_SEQ : Fld := ⟨R.SCT_STATE2, 16, 16⟩
abbrev F.SCT_STATE2_RECOV_SEQ : Fld := ⟨R.SCT_STATE2, 0, 16⟩
abbrev R.SCT_STATE3 : Nat := 0x20600050
abbrev F.SCT_STATE3_HISTORY : Fld := ⟨R.SCT_STATE3, 0, 32⟩
abbrev R.SCT_STATE4 : Nat := 0x20600054
abbrev F.SCT_STATE4_TWIN_OPEN : Fld := ⟨R.SCT_STATE4, 1, 1⟩
abbrev F.SCT_STATE4_TAKE_ANY : Fld := ⟨R.SCT_STATE4, 0, 1⟩
abbrev R.SCT_SG_CTRL (n : Nat) : Nat := 0x20600100 + n * 0x4
abbrev F.SCT_SG_CTRL_LIST (n : Nat) : Fld := ⟨R.SCT_SG_CTRL n, 8, 8⟩
abbrev F.SCT_SG_CTRL_BLOCKED (n : Nat) : Fld := ⟨R.SCT_SG_CTRL n, 2, 1⟩
abbrev F.SCT_SG_CTRL_OPEN (n : Nat) : Fld := ⟨R.SCT_SG_CTRL n, 1, 1⟩
abbrev F.SCT_SG_CTRL_EN (n : Nat) : Fld := ⟨R.SCT_SG_CTRL n, 0, 1⟩
abbrev R.SCT_LAT_THRESH (n : Nat) : Nat := 0x20600200 + n * 0x20
abbrev F.SCT_LAT_THRESH_CLEAR (n : Nat) : Fld := ⟨R.SCT_LAT_THRESH n, 31, 1⟩
abbrev F.SCT_LAT_THRESH_THRESH (n : Nat) : Fld := ⟨R.SCT_LAT_THRESH n, 0, 24⟩
abbrev R.SCT_LAT_MIN (n : Nat) : Nat := 0x20600204 + n * 0x20
abbrev F.SCT_LAT_MIN_MIN (n : Nat) : Fld := ⟨R.SCT_LAT_MIN n, 0, 32⟩
abbrev R.SCT_LAT_MAX (n : Nat) : Nat := 0x20600208 + n * 0x20
abbrev F.SCT_LAT_MAX_MAX (n : Nat) : Fld := ⟨R.SCT_LAT_MAX n, 0, 32⟩
abbrev R.SCT_LAT_SUM_LO (n : Nat) : Nat := 0x2060020C + n * 0x20
abbrev F.SCT_LAT_SUM_LO_SUM (n : Nat) : Fld := ⟨R.SCT_LAT_SUM_LO n, 0, 32⟩
abbrev R.SCT_LAT_SUM_HI (n : Nat) : Nat := 0x20600210 + n * 0x20
abbrev F.SCT_LAT_SUM_HI_SUM (n : Nat) : Fld := ⟨R.SCT_LAT_SUM_HI n, 0, 32⟩
abbrev R.SCT_LAT_COUNT (n : Nat) : Nat := 0x20600214 + n * 0x20
abbrev F.SCT_LAT_COUNT_COUNT (n : Nat) : Fld := ⟨R.SCT_LAT_COUNT n, 0, 32⟩
abbrev R.SCT_LAT_OVER (n : Nat) : Nat := 0x20600218 + n * 0x20
abbrev F.SCT_LAT_OVER_OVER (n : Nat) : Fld := ⟨R.SCT_LAT_OVER n, 0, 32⟩
-- 07_buffer_and_replication.md, Table 7-3
abbrev R.BUF_STAGE0 : Nat := 0x20700000
abbrev F.BUF_STAGE0_WORD : Fld := ⟨R.BUF_STAGE0, 0, 32⟩
abbrev R.BUF_STAGE1 : Nat := 0x20700004
abbrev F.BUF_STAGE1_WORD : Fld := ⟨R.BUF_STAGE1, 0, 32⟩
abbrev R.BUF_STAGE2 : Nat := 0x20700008
abbrev F.BUF_STAGE2_WORD : Fld := ⟨R.BUF_STAGE2, 0, 32⟩
abbrev R.BUF_STAGE3 : Nat := 0x2070000C
abbrev F.BUF_STAGE3_WORD : Fld := ⟨R.BUF_STAGE3, 0, 32⟩
abbrev R.BUF_STAGE4 : Nat := 0x20700010
abbrev F.BUF_STAGE4_WORD : Fld := ⟨R.BUF_STAGE4, 0, 32⟩
abbrev R.BUF_STAGE5 : Nat := 0x20700014
abbrev F.BUF_STAGE5_WORD : Fld := ⟨R.BUF_STAGE5, 0, 32⟩
abbrev R.BUF_STAGE6 : Nat := 0x20700018
abbrev F.BUF_STAGE6_WORD : Fld := ⟨R.BUF_STAGE6, 0, 32⟩
abbrev R.BUF_STAGE7 : Nat := 0x2070001C
abbrev F.BUF_STAGE7_WORD : Fld := ⟨R.BUF_STAGE7, 0, 32⟩
abbrev R.BUF_COMMIT : Nat := 0x20700020
abbrev F.BUF_COMMIT_INDEX : Fld := ⟨R.BUF_COMMIT, 0, 5⟩
abbrev R.BUF_FREE : Nat := 0x20700030
abbrev F.BUF_FREE_CELLS : Fld := ⟨R.BUF_FREE, 0, 17⟩
abbrev R.BUF_PKT_FREE : Nat := 0x20700034
abbrev F.BUF_PKT_FREE_PKT_FREE : Fld := ⟨R.BUF_PKT_FREE, 0, 16⟩
abbrev R.BUF_COPY_FREE : Nat := 0x20700038
abbrev F.BUF_COPY_FREE_COPY_FREE : Fld := ⟨R.BUF_COPY_FREE, 0, 17⟩
abbrev R.BUF_RESERVE : Nat := 0x2070003C
abbrev F.BUF_RESERVE_CELLS : Fld := ⟨R.BUF_RESERVE, 0, 17⟩
abbrev R.BUF_AUDIT : Nat := 0x20700040
abbrev F.BUF_AUDIT_RECLAIM : Fld := ⟨R.BUF_AUDIT, 31, 1⟩
abbrev F.BUF_AUDIT_PERIOD : Fld := ⟨R.BUF_AUDIT, 0, 16⟩
abbrev R.BUF_AUDIT_STATUS : Nat := 0x20700044
abbrev F.BUF_AUDIT_STATUS_SUSPECT : Fld := ⟨R.BUF_AUDIT_STATUS, 0, 17⟩
abbrev R.BUF_STUCK : Nat := 0x20700048
abbrev F.BUF_STUCK_FLUSH : Fld := ⟨R.BUF_STUCK, 31, 1⟩
abbrev F.BUF_STUCK_STUCK_TIME : Fld := ⟨R.BUF_STUCK, 0, 16⟩
abbrev R.BUF_STUCK_Q : Nat := 0x2070004C
abbrev F.BUF_STUCK_Q_VALID : Fld := ⟨R.BUF_STUCK_Q, 8, 1⟩
abbrev F.BUF_STUCK_Q_QUEUE : Fld := ⟨R.BUF_STUCK_Q, 0, 8⟩
abbrev R.BUF_QFLUSH : Nat := 0x20700050
abbrev F.BUF_QFLUSH_START : Fld := ⟨R.BUF_QFLUSH, 31, 1⟩
abbrev F.BUF_QFLUSH_BUSY : Fld := ⟨R.BUF_QFLUSH, 30, 1⟩
abbrev F.BUF_QFLUSH_QUEUE : Fld := ⟨R.BUF_QFLUSH, 0, 8⟩
abbrev R.BUF_EVENT : Nat := 0x20700060
abbrev F.BUF_EVENT_EV : Fld := ⟨R.BUF_EVENT, 0, 6⟩
abbrev R.BUF_PORT_CT (n : Nat) : Nat := 0x20700100 + n * 0x4
abbrev F.BUF_PORT_CT_CT_EN (n : Nat) : Fld := ⟨R.BUF_PORT_CT n, 0, 1⟩
abbrev R.BUF_PORT_XOFF (n : Nat) : Nat := 0x20700180 + n * 0x8
abbrev F.BUF_PORT_XOFF_XON (n : Nat) : Fld := ⟨R.BUF_PORT_XOFF n, 16, 16⟩
abbrev F.BUF_PORT_XOFF_XOFF (n : Nat) : Fld := ⟨R.BUF_PORT_XOFF n, 0, 16⟩
abbrev R.BUF_PORT_ING (n : Nat) : Nat := 0x20700184 + n * 0x8
abbrev F.BUF_PORT_ING_CELLS (n : Nat) : Fld := ⟨R.BUF_PORT_ING n, 0, 17⟩
abbrev R.BUF_Q_CFG (q : Nat) : Nat := 0x20701000 + q * 0x10
abbrev F.BUF_Q_CFG_MAX (q : Nat) : Fld := ⟨R.BUF_Q_CFG q, 16, 16⟩
abbrev F.BUF_Q_CFG_MIN (q : Nat) : Fld := ⟨R.BUF_Q_CFG q, 0, 16⟩
abbrev R.BUF_Q_PROF (q : Nat) : Nat := 0x20701004 + q * 0x10
abbrev F.BUF_Q_PROF_PROFILE (q : Nat) : Fld := ⟨R.BUF_Q_PROF q, 0, 5⟩
abbrev R.BUF_Q_DEPTH (q : Nat) : Nat := 0x20701008 + q * 0x10
abbrev F.BUF_Q_DEPTH_CELLS (q : Nat) : Fld := ⟨R.BUF_Q_DEPTH q, 0, 17⟩
abbrev R.BUF_Q_AVG (q : Nat) : Nat := 0x2070100C + q * 0x10
abbrev F.BUF_Q_AVG_AVG (q : Nat) : Fld := ⟨R.BUF_Q_AVG q, 0, 25⟩
-- 08_egress_scheduling.md, Table 8-5
abbrev R.EGS_STAGE0 : Nat := 0x20800000
abbrev F.EGS_STAGE0_WORD : Fld := ⟨R.EGS_STAGE0, 0, 32⟩
abbrev R.EGS_STAGE1 : Nat := 0x20800004
abbrev F.EGS_STAGE1_WORD : Fld := ⟨R.EGS_STAGE1, 0, 32⟩
abbrev R.EGS_STAGE2 : Nat := 0x20800008
abbrev F.EGS_STAGE2_WORD : Fld := ⟨R.EGS_STAGE2, 0, 32⟩
abbrev R.EGS_STAGE3 : Nat := 0x2080000C
abbrev F.EGS_STAGE3_WORD : Fld := ⟨R.EGS_STAGE3, 0, 32⟩
abbrev R.EGS_STAGE4 : Nat := 0x20800010
abbrev F.EGS_STAGE4_WORD : Fld := ⟨R.EGS_STAGE4, 0, 32⟩
abbrev R.EGS_STAGE5 : Nat := 0x20800014
abbrev F.EGS_STAGE5_WORD : Fld := ⟨R.EGS_STAGE5, 0, 32⟩
abbrev R.EGS_STAGE6 : Nat := 0x20800018
abbrev F.EGS_STAGE6_WORD : Fld := ⟨R.EGS_STAGE6, 0, 32⟩
abbrev R.EGS_STAGE7 : Nat := 0x2080001C
abbrev F.EGS_STAGE7_WORD : Fld := ⟨R.EGS_STAGE7, 0, 32⟩
abbrev R.EGS_COMMIT : Nat := 0x20800020
abbrev F.EGS_COMMIT_INDEX : Fld := ⟨R.EGS_COMMIT, 0, 13⟩
abbrev R.EGS_COMMIT_STATUS : Nat := 0x20800024
abbrev F.EGS_COMMIT_STATUS_RESULT : Fld := ⟨R.EGS_COMMIT_STATUS, 0, 2⟩
abbrev R.EGS_EVENT : Nat := 0x20800030
abbrev F.EGS_EVENT_EV : Fld := ⟨R.EGS_EVENT, 0, 4⟩
abbrev R.EGS_LIST_SEL : Nat := 0x20800040
abbrev F.EGS_LIST_SEL_LIST : Fld := ⟨R.EGS_LIST_SEL, 0, 8⟩
abbrev R.EGS_LIST_STATUS : Nat := 0x20800044
abbrev F.EGS_LIST_STATUS_RUNNING : Fld := ⟨R.EGS_LIST_STATUS, 31, 1⟩
abbrev F.EGS_LIST_STATUS_PENDING : Fld := ⟨R.EGS_LIST_STATUS, 30, 1⟩
abbrev F.EGS_LIST_STATUS_GATES : Fld := ⟨R.EGS_LIST_STATUS, 16, 8⟩
abbrev F.EGS_LIST_STATUS_INIT : Fld := ⟨R.EGS_LIST_STATUS, 12, 1⟩
abbrev F.EGS_LIST_STATUS_ENTRY : Fld := ⟨R.EGS_LIST_STATUS, 0, 12⟩
abbrev R.EGS_LIST_CHANGE_NS : Nat := 0x20800048
abbrev F.EGS_LIST_CHANGE_NS_NS : Fld := ⟨R.EGS_LIST_CHANGE_NS, 0, 32⟩
abbrev R.EGS_LIST_CHANGE_S : Nat := 0x2080004C
abbrev F.EGS_LIST_CHANGE_S_S : Fld := ⟨R.EGS_LIST_CHANGE_S, 0, 32⟩
abbrev R.EGS_MAXDLY_CLEAR : Nat := 0x20800050
abbrev F.EGS_MAXDLY_CLEAR_ALL : Fld := ⟨R.EGS_MAXDLY_CLEAR, 31, 1⟩
abbrev F.EGS_MAXDLY_CLEAR_QUEUE : Fld := ⟨R.EGS_MAXDLY_CLEAR, 0, 8⟩
-- 08_egress_scheduling.md, Table 8-6
abbrev R.EGS_P_GATE (n : Nat) : Nat := 0x20800100 + n * 0x40
abbrev F.EGS_P_GATE_EN (n : Nat) : Fld := ⟨R.EGS_P_GATE n, 31, 1⟩
abbrev F.EGS_P_GATE_LIST (n : Nat) : Fld := ⟨R.EGS_P_GATE n, 0, 8⟩
abbrev R.EGS_P_PREEMPT (n : Nat) : Nat := 0x20800104 + n * 0x40
abbrev F.EGS_P_PREEMPT_PMASK (n : Nat) : Fld := ⟨R.EGS_P_PREEMPT n, 0, 8⟩
abbrev R.EGS_P_LEAD (n : Nat) : Nat := 0x20800108 + n * 0x40
abbrev F.EGS_P_LEAD_LEAD (n : Nat) : Fld := ⟨R.EGS_P_LEAD n, 0, 20⟩
abbrev R.EGS_P_LEAD_CFG (n : Nat) : Nat := 0x2080010C + n * 0x40
abbrev F.EGS_P_LEAD_CFG_TRIM_EN (n : Nat) : Fld := ⟨R.EGS_P_LEAD_CFG n, 31, 1⟩
abbrev F.EGS_P_LEAD_CFG_INIT (n : Nat) : Fld := ⟨R.EGS_P_LEAD_CFG n, 0, 20⟩
abbrev R.EGS_P_T1S_WAIT (n : Nat) : Nat := 0x20800110 + n * 0x40
abbrev F.EGS_P_T1S_WAIT_WAIT (n : Nat) : Fld := ⟨R.EGS_P_T1S_WAIT n, 0, 24⟩
abbrev R.EGS_P_LEAD_ERR (n : Nat) : Nat := 0x20800114 + n * 0x40
abbrev F.EGS_P_LEAD_ERR_ERR (n : Nat) : Fld := ⟨R.EGS_P_LEAD_ERR n, 0, 32⟩
abbrev R.EGS_P_GSTATE (n : Nat) : Nat := 0x20800118 + n * 0x40
abbrev F.EGS_P_GSTATE_GATES (n : Nat) : Fld := ⟨R.EGS_P_GSTATE n, 0, 8⟩
abbrev R.EGS_P_LEAD_SAMPLES (n : Nat) : Nat := 0x2080011C + n * 0x40
abbrev F.EGS_P_LEAD_SAMPLES_COUNT (n : Nat) : Fld := ⟨R.EGS_P_LEAD_SAMPLES n, 0, 32⟩
-- 08_egress_scheduling.md, Table 8-7
abbrev R.EGS_Q_SHAPER (q : Nat) : Nat := 0x20801000 + q * 0x10
abbrev F.EGS_Q_SHAPER_SHAPER_EN (q : Nat) : Fld := ⟨R.EGS_Q_SHAPER q, 31, 1⟩
abbrev F.EGS_Q_SHAPER_IDLE_SLOPE (q : Nat) : Fld := ⟨R.EGS_Q_SHAPER q, 0, 24⟩
abbrev R.EGS_Q_BURST (q : Nat) : Nat := 0x20801004 + q * 0x10
abbrev F.EGS_Q_BURST_MAX_SDU (q : Nat) : Fld := ⟨R.EGS_Q_BURST q, 16, 14⟩
abbrev F.EGS_Q_BURST_BURST_CEIL (q : Nat) : Fld := ⟨R.EGS_Q_BURST q, 0, 16⟩
abbrev R.EGS_Q_CREDIT (q : Nat) : Nat := 0x20801008 + q * 0x10
abbrev F.EGS_Q_CREDIT_CREDIT (q : Nat) : Fld := ⟨R.EGS_Q_CREDIT q, 0, 32⟩
abbrev R.EGS_Q_MAXDLY (q : Nat) : Nat := 0x2080100C + q * 0x10
abbrev F.EGS_Q_MAXDLY_MAXDLY (q : Nat) : Fld := ⟨R.EGS_Q_MAXDLY q, 0, 32⟩
-- 08_egress_scheduling.md, Table 8-8
abbrev R.EGS_HM_CFG (m : Nat) : Nat := 0x20803000 + m * 0x100
abbrev F.EGS_HM_CFG_EN (m : Nat) : Fld := ⟨R.EGS_HM_CFG m, 31, 1⟩
abbrev F.EGS_HM_CFG_CLEAR (m : Nat) : Fld := ⟨R.EGS_HM_CFG m, 30, 1⟩
abbrev F.EGS_HM_CFG_QUEUE (m : Nat) : Fld := ⟨R.EGS_HM_CFG m, 16, 8⟩
abbrev F.EGS_HM_CFG_DEPTH_PERIOD (m : Nat) : Fld := ⟨R.EGS_HM_CFG m, 0, 16⟩
abbrev R.EGS_HM_DLY_BIN (m : Nat) (k : Nat) : Nat := 0x20803010 + m * 0x100 + k * 0x4
abbrev F.EGS_HM_DLY_BIN_COUNT (m : Nat) (k : Nat) : Fld := ⟨R.EGS_HM_DLY_BIN m k, 0, 32⟩
abbrev R.EGS_HM_DEP_BIN (m : Nat) (k : Nat) : Nat := 0x20803050 + m * 0x100 + k * 0x4
abbrev F.EGS_HM_DEP_BIN_COUNT (m : Nat) (k : Nat) : Fld := ⟨R.EGS_HM_DEP_BIN m k, 0, 32⟩
abbrev R.EGS_HM_DLY_MAX (m : Nat) : Nat := 0x20803090 + m * 0x100
abbrev F.EGS_HM_DLY_MAX_MAX (m : Nat) : Fld := ⟨R.EGS_HM_DLY_MAX m, 0, 32⟩
abbrev R.EGS_HM_DEP_MAX (m : Nat) : Nat := 0x20803094 + m * 0x100
abbrev F.EGS_HM_DEP_MAX_MAX (m : Nat) : Fld := ⟨R.EGS_HM_DEP_MAX m, 0, 17⟩
-- 09_audio_crosspoint.md, Table 9-8
abbrev R.AUD_STAGE0 : Nat := 0x20900000
abbrev F.AUD_STAGE0_WORD : Fld := ⟨R.AUD_STAGE0, 0, 32⟩
abbrev R.AUD_STAGE1 : Nat := 0x20900004
abbrev F.AUD_STAGE1_WORD : Fld := ⟨R.AUD_STAGE1, 0, 32⟩
abbrev R.AUD_STAGE2 : Nat := 0x20900008
abbrev F.AUD_STAGE2_WORD : Fld := ⟨R.AUD_STAGE2, 0, 32⟩
abbrev R.AUD_STAGE3 : Nat := 0x2090000C
abbrev F.AUD_STAGE3_WORD : Fld := ⟨R.AUD_STAGE3, 0, 32⟩
abbrev R.AUD_STAGE4 : Nat := 0x20900010
abbrev F.AUD_STAGE4_WORD : Fld := ⟨R.AUD_STAGE4, 0, 32⟩
abbrev R.AUD_STAGE5 : Nat := 0x20900014
abbrev F.AUD_STAGE5_WORD : Fld := ⟨R.AUD_STAGE5, 0, 32⟩
abbrev R.AUD_STAGE6 : Nat := 0x20900018
abbrev F.AUD_STAGE6_WORD : Fld := ⟨R.AUD_STAGE6, 0, 32⟩
abbrev R.AUD_STAGE7 : Nat := 0x2090001C
abbrev F.AUD_STAGE7_WORD : Fld := ⟨R.AUD_STAGE7, 0, 32⟩
abbrev R.AUD_COMMIT : Nat := 0x20900020
abbrev F.AUD_COMMIT_INDEX : Fld := ⟨R.AUD_COMMIT, 0, 13⟩
abbrev R.AUD_CHG_ESI_LO : Nat := 0x20900024
abbrev F.AUD_CHG_ESI_LO_ESI : Fld := ⟨R.AUD_CHG_ESI_LO, 0, 32⟩
abbrev R.AUD_CHG_ESI_HI : Nat := 0x20900028
abbrev F.AUD_CHG_ESI_HI_ESI : Fld := ⟨R.AUD_CHG_ESI_HI, 0, 32⟩
abbrev R.AUD_CHG_CMD : Nat := 0x2090002C
abbrev F.AUD_CHG_CMD_KIND : Fld := ⟨R.AUD_CHG_CMD, 28, 4⟩
abbrev F.AUD_CHG_CMD_INDEX : Fld := ⟨R.AUD_CHG_CMD, 0, 13⟩
abbrev R.AUD_CHG_STATUS : Nat := 0x20900030
abbrev F.AUD_CHG_STATUS_RESULT : Fld := ⟨R.AUD_CHG_STATUS, 16, 2⟩
abbrev F.AUD_CHG_STATUS_FILL : Fld := ⟨R.AUD_CHG_STATUS, 0, 9⟩
abbrev R.AUD_CTRL : Nat := 0x20900040
abbrev F.AUD_CTRL_LI_CANON : Fld := ⟨R.AUD_CTRL, 1, 1⟩
abbrev F.AUD_CTRL_TWIN_CHECK : Fld := ⟨R.AUD_CTRL, 0, 1⟩
abbrev R.AUD_LOCAL : Nat := 0x20900044
abbrev F.AUD_LOCAL_AUTO_RAISE : Fld := ⟨R.AUD_LOCAL, 31, 1⟩
abbrev F.AUD_LOCAL_CUR : Fld := ⟨R.AUD_LOCAL, 16, 8⟩
abbrev F.AUD_LOCAL_RAISE_MAX : Fld := ⟨R.AUD_LOCAL, 8, 8⟩
abbrev F.AUD_LOCAL_BASE : Fld := ⟨R.AUD_LOCAL, 0, 8⟩
abbrev R.AUD_MARGIN_FLOOR : Nat := 0x20900048
abbrev F.AUD_MARGIN_FLOOR_FLOOR : Fld := ⟨R.AUD_MARGIN_FLOOR, 0, 16⟩
abbrev R.AUD_METER_PERIOD : Nat := 0x2090004C
abbrev F.AUD_METER_PERIOD_PERIOD : Fld := ⟨R.AUD_METER_PERIOD, 0, 16⟩
abbrev R.AUD_EVENT : Nat := 0x20900050
abbrev F.AUD_EVENT_EV : Fld := ⟨R.AUD_EVENT, 0, 8⟩
abbrev R.AUD_STATUS : Nat := 0x20900054
abbrev F.AUD_STATUS_MIRRORING : Fld := ⟨R.AUD_STATUS, 1, 1⟩
abbrev F.AUD_STATUS_RUNNING : Fld := ⟨R.AUD_STATUS, 0, 1⟩
-- 09_audio_crosspoint.md, Table 9-9
abbrev R.AUD_L_CFG (l : Nat) : Nat := 0x20900400 + l * 0x20
abbrev F.AUD_L_CFG_CLEAR (l : Nat) : Fld := ⟨R.AUD_L_CFG l, 31, 1⟩
abbrev F.AUD_L_CFG_CFG_ERR (l : Nat) : Fld := ⟨R.AUD_L_CFG l, 30, 1⟩
abbrev F.AUD_L_CFG_MONITOR (l : Nat) : Fld := ⟨R.AUD_L_CFG l, 29, 1⟩
abbrev F.AUD_L_CFG_CHECK_SID (l : Nat) : Fld := ⟨R.AUD_L_CFG l, 28, 1⟩
abbrev F.AUD_L_CFG_BITS (l : Nat) : Fld := ⟨R.AUD_L_CFG l, 24, 2⟩
abbrev F.AUD_L_CFG_CH (l : Nat) : Fld := ⟨R.AUD_L_CFG l, 16, 4⟩
abbrev F.AUD_L_CFG_FIRST_NI (l : Nat) : Fld := ⟨R.AUD_L_CFG l, 0, 8⟩
abbrev R.AUD_L_SID_LO (l : Nat) : Nat := 0x20900404 + l * 0x20
abbrev F.AUD_L_SID_LO_SID (l : Nat) : Fld := ⟨R.AUD_L_SID_LO l, 0, 32⟩
abbrev R.AUD_L_SID_HI (l : Nat) : Nat := 0x20900408 + l * 0x20
abbrev F.AUD_L_SID_HI_SID (l : Nat) : Fld := ⟨R.AUD_L_SID_HI l, 0, 32⟩
abbrev R.AUD_L_MARGIN_MIN (l : Nat) : Nat := 0x2090040C + l * 0x20
abbrev F.AUD_L_MARGIN_MIN_MIN (l : Nat) : Fld := ⟨R.AUD_L_MARGIN_MIN l, 0, 32⟩
abbrev R.AUD_L_BIN (l : Nat) (b : Nat) : Nat := 0x20901000 + l * 0x20 + b * 0x4
abbrev F.AUD_L_BIN_COUNT (l : Nat) (b : Nat) : Fld := ⟨R.AUD_L_BIN l b, 0, 32⟩
-- 09_audio_crosspoint.md, Table 9-10
abbrev R.AUD_T_CFG (t : Nat) : Nat := 0x20902000 + t * 0x20
abbrev F.AUD_T_CFG_EN (t : Nat) : Fld := ⟨R.AUD_T_CFG t, 31, 1⟩
abbrev F.AUD_T_CFG_CFG_ERR (t : Nat) : Fld := ⟨R.AUD_T_CFG t, 30, 1⟩
abbrev F.AUD_T_CFG_RUNNING (t : Nat) : Fld := ⟨R.AUD_T_CFG t, 29, 1⟩
abbrev F.AUD_T_CFG_BITS (t : Nat) : Fld := ⟨R.AUD_T_CFG t, 24, 2⟩
abbrev F.AUD_T_CFG_SPF (t : Nat) : Fld := ⟨R.AUD_T_CFG t, 20, 1⟩
abbrev F.AUD_T_CFG_CH (t : Nat) : Fld := ⟨R.AUD_T_CFG t, 16, 4⟩
abbrev F.AUD_T_CFG_MTT (t : Nat) : Fld := ⟨R.AUD_T_CFG t, 8, 8⟩
abbrev F.AUD_T_CFG_FIRST_NO (t : Nat) : Fld := ⟨R.AUD_T_CFG t, 0, 8⟩
abbrev R.AUD_T_DA_LO (t : Nat) : Nat := 0x20902004 + t * 0x20
abbrev F.AUD_T_DA_LO_DA (t : Nat) : Fld := ⟨R.AUD_T_DA_LO t, 0, 32⟩
abbrev R.AUD_T_DA_HI (t : Nat) : Nat := 0x20902008 + t * 0x20
abbrev F.AUD_T_DA_HI_PCP (t : Nat) : Fld := ⟨R.AUD_T_DA_HI t, 29, 3⟩
abbrev F.AUD_T_DA_HI_VID (t : Nat) : Fld := ⟨R.AUD_T_DA_HI t, 16, 12⟩
abbrev F.AUD_T_DA_HI_DA (t : Nat) : Fld := ⟨R.AUD_T_DA_HI t, 0, 16⟩
abbrev R.AUD_T_SA_LO (t : Nat) : Nat := 0x2090200C + t * 0x20
abbrev F.AUD_T_SA_LO_SA (t : Nat) : Fld := ⟨R.AUD_T_SA_LO t, 0, 32⟩
abbrev R.AUD_T_SA_HI (t : Nat) : Nat := 0x20902010 + t * 0x20
abbrev F.AUD_T_SA_HI_SA (t : Nat) : Fld := ⟨R.AUD_T_SA_HI t, 0, 16⟩
abbrev R.AUD_T_SID_LO (t : Nat) : Nat := 0x20902014 + t * 0x20
abbrev F.AUD_T_SID_LO_SID (t : Nat) : Fld := ⟨R.AUD_T_SID_LO t, 0, 32⟩
abbrev R.AUD_T_SID_HI (t : Nat) : Nat := 0x20902018 + t * 0x20
abbrev F.AUD_T_SID_HI_SID (t : Nat) : Fld := ⟨R.AUD_T_SID_HI t, 0, 32⟩
-- 09_audio_crosspoint.md, Table 9-11
abbrev R.AUD_TDM_CFG (p : Nat) : Nat := 0x20902800 + p * 0x10
abbrev F.AUD_TDM_CFG_DRIVE (p : Nat) : Fld := ⟨R.AUD_TDM_CFG p, 24, 2⟩
abbrev F.AUD_TDM_CFG_BITS (p : Nat) : Fld := ⟨R.AUD_TDM_CFG p, 20, 2⟩
abbrev F.AUD_TDM_CFG_DELAY1 (p : Nat) : Fld := ⟨R.AUD_TDM_CFG p, 19, 1⟩
abbrev F.AUD_TDM_CFG_FS_POL (p : Nat) : Fld := ⟨R.AUD_TDM_CFG p, 18, 1⟩
abbrev F.AUD_TDM_CFG_FS_LONG (p : Nat) : Fld := ⟨R.AUD_TDM_CFG p, 17, 1⟩
abbrev F.AUD_TDM_CFG_BCLK_DIV (p : Nat) : Fld := ⟨R.AUD_TDM_CFG p, 8, 3⟩
abbrev F.AUD_TDM_CFG_SLOTS (p : Nat) : Fld := ⟨R.AUD_TDM_CFG p, 0, 5⟩
abbrev R.AUD_TDM_MAP (p : Nat) : Nat := 0x20902804 + p * 0x10
abbrev F.AUD_TDM_MAP_FIRST_LO (p : Nat) : Fld := ⟨R.AUD_TDM_MAP p, 8, 6⟩
abbrev F.AUD_TDM_MAP_FIRST_LI (p : Nat) : Fld := ⟨R.AUD_TDM_MAP p, 0, 6⟩
abbrev R.AUD_TDM_STATUS (p : Nat) : Nat := 0x20902808 + p * 0x10
abbrev F.AUD_TDM_STATUS_COMPARING (p : Nat) : Fld := ⟨R.AUD_TDM_STATUS p, 1, 1⟩
abbrev F.AUD_TDM_STATUS_DRIVING (p : Nat) : Fld := ⟨R.AUD_TDM_STATUS p, 0, 1⟩
abbrev R.AUD_TG_V_INC (g : Nat) (v : Nat) : Nat := 0x20902900 + g * 0x40 + v * 0x10
abbrev F.AUD_TG_V_INC_INC (g : Nat) (v : Nat) : Fld := ⟨R.AUD_TG_V_INC g v, 0, 32⟩
abbrev R.AUD_TG_V_LEVEL (g : Nat) (v : Nat) : Nat := 0x20902904 + g * 0x40 + v * 0x10
abbrev F.AUD_TG_V_LEVEL_LEVEL (g : Nat) (v : Nat) : Fld := ⟨R.AUD_TG_V_LEVEL g v, 0, 16⟩
abbrev R.AUD_TG_V_START (g : Nat) (v : Nat) : Nat := 0x20902908 + g * 0x40 + v * 0x10
abbrev F.AUD_TG_V_START_START (g : Nat) (v : Nat) : Fld := ⟨R.AUD_TG_V_START g v, 0, 24⟩
abbrev R.AUD_TG_V_DUR (g : Nat) (v : Nat) : Nat := 0x2090290C + g * 0x40 + v * 0x10
abbrev F.AUD_TG_V_DUR_SUSTAIN (g : Nat) (v : Nat) : Fld := ⟨R.AUD_TG_V_DUR g v, 31, 1⟩
abbrev F.AUD_TG_V_DUR_DURATION (g : Nat) (v : Nat) : Fld := ⟨R.AUD_TG_V_DUR g v, 0, 24⟩
abbrev R.AUD_EP_BASE (n : Nat) : Nat := 0x20902B00 + n * 0x10
abbrev F.AUD_EP_BASE_BASE (n : Nat) : Fld := ⟨R.AUD_EP_BASE n, 0, 32⟩
abbrev R.AUD_EP_LEN (n : Nat) : Nat := 0x20902B04 + n * 0x10
abbrev F.AUD_EP_LEN_LEN (n : Nat) : Fld := ⟨R.AUD_EP_LEN n, 0, 16⟩
abbrev R.AUD_EP_WR_ESI_LO (n : Nat) : Nat := 0x20902B08 + n * 0x10
abbrev F.AUD_EP_WR_ESI_LO_WR_ESI (n : Nat) : Fld := ⟨R.AUD_EP_WR_ESI_LO n, 0, 32⟩
abbrev R.AUD_EP_WR_ESI_HI (n : Nat) : Nat := 0x20902B0C + n * 0x10
abbrev F.AUD_EP_WR_ESI_HI_WR_ESI (n : Nat) : Fld := ⟨R.AUD_EP_WR_ESI_HI n, 0, 32⟩
abbrev R.AUD_EC_BASE (n : Nat) : Nat := 0x20902B80 + n * 0x10
abbrev F.AUD_EC_BASE_BASE (n : Nat) : Fld := ⟨R.AUD_EC_BASE n, 0, 32⟩
abbrev R.AUD_EC_LEN (n : Nat) : Nat := 0x20902B84 + n * 0x10
abbrev F.AUD_EC_LEN_LEN (n : Nat) : Fld := ⟨R.AUD_EC_LEN n, 0, 16⟩
abbrev R.AUD_EC_ESI_LO (n : Nat) : Nat := 0x20902B88 + n * 0x10
abbrev F.AUD_EC_ESI_LO_ESI (n : Nat) : Fld := ⟨R.AUD_EC_ESI_LO n, 0, 32⟩
abbrev R.AUD_EC_ESI_HI (n : Nat) : Nat := 0x20902B8C + n * 0x10
abbrev F.AUD_EC_ESI_HI_ESI (n : Nat) : Fld := ⟨R.AUD_EC_ESI_HI n, 0, 32⟩
abbrev R.AUD_MSRC (i : Nat) : Nat := 0x20903000 + i * 0x4
abbrev F.AUD_MSRC_RMS (i : Nat) : Fld := ⟨R.AUD_MSRC i, 16, 16⟩
abbrev F.AUD_MSRC_PEAK (i : Nat) : Fld := ⟨R.AUD_MSRC i, 0, 16⟩
abbrev R.AUD_MOUT (o : Nat) : Nat := 0x20903800 + o * 0x4
abbrev F.AUD_MOUT_RMS (o : Nat) : Fld := ⟨R.AUD_MOUT o, 16, 16⟩
abbrev F.AUD_MOUT_PEAK (o : Nat) : Fld := ⟨R.AUD_MOUT o, 0, 16⟩
-- 10_can_channels.md, Table 10-7
abbrev R.CAN_STAGE0 : Nat := 0x20A40000
abbrev F.CAN_STAGE0_WORD : Fld := ⟨R.CAN_STAGE0, 0, 32⟩
abbrev R.CAN_STAGE1 : Nat := 0x20A40004
abbrev F.CAN_STAGE1_WORD : Fld := ⟨R.CAN_STAGE1, 0, 32⟩
abbrev R.CAN_STAGE2 : Nat := 0x20A40008
abbrev F.CAN_STAGE2_WORD : Fld := ⟨R.CAN_STAGE2, 0, 32⟩
abbrev R.CAN_STAGE3 : Nat := 0x20A4000C
abbrev F.CAN_STAGE3_WORD : Fld := ⟨R.CAN_STAGE3, 0, 32⟩
abbrev R.CAN_STAGE4 : Nat := 0x20A40010
abbrev F.CAN_STAGE4_WORD : Fld := ⟨R.CAN_STAGE4, 0, 32⟩
abbrev R.CAN_STAGE5 : Nat := 0x20A40014
abbrev F.CAN_STAGE5_WORD : Fld := ⟨R.CAN_STAGE5, 0, 32⟩
abbrev R.CAN_STAGE6 : Nat := 0x20A40018
abbrev F.CAN_STAGE6_WORD : Fld := ⟨R.CAN_STAGE6, 0, 32⟩
abbrev R.CAN_STAGE7 : Nat := 0x20A4001C
abbrev F.CAN_STAGE7_WORD : Fld := ⟨R.CAN_STAGE7, 0, 32⟩
abbrev R.CAN_COMMIT : Nat := 0x20A40020
abbrev F.CAN_COMMIT_TABLE : Fld := ⟨R.CAN_COMMIT, 28, 4⟩
abbrev F.CAN_COMMIT_INDEX : Fld := ⟨R.CAN_COMMIT, 0, 9⟩
abbrev R.CAN_SUMMARY : Nat := 0x20A40024
abbrev F.CAN_SUMMARY_DUTY : Fld := ⟨R.CAN_SUMMARY, 16, 16⟩
abbrev F.CAN_SUMMARY_BUS_OFF : Fld := ⟨R.CAN_SUMMARY, 0, 16⟩
-- 10_can_channels.md, Table 10-8
abbrev R.CAN_CTRL (n : Nat) : Nat := 0x20A00000 + n * 0x4000
abbrev F.CAN_CTRL_AUTO_RECOVER (n : Nat) : Fld := ⟨R.CAN_CTRL n, 28, 1⟩
abbrev F.CAN_CTRL_ONE_SHOT (n : Nat) : Fld := ⟨R.CAN_CTRL n, 27, 1⟩
abbrev F.CAN_CTRL_PEX_EN (n : Nat) : Fld := ⟨R.CAN_CTRL n, 26, 1⟩
abbrev F.CAN_CTRL_XL_EN (n : Nat) : Fld := ⟨R.CAN_CTRL n, 25, 1⟩
abbrev F.CAN_CTRL_FD_EN (n : Nat) : Fld := ⟨R.CAN_CTRL n, 24, 1⟩
abbrev F.CAN_CTRL_XL_MODE (n : Nat) : Fld := ⟨R.CAN_CTRL n, 22, 2⟩
abbrev F.CAN_CTRL_TT_SEL (n : Nat) : Fld := ⟨R.CAN_CTRL n, 21, 1⟩
abbrev F.CAN_CTRL_TX_ROLE (n : Nat) : Fld := ⟨R.CAN_CTRL n, 20, 1⟩
abbrev F.CAN_CTRL_STB_MODE (n : Nat) : Fld := ⟨R.CAN_CTRL n, 18, 2⟩
abbrev F.CAN_CTRL_NOMATCH (n : Nat) : Fld := ⟨R.CAN_CTRL n, 16, 2⟩
abbrev F.CAN_CTRL_MIRROR_AGE (n : Nat) : Fld := ⟨R.CAN_CTRL n, 8, 8⟩
abbrev F.CAN_CTRL_MODE (n : Nat) : Fld := ⟨R.CAN_CTRL n, 0, 3⟩
abbrev R.CAN_STATUS (n : Nat) : Nat := 0x20A00004 + n * 0x4000
abbrev F.CAN_STATUS_TEC (n : Nat) : Fld := ⟨R.CAN_STATUS n, 24, 8⟩
abbrev F.CAN_STATUS_REC (n : Nat) : Fld := ⟨R.CAN_STATUS n, 16, 8⟩
abbrev F.CAN_STATUS_STATE (n : Nat) : Fld := ⟨R.CAN_STATUS n, 14, 2⟩
abbrev F.CAN_STATUS_EFF_MODE (n : Nat) : Fld := ⟨R.CAN_STATUS n, 11, 3⟩
abbrev F.CAN_STATUS_DUTY (n : Nat) : Fld := ⟨R.CAN_STATUS n, 10, 1⟩
abbrev F.CAN_STATUS_BUS_IDLE (n : Nat) : Fld := ⟨R.CAN_STATUS n, 9, 1⟩
abbrev F.CAN_STATUS_CFG_ERR (n : Nat) : Fld := ⟨R.CAN_STATUS n, 8, 1⟩
abbrev R.CAN_NBT (n : Nat) : Nat := 0x20A00008 + n * 0x4000
abbrev F.CAN_NBT_NSJW (n : Nat) : Fld := ⟨R.CAN_NBT n, 25, 7⟩
abbrev F.CAN_NBT_NTSEG2 (n : Nat) : Fld := ⟨R.CAN_NBT n, 18, 7⟩
abbrev F.CAN_NBT_NTSEG1 (n : Nat) : Fld := ⟨R.CAN_NBT n, 8, 8⟩
abbrev F.CAN_NBT_NBRP (n : Nat) : Fld := ⟨R.CAN_NBT n, 0, 5⟩
abbrev R.CAN_DBT (n : Nat) : Nat := 0x20A0000C + n * 0x4000
abbrev F.CAN_DBT_DSJW (n : Nat) : Fld := ⟨R.CAN_DBT n, 24, 4⟩
abbrev F.CAN_DBT_DTSEG2 (n : Nat) : Fld := ⟨R.CAN_DBT n, 16, 4⟩
abbrev F.CAN_DBT_DTSEG1 (n : Nat) : Fld := ⟨R.CAN_DBT n, 8, 5⟩
abbrev F.CAN_DBT_DBRP (n : Nat) : Fld := ⟨R.CAN_DBT n, 0, 5⟩
abbrev R.CAN_XBT (n : Nat) : Nat := 0x20A00010 + n * 0x4000
abbrev F.CAN_XBT_DSJW (n : Nat) : Fld := ⟨R.CAN_XBT n, 24, 4⟩
abbrev F.CAN_XBT_DTSEG2 (n : Nat) : Fld := ⟨R.CAN_XBT n, 16, 4⟩
abbrev F.CAN_XBT_DTSEG1 (n : Nat) : Fld := ⟨R.CAN_XBT n, 8, 5⟩
abbrev F.CAN_XBT_DBRP (n : Nat) : Fld := ⟨R.CAN_XBT n, 0, 5⟩
abbrev R.CAN_TDC (n : Nat) : Nat := 0x20A00014 + n * 0x4000
abbrev F.CAN_TDC_TDC_EN (n : Nat) : Fld := ⟨R.CAN_TDC n, 31, 1⟩
abbrev F.CAN_TDC_XTDCO (n : Nat) : Fld := ⟨R.CAN_TDC n, 16, 8⟩
abbrev F.CAN_TDC_TDCO (n : Nat) : Fld := ⟨R.CAN_TDC n, 0, 8⟩
abbrev R.CAN_TB_STATUS (n : Nat) : Nat := 0x20A00018 + n * 0x4000
abbrev F.CAN_TB_STATUS_CANCEL_RESULT (n k : Nat) : Fld := ⟨R.CAN_TB_STATUS n, 4 * k + 2, 2⟩
abbrev F.CAN_TB_STATUS_STARTED (n k : Nat) : Fld := ⟨R.CAN_TB_STATUS n, 4 * k + 1, 1⟩
abbrev F.CAN_TB_STATUS_LOADED (n k : Nat) : Fld := ⟨R.CAN_TB_STATUS n, 4 * k + 0, 1⟩
abbrev R.CAN_TB_CANCEL (n : Nat) : Nat := 0x20A0001C + n * 0x4000
abbrev F.CAN_TB_CANCEL_CANCEL (n : Nat) : Fld := ⟨R.CAN_TB_CANCEL n, 0, 3⟩
abbrev R.CAN_EVENT (n : Nat) : Nat := 0x20A00020 + n * 0x4000
abbrev F.CAN_EVENT_EV (n : Nat) : Fld := ⟨R.CAN_EVENT n, 0, 8⟩
abbrev R.CAN_RECOVER (n : Nat) : Nat := 0x20A00024 + n * 0x4000
abbrev F.CAN_RECOVER_START (n : Nat) : Fld := ⟨R.CAN_RECOVER n, 0, 1⟩
abbrev R.CAN_FQ_CFG (n : Nat) (k : Nat) : Nat := 0x20A00040 + n * 0x4000 + k * 0x10
abbrev F.CAN_FQ_CFG_FLUSH (n : Nat) (k : Nat) : Fld := ⟨R.CAN_FQ_CFG n k, 31, 1⟩
abbrev F.CAN_FQ_CFG_OWNER (n : Nat) (k : Nat) : Fld := ⟨R.CAN_FQ_CFG n k, 16, 2⟩
abbrev F.CAN_FQ_CFG_SIZE (n : Nat) (k : Nat) : Fld := ⟨R.CAN_FQ_CFG n k, 8, 8⟩
abbrev F.CAN_FQ_CFG_BASE (n : Nat) (k : Nat) : Fld := ⟨R.CAN_FQ_CFG n k, 0, 8⟩
abbrev R.CAN_FQ_PUT (n : Nat) (k : Nat) : Nat := 0x20A00044 + n * 0x4000 + k * 0x10
abbrev F.CAN_FQ_PUT_PUT (n : Nat) (k : Nat) : Fld := ⟨R.CAN_FQ_PUT n k, 0, 14⟩
abbrev R.CAN_FQ_GET (n : Nat) (k : Nat) : Nat := 0x20A00048 + n * 0x4000 + k * 0x10
abbrev F.CAN_FQ_GET_GET (n : Nat) (k : Nat) : Fld := ⟨R.CAN_FQ_GET n k, 0, 14⟩
abbrev R.CAN_FQ_FREE (n : Nat) (k : Nat) : Nat := 0x20A0004C + n * 0x4000 + k * 0x10
abbrev F.CAN_FQ_FREE_FREE (n : Nat) (k : Nat) : Fld := ⟨R.CAN_FQ_FREE n k, 0, 14⟩
abbrev R.CAN_RXQ_CFG (n : Nat) (m : Nat) : Nat := 0x20A00080 + n * 0x4000 + m * 0x10
abbrev F.CAN_RXQ_CFG_WATERMARK (n : Nat) (m : Nat) : Fld := ⟨R.CAN_RXQ_CFG n m, 24, 8⟩
abbrev F.CAN_RXQ_CFG_SIZE (n : Nat) (m : Nat) : Fld := ⟨R.CAN_RXQ_CFG n m, 8, 8⟩
abbrev F.CAN_RXQ_CFG_BASE (n : Nat) (m : Nat) : Fld := ⟨R.CAN_RXQ_CFG n m, 0, 8⟩
abbrev R.CAN_RXQ_PUT (n : Nat) (m : Nat) : Nat := 0x20A00084 + n * 0x4000 + m * 0x10
abbrev F.CAN_RXQ_PUT_PUT (n : Nat) (m : Nat) : Fld := ⟨R.CAN_RXQ_PUT n m, 0, 14⟩
abbrev R.CAN_RXQ_GET (n : Nat) (m : Nat) : Nat := 0x20A00088 + n * 0x4000 + m * 0x10
abbrev F.CAN_RXQ_GET_GET (n : Nat) (m : Nat) : Fld := ⟨R.CAN_RXQ_GET n m, 0, 14⟩
abbrev R.CAN_RXQ_FILL (n : Nat) (m : Nat) : Nat := 0x20A0008C + n * 0x4000 + m * 0x10
abbrev F.CAN_RXQ_FILL_GAP_PENDING (n : Nat) (m : Nat) : Fld := ⟨R.CAN_RXQ_FILL n m, 16, 1⟩
abbrev F.CAN_RXQ_FILL_FILL (n : Nat) (m : Nat) : Fld := ⟨R.CAN_RXQ_FILL n m, 0, 14⟩
abbrev R.CAN_TT_CTRL (n : Nat) : Nat := 0x20A000A0 + n * 0x4000
abbrev F.CAN_TT_CTRL_ROWS_LOG (n : Nat) : Fld := ⟨R.CAN_TT_CTRL n, 8, 3⟩
abbrev F.CAN_TT_CTRL_COLUMNS (n : Nat) : Fld := ⟨R.CAN_TT_CTRL n, 0, 6⟩
abbrev R.CAN_TT_CYCLE (n : Nat) : Nat := 0x20A000A4 + n * 0x4000
abbrev F.CAN_TT_CYCLE_CYCLE_NS (n : Nat) : Fld := ⟨R.CAN_TT_CYCLE n, 0, 32⟩
abbrev R.CAN_TT_PHASE (n : Nat) : Nat := 0x20A000A8 + n * 0x4000
abbrev F.CAN_TT_PHASE_PHASE_NS (n : Nat) : Fld := ⟨R.CAN_TT_PHASE n, 0, 32⟩
abbrev R.CAN_TT_STATUS (n : Nat) : Nat := 0x20A000AC + n * 0x4000
abbrev F.CAN_TT_STATUS_ROW (n : Nat) : Fld := ⟨R.CAN_TT_STATUS n, 16, 6⟩
abbrev F.CAN_TT_STATUS_COLUMN (n : Nat) : Fld := ⟨R.CAN_TT_STATUS n, 8, 5⟩
abbrev F.CAN_TT_STATUS_CFG_ERR (n : Nat) : Fld := ⟨R.CAN_TT_STATUS n, 1, 1⟩
abbrev F.CAN_TT_STATUS_RUNNING (n : Nat) : Fld := ⟨R.CAN_TT_STATUS n, 0, 1⟩
abbrev R.CAN_TXEV_HEAD0 (n : Nat) : Nat := 0x20A000C0 + n * 0x4000
abbrev F.CAN_TXEV_HEAD0_TAG (n : Nat) : Fld := ⟨R.CAN_TXEV_HEAD0 n, 16, 16⟩
abbrev F.CAN_TXEV_HEAD0_STATUS (n : Nat) : Fld := ⟨R.CAN_TXEV_HEAD0 n, 4, 2⟩
abbrev F.CAN_TXEV_HEAD0_TB (n : Nat) : Fld := ⟨R.CAN_TXEV_HEAD0 n, 2, 2⟩
abbrev F.CAN_TXEV_HEAD0_GAP (n : Nat) : Fld := ⟨R.CAN_TXEV_HEAD0 n, 1, 1⟩
abbrev F.CAN_TXEV_HEAD0_VALID (n : Nat) : Fld := ⟨R.CAN_TXEV_HEAD0 n, 0, 1⟩
abbrev R.CAN_TXEV_HEAD1 (n : Nat) : Nat := 0x20A000C4 + n * 0x4000
abbrev F.CAN_TXEV_HEAD1_NS (n : Nat) : Fld := ⟨R.CAN_TXEV_HEAD1 n, 0, 32⟩
abbrev R.CAN_TXEV_HEAD2 (n : Nat) : Nat := 0x20A000C8 + n * 0x4000
abbrev F.CAN_TXEV_HEAD2_S (n : Nat) : Fld := ⟨R.CAN_TXEV_HEAD2 n, 0, 32⟩
-- 11_serial_channels_and_glove_frames.md, Table 11-6
abbrev R.GLV_STAGE0 : Nat := 0x20C00000
abbrev F.GLV_STAGE0_WORD : Fld := ⟨R.GLV_STAGE0, 0, 32⟩
abbrev R.GLV_STAGE1 : Nat := 0x20C00004
abbrev F.GLV_STAGE1_WORD : Fld := ⟨R.GLV_STAGE1, 0, 32⟩
abbrev R.GLV_STAGE2 : Nat := 0x20C00008
abbrev F.GLV_STAGE2_WORD : Fld := ⟨R.GLV_STAGE2, 0, 32⟩
abbrev R.GLV_STAGE3 : Nat := 0x20C0000C
abbrev F.GLV_STAGE3_WORD : Fld := ⟨R.GLV_STAGE3, 0, 32⟩
abbrev R.GLV_STAGE4 : Nat := 0x20C00010
abbrev F.GLV_STAGE4_WORD : Fld := ⟨R.GLV_STAGE4, 0, 32⟩
abbrev R.GLV_STAGE5 : Nat := 0x20C00014
abbrev F.GLV_STAGE5_WORD : Fld := ⟨R.GLV_STAGE5, 0, 32⟩
abbrev R.GLV_STAGE6 : Nat := 0x20C00018
abbrev F.GLV_STAGE6_WORD : Fld := ⟨R.GLV_STAGE6, 0, 32⟩
abbrev R.GLV_STAGE7 : Nat := 0x20C0001C
abbrev F.GLV_STAGE7_WORD : Fld := ⟨R.GLV_STAGE7, 0, 32⟩
abbrev R.GLV_COMMIT : Nat := 0x20C00020
abbrev F.GLV_COMMIT_INDEX : Fld := ⟨R.GLV_COMMIT, 0, 7⟩
abbrev R.GLV_SA_LO : Nat := 0x20C00024
abbrev F.GLV_SA_LO_SA : Fld := ⟨R.GLV_SA_LO, 0, 32⟩
abbrev R.GLV_SA_HI : Nat := 0x20C00028
abbrev F.GLV_SA_HI_SA : Fld := ⟨R.GLV_SA_HI, 0, 16⟩
abbrev R.GLV_EVENT : Nat := 0x20C00030
abbrev F.GLV_EVENT_EV : Fld := ⟨R.GLV_EVENT, 0, 3⟩
abbrev R.GLV_DSTATE (d : Nat) : Nat := 0x20C00100 + d * 0x4
abbrev F.GLV_DSTATE_SYNCED (d : Nat) : Fld := ⟨R.GLV_DSTATE d, 16, 1⟩
abbrev F.GLV_DSTATE_LAST_SEQ (d : Nat) : Fld := ⟨R.GLV_DSTATE d, 0, 16⟩
-- 11_serial_channels_and_glove_frames.md, Table 11-8
abbrev R.SER_CTRL (n : Nat) : Nat := 0x20B00000 + n * 0x100
abbrev F.SER_CTRL_TX_OWNER (n : Nat) : Fld := ⟨R.SER_CTRL n, 11, 2⟩
abbrev F.SER_CTRL_DROP_ERR (n : Nat) : Fld := ⟨R.SER_CTRL n, 10, 1⟩
abbrev F.SER_CTRL_RX_GLOVE (n : Nat) : Fld := ⟨R.SER_CTRL n, 9, 1⟩
abbrev F.SER_CTRL_RX_FW (n : Nat) : Fld := ⟨R.SER_CTRL n, 8, 1⟩
abbrev F.SER_CTRL_DE_POL (n : Nat) : Fld := ⟨R.SER_CTRL n, 7, 1⟩
abbrev F.SER_CTRL_DATA7 (n : Nat) : Fld := ⟨R.SER_CTRL n, 6, 1⟩
abbrev F.SER_CTRL_STOP2 (n : Nat) : Fld := ⟨R.SER_CTRL n, 5, 1⟩
abbrev F.SER_CTRL_PARITY (n : Nat) : Fld := ⟨R.SER_CTRL n, 3, 2⟩
abbrev F.SER_CTRL_ECHO_SUPPRESS (n : Nat) : Fld := ⟨R.SER_CTRL n, 2, 1⟩
abbrev F.SER_CTRL_TX_ROLE (n : Nat) : Fld := ⟨R.SER_CTRL n, 1, 1⟩
abbrev F.SER_CTRL_EN (n : Nat) : Fld := ⟨R.SER_CTRL n, 0, 1⟩
abbrev R.SER_BAUD (n : Nat) : Nat := 0x20B00004 + n * 0x100
abbrev F.SER_BAUD_DIV (n : Nat) : Fld := ⟨R.SER_BAUD n, 0, 24⟩
abbrev R.SER_FRAME (n : Nat) : Nat := 0x20B00008 + n * 0x100
abbrev F.SER_FRAME_TX_GAP (n : Nat) : Fld := ⟨R.SER_FRAME n, 24, 8⟩
abbrev F.SER_FRAME_MAX_LEN (n : Nat) : Fld := ⟨R.SER_FRAME n, 8, 11⟩
abbrev F.SER_FRAME_GAP_BITS (n : Nat) : Fld := ⟨R.SER_FRAME n, 0, 8⟩
abbrev R.SER_DE (n : Nat) : Nat := 0x20B0000C + n * 0x100
abbrev F.SER_DE_MIRROR_AGE (n : Nat) : Fld := ⟨R.SER_DE n, 16, 8⟩
abbrev F.SER_DE_DE_LAG (n : Nat) : Fld := ⟨R.SER_DE n, 8, 8⟩
abbrev F.SER_DE_DE_LEAD (n : Nat) : Fld := ⟨R.SER_DE n, 0, 8⟩
abbrev R.SER_STATUS (n : Nat) : Nat := 0x20B00010 + n * 0x100
abbrev F.SER_STATUS_LINE (n : Nat) : Fld := ⟨R.SER_STATUS n, 5, 1⟩
abbrev F.SER_STATUS_CFG_ERR (n : Nat) : Fld := ⟨R.SER_STATUS n, 4, 1⟩
abbrev F.SER_STATUS_TX_BUSY (n : Nat) : Fld := ⟨R.SER_STATUS n, 3, 1⟩
abbrev F.SER_STATUS_RX_BUSY (n : Nat) : Fld := ⟨R.SER_STATUS n, 2, 1⟩
abbrev F.SER_STATUS_DE (n : Nat) : Fld := ⟨R.SER_STATUS n, 1, 1⟩
abbrev F.SER_STATUS_DUTY (n : Nat) : Fld := ⟨R.SER_STATUS n, 0, 1⟩
abbrev R.SER_TXQ_PUT (n : Nat) : Nat := 0x20B00014 + n * 0x100
abbrev F.SER_TXQ_PUT_PUT (n : Nat) : Fld := ⟨R.SER_TXQ_PUT n, 0, 11⟩
abbrev R.SER_TXQ_GET (n : Nat) : Nat := 0x20B00018 + n * 0x100
abbrev F.SER_TXQ_GET_GET (n : Nat) : Fld := ⟨R.SER_TXQ_GET n, 0, 11⟩
abbrev R.SER_TXQ_FREE (n : Nat) : Nat := 0x20B0001C + n * 0x100
abbrev F.SER_TXQ_FREE_FREE (n : Nat) : Fld := ⟨R.SER_TXQ_FREE n, 0, 12⟩
abbrev R.SER_RXQ_PUT (n : Nat) : Nat := 0x20B00020 + n * 0x100
abbrev F.SER_RXQ_PUT_PUT (n : Nat) : Fld := ⟨R.SER_RXQ_PUT n, 0, 11⟩
abbrev R.SER_RXQ_GET (n : Nat) : Nat := 0x20B00024 + n * 0x100
abbrev F.SER_RXQ_GET_GET (n : Nat) : Fld := ⟨R.SER_RXQ_GET n, 0, 11⟩
abbrev R.SER_RXQ_FILL (n : Nat) : Nat := 0x20B00028 + n * 0x100
abbrev F.SER_RXQ_FILL_GAP_PENDING (n : Nat) : Fld := ⟨R.SER_RXQ_FILL n, 16, 1⟩
abbrev F.SER_RXQ_FILL_FILL (n : Nat) : Fld := ⟨R.SER_RXQ_FILL n, 0, 12⟩
abbrev R.SER_EVENT (n : Nat) : Nat := 0x20B0002C + n * 0x100
abbrev F.SER_EVENT_EV (n : Nat) : Fld := ⟨R.SER_EVENT n, 0, 3⟩
-- 12_cipher_and_keys.md, Table 12-7
abbrev R.CPH_CTRL : Nat := 0x20D00000
abbrev F.CPH_CTRL_PAIR_EN : Fld := ⟨R.CPH_CTRL, 0, 4⟩
abbrev R.CPH_STATUS : Nat := 0x20D00004
abbrev F.CPH_STATUS_IN_SERVICE : Fld := ⟨R.CPH_STATUS, 8, 4⟩
abbrev F.CPH_STATUS_INFLIGHT : Fld := ⟨R.CPH_STATUS, 0, 8⟩
abbrev R.CPH_EVENT : Nat := 0x20D00008
abbrev F.CPH_EVENT_EV : Fld := ⟨R.CPH_EVENT, 0, 8⟩
abbrev R.CPH_PN_THRESH : Nat := 0x20D0000C
abbrev F.CPH_PN_THRESH_THRESH : Fld := ⟨R.CPH_PN_THRESH, 0, 32⟩
abbrev R.CPH_KS_SEL : Nat := 0x20D00010
abbrev F.CPH_KS_SEL_SLOT : Fld := ⟨R.CPH_KS_SEL, 0, 8⟩
abbrev R.CPH_KS_STATE : Nat := 0x20D00014
abbrev F.CPH_KS_STATE_GEN : Fld := ⟨R.CPH_KS_STATE, 16, 16⟩
abbrev F.CPH_KS_STATE_MODE : Fld := ⟨R.CPH_KS_STATE, 8, 8⟩
abbrev F.CPH_KS_STATE_LOADED : Fld := ⟨R.CPH_KS_STATE, 7, 1⟩
abbrev F.CPH_KS_STATE_KEY256 : Fld := ⟨R.CPH_KS_STATE, 6, 1⟩
abbrev F.CPH_KS_STATE_RETIRING : Fld := ⟨R.CPH_KS_STATE, 5, 1⟩
abbrev R.CPH_KS_ERASE : Nat := 0x20D00018
abbrev F.CPH_KS_ERASE_START : Fld := ⟨R.CPH_KS_ERASE, 31, 1⟩
abbrev F.CPH_KS_ERASE_SLOT : Fld := ⟨R.CPH_KS_ERASE, 0, 8⟩
abbrev R.CPH_KS_POOL : Nat := 0x20D0001C
abbrev F.CPH_KS_POOL_FREE : Fld := ⟨R.CPH_KS_POOL, 0, 6⟩
abbrev R.CPH_SEAL : Nat := 0x20D00020
abbrev F.CPH_SEAL_WINDOW_LOG : Fld := ⟨R.CPH_SEAL, 0, 5⟩
abbrev R.CPH_LEASE : Nat := 0x20D00024
abbrev F.CPH_LEASE_HOME : Fld := ⟨R.CPH_LEASE, 16, 1⟩
abbrev F.CPH_LEASE_AHEAD : Fld := ⟨R.CPH_LEASE, 8, 4⟩
abbrev F.CPH_LEASE_LEASE_LOG : Fld := ⟨R.CPH_LEASE, 0, 5⟩
abbrev R.CPH_QLINK : Nat := 0x20D00028
abbrev F.CPH_QLINK_EN : Fld := ⟨R.CPH_QLINK, 31, 1⟩
abbrev F.CPH_QLINK_PROTECTED : Fld := ⟨R.CPH_QLINK, 30, 1⟩
abbrev F.CPH_QLINK_SLOT : Fld := ⟨R.CPH_QLINK, 0, 8⟩
abbrev R.CPH_QLINK_EPOCH : Nat := 0x20D0002C
abbrev F.CPH_QLINK_EPOCH_EPOCH : Fld := ⟨R.CPH_QLINK_EPOCH, 0, 32⟩
-- 12_cipher_and_keys.md, Table 12-8
abbrev R.CPH_RING_BASE (e : Nat) : Nat := 0x20D00100 + e * 0x20
abbrev F.CPH_RING_BASE_BASE (e : Nat) : Fld := ⟨R.CPH_RING_BASE e, 0, 32⟩
abbrev R.CPH_RING_SIZE (e : Nat) : Nat := 0x20D00104 + e * 0x20
abbrev F.CPH_RING_SIZE_SIZE (e : Nat) : Fld := ⟨R.CPH_RING_SIZE e, 0, 10⟩
abbrev R.CPH_RING_PUT (e : Nat) : Nat := 0x20D00108 + e * 0x20
abbrev F.CPH_RING_PUT_PUT (e : Nat) : Fld := ⟨R.CPH_RING_PUT e, 0, 10⟩
abbrev R.CPH_RING_GET (e : Nat) : Nat := 0x20D0010C + e * 0x20
abbrev F.CPH_RING_GET_GET (e : Nat) : Fld := ⟨R.CPH_RING_GET e, 0, 10⟩
abbrev R.CPH_RING_CTRL (e : Nat) : Nat := 0x20D00110 + e * 0x20
abbrev F.CPH_RING_CTRL_ABORT (e : Nat) : Fld := ⟨R.CPH_RING_CTRL e, 31, 1⟩
abbrev F.CPH_RING_CTRL_EN (e : Nat) : Fld := ⟨R.CPH_RING_CTRL e, 0, 1⟩
-- 12_cipher_and_keys.md, Table 12-9
abbrev R.CPH_MS_CTRL (p : Nat) : Nat := 0x20D01000 + p * 0x400
abbrev F.CPH_MS_CTRL_TX_EN (p : Nat) : Fld := ⟨R.CPH_MS_CTRL p, 31, 1⟩
abbrev F.CPH_MS_CTRL_RX_EN (p : Nat) : Fld := ⟨R.CPH_MS_CTRL p, 30, 1⟩
abbrev F.CPH_MS_CTRL_VALIDATE (p : Nat) : Fld := ⟨R.CPH_MS_CTRL p, 28, 2⟩
abbrev F.CPH_MS_CTRL_REPLAY_PROTECT (p : Nat) : Fld := ⟨R.CPH_MS_CTRL p, 27, 1⟩
abbrev F.CPH_MS_CTRL_INCLUDE_SCI (p : Nat) : Fld := ⟨R.CPH_MS_CTRL p, 26, 1⟩
abbrev F.CPH_MS_CTRL_ENCRYPT (p : Nat) : Fld := ⟨R.CPH_MS_CTRL p, 25, 1⟩
abbrev F.CPH_MS_CTRL_PAIR_SHARED (p : Nat) : Fld := ⟨R.CPH_MS_CTRL p, 24, 1⟩
abbrev F.CPH_MS_CTRL_SUITE (p : Nat) : Fld := ⟨R.CPH_MS_CTRL p, 16, 2⟩
abbrev F.CPH_MS_CTRL_TX_AN (p : Nat) : Fld := ⟨R.CPH_MS_CTRL p, 0, 2⟩
abbrev R.CPH_MS_WINDOW (p : Nat) : Nat := 0x20D01004 + p * 0x400
abbrev F.CPH_MS_WINDOW_REPLAY_WINDOW (p : Nat) : Fld := ⟨R.CPH_MS_WINDOW p, 0, 32⟩
abbrev R.CPH_MS_TXSCI_LO (p : Nat) : Nat := 0x20D01008 + p * 0x400
abbrev F.CPH_MS_TXSCI_LO_SCI (p : Nat) : Fld := ⟨R.CPH_MS_TXSCI_LO p, 0, 32⟩
abbrev R.CPH_MS_TXSCI_HI (p : Nat) : Nat := 0x20D0100C + p * 0x400
abbrev F.CPH_MS_TXSCI_HI_SCI (p : Nat) : Fld := ⟨R.CPH_MS_TXSCI_HI p, 0, 32⟩
abbrev R.CPH_MS_TXSA_CTRL (p : Nat) (a : Nat) : Nat := 0x20D01040 + p * 0x400 + a * 0x20
abbrev F.CPH_MS_TXSA_CTRL_VALID (p : Nat) (a : Nat) : Fld := ⟨R.CPH_MS_TXSA_CTRL p a, 31, 1⟩
abbrev F.CPH_MS_TXSA_CTRL_SLOT (p : Nat) (a : Nat) : Fld := ⟨R.CPH_MS_TXSA_CTRL p a, 0, 8⟩
abbrev R.CPH_MS_TXSA_SSCI (p : Nat) (a : Nat) : Nat := 0x20D01044 + p * 0x400 + a * 0x20
abbrev F.CPH_MS_TXSA_SSCI_SSCI (p : Nat) (a : Nat) : Fld := ⟨R.CPH_MS_TXSA_SSCI p a, 0, 32⟩
abbrev R.CPH_MS_TXSA_PN_LO (p : Nat) (a : Nat) : Nat := 0x20D01048 + p * 0x400 + a * 0x20
abbrev F.CPH_MS_TXSA_PN_LO_PN (p : Nat) (a : Nat) : Fld := ⟨R.CPH_MS_TXSA_PN_LO p a, 0, 32⟩
abbrev R.CPH_MS_TXSA_PN_HI (p : Nat) (a : Nat) : Nat := 0x20D0104C + p * 0x400 + a * 0x20
abbrev F.CPH_MS_TXSA_PN_HI_PN (p : Nat) (a : Nat) : Fld := ⟨R.CPH_MS_TXSA_PN_HI p a, 0, 32⟩
abbrev R.CPH_MS_TXSA_SALT0 (p : Nat) (a : Nat) : Nat := 0x20D01050 + p * 0x400 + a * 0x20
abbrev F.CPH_MS_TXSA_SALT0_SALT (p : Nat) (a : Nat) : Fld := ⟨R.CPH_MS_TXSA_SALT0 p a, 0, 32⟩
abbrev R.CPH_MS_TXSA_SALT1 (p : Nat) (a : Nat) : Nat := 0x20D01054 + p * 0x400 + a * 0x20
abbrev F.CPH_MS_TXSA_SALT1_SALT (p : Nat) (a : Nat) : Fld := ⟨R.CPH_MS_TXSA_SALT1 p a, 0, 32⟩
abbrev R.CPH_MS_TXSA_SALT2 (p : Nat) (a : Nat) : Nat := 0x20D01058 + p * 0x400 + a * 0x20
abbrev F.CPH_MS_TXSA_SALT2_SALT (p : Nat) (a : Nat) : Fld := ⟨R.CPH_MS_TXSA_SALT2 p a, 0, 32⟩
abbrev R.CPH_MS_RXSC_SCI_LO (p : Nat) (c : Nat) : Nat := 0x20D01100 + p * 0x400 + c * 0xC0
abbrev F.CPH_MS_RXSC_SCI_LO_SCI (p : Nat) (c : Nat) : Fld := ⟨R.CPH_MS_RXSC_SCI_LO p c, 0, 32⟩
abbrev R.CPH_MS_RXSC_SCI_HI (p : Nat) (c : Nat) : Nat := 0x20D01104 + p * 0x400 + c * 0xC0
abbrev F.CPH_MS_RXSC_SCI_HI_SCI (p : Nat) (c : Nat) : Fld := ⟨R.CPH_MS_RXSC_SCI_HI p c, 0, 32⟩
abbrev R.CPH_MS_RXSC_CTRL (p : Nat) (c : Nat) : Nat := 0x20D01108 + p * 0x400 + c * 0xC0
abbrev F.CPH_MS_RXSC_CTRL_VALID (p : Nat) (c : Nat) : Fld := ⟨R.CPH_MS_RXSC_CTRL p c, 31, 1⟩
abbrev R.CPH_MS_RXSC_SA_CTRL (p : Nat) (c : Nat) (a : Nat) : Nat := 0x20D01120 + p * 0x400 + c * 0xC0 + a * 0x20
abbrev F.CPH_MS_RXSC_SA_CTRL_VALID (p : Nat) (c : Nat) (a : Nat) : Fld := ⟨R.CPH_MS_RXSC_SA_CTRL p c a, 31, 1⟩
abbrev F.CPH_MS_RXSC_SA_CTRL_SLOT (p : Nat) (c : Nat) (a : Nat) : Fld := ⟨R.CPH_MS_RXSC_SA_CTRL p c a, 0, 8⟩
abbrev R.CPH_MS_RXSC_SA_SSCI (p : Nat) (c : Nat) (a : Nat) : Nat := 0x20D01124 + p * 0x400 + c * 0xC0 + a * 0x20
abbrev F.CPH_MS_RXSC_SA_SSCI_SSCI (p : Nat) (c : Nat) (a : Nat) : Fld := ⟨R.CPH_MS_RXSC_SA_SSCI p c a, 0, 32⟩
abbrev R.CPH_MS_RXSC_SA_NEXT_PN_LO (p : Nat) (c : Nat) (a : Nat) : Nat := 0x20D01128 + p * 0x400 + c * 0xC0 + a * 0x20
abbrev F.CPH_MS_RXSC_SA_NEXT_PN_LO_NEXT_PN (p : Nat) (c : Nat) (a : Nat) : Fld := ⟨R.CPH_MS_RXSC_SA_NEXT_PN_LO p c a, 0, 32⟩
abbrev R.CPH_MS_RXSC_SA_NEXT_PN_HI (p : Nat) (c : Nat) (a : Nat) : Nat := 0x20D0112C + p * 0x400 + c * 0xC0 + a * 0x20
abbrev F.CPH_MS_RXSC_SA_NEXT_PN_HI_NEXT_PN (p : Nat) (c : Nat) (a : Nat) : Fld := ⟨R.CPH_MS_RXSC_SA_NEXT_PN_HI p c a, 0, 32⟩
abbrev R.CPH_MS_RXSC_SA_SALT0 (p : Nat) (c : Nat) (a : Nat) : Nat := 0x20D01130 + p * 0x400 + c * 0xC0 + a * 0x20
abbrev F.CPH_MS_RXSC_SA_SALT0_SALT (p : Nat) (c : Nat) (a : Nat) : Fld := ⟨R.CPH_MS_RXSC_SA_SALT0 p c a, 0, 32⟩
abbrev R.CPH_MS_RXSC_SA_SALT1 (p : Nat) (c : Nat) (a : Nat) : Nat := 0x20D01134 + p * 0x400 + c * 0xC0 + a * 0x20
abbrev F.CPH_MS_RXSC_SA_SALT1_SALT (p : Nat) (c : Nat) (a : Nat) : Fld := ⟨R.CPH_MS_RXSC_SA_SALT1 p c a, 0, 32⟩
abbrev R.CPH_MS_RXSC_SA_SALT2 (p : Nat) (c : Nat) (a : Nat) : Nat := 0x20D01138 + p * 0x400 + c * 0xC0 + a * 0x20
abbrev F.CPH_MS_RXSC_SA_SALT2_SALT (p : Nat) (c : Nat) (a : Nat) : Fld := ⟨R.CPH_MS_RXSC_SA_SALT2 p c a, 0, 32⟩
-- 12_cipher_and_keys.md, Table 12-10
abbrev R.CPH_LEASE_NEXT_LO (i : Nat) : Nat := 0x20D05000 + i * 0x10
abbrev F.CPH_LEASE_NEXT_LO_NEXT (i : Nat) : Fld := ⟨R.CPH_LEASE_NEXT_LO i, 0, 32⟩
abbrev R.CPH_LEASE_NEXT_HI (i : Nat) : Nat := 0x20D05004 + i * 0x10
abbrev F.CPH_LEASE_NEXT_HI_NEXT (i : Nat) : Fld := ⟨R.CPH_LEASE_NEXT_HI i, 0, 32⟩
abbrev R.CPH_LEASE_CEIL (i : Nat) : Nat := 0x20D05008 + i * 0x10
abbrev F.CPH_LEASE_CEIL_CEIL (i : Nat) : Fld := ⟨R.CPH_LEASE_CEIL i, 0, 32⟩
abbrev R.CPH_LEASE_STATE (i : Nat) : Nat := 0x20D0500C + i * 0x10
abbrev F.CPH_LEASE_STATE_STALL (i : Nat) : Fld := ⟨R.CPH_LEASE_STATE i, 1, 1⟩
abbrev F.CPH_LEASE_STATE_HELD (i : Nat) : Fld := ⟨R.CPH_LEASE_STATE i, 0, 1⟩
abbrev R.CPH_SEAL_LAST_LO (d : Nat) : Nat := 0x20D05800 + d * 0x8
abbrev F.CPH_SEAL_LAST_LO_LAST (d : Nat) : Fld := ⟨R.CPH_SEAL_LAST_LO d, 0, 32⟩
abbrev R.CPH_SEAL_LAST_HI (d : Nat) : Nat := 0x20D05804 + d * 0x8
abbrev F.CPH_SEAL_LAST_HI_LAST (d : Nat) : Fld := ⟨R.CPH_SEAL_LAST_HI d, 0, 32⟩
-- 13_the_pair.md, Table 13-10
abbrev R.QLB_CTRL : Nat := 0x20E00000
abbrev F.QLB_CTRL_FORM_WAIT : Fld := ⟨R.QLB_CTRL, 16, 16⟩
abbrev F.QLB_CTRL_ACCEPT_RESTART : Fld := ⟨R.QLB_CTRL, 1, 1⟩
abbrev F.QLB_CTRL_EN : Fld := ⟨R.QLB_CTRL, 0, 1⟩
abbrev R.QLB_STATUS : Nat := 0x20E00004
abbrev F.QLB_STATUS_PARTNER_ROLE : Fld := ⟨R.QLB_STATUS, 16, 4⟩
abbrev F.QLB_STATUS_PARTNER_PRESENT : Fld := ⟨R.QLB_STATUS, 8, 1⟩
abbrev F.QLB_STATUS_LINK_ONLY : Fld := ⟨R.QLB_STATUS, 7, 1⟩
abbrev F.QLB_STATUS_MIRRORING : Fld := ⟨R.QLB_STATUS, 6, 1⟩
abbrev F.QLB_STATUS_LINK_UP : Fld := ⟨R.QLB_STATUS, 5, 1⟩
abbrev F.QLB_STATUS_FORMING : Fld := ⟨R.QLB_STATUS, 4, 1⟩
abbrev F.QLB_STATUS_DUTY : Fld := ⟨R.QLB_STATUS, 3, 1⟩
abbrev F.QLB_STATUS_ROLE : Fld := ⟨R.QLB_STATUS, 1, 2⟩
abbrev F.QLB_STATUS_UNIT : Fld := ⟨R.QLB_STATUS, 0, 1⟩
abbrev R.QLB_TIMING : Nat := 0x20E00008
abbrev F.QLB_TIMING_LINK_TIMEOUT : Fld := ⟨R.QLB_TIMING, 16, 12⟩
abbrev F.QLB_TIMING_HB_PERIOD : Fld := ⟨R.QLB_TIMING, 0, 8⟩
abbrev R.QLB_PROBE : Nat := 0x20E0000C
abbrev F.QLB_PROBE_PROBE_PORTS : Fld := ⟨R.QLB_PROBE, 16, 4⟩
abbrev F.QLB_PROBE_PROBE_WAIT : Fld := ⟨R.QLB_PROBE, 0, 16⟩
abbrev R.QLB_BRIDGE : Nat := 0x20E00010
abbrev F.QLB_BRIDGE_BRIDGE_TIMEOUT : Fld := ⟨R.QLB_BRIDGE, 0, 16⟩
abbrev R.QLB_PARTNER_MAC_LO : Nat := 0x20E00014
abbrev F.QLB_PARTNER_MAC_LO_MAC : Fld := ⟨R.QLB_PARTNER_MAC_LO, 0, 32⟩
abbrev R.QLB_PARTNER_MAC_HI : Nat := 0x20E00018
abbrev F.QLB_PARTNER_MAC_HI_MAC : Fld := ⟨R.QLB_PARTNER_MAC_HI, 0, 16⟩
abbrev R.QLB_HANDOVER : Nat := 0x20E0001C
abbrev F.QLB_HANDOVER_START : Fld := ⟨R.QLB_HANDOVER, 0, 1⟩
abbrev R.QLB_RESTART : Nat := 0x20E00020
abbrev F.QLB_RESTART_KEY : Fld := ⟨R.QLB_RESTART, 0, 16⟩
abbrev R.QLB_EVENT : Nat := 0x20E00024
abbrev F.QLB_EVENT_EV : Fld := ⟨R.QLB_EVENT, 0, 10⟩
abbrev R.QLB_SHARED_BASE : Nat := 0x20E00028
abbrev F.QLB_SHARED_BASE_BASE : Fld := ⟨R.QLB_SHARED_BASE, 0, 32⟩
abbrev R.QLB_SHARED_SIZE : Nat := 0x20E0002C
abbrev F.QLB_SHARED_SIZE_SIZE : Fld := ⟨R.QLB_SHARED_SIZE, 0, 12⟩
abbrev R.QLB_TDM : Nat := 0x20E00030
abbrev F.QLB_TDM_TAKEN : Fld := ⟨R.QLB_TDM, 4, 4⟩
abbrev F.QLB_TDM_TAKE_EN : Fld := ⟨R.QLB_TDM, 0, 4⟩
abbrev R.QLB_LANES : Nat := 0x20E00034
abbrev F.QLB_LANES_ALIGNED : Fld := ⟨R.QLB_LANES, 2, 1⟩
abbrev F.QLB_LANES_LOCK : Fld := ⟨R.QLB_LANES, 0, 2⟩
abbrev R.QLB_RD_ERR_ADDR : Nat := 0x20E00038
abbrev F.QLB_RD_ERR_ADDR_ADDR : Fld := ⟨R.QLB_RD_ERR_ADDR, 0, 32⟩
abbrev R.QLB_RD_ERR : Nat := 0x20E0003C
abbrev F.QLB_RD_ERR_ENGINE : Fld := ⟨R.QLB_RD_ERR, 8, 3⟩
abbrev F.QLB_RD_ERR_STATUS : Fld := ⟨R.QLB_RD_ERR, 0, 3⟩
abbrev R.QLB_SEM_HELD : Nat := 0x20E00040
abbrev F.QLB_SEM_HELD_HELD : Fld := ⟨R.QLB_SEM_HELD, 0, 32⟩
abbrev R.QLB_FENCE (e : Nat) : Nat := 0x20E00080 + e * 0x4
abbrev F.QLB_FENCE_FAILED (e : Nat) : Fld := ⟨R.QLB_FENCE e, 0, 32⟩
abbrev R.QLB_FAR_HEAD0 : Nat := 0x20E000C0
abbrev F.QLB_FAR_HEAD0_VALID : Fld := ⟨R.QLB_FAR_HEAD0, 0, 1⟩
abbrev F.QLB_FAR_HEAD0_GAP : Fld := ⟨R.QLB_FAR_HEAD0, 1, 1⟩
abbrev F.QLB_FAR_HEAD0_STATUS : Fld := ⟨R.QLB_FAR_HEAD0, 4, 3⟩
abbrev F.QLB_FAR_HEAD0_ENGINE : Fld := ⟨R.QLB_FAR_HEAD0, 8, 3⟩
abbrev F.QLB_FAR_HEAD0_ATOMIC : Fld := ⟨R.QLB_FAR_HEAD0, 11, 1⟩
abbrev R.QLB_FAR_HEAD1 : Nat := 0x20E000C4
abbrev F.QLB_FAR_HEAD1_ENTRY : Fld := ⟨R.QLB_FAR_HEAD1, 0, 32⟩
abbrev R.QLB_FAR_HEAD2 : Nat := 0x20E000C8
abbrev F.QLB_FAR_HEAD2_ENTRY : Fld := ⟨R.QLB_FAR_HEAD2, 0, 32⟩
abbrev R.QLB_FAR_HEAD3 : Nat := 0x20E000CC
abbrev F.QLB_FAR_HEAD3_ENTRY : Fld := ⟨R.QLB_FAR_HEAD3, 0, 32⟩
abbrev R.QLB_FAR_LOST : Nat := 0x20E000D0
abbrev F.QLB_FAR_LOST_LOST : Fld := ⟨R.QLB_FAR_LOST, 0, 32⟩
-- 14_sleep_and_wake.md, Table 14-9
abbrev R.WAK_CTRL : Nat := 0x20F00000
abbrev F.WAK_CTRL_FWD_PORTS : Fld := ⟨R.WAK_CTRL, 4, 4⟩
abbrev F.WAK_CTRL_WAKE_FWD : Fld := ⟨R.WAK_CTRL, 3, 1⟩
abbrev F.WAK_CTRL_CAN_KA_EN : Fld := ⟨R.WAK_CTRL, 2, 1⟩
abbrev F.WAK_CTRL_EN : Fld := ⟨R.WAK_CTRL, 0, 1⟩
abbrev R.WAK_STATUS : Nat := 0x20F00004
abbrev F.WAK_STATUS_PEER_NEED : Fld := ⟨R.WAK_STATUS, 16, 16⟩
abbrev F.WAK_STATUS_POWER : Fld := ⟨R.WAK_STATUS, 8, 3⟩
abbrev F.WAK_STATUS_STATE : Fld := ⟨R.WAK_STATUS, 0, 3⟩
abbrev R.WAK_NEED : Nat := 0x20F00008
abbrev F.WAK_NEED_NEED : Fld := ⟨R.WAK_NEED, 0, 16⟩
abbrev R.WAK_KA : Nat := 0x20F0000C
abbrev F.WAK_KA_NEED_HOLD : Fld := ⟨R.WAK_KA, 16, 16⟩
abbrev F.WAK_KA_KA_PERIOD : Fld := ⟨R.WAK_KA, 0, 16⟩
abbrev R.WAK_KA_PORTS : Nat := 0x20F00010
abbrev F.WAK_KA_PORTS_PORTS : Fld := ⟨R.WAK_KA_PORTS, 0, 24⟩
abbrev R.WAK_KA_DA_LO : Nat := 0x20F00014
abbrev F.WAK_KA_DA_LO_DA : Fld := ⟨R.WAK_KA_DA_LO, 0, 32⟩
abbrev R.WAK_KA_DA_HI : Nat := 0x20F00018
abbrev F.WAK_KA_DA_HI_DA : Fld := ⟨R.WAK_KA_DA_HI, 0, 16⟩
abbrev R.WAK_HOLD : Nat := 0x20F0001C
abbrev F.WAK_HOLD_PREPARE_TIME : Fld := ⟨R.WAK_HOLD, 16, 16⟩
abbrev F.WAK_HOLD_READY_HOLD : Fld := ⟨R.WAK_HOLD, 0, 16⟩
abbrev R.WAK_CONFIRM : Nat := 0x20F00020
abbrev F.WAK_CONFIRM_WAKE_CONFIRM : Fld := ⟨R.WAK_CONFIRM, 16, 16⟩
abbrev F.WAK_CONFIRM_MIN_AWAKE : Fld := ⟨R.WAK_CONFIRM, 0, 16⟩
abbrev R.WAK_DWELL : Nat := 0x20F00024
abbrev F.WAK_DWELL_DWELL : Fld := ⟨R.WAK_DWELL, 0, 16⟩
abbrev R.WAK_TIMER : Nat := 0x20F00028
abbrev F.WAK_TIMER_WAKE_TIMER : Fld := ⟨R.WAK_TIMER, 0, 32⟩
abbrev R.WAK_FAILSAFE : Nat := 0x20F0002C
abbrev F.WAK_FAILSAFE_FAILSAFE_TIME : Fld := ⟨R.WAK_FAILSAFE, 0, 16⟩
abbrev R.WAK_SRC_EN : Nat := 0x20F00030
abbrev F.WAK_SRC_EN_EN : Fld := ⟨R.WAK_SRC_EN, 0, 32⟩
abbrev R.WAK_CAUSE : Nat := 0x20F00034
abbrev F.WAK_CAUSE_FAILSAFE : Fld := ⟨R.WAK_CAUSE, 9, 1⟩
abbrev F.WAK_CAUSE_LATCHED : Fld := ⟨R.WAK_CAUSE, 8, 1⟩
abbrev F.WAK_CAUSE_CAUSE : Fld := ⟨R.WAK_CAUSE, 0, 5⟩
abbrev R.WAK_CAUSE_SET : Nat := 0x20F00038
abbrev F.WAK_CAUSE_SET_SET : Fld := ⟨R.WAK_CAUSE_SET, 0, 32⟩
abbrev R.WAK_AON_SECONDS : Nat := 0x20F0003C
abbrev F.WAK_AON_SECONDS_S : Fld := ⟨R.WAK_AON_SECONDS, 0, 32⟩
abbrev R.WAK_SLEEP_ENTRY : Nat := 0x20F00040
abbrev F.WAK_SLEEP_ENTRY_S : Fld := ⟨R.WAK_SLEEP_ENTRY, 0, 32⟩
abbrev R.WAK_CAN_KA : Nat := 0x20F00044
abbrev F.WAK_CAN_KA_KA_CAN : Fld := ⟨R.WAK_CAN_KA, 28, 4⟩
abbrev F.WAK_CAN_KA_IDE : Fld := ⟨R.WAK_CAN_KA, 27, 1⟩
abbrev R.WAK_CAN_KA_ID : Nat := 0x20F00048
abbrev F.WAK_CAN_KA_ID_KA_CAN_ID : Fld := ⟨R.WAK_CAN_KA_ID, 0, 29⟩
abbrev R.WAK_PINS : Nat := 0x20F0004C
abbrev F.WAK_PINS_SD_MIN : Fld := ⟨R.WAK_PINS, 16, 16⟩
abbrev F.WAK_PINS_WAKEN_FILTER : Fld := ⟨R.WAK_PINS, 1, 15⟩
abbrev F.WAK_PINS_WAKEN_POL : Fld := ⟨R.WAK_PINS, 0, 1⟩
abbrev R.WAK_EVENT : Nat := 0x20F00050
abbrev F.WAK_EVENT_EV : Fld := ⟨R.WAK_EVENT, 0, 10⟩
abbrev R.WAK_BO : Nat := 0x20F00054
abbrev F.WAK_BO_LONGEST : Fld := ⟨R.WAK_BO, 16, 16⟩
abbrev F.WAK_BO_ENTRIES_10S : Fld := ⟨R.WAK_BO, 8, 8⟩
abbrev F.WAK_BO_THROTTLE : Fld := ⟨R.WAK_BO, 0, 1⟩
-- 14_sleep_and_wake.md, Table 14-10
abbrev R.WAK_C_CTRL (c : Nat) : Nat := 0x20F00100 + c * 0x20
abbrev F.WAK_C_CTRL_ERR_LIMIT (c : Nat) : Fld := ⟨R.WAK_C_CTRL c, 24, 8⟩
abbrev F.WAK_C_CTRL_WUP_MIN (c : Nat) : Fld := ⟨R.WAK_C_CTRL c, 16, 8⟩
abbrev F.WAK_C_CTRL_DLC_MIN (c : Nat) : Fld := ⟨R.WAK_C_CTRL c, 8, 4⟩
abbrev F.WAK_C_CTRL_IDE (c : Nat) : Fld := ⟨R.WAK_C_CTRL c, 6, 1⟩
abbrev F.WAK_C_CTRL_RATE (c : Nat) : Fld := ⟨R.WAK_C_CTRL c, 4, 2⟩
abbrev F.WAK_C_CTRL_MODE (c : Nat) : Fld := ⟨R.WAK_C_CTRL c, 0, 2⟩
abbrev R.WAK_C_ID_MATCH (c : Nat) : Nat := 0x20F00104 + c * 0x20
abbrev F.WAK_C_ID_MATCH_ID (c : Nat) : Fld := ⟨R.WAK_C_ID_MATCH c, 0, 29⟩
abbrev R.WAK_C_ID_MASK (c : Nat) : Nat := 0x20F00108 + c * 0x20
abbrev F.WAK_C_ID_MASK_MASK (c : Nat) : Fld := ⟨R.WAK_C_ID_MASK c, 0, 29⟩
abbrev R.WAK_C_DATA_MATCH_LO (c : Nat) : Nat := 0x20F0010C + c * 0x20
abbrev F.WAK_C_DATA_MATCH_LO_MATCH (c : Nat) : Fld := ⟨R.WAK_C_DATA_MATCH_LO c, 0, 32⟩
abbrev R.WAK_C_DATA_MATCH_HI (c : Nat) : Nat := 0x20F00110 + c * 0x20
abbrev F.WAK_C_DATA_MATCH_HI_MATCH (c : Nat) : Fld := ⟨R.WAK_C_DATA_MATCH_HI c, 0, 32⟩
abbrev R.WAK_C_DATA_MASK_LO (c : Nat) : Nat := 0x20F00114 + c * 0x20
abbrev F.WAK_C_DATA_MASK_LO_MASK (c : Nat) : Fld := ⟨R.WAK_C_DATA_MASK_LO c, 0, 32⟩
abbrev R.WAK_C_DATA_MASK_HI (c : Nat) : Nat := 0x20F00118 + c * 0x20
abbrev F.WAK_C_DATA_MASK_HI_MASK (c : Nat) : Fld := ⟨R.WAK_C_DATA_MASK_HI c, 0, 32⟩
abbrev R.WAK_T_CTRL (n : Nat) : Nat := 0x20F00200 + n * 0x20
abbrev F.WAK_T_CTRL_ACT_MIN (n : Nat) : Fld := ⟨R.WAK_T_CTRL n, 16, 16⟩
abbrev F.WAK_T_CTRL_OFFSET (n : Nat) : Fld := ⟨R.WAK_T_CTRL n, 8, 8⟩
abbrev F.WAK_T_CTRL_ET_CMP (n : Nat) : Fld := ⟨R.WAK_T_CTRL n, 3, 1⟩
abbrev F.WAK_T_CTRL_DA_CMP (n : Nat) : Fld := ⟨R.WAK_T_CTRL n, 2, 1⟩
abbrev F.WAK_T_CTRL_MODE (n : Nat) : Fld := ⟨R.WAK_T_CTRL n, 0, 2⟩
abbrev R.WAK_T_DA_LO (n : Nat) : Nat := 0x20F00204 + n * 0x20
abbrev F.WAK_T_DA_LO_DA (n : Nat) : Fld := ⟨R.WAK_T_DA_LO n, 0, 32⟩
abbrev R.WAK_T_DA_HI (n : Nat) : Nat := 0x20F00208 + n * 0x20
abbrev F.WAK_T_DA_HI_ETYPE (n : Nat) : Fld := ⟨R.WAK_T_DA_HI n, 16, 16⟩
abbrev F.WAK_T_DA_HI_DA (n : Nat) : Fld := ⟨R.WAK_T_DA_HI n, 0, 16⟩
abbrev R.WAK_T_DATA_MATCH_LO (n : Nat) : Nat := 0x20F0020C + n * 0x20
abbrev F.WAK_T_DATA_MATCH_LO_MATCH (n : Nat) : Fld := ⟨R.WAK_T_DATA_MATCH_LO n, 0, 32⟩
abbrev R.WAK_T_DATA_MATCH_HI (n : Nat) : Nat := 0x20F00210 + n * 0x20
abbrev F.WAK_T_DATA_MATCH_HI_MATCH (n : Nat) : Fld := ⟨R.WAK_T_DATA_MATCH_HI n, 0, 32⟩
abbrev R.WAK_T_DATA_MASK_LO (n : Nat) : Nat := 0x20F00214 + n * 0x20
abbrev F.WAK_T_DATA_MASK_LO_MASK (n : Nat) : Fld := ⟨R.WAK_T_DATA_MASK_LO n, 0, 32⟩
abbrev R.WAK_T_DATA_MASK_HI (n : Nat) : Nat := 0x20F00218 + n * 0x20
abbrev F.WAK_T_DATA_MASK_HI_MASK (n : Nat) : Fld := ⟨R.WAK_T_DATA_MASK_HI n, 0, 32⟩
-- 14_sleep_and_wake.md, Table 14-11
abbrev R.WAK_FW (c : Nat) : Nat := 0x20F00300 + c * 0x4
abbrev F.WAK_FW_RUN (c : Nat) : Fld := ⟨R.WAK_FW c, 16, 16⟩
abbrev F.WAK_FW_FW_COUNT (c : Nat) : Fld := ⟨R.WAK_FW c, 0, 16⟩
abbrev R.WAK_QUAR : Nat := 0x20F00380
abbrev F.WAK_QUAR_QUAR_HOLD : Fld := ⟨R.WAK_QUAR, 16, 16⟩
abbrev F.WAK_QUAR_QUAR_LIMIT : Fld := ⟨R.WAK_QUAR, 0, 8⟩
abbrev R.WAK_QUAR_STATUS : Nat := 0x20F00384
abbrev F.WAK_QUAR_STATUS_Q : Fld := ⟨R.WAK_QUAR_STATUS, 0, 32⟩
abbrev R.WAK_QUAR_CLEAR : Nat := 0x20F00388
abbrev F.WAK_QUAR_CLEAR_CLR : Fld := ⟨R.WAK_QUAR_CLEAR, 0, 32⟩
-- 15_engines_and_access.md, Table 15-11
abbrev R.ENG_ID (e : Nat) : Nat := 0x121000000 + e * 0x100000000
abbrev F.ENG_ID_ENGINE (e : Nat) : Fld := ⟨R.ENG_ID e, 0, 3⟩
abbrev R.ENG_IRQ_PEND (e : Nat) : Nat := 0x121000004 + e * 0x100000000
abbrev F.ENG_IRQ_PEND_CPH (e : Nat) : Fld := ⟨R.ENG_IRQ_PEND e, 4, 1⟩
abbrev F.ENG_IRQ_PEND_RXR (e : Nat) : Fld := ⟨R.ENG_IRQ_PEND e, 3, 1⟩
abbrev F.ENG_IRQ_PEND_TXR (e : Nat) : Fld := ⟨R.ENG_IRQ_PEND e, 2, 1⟩
abbrev F.ENG_IRQ_PEND_MB (e : Nat) : Fld := ⟨R.ENG_IRQ_PEND e, 1, 1⟩
abbrev F.ENG_IRQ_PEND_EVQ (e : Nat) : Fld := ⟨R.ENG_IRQ_PEND e, 0, 1⟩
abbrev R.ENG_IRQ_EN (e : Nat) : Nat := 0x121000008 + e * 0x100000000
abbrev F.ENG_IRQ_EN_EN (e : Nat) : Fld := ⟨R.ENG_IRQ_EN e, 0, 5⟩
abbrev R.ENG_BUSERR_ADDR (e : Nat) : Nat := 0x12100000C + e * 0x100000000
abbrev F.ENG_BUSERR_ADDR_ADDR (e : Nat) : Fld := ⟨R.ENG_BUSERR_ADDR e, 0, 32⟩
abbrev R.ENG_BUSERR_INFO (e : Nat) : Nat := 0x121000010 + e * 0x100000000
abbrev F.ENG_BUSERR_INFO_WRITE (e : Nat) : Fld := ⟨R.ENG_BUSERR_INFO e, 8, 1⟩
abbrev F.ENG_BUSERR_INFO_CAUSE (e : Nat) : Fld := ⟨R.ENG_BUSERR_INFO e, 0, 3⟩
abbrev R.ENG_WD_KICK (e : Nat) : Nat := 0x121000014 + e * 0x100000000
abbrev F.ENG_WD_KICK_KEY (e : Nat) : Fld := ⟨R.ENG_WD_KICK e, 0, 16⟩
abbrev R.ENG_WD_CFG (e : Nat) : Nat := 0x121000018 + e * 0x100000000
abbrev F.ENG_WD_CFG_PERIOD (e : Nat) : Fld := ⟨R.ENG_WD_CFG e, 0, 16⟩
abbrev R.ENG_MTIMECMP_LO (e : Nat) : Nat := 0x12100001C + e * 0x100000000
abbrev F.ENG_MTIMECMP_LO_CMP (e : Nat) : Fld := ⟨R.ENG_MTIMECMP_LO e, 0, 32⟩
abbrev R.ENG_MTIMECMP_HI (e : Nat) : Nat := 0x121000020 + e * 0x100000000
abbrev F.ENG_MTIMECMP_HI_CMP (e : Nat) : Fld := ⟨R.ENG_MTIMECMP_HI e, 0, 32⟩
abbrev R.ENG_EVQ_HEAD0 (e : Nat) : Nat := 0x121000030 + e * 0x100000000
abbrev F.ENG_EVQ_HEAD0_ENTRY (e : Nat) : Fld := ⟨R.ENG_EVQ_HEAD0 e, 0, 32⟩
abbrev R.ENG_EVQ_HEAD1 (e : Nat) : Nat := 0x121000034 + e * 0x100000000
abbrev F.ENG_EVQ_HEAD1_ENTRY (e : Nat) : Fld := ⟨R.ENG_EVQ_HEAD1 e, 0, 32⟩
abbrev R.ENG_EVQ_HEAD2 (e : Nat) : Nat := 0x121000038 + e * 0x100000000
abbrev F.ENG_EVQ_HEAD2_ENTRY (e : Nat) : Fld := ⟨R.ENG_EVQ_HEAD2 e, 0, 32⟩
abbrev R.ENG_EVQ_HEAD3 (e : Nat) : Nat := 0x12100003C + e * 0x100000000
abbrev F.ENG_EVQ_HEAD3_ENTRY (e : Nat) : Fld := ⟨R.ENG_EVQ_HEAD3 e, 0, 32⟩
abbrev R.ENG_EVQ_LOST (e : Nat) : Nat := 0x121000040 + e * 0x100000000
abbrev F.ENG_EVQ_LOST_LOST (e : Nat) : Fld := ⟨R.ENG_EVQ_LOST e, 0, 32⟩
abbrev R.ENG_MB_TXD0 (e : Nat) : Nat := 0x121000050 + e * 0x100000000
abbrev F.ENG_MB_TXD0_DATA (e : Nat) : Fld := ⟨R.ENG_MB_TXD0 e, 0, 32⟩
abbrev R.ENG_MB_TXD1 (e : Nat) : Nat := 0x121000054 + e * 0x100000000
abbrev F.ENG_MB_TXD1_DATA (e : Nat) : Fld := ⟨R.ENG_MB_TXD1 e, 0, 32⟩
abbrev R.ENG_MB_TXD2 (e : Nat) : Nat := 0x121000058 + e * 0x100000000
abbrev F.ENG_MB_TXD2_DATA (e : Nat) : Fld := ⟨R.ENG_MB_TXD2 e, 0, 32⟩
abbrev R.ENG_MB_TXD3 (e : Nat) : Nat := 0x12100005C + e * 0x100000000
abbrev F.ENG_MB_TXD3_DATA (e : Nat) : Fld := ⟨R.ENG_MB_TXD3 e, 0, 32⟩
abbrev R.ENG_MB_SEND (e : Nat) : Nat := 0x121000060 + e * 0x100000000
abbrev F.ENG_MB_SEND_DEST (e : Nat) : Fld := ⟨R.ENG_MB_SEND e, 0, 3⟩
abbrev R.ENG_MB_STATUS (e : Nat) : Nat := 0x121000064 + e * 0x100000000
abbrev F.ENG_MB_STATUS_FILL (e : Nat) : Fld := ⟨R.ENG_MB_STATUS e, 8, 5⟩
abbrev F.ENG_MB_STATUS_RESULT (e : Nat) : Fld := ⟨R.ENG_MB_STATUS e, 0, 1⟩
abbrev R.ENG_MB_RX_HEAD0 (e : Nat) : Nat := 0x121000068 + e * 0x100000000
abbrev F.ENG_MB_RX_HEAD0_SRC (e : Nat) : Fld := ⟨R.ENG_MB_RX_HEAD0 e, 4, 3⟩
abbrev F.ENG_MB_RX_HEAD0_VALID (e : Nat) : Fld := ⟨R.ENG_MB_RX_HEAD0 e, 0, 1⟩
abbrev R.ENG_MB_RX_HEAD1 (e : Nat) : Nat := 0x12100006C + e * 0x100000000
abbrev F.ENG_MB_RX_HEAD1_DATA (e : Nat) : Fld := ⟨R.ENG_MB_RX_HEAD1 e, 0, 32⟩
abbrev R.ENG_MB_RX_HEAD2 (e : Nat) : Nat := 0x121000070 + e * 0x100000000
abbrev F.ENG_MB_RX_HEAD2_DATA (e : Nat) : Fld := ⟨R.ENG_MB_RX_HEAD2 e, 0, 32⟩
abbrev R.ENG_MB_RX_HEAD3 (e : Nat) : Nat := 0x121000074 + e * 0x100000000
abbrev F.ENG_MB_RX_HEAD3_DATA (e : Nat) : Fld := ⟨R.ENG_MB_RX_HEAD3 e, 0, 32⟩
abbrev R.ENG_MB_RX_HEAD4 (e : Nat) : Nat := 0x121000078 + e * 0x100000000
abbrev F.ENG_MB_RX_HEAD4_DATA (e : Nat) : Fld := ⟨R.ENG_MB_RX_HEAD4 e, 0, 32⟩
-- 15_engines_and_access.md, Table 15-12
abbrev R.ENG_RUN : Nat := 0x21000800
abbrev F.ENG_RUN_HELD : Fld := ⟨R.ENG_RUN, 8, 8⟩
abbrev F.ENG_RUN_RUNNING : Fld := ⟨R.ENG_RUN, 0, 8⟩
abbrev R.ENG_EVENT : Nat := 0x21000804
abbrev F.ENG_EVENT_EV : Fld := ⟨R.ENG_EVENT, 0, 3⟩
abbrev R.ENG_MTIME_LO : Nat := 0x21000810
abbrev F.ENG_MTIME_LO_MTIME : Fld := ⟨R.ENG_MTIME_LO, 0, 32⟩
abbrev R.ENG_MTIME_HI : Nat := 0x21000814
abbrev F.ENG_MTIME_HI_MTIME : Fld := ⟨R.ENG_MTIME_HI, 0, 32⟩
abbrev R.ENG_P24_STEER : Nat := 0x21000900
abbrev F.ENG_P24_STEER_RING (c : Nat) : Fld := ⟨R.ENG_P24_STEER, 3 * c, 3⟩
abbrev R.ENG_ROUTE (r : Nat) : Nat := 0x21001000 + r * 0x4
abbrev F.ENG_ROUTE_ENGINES (r : Nat) : Fld := ⟨R.ENG_ROUTE r, 0, 8⟩
abbrev R.ENG_TXR_BASE (e : Nat) : Nat := 0x21002000 + e * 0x40
abbrev F.ENG_TXR_BASE_BASE (e : Nat) : Fld := ⟨R.ENG_TXR_BASE e, 0, 32⟩
abbrev R.ENG_TXR_SIZE (e : Nat) : Nat := 0x21002004 + e * 0x40
abbrev F.ENG_TXR_SIZE_SIZE (e : Nat) : Fld := ⟨R.ENG_TXR_SIZE e, 0, 10⟩
abbrev R.ENG_TXR_PUT (e : Nat) : Nat := 0x21002008 + e * 0x40
abbrev F.ENG_TXR_PUT_PUT (e : Nat) : Fld := ⟨R.ENG_TXR_PUT e, 0, 10⟩
abbrev R.ENG_TXR_GET (e : Nat) : Nat := 0x2100200C + e * 0x40
abbrev F.ENG_TXR_GET_GET (e : Nat) : Fld := ⟨R.ENG_TXR_GET e, 0, 10⟩
abbrev R.ENG_RXR_BASE (e : Nat) : Nat := 0x21002020 + e * 0x40
abbrev F.ENG_RXR_BASE_BASE (e : Nat) : Fld := ⟨R.ENG_RXR_BASE e, 0, 32⟩
abbrev R.ENG_RXR_SIZE (e : Nat) : Nat := 0x21002024 + e * 0x40
abbrev F.ENG_RXR_SIZE_SIZE (e : Nat) : Fld := ⟨R.ENG_RXR_SIZE e, 0, 10⟩
abbrev R.ENG_RXR_PUT (e : Nat) : Nat := 0x21002028 + e * 0x40
abbrev F.ENG_RXR_PUT_PUT (e : Nat) : Fld := ⟨R.ENG_RXR_PUT e, 0, 10⟩
abbrev R.ENG_RXR_GET (e : Nat) : Nat := 0x2100202C + e * 0x40
abbrev F.ENG_RXR_GET_GET (e : Nat) : Fld := ⟨R.ENG_RXR_GET e, 0, 10⟩
-- 16_faults_and_cellar.md, Table 16-9
abbrev R.FLT_STATUS : Nat := 0x21100000
abbrev F.FLT_STATUS_DBG_OPEN : Fld := ⟨R.FLT_STATUS, 31, 1⟩
abbrev F.FLT_STATUS_BOTTLING : Fld := ⟨R.FLT_STATUS, 30, 1⟩
abbrev F.FLT_STATUS_CRYSTAL_LOST : Fld := ⟨R.FLT_STATUS, 29, 1⟩
abbrev F.FLT_STATUS_DEBUG_LOCK : Fld := ⟨R.FLT_STATUS, 28, 1⟩
abbrev F.FLT_STATUS_LAST_FS_CAUSE : Fld := ⟨R.FLT_STATUS, 0, 4⟩
abbrev R.FLT_FS_DATA : Nat := 0x21100004
abbrev F.FLT_FS_DATA_DATA : Fld := ⟨R.FLT_FS_DATA, 0, 32⟩
abbrev R.FLT_CELLAR_HEAD : Nat := 0x21100008
abbrev F.FLT_CELLAR_HEAD_BOOT : Fld := ⟨R.FLT_CELLAR_HEAD, 22, 10⟩
abbrev F.FLT_CELLAR_HEAD_NEXT : Fld := ⟨R.FLT_CELLAR_HEAD, 0, 12⟩
abbrev R.FLT_CELLAR_SEL : Nat := 0x2110000C
abbrev F.FLT_CELLAR_SEL_BLOCKS : Fld := ⟨R.FLT_CELLAR_SEL, 1, 18⟩
abbrev R.FLT_LOG_DATA0 (e : Nat) : Nat := 0x121100010 + e * 0x100000000
abbrev F.FLT_LOG_DATA0_DATA (e : Nat) : Fld := ⟨R.FLT_LOG_DATA0 e, 0, 32⟩
abbrev R.FLT_LOG_DATA1 (e : Nat) : Nat := 0x121100014 + e * 0x100000000
abbrev F.FLT_LOG_DATA1_DATA (e : Nat) : Fld := ⟨R.FLT_LOG_DATA1 e, 0, 32⟩
abbrev R.FLT_LOG_DATA2 (e : Nat) : Nat := 0x121100018 + e * 0x100000000
abbrev F.FLT_LOG_DATA2_DATA (e : Nat) : Fld := ⟨R.FLT_LOG_DATA2 e, 0, 32⟩
abbrev R.FLT_LOG_CMD : Nat := 0x21100020
abbrev F.FLT_LOG_CMD_CODE : Fld := ⟨R.FLT_LOG_CMD, 0, 16⟩
abbrev R.FLT_BOTTLE : Nat := 0x21100024
abbrev F.FLT_BOTTLE_REASON : Fld := ⟨R.FLT_BOTTLE, 8, 4⟩
abbrev F.FLT_BOTTLE_LAST : Fld := ⟨R.FLT_BOTTLE, 4, 2⟩
abbrev F.FLT_BOTTLE_VALID : Fld := ⟨R.FLT_BOTTLE, 0, 4⟩
abbrev R.FLT_BOTTLE_SEQ : Nat := 0x21100028
abbrev F.FLT_BOTTLE_SEQ_SEQUENCE : Fld := ⟨R.FLT_BOTTLE_SEQ, 0, 32⟩
abbrev R.FLT_RESTART : Nat := 0x2110002C
abbrev F.FLT_RESTART_RESTART_WINDOW : Fld := ⟨R.FLT_RESTART, 16, 16⟩
abbrev F.FLT_RESTART_RESTART_LIMIT : Fld := ⟨R.FLT_RESTART, 0, 8⟩
abbrev R.FLT_DBG_CTRL : Nat := 0x21100030
abbrev F.FLT_DBG_CTRL_ALLOW_OPEN : Fld := ⟨R.FLT_DBG_CTRL, 0, 1⟩
abbrev R.FLT_EVENT : Nat := 0x21100034
abbrev F.FLT_EVENT_EV : Fld := ⟨R.FLT_EVENT, 0, 8⟩
abbrev R.FLT_RESTART_STATUS : Nat := 0x21100038
abbrev F.FLT_RESTART_STATUS_RESTARTS : Fld := ⟨R.FLT_RESTART_STATUS, 0, 8⟩
abbrev R.FLT_MON : Nat := 0x21100040
abbrev F.FLT_MON_RAIL_BAD : Fld := ⟨R.FLT_MON, 8, 5⟩
abbrev F.FLT_MON_CLK_BAD : Fld := ⟨R.FLT_MON, 0, 6⟩
abbrev R.FLT_WIN_CFG (k : Nat) : Nat := 0x21100100 + k * 0x8
abbrev F.FLT_WIN_CFG_WINDOW_MS (k : Nat) : Fld := ⟨R.FLT_WIN_CFG k, 16, 16⟩
abbrev F.FLT_WIN_CFG_COUNT (k : Nat) : Fld := ⟨R.FLT_WIN_CFG k, 8, 8⟩
abbrev F.FLT_WIN_CFG_REACT (k : Nat) : Fld := ⟨R.FLT_WIN_CFG k, 0, 2⟩
abbrev R.FLT_WIN_STAT (k : Nat) : Nat := 0x21100104 + k * 0x8
abbrev F.FLT_WIN_STAT_LASTING (k : Nat) : Fld := ⟨R.FLT_WIN_STAT k, 16, 16⟩
abbrev F.FLT_WIN_STAT_TRANSIENTS (k : Nat) : Fld := ⟨R.FLT_WIN_STAT k, 0, 16⟩
-- 17_counters_and_harvest.md, Table 17-3
abbrev R.CNT_HARVEST : Nat := 0x21200000
abbrev F.CNT_HARVEST_START : Fld := ⟨R.CNT_HARVEST, 31, 1⟩
abbrev F.CNT_HARVEST_PERIOD : Fld := ⟨R.CNT_HARVEST, 0, 16⟩
abbrev R.CNT_HARVEST_BASE : Nat := 0x21200004
abbrev F.CNT_HARVEST_BASE_BASE : Fld := ⟨R.CNT_HARVEST_BASE, 0, 32⟩
abbrev R.CNT_HARVEST_STATUS : Nat := 0x21200008
abbrev F.CNT_HARVEST_STATUS_BUSY : Fld := ⟨R.CNT_HARVEST_STATUS, 31, 1⟩
abbrev F.CNT_HARVEST_STATUS_BASE_ERR : Fld := ⟨R.CNT_HARVEST_STATUS, 30, 1⟩
abbrev F.CNT_HARVEST_STATUS_LAST_BANK : Fld := ⟨R.CNT_HARVEST_STATUS, 16, 1⟩
abbrev F.CNT_HARVEST_STATUS_DURATION : Fld := ⟨R.CNT_HARVEST_STATUS, 0, 16⟩
abbrev R.CNT_HARVEST_SWEEP : Nat := 0x2120000C
abbrev F.CNT_HARVEST_SWEEP_SWEEP : Fld := ⟨R.CNT_HARVEST_SWEEP, 0, 32⟩
abbrev R.CNT_EVENT : Nat := 0x21200010
abbrev F.CNT_EVENT_EV : Fld := ⟨R.CNT_EVENT, 0, 1⟩
abbrev R.CNT_TD_SNAP : Nat := 0x21200020
abbrev R.CNT_TD_RETIRED_LO : Nat := 0x21200100
abbrev F.CNT_TD_RETIRED_LO_COUNT : Fld := ⟨R.CNT_TD_RETIRED_LO, 0, 32⟩
abbrev R.CNT_TD_RETIRED_HI : Nat := 0x21200104
abbrev F.CNT_TD_RETIRED_HI_COUNT : Fld := ⟨R.CNT_TD_RETIRED_HI, 0, 32⟩
abbrev R.CNT_TD_WASTED_LO : Nat := 0x21200108
abbrev F.CNT_TD_WASTED_LO_COUNT : Fld := ⟨R.CNT_TD_WASTED_LO, 0, 32⟩
abbrev R.CNT_TD_WASTED_HI : Nat := 0x2120010C
abbrev F.CNT_TD_WASTED_HI_COUNT : Fld := ⟨R.CNT_TD_WASTED_HI, 0, 32⟩
abbrev R.CNT_TD_FRONT_LO : Nat := 0x21200110
abbrev F.CNT_TD_FRONT_LO_COUNT : Fld := ⟨R.CNT_TD_FRONT_LO, 0, 32⟩
abbrev R.CNT_TD_FRONT_HI : Nat := 0x21200114
abbrev F.CNT_TD_FRONT_HI_COUNT : Fld := ⟨R.CNT_TD_FRONT_HI, 0, 32⟩
abbrev R.CNT_TD_BACK_LO : Nat := 0x21200118
abbrev F.CNT_TD_BACK_LO_COUNT : Fld := ⟨R.CNT_TD_BACK_LO, 0, 32⟩
abbrev R.CNT_TD_BACK_HI : Nat := 0x2120011C
abbrev F.CNT_TD_BACK_HI_COUNT : Fld := ⟨R.CNT_TD_BACK_HI, 0, 32⟩
abbrev R.CNT_TD_TOTAL_LO : Nat := 0x21200120
abbrev F.CNT_TD_TOTAL_LO_COUNT : Fld := ⟨R.CNT_TD_TOTAL_LO, 0, 32⟩
abbrev R.CNT_TD_TOTAL_HI : Nat := 0x21200124
abbrev F.CNT_TD_TOTAL_HI_COUNT : Fld := ⟨R.CNT_TD_TOTAL_HI, 0, 32⟩
-- 18_pins_power_package.md, Table 18-16
abbrev R.DEV_ID : Nat := 0x20100000
abbrev F.DEV_ID_VERSION : Fld := ⟨R.DEV_ID, 28, 4⟩
abbrev F.DEV_ID_PART : Fld := ⟨R.DEV_ID, 12, 16⟩
abbrev F.DEV_ID_MAKER : Fld := ⟨R.DEV_ID, 1, 11⟩
abbrev F.DEV_ID_ONE : Fld := ⟨R.DEV_ID, 0, 1⟩
abbrev R.DEV_STRAP : Nat := 0x20100004
abbrev F.DEV_STRAP_TEST_EN : Fld := ⟨R.DEV_STRAP, 1, 1⟩
abbrev F.DEV_STRAP_PAIR_ID : Fld := ⟨R.DEV_STRAP, 0, 1⟩
abbrev R.DEV_MAC_LO : Nat := 0x20100014
abbrev F.DEV_MAC_LO_MAC : Fld := ⟨R.DEV_MAC_LO, 0, 32⟩
abbrev R.DEV_MAC_HI : Nat := 0x20100018
abbrev F.DEV_MAC_HI_MAC : Fld := ⟨R.DEV_MAC_HI, 0, 16⟩
abbrev R.DEV_TEMP : Nat := 0x20100020
abbrev F.DEV_TEMP_MAX : Fld := ⟨R.DEV_TEMP, 16, 16⟩
abbrev F.DEV_TEMP_TEMP : Fld := ⟨R.DEV_TEMP, 0, 16⟩
-- 02_configuration_image_and_vintage.md, Table 2-12
abbrev R.CFG_CENSUS_E_MAC_LO (i : Nat) : Nat := 0x20201000 + i * 0x20
abbrev F.CFG_CENSUS_E_MAC_LO_MAC_LO (i : Nat) : Fld := ⟨R.CFG_CENSUS_E_MAC_LO i, 0, 32⟩
abbrev R.CFG_CENSUS_E_MAC_HI (i : Nat) : Nat := 0x20201004 + i * 0x20
abbrev F.CFG_CENSUS_E_MAC_HI_MAC_HI (i : Nat) : Fld := ⟨R.CFG_CENSUS_E_MAC_HI i, 0, 16⟩
abbrev F.CFG_CENSUS_E_MAC_HI_VALID (i : Nat) : Fld := ⟨R.CFG_CENSUS_E_MAC_HI i, 16, 1⟩
abbrev F.CFG_CENSUS_E_MAC_HI_PARTNER (i : Nat) : Fld := ⟨R.CFG_CENSUS_E_MAC_HI i, 17, 1⟩
abbrev F.CFG_CENSUS_E_MAC_HI_VIA_HB (i : Nat) : Fld := ⟨R.CFG_CENSUS_E_MAC_HI i, 18, 1⟩
abbrev R.CFG_CENSUS_E_NUMBER (i : Nat) : Nat := 0x20201008 + i * 0x20
abbrev F.CFG_CENSUS_E_NUMBER_NUMBER (i : Nat) : Fld := ⟨R.CFG_CENSUS_E_NUMBER i, 0, 16⟩
abbrev F.CFG_CENSUS_E_NUMBER_AGREE (i : Nat) : Fld := ⟨R.CFG_CENSUS_E_NUMBER i, 16, 1⟩
abbrev R.CFG_CENSUS_E_FP_LO (i : Nat) : Nat := 0x2020100C + i * 0x20
abbrev F.CFG_CENSUS_E_FP_LO_FP_LO (i : Nat) : Fld := ⟨R.CFG_CENSUS_E_FP_LO i, 0, 32⟩
abbrev R.CFG_CENSUS_E_FP_HI (i : Nat) : Nat := 0x20201010 + i * 0x20
abbrev F.CFG_CENSUS_E_FP_HI_FP_HI (i : Nat) : Fld := ⟨R.CFG_CENSUS_E_FP_HI i, 0, 32⟩
abbrev R.CFG_CENSUS_E_SEEN (i : Nat) : Nat := 0x20201014 + i * 0x20
abbrev F.CFG_CENSUS_E_SEEN_LAST_SEEN (i : Nat) : Fld := ⟨R.CFG_CENSUS_E_SEEN i, 0, 32⟩
-- 04_ethernet_ports.md, Table 4-8 (counters)
abbrev C.MAC_RX_FRAMES (n : Nat) : Nat := 0x20400100 + n * 0x1000
abbrev C.MAC_RX_OCTETS_LO (n : Nat) : Nat := 0x20400104 + n * 0x1000
abbrev C.MAC_RX_OCTETS_HI (n : Nat) : Nat := 0x20400108 + n * 0x1000
abbrev C.MAC_TX_FRAMES (n : Nat) : Nat := 0x2040010C + n * 0x1000
abbrev C.MAC_TX_OCTETS_LO (n : Nat) : Nat := 0x20400110 + n * 0x1000
abbrev C.MAC_TX_OCTETS_HI (n : Nat) : Nat := 0x20400114 + n * 0x1000
abbrev C.MAC_RX_PREAMBLE (n : Nat) : Nat := 0x20400118 + n * 0x1000
abbrev C.MAC_RX_NOTREADY (n : Nat) : Nat := 0x2040011C + n * 0x1000
abbrev C.MAC_RX_TAGDROP (n : Nat) : Nat := 0x20400120 + n * 0x1000
abbrev C.MAC_RX_GFILTER (n : Nat) : Nat := 0x20400124 + n * 0x1000
abbrev C.MAC_RX_PAUSE (n : Nat) : Nat := 0x20400128 + n * 0x1000
abbrev C.MAC_RX_PAUSE_IGN (n : Nat) : Nat := 0x2040012C + n * 0x1000
abbrev C.MAC_RX_CTRL_UNSUP (n : Nat) : Nat := 0x20400130 + n * 0x1000
abbrev C.MAC_RX_RUNT (n : Nat) : Nat := 0x20400134 + n * 0x1000
abbrev C.MAC_RX_OVERSIZE (n : Nat) : Nat := 0x20400138 + n * 0x1000
abbrev C.MAC_RX_CODE (n : Nat) : Nat := 0x2040013C + n * 0x1000
abbrev C.MAC_RX_FCS (n : Nat) : Nat := 0x20400140 + n * 0x1000
abbrev C.MAC_RX_TRUNC (n : Nat) : Nat := 0x20400144 + n * 0x1000
abbrev C.MAC_RX_FRAG_ERR (n : Nat) : Nat := 0x20400148 + n * 0x1000
abbrev C.MAC_TX_PAUSE (n : Nat) : Nat := 0x2040014C + n * 0x1000
abbrev C.MAC_TX_STOMPED (n : Nat) : Nat := 0x20400150 + n * 0x1000
abbrev C.MAC_TX_OVERSIZE (n : Nat) : Nat := 0x20400154 + n * 0x1000
abbrev C.MAC_TX_ABORT (n : Nat) : Nat := 0x20400158 + n * 0x1000
abbrev C.MAC_TX_LINKDOWN (n : Nat) : Nat := 0x2040015C + n * 0x1000
abbrev C.MAC_TX_ONESTEP_REFUSED (n : Nat) : Nat := 0x20400160 + n * 0x1000
abbrev C.MAC_TX_PREEMPTED (n : Nat) : Nat := 0x20400164 + n * 0x1000
abbrev C.MAC_PAUSE_WD (n : Nat) : Nat := 0x20400168 + n * 0x1000
abbrev C.MAC_LINK_DOWNS (n : Nat) : Nat := 0x2040016C + n * 0x1000
abbrev C.MAC_PLCA_BEACON_LOSS (n : Nat) : Nat := 0x20400170 + n * 0x1000
abbrev C.MAC_COLLISIONS (n : Nat) : Nat := 0x20400174 + n * 0x1000
-- 05_ingress_and_forwarding.md, Table 5-10 (counters)
abbrev C.FWD_VLAN_UNKNOWN : Nat := 0x20500400
abbrev C.FWD_INGRESS_FILTER : Nat := 0x20500404
abbrev C.FWD_SA_GROUP : Nat := 0x20500408
abbrev C.FWD_SA_LOCKED : Nat := 0x2050040C
abbrev C.FWD_SA_STATIC_CONFLICT : Nat := 0x20500410
abbrev C.FWD_DA_DROP : Nat := 0x20500414
abbrev C.FWD_NO_DEST : Nat := 0x20500418
abbrev C.FWD_TRAPPED : Nat := 0x2050041C
abbrev C.FWD_LEARNED : Nat := 0x20500420
abbrev C.FWD_LEARN_FAIL : Nat := 0x20500424
abbrev C.FWD_LEARN_OVF : Nat := 0x20500428
abbrev C.FWD_MOVES : Nat := 0x2050042C
abbrev C.FWD_AGED : Nat := 0x20500430
abbrev C.FWD_FLUSHED : Nat := 0x20500434
abbrev C.FWD_STASHED : Nat := 0x20500438
abbrev C.FWD_MIGRATE_DROP : Nat := 0x2050043C
abbrev C.FWD_L3_ROUTED : Nat := 0x20500440
abbrev C.FWD_IP_HDR_ERR : Nat := 0x20500444
abbrev C.FWD_TTL_EXPIRED : Nat := 0x20500448
abbrev C.FWD_L3_EXCEPTION : Nat := 0x2050044C
abbrev C.FWD_L3_MISS : Nat := 0x20500450
abbrev C.FWD_L3_DROP : Nat := 0x20500454
abbrev C.FWD_NH_INVALID : Nat := 0x20500458
abbrev C.FWD_TCAM_FIX : Nat := 0x2050045C
abbrev C.FWD_FLOOD_UU : Nat := 0x20500460
abbrev C.FWD_FLOOD_UM : Nat := 0x20500464
abbrev C.FWD_SC_BY_FLOW : Nat := 0x20500468
abbrev C.FWD_SC_BY_DA : Nat := 0x2050046C
abbrev C.FWD_SC_BY_SA : Nat := 0x20500470
abbrev C.FWD_DECISIONS_LO : Nat := 0x20500474
abbrev C.FWD_DECISIONS_HI : Nat := 0x20500478
abbrev C.FWD_TRAP_DROP : Nat := 0x2050047C
-- 06_stream_channels.md, Table 6-6 (counters)
abbrev C.SCT_C_FRAMES (h : Nat) : Nat := 0x20610000 + h * 0x40
abbrev C.SCT_C_GATE_CLOSED (h : Nat) : Nat := 0x20610004 + h * 0x40
abbrev C.SCT_C_SDU_OVERSIZE (h : Nat) : Nat := 0x20610008 + h * 0x40
abbrev C.SCT_C_NEVER_FITS (h : Nat) : Nat := 0x2061000C + h * 0x40
abbrev C.SCT_C_RED (h : Nat) : Nat := 0x20610010 + h * 0x40
abbrev C.SCT_C_AUTH_FAIL (h : Nat) : Nat := 0x20610014 + h * 0x40
abbrev C.SCT_C_ELIMINATED (h : Nat) : Nat := 0x20610018 + h * 0x40
abbrev C.SCT_C_OUT_OF_ORDER (h : Nat) : Nat := 0x2061001C + h * 0x40
abbrev C.SCT_C_LOST (h : Nat) : Nat := 0x20610020 + h * 0x40
abbrev C.SCT_C_ROGUE (h : Nat) : Nat := 0x20610024 + h * 0x40
-- 06_stream_channels.md, Table 6-8 (counters)
abbrev C.SCT_INVALID_SC : Nat := 0x20600400
abbrev C.SCT_TAGLESS : Nat := 0x20600404
abbrev C.SCT_RCV_RESETS : Nat := 0x20600408
abbrev C.SCT_GEN_NO_ESI : Nat := 0x2060040C
abbrev C.SCT_ACTION_INVALID : Nat := 0x20600410
-- 07_buffer_and_replication.md, Table 7-4 (counters)
abbrev C.BUF_Q_ENQUEUED (q : Nat) : Nat := 0x20710000 + q * 0x20
abbrev C.BUF_Q_TAIL_DROP (q : Nat) : Nat := 0x20710004 + q * 0x20
abbrev C.BUF_Q_RED_DROP (q : Nat) : Nat := 0x20710008 + q * 0x20
abbrev C.BUF_Q_ECN_MARK (q : Nat) : Nat := 0x2071000C + q * 0x20
abbrev C.BUF_Q_FLUSHED (q : Nat) : Nat := 0x20710010 + q * 0x20
abbrev C.BUF_Q_DEQUEUED (q : Nat) : Nat := 0x20710014 + q * 0x20
-- 07_buffer_and_replication.md, Table 7-5 (counters)
abbrev C.BUF_NO_CELL : Nat := 0x20700400
abbrev C.BUF_NO_PKT_DESC : Nat := 0x20700404
abbrev C.BUF_NO_COPY_DESC : Nat := 0x20700408
abbrev C.BUF_CT_TAKEN : Nat := 0x2070040C
abbrev C.BUF_CT_STOMPED : Nat := 0x20700410
abbrev C.BUF_CELL_CRC : Nat := 0x20700414
abbrev C.BUF_ECC_UNCORR : Nat := 0x20700418
abbrev C.BUF_ORPHANS : Nat := 0x2070041C
abbrev C.BUF_STUCK_HEADS : Nat := 0x20700420
abbrev C.BUF_PAUSE_REQUESTS : Nat := 0x20700424
-- 08_egress_scheduling.md, Table 8-9 (counters)
abbrev C.EGS_Q_NEVER_FITS (q : Nat) : Nat := 0x20810000 + q * 0x10
abbrev C.EGS_Q_SDU_DROP (q : Nat) : Nat := 0x20810004 + q * 0x10
abbrev C.EGS_Q_WINDOW_WAITS (q : Nat) : Nat := 0x20810008 + q * 0x10
abbrev C.EGS_Q_HOLD_PREEMPTS (q : Nat) : Nat := 0x2081000C + q * 0x10
-- 09_audio_crosspoint.md, Table 9-12 (counters)
abbrev C.AUD_L_FRAMES (l : Nat) : Nat := 0x20910000 + l * 0x20
abbrev C.AUD_L_FORMAT_ERR (l : Nat) : Nat := 0x20910004 + l * 0x20
abbrev C.AUD_L_TS_MISALIGN (l : Nat) : Nat := 0x20910008 + l * 0x20
abbrev C.AUD_L_EMPTY (l : Nat) : Nat := 0x2091000C + l * 0x20
abbrev C.AUD_L_LATE_NET (l : Nat) : Nat := 0x20910010 + l * 0x20
abbrev C.AUD_L_LATE_LOCAL (l : Nat) : Nat := 0x20910014 + l * 0x20
abbrev C.AUD_L_EARLY (l : Nat) : Nat := 0x20910018 + l * 0x20
abbrev C.AUD_L_CONCEALED (l : Nat) : Nat := 0x2091001C + l * 0x20
abbrev C.AUD_T_FRAMES (t : Nat) : Nat := 0x20911000 + t * 0x10
abbrev C.AUD_T_TWIN_DIFF (t : Nat) : Nat := 0x20911004 + t * 0x10
abbrev C.AUD_CLIP (o : Nat) : Nat := 0x20912000 + o * 0x4
abbrev C.AUD_CHG_LATE : Nat := 0x20913000
abbrev C.AUD_CHG_FULL : Nat := 0x20913004
abbrev C.AUD_CHG_INVALID : Nat := 0x20913008
abbrev C.AUD_MIRROR_LATE : Nat := 0x2091300C
abbrev C.AUD_MIRROR_LOST : Nat := 0x20913010
abbrev C.AUD_EP_UNDERRUN : Nat := 0x20913014
abbrev C.AUD_LI_FALLBACK : Nat := 0x20913018
abbrev C.AUD_DISCONTINUITIES : Nat := 0x2091301C
abbrev C.AUD_OFFSET_RAISES : Nat := 0x20913020
abbrev C.AUD_TDM_CMP_DIFF (p : Nat) : Nat := 0x20913040 + p * 0x4
-- 10_can_channels.md, Table 10-9 (counters)
abbrev C.CAN_TX_FRAMES (n : Nat) : Nat := 0x20A00100 + n * 0x4000
abbrev C.CAN_RX_FRAMES (n : Nat) : Nat := 0x20A00104 + n * 0x4000
abbrev C.CAN_ARB_LOST (n : Nat) : Nat := 0x20A00108 + n * 0x4000
abbrev C.CAN_TX_ERRORS (n : Nat) : Nat := 0x20A0010C + n * 0x4000
abbrev C.CAN_RX_ERRORS (n : Nat) : Nat := 0x20A00110 + n * 0x4000
abbrev C.CAN_BUS_OFFS (n : Nat) : Nat := 0x20A00114 + n * 0x4000
abbrev C.CAN_PEX (n : Nat) : Nat := 0x20A00118 + n * 0x4000
abbrev C.CAN_NOMATCH (n : Nat) : Nat := 0x20A0011C + n * 0x4000
abbrev C.CAN_RXQ0_LOST (n : Nat) : Nat := 0x20A00120 + n * 0x4000
abbrev C.CAN_RXQ1_LOST (n : Nat) : Nat := 0x20A00124 + n * 0x4000
abbrev C.CAN_RX_TOOBIG (n : Nat) : Nat := 0x20A00128 + n * 0x4000
abbrev C.CAN_FQ_FULL (n : Nat) : Nat := 0x20A0012C + n * 0x4000
abbrev C.CAN_FQ_OWNER (n : Nat) : Nat := 0x20A00130 + n * 0x4000
abbrev C.CAN_FQ_NOT_DUTY (n : Nat) : Nat := 0x20A00134 + n * 0x4000
abbrev C.CAN_TX_INVALID (n : Nat) : Nat := 0x20A00138 + n * 0x4000
abbrev C.CAN_CANCELLED (n : Nat) : Nat := 0x20A0013C + n * 0x4000
abbrev C.CAN_ROUTED (n : Nat) : Nat := 0x20A00140 + n * 0x4000
abbrev C.CAN_ROUTE_DROP (n : Nat) : Nat := 0x20A00144 + n * 0x4000
abbrev C.CAN_TT_LATE (n : Nat) : Nat := 0x20A00148 + n * 0x4000
abbrev C.CAN_TT_MISSED (n : Nat) : Nat := 0x20A0014C + n * 0x4000
abbrev C.CAN_RX_MISSED (n : Nat) : Nat := 0x20A00150 + n * 0x4000
abbrev C.CAN_MIRROR_RETIRED (n : Nat) : Nat := 0x20A00154 + n * 0x4000
abbrev C.CAN_MIRROR_EXPIRED (n : Nat) : Nat := 0x20A00158 + n * 0x4000
abbrev C.CAN_TAKEOVER_RESENT (n : Nat) : Nat := 0x20A0015C + n * 0x4000
abbrev C.CAN_TXEV_LOST (n : Nat) : Nat := 0x20A00160 + n * 0x4000
-- 11_serial_channels_and_glove_frames.md, Table 11-7 (counters)
abbrev C.GLV_C_FRAMES (c : Nat) : Nat := 0x20C10000 + c * 0x10
abbrev C.GLV_C_ITEMS (c : Nat) : Nat := 0x20C10004 + c * 0x10
abbrev C.GLV_C_NOT_DUTY (c : Nat) : Nat := 0x20C10008 + c * 0x10
abbrev C.GLV_C_KEEPALIVES_SENT (c : Nat) : Nat := 0x20C1000C + c * 0x10
abbrev C.GLV_D_FRAMES (d : Nat) : Nat := 0x20C11000 + d * 0x20
abbrev C.GLV_D_ITEMS (d : Nat) : Nat := 0x20C11004 + d * 0x20
abbrev C.GLV_D_LOST (d : Nat) : Nat := 0x20C11008 + d * 0x20
abbrev C.GLV_D_STALE (d : Nat) : Nat := 0x20C1100C + d * 0x20
abbrev C.GLV_D_RESTARTS (d : Nat) : Nat := 0x20C11010 + d * 0x20
abbrev C.GLV_D_ITEM_ZERO (d : Nat) : Nat := 0x20C11014 + d * 0x20
abbrev C.GLV_D_ITEM_BAD (d : Nat) : Nat := 0x20C11018 + d * 0x20
abbrev C.GLV_D_DEST_DROP (d : Nat) : Nat := 0x20C1101C + d * 0x20
abbrev C.GLV_NO_DECAP : Nat := 0x20C12000
abbrev C.GLV_FORMAT_ERR : Nat := 0x20C12004
abbrev C.GLV_KEEPALIVES : Nat := 0x20C12008
-- 11_serial_channels_and_glove_frames.md, Table 11-9 (counters)
abbrev C.SER_RX_MSGS (n : Nat) : Nat := 0x20B00040 + n * 0x100
abbrev C.SER_RX_BYTES (n : Nat) : Nat := 0x20B00044 + n * 0x100
abbrev C.SER_TX_MSGS (n : Nat) : Nat := 0x20B00048 + n * 0x100
abbrev C.SER_TX_BYTES (n : Nat) : Nat := 0x20B0004C + n * 0x100
abbrev C.SER_PARITY_ERR (n : Nat) : Nat := 0x20B00050 + n * 0x100
abbrev C.SER_FRAMING_ERR (n : Nat) : Nat := 0x20B00054 + n * 0x100
abbrev C.SER_BREAKS (n : Nat) : Nat := 0x20B00058 + n * 0x100
abbrev C.SER_OVERLONG (n : Nat) : Nat := 0x20B0005C + n * 0x100
abbrev C.SER_RXQ_LOST (n : Nat) : Nat := 0x20B00060 + n * 0x100
abbrev C.SER_TXQ_OWNER (n : Nat) : Nat := 0x20B00064 + n * 0x100
abbrev C.SER_TXQ_NOT_DUTY (n : Nat) : Nat := 0x20B00068 + n * 0x100
abbrev C.SER_TX_INVALID (n : Nat) : Nat := 0x20B0006C + n * 0x100
abbrev C.SER_MIRROR_RETIRED (n : Nat) : Nat := 0x20B00070 + n * 0x100
abbrev C.SER_MIRROR_EXPIRED (n : Nat) : Nat := 0x20B00074 + n * 0x100
abbrev C.SER_TAKEOVER_RESENT (n : Nat) : Nat := 0x20B00078 + n * 0x100
-- 12_cipher_and_keys.md, Table 12-11 (counters)
abbrev C.CPH_MS_TX_PROTECTED (p : Nat) : Nat := 0x20D10000 + p * 0x40
abbrev C.CPH_MS_TX_ENCRYPTED (p : Nat) : Nat := 0x20D10004 + p * 0x40
abbrev C.CPH_MS_TX_PN_EXHAUSTED (p : Nat) : Nat := 0x20D10008 + p * 0x40
abbrev C.CPH_MS_TX_KEY_EMPTY (p : Nat) : Nat := 0x20D1000C + p * 0x40
abbrev C.CPH_MS_RX_OK (p : Nat) : Nat := 0x20D10010 + p * 0x40
abbrev C.CPH_MS_RX_UNCHECKED (p : Nat) : Nat := 0x20D10014 + p * 0x40
abbrev C.CPH_MS_RX_DELAYED (p : Nat) : Nat := 0x20D10018 + p * 0x40
abbrev C.CPH_MS_RX_LATE (p : Nat) : Nat := 0x20D1001C + p * 0x40
abbrev C.CPH_MS_RX_INVALID (p : Nat) : Nat := 0x20D10020 + p * 0x40
abbrev C.CPH_MS_RX_NOT_VALID (p : Nat) : Nat := 0x20D10024 + p * 0x40
abbrev C.CPH_MS_RX_NO_SCI (p : Nat) : Nat := 0x20D10028 + p * 0x40
abbrev C.CPH_MS_RX_NO_SA (p : Nat) : Nat := 0x20D1002C + p * 0x40
abbrev C.CPH_MS_RX_UNTAGGED (p : Nat) : Nat := 0x20D10030 + p * 0x40
abbrev C.CPH_MS_RX_NO_TAG (p : Nat) : Nat := 0x20D10034 + p * 0x40
abbrev C.CPH_MS_RX_BAD_TAG (p : Nat) : Nat := 0x20D10038 + p * 0x40
abbrev C.CPH_MS_RX_KEY_EMPTY (p : Nat) : Nat := 0x20D1003C + p * 0x40
-- 12_cipher_and_keys.md, Table 12-12 (counters)
abbrev C.CPH_COMPARE_FAULTS : Nat := 0x20D10400
abbrev C.CPH_JOBS_LO : Nat := 0x20D10404
abbrev C.CPH_JOBS_HI : Nat := 0x20D10408
abbrev C.CPH_KEY_EMPTY : Nat := 0x20D1040C
abbrev C.CPH_KEY_MODE : Nat := 0x20D10410
abbrev C.CPH_LENGTH : Nat := 0x20D10414
abbrev C.CPH_TAG_FAIL : Nat := 0x20D10418
abbrev C.CPH_RING_ERRORS : Nat := 0x20D1041C
abbrev C.CPH_SEAL_TX : Nat := 0x20D10420
abbrev C.CPH_SEAL_FAIL : Nat := 0x20D10424
abbrev C.CPH_SEAL_STALE : Nat := 0x20D10428
abbrev C.CPH_LEASE_STALLS : Nat := 0x20D1042C
abbrev C.CPH_QLINK_TAG_FAIL : Nat := 0x20D10430
abbrev C.CPH_KEY_DESTROYED : Nat := 0x20D10434
abbrev C.CPH_ABORTED : Nat := 0x20D10438
-- 13_the_pair.md, Table 13-11 (counters)
abbrev C.QLB_LF_TX : Nat := 0x20E10000
abbrev C.QLB_LF_RX : Nat := 0x20E10004
abbrev C.QLB_LF_CRC_FAIL : Nat := 0x20E10008
abbrev C.QLB_LF_BAD : Nat := 0x20E1000C
abbrev C.QLB_RETRANSMITS : Nat := 0x20E10010
abbrev C.QLB_NAKS_SENT : Nat := 0x20E10014
abbrev C.QLB_LINK_DOWNS : Nat := 0x20E10018
abbrev C.QLB_PARTNER_LOSSES : Nat := 0x20E1001C
abbrev C.QLB_LINK_ONLY_EVENTS : Nat := 0x20E10020
abbrev C.QLB_RD_ERRORS : Nat := 0x20E10024
abbrev C.QLB_FAR_ERRORS : Nat := 0x20E10028
abbrev C.QLB_DENIED_IN : Nat := 0x20E1002C
abbrev C.QLB_SEM_RETRIES : Nat := 0x20E10030
abbrev C.QLB_HB_RX : Nat := 0x20E10034
abbrev C.QLB_MIRROR_TX : Nat := 0x20E10038
abbrev C.QLB_MIRROR_RX : Nat := 0x20E1003C
abbrev C.QLB_MIRROR_LOST : Nat := 0x20E10040
abbrev C.QLB_DUTY_CONFLICTS : Nat := 0x20E10044
abbrev C.QLB_TDM_TAKES : Nat := 0x20E10048
abbrev C.QLB_TDM_TAKE_REVERTED : Nat := 0x20E1004C
abbrev C.QLB_PROBES_SENT : Nat := 0x20E10050
-- 14_sleep_and_wake.md, Table 14-12 (counters)
abbrev C.WAK_KA_TX : Nat := 0x20F10000
abbrev C.WAK_KA_RX : Nat := 0x20F10004
abbrev C.WAK_KA_BAD : Nat := 0x20F10008
abbrev C.WAK_KA_OVF : Nat := 0x20F1000C
abbrev C.WAK_ABORTS : Nat := 0x20F10010
abbrev C.WAK_SLEEPS : Nat := 0x20F10014
abbrev C.WAK_LATCHED_WAKES : Nat := 0x20F10018
abbrev C.WAK_FAILSAFE_SLEEPS : Nat := 0x20F1001C
abbrev C.WAK_THROTTLES : Nat := 0x20F10020
abbrev C.WAK_SUPPLY_FAILS : Nat := 0x20F10024
-- 15_engines_and_access.md, Table 15-13 (counters)
abbrev C.ENG_TXR_FRAMES (e : Nat) : Nat := 0x21010000 + e * 0x20
abbrev C.ENG_TXR_ERRORS (e : Nat) : Nat := 0x21010004 + e * 0x20
abbrev C.ENG_RXR_FRAMES (e : Nat) : Nat := 0x21010008 + e * 0x20
abbrev C.ENG_RXR_NO_DESC (e : Nat) : Nat := 0x2101000C + e * 0x20
abbrev C.ENG_RXR_TOOBIG (e : Nat) : Nat := 0x21010010 + e * 0x20
abbrev C.ENG_BUS_ERRORS (e : Nat) : Nat := 0x21010014 + e * 0x20
abbrev C.ENG_MB_FULL (e : Nat) : Nat := 0x21010018 + e * 0x20
abbrev C.ENG_WD_EXPIRED (e : Nat) : Nat := 0x2101001C + e * 0x20
-- 16_faults_and_cellar.md, Table 16-10 (counters)
abbrev C.FLT_CELLAR_RECORDS : Nat := 0x21110000
abbrev C.FLT_CELLAR_SUPPRESSED : Nat := 0x21110004
abbrev C.FLT_CELLAR_LOST : Nat := 0x21110008
abbrev C.FLT_BOTTLES : Nat := 0x2111000C
abbrev C.FLT_BOTTLE_FAILS : Nat := 0x21110010
abbrev C.FLT_BOTTLES_SKIPPED : Nat := 0x21110014
abbrev C.FLT_FAIL_SILENCES : Nat := 0x21110018
abbrev C.FLT_ECC_CORRECTED : Nat := 0x2111001C
abbrev C.FLT_ECC_UNCORR : Nat := 0x21110020
abbrev C.FLT_SCRUB_PASSES : Nat := 0x21110024
abbrev C.FLT_DEBUG_REFUSED : Nat := 0x21110028

end Sys2Proof.Machine
end

