-- ==== Sys2Proof/Machine/Sparse.lean ====
section
/-! DEFINITION. Sparse tables: lists of (key, value) pairs in one canonical form, keys strictly rising and no entry equal to what
an unlisted key reads as. Every memory, register file and indexed part of the state is one of these. -/

namespace Sys2Proof.Machine

/-- A table from numbers to values. -/
abbrev Sparse (α : Type) := List (Nat × α)

/-- The value at key `k`; `d` is what an unlisted key reads as. -/
def sget {α : Type} (d : α) : Sparse α → Nat → α
  | [], _ => d
  | (k', v) :: r, k => if k' = k then v else sget d r k

/-- The table with `v` at key `k`, in canonical form where `d` is what key `k` reads as unlisted. -/
def sput {α : Type} [DecidableEq α] (d : α) (k : Nat) (v : α) : Sparse α → Sparse α
  | [] => if v = d then [] else [(k, v)]
  | (k', v') :: r =>
    if k' = k then (if v = d then sput d k v r else (k, v) :: r)
    else if k < k' ∧ v ≠ d then (k, v) :: (k', v') :: r
    else (k', v') :: sput d k v r

/-- Keys strictly rising, all above `lo`. -/
def srising {α : Type} : Option Nat → Sparse α → Bool
  | _, [] => true
  | lo, (k, _) :: r => (match lo with | none => true | some b => decide (b < k)) && srising (some k) r

/-- The canonical form, where `dflt k` is what key `k` reads as unlisted. -/
def swf {α : Type} [DecidableEq α] (dflt : Nat → α) (m : Sparse α) : Bool :=
  srising none m && m.all (fun e => decide (e.2 ≠ dflt e.1))

/-- The table with the value at key `k` changed by `f`. -/
def smod {α : Type} [DecidableEq α] (d : α) (k : Nat) (f : α → α) (m : Sparse α) : Sparse α := sput d k (f (sget d m k)) m

/-- Every entry changed by `f`, in canonical form where `d` is what an unlisted key reads as. -/
def smap {α : Type} [DecidableEq α] (d : α) (f : Nat → α → α) (m : Sparse α) : Sparse α :=
  (m.map (fun e => (e.1, f e.1 e.2))).filter (fun e => decide (e.2 ≠ d))

/-- Element `i` of a list, `d` beyond its end. -/
def nth {α : Type} (d : α) : List α → Nat → α
  | [], _ => d
  | x :: _, 0 => x
  | _ :: r, n + 1 => nth d r n

/-- A run of free items of a free list: (first, count) pairs, in the order in which they are taken (07, R277). -/
abbrev Runs := List (Nat × Nat)

/-- Number of items in the runs. -/
def Runs.count (r : Runs) : Nat := r.foldl (fun n x => n + x.2) 0

/-- The first item and the rest. -/
def Runs.take? : Runs → Option (Nat × Runs)
  | [] => none
  | (_, 0) :: r => Runs.take? r
  | (a, n + 1) :: r => some (a, if n = 0 then r else (a + 1, n) :: r)

/-- One item added at the tail. -/
def Runs.add : Runs → Nat → Runs
  | [], x => [(x, 1)]
  | [(a, n)], x => if a + n = x then [(a, n + 1)] else [(a, n), (x, 1)]
  | y :: z :: r, x => y :: Runs.add (z :: r) x

/-- Items added at the tail in order. -/
def Runs.addAll (r : Runs) (l : List Nat) : Runs := l.foldl Runs.add r

/-- An interval (first, count) without the items of another. -/
def Runs.cut (x y : Nat × Nat) : Runs :=
  if x.1 + x.2 ≤ y.1 ∨ y.1 + y.2 ≤ x.1 then [x]
  else [(x.1, y.1 - x.1), (y.1 + y.2, x.1 + x.2 - (y.1 + y.2))].filter (fun e => decide (e.2 ≠ 0))

/-- The items below `n` that no run holds. -/
def Runs.absent (n : Nat) (r : Runs) : List Nat :=
  (r.foldl (fun (l : Runs) y => l.flatMap (fun x => Runs.cut x y)) [(0, n)]).flatMap (fun x => (List.range x.2).map (x.1 + ·))

/-- Take `n` items from the head, if there are as many. -/
def Runs.takeN : Nat → Runs → Option (List Nat × Runs)
  | 0, r => some ([], r)
  | n + 1, r =>
    match r.take? with
    | none => none
    | some (x, r') =>
      match Runs.takeN n r' with
      | none => none
      | some (xs, r'') => some (x :: xs, r'')

end Sys2Proof.Machine
end

