-- ==== Sys2Proof/Machine/State.lean ====
section
/-! DEFINITION. The state of the LQ9512 as plain data: the register file, the memories and flash, the tables, and for each block
what the chapters give it beside its registers. A bit that a register table gives lives in the register file only. -/

namespace Sys2Proof.Machine

/-- Why the device would stop with a fault: the spec gives every command an effect, so none is raised (safe). -/
inductive Fault where
  /-- Raised by no command: kept so that the type is inhabited (safe). -/
  | none
  deriving DecidableEq, Repr

/-- Why a command has no meaning. -/
inductive Refusal where
  /-- Raised by `exec` for a command whose meaning is not written (safe). -/
  | notModelled (mnemonic : String)
  deriving DecidableEq, Repr

/-- A queue that obeys R110 to R113: its entries, oldest first, and its gap-pending bit. -/
structure Hq where
  q : List (List Word)
  gap : Bool
  deriving DecidableEq, Repr

/-- An event on its way through the event router or to FLT (15, R644; 16, Table 16-6). -/
structure Ev where
  code : Nat
  param : Nat
  ns : Nat
  sec : Nat
  wtState : Nat
  wtSrc : Nat
  cls : Nat
  d0 : Nat
  d1 : Nat
  /-- FLT writes the record whatever FLT_CELLAR_SEL holds (R678) -/
  must : Bool
  deriving DecidableEq, Repr

/-- One-time-programmable bits (02, R51; 12, R497; 14, R601; 16, R690). -/
structure Otp where
  mac : Nat
  keyHash : Nat
  kek : Nat
  debugLock : Bool
  deriving DecidableEq, Repr

/-- Bring-up, the scrub, the census and staging (02). -/
structure Boot where
  /-- bring-up step of Table 2-9 reached, 0 when the device is held (SLEEP, fail-silence) -/
  step : Nat
  /-- instant of the release of PORST_N or of the wake (`Clk.now`) -/
  since : Nat
  slot : Nat
  tried : List Nat
  /-- the slot being tried is the armed slot of a trial (R78) -/
  armed : Bool
  /-- register writes, table entries and keys of the image applied so far (Table 2-9, step 8) -/
  applied : Nat
  /-- the poll record that is waiting: the instant at which its timeout ends (R44) -/
  pollEnd : Option Nat
  /-- addresses of the scrub set, rising, and whether they are locked (R61 to R64) -/
  scrub : List Nat
  locked : Bool
  /-- first 64 bits of the digest of each group of 64 -/
  baseline : List Nat
  scrubAt : Nat
  /-- instant of FORWARDING (`Clk.now`) -/
  forwardAt : Option Nat
  settled : Bool
  censusDirty : Bool
  overflowEpisode : Bool
  /-- instant of the last report of a census entry (R70) -/
  seenAt : Sparse Nat
  /-- staging requests held back while a bottling runs, with their command codes, oldest first (R76) -/
  stageWait : List (Nat × MaintReq)
  /-- when the temperature sensors were last read (18, R752) -/
  tempAt : Option Nat
  pairId : Bool
  testEn : Bool
  deriving DecidableEq, Repr

/-- The clocks (03). LC, DCn and WT in units of 2^-39 ns; `now` is the time since the cold reset in ns. -/
structure Clk where
  now : Nat
  on : Bool
  lc : Int
  dc0 : Int
  dc1 : Int
  wt : Int
  /-- slew offset of R89 in 1/1000 ppb -/
  slewOff : Int
  slewAt : Nat
  /-- units that WT gains in one TIME cycle in HOLDOVER -/
  holdRate : Int
  /-- by domain number: 1 + the instant of its last Sync (R84) -/
  syncAt : Sparse Nat
  usableAt0 : Nat
  usableAt1 : Nat
  /-- since when the partner's report has mismatched (R95) -/
  mismatchAt : Option Nat
  /-- ESI of the last strobe and the index of the next one (R133, R135, R761) -/
  esi : Nat
  nextK : Nat
  strobeBad : Nat
  strobeGood : Nat
  deriving DecidableEq, Repr

/-- A pulse output: the settings in force, the level, and its next edge in units of its clock (03, R124 to R129). -/
structure Pls where
  ctrl : Nat
  start : Int
  period : Nat
  width : Nat
  reload : Bool
  high : Bool
  edge : Option Int
  fall : Option Int
  /-- the last edge made (R129) -/
  made : Option Int
  deriving DecidableEq, Repr

/-- A frame's time action from a transmit descriptor (03, Table 3-5). -/
structure TimeAct where
  op : Nat
  addLink : Bool
  clock : Nat
  offset : Nat
  linkPort : Nat
  tag : Nat
  ref : Int
  deriving DecidableEq, Repr

/-- What the policer charged on a length not known: the channel, the bucket (1 committed, 2 excess), the octets, the burst that caps
what returns, and the initialisation of the channel under which it was charged (06, R242, R257). -/
structure Charge where
  chan : Nat
  bucket : Nat
  octets : Nat
  cap : Nat
  inits : Nat
  deriving DecidableEq, Repr

/-- An mPacket or a frame as it stood on the medium: the value of its start delimiter, the fragment count that follows it, and its
octets with the CRC that ends it (04, R181, R183). -/
structure Wire where
  smd : Nat
  frag : Option Nat
  octets : List Byte
  deriving DecidableEq, Repr

/-- A frame on the ingress side of a port: its octets from the destination address, without the FCS once it has ended, and what
goes with it (04, 05, R144, R193). -/
structure RxFrame where
  bytes : List Byte
  /-- all octets have arrived and the receive checks passed -/
  ended : Bool
  /-- dropped or consumed: the rest is ignored -/
  dead : Bool
  /-- TPID of its port tag when its first byte arrived (R165, R169): 0 for none -/
  tpid : Nat
  /-- its packet descriptor, once admitted while it still arrives -/
  pkt : Option Nat
  decided : Bool
  cells : List Nat
  vid : Nat
  pcp : Nat
  dei : Nat
  colour : Nat
  sc : Option Nat
  /-- destination mask of a transmit descriptor and its traffic class (R193) -/
  mask : Option Nat
  tc : Nat
  esiFirst : Nat
  spf : Nat
  act : TimeAct
  keySlot : Option Nat
  lc : Int
  wt : Int
  stampLost : Bool
  preemptable : Bool
  /-- what the policer charged on a length not known (06, R257) -/
  charge : Option Charge
  /-- start of the fragment in reception (`Clk.now`), and octets of the frame that had arrived before it -/
  startAt : Nat
  before : Nat
  /-- TPID of S-ports when its first byte arrived, for its egress tag (R169) -/
  stpid : Nat
  /-- octets of the port tag that its decision removed (R166) -/
  tagOct : Nat
  /-- the channel that passed it while it arrived, and its MAX_SDU (06, R247) -/
  sdu : Option (Nat × Nat)
  deriving DecidableEq, Repr

/-- A packet descriptor and its cells (07, R276). -/
structure Pkt where
  data : List Byte
  complete : Bool
  bad : Bool
  inPort : Nat
  inTc : Nat
  tc : Nat
  colour : Nat
  vid : Nat
  pcp : Nat
  dei : Nat
  sc : Option Nat
  cls : Nat
  listener : Nat
  act : TimeAct
  esiFirst : Nat
  spf : Nat
  lc : Int
  wt : Int
  ts : Bool
  latMon : Option Nat
  latPort : Nat
  rtagPop : Bool
  /-- TPID of S-ports when its first byte arrived (04, R169) -/
  stpid : Nat
  cells : List Nat
  /-- the cells with an uncorrectable word (07, R306) -/
  badCells : List Nat
  /-- cells that it counts for (R296): by MAX_FRAME while it arrives, then by its length -/
  charge : Nat
  copies : Nat
  deriving DecidableEq, Repr

/-- A copy descriptor (07, R276, R289; 08, R342, R357). -/
structure Copy where
  id : Nat
  pkt : Nat
  cut : Bool
  ce : Bool
  linked : Int
  waited : Bool
  deriving DecidableEq, Repr

/-- A frame that an egress MAC has taken (04, R162; 08, R325, R351). -/
structure TxFrame where
  queue : Nat
  copy : Copy
  /-- octets to send from the destination address, without FCS -/
  bytes : List Byte
  express : Bool
  /-- octets of frame data sent in earlier fragments, and the number of those fragments -/
  sent : Nat
  frags : Nat
  /-- start of the present fragment (`Clk.now`) -/
  start : Nat
  stamped : Bool
  /-- its egress stamp on LC -/
  lcOut : Int
  /-- the MACsec association and PN that protect it (12, R519) -/
  sec : Option (Nat × Nat)
  /-- ends at this many octets, stomped (R164, R247, R347) -/
  cutAt : Option Nat
  stomp : Bool
  hold : Bool
  /-- the gate-open instant of a trim sample, in WT ns (R354) -/
  trim : Option Int
  deriving DecidableEq, Repr

/-- What a port's MAC holds beside its registers (04). -/
structure MacPort where
  cur : Option RxFrame
  /-- a preemptable frame interrupted in reception -/
  held : Option RxFrame
  /-- frames received, in order, that wait for their decision -/
  inq : List RxFrame
  tx : Option TxFrame
  /-- a preempted frame that waits for the rest (R351) -/
  rest : Option TxFrame
  /-- end of the gap after the last frame -/
  gapEnd : Nat
  /-- the queue whose frame the gap follows, 224 for none (08, R325) -/
  gapQ : Nat
  /-- MAC control frames to send: class vector (0x100 for 802.3x pause) and whether they carry time 0 -/
  ctrl : List (Nat × Bool)
  linkAt : Nat
  everUp : Bool
  lastSpeed : Nat
  krAt : Nat
  pauseEnd : Sparse Nat
  pausedAt : Nat
  ignoreEnd : Nat
  /-- classes for which the buffer requests pause, 0x100 for all (R302, R303) -/
  pauseReq : Nat
  refreshAt : Nat
  verifySent : Nat
  verifyAt : Nat
  /-- verify (true) and respond mPackets to send, oldest first (R181, R182) -/
  mpkts : List Bool
  /-- number of the next frame of the preemptable MAC, and what the port last put on the medium (R181, R183) -/
  frameNo : Nat
  wire : Option Wire
  /-- octets of the equaliser coefficients that Clause 72 training agreed (R148) -/
  krCoef : Option Nat
  beaconAt : Nat
  /-- the absence of the beacon has been counted (R156) -/
  beaconLost : Bool
  /-- PLCA: the node whose opportunity runs and since when, and the frames that this port has sent in its own (R154) -/
  plcaId : Nat
  plcaAt : Nat
  plcaSent : Nat
  /-- LEAD of the schedule in force, until the WT instant at which the window that gave a trim sample ends (08, R356) -/
  leadOld : Nat
  leadFrom : Option Int
  calWait : Bool
  discardAt : Nat
  deriving DecidableEq, Repr

/-- The packet buffer (07). -/
structure Buf where
  cells : Runs
  pkts : Runs
  copies : Runs
  pkt : Sparse Pkt
  q : Sparse (List Copy)
  lfsr : Nat
  walking : Bool
  auditAt : Nat
  marked : List Nat
  suspects : List Nat
  pktSuspects : List Nat
  copySuspects : List Nat
  /-- CRC-16 stored with a cell, by pointer (R305) -/
  crc : Sparse Nat
  /-- cells and descriptors that the walk found neither free nor in a live frame (R308) -/
  leaked : List Nat
  pktLeaked : List Nat
  copyLeaked : List Nat
  headSince : Sparse Nat
  /-- copies that arrived for the queue being flushed (R315) -/
  heldBack : List (Nat × Copy)
  /-- queues whose flush by R314 waits for the one that runs -/
  flushNext : List Nat
  /-- instant of the last depth sample of a monitor (08, R359) -/
  depthAt : Sparse Nat
  deriving DecidableEq, Repr

/-- The dynamic state of a stream channel (06, R241). -/
structure ScDyn where
  ctok : Nat
  etok : Nat
  refill : Nat
  gen : Nat
  recov : Nat
  hist : Nat
  takeAny : Bool
  acceptAt : Nat
  twinSeq : Option Nat
  twinPort : Nat
  twinT : Int
  pairs : Nat
  /-- how often the state has been initialised (R241) -/
  inits : Nat
  deriving DecidableEq, Repr

/-- A gate control list beside its staged words (08, R329 to R339). Times in WT ns. -/
structure GList where
  running : Bool
  init : Bool
  /-- the words in force and those of a pending change -/
  words : List Word
  pending : Option (List Word)
  changeT : Int
  /-- cycle time held, and that of the pending change (R331) -/
  cyc : Nat
  cycNew : Nat
  /-- start of the cycle in force and position, words and start of the entry in force -/
  cycStart : Int
  pos : Nat
  entry : List Word
  entryStart : Int
  /-- the gates just before the entry in force -/
  was : Nat
  /-- the next event: a cycle start or an entry end -/
  next : Option Int
  maxwin : List (Option Nat)
  deriving DecidableEq, Repr

/-- A key of the key store (12, R496). -/
structure Key where
  loaded : Bool
  mode : Nat
  bytes : List Byte
  gen : Nat
  deriving DecidableEq, Repr

/-- Migration of the MAC table (05, R206 to R211) and the flush command. -/
structure Fwd where
  /-- requests of the learn queue, oldest first: FID, MAC, port -/
  learnQ : List (Nat × Nat × Nat)
  /-- next slot that the migration engine visits -/
  walk : Nat
  /-- the seed set that is current, as SET of the entries placed under it names it (R201, R208) -/
  curSet : Nat
  /-- TCAM slices whose array content differs from the shadow: the bits that differ (R228) -/
  tcamBad : Sparse Nat
  deriving DecidableEq, Repr

/-- Engines (15). -/
structure Eng where
  mailbox : Sparse (List (List Word))
  evq : Sparse Hq
  wdAt : Sparse Nat
  /-- the word that an engine's LR has reserved (R633) -/
  resv : Sparse (Option Nat)
  /-- what the last load, LR, SC or AMO of an engine returned -/
  rdata : Sparse Word
  /-- HI latch of an engine for a block, by engine × 256 + block (17, R699) -/
  latch : Sparse Word
  /-- pc, a0 and a1 with which an engine started (R638) -/
  start : Sparse (Nat × Nat × Nat)
  /-- the machine timer interrupt of an engine is pending (R641) -/
  mtip : Sparse Bool
  /-- the engine whose transmit ring is served next (R651) -/
  turn : Nat
  /-- LAST and the window end of a maintenance slot (R654, R655) -/
  last : Sparse Nat
  winEnd : Sparse Nat
  challenged : Bool
  challengeAt : Option Nat
  /-- a CHALLENGE that waits for its block of L24 (R654) -/
  chalWait : Option MaintReq
  deriving DecidableEq, Repr

/-- A bottling that runs: its reason, the ring and the time as they stood when it began (16, R683, R686). -/
structure Bottling where
  reason : Nat
  bottle : Nat
  seq : Nat
  ring : Sparse Byte
  next : Nat
  wtInfo : Nat
  ns : Nat
  sec : Nat
  deriving DecidableEq, Repr

/-- Faults, the cellar and debug (16). -/
structure Flt where
  silent : Bool
  halted : Bool
  silentAt : Nat
  bottling : Option Bottling
  /-- AON seconds of the fault restarts since the cold reset, newest first (R669) -/
  restarts : List Nat
  seq : Nat
  lastRec : Sparse Nat
  /-- window of an instance, by detector × 65536 + instance: count and start in ms (R671) -/
  win : Sparse (Nat × Nat)
  /-- a reaction of a lasting fault that waits for a hand-over or for the one that runs (R672, R673) -/
  react : Nat
  /-- the hand-over that runs is a reaction of a lasting fault, and the detector of a fail-silence that waits for its end (R673) -/
  reacting : Bool
  reactK : Nat
  crystalGood : Nat
  /-- when the crystal was last judged (R677) -/
  crystalAt : Nat
  dbgStage : Nat
  throttleBottleAt : Option Nat
  kekBlocked : Bool
  /-- lasting faults since reset (13, Table 13-5) -/
  lasting : Nat
  /-- a reset that is due: 1 warm, 2 partner-requested, 3 warm once the answer to a maintenance restart has left (15, R657) -/
  due : Nat
  deriving DecidableEq, Repr

/-- A job context of a ring (12, R493, R509): its descriptor, the key it is bound to, and the result that waits for release. -/
structure Job where
  ring : Nat
  idx : Nat
  slot : Nat
  gen : Nat
  pair : Nat
  rerun : Bool
  /-- the compare pair has ended it; it waits for earlier jobs of its ring (R499) -/
  ready : Bool
  status : Nat
  outs : List (Nat × List Byte)
  /-- key written at release: slot, MODE, material -/
  keyW : Option (Nat × Nat × List Byte)
  deriving DecidableEq, Repr

/-- Old key material that waits for its destruction (12, R512, R513). -/
structure OldKey where
  slot : Nat
  gen : Nat
  bytes : List Byte
  /-- it lies in a retiring bank; an erased slot keeps its own -/
  bank : Bool
  deriving DecidableEq, Repr

/-- Cipher engine and key store (12). -/
structure Cph where
  keys : Sparse Key
  jobs : List Job
  old : List OldKey
  /-- rings whose ABORT waits for the jobs in flight -/
  aborting : List Nat
  /-- associations (port × 4 + AN) whose largest PN has been sent, and those whose threshold event was raised -/
  exhausted : List Nat
  threshed : List Nat
  /-- ports whose secure channel has stopped -/
  stopped : List Nat
  /-- the queue of the shared pool that was served last: 0 to 23 sealing of a glove channel, 24 decapsulation, 25 + e ring e (R498) -/
  turn : Nat
  deriving DecidableEq, Repr

/-- A counter lease (12, R528 to R533); its next value, ceiling and state bits are registers. -/
structure Lease where
  block : Nat
  nextBlock : Option Nat
  asked : Bool
  /-- next unleased block as this unit knows it -/
  unleased : Nat
  /-- a block granted to the home that waits for the partner's acknowledgement -/
  ackWait : Option Nat
  deriving DecidableEq, Repr

/-- The persistent store of the flash (02, Table 2-1; 12, R530, R539; 14, R599, R623): what the chapters keep in it. -/
structure Pers where
  ceil : Sparse Nat
  epoch : Nat
  /-- false-wake count and run by wake source -/
  falseWakes : Sparse (Nat × Nat)
  /-- throttle history: entries, longest in us, AON second of the last -/
  throttle : Nat × Nat × Nat
  deriving DecidableEq, Repr

/-- A message on the Quosor link (13, Tables 13-3, 13-6, 13-7). -/
inductive LinkMsg where
  | req (kind tag size engine addr data : Nat)
  | rsp (kind tag status data : Nat)
  | frame (f : PairFrame)
  | audChange (c : AudChange)
  | liFrame (tdm strobe : Nat) (slots : List Word)
  | twinDigest (talker block crc : Nat)
  | tdmCmp (tdm strobe : Nat)
  | canAppend (n fq : Nat) (element : List Byte)
  | canFlush (n fq : Nat)
  | canCancel (n tb tag ident : Nat)
  | serAppend (n : Nat) (element : List Byte)
  | serFlush (n : Nat)
  | lease (counter : Nat) (m : LeaseMsg)
  | wakState (m : WakMsg)
  | audSync (a : AudSync)
  | dutyOffer (index : Nat)
  | dutyTaken
  | restartReq
  | restartRsp (accepted : Bool)
  deriving DecidableEq, Repr

/-- A link frame in the replay buffer (13, R554). -/
structure LinkFrame where
  seq : Nat
  vc : Nat
  msg : LinkMsg
  deriving DecidableEq, Repr

/-- A message that waits for credits or replay space, and since when (13, R552, R554, R568). -/
structure LinkWait where
  vc : Nat
  msg : LinkMsg
  since : Nat
  deriving DecidableEq, Repr

/-- An open bridge request (13, R570 to R573): its engine waits for a read or a semaphore; a write is posted. -/
structure OpenReq where
  tag : Nat
  kind : Nat
  engine : Nat
  size : Nat
  addr : Nat
  data : Nat
  since : Nat
  /-- it belongs to a guarded operation of its engine -/
  guarded : Bool
  /-- it is a load-reserved -/
  reserve : Bool
  deriving DecidableEq, Repr

/-- A guarded operation of an engine (13, R578): 0 waits for the semaphore, 1 for the word, 2 for the write's acknowledgement. -/
structure Guard where
  op : Option AmoOp
  addr : Nat
  data : Nat
  /-- value that an SC expects -/
  expect_ : Option Nat
  phase : Nat
  old : Nat
  deriving DecidableEq, Repr

/-- A controlled hand-over (13, R583). -/
structure Handover where
  index : Nat
  /-- this unit gives the duty -/
  giver : Bool
  /-- its TDM outputs have been exchanged at strobe E -/
  tdm : Bool
  /-- a warm restart follows (16, R672) -/
  restart : Bool
  deriving DecidableEq, Repr

/-- The pair (13). -/
structure Qlb where
  /-- the partner's link epoch, once received at this establishment -/
  peerEpoch : Option Nat
  key : Option (List Byte)
  txCount : Nat
  txSeq : Nat
  rxSeq : Nat
  held : List LinkFrame
  waiting : List LinkWait
  credit0 : Nat
  credit2 : Nat
  credit3 : Nat
  /-- instants: last frame whose check passed, lanes last aligned, ACK last advanced, last NAK sent, last retransmission -/
  goodAt : Nat
  ackAt : Nat
  nakAt : Option Nat
  downAt : Nat
  kaAt : Option Nat
  hbAt : Option Nat
  /-- the last heartbeats received and sent -/
  hb : Option Heartbeat
  hbSent : Option Heartbeat
  /-- octets of the link frame last sent on VC4, as they stand on the lanes (Tables 13-2, 13-5; R551) -/
  wire : List Byte
  /-- when the last heartbeat and the last EPOCH frame left (R561, Table 13-4) -/
  hbTxAt : Option Nat
  epochAt : Option Nat
  hbSeq : Nat
  lost : Bool
  mirrorSync : Bool
  handover : Option Handover
  open_ : List OpenReq
  /-- accesses that wait for a free tag, oldest first (R570) -/
  stalled : List OpenReq
  guards : Sparse (Option Guard)
  /-- address and value that an LR of an engine recorded for a guarded word -/
  guardLr : Sparse (Option (Nat × Nat))
  /-- semaphores held by the partner (of those in QLB_SEM_HELD) -/
  semPartner : List Nat
  far : Hq
  /-- engines that a fence stalls -/
  fencing : List Nat
  /-- a pair probe or need change is due -/
  probeAt : Nat
  deriving DecidableEq, Repr

/-- A scheduled change in the queue of AUD (09, R377 to R383). -/
structure AudEntry where
  c : AudChange
  unitB : Bool
  /-- committed in this unit (R379) -/
  own : Bool
  /-- order of arrival in the queue -/
  seq : Nat
  voices : Option (List Voice)
  netDone : Bool
  deriving DecidableEq, Repr

/-- The audio crosspoint beside its registers and table 0x08 (09). -/
structure Aud where
  /-- NI buffers by NI × 256 + index mod 256: index and sample (R388) -/
  ni : Sparse (Option (Nat × Int))
  /-- concealment of each pass by NI: last value and run (R389) -/
  concNet : Sparse (Int × Nat)
  concLoc : Sparse (Int × Nat)
  /-- gain_now and duck_now by tap (R372) -/
  gains : Sparse Ramp
  ducks : Sparse Ramp
  /-- by output: taps active in the current block, and Pmax + 1 in force (R374, R375) -/
  act : Sparse Nat
  pmax : Sparse Nat
  /-- last index that each pass computed -/
  netP : Option Nat
  locP : Option Nat
  queue : List AudEntry
  seq : Nat
  /-- the offset that the last scheduled change names (R411) -/
  target : Option Nat
  genNet : Sparse ToneGen
  genLoc : Sparse ToneGen
  /-- talkers started, and those that have a frame open (R392) -/
  started : Sparse Bool
  framing : Sparse Bool
  /-- NO samples by output × 16 + index mod 16 -/
  hist : Sparse Int
  /-- the last sample of each local output, and the samples of LO on their way to TDM by LO × 4 + strobe mod 4 -/
  lastLoc : Sparse Int
  pipe : Sparse Int
  /-- TDM input frames by port × 256 + strobe mod 256: the own and those of the partner (R364, R407) -/
  li : Sparse (Option (Nat × List Word))
  liPartner : Sparse (Option (Nat × List Word))
  /-- by port: the words of the frame in progress as this unit forms them (R400) -/
  tdmOwn : Sparse (List Word)
  /-- the open digest of a talker, and the closed ones by talker × 4 + block mod 4: block + 1 and CRC (R408) -/
  digest : Sparse (Nat × Nat)
  digOwn : Sparse (Nat × Nat)
  digPartner : Sparse (Nat × Nat)
  /-- WR_ESI in force of each EP (R417) -/
  wr : Sparse Nat
  /-- level meters: greatest magnitude and sum of squares; samples of each pass in the period (R414) -/
  meterSrc : Sparse (Nat × Nat)
  meterOut : Sparse (Nat × Nat)
  meterNet : Nat
  meterLoc : Nat
  raiseAt : Option Nat
  /-- the AUD_SYNC set that waits for its apply index, and whether the network pass has taken it (R567) -/
  sync : Option AudSync
  syncNet : Bool
  deriving DecidableEq, Repr

/-- A transmit buffer of a CAN controller that holds an element (10, R433). -/
structure CanTb where
  elem : List Byte
  /-- WT (ns, s) at the SOF of its last attempt -/
  sof : Option (Nat × Nat)
  /-- instant of its loading, or of the loss of duty -/
  at_ : Nat
  /-- loaded before the duty was gained (R471) -/
  resent : Bool
  deriving DecidableEq, Repr

/-- A trellis window (10, R449 to R454): kind 0 EXCLUSIVE, 1 ARBITRATING, 2 SILENT, 3 RX_CHECK. -/
structure CanWin where
  start : Int
  end_ : Int
  row : Nat
  col : Nat
  kind : Nat
  tb : Nat
  /-- an exclusive window's frame has started; it met a busy bus; an RX_CHECK window saw its frame -/
  started : Bool
  busy : Bool
  seen : Bool
  deriving DecidableEq, Repr

/-- A CAN controller beside its registers and message RAM (10). -/
structure CanC where
  tbs : Sparse (Option CanTb)
  txev : Hq
  /-- bytes held in its rings: FQ0 to FQ2, RXQ0 and RXQ1 -/
  fill : Sparse Nat
  /-- the end of the wait for 11 recessive bits -/
  readyAt : Nat
  recovering : Bool
  win : Option CanWin
  /-- the columns in force and the cycle from which they are -/
  cols : List (List Word)
  colsCyc : Option Int
  deriving DecidableEq, Repr

/-- A serial message in reception (11, R473). -/
structure SerMsg where
  bytes : List Byte
  err : Bool
  ns : Nat
  sec : Nat
  deriving DecidableEq, Repr

/-- A serial channel beside its registers and rings (11). -/
structure SerC where
  open_ : Option SerMsg
  txFill : Nat
  rxFill : Nat
  /-- since when the head element of the transmit ring is loaded, and whether it was before the duty was gained -/
  headAt : Nat
  resent : Bool
  /-- the end of the last activity that the line showed (R473, R478) -/
  lineAt : Nat
  /-- when DE_LAG of the message in transmission will have passed (R478) -/
  doneAt : Nat
  deriving DecidableEq, Repr

/-- An item received by GLV: its channel, the CAN frame or the message bytes, its receipt on LC in µs, and WT at SOF in ns. -/
structure GlvItem where
  chan : Nat
  can : Option CanFrame
  data : List Byte
  rxUs : Nat
  wt : Int
  deriving DecidableEq, Repr

/-- An encapsulating channel (11, R482 to R486): its open bundle, oldest item first. -/
structure Enc where
  isOpen : Bool
  tOpen : Nat
  items : List (List Byte × Nat)
  seq : Nat
  restart : Bool
  active : Bool
  lastMs : Nat
  deriving DecidableEq, Repr

/-- The glove engine (11): items that wait, channels, and of each decapsulation entry the
time of its last frame. -/
structure Glv where
  inq : List GlvItem
  enc : Sparse Enc
  tLast : Sparse Nat
  deriving DecidableEq, Repr


/-- Sleep and wake beside the registers (14). Instants are `Clk.now`; the block keeps its state through every reset but cold. -/
structure Wak where
  /-- the last periodic keep-alives, on Ethernet and on CAN -/
  kaAt : Nat
  canKaAt : Nat
  /-- a change of need or agreement state waits for its keep-alive, and when the last such one left (R602) -/
  changeDue : Bool
  changeAt : Nat
  /-- no keep-alive has left since bring-up, and the keep-alive count (Table 14-3) -/
  first : Bool
  seq : Nat
  /-- peers: MAC (2^48 for the CAN peer), NEED, instant of the last keep-alive -/
  peers : List (Nat × Nat × Nat)
  /-- since when the agreement state holds -/
  stateAt : Nat
  /-- armed sources (R609) -/
  armed : Nat
  sleepAt : Nat
  /-- the source of the wake that waits for the end of the dwell (R612) -/
  want : Option Nat
  /-- the PWR_REQ ball, and when it last rose (R591) -/
  pwrReq : Bool
  pwrAt : Nat
  /-- the one-off wake of the fail-safe path (R625) -/
  oneOff : Option Nat
  /-- decode error counts of the CAN detectors (R617) -/
  errs : Sparse Nat
  /-- AON second at which a source was quarantined (R623) -/
  quarAt : Sparse Nat
  /-- the wake of this run has been confirmed or counted as false (R621) -/
  judged : Bool
  /-- events of a sleep that are raised when next awake: 0x0F0A, 0x0F09 -/
  supplyFailed : Bool
  failsafed : Bool
  /-- entry of the throttle in force, the entries of the last 10 s, newest first, and whether it has asked for bottling -/
  throttleAt : Nat
  throttles : List Nat
  bottleAsked : Bool
  deriving DecidableEq, Repr

/-- A harvest sweep that runs: what its header says of its start, and the slots captured (17, R704 to R706). -/
structure Sweep where
  n : Nat
  manual : Bool
  startNs : Nat
  startS : Nat
  lcNs : Nat
  lcS : Nat
  at_ : Nat
  state : Nat
  src : Nat
  stepped : Bool
  throttled : Bool
  base : Nat
  /-- slots captured so far, in order, how many capture groups they are, and the offsets of the blocks begun (R705, R710) -/
  slots : List Word
  groups : Nat
  offs : List Nat
  deriving DecidableEq, Repr

/-- The harvest and the top-down slot counters (17). -/
structure Cnt where
  nextAt : Nat
  count : Nat
  run : Option Sweep
  /-- RETIRED, WASTED, FRONT, BACK, TOTAL (R714) -/
  retired : Nat
  wasted : Nat
  front : Nat
  back : Nat
  total : Nat
  /-- decisions since the last TIME cycle: handed to SCT, and discarded -/
  decided : Nat
  discarded : Nat
  /-- decision cycles not yet counted: FABRIC cycles to go, and whether the decision was discarded (R715) -/
  fates : List (Nat × Bool)
  deriving DecidableEq, Repr
/-- The state of the device. -/
structure State where
  /-- registers by address; a banked register of engine e at its address + (e + 1) × 2^32 -/
  regs : Sparse Word
  /-- TCMs, system SRAM, always-on SRAM, message RAM of the CAN controllers and rings of the serial channels, by address -/
  mem : Sparse Byte
  /-- the attached flash, by offset -/
  flash : Sparse Byte
  /-- table entries, by table × 65536 + index, as their words -/
  tables : Sparse (List Word)
  otp : Otp
  boot : Boot
  clk : Clk
  iq : Sparse Hq
  eq : Sparse Hq
  skew : Hq
  cap : Sparse Hq
  pls : Sparse Pls
  mac : Sparse MacPort
  fwd : Fwd
  sct : Sparse ScDyn
  latAt : Sparse Nat
  buf : Buf
  lists : Sparse GList
  credit : Sparse Int
  eng : Eng
  flt : Flt
  evq : List Ev
  fltq : List Ev
  /-- frames that have left the buffer through P24 to P26 and wait for their block -/
  out24 : List Pkt
  out25 : List Pkt
  out26 : List Pkt
  /-- keep-alive frames copied to WAK (05, Table 5-1, class 3): ingress port and frame -/
  kaq : List (Nat × List Byte)
  /-- the list whose change the last commit to EGS_COMMIT asked for (08, R334) -/
  egsLast : Option Nat
  cph : Cph
  leases : Sparse Lease
  pers : Pers
  qlb : Qlb
  aud : Aud
  can : Sparse CanC
  ser : Sparse SerC
  glv : Glv
  wak : Wak
  cnt : Cnt
  /-- how many free values have been drawn (the model's own; log entry 2) -/
  free : Nat
  /-- the commands that wait, first in first out -/
  pending : List Instr
  deriving DecidableEq, Repr

def timeAct0 : TimeAct := ⟨0, false, 0, 0, 0, 0, 0⟩
def macPort0 : MacPort :=
  { cur := none, held := none, inq := [], tx := none, rest := none, gapEnd := 0, gapQ := 224, ctrl := [], linkAt := 0, everUp := false,
    lastSpeed := 0, krAt := 0, pauseEnd := [], pausedAt := 0, ignoreEnd := 0, pauseReq := 0, refreshAt := 0, verifySent := 0,
    verifyAt := 0, mpkts := [], frameNo := 0, wire := none, krCoef := none, beaconAt := 0, beaconLost := false, plcaId := 0, plcaAt := 0, plcaSent := 0,
    leadOld := 0, leadFrom := none, calWait := false, discardAt := 0 }
def hq0 : Hq := ⟨[], false⟩
def pls0 : Pls := ⟨0, 0, 0, 0, false, false, none, none, none⟩
def glist0 : GList :=
  { running := false, init := false, words := [], pending := none, changeT := 0, cyc := 0, cycNew := 0, cycStart := 0, pos := 0,
    entry := [], entryStart := 0, was := 0xFF, next := none, maxwin := [] }
def scDyn0 : ScDyn :=
  { ctok := 0, etok := 0, refill := 0, gen := 0, recov := 0, hist := 0, takeAny := false, acceptAt := 0, twinSeq := none,
    twinPort := 0, twinT := 0, pairs := 0, inits := 0 }
def clk0 : Clk :=
  { now := 0, on := false, lc := 0, dc0 := 0, dc1 := 0, wt := 0, slewOff := 0, slewAt := 0, holdRate := 0, syncAt := [],
    usableAt0 := 0, usableAt1 := 0, mismatchAt := none, esi := 0, nextK := 0, strobeBad := 0, strobeGood := 0 }
def buf0 : Buf :=
  { cells := [(0, 65536)], pkts := [(0, 32768)], copies := [(0, 65536)], pkt := [], q := [], lfsr := 0xACE1, walking := false,
    auditAt := 0, marked := [], suspects := [], pktSuspects := [], copySuspects := [], crc := [], leaked := [], pktLeaked := [],
    copyLeaked := [], headSince := [], heldBack := [], flushNext := [], depthAt := [] }
def fwd0 : Fwd := { learnQ := [], walk := 0, curSet := 0, tcamBad := [] }
def eng0 : Eng :=
  { mailbox := [], evq := [], wdAt := [], resv := [], rdata := [], latch := [], start := [], mtip := [], turn := 0, last := [], winEnd := [],
    challenged := false, challengeAt := none, chalWait := none }
def flt0 : Flt :=
  { silent := false, halted := false, silentAt := 0, bottling := none, restarts := [], seq := 0, lastRec := [], win := [],
    react := 0, reacting := false, reactK := 0, crystalGood := 0, crystalAt := 0, dbgStage := 0, throttleBottleAt := none, kekBlocked := false, lasting := 0, due := 0 }
def boot0 : Boot :=
  { step := 1, since := 0, slot := 0, tried := [], armed := false, applied := 0,
    pollEnd := none, scrub := [], locked := false, baseline := [], scrubAt := 0, forwardAt := none,
    settled := false, censusDirty := false, overflowEpisode := false, seenAt := [], stageWait := [], tempAt := none, pairId := false, testEn := false }
def otp0 : Otp := ⟨0, 0, 0, false⟩
def key0 : Key := ⟨false, 0, [], 0⟩
def cph0 : Cph := { keys := [], jobs := [], old := [], aborting := [], exhausted := [], threshed := [], stopped := [], turn := 32 }
def lease0 : Lease := { block := 0, nextBlock := none, asked := false, unleased := 0, ackWait := none }
def pers0 : Pers := { ceil := [], epoch := 0, falseWakes := [], throttle := (0, 0, 0) }
def qlb0 : Qlb :=
  { peerEpoch := none, key := none, txCount := 0, txSeq := 0, rxSeq := 0, held := [], waiting := [], credit0 := 64,
    credit2 := 128, credit3 := 64, goodAt := 0, ackAt := 0, nakAt := none, downAt := 0, kaAt := none, hbAt := none, hb := none,
    hbSent := none, wire := [], hbTxAt := none, epochAt := none, hbSeq := 0, lost := false, mirrorSync := false, handover := none, open_ := [], stalled := [], guards := [], guardLr := [],
    semPartner := [], far := hq0, fencing := [], probeAt := 0 }
def aud0 : Aud :=
  { ni := [], concNet := [], concLoc := [], gains := [], ducks := [], act := [], pmax := [], netP := none, locP := none, queue := [],
    seq := 0, target := none, genNet := [], genLoc := [], started := [], framing := [], hist := [], lastLoc := [], pipe := [],
    li := [], liPartner := [], tdmOwn := [], digest := [], digOwn := [], digPartner := [], wr := [], meterSrc := [],
    meterOut := [], meterNet := 0, meterLoc := 0, raiseAt := none, sync := none, syncNet := false }
def canC0 : CanC := { tbs := [], txev := hq0, fill := [], readyAt := 0, recovering := false, win := none, cols := [], colsCyc := none }
def serC0 : SerC := { open_ := none, txFill := 0, rxFill := 0, headAt := 0, resent := false, lineAt := 0, doneAt := 0 }
def enc0 : Enc := { isOpen := false, tOpen := 0, items := [], seq := 0, restart := false, active := false, lastMs := 0 }
def glv0 : Glv := { inq := [], enc := [], tLast := [] }
def wak0 : Wak :=
  { kaAt := 0, canKaAt := 0, changeDue := false, changeAt := 0, first := true, seq := 0, peers := [], stateAt := 0, armed := 0,
    sleepAt := 0, want := none, pwrReq := true, pwrAt := 0, oneOff := none, errs := [], quarAt := [], judged := false,
    supplyFailed := false, failsafed := false, throttleAt := 0, throttles := [], bottleAsked := false }
def cnt0 : Cnt :=
  { nextAt := 0, count := 0, run := none, retired := 0, wasted := 0, front := 0, back := 0, total := 0, decided := 0, discarded := 0, fates := [] }
/-- The device right after a cold reset (18, R720; 02, Table 2-10): every register at its reset value, no memory word written,
bring-up at step 1, the queue of commands empty. -/
def State.reset : State :=
  { regs := [], mem := [], flash := [], tables := [], otp := otp0, boot := boot0, clk := clk0, iq := [], eq := [], skew := hq0,
    cap := [], pls := [], mac := [], fwd := fwd0, sct := [], latAt := [], buf := buf0, lists := [], credit := [], eng := eng0,
    flt := flt0, evq := [], fltq := [], out24 := [], out25 := [], out26 := [], kaq := [], egsLast := none,
    cph := cph0, leases := [], pers := pers0, qlb := qlb0,
    aud := aud0, can := [], ser := [], glv := glv0, wak := wak0, cnt := cnt0,
    free := 0, pending := [] }

end Sys2Proof.Machine
end

