-- ==== Sys2Proof/Machine/Ops.lean ====
section
/-! DEFINITION. The named operations over registers, memories, tables and the indexed parts of the state. -/

namespace Sys2Proof.Machine

-- registers and their fields (00, Registers)

/-- The value held in the register at an address. -/
def State.reg (s : State) (a : Nat) : Word := sget (regReset a) s.regs a

/-- The state with a value in the register at an address. -/
def State.setReg (s : State) (a : Nat) (v : Word) : State := { s with regs := sput (regReset a) a v s.regs }

/-- A register as a number. -/
def State.regN (s : State) (a : Nat) : Nat := (s.reg a).toNat

/-- A register set from a number, modulo 2^32. -/
def State.setRegN (s : State) (a v : Nat) : State := s.setReg a (BitVec.ofNat 32 v)

/-- A field of a register. -/
def State.rd (s : State) (f : Fld) : Nat := bits (s.regN f.addr) f.lo f.w

/-- A word with the low bits of `v` in a field. -/
def insertField (old lo w v : Nat) : Nat := old - (bits old lo w) * 2 ^ lo + (v % 2 ^ w) * 2 ^ lo

/-- The state with the low bits of `v` in a field. -/
def State.wr (s : State) (f : Fld) (v : Nat) : State := s.setRegN f.addr (insertField (s.regN f.addr) f.lo f.w v)

/-- A one-bit field as a Boolean. -/
def State.on (s : State) (f : Fld) : Bool := s.rd f == 1

/-- A 64-bit value held in a LO and a HI register. -/
def State.pair (s : State) (lo hi : Nat) : Nat := s.regN hi * 2 ^ 32 + s.regN lo

/-- A 64-bit value set into a LO and a HI register. -/
def State.setPair (s : State) (lo hi v : Nat) : State := (s.setRegN lo (v % 2 ^ 32)).setRegN hi (v / 2 ^ 32)

/-- A counter advanced by `n`, modulo 2^32. -/
def State.add (s : State) (c n : Nat) : State := s.setRegN c (s.regN c + n)

/-- A counter advanced by 1, modulo 2^32. -/
def State.inc (s : State) (c : Nat) : State := s.add c 1

/-- A chained 64-bit counter advanced by `n` (17: LO at `lo`, HI at the next word). -/
def State.add64 (s : State) (lo n : Nat) : State := s.setPair lo (lo + 4) (s.pair lo (lo + 4) + n)

/-- A field that counts and saturates. -/
def State.incSat (s : State) (f : Fld) : State := s.wr f (min (s.rd f + 1) (2 ^ f.w - 1))

/-- What a write of `value` leaves in a register that held `old`: RW fields take it, a 1 clears a W1C bit, every other bit keeps
(R11). Conventions: log entry 15 (DEDUCED). -/
def writtenValue (r : RegRow) (old value : Nat) : Nat :=
  let rw := r.mask (fun a => a == .rw || a == .rws)
  let c := r.mask (fun a => a == .w1c)
  let v := (old - (old &&& rw)) ||| (value &&& rw)
  v - (v &&& (value &&& c))

/-- A register written by the access types of its fields (R11, R14). Conventions: log entry 15 (DEDUCED). -/
def State.writeFields (s : State) (a value : Nat) : State :=
  match regRow? a with
  | some r => s.setRegN a (writtenValue r (s.regN a) value)
  | none => s

-- memory (00, Table 0-7; 15, Table 15-1)

/-- The memory byte at an address; a byte that nothing has written reads 0 (log entry 4). Conventions: log entry 4 (DESIGN CHOICE). -/
def State.byte (s : State) (a : Nat) : Byte := sget 0 s.mem a

/-- A byte of the flash; a byte that nothing has programmed reads as erased (log entry 5). Conventions: log entry 5 (DESIGN CHOICE). -/
def State.flashByte (s : State) (o : Nat) : Byte := sget 0xFF s.flash o

/-- The persistent store as a list of numbers: lease ceilings, epoch, false-wake counts, throttle history. -/
def State.persWords (s : State) : List Nat :=
  s.pers.ceil.flatMap (fun e => [e.1, e.2]) ++ [s.pers.epoch] ++ s.pers.falseWakes.flatMap (fun e => [e.1, e.2.1, e.2.2]) ++
    [s.pers.throttle.1, s.pers.throttle.2.1, s.pers.throttle.2.2]

/-- A byte of the flash as its window shows it: in the persistent store (02, Table 2-1) what the store holds, in a layout that the spec
does not give. Conventions: log entry 5 (DESIGN CHOICE). -/
def State.windowByte (s : State) (o : Nat) : Byte :=
  if 0x03090000 ≤ o ∧ o < 0x030D0000 then Config.persLayout s.persWords o else s.flashByte o

/-- Bytes to consecutive keys of a sparse byte table. -/
def putBytes (d : Byte) : Nat → List Byte → Sparse Byte → Sparse Byte
  | _, [], m => m
  | a, b :: r, m => putBytes d (a + 1) r (sput d a b m)

/-- `n` bytes from an address on. -/
def getBytes (f : Nat → Byte) : Nat → Nat → List Byte
  | _, 0 => []
  | a, n + 1 => f a :: getBytes f (a + 1) n

/-- Reservations that a write to `n` bytes at `a` leaves standing (15, R633). -/
def keepResv (a n : Nat) (r : Sparse (Option Nat)) : Sparse (Option Nat) :=
  r.filter (fun e => match e.2 with
    | some w => !(decide (w < a + n) && decide (a < w + 4))
    | none => true)

/-- Memory written from `a` on; reservations of a written word are cleared (15, R633). -/
def State.store (s : State) (a : Nat) (b : List Byte) : State :=
  { s with mem := putBytes 0 a b s.mem, eng := { s.eng with resv := keepResv a b.length s.eng.resv } }

/-- Flash programmed from an offset on. Conventions: log entry 5 (DESIGN CHOICE). -/
def State.program (s : State) (o : Nat) (b : List Byte) : State := { s with flash := putBytes 0xFF o b s.flash }

/-- Flash erased: `n` bytes from an offset on read 0xFF. Conventions: log entry 5 (DESIGN CHOICE). -/
def State.erase (s : State) (o n : Nat) : State :=
  { s with flash := s.flash.filter (fun e => decide (e.1 < o) || decide (o + n ≤ e.1)) }

/-- The number that bytes stand for, least significant first (R8). -/
def leNat : List Byte → Nat
  | [] => 0
  | b :: r => b.toNat + 256 * leNat r

/-- The low `8 n` bits of a number as bytes, least significant first. -/
def leBytes : Nat → Nat → List Byte
  | 0, _ => []
  | n + 1, v => BitVec.ofNat 8 v :: leBytes n (v / 256)

/-- The number that bytes stand for, most significant first (R7, R39). -/
def beNat (l : List Byte) : Nat := l.foldl (fun v b => v * 256 + b.toNat) 0

/-- The low `8 n` bits of a number as bytes, most significant first. -/
def beBytes (n v : Nat) : List Byte := (leBytes n v).reverse

/-- A little-endian word of memory. -/
def State.word (s : State) (a : Nat) : Nat := leNat (getBytes s.byte a 4)

/-- A little-endian word stored to memory. -/
def State.storeWord (s : State) (a v : Nat) : State := s.store a (leBytes 4 v)

/-- The regions of Table 15-1. -/
inductive Region where
  | bootRom | tcm | sram | aon | regs | flash | partner | none
  deriving DecidableEq, Repr

/-- The region that holds an address (15, Table 15-1). -/
def region (a : Nat) : Region :=
  if a < 0x10000 then .bootRom
  else if 0x08000000 ≤ a ∧ a < 0x08100000 then .tcm
  else if 0x10000000 ≤ a ∧ a < 0x10200000 then .sram
  else if 0x18000000 ≤ a ∧ a < 0x18020000 then .aon
  else if 0x20100000 ≤ a ∧ a < 0x21300000 then .regs
  else if 0x30000000 ≤ a ∧ a < 0x34000000 then .flash
  else if 0x40000000 ≤ a ∧ a < 0x80000000 then .partner
  else .none

/-- Whether `n` bytes at `a` lie whole in system SRAM. -/
def inSram (a n : Nat) : Bool := decide (0x10000000 ≤ a) && decide (a + n ≤ 0x10200000)

-- tables (02, Table 2-6)

/-- What an entry holds after a reset: RED profiles by R301, crosspoint taps by 09, every other entry zeros. -/
def tableReset (k : Nat) : List Word :=
  if k / 0x10000 = 7 then [0xFFFFFFFF#32, 0xFFFFFFFF#32, 0xFFFFFFFF#32, 0]
  else if k / 0x10000 = 8 ∧ k % 0x10000 < 4096 then [0x800003FF#32, 0]
  else []

/-- Entry `i` of table `t`. -/
def State.entry (s : State) (t i : Nat) : List Word := sget (tableReset (t * 0x10000 + i)) s.tables (t * 0x10000 + i)

/-- Word `k` of entry `i` of table `t`. -/
def State.tw (s : State) (t i k : Nat) : Nat := (nth 0 (s.entry t i) k).toNat

/-- Entry `i` of table `t` replaced whole (R15). -/
def State.setEntry (s : State) (t i : Nat) (w : List Word) : State :=
  { s with tables := sput (tableReset (t * 0x10000 + i)) (t * 0x10000 + i) w s.tables }

/-- The first `n` of the STAGE registers of a block from an address on. -/
def State.staged (s : State) (base : Nat) : Nat → List Word
  | 0 => []
  | n + 1 => s.reg base :: s.staged (base + 4) n

-- indexed parts

def State.port (s : State) (p : Nat) : MacPort := sget macPort0 s.mac p
def State.setPort (s : State) (p : Nat) (m : MacPort) : State := { s with mac := sput macPort0 p m s.mac }
def State.modPort (s : State) (p : Nat) (f : MacPort → MacPort) : State := s.setPort p (f (s.port p))
def State.queue (s : State) (q : Nat) : List Copy := sget [] s.buf.q q
def State.setQueue (s : State) (q : Nat) (l : List Copy) : State := { s with buf := { s.buf with q := sput [] q l s.buf.q } }
def State.dyn (s : State) (h : Nat) : ScDyn := sget scDyn0 s.sct h
def State.setDyn (s : State) (h : Nat) (d : ScDyn) : State := { s with sct := sput scDyn0 h d s.sct }
def State.glist (s : State) (n : Nat) : GList := sget glist0 s.lists n
def State.setGlist (s : State) (n : Nat) (l : GList) : State := { s with lists := sput glist0 n l s.lists }

/-- A value that the spec leaves open, and the state that has drawn it (log entry 2). Conventions: log entry 2 (DESIGN CHOICE). -/
def State.drawFree (s : State) : Nat × State := (Config.freeValue s.free, { s with free := s.free + 1 })

-- the state of the unit as a whole

/-- The device runs: it is past bring-up step 2, and neither fail-silent nor held (16, R664). Conventions: log entry 12 (DEDUCED). -/
def State.alive (s : State) : Bool := !s.flt.silent && decide (3 ≤ s.boot.step)

/-- The engines have been released: the device is past bring-up step 10 (02, Table 2-9). -/
def State.released (s : State) : Bool := !s.flt.silent && decide (10 ≤ s.boot.step)

/-- Port enabling has begun: bring-up step 11 is reached (02, Table 2-9). -/
def State.portsOn (s : State) : Bool := !s.flt.silent && decide (11 ≤ s.boot.step)

/-- Past bring-up step 12 (02, R56). -/
def State.forwarding (s : State) : Bool := !s.flt.silent && decide (s.boot.step = 12)

/-- Engine `e` runs (15, Table 15-12) and is not halted by a fail-silence (16, R664). Conventions: log entry 12 (DEDUCED). -/
def State.engineRuns (s : State) (e : Nat) : Bool := !s.flt.silent && (s.rd F.ENG_RUN_RUNNING).testBit e

/-- The engines that run. -/
def State.runningEngines (s : State) : List Nat := (List.range 8).filter s.engineRuns

/-- Firmware runs on some engine, so that a register can be written by it (01, R25). -/
def State.firmwareRuns (s : State) : Bool := s.released && !s.runningEngines.isEmpty

/-- AON seconds since the cold reset (14, WAK_AON_SECONDS). -/
def State.aonSeconds (s : State) : Nat := s.clk.now / 1000000000

/-- WT in whole ns. -/
def State.wtNs (s : State) : Int := s.clk.wt / 2 ^ 39

/-- WT nanoseconds within the second. -/
def State.wtSubNs (s : State) : Nat := (s.wtNs % 1000000000).toNat

/-- WT seconds. -/
def State.wtSec (s : State) : Nat := (s.wtNs / 1000000000).toNat

/-- TS64 of WT (R18). -/
def State.wtTs64 (s : State) : Nat := (s.wtSec % 2 ^ 32) * 2 ^ 32 + s.wtSubNs

/-- WT state of Table 3-2: 0 FREE, 1 LOCKED, 2 HANDOVER, 3 HOLDOVER. -/
def State.wtState (s : State) : Nat := s.rd F.TSU_WT_STATUS_STATE

/-- The ESI of an instant given in ns (00, R18): seconds × 48 000 + floor(ns × 6 / 125 000). -/
def esiOf (ns : Nat) : Nat := (ns / 1000000000) * 48000 + (ns % 1000000000) * 6 / 125000

-- outcomes

/-- The outcome of a command that has its effect. Conventions: log entry 14 (DEDUCED). -/
def done (s : State) : Host.Outcome State Fault Refusal := .next s

end Sys2Proof.Machine
end

