-- ==== Sys2Proof/Machine/Operands.lean ====
section
/-! DEFINITION. Octet strings: CRC-32 (R10), the CRC-16 of the cells, and the header fields of Ethernet and IP frames. -/

namespace Sys2Proof.Machine

/-- One bit of a CRC that shifts right. -/
def crcBit (poly h : Nat) : Nat := if h % 2 = 1 then (h / 2) ^^^ poly else h / 2

/-- One octet of a CRC that shifts right, least significant bit first. -/
def crcOctet (poly h : Nat) (b : Byte) : Nat :=
  let x := h ^^^ b.toNat
  crcBit poly (crcBit poly (crcBit poly (crcBit poly (crcBit poly (crcBit poly (crcBit poly (crcBit poly x)))))))

/-- The register of the reflected CRC-32 after octets, from a preset, without the complement (R199). -/
def crcReg (preset : Nat) (l : List Byte) : Nat := l.foldl (crcOctet 0xEDB88320) preset

/-- CRC-32 (R10). -/
def crc32 (l : List Byte) : Nat := (crcReg 0xFFFFFFFF l) ^^^ 0xFFFFFFFF

/-- The frame check sequence of a frame's octets as they follow it on the wire (IEEE 802.3: the result of R10, least
significant octet first). -/
def fcs (l : List Byte) : List Byte := leBytes 4 (crc32 l)

/-- The octets of a frame without its last four. -/
def dropFcs (l : List Byte) : List Byte := l.take (l.length - 4)

/-- Whether the last four octets are the FCS of the ones before. -/
def fcsOk (l : List Byte) : Bool := decide (4 ≤ l.length) && decide (l.drop (l.length - 4) = fcs (dropFcs l))

/-- `n` octets at offset `o` of a frame as a number. -/
def fld (l : List Byte) (o n : Nat) : Nat := beNat ((l.drop o).take n)

/-- Octets written into a frame at an offset. -/
def splice (l : List Byte) (o : Nat) (b : List Byte) : List Byte := l.take o ++ b ++ l.drop (o + b.length)

def daOf (l : List Byte) : Nat := fld l 0 6
def saOf (l : List Byte) : Nat := fld l 6 6
/-- The EtherType after the source address. -/
def etOf (l : List Byte) : Nat := fld l 12 2
def isGroup (mac : Nat) : Bool := (mac / 2 ^ 40) % 2 == 1
def isBroadcast (mac : Nat) : Bool := mac == 0xFFFFFFFFFFFF
/-- 01-80-C2-00-00-00 to 01-80-C2-00-00-0F. -/
def isLinkLocal (mac : Nat) : Bool := mac / 16 == 0x0180C200000

/-- Offset of the type field behind an R-TAG that directly follows the source address (R258). -/
def rtagSkip (l : List Byte) : Nat := if etOf l = 0xF1C1 ∧ 20 ≤ l.length then 18 else 12

/-- The sequence number of an R-TAG directly after the source address (R258). -/
def rtagOf (l : List Byte) : Option Nat := if etOf l = 0xF1C1 ∧ 18 ≤ l.length then some (fld l 16 2) else none

/-- An R-TAG inserted after the source address, or its sequence number overwritten (R261). -/
def rtagSet (l : List Byte) (seq : Nat) : List Byte :=
  match rtagOf l with
  | some _ => splice l 16 (beBytes 2 seq)
  | none => l.take 12 ++ [0xF1, 0xC1, 0, 0] ++ beBytes 2 seq ++ l.drop 12

/-- The frame without its R-TAG (R265). -/
def rtagPop (l : List Byte) : List Byte :=
  match rtagOf l with
  | some _ => l.take 12 ++ l.drop 18
  | none => l

/-- Ones' complement sum of two 16-bit words. -/
def ocAdd (a b : Nat) : Nat := let x := a + b; x % 65536 + x / 65536

/-- Checksum with a 16-bit word changed from `m` to `m2` (RFC 1624, R234). -/
def ocUpdate (ck m m2 : Nat) : Nat := 65535 - (ocAdd (ocAdd (65535 - ck) (65535 - m)) m2) % 65536

/-- Ones' complement sum of the 16-bit words of octets. -/
def ocSum : List Byte → Nat
  | [] => 0
  | [a] => a.toNat * 256
  | a :: b :: r => ocAdd (a.toNat * 256 + b.toNat) (ocSum r)

/-- CRC-16 of a cell: polynomial 0x1021, initial value 0xFFFF (R305). Conventions: log entry 55 (DESIGN CHOICE). -/
def crc16 (l : List Byte) : Nat :=
  l.foldl (fun h b =>
    (List.range 8).foldl (fun h _ => if h ≥ 0x8000 then ((h * 2) % 65536) ^^^ 0x1021 else h * 2) (h ^^^ (b.toNat * 256))) 0xFFFF

/-- Zero octets. -/
def zeros (n : Nat) : List Byte := List.replicate n 0

end Sys2Proof.Machine
end

