-- ==== Sys2Proof/Machine/Crypto.lean ====
section
/-! DEFINITION. The cryptographic functions that 02, 12 and 15 name by their standards: AES (FIPS 197), GCM (SP 800-38D), CMAC
(SP 800-38B), AES key wrap (RFC 3394), the KDF of IEEE 802.1X-2020, SHA-256 (FIPS 180-4) and ECDSA on P-256 (FIPS 186). Log entry
7: the standards' own texts are outside the spec. -/

namespace Sys2Proof.Machine

-- AES

/-- Multiplication by x in GF(2^8). -/
def xtime (a : Nat) : Nat := if 128 ≤ a then (a * 2) ^^^ 0x11B else a * 2

/-- Multiplication in GF(2^8), over the bits of `b` from the lowest. -/
def gmulFrom : Nat → Nat → Nat → Nat
  | 0, _, _ => 0
  | n + 1, a, b => (if b % 2 = 1 then a else 0) ^^^ gmulFrom n (xtime a) (b / 2)

def gmul (a b : Nat) : Nat := gmulFrom 8 a b

/-- The inverse in GF(2^8), 0 for 0. -/
def ginv (a : Nat) : Nat :=
  let a2 := gmul a a
  let a4 := gmul a2 a2
  let a8 := gmul a4 a4
  let a16 := gmul a8 a8
  let a32 := gmul a16 a16
  let a64 := gmul a32 a32
  gmul (gmul (gmul a2 a4) (gmul a8 a16)) (gmul (gmul a32 a64) (gmul a64 a64))

/-- An octet rotated left. -/
def rotl8 (a k : Nat) : Nat := (a * 2 ^ k) % 256 + a / 2 ^ (8 - k)

def subByte (x : Nat) : Nat :=
  let a := ginv x
  a ^^^ rotl8 a 1 ^^^ rotl8 a 2 ^^^ rotl8 a 3 ^^^ rotl8 a 4 ^^^ 0x63

def invSubByte (y : Nat) : Nat := ginv (rotl8 y 1 ^^^ rotl8 y 3 ^^^ rotl8 y 6 ^^^ 0x05)

/-- Octets added in GF(2). -/
def xorL (a b : List Nat) : List Nat := List.zipWith (fun x y => x ^^^ y) a b

/-- The round constant of round `i`. -/
def rcon : Nat → Nat
  | 0 => 1
  | n + 1 => xtime (rcon n)

/-- The key schedule: words so far, newest first, and `n` words still to make. -/
def expandKey (nk : Nat) : Nat → List (List Nat) → List (List Nat)
  | 0, w => w
  | n + 1, w =>
    let i := w.length
    let t := nth [] w 0
    let t := if i % nk = 0 then
        (let u := (t.drop 1 ++ t.take 1).map subByte
         [nth 0 u 0 ^^^ rcon (i / nk - 1), nth 0 u 1, nth 0 u 2, nth 0 u 3])
      else if 6 < nk ∧ i % nk = 4 then t.map subByte
      else t
    expandKey nk n (xorL (nth [] w (nk - 1)) t :: w)

/-- Groups of `k` elements. -/
def groupsOf {α : Type} (k : Nat) : Nat → List α → List (List α)
  | 0, _ => []
  | n + 1, l => match l with
    | [] => []
    | l => l.take k :: groupsOf k n (l.drop k)

/-- Round keys of 16 octets. -/
def roundKeys (key : List Nat) : List (List Nat) :=
  let nk := key.length / 4
  let w := (expandKey nk (4 * (nk + 7) - nk) (groupsOf 4 nk key).reverse).reverse
  (groupsOf 4 (nk + 7) w).map (fun g => g.flatten)

def shiftRows (l : List Nat) : List Nat :=
  (List.range 16).map (fun i => nth 0 l ((i / 4 + i % 4) % 4 * 4 + i % 4))

def invShiftRows (l : List Nat) : List Nat :=
  (List.range 16).map (fun i => nth 0 l ((i / 4 + 4 - i % 4) % 4 * 4 + i % 4))

/-- A column multiplied by the circulant matrix of four coefficients. -/
def mixCol (c : List Nat) (m : List Nat) : List Nat :=
  (List.range 4).map (fun r =>
    gmul (nth 0 m ((4 - r) % 4)) (nth 0 c 0) ^^^ gmul (nth 0 m ((5 - r) % 4)) (nth 0 c 1) ^^^
      gmul (nth 0 m ((6 - r) % 4)) (nth 0 c 2) ^^^ gmul (nth 0 m ((7 - r) % 4)) (nth 0 c 3))

def mixColumns (m l : List Nat) : List Nat := ((groupsOf 4 4 l).map (fun c => mixCol c m)).flatten

/-- The middle rounds and the last one of encryption. -/
def encRounds : List (List Nat) → List Nat → List Nat
  | [], s => s
  | [k], s => xorL (shiftRows (s.map subByte)) k
  | k :: r, s => encRounds r (xorL (mixColumns [2, 3, 1, 1] (shiftRows (s.map subByte))) k)

/-- AES encryption of a block of 16 octets under a key of 16 or 32. Conventions: log entry 7 (PRESUMED). -/
def aesEnc (key blk : List Nat) : List Nat :=
  match roundKeys key with
  | [] => blk
  | k0 :: r => encRounds r (xorL blk k0)

/-- The rounds of decryption, keys from the last to the first. -/
def decRounds : List (List Nat) → List Nat → List Nat
  | [], s => s
  | [k], s => xorL ((invShiftRows s).map invSubByte) k
  | k :: r, s => decRounds r (mixColumns [14, 11, 13, 9] (xorL ((invShiftRows s).map invSubByte) k))

/-- AES decryption of a block. -/
def aesDec (key blk : List Nat) : List Nat :=
  match (roundKeys key).reverse with
  | [] => blk
  | k0 :: r => decRounds r (xorL blk k0)

def natsOf (l : List Byte) : List Nat := l.map (fun b => b.toNat)
def bytesOf (l : List Nat) : List Byte := l.map (fun n => BitVec.ofNat 8 n)
def natOf (l : List Nat) : Nat := l.foldl (fun v b => v * 256 + b) 0
def toNats (n v : Nat) : List Nat := natsOf (beBytes n v)

-- CMAC

/-- Doubling in GF(2^128) of SP 800-38B. -/
def dbl128 (x : Nat) : Nat := let y := (x * 2) % 2 ^ 128; if x.testBit 127 then y ^^^ 0x87 else y

/-- CBC chaining over blocks. -/
def cbcMac (key : List Nat) (blocks : List (List Nat)) : List Nat :=
  blocks.foldl (fun x b => aesEnc key (xorL x b)) (List.replicate 16 0)

/-- AES-CMAC, 16 octets. Conventions: log entry 7 (PRESUMED). -/
def cmac (key msg : List Nat) : List Nat :=
  let k1 := dbl128 (natOf (aesEnc key (List.replicate 16 0)))
  let n := max 1 ((msg.length + 15) / 16)
  let first := groupsOf 16 (n - 1) msg
  let tail := msg.drop (16 * (n - 1))
  let last := if tail.length = 16 then xorL tail (toNats 16 k1)
    else xorL (tail ++ [0x80] ++ List.replicate (15 - tail.length) 0) (toNats 16 (dbl128 k1))
  cbcMac key (first ++ [last])

/-- AES-CMAC of octets under a key. -/
def cmacBytes (key msg : List Byte) : List Byte := bytesOf (cmac (natsOf key) (natsOf msg))

-- GCM

/-- Multiplication in GF(2^128) of SP 800-38D, over the bits of `x` from the highest. -/
def gfMulFrom : Nat → Nat → Nat → Nat → Nat
  | 0, _, _, z => z
  | n + 1, x, v, z =>
    gfMulFrom n x (if v % 2 = 1 then (v / 2) ^^^ (0xE1 * 2 ^ 120) else v / 2) (if x.testBit n then z ^^^ v else z)

def gfMul (x y : Nat) : Nat := gfMulFrom 128 x y 0

/-- Octets padded with zeros to blocks of 16. -/
def pad16 (l : List Nat) : List Nat := l ++ List.replicate ((16 - l.length % 16) % 16) 0

def ghash (h : Nat) (l : List Nat) : Nat :=
  (groupsOf 16 (l.length / 16) l).foldl (fun y b => gfMul (y ^^^ natOf b) h) 0

/-- The counter block after another (32-bit increment). -/
def inc32 (x : Nat) : Nat := x / 2 ^ 32 * 2 ^ 32 + (x % 2 ^ 32 + 1) % 2 ^ 32

/-- Counter mode from a counter block on. -/
def gctr (key : List Nat) : Nat → List (List Nat) → List Nat
  | _, [] => []
  | c, b :: r => xorL b (aesEnc key (toNats 16 c)) ++ gctr key (inc32 c) r

/-- The tag of GCM over additional data and ciphertext. -/
def gcmTag (key iv aad c : List Nat) : List Nat :=
  let h := natOf (aesEnc key (List.replicate 16 0))
  let s := ghash h (pad16 aad ++ pad16 c ++ toNats 8 (8 * aad.length) ++ toNats 8 (8 * c.length))
  xorL (toNats 16 s) (aesEnc key (iv ++ [0, 0, 0, 1]))

/-- Encryption or decryption of GCM with a 12-octet IV. -/
def gcmCrypt (key iv p : List Nat) : List Nat :=
  gctr key (natOf (iv ++ [0, 0, 0, 2])) (groupsOf 16 ((p.length + 15) / 16) p)

/-- GCM encryption: ciphertext and 16-octet tag. Conventions: log entry 7 (PRESUMED). -/
def gcmEncrypt (key iv aad p : List Byte) : List Byte × List Byte :=
  let c := gcmCrypt (natsOf key) (natsOf iv) (natsOf p)
  (bytesOf c, bytesOf (gcmTag (natsOf key) (natsOf iv) (natsOf aad) c))

/-- GCM decryption without the check, and the tag that the ciphertext should bear. Conventions: log entry 7 (PRESUMED). -/
def gcmDecrypt (key iv aad c : List Byte) : List Byte × List Byte :=
  (bytesOf (gcmCrypt (natsOf key) (natsOf iv) (natsOf c)), bytesOf (gcmTag (natsOf key) (natsOf iv) (natsOf aad) (natsOf c)))

-- key wrap (RFC 3394)

/-- One pass of the wrapping over the blocks: register A, blocks done, blocks to do, step count. -/
def wrapPass (key : List Nat) : Nat → List (List Nat) → List (List Nat) → Nat → Nat × List (List Nat) × Nat
  | a, acc, [], t => (a, acc.reverse, t)
  | a, acc, r :: rs, t =>
    let b := aesEnc key (toNats 8 a ++ r)
    wrapPass key (natOf (b.take 8) ^^^ (t + 1)) (b.drop 8 :: acc) rs (t + 1)

/-- `n` passes. -/
def wrapPasses (key : List Nat) : Nat → Nat → List (List Nat) → Nat → Nat × List (List Nat)
  | 0, a, r, _ => (a, r)
  | n + 1, a, r, t => let x := wrapPass key a [] r t; wrapPasses key n x.1 x.2.1 x.2.2

/-- RFC 3394 wrapping of a key of whole 8-octet blocks. Conventions: log entry 7 (PRESUMED). -/
def keyWrap (kek key : List Byte) : List Byte :=
  let p := natsOf key
  let x := wrapPasses (natsOf kek) 6 0xA6A6A6A6A6A6A6A6 (groupsOf 8 (p.length / 8) p) 0
  bytesOf (toNats 8 x.1 ++ x.2.flatten)

/-- One pass of the unwrapping, blocks from the last to the first. -/
def unwrapPass (key : List Nat) : Nat → List (List Nat) → List (List Nat) → Nat → Nat × List (List Nat) × Nat
  | a, acc, [], t => (a, acc, t)
  | a, acc, r :: rs, t =>
    let b := aesDec key (toNats 8 (a ^^^ t) ++ r)
    unwrapPass key (natOf (b.take 8)) (b.drop 8 :: acc) rs (t - 1)

def unwrapPasses (key : List Nat) : Nat → Nat → List (List Nat) → Nat → Nat × List (List Nat)
  | 0, a, r, _ => (a, r)
  | n + 1, a, r, t => let x := unwrapPass key a [] r.reverse t; unwrapPasses key n x.1 x.2.1 x.2.2

/-- RFC 3394 unwrapping: none when the integrity check fails. Conventions: log entry 7 (PRESUMED). -/
def keyUnwrap (kek w : List Byte) : Option (List Byte) :=
  let c := natsOf w
  let n := c.length / 8 - 1
  let x := unwrapPasses (natsOf kek) 6 (natOf (c.take 8)) (groupsOf 8 n (c.drop 8)) (6 * n)
  if x.1 = 0xA6A6A6A6A6A6A6A6 then some (bytesOf x.2.flatten) else none

-- the KDF of IEEE 802.1X-2020 with AES-CMAC

/-- A key of `n` octets from a key and an input that holds label, zero octet and context. Conventions: log entry 7 (PRESUMED). -/
def kdf (key input : List Byte) (n : Nat) : List Byte :=
  let len := beBytes 2 (8 * n)
  (cmacBytes key ([1] ++ input ++ len) ++ (if 16 < n then cmacBytes key ([2] ++ input ++ len) else [])).take n

-- SHA-256

def shaK : List Nat :=
  [0x428A2F98, 0x71374491, 0xB5C0FBCF, 0xE9B5DBA5, 0x3956C25B, 0x59F111F1, 0x923F82A4, 0xAB1C5ED5, 0xD807AA98, 0x12835B01,
   0x243185BE, 0x550C7DC3, 0x72BE5D74, 0x80DEB1FE, 0x9BDC06A7, 0xC19BF174, 0xE49B69C1, 0xEFBE4786, 0x0FC19DC6, 0x240CA1CC,
   0x2DE92C6F, 0x4A7484AA, 0x5CB0A9DC, 0x76F988DA, 0x983E5152, 0xA831C66D, 0xB00327C8, 0xBF597FC7, 0xC6E00BF3, 0xD5A79147,
   0x06CA6351, 0x14292967] ++
  [0x27B70A85, 0x2E1B2138, 0x4D2C6DFC, 0x53380D13, 0x650A7354, 0x766A0ABB, 0x81C2C92E, 0x92722C85, 0xA2BFE8A1, 0xA81A664B,
   0xC24B8B70, 0xC76C51A3, 0xD192E819, 0xD6990624, 0xF40E3585, 0x106AA070, 0x19A4C116, 0x1E376C08, 0x2748774C, 0x34B0BCB5,
   0x391C0CB3, 0x4ED8AA4A, 0x5B9CCA4F, 0x682E6FF3, 0x748F82EE, 0x78A5636F, 0x84C87814, 0x8CC70208, 0x90BEFFFA, 0xA4506CEB,
   0xBEF9A3F7, 0xC67178F2]

def rotr32 (x k : Nat) : Nat := x / 2 ^ k + (x % 2 ^ k) * 2 ^ (32 - k)

/-- The message schedule, newest word first. -/
def shaSchedule : Nat → List Nat → List Nat
  | 0, w => w
  | n + 1, w =>
    let a := nth 0 w 14
    let b := nth 0 w 1
    let s0 := rotr32 a 7 ^^^ rotr32 a 18 ^^^ a / 8
    let s1 := rotr32 b 17 ^^^ rotr32 b 19 ^^^ b / 1024
    shaSchedule n ((nth 0 w 15 + s0 + nth 0 w 6 + s1) % 2 ^ 32 :: w)

/-- One round on the eight working words. -/
def shaRound (v : List Nat) (kw : Nat) : List Nat :=
  let a := nth 0 v 0
  let b := nth 0 v 1
  let c := nth 0 v 2
  let e := nth 0 v 4
  let f := nth 0 v 5
  let g := nth 0 v 6
  let s1 := rotr32 e 6 ^^^ rotr32 e 11 ^^^ rotr32 e 25
  let ch := (e &&& f) ^^^ ((2 ^ 32 - 1 - e) &&& g)
  let t1 := nth 0 v 7 + s1 + ch + kw
  let s0 := rotr32 a 2 ^^^ rotr32 a 13 ^^^ rotr32 a 22
  let maj := (a &&& b) ^^^ (a &&& c) ^^^ (b &&& c)
  [(t1 + s0 + maj) % 2 ^ 32, a, b, c, (nth 0 v 3 + t1) % 2 ^ 32, e, f, g]

def shaBlock (h : List Nat) (blk : List Nat) : List Nat :=
  let w := (shaSchedule 48 ((groupsOf 4 16 blk).map natOf).reverse).reverse
  let v := (List.zipWith (fun k x => k + x) shaK w).foldl shaRound h
  List.zipWith (fun x y => (x + y) % 2 ^ 32) h v

def shaInit : List Nat := [0x6A09E667, 0xBB67AE85, 0x3C6EF372, 0xA54FF53A, 0x510E527F, 0x9B05688C, 0x1F83D9AB, 0x5BE0CD19]

/-- SHA-256 of octets, as a number of 256 bits. Conventions: log entry 7 (PRESUMED). -/
def sha256 (msg : List Byte) : Nat :=
  let m := natsOf msg
  let p := m ++ [0x80] ++ List.replicate ((119 - m.length % 64) % 64) 0 ++ toNats 8 (8 * m.length)
  ((groupsOf 64 (p.length / 64) p).foldl shaBlock shaInit).foldl (fun v x => v * 2 ^ 32 + x) 0

-- ECDSA on P-256

def p256P : Nat := 0xFFFFFFFF00000001000000000000000000000000FFFFFFFFFFFFFFFFFFFFFFFF
def p256N : Nat := 0xFFFFFFFF00000000FFFFFFFFFFFFFFFFBCE6FAADA7179E84F3B9CAC2FC632551
def p256B : Nat := 0x5AC635D8AA3A93E7B3EBBD55769886BC651D06B0CC53B0F63BCE3C3E27D2604B
def p256G : Nat × Nat :=
  (0x6B17D1F2E12C4247F8BCE6E563A440F277037D812DEB33A0F4A13945D898C296,
   0x4FE342E2FE1A7F9B8EE7EB4A7C0F9E162BCE33576B315ECECBB6406837BF51F5)

/-- `x ^ e mod m` over the `n` low bits of the exponent, from the highest. -/
def powMod (m x e : Nat) : Nat → Nat → Nat
  | 0, r => r
  | n + 1, r => powMod m x e n (let q := r * r % m; if e.testBit n then q * x % m else q)

/-- The inverse modulo a prime. -/
def invMod (m x : Nat) : Nat := powMod m (x % m) (m - 2) 256 1

/-- A point of the curve; none is the point at infinity. -/
abbrev Point := Option (Nat × Nat)

def subMod (m a b : Nat) : Nat := (a + m - b % m) % m

def ecAdd (p q : Point) : Point :=
  match p, q with
  | none, q => q
  | p, none => p
  | some (x1, y1), some (x2, y2) =>
    if x1 = x2 ∧ (y1 + y2) % p256P = 0 then none
    else
      let l := if x1 = x2 then (3 * x1 * x1 + p256P - 3) * invMod p256P (2 * y1) % p256P
        else subMod p256P y2 y1 * invMod p256P (subMod p256P x2 x1) % p256P
      let x := subMod p256P (subMod p256P (l * l) x1) x2
      some (x, subMod p256P (l * subMod p256P x1 x) y1)

/-- `k` times a point, over the `n` low bits of `k`, from the highest. -/
def ecMul (k : Nat) (p : Point) : Nat → Point → Point
  | 0, r => r
  | n + 1, r => ecMul k p n (let d := ecAdd r r; if k.testBit n then ecAdd d p else d)

/-- ECDSA verification of a hash with a public key. Conventions: log entry 7 (PRESUMED). -/
def ecdsaVerify (qx qy z r s : Nat) : Bool :=
  if r = 0 ∨ p256N ≤ r ∨ s = 0 ∨ p256N ≤ s ∨ p256P ≤ qx ∨ p256P ≤ qy ∨
      (qy * qy) % p256P ≠ (qx * qx * qx + (p256P - 3) * qx + p256B) % p256P then false
  else
    let w := invMod p256N s
    match ecAdd (ecMul (z * w % p256N) (some p256G) 256 none) (ecMul (r * w % p256N) (some (qx, qy)) 256 none) with
    | some (x, _) => decide (x % p256N = r)
    | none => false

end Sys2Proof.Machine
end

