-- ==== Sys2Proof/Machine/Flags.lean ====
section
/-! DEFINITION. Events and event bits (15, R644; the EV fields of every block), the queues of R110 to R113, the cellar, the fault
windows and fail-silence (16). -/

namespace Sys2Proof.Machine

/-- The register bit that an event sets: the EV bit of its block, of instance `inst` where the block has one per port,
controller or channel (02, Table 2-20; the EV rows of the other chapters). -/
def evBit (code inst : Nat) : Option Fld :=
  let i := code % 256 - 1
  match code / 256 with
  | 0x02 =>
    match code with
    | 0x0201 => some F.CFG_EVENT_DISCORD
    | 0x0202 => some F.CFG_EVENT_AGREED
    | 0x0206 => some F.CFG_EVENT_OVERFLOW
    | 0x0208 => some F.CFG_EVENT_SCRUB_WRITE
    | _ => none
  | 0x03 => some ⟨R.TSU_EVENT, i, 1⟩
  | 0x04 => some ⟨R.MAC_EVENT inst, i, 1⟩
  | 0x05 => some ⟨R.FWD_EVENT, i, 1⟩
  | 0x06 => some ⟨R.SCT_EVENT, i, 1⟩
  | 0x07 => some ⟨R.BUF_EVENT, i, 1⟩
  | 0x08 => some ⟨R.EGS_EVENT, i, 1⟩
  | 0x09 => some ⟨R.AUD_EVENT, i, 1⟩
  | 0x0A => some ⟨R.CAN_EVENT inst, i, 1⟩
  | 0x0B => some ⟨R.SER_EVENT inst, i, 1⟩
  | 0x0C => some ⟨R.GLV_EVENT, i, 1⟩
  | 0x0D => some ⟨R.CPH_EVENT, i, 1⟩
  | 0x0E => some ⟨R.QLB_EVENT, i, 1⟩
  | 0x0F => some ⟨R.WAK_EVENT, i, 1⟩
  | 0x10 => some ⟨R.ENG_EVENT, i, 1⟩
  | 0x11 => some ⟨R.FLT_EVENT, i, 1⟩
  | 0x12 => some ⟨R.CNT_EVENT, i, 1⟩
  | _ => none

/-- An event as it stands when it is raised now. Conventions: log entry 54 (DEDUCED). -/
def State.event (s : State) (code param cls d0 d1 : Nat) (must : Bool) : Ev :=
  { code := code, param := param, ns := s.wtSubNs, sec := s.wtSec % 2 ^ 32, wtState := s.wtState,
    wtSrc := s.rd F.TSU_CTRL_WT_SRC, cls := cls, d0 := d0, d1 := d1, must := must }

/-- An event sets its block's bit (R13: it ends set), and goes to the event router and to FLT (15, R644; 16, R678).
Conventions: log entry 54 (DEDUCED). -/
def State.raiseFull (s : State) (inst code param cls d0 d1 : Nat) (must : Bool) : State :=
  let e := s.event code param cls d0 d1 must
  let s := match evBit code inst with
    | some f => s.wr f 1
    | none => s
  { s with evq := s.evq ++ [e], fltq := s.fltq ++ [e] }

/-- An event of a block without instances, or whose instance is its parameter. Conventions: log entry 54 (DEDUCED). -/
def State.raise (s : State) (code param : Nat) : State := s.raiseFull param code param 0 0 0 false

/-- An event of instance `inst` with a parameter of its own. Conventions: log entry 54 (DEDUCED). -/
def State.raiseAt (s : State) (inst code param : Nat) : State := s.raiseFull inst code param 0 0 0 false

/-- An event whose record is written whatever FLT_CELLAR_SEL holds. -/
def State.raiseMust (s : State) (code param cls d0 d1 : Nat) : State := s.raiseFull param code param cls d0 d1 true

/-- An event raised only at the first occurrence after its bit was last cleared. -/
def State.raiseOnce (s : State) (code param : Nat) : State :=
  match evBit code param with
  | some f => if s.on f then s else s.raise code param
  | none => s.raise code param

-- the queues of R110 to R113

/-- An entry for a queue of depth `cap`: recorded with GAP when one is pending, or lost. The Boolean says that it was lost, and
the second that this loss is the first of its gap (R111, R112). -/
def hqPush (cap : Nat) (h : Hq) (e : List Word) : Hq × Bool × Bool :=
  if h.q.length < cap then
    (⟨h.q ++ [match e with
      | w :: r => (w ||| (if h.gap then 3#32 else 1#32)) :: r
      | [] => []], false⟩, false, false)
  else (⟨h.q, true⟩, true, !h.gap)

/-- The oldest entry and the rest (R110). -/
def hqPop (h : Hq) : Option (List Word) × Hq :=
  match h.q with
  | [] => (none, h)
  | e :: r => (some e, ⟨r, h.gap⟩)

/-- The latched entry in the HEAD registers from `head` on (R110): zeros when the queue was empty. -/
def State.latchHead (s : State) (head n : Nat) (e : Option (List Word)) : State :=
  (List.range n).foldl (fun s i => s.setReg (head + 4 * i) (match e with | some l => nth 0 l i | none => 0)) s

-- the cellar (16, R678 to R681)

/-- A record in the slot at NEXT (Table 16-6). Conventions: log entry 22 (DEDUCED). -/
def State.writeRecord (s : State) (e : Ev) : State :=
  let n := s.rd F.FLT_CELLAR_HEAD_NEXT
  let w1 := e.code + s.wtState * 2 ^ 16 + s.rd F.TSU_CTRL_WT_SRC * 2 ^ 19 + e.cls * 2 ^ 20 + s.rd F.FLT_CELLAR_HEAD_BOOT * 2 ^ 22
  let words := [s.flt.seq, w1, s.wtSubNs, s.wtSec % 2 ^ 32, e.param, s.aonSeconds % 2 ^ 32, e.d0, e.d1]
  let s := s.store (0x18000000 + n * 32) (words.flatMap (leBytes 4))
  let s := { s with flt := { s.flt with seq := (s.flt.seq + 1) % 2 ^ 32, lastRec := sput 0 e.code (s.clk.now + 1) s.flt.lastRec } }
  (s.wr F.FLT_CELLAR_HEAD_NEXT (n + 1)).inc C.FLT_CELLAR_RECORDS

/-- Whether an event is to be recorded: always, or by FLT_CELLAR_SEL (R678). Conventions: log entry 22 (DEDUCED). -/
def State.recorded (s : State) (e : Ev) : Bool := e.must || (s.regN R.FLT_CELLAR_SEL).testBit (e.code / 256)

/-- Whether the code has been recorded within the last 1 ms (R679). -/
def State.recentRecord (s : State) (code : Nat) : Bool :=
  let t := sget 0 s.flt.lastRec code
  decide (t ≠ 0) && decide (s.clk.now + 1 - t < 1000000)

/-- The oldest event that waits for FLT is recorded, suppressed or passed over. Conventions: log entry 22 (DEDUCED). -/
def State.cellarRecord (s : State) : State :=
  match s.fltq with
  | [] => s
  | e :: r =>
    let s := { s with fltq := r }
    if ¬ s.recorded e then s
    else if e.cls < 2 ∧ s.recentRecord e.code then s.inc C.FLT_CELLAR_SUPPRESSED
    else s.writeRecord e

/-- Every event that waits for FLT is dealt with. Conventions: log entry 22 (DEDUCED). -/
def State.flushCellar (s : State) : State := s.fltq.foldl (fun s _ => s.cellarRecord) s

-- fail-silence (16, R664 to R668)

/-- The bottle that the next bottling takes: the one after the valid bottle with the greatest SEQUENCE modulo 2^32, counting 3 to
0, or bottle 0 (R683, R685). -/
def bottleBase (n : Nat) : Nat := 0x03010000 + n * 0x20000

/-- A bottle is valid when its MAGIC and CRC are correct (R685). -/
def State.bottleValid (s : State) (n : Nat) : Bool :=
  decide (beNat (getBytes s.flashByte (bottleBase n) 4) = 0x4C514342) &&
    (let b := getBytes s.flashByte (bottleBase n) 0x20000
     decide (beNat ((b.drop 0x1C).take 4) = crc32 (b.take 0x1C ++ [0, 0, 0, 0] ++ b.drop 0x20)))

/-- SEQUENCE of a bottle. -/
def State.bottleSeq (s : State) (n : Nat) : Nat := beNat (getBytes s.flashByte (bottleBase n + 4) 4)

/-- Whether sequence `a` is newer than `b` modulo 2^32; two that lie exactly 2^31 apart are neither newer (log entry 58, DESIGN
CHOICE). Conventions: log entry 58 (DESIGN CHOICE). -/
def seqNewer (a b : Nat) : Bool := decide (0 < (a + 2 ^ 32 - b) % 2 ^ 32 ∧ (a + 2 ^ 32 - b) % 2 ^ 32 < 2 ^ 31)

/-- The valid bottle with the greatest SEQUENCE among those FLT has checked (FLT_BOTTLE.VALID). -/
def State.lastBottle (s : State) : Option Nat :=
  (List.range 4).foldl (fun best n =>
    if (s.rd F.FLT_BOTTLE_VALID).testBit n then
      match best with
      | none => some n
      | some m => if seqNewer (s.bottleSeq n) (s.bottleSeq m) then some n else best
    else best) none

/-- Bottling begins: what waits for FLT is recorded (R666, R678), and the ring and the time are taken as they stand (R683, R686); a
running one only takes a fail-silence's REASON (R687). -/
def State.beginBottling (s : State) (reason : Nat) : State :=
  match s.flt.bottling with
  | some b => if reason = 1 then { s with flt := { s.flt with bottling := some { b with reason := 1 } } } else s
  | none =>
    let s := s.flushCellar
    let last := s.lastBottle
    let n := match last with | some m => (m + 1) % 4 | none => 0
    let q := match last with | some m => (s.bottleSeq m + 1) % 2 ^ 32 | none => 0
    let job : Bottling :=
      { reason := reason, bottle := n, seq := q,
        ring := s.mem.filter (fun e => decide (0x18000000 ≤ e.1) && decide (e.1 < 0x18020000)),
        next := s.rd F.FLT_CELLAR_HEAD_NEXT, wtInfo := s.rd F.TSU_CTRL_WT_SRC * 8 + s.wtState, ns := s.wtSubNs,
        sec := s.wtSec % 2 ^ 32 }
    ({ s with flt := { s.flt with bottling := some job } }.erase (bottleBase n) 0x20000).wr F.FLT_STATUS_BOTTLING 1

/-- Every engine is halted: none runs, and an LR reservation is dropped. -/
def State.haltEngines (s : State) : State :=
  let s := s.wr F.ENG_RUN_RUNNING 0
  { s with eng := { s.eng with resv := [] } }

/-- MAC transmit enabled or disabled on every port (02, R56). Conventions: log entry 56 (DEDUCED). -/
def State.setTxOn (s : State) (v : Nat) : State := (List.range 24).foldl (fun s p => s.wr (F.MAC_STATUS_TX_ON p) v) s

/-- The outputs that a fail-silence takes from the frame path: every frame in transmission stops (R664, R665). -/
def State.stopMacs (s : State) : State :=
  let s := s.setTxOn 0
  { s with mac := smap macPort0 (fun p m => if p < 24 then { m with tx := none, rest := none, ctrl := [] } else m) s.mac }

/-- Every pulse output is inactive. -/
def State.stopPulses (s : State) : State :=
  { s with pls := smap pls0 (fun _ x => { x with high := false, edge := none, fall := none }) s.pls }

/-- The shutdown after a sleep commit has begun (14, Table 14-5). -/
def State.winding (s : State) : Bool := s.rd F.WAK_STATUS_STATE == 3

/-- The first millisecond after a sleep commit has passed: no frame starts any more (14, Table 14-5, step 2). -/
def State.macStopped (s : State) : Bool := s.winding && decide (s.wak.stateAt + 1000000 ≤ s.clk.now)

/-- No CAN controller, serial channel or TDM port drives its bus. -/
def State.stopChannels (s : State) : State :=
  let s := (List.range 16).foldl (fun s n => s.setRegN (R.CAN_TB_STATUS n) (s.regN (R.CAN_TB_STATUS n) &&& 0xDDD)) s
  let s := (List.range 8).foldl (fun s n => (s.wr (F.SER_STATUS_DE n) 0).wr (F.SER_STATUS_TX_BUSY n) 0) s
  (List.range 4).foldl (fun s p => (s.wr (F.AUD_TDM_STATUS_DRIVING p) 0).wr (F.AUD_TDM_STATUS_COMPARING p) 0) s

/-- What a fail-silence takes from a unit: its engines, its frames, its pulses and its channels (16, R664, R665).
Conventions: log entry 56 (DEDUCED). -/
def State.silenced (s : State) : State := s.haltEngines.stopMacs.stopPulses.stopChannels

/-- Fault restarts in the present window (16, R669, R670). Conventions: log entry 25 (DEDUCED). -/
def State.recentRestarts (s : State) : Nat :=
  let w := s.rd F.FLT_RESTART_RESTART_WINDOW
  (s.flt.restarts.filter (fun t => w == 0 || decide (s.aonSeconds < t + w))).length

/-- RESTART_LIMIT fault restarts have occurred within the window: a fail-silence now halts the unit (16, R670).
Conventions: log entry 25 (DEDUCED). -/
def State.atLimit (s : State) : Bool :=
  let n := s.rd F.FLT_RESTART_RESTART_LIMIT
  decide (n ≠ 0) && decide (n ≤ s.recentRestarts)

/-- Fail-silence with a cause and its data (16, R664 to R667). Conventions: log entries 23 (DEDUCED), 25 (DEDUCED). -/
def State.failSilent (s : State) (cause data : Nat) : State :=
  if s.flt.silent then s.raiseFull 0 0x1101 0 3 data 0 true
  else
    let s := { s with flt := { s.flt with silent := true, silentAt := s.clk.now, halted := s.atLimit } }
    let s := (s.wr F.FLT_STATUS_LAST_FS_CAUSE cause).setRegN R.FLT_FS_DATA data
    let s := s.silenced.inc C.FLT_FAIL_SILENCES
    let s := s.raiseFull 0 0x1101 0 3 data 0 true
    if cause = 10 then s else s.beginBottling 1

-- transient and lasting faults (16, R671 to R673)

/-- A reaction of a lasting fault that QLB takes up at its next work, the more severe of two: 1 a controlled hand-over (13, R583), 2 one
followed by a warm restart, 3 fail-silence, which waits for a reaction that still runs (R673).
Conventions: log entry 25 (DEDUCED). -/
def State.askHandover (s : State) (react : Nat) : State := { s with flt := { s.flt with react := max s.flt.react react } }

/-- The role of the unit: 0 ACTIVE, 1 STANDBY, 2 SOLO, 3 DEGRADED as QLB_STATUS.ROLE codes it. -/
def State.role (s : State) : Nat := s.rd F.QLB_STATUS_ROLE

/-- The window of instance `i` of detector `k` at an event (R671): the new count and start, and whether the fault is lasting.
Conventions: log entry 23 (DEDUCED). -/
def windowStep (count windowMs : Nat) (w : Nat × Nat) (nowMs : Nat) : (Nat × Nat) × Bool :=
  let w := if w.1 = 0 ∨ (windowMs ≤ nowMs - w.2 ∧ windowMs ≠ 0) then (0, nowMs) else w
  let c := w.1 + 1
  if count ≠ 0 ∧ count ≤ c then ((0, w.2), true) else ((c, w.2), false)

/-- An event of instance `i` of detector `k`: counted in its window as transient, or lasting with its reaction (R671, R672). The
Boolean says that it was lasting. Conventions: log entry 23 (DEDUCED). -/
def State.detector (s : State) (k i : Nat) : State × Bool :=
  let key := k * 0x10000 + i
  let r := windowStep (s.rd (F.FLT_WIN_CFG_COUNT k)) (s.rd (F.FLT_WIN_CFG_WINDOW_MS k)) (sget (0, 0) s.flt.win key)
    (s.clk.now / 1000000)
  let s := { s with flt := { s.flt with win := sput (0, 0) key r.1 s.flt.win } }
  if r.2 then
    let s := s.incSat (F.FLT_WIN_STAT_LASTING k)
    let s := { s with flt := { s.flt with lasting := (s.flt.lasting + 1) % 2 ^ 32 } }
    let s := s.raiseMust 0x1102 (k * 256 + i % 256) 2 0 0
    let react := s.rd (F.FLT_WIN_CFG_REACT k)
    let s := if react = 3 then
        (if s.flt.reacting ∧ s.qlb.handover.isSome then { (s.askHandover 3) with flt := { (s.askHandover 3).flt with reactK := k } }
         else s.failSilent 8 k)
      else if react = 0 then s
      else s.askHandover react
    (s, true)
  else (s.incSat (F.FLT_WIN_STAT_TRANSIENTS k), false)

/-- An event of a detector where its lasting fault has no further effect on the reporter. Conventions: log entry 23 (DEDUCED). -/
def State.detect (s : State) (k i : Nat) : State := (s.detector k i).1

/-- An uncorrectable ECC error whose reaction is fail-silence (16, Table 16-2, cause 4). Conventions: log entry 23 (DEDUCED). -/
def State.eccFatal (s : State) (block word : Nat) : State :=
  (s.inc C.FLT_ECC_UNCORR).failSilent 4 (block * 2 ^ 24 + word % 2 ^ 24)

end Sys2Proof.Machine
end

