-- ==== Sys2Proof/Machine/Gates.lean ====
section
/-! DEFINITION. Gate control lists (08, R328 to R343): starting, running, changing and stopping a list, the gates in force at an
instant of working time, and the open windows. Instants are WT in whole ns. -/

namespace Sys2Proof.Machine

/-- Header fields of Table 8-1. -/
def hdrBase (w : List Word) : Int :=
  (((bits (nth 0 w 2).toNat 0 16 * 2 ^ 32 + (nth 0 w 1).toNat) * 1000000000 + bits (nth 0 w 0).toNat 0 30 : Nat) : Int)
def hdrInit (w : List Word) : Nat := bits (nth 0 w 2).toNat 16 8
def hdrValid (w : List Word) : Bool := (nth 0 w 2).toNat.testBit 31
def hdrCycle (w : List Word) : Nat := (nth 0 w 3).toNat
def hdrExt (w : List Word) : Nat := (nth 0 w 4).toNat
def hdrFirst (w : List Word) : Nat := bits (nth 0 w 5).toNat 0 12
def hdrLength (w : List Word) : Nat := bits (nth 0 w 5).toNat 12 13

/-- Whether a header commit is rejected (R328). -/
def hdrRejected (w : List Word) : Bool :=
  decide (4096 < hdrFirst w + hdrLength w) || decide (999999999 < bits (nth 0 w 0).toNat 0 30) ||
    decide (bits (nth 0 w 0).toNat 30 2 ≠ 0) || decide (bits (nth 0 w 2).toNat 24 7 ≠ 0) ||
    decide (bits (nth 0 w 5).toNat 25 7 ≠ 0)

/-- Interval and gates of entry `pos` of a list (Table 8-2). -/
def State.gateEntry (s : State) (w : List Word) (pos : Nat) : Nat × Nat :=
  (s.tw 6 (256 + hdrFirst w + pos) 0, bits (s.tw 6 (256 + hdrFirst w + pos) 1) 0 8)

/-- The entries of a list, in order: interval and gates. -/
def State.gateEntries (s : State) (w : List Word) : List (Nat × Nat) := (List.range (hdrLength w)).map (s.gateEntry w)

/-- The cycle time of a list: CYCLE_NS, or the sum of the intervals (R331). -/
def State.cycleTime (s : State) (w : List Word) : Nat :=
  if hdrCycle w ≠ 0 then hdrCycle w else (s.gateEntries w).foldl (fun n e => n + e.1) 0

/-- Whether a list holds every gate open whatever the instant (R330). -/
def State.alwaysOpen (s : State) (w : List Word) : Bool := (s.gateEntries w).all (fun e => e.1 == 0)

/-- The earliest instant base + k × C, k ≥ 0, that lies at `t` or later; the later of the two when C is 0 (R333, R334). -/
def firstAt (base : Int) (c : Nat) (t : Int) : Int :=
  if t ≤ base then base
  else if c = 0 then t
  else base + ((t - base + c - 1) / c) * c

/-- The first entry with an interval other than 0 from position `pos` on. -/
def State.entryFrom (s : State) (w : List Word) (pos : Nat) : Nat → Option Nat
  | 0 => none
  | n + 1 => if (s.gateEntry w pos).1 ≠ 0 then some pos else s.entryFrom w (pos + 1) n

/-- Gates in force of a list, unshifted (R330, R333). -/
def gatesOf (l : GList) : Nat :=
  if ¬ l.running then 0xFF
  else if l.init then hdrInit l.words
  else match l.entry with
    | [] => 0xFF
    | e => bits (nth 0 e 1).toNat 0 8

/-- The end of the cycle in force: the change instant where the cycle start before it does not take place (R335). -/
def cycleEnd (l : GList) : Int :=
  let e := l.cycStart + l.cyc
  match l.pending with
  | some _ => if e < l.changeT ∧ l.changeT ≤ e + l.cyc ∧ l.changeT - e < hdrExt l.words then l.changeT else e
  | none => e

/-- The list with its next event set: the end of the entry in force when another entry follows in the cycle, or the cycle end. -/
def State.setNext (s : State) (l : GList) : GList :=
  let ce := cycleEnd l
  let ee := l.entryStart + (nth 0 l.entry 0).toNat
  let more := s.entryFrom l.words (l.pos + 1) (hdrLength l.words - (l.pos + 1))
  { l with next := some (if more.isSome ∧ ee < ce then ee else ce) }

/-- Entry `pos` comes into force at `t`, its words read then (R338). -/
def State.enterEntry (s : State) (l : GList) (pos : Nat) (t : Int) : GList :=
  let l := { l with pos := pos, entryStart := t, entry := s.entry 6 (256 + hdrFirst l.words + pos) }
  s.setNext l

/-- A cycle starts at `t`. With no interval the gates are open until the next cycle start, and with a cycle time of 0 from then on
(R330, R333, R338). -/
def State.startCycle (s : State) (l : GList) (t : Int) : GList :=
  let l := { l with init := false, cycStart := t, was := gatesOf l }
  match s.entryFrom l.words 0 (hdrLength l.words) with
  | none =>
    let l := { l with entry := [], pos := 0, entryStart := t }
    { l with next := if l.cyc = 0 then none else some (cycleEnd l) }
  | some p => s.enterEntry l p t

/-- An entry of a cycle that runs gives way at `t` to the next with an interval, or stands until the cycle end (R331). -/
def State.nextEntry (s : State) (l : GList) (t : Int) : GList :=
  match s.entryFrom l.words (l.pos + 1) (hdrLength l.words - (l.pos + 1)) with
  | some p => s.enterEntry { l with was := gatesOf l } p t
  | none => { l with next := some (cycleEnd l) }

/-- The durations and gates of one cycle, cut or stretched to the cycle time (R331). -/
def cycleSegs : List (Nat × Nat) → Nat → List (Nat × Nat)
  | [], _ => []
  | [(_, g)], left => [(left, g)]
  | (i, g) :: r, left => if left ≤ i then [(left, g)] else (i, g) :: cycleSegs r (left - i)

/-- The longest run of segments with a class open, over segments laid out twice so that a run across the cycle end joins. -/
def longestOpen (cls : Nat) : List (Nat × Nat) → Nat → Nat → Nat
  | [], run, best => max run best
  | (d, g) :: r, run, best => if g.testBit cls then longestOpen cls r (run + d) best else longestOpen cls r 0 (max run best)

/-- MAXWIN of every class of a list (R343): none is unbounded. -/
def State.maxWindows (s : State) (w : List Word) (c : Nat) : List (Option Nat) :=
  let es := (s.gateEntries w).filter (fun e => decide (e.1 ≠ 0))
  let segs := cycleSegs es c
  (List.range 8).map (fun cls =>
    if segs.all (fun e => e.2.testBit cls) then none else some (longestOpen cls (segs ++ segs) 0 0))

/-- Whether a list is named by a port gate or a stream gate that is enabled (R329). -/
def State.listNamed (s : State) (n : Nat) : Bool :=
  (List.range 24).any (fun p => s.on (F.EGS_P_GATE_EN p) && decide (s.rd (F.EGS_P_GATE_LIST p) = n)) ||
    (List.range 32).any (fun g => s.on (F.SCT_SG_CTRL_EN g) && decide (s.rd (F.SCT_SG_CTRL_LIST g) = n))

/-- A list starts to run: INIT_GATES, and the first cycle at least 1 µs later (R333). -/
def State.startList (s : State) (n : Nat) : State :=
  let w := s.entry 6 n
  let c := s.cycleTime w
  s.setGlist n
    { running := true, init := true, words := w, pending := none, changeT := 0, cyc := c, cycNew := 0, cycStart := 0, pos := 0,
      entry := [], entryStart := 0, was := 0xFF, next := some (firstAt (hdrBase w) c (s.wtNs + 1000)), maxwin := s.maxWindows w c }

/-- A list takes up or stops its run after a change of its users or of its header (R329, R337). -/
def State.refreshList (s : State) (n : Nat) : State :=
  let run := hdrValid (s.entry 6 n) && s.listNamed n
  let l := s.glist n
  if run ∧ ¬ l.running then s.startList n
  else if ¬ run ∧ l.running then s.setGlist n glist0
  else s

/-- A pending change takes effect at its instant (R334, R336): the new header and cycle time, and its first cycle. -/
def State.changeList (s : State) (l : GList) : GList :=
  match l.pending with
  | none => l
  | some w =>
    let l := { l with words := w, pending := none, cyc := l.cycNew, cycNew := 0, init := false,
                      maxwin := s.maxWindows w l.cycNew }
    s.startCycle l l.changeT

/-- The earliest coming event of a list: a cycle start, an entry end or its change instant. -/
def nextEvent (l : GList) : Option Int :=
  match l.next, l.pending with
  | some t, some _ => some (min t l.changeT)
  | some t, none => some t
  | none, some _ => some l.changeT
  | none, none => none

/-- The list after its event at `t`. -/
def State.advanceList (s : State) (l : GList) (t : Int) : GList :=
  if l.pending.isSome ∧ t = l.changeT then s.changeList l
  else if l.init then s.startCycle l t
  else if t = cycleEnd l then s.startCycle l t
  else s.nextEntry l t

/-- The list as it will stand at instant `t` (R341, R352): its events up to `t` have happened. -/
def State.listAt (s : State) (t : Int) : Nat → GList → GList
  | 0, l => l
  | n + 1, l =>
    match nextEvent l with
    | some e => if e ≤ t then s.listAt t n (s.advanceList l e) else l
    | none => l

/-- The first instant after `l` at which class `cls` is closed, looking no further than `limit` (R341). -/
def State.closesAt (s : State) (cls : Nat) (limit : Int) : Nat → GList → Option Int
  | 0, _ => none
  | n + 1, l =>
    match nextEvent l with
    | none => none
    | some e =>
      if limit < e then none
      else
        let l' := s.advanceList l e
        if (gatesOf l').testBit cls then s.closesAt cls limit n l' else some e

/-- Enough events for one cycle of any list and a change. -/
def gateFuel : Nat := 8300

/-- The next event set again, where a cycle runs. -/
def State.setNextOf (s : State) (l : GList) : GList :=
  if l.entry ≠ [] then s.setNext l else if l.running ∧ ¬ l.init ∧ l.cyc ≠ 0 then { l with next := some (cycleEnd l) } else l

/-- A commit to an entry of a running list (R338): an entry that follows in the cycle is used from its turn on; where the entry in force
has had its interval, it stands until the cycle end. -/
def State.entryCommitted (s : State) (l : GList) : GList :=
  if l.running ∧ ¬ l.init ∧ l.entry ≠ [] ∧ s.wtNs < l.entryStart + (nth 0 l.entry 0).toNat then s.setNext l else l

/-- After a WT step: the cycle and entry that hold the new WT (R339), and whether a passed change took effect. -/
def State.relocate (s : State) (l : GList) : GList × Bool :=
  let t := s.wtNs
  let r : GList × Bool :=
    match l.pending with
    | some w => if l.changeT ≤ t then
        ({ l with words := w, pending := none, cyc := l.cycNew, cycNew := 0, maxwin := s.maxWindows w l.cycNew }, true)
      else (l, false)
    | none => (l, false)
  let l := r.1
  let b := hdrBase l.words
  if t < b then ({ l with init := true, entry := [], next := some b }, r.2)
  else if l.cyc = 0 then (s.startCycle l (max b t), r.2)
  else
    let start := b + ((t - b) / l.cyc) * l.cyc
    let l0 := s.startCycle { l with pending := none } start
    let l1 := s.listAt t gateFuel l0
    (s.setNextOf { l1 with pending := l.pending, changeT := l.changeT, cycNew := l.cycNew }, r.2)

end Sys2Proof.Machine
end

