-- ==== Sys2Proof/Machine/Clock.lean ====
section
/-! DEFINITION. The clocks of 03 as values: domain clocks, residuals, stamps in the formats of R18, and the stamp queues. -/

namespace Sys2Proof.Machine

/-- 1 ns in clock units. -/
def nsUnit : Int := 2 ^ 39

/-- Domain clock `n`. -/
def State.dc (s : State) (n : Nat) : Int := if n = 0 then s.clk.dc0 else s.clk.dc1

def State.setDc (s : State) (n : Nat) (v : Int) : State :=
  if n = 0 then { s with clk := { s.clk with dc0 := v } } else { s with clk := { s.clk with dc1 := v } }

def State.setWt (s : State) (v : Int) : State := { s with clk := { s.clk with wt := v } }

/-- RATE of a domain clock, signed (R81). -/
def State.dcRate (s : State) (n : Nat) : Int := sgn 32 (s.rd (F.TSU_DC_RATE_RATE n))

/-- What domain clock `n` gains in one TIME cycle of 4 ns (R81). -/
def State.dcGain (s : State) (n : Nat) : Int := 2 ^ 41 + s.dcRate n

/-- The instant of the last Sync of the domain number that a domain clock names (R84). -/
def State.lastSync (s : State) (n : Nat) : Option Nat :=
  match sget 0 s.clk.syncAt (s.rd (F.TSU_DC_CTRL_DOMAIN_NUMBER n)) with
  | 0 => none
  | t + 1 => some t

/-- The domain that WT follows or is to follow. -/
def State.wtSrc (s : State) : Nat := s.rd F.TSU_CTRL_WT_SRC

def State.usable (s : State) (n : Nat) : Bool := s.on (F.TSU_DC_CTRL_USABLE n)

/-- |WT − DCn| is at most TSU_WT_LIMIT; a LIMIT of 0 lets a residual of 1 ns proceed (R87). -/
def State.within (s : State) (n : Nat) : Bool :=
  decide ((s.clk.wt - s.dc n).natAbs ≤ max (s.rd F.TSU_WT_LIMIT_LIMIT) 1 * 2 ^ 39)

def State.autoHandover (s : State) : Bool := s.on F.TSU_CTRL_AUTO_HANDOVER

def State.setWtState (s : State) (st : Nat) : State := s.wr F.TSU_WT_STATUS_STATE st

/-- What WT gains in one TIME cycle in its state (R80, R89, R760, Table 3-2). -/
def State.wtGain (s : State) : Int :=
  match s.wtState with
  | 0 => 2 ^ 41
  | 1 => s.dcGain s.wtSrc
  | 2 => s.dcGain s.wtSrc + (2 ^ 41 * s.clk.slewOff) / 1000000000000
  | _ => s.clk.holdRate

/-- The clock that TS_CLOCK or PLS CLOCK names: 0 WT, 1 LC, 2 DC0, 3 DC1. -/
def State.clockOf (s : State) (n : Nat) : Int :=
  match n with
  | 0 => s.clk.wt
  | 1 => s.clk.lc
  | 2 => s.clk.dc0
  | _ => s.clk.dc1

/-- Whole ns of a clock value within its second. -/
def subNs (x : Int) : Nat := ((x / nsUnit) % 1000000000).toNat

/-- Whole seconds of a clock value. -/
def secOf (x : Int) : Nat := ((x / nsUnit) / 1000000000).toNat

/-- Fraction of a ns of a clock value in 1/16 ns. -/
def frac16 (x : Int) : Nat := ((x / 2 ^ 35) % 16).toNat

/-- Fraction of a ns of a clock value in 2^-16 ns. -/
def frac65536 (x : Int) : Nat := ((x / 2 ^ 23) % 65536).toNat

/-- The LC value counts TIME cycles of 4 ns: ENG_MTIME (15, R641). -/
def State.mtime (s : State) : Nat := (s.clk.lc / 2 ^ 41).toNat

/-- LC in whole µs (06, R254). -/
def State.lcUs (s : State) : Nat := (s.clk.lc / (nsUnit * 1000)).toNat

/-- LC in whole ns. -/
def State.lcNs (s : State) : Int := s.clk.lc / nsUnit

/-- The instant of sample index `k` in clock units: k / 48 000 s. -/
def strobeInstant (k : Nat) : Int := ((k : Int) * 1000000000 * nsUnit) / 48000

/-- The first sample index whose instant lies at least 100 µs after a WT value (R135, R761). Conventions: log entry 28 (DEDUCED). -/
def firstStrobe (wt : Int) : Nat :=
  let t := wt + 100000 * nsUnit
  ((t * 48000 + (1000000000 * nsUnit - 1)) / (1000000000 * nsUnit)).toNat

/-- Resolution of the stamper of a port in 1/16 ns (Table 3-4). -/
def stampStep (p : Nat) : Int := if p < 12 then 4 else 16

/-- A stamp of a port: the clock at the event, `phase` sixteenths of a ns and the latency `lat` later, at the port's resolution
(R98, R101; Table 3-6, FRAC). -/
def portStamp (p : Nat) (clock : Int) (phase : Nat) (lat : Int) : Int :=
  (clock / 2 ^ 35 + phase + lat) / stampStep p * stampStep p * 2 ^ 35

/-- A received stamp: raw − RX_LAT (R101). Conventions: log entry 29 (DEDUCED). -/
def State.rxStamp (s : State) (p : Nat) (clock : Int) (phase : Nat) : Int :=
  portStamp p clock phase (-(s.rd (F.TSU_P_RX_LAT_LAT p) : Int))

/-- A transmitted stamp: raw + TX_LAT (R101). Conventions: log entry 29 (DEDUCED). -/
def State.txStamp (s : State) (p : Nat) (clock : Int) (phase : Nat) : Int :=
  portStamp p clock phase (s.rd (F.TSU_P_TX_LAT_LAT p))

/-- A stamp-queue entry (Table 3-6), VALID and GAP set when it is recorded. -/
def stampEntry (kind msgType seqId domain tagWord : Nat) (t : Int) : List Word :=
  [BitVec.ofNat 32 (kind * 4 + frac16 t * 16 + msgType * 256 + seqId * 65536), BitVec.ofNat 32 (subNs t),
   BitVec.ofNat 32 (secOf t), BitVec.ofNat 32 (domain + tagWord * 65536)]

/-- A stamp for the ingress (`dir` 0) or egress (`dir` 1) queue of a port (R109 to R112). The Boolean says that it was lost.
Conventions: log entry 29 (DEDUCED). -/
def State.pushStamp (s : State) (p dir : Nat) (e : List Word) : State × Bool :=
  let h := if dir = 0 then sget hq0 s.iq p else sget hq0 s.eq p
  let r := hqPush 32 h e
  let s := if dir = 0 then { s with iq := sput hq0 p r.1 s.iq } else { s with eq := sput hq0 p r.1 s.eq }
  let s := if r.2.1 then s.inc (if dir = 0 then R.TSU_P_IQ_LOST p else R.TSU_P_EQ_LOST p) else s
  (if r.2.2 then s.raise 0x0306 (p + dir * 256) else s, r.2.1)

/-- A sample for the skew queue (R120, R122). -/
def State.pushSkew (s : State) (e : List Word) : State :=
  let r := hqPush 64 s.skew e
  let s := { s with skew := r.1 }
  let s := if r.2.1 then s.inc R.TSU_SKEW_LOST else s
  if r.2.2 then s.raise 0x0306 31 else s

/-- The speed code in kbit/s (04, SPEED); the reserved codes 6 and 7 run at 10 Mb/s, and a speed beyond the rates of a mode is taken as it
is (R756). Conventions: log entry 59 (DESIGN CHOICE). -/
def speedKbps (code : Nat) : Nat := nth 10000 [10000, 100000, 1000000, 2500000, 5000000, 10000000] code

/-- Time of `n` octets at a rate, in ns, rounded up. -/
def octetNs (n kbps : Nat) : Nat := (n * 8 * 1000000 + kbps - 1) / kbps

end Sys2Proof.Machine
end

