-- ==== Sys2Proof/Machine/AudMath.lean ====
section
/-! DEFINITION. The arithmetic of the audio crosspoint (09): gains, levels, the sine table, sample formats and ramps, as exact
integer arithmetic. -/

namespace Sys2Proof.Machine

/-- The greatest number below 2^`b` for which a monotone test holds, `x` holding the bits found so far. -/
def greatest (test : Nat → Bool) : Nat → Nat → Nat
  | 0, x => x
  | b + 1, x => if test (x + 2 ^ b) then greatest test b (x + 2 ^ b) else greatest test b x

/-- `num / den ≤ 10^(g / 320)`, raised to the 320th power. -/
def leTenth (num den : Nat) (g : Int) : Bool :=
  if 0 ≤ g then decide (num ^ 320 ≤ den ^ 320 * 10 ^ g.toNat) else decide (num ^ 320 * 10 ^ (-g).toNat ≤ den ^ 320)

/-- A gain as it acts: −32768 is mute, others between −1536 and +192 (R19, R20). -/
def clampGain (g : Int) : Int := clampI (-1536) 192 g

/-- The linear factor of a gain: round(2^22 × 10^(g / 320)) (R369). -/
def lin (g : Int) : Nat :=
  if g = -32768 then 0
  else if g = 0 then 4194304
  else (greatest (fun y => leTenth y (2 ^ 23) (clampGain g)) 26 0 + 1) / 2

/-- The activity level of THRESH (R374, Table 9-3). -/
def actLevel (th : Int) : Nat :=
  if 0 ≤ th then 2 ^ 31
  else if th < -4000 then 1
  else max 1 ((greatest (fun y => leTenth y (2 ^ 32) th) 33 0 + 1) / 2)

/-- π × 2^96. -/
def pi96 : Nat := 248902613312231085230521944622

/-- Terms of the sine series of `x` (in 2^-96) from term `k` on. -/
def sineTerms (x2 : Nat) : Nat → Nat → Int → Int
  | 0, _, _ => 0
  | n + 1, k, t => t + sineTerms x2 n (k + 1) (-(t * x2 / 2 ^ 96) / ((2 * k) * (2 * k + 1) : Nat))

/-- round((2^31 − 1) × sin(2πi / 4096)) for i from 0 to 1024. -/
def sineQuarter (i : Nat) : Int :=
  let x := i * pi96 / 2048
  let v := sineTerms (x * x / 2 ^ 96) 16 1 x
  ((2 ^ 31 - 1) * v * 2 + 2 ^ 96) / 2 ^ 97

/-- sine4096 (R401). -/
def sine4096 (i : Nat) : Int :=
  let r := i % 1024
  match i % 4096 / 1024 with
  | 0 => sineQuarter r
  | 1 => sineQuarter (1024 - r)
  | 2 => -(sineQuarter r)
  | _ => -(sineQuarter (1024 - r))

/-- The least `n` up to 1537 for which a monotone test holds. -/
def leastDb (test : Nat → Bool) : Nat := 2047 - greatest (fun x => test (2047 - x)) 11 0

/-- A level in 1/16 dBFS from its count of units below full scale (R414). -/
def levelReg (n : Nat) : Nat := unsgn 16 (-(min n 1536 : Nat))

/-- PEAK = round(320 × log10(m / 2^31)) (R414). -/
def peakReg (m : Nat) : Nat :=
  if m = 0 then 0x8000 else levelReg (leastDb (fun n => decide (2 ^ (31 * 640) ≤ m ^ 640 * 10 ^ (2 * n + 1))))

/-- RMS = round(160 × log10(sum / n / 2^62)) (R414). -/
def rmsReg (sum n : Nat) : Nat :=
  if sum = 0 then 0x8000
  else levelReg (leastDb (fun k => decide ((n * 2 ^ 62) ^ 320 ≤ sum ^ 320 * 10 ^ (2 * k + 1))))

/-- sat32. -/
def sat32 (x : Int) : Int := clampI (-(2 ^ 31)) (2 ^ 31 - 1) x

/-- Sample width in bits of a BITS code: 3 is reserved and acts as 0 (Table 9-9). -/
def widthOf (code : Nat) : Nat :=
  match code with
  | 1 => 24
  | 2 => 32
  | _ => 16

/-- AAF format code of a BITS code. -/
def formatOf (code : Nat) : Nat :=
  match code with
  | 1 => 0x03
  | 2 => 0x02
  | _ => 0x04

/-- An input of `w` bits as an internal sample (R366). -/
def sampleIn (w v : Nat) : Int := sgn 32 ((v % 2 ^ w) * 2 ^ (32 - w))

/-- An internal sample as an output of `w` bits (R366). -/
def sampleOut (w : Nat) (v : Int) : Nat :=
  if w = 32 then unsgn 32 v
  else unsgn w (clampI (-(2 ^ (w - 1) : Nat)) ((2 ^ (w - 1) : Nat) - 1) ((v + (2 ^ (31 - w) : Nat)) / (2 ^ (32 - w) : Nat)))

/-- A slot word of a TDM input as a sample of `w` bits: the first `w` bits on the line, MSB first (R366, R397). -/
def slotIn (w : Nat) (v : Word) : Int := sampleIn w (v.toNat / 2 ^ (32 - w))

/-- The instant of index k in ns (09, The sample grid). -/
def instantOf (k : Int) : Int := k * 125000 / 6

/-- Value of a ramp at its present sample (R372). -/
def rampNow (r : Ramp) : Int := if r.n < r.len then r.a + (r.b - r.a) * r.n / r.len else r.b

/-- A ramp at rest. -/
def rampAt (v : Int) : Ramp := ⟨v, v, 0, 0⟩

/-- A ramp after one sample. -/
def rampNext (r : Ramp) : Ramp := if r.n + 1 < r.len then { r with n := r.n + 1 } else rampAt r.b

/-- A ramp after `k` samples. -/
def rampSkip (r : Ramp) (k : Nat) : Ramp := if r.n + k < r.len then { r with n := r.n + k } else rampAt r.b

/-- A new target over `len` samples, from the present value (R372). -/
def rampTo (r : Ramp) (b : Int) (len : Nat) : Ramp := if len = 0 then rampAt b else ⟨rampNow r, b, len, 0⟩

/-- The contribution of a voice at `n` samples after its start (R401). -/
def voiceValue (v : Voice) (n : Int) : Int :=
  if n < 0 ∨ (v.duration : Int) ≤ n then 0
  else
    let k := n.toNat
    let a := if v.sustain then lin (sgn 16 v.level) else lin (sgn 16 v.level) * (v.duration - k) / v.duration
    (sine4096 ((v.inc * k) % 2 ^ 32 / 2 ^ 20) * a) / 2 ^ 22

/-- The value of a generator at index `j` (R401). -/
def genValue (g : ToneGen) (j : Nat) : Int :=
  match g.trigger with
  | none => 0
  | some e => sat32 (g.voices.foldl (fun x v => x + voiceValue v ((j : Int) - e - v.start)) 0)

end Sys2Proof.Machine
end

