-- ==== Sys2Proof/Machine/EgsBase.lean ====
section
/-! DEFINITION. What the egress side of a port says to admission and selection: rates, effective lengths, windows and the
never-fits test (08, R340 to R348). -/

namespace Sys2Proof.Machine

/-- A block hands a frame to an internal port; a tag that an egress port inserts takes the TPID of now (04, R144, R169). -/
def State.feed (s : State) (p : Nat) (f : RxFrame) : State :=
  s.modPort p (fun m => { m with inq := m.inq ++ [{ f with stpid := s.rd F.MAC_S_TPID_TPID }] })

def State.linkUp (s : State) (p : Nat) : Bool := s.on (F.MAC_STATUS_LINK_UP p)

/-- The rate of a port in kbit/s: its speed in use, its last line rate while its link is down, or what SPEED codes when the link
has not been up (R150, R340); internal ports run at 10 Gb/s (04, Table 4-1). -/
def State.portKbps (s : State) (p : Nat) : Nat :=
  if 24 ≤ p then 10000000
  else if s.linkUp p then speedKbps (s.rd (F.MAC_STATUS_SPEED_ACT p))
  else if (s.port p).everUp then speedKbps (s.port p).lastSpeed
  else speedKbps (s.rd (F.MAC_CTRL_SPEED p))

/-- MAX_FRAME of a port in force (04, R163); 9216 on the internal ports (R144). -/
def State.maxFrame (s : State) (p : Nat) : Nat :=
  if 24 ≤ p then 9216
  else
    let m := s.rd (F.MAC_MAXFRAME_MAX_FRAME p)
    if m < 64 then 1522 else min m (if 16 ≤ p then 1522 else 9216)

def State.member (s : State) (vid p : Nat) : Bool := (s.tw 1 vid 0).testBit p

/-- The TPID of the tag that a port inserts, where the TPID of S-ports is `stpid` (04, R165, R168, R169). -/
def State.tagTpid (s : State) (p stpid : Nat) : Nat := if s.rd (F.MAC_TAG_PORT_TYPE p) = 1 then stpid else 0x8100

/-- The egress MAC inserts the port tag: a tagged member of the VLAN on a port that is not transparent (04, R168; 05, R197); with a TPID
of 0 no frame carries an S-port tag (Table 4-9). -/
def State.tagsOut (s : State) (p vid : Nat) (stpid : Nat := s.rd F.MAC_S_TPID_TPID) : Bool :=
  decide (p < 24) && s.member vid p && !(s.tw 1 vid 1).testBit p && decide (s.rd (F.MAC_TAG_PORT_TYPE p) ≠ 2) &&
    decide (s.tagTpid p stpid ≠ 0)

/-- MACsec transmit is enabled on a port. -/
def State.msTx (s : State) (p : Nat) : Bool := decide (p < 16) && s.on (F.CPH_MS_CTRL_TX_EN p)

/-- Octets of SecTAG and ICV that transmit protection adds (12, MACsec). -/
def State.msOverhead (s : State) (p : Nat) : Nat :=
  if s.msTx p then (if s.on (F.CPH_MS_CTRL_INCLUDE_SCI p) then 32 else 24) else 0

/-- Effective length E of a copy whose buffer length is `len` (R340). -/
def State.effLen (s : State) (p vid len : Nat) : Nat := len + (if s.tagsOut p vid then 4 else 0) + s.msOverhead p

/-- Wire time W in ns of a copy on a port: 8 + E octets, and T1S_WAIT on P16 to P23 (R340, R361). -/
def State.wireNs (s : State) (p vid len : Nat) : Nat :=
  octetNs (8 + s.effLen p vid len) (s.portKbps p) + (if 16 ≤ p ∧ p < 24 then s.rd (F.EGS_P_T1S_WAIT_WAIT p) else 0)

/-- The class maximum SDU of queue `q` (R347). -/
def State.classMaxSdu (s : State) (q : Nat) : Nat :=
  let m := s.rd (F.EGS_Q_BURST_MAX_SDU q)
  if m = 0 then s.maxFrame (q / 8) else m

/-- Preemption has started on a port (04, R182; R348). -/
def State.preemptOn (s : State) (p : Nat) : Bool :=
  decide (p < 16) && (s.rd (F.MAC_STATUS_VERIFY_STATE p) == 2 || s.rd (F.MAC_STATUS_VERIFY_STATE p) == 4)

/-- A class is preemptable (R348, R361). -/
def State.preemptable (s : State) (p t : Nat) : Bool := s.preemptOn p && (s.rd (F.EGS_P_PREEMPT_PMASK p)).testBit t

/-- The shortest window in which a preemptable frame may start, in ns (R342). -/
def State.minFragNs (s : State) (p : Nat) : Nat :=
  octetNs (8 + 64 * (1 + s.rd (F.MAC_CTRL_ADD_FRAG p)) + 64) (s.portKbps p)

/-- The list that gates a port, when the port's gates are enabled and the list runs (R329, R330). -/
def State.portList (s : State) (p : Nat) : Option GList :=
  if p < 24 ∧ s.on (F.EGS_P_GATE_EN p) then
    let l := s.glist (s.rd (F.EGS_P_GATE_LIST p))
    if l.running then some l else none
  else none

/-- LEAD in the schedule in force: a sample shifts it only once the window it came from has ended (R356). -/
def State.leadInForce (s : State) (p : Nat) : Nat :=
  match (s.port p).leadFrom with
  | some t => if s.wtNs < t then (s.port p).leadOld else s.rd (F.EGS_P_LEAD_LEAD p)
  | none => s.rd (F.EGS_P_LEAD_LEAD p)

/-- The shift of a port's schedule in ns: LEAD rounded to whole cycles of 2 ns, halves up (R356); none on P16 to P23 (R361). -/
def State.leadNs (s : State) (p : Nat) : Int :=
  if p < 16 then (((s.leadInForce p + 16) / 32 * 2 : Nat) : Int) else 0

/-- A port's list as its shifted schedule reads it at an instant of WT (R352). -/
def State.shiftedAt (s : State) (p : Nat) (t : Int) : Option GList :=
  (s.portList p).map (fun l => s.listAt (t + s.leadNs p) gateFuel l)

/-- Gates of a port in its shifted schedule now (EGS_PnGSTATE). -/
def State.portGates (s : State) (p : Nat) : Nat :=
  match s.shiftedAt p s.wtNs with
  | some l => gatesOf l
  | none => 0xFF

/-- The remaining window R of a class of a port at an instant, in ns; none is unbounded (R341). -/
def State.window (s : State) (p cls : Nat) (t : Int) : Option Int :=
  match s.shiftedAt p t with
  | none => none
  | some l =>
    let u := t + s.leadNs p
    if ¬ (gatesOf l).testBit cls then some 0
    else
      let base : Int := match l.pending with
        | some _ => max u l.changeT + ((max l.cyc l.cycNew : Nat) : Int)
        | none => u
      let limit : Int := base + l.cyc
      (s.closesAt cls limit gateFuel l).map (fun e => e - u)

/-- MAXWIN of a class of a port (R343); none is unbounded. -/
def State.maxWin (s : State) (p cls : Nat) : Option Nat :=
  match s.portList p with
  | none => none
  | some l => nth none l.maxwin cls

/-- A copy of `len` octets never fits on a port (R344). -/
def State.neverFits (s : State) (p cls vid len : Nat) : Bool :=
  match s.maxWin p cls with
  | none => false
  | some m => if s.preemptable p cls then decide (m < s.minFragNs p) else decide (m < s.wireNs p vid len)

/-- Event 0x0804 at a never-fits copy (R345). -/
def State.raiseNeverFits (s : State) (q : Nat) (sc : Option Nat) : State :=
  if s.on ⟨R.EGS_EVENT, 3, 1⟩ then s
  else s.raise 0x0804 (q + (match sc with | some h => 2 ^ 25 + h * 2 ^ 16 | none => 0))

end Sys2Proof.Machine
end

