-- ==== Sys2Proof/Machine/Fwd.lean ====
section
/-! DEFINITION. Ingress and forwarding (05): the MAC table and its stash, learning, ageing, migration and flush, the TCAM, IP
forwarding, and the decision. -/

namespace Sys2Proof.Machine

-- the MAC table (R199 to R205)

/-- A MAC-table slot by its index: way × 16384 + bucket × 4 + slot, and 32768 + i for stash entry i. -/
def State.macWord (s : State) (i k : Nat) : Nat := s.tw 2 i k

def macKey (w : List Word) : Nat × Nat :=
  (bits (nth 0 w 1).toNat 16 6, bits (nth 0 w 1).toNat 0 16 * 2 ^ 32 + (nth 0 w 0).toNat)
def macValid (w : List Word) : Bool := (nth 0 w 1).toNat.testBit 22
def macStatic (w : List Word) : Bool := (nth 0 w 1).toNat.testBit 23
def macMcast (w : List Word) : Bool := (nth 0 w 1).toNat.testBit 24
def macRouter (w : List Word) : Bool := (nth 0 w 1).toNat.testBit 25
def macDrop (w : List Word) : Bool := (nth 0 w 1).toNat.testBit 26
def macSet (w : List Word) : Nat := bits (nth 0 w 1).toNat 27 1
def macAge (w : List Word) : Nat := bits (nth 0 w 1).toNat 28 2
def macDest (w : List Word) : Nat := bits (nth 0 w 2).toNat 0 28

/-- Word 1 of an entry with a field changed. -/
def macWith (w : List Word) (lo n v : Nat) : List Word :=
  [nth 0 w 0, BitVec.ofNat 32 (insertField (nth 0 w 1).toNat lo n v), nth 0 w 2, nth 0 w 3]

/-- The bucket of a key under a seed (R199). -/
def macBucket (seed fid mac : Nat) : Nat := crcReg seed (BitVec.ofNat 8 (fid % 64) :: beBytes 6 mac) % 4096

def State.seedCur (s : State) (w : Nat) : Nat := s.regN (if w = 0 then R.FWD_SEED_CUR0 else R.FWD_SEED_CUR1)
def State.seedNext (s : State) (w : Nat) : Nat := s.regN (if w = 0 then R.FWD_SEED_NEXT0 else R.FWD_SEED_NEXT1)
def State.migState (s : State) : Nat := s.rd F.FWD_MIGRATE_STATE

/-- The seed of way `w` in seed set `set`: the current set has the number `curSet`. -/
def State.seedOf (s : State) (set w : Nat) : Nat := if set = s.fwd.curSet then s.seedCur w else s.seedNext w

/-- The seed set of new insertions (R207). -/
def State.insertSet (s : State) : Nat := if s.migState = 0 then s.fwd.curSet else 1 - s.fwd.curSet

/-- The four slots of a key's bucket in a way. -/
def State.bucketSlots (s : State) (set w fid mac : Nat) : List Nat :=
  (List.range 4).map (fun i => w * 16384 + macBucket (s.seedOf set w) fid mac * 4 + i)

def stashSlots : List Nat := (List.range 8).map (fun i => 32768 + i)

/-- The slots that a lookup of a key reads (R200, R207). -/
def State.lookupSlots (s : State) (fid mac : Nat) : List Nat :=
  let c := s.fwd.curSet
  s.bucketSlots c 0 fid mac ++ s.bucketSlots c 1 fid mac ++
    (if s.migState = 0 then [] else s.bucketSlots (1 - c) 0 fid mac ++ s.bucketSlots (1 - c) 1 fid mac) ++ stashSlots

/-- The slot that holds a key (R200). -/
def State.macFind (s : State) (fid mac : Nat) : Option Nat :=
  (s.lookupSlots fid mac).find? (fun i => macValid (s.entry 2 i) && decide (macKey (s.entry 2 i) = (fid, mac)))

/-- The first free slot among some. -/
def State.freeSlot (s : State) (l : List Nat) : Option Nat := l.find? (fun i => !macValid (s.entry 2 i))

/-- The alternate bucket of the entry in a table slot: that of the other way, under the seed set that placed it (R203). -/
def State.alternate (s : State) (i : Nat) : List Nat :=
  let w := s.entry 2 i
  s.bucketSlots (macSet w) (1 - i / 16384) (macKey w).1 (macKey w).2

/-- One level of the breadth-first search: the first path whose last entry has a free alternate slot, or the next level. A path
holds its slots, last first. -/
def State.searchLevel (s : State) : List (List Nat) → List Nat → List (List Nat) → Sum (Nat × List Nat) (List (List Nat) × List Nat)
  | [], seen, acc => .inr (acc.reverse, seen)
  | path :: r, seen, acc =>
    let alt := s.alternate (nth 0 path 0)
    match s.freeSlot alt with
    | some f => .inl (f, path)
    | none =>
      let fresh := alt.filter (fun i => !seen.contains i)
      s.searchLevel r (seen ++ fresh) ((fresh.map (fun i => i :: path)).reverse ++ acc)

/-- Breadth-first search for a path of at most `n` moves to a free slot (R203). Conventions: log entry 32 (DEDUCED). -/
def State.searchPath (s : State) : Nat → List (List Nat) → List Nat → Option (Nat × List Nat)
  | 0, _, _ => none
  | n + 1, level, seen =>
    match s.searchLevel level seen [] with
    | .inl r => some r
    | .inr (level', seen') => s.searchPath n level' seen'

/-- Moves from the free end of a path backwards (R203); the slot freed first on the path stays free. -/
def State.moveAlong (s : State) (free : Nat) : List Nat → State
  | [] => s
  | i :: r => ((s.setEntry 2 free (s.entry 2 i)).setEntry 2 i []).moveAlong i r

/-- The outcome of an insertion: OK or STASHED with its slot, or FULL (FWD_COMMIT_STATUS.RESULT). -/
inductive Placed where
  | ok (slot : Nat)
  | stashed (slot : Nat)
  | full
  deriving DecidableEq, Repr

/-- Place an entry whose key the table does not hold (R203). Conventions: log entry 32 (DEDUCED). -/
def State.place (s : State) (e : List Word) : State × Placed :=
  let set := s.insertSet
  let k := macKey e
  let e := macWith e 27 1 set
  let b0 := s.bucketSlots set 0 k.1 k.2
  let b1 := s.bucketSlots set 1 k.1 k.2
  match s.freeSlot (b0 ++ b1) with
  | some i => (s.setEntry 2 i e, .ok i)
  | none =>
    match s.searchPath 16 ((b0 ++ b1).map (fun i => [i])) (b0 ++ b1) with
    | some (f, path) =>
      let s := s.moveAlong f path
      let i := nth 0 path (path.length - 1)
      (s.setEntry 2 i e, .ok i)
    | none =>
      match s.freeSlot stashSlots with
      | some i =>
        let s := s.setEntry 2 i e
        let s := (s.setRegN R.FWD_REHASH_KEY_LO (k.2 % 2 ^ 32)).wr F.FWD_REHASH_KEY_HI_MAC_HI (k.2 / 2 ^ 32)
        let s := (s.wr F.FWD_REHASH_KEY_HI_FID k.1).inc C.FWD_STASHED
        (s.raise 0x0501 0, .stashed i)
      | none => (s.raise 0x0504 0, .full)

/-- Insertion by key (R203). -/
def State.macInsert (s : State) (e : List Word) : State × Placed :=
  let k := macKey e
  match s.macFind k.1 k.2 with
  | some i =>
    let h := s.entry 2 i
    if macStatic e ∨ ¬ macStatic h then (s.setEntry 2 i (macWith e 27 1 (macSet h)), .ok i) else (s, .ok i)
  | none => s.place e

/-- A staged entry as it is written: reserved bits 0, AGE 3, SET the hardware's (Table 5-3). -/
def macStaged (w : List Word) : List Word :=
  [nth 0 w 0, BitVec.ofNat 32 (insertField ((nth 0 w 1).toNat % 2 ^ 27) 28 2 3), BitVec.ofNat 32 ((nth 0 w 2).toNat % 2 ^ 28),
   BitVec.ofNat 32 ((nth 0 w 3).toNat % 2 ^ 24 &&& 0xFFF7FF)]

/-- Table slots that hold an entry, in order of slot. -/
def State.macSlots (s : State) : List Nat :=
  (s.tables.filter (fun e => decide (e.1 / 0x10000 = 2) && macValid e.2)).map (fun e => e.1 % 0x10000)

/-- Entries of the old seed set that are still in the table. -/
def State.oldEntries (s : State) : List Nat :=
  s.macSlots.filter (fun i => decide (i < 32768) && decide (macSet (s.entry 2 i) = s.fwd.curSet))

def State.setRemain (s : State) : State := s.wr F.FWD_MIGRATE_REMAIN (min s.oldEntries.length 0xFFFF)

/-- The next seeds become the current ones (R210). -/
def State.migrateDone (s : State) : State :=
  let s := (s.setRegN R.FWD_SEED_CUR0 (s.regN R.FWD_SEED_NEXT0)).setRegN R.FWD_SEED_CUR1 (s.regN R.FWD_SEED_NEXT1)
  let s := (s.wr F.FWD_MIGRATE_STATE 0).wr F.FWD_MIGRATE_REMAIN 0
  { s with fwd := { s.fwd with curSet := 1 - s.fwd.curSet, walk := 0 } }.raise 0x0502 0

/-- The slots other than `keep` that hold a key: a move of R203 may have carried the old copy of an entry to its alternate slot. -/
def State.otherCopies (s : State) (fid mac keep : Nat) : List Nat :=
  (s.lookupSlots fid mac).filter (fun i => decide (i ≠ keep) && macValid (s.entry 2 i) && decide (macKey (s.entry 2 i) = (fid, mac)))

/-- The old copy of an entry that has been placed in slot `i` is removed. -/
def State.dropOld (s : State) (e : List Word) (i : Nat) : State :=
  (s.otherCopies (macKey e).1 (macKey e).2 i).foldl (fun s j => s.setEntry 2 j []) s

/-- Move the entry of a slot under the next seeds; with `stash` false only into the table (R208). The Boolean says that it moved. -/
def State.rehash (s : State) (i : Nat) (stash : Bool) : State × Bool :=
  let e := s.entry 2 i
  let r := s.place e
  match r.2 with
  | .ok k => (r.1.dropOld e k, true)
  | .stashed k => if stash then (r.1.dropOld e k, true) else (s, false)
  | .full => (if stash then r.1 else s, false)

/-- The migration engine's visit of a table slot (R208, R209). Conventions: log entry 32 (DEDUCED). -/
def State.migrateSlot (s : State) (i : Nat) : State :=
  let e := s.entry 2 i
  if macValid e ∧ macSet e = s.fwd.curSet then
    let r := s.rehash i true
    if r.2 then r.1
    else if macStatic e then r.1
    else (r.1.setEntry 2 i []).inc C.FWD_MIGRATE_DROP
  else s

/-- Every stash entry retried under the next seeds (R208). -/
def State.retryStash (s : State) : State :=
  stashSlots.foldl (fun s i => if macValid (s.entry 2 i) then (s.rehash i false).1 else s) s

/-- The entry of a key retried by R203 where it is still in the old seed set. -/
def State.retryKey (s : State) (k : Nat × Nat) : State :=
  match s.oldEntries.find? (fun i => decide (macKey (s.entry 2 i) = k)) with
  | some i => (s.rehash i true).1
  | none => s

/-- In PARTIAL, the remaining entries retried after a deletion (R210). -/
def State.partialRetry (s : State) : State :=
  if s.migState = 2 then
    let s := ((s.oldEntries.map (fun i => macKey (s.entry 2 i))).foldl (fun s k => s.retryKey k) s).setRemain
    if s.oldEntries = [] then s.migrateDone else s
  else s

-- learning (R213 to R215)

/-- A learn request, or its loss when 64 wait (R215). Conventions: log entry 32 (DEDUCED). -/
def State.requestLearn (s : State) (fid mac port : Nat) : State :=
  if s.fwd.learnQ.length < 64 then { s with fwd := { s.fwd with learnQ := s.fwd.learnQ ++ [(fid, mac, port)] } }
  else (s.inc C.FWD_LEARN_OVF).raiseOnce 0x0506 0

/-- The entry that learning makes (R213). -/
def learned (fid mac port : Nat) : List Word :=
  [BitVec.ofNat 32 mac, BitVec.ofNat 32 (mac / 2 ^ 32 % 65536 + fid * 2 ^ 16 + 2 ^ 22 + 3 * 2 ^ 28), BitVec.ofNat 32 port, 0]

/-- An entry does not name a port: as its number, or in its mask with MCAST = 1 (R214). -/
def macElsewhere (e : List Word) (port : Nat) : Bool :=
  if macMcast e then !(macDest e).testBit port else decide (macDest e % 32 ≠ port)

/-- DEST that names one port in the form of an entry. -/
def macDestOf (e : List Word) (port : Nat) : Word := BitVec.ofNat 32 (if macMcast e then 2 ^ port else port)

/-- What the SA lookup does (R213, R214): none when the frame is dropped into SA_LOCKED. A frame that is to count in TRAP_DROP alone
(R194) counts nothing here. -/
def State.learnOrRefresh (s : State) (fid mac port : Nat) (mayLearn quiet : Bool) : Option State :=
  match s.macFind fid mac with
  | some i =>
    let e := s.entry 2 i
    let away := macElsewhere e port
    if macStatic e then some (if away ∧ ¬ quiet then s.inc C.FWD_SA_STATIC_CONFLICT else s)
    else if mayLearn then
      let fresh := macWith e 28 2 3
      let s := s.setEntry 2 i (if away then [nth 0 fresh 0, nth 0 fresh 1, macDestOf e port, nth 0 fresh 3] else fresh)
      some (if away ∧ ¬ quiet then s.inc C.FWD_MOVES else s)
    else some s
  | none =>
    if s.on (F.FWD_PORT_CTRL_LOCK port) then none
    else if mayLearn then some (s.requestLearn fid mac port)
    else some s

/-- Whether an entry names one port alone. -/
def macOnPort (port : Nat) (e : List Word) : Bool :=
  if macMcast e then decide (macDest e = 2 ^ port) else decide (macDest e % 32 = port)

/-- Whether a flush of the given scope takes an entry (R218): 0 all dynamic, 1 port, 2 FID, 3 port and FID.
Conventions: log entry 32 (DEDUCED). -/
def flushTakes (scope port fid : Nat) (e : List Word) : Bool :=
  macValid e && !macStatic e &&
    (match scope with
     | 0 => true
     | 1 => macOnPort port e
     | 2 => decide ((macKey e).1 = fid)
     | _ => macOnPort port e && decide ((macKey e).1 = fid))

/-- Dynamic entries of a scope removed from the table and the stash (R218, R211). -/
def State.flushMac (s : State) (scope port fid : Nat) : State :=
  let hit := s.macSlots.filter (fun i => flushTakes scope port fid (s.entry 2 i))
  let s := (hit.foldl (fun s i => s.setEntry 2 i []) s).add C.FWD_FLUSHED hit.length
  let s := s.wr F.FWD_FLUSH_BUSY 1
  if hit = [] then s else s.partialRetry

/-- STASH_USED, read live. -/
def State.stashUsed (s : State) : Nat := (s.macSlots.filter (fun i => decide (32768 ≤ i))).length

-- the TCAM (R221 to R226)

/-- A slice as the array holds it: key and care mask, 80 bits each, and the action; the array may differ from its shadow. -/
def State.slice (s : State) (i : Nat) : Nat × Nat × Nat :=
  let bad := sget 0 s.fwd.tcamBad i
  let k := s.tw 3 i 0 + s.tw 3 i 1 * 2 ^ 32 + (s.tw 3 i 2 % 65536) * 2 ^ 64
  let m := s.tw 3 i 3 + s.tw 3 i 4 * 2 ^ 32 + (s.tw 3 i 5 % 65536) * 2 ^ 64
  (k ^^^ (bad % 2 ^ 80), m ^^^ (bad / 2 ^ 80 % 2 ^ 80), s.tw 3 i 6)

/-- A slice matches a payload at a position whose KTYPE is `kt` (R221, R222). -/
def State.sliceMatch (s : State) (i kt payload : Nat) : Bool :=
  let x := s.slice i
  decide (x.1 / 2 ^ 76 = kt) && decide (((x.1 ^^^ payload) &&& x.2.1) % 2 ^ 76 = 0)

/-- An entry of consecutive slices matches the parts of a key. -/
def State.entryMatch (s : State) (i : Nat) : List (Nat × Nat) → Bool
  | [] => true
  | (kt, p) :: r => s.sliceMatch i kt p && s.entryMatch (i + 1) r

/-- The matching entry at the lowest index of a range of slices (R225). -/
def State.tcamFind (s : State) (lo hi : Nat) (key : List (Nat × Nat)) : Option Nat :=
  ((s.tables.filter (fun e => decide (e.1 / 0x10000 = 3))).map (fun e => e.1 % 0x10000)).find?
    (fun i => decide (lo ≤ i) && decide (i < hi) && decide (i % key.length = 0) && s.entryMatch i key)

def State.flowSlices (s : State) : Nat := min (s.rd F.FWD_TCAM_PART_FLOW_BANKS) 16 * 256

-- IP headers (R223, R231)

def isV4 (d : List Byte) : Bool := etOf d == 0x0800
def isV6 (d : List Byte) : Bool := etOf d == 0x86DD
def ihl (d : List Byte) : Nat := fld d 14 1 % 16

/-- Protocol, source and destination ports of the flow key of a frame (R223). -/
def flowPorts (d : List Byte) : Nat × Nat × Nat :=
  if isV4 d then
    let o := 14 + ihl d * 4
    let proto := fld d 23 1
    if (proto = 6 ∨ proto = 17) ∧ fld d 20 2 % 8192 = 0 then (proto, fld d o 2, fld d (o + 2) 2) else (proto, 0, 0)
  else
    let proto := fld d 20 1
    if proto = 6 ∨ proto = 17 then (proto, fld d 54 2, fld d 56 2) else (proto, 0, 0)

/-- The key that the flow partition is searched with, by slice (Table 5-5); none for a frame that is not IP. -/
def flowKey (d : List Byte) (vid port : Nat) : Option (List (Nat × Nat)) :=
  let x := flowPorts d
  if isV4 d then
    some [(4, x.1 * 2 ^ 64 + fld d 26 4 * 2 ^ 32 + fld d 30 4), (5, vid * 2 ^ 64 + port * 2 ^ 48 + x.2.1 * 2 ^ 16 + x.2.2)]
  else if isV6 d then
    some [(6, x.1 * 2 ^ 68 + (x.2.1 / 4096) * 2 ^ 64 + fld d 22 8), (7, (x.2.1 % 4096) * 2 ^ 64 + fld d 30 8),
          (8, (x.2.2 / 16) * 2 ^ 64 + fld d 38 8), (9, (x.2.2 % 16) * 2 ^ 72 + fld d 46 8)]
  else none

/-- The action word of the flow entry that a frame hits. -/
def State.flowLookup (s : State) (d : List Byte) (vid port : Nat) : Option Nat :=
  match flowKey d vid port with
  | none => none
  | some k => (s.tcamFind 0 s.flowSlices k).map (fun i => (s.slice i).2.2)

/-- What routing makes of a frame: dropped into a counter, trapped and counted, or rewritten with its VID and egress port. -/
inductive Routed where
  | drop (counter : Nat)
  | trap (counter : Nat)
  | go (data : List Byte) (vid port : Nat)
  deriving DecidableEq, Repr

/-- The first three exceptions of Table 5-8. -/
def State.routeCheck (s : State) (d : List Byte) : Option Routed :=
  if isV4 d then
    let n := ihl d
    let ok := decide (fld d 14 1 / 16 = 4) && decide (5 ≤ n) && decide (n * 4 ≤ fld d 16 2) &&
      decide (ocSum ((d.drop 14).take (n * 4)) = 65535)
    if ¬ ok then some (.drop C.FWD_IP_HDR_ERR)
    else if fld d 22 1 ≤ 1 then some (if s.on F.FWD_L3_CTRL_TTL_TRAP then .trap C.FWD_TTL_EXPIRED else .drop C.FWD_TTL_EXPIRED)
    else if fld d 30 4 = 0xFFFFFFFF ∨ fld d 30 1 / 16 = 14 then some (.trap C.FWD_L3_EXCEPTION)
    else none
  else
    if fld d 14 1 / 16 ≠ 6 then some (.drop C.FWD_IP_HDR_ERR)
    else if fld d 21 1 ≤ 1 then some (if s.on F.FWD_L3_CTRL_TTL_TRAP then .trap C.FWD_TTL_EXPIRED else .drop C.FWD_TTL_EXPIRED)
    else if fld d 38 1 = 0xFF ∨ fld d 38 2 / 64 = 0x3FA ∨ fld d 20 1 = 0 then some (.trap C.FWD_L3_EXCEPTION)
    else none

/-- The prefix swap and the checksum fixes of R234 and R235. -/
def prefixSwap (d : List Byte) (len : Nat) (dst : Bool) (value : Nat) : List Byte :=
  let n := min len 32
  let o := if dst then 30 else 26
  let a := fld d o 4
  let mask := (2 ^ 32 - 1) - (2 ^ (32 - n) - 1)
  let a2 := (a &&& (2 ^ 32 - 1 - mask)) ||| (value &&& mask)
  let up (ck : Nat) : Nat := ocUpdate (ocUpdate ck (a / 65536) (a2 / 65536)) (a % 65536) (a2 % 65536)
  let proto := fld d 23 1
  let l4 := 14 + ihl d * 4
  let first := decide (fld d 20 2 % 8192 = 0)
  let d2 := splice (splice d 24 (beBytes 2 (up (fld d 24 2)))) o (beBytes 4 a2)
  if first ∧ proto = 6 then splice d2 (l4 + 16) (beBytes 2 (up (fld d (l4 + 16) 2)))
  else if first ∧ proto = 17 ∧ fld d (l4 + 6) 2 ≠ 0 then
    let c := up (fld d (l4 + 6) 2)
    splice d2 (l4 + 6) (beBytes 2 (if c = 0 then 65535 else c))
  else d2

/-- The frame sent through a next hop (R229, R232, R234). -/
def State.throughHop (s : State) (d : List Byte) (nh : Nat) : Routed :=
  let w1 := s.tw 4 nh 1
  let port := bits w1 16 5
  let vid := bits (s.tw 4 nh 2) 0 12
  if ¬ w1.testBit 28 ∨ 24 ≤ port ∨ vid = 0 ∨ vid = 4095 ∨ ¬ s.member vid port then .drop C.FWD_NH_INVALID
  else
    let dmac := bits w1 0 16 * 2 ^ 32 + s.tw 4 nh 0
    let i := bits w1 24 4
    let smac := s.rd (F.FWD_RMAC_HI_MAC_HI i) * 2 ^ 32 + s.regN (R.FWD_RMAC_LO i)
    let d := beBytes 6 dmac ++ beBytes 6 smac ++ d.drop 12
    if isV4 d then
      let ttl := fld d 22 1
      let w := fld d 22 2
      let d := splice (splice d 24 (beBytes 2 (ocUpdate (fld d 24 2) w (w - 256)))) 22 (beBytes 1 (ttl - 1))
      let w4 := s.tw 4 nh 4
      if bits w4 0 6 = 0 then .go d vid port else .go (prefixSwap d (bits w4 0 6) (w4.testBit 6) (s.tw 4 nh 3)) vid port
    else .go (splice d 21 (beBytes 1 (fld d 21 1 - 1))) vid port

/-- IP forwarding of a frame to a router MAC (R230 to R232). -/
def State.route (s : State) (d : List Byte) : Routed :=
  match s.routeCheck d with
  | some r => r
  | none =>
    let key := if isV4 d then [(1, fld d 30 4)] else [(2, fld d 38 8), (3, fld d 46 8)]
    match s.tcamFind s.flowSlices 4096 key with
    | none => if s.on F.FWD_L3_CTRL_MISS_TRAP then .trap C.FWD_L3_MISS else .drop C.FWD_L3_MISS
    | some i =>
      let a := (s.slice i).2.2
      match bits a 28 2 with
      | 0 => s.throughHop d (bits a 0 10)
      | 2 => .trap C.FWD_L3_EXCEPTION
      | _ => .drop C.FWD_L3_DROP

-- the decision (R188 to R197)

/-- What FWD hands to SCT. -/
structure Dec where
  mask : Nat
  vid : Nat
  tc : Nat
  colour : Nat
  cls : Nat
  sc : Option Nat
  data : List Byte
  /-- the frame before it was routed -/
  orig : Option (List Byte)
  deriving DecidableEq, Repr

/-- Bit `p` of a mask cleared. -/
def clearBit (m p : Nat) : Nat := if m.testBit p then m - 2 ^ p else m

/-- A frame of EtherType 0x88B5 whose subtype is not in Table 0-9 (00, R24). -/
def strange (d : List Byte) : Bool :=
  decide (etOf d = 0x88B5) && !([0x01, 0x02, 0x10, 0x20, 0x21].contains (fld d 14 1))

/-- The trap class of a frame (Table 5-1): `router` says that its destination hits an entry with ROUTER = 1, `l3` that R230 lets
the VLAN and the IP version be routed. A local frame of an unlisted subtype has none (R24). -/
def State.trapClass (s : State) (d : List Byte) (router l3 : Bool) : Nat :=
  if strange d then 0
  else if etOf d = 0x88F7 ∧ (fld d 18 1 = s.rd (F.TSU_DC_CTRL_DOMAIN_NUMBER 0) ∨ fld d 18 1 = s.rd (F.TSU_DC_CTRL_DOMAIN_NUMBER 1)) then 1
  else if isLinkLocal (daOf d) then 2
  else if etOf d = 0x88B5 ∧ fld d 14 1 = 0x10 then 3
  else if etOf d = 0x88B5 ∧ (fld d 14 1 = 0x20 ∨ fld d 14 1 = 0x21) ∧ router then 4
  else if etOf d = 0x0806 then 5
  else if router ∧ ¬ l3 then 6
  else 0

/-- A copy of a keep-alive frame into the 16-entry queue of WAK (14, R602). Conventions: log entry 32 (DEDUCED). -/
def State.copyToWak (s : State) (p : Nat) (d : List Byte) : State :=
  if s.kaq.length < 16 then { s with kaq := s.kaq ++ [(p, d)] } else s.inc C.WAK_KA_OVF

/-- Identification by a MAC entry: SC_DA is bit 9, SC_SA bit 10 of word 3 (R219). -/
def macIdent (w : List Word) (flag vid : Nat) : Option Nat :=
  let x := (nth 0 w 3).toNat
  if x.testBit flag ∧ (bits x 12 12 = vid ∨ bits x 12 12 = 0) then some (bits x 0 9) else none

/-- The stream channel handle of a frame, counted by the step that gave it (R219, R220, R757). -/
def State.identify (s : State) (flow : Option Nat) (d src : Option (List Word)) (vid : Nat) : State × Option Nat :=
  match flow with
  | some a => if a.testBit 31 then (s.inc C.FWD_SC_BY_FLOW, some (bits a 0 9)) else (s, none)
  | none =>
    match d.bind (fun w => macIdent w 9 vid) with
    | some h => (s.inc C.FWD_SC_BY_DA, some h)
    | none =>
      match src.bind (fun w => macIdent w 10 vid) with
      | some h => (s.inc C.FWD_SC_BY_SA, some h)
      | none => (s, none)

/-- The action of a trap class, by its fixed entry in Table 5-1 or by FWD_TRAP (R194). -/
def State.trapAction (s : State) (cls : Nat) : Nat :=
  match cls with
  | 1 => 1
  | 2 => (match s.rd F.FWD_TRAP_LINKLOCAL with | 1 => 1 | _ => 3)
  | 4 => 1
  | 5 => s.rd F.FWD_TRAP_ARP
  | 6 => 1
  | _ => 0

/-- What the destination lookup and IP forwarding say of a frame (R191's pseudocode, R194, R230 to R232). -/
inductive Dest where
  /-- dropped into a counter -/
  | drop (counter : Nat)
  /-- trapped with a class, and counted in `counter` beside TRAPPED -/
  | trap (cls : Nat) (counter : Option Nat)
  /-- forwarded to a mask, and counted in `counter` where FWD hands it on by lookup (R757) -/
  | mask (m : Nat) (counter : Option Nat)
  | routed (data : List Byte) (vid port : Nat)
  deriving DecidableEq, Repr

/-- The destination of a frame: `hit` is its entry, `router` and `l3` as for the trap class, `w2` word 2 of its VLAN and `members` its
member ports. -/
def State.destOf (s : State) (d : List Byte) (hit : Option (List Word)) (router l3 : Bool) (cls w2 members : Nat) : Dest :=
  match hit with
  | some w =>
    let own := if macMcast w then macDest w else 2 ^ (macDest w % 32)
    if router ∧ ¬ strange d then
      if cls = 5 ∨ ¬ l3 then .trap (if cls = 5 then 5 else 6) none
      else
        match s.route d with
        | .drop c => .drop c
        | .trap c => .trap 7 (some c)
        | .go d' vid port => .routed d' vid port
    else if macDrop w then .drop C.FWD_DA_DROP
    else .mask own none
  | none =>
    if isGroup (daOf d) then
      if w2.testBit 12 ∧ ¬ isBroadcast (daOf d) then .mask 0 none else .mask members (some C.FWD_FLOOD_UM)
    else if w2.testBit 11 then .mask 0 none
    else .mask members (some C.FWD_FLOOD_UU)

/-- One decision of FWD: none when the frame is dropped, its counter advanced (R188 to R197, R757).
Conventions: log entry 32 (DEDUCED). -/
def State.decide_ (s : State) (p : Nat) (f : RxFrame) : State × Option Dec :=
  let s := s.add64 C.FWD_DECISIONS_LO 1
  let d := f.bytes
  match f.mask with
  | some m => if m = 0 ∧ f.sc = none then (s.inc C.FWD_NO_DEST, none) else (s, some ⟨m, f.vid, f.tc, f.colour, 0, f.sc, d, none⟩)
  | none =>
    let w2 := s.tw 1 f.vid 2
    if ¬ w2.testBit 8 ∨ f.vid = 0 ∨ f.vid = 4095 then (s.inc C.FWD_VLAN_UNKNOWN, none)
    else if w2.testBit 10 ∧ ¬ s.member f.vid p then (s.inc C.FWD_INGRESS_FILTER, none)
    else if isGroup (saOf d) then (s.inc C.FWD_SA_GROUP, none)
    else
      let fid := bits w2 0 6
      let tc := bits (s.rd (F.FWD_PORT_PCPMAP_MAP p)) (3 * f.pcp) 3
      let colour := if 24 ≤ p then f.colour else if s.on (F.FWD_PORT_CTRL_DEI_DECODE p) ∧ f.dei = 1 then 1 else 0
      let lookup (s : State) (mac : Nat) : Option (List Word) := (s.macFind fid mac).map (s.entry 2)
      let router := match lookup s (daOf d) with | some w => macRouter w && macStatic w | none => false
      let dropped := match lookup s (daOf d) with | some w => macDrop w && !(router && !strange d) | none => false
      let l3 := w2.testBit 13 && ((isV4 d && s.on F.FWD_L3_CTRL_IPV4_EN) || (isV6 d && s.on F.FWD_L3_CTRL_IPV6_EN))
      let cls := s.trapClass d router l3
      let action := s.trapAction cls
      let may := w2.testBit 9 && s.on (F.FWD_PORT_CTRL_LEARN_EN p) && !(cls == 1 || cls == 2 || cls == 4)
      let sHit := lookup s (saOf d)
      match s.learnOrRefresh fid (saOf d) p may (action == 3 && !dropped) with
      | none => (s.inc C.FWD_SA_LOCKED, none)
      | some s =>
        let dHit := lookup s (daOf d)
        let members := s.tw 1 f.vid 0 % 2 ^ 28
        let named (s : State) : State × Option Nat := s.identify (s.flowLookup d f.vid p) dHit sHit f.vid
        let trap (s : State) (k : Nat) : State × Option Dec :=
          let r := named (s.inc C.FWD_TRAPPED)
          (r.1, some ⟨2 ^ 24, f.vid, tc, colour, k, r.2, d, none⟩)
        let finish (s : State) (mask vid : Nat) (data : List Byte) (orig : Option (List Byte)) : State × Option Dec :=
          let mask := if s.on (F.FWD_PORT_CTRL_HAIRPIN p) then mask else clearBit mask p
          let c2 := decide (action = 2)
          let s := if c2 then s.inc C.FWD_TRAPPED else s
          let mask := if c2 then mask ||| 2 ^ 24 else mask
          let r := named s
          if mask = 0 ∧ r.2 = none then (r.1.inc C.FWD_NO_DEST, none)
          else (r.1, some ⟨mask, vid, tc, colour, if c2 then cls else 0, r.2, data, orig⟩)
        if dropped then (s.inc C.FWD_DA_DROP, none)
        else if action = 3 then (s.inc C.FWD_TRAP_DROP, none)
        else if action = 1 then trap s cls
        else
          let s := if cls = 3 then s.copyToWak p d else s
          match s.destOf d dHit router l3 cls w2 members with
          | .drop c => (s.inc c, none)
          | .trap k c => trap (match c with | some x => s.inc x | none => s) k
          | .mask m c => finish (match c with | some x => s.inc x | none => s) (m &&& members) f.vid d none
          | .routed d' vid port => finish (s.inc C.FWD_L3_ROUTED) (2 ^ port) vid d' (some d)

-- commands

/-- FWD_COMMIT with OP 0 (R15, R202): TABLE 1, 3 or 4 by index; other pairings change nothing. -/
def State.fwdTableWrite (s : State) (value : Nat) : State :=
  let t := bits value 28 4
  let i := bits value 0 12
  if bits value 26 2 ≠ 0 then s
  else if t = 1 then (s.setEntry 1 i (s.staged R.FWD_STAGE0 3)).setRegN R.FWD_COMMIT_STATUS 0
  else if t = 3 then
    let s := { s with fwd := { s.fwd with tcamBad := sput 0 i 0 s.fwd.tcamBad } }
    (s.setEntry 3 i (s.staged R.FWD_STAGE0 7)).setRegN R.FWD_COMMIT_STATUS 0
  else if t = 4 then (s.setEntry 4 (i % 1024) (s.staged R.FWD_STAGE0 5)).setRegN R.FWD_COMMIT_STATUS 0
  else s

/-- FWD_COMMIT_STATUS for a MAC slot or none (Table 5-9). -/
def State.macStatus (s : State) (result : Nat) (slot : Option Nat) : State :=
  s.setRegN R.FWD_COMMIT_STATUS (match slot with
    | some i => (if 32768 ≤ i then (i - 32768) * 65536 + 4
        else ((i / 16384) * 32768 + ((i / 4) % 4096) * 8 + i % 4) * 65536) + result
    | none => result)

/-- FWD_COMMIT with TABLE 2 and OP 1 (R202, R203, R205). -/
def State.macInsertCommit (s : State) : State :=
  let r := s.macInsert (macStaged (s.staged R.FWD_STAGE0 4))
  match r.2 with
  | .ok i => r.1.macStatus 0 (some i)
  | .stashed i => r.1.macStatus 1 (some i)
  | .full => r.1.macStatus 2 none

/-- FWD_COMMIT with TABLE 2 and OP 2 (R202, R210, R211). -/
def State.macDeleteCommit (s : State) : State :=
  let k := macKey (s.staged R.FWD_STAGE0 4)
  match s.macFind k.1 k.2 with
  | some i => ((s.setEntry 2 i []).macStatus 0 (some i)).partialRetry
  | none => s.macStatus 3 none

/-- FWD_COMMIT with TABLE 2 and OP 3 (R202): the entry found goes to STAGE0 to STAGE3. -/
def State.macLookupCommit (s : State) : State :=
  let k := macKey (s.staged R.FWD_STAGE0 4)
  match s.macFind k.1 k.2 with
  | some i =>
    let e := s.entry 2 i
    ((((s.setReg R.FWD_STAGE0 (nth 0 e 0)).setReg R.FWD_STAGE1 (nth 0 e 1)).setReg R.FWD_STAGE2 (nth 0 e 2)).setReg R.FWD_STAGE3
      (nth 0 e 3)).macStatus 0 (some i)
  | none => s.macStatus 3 none

/-- A write to FWD_COMMIT, whatever its TABLE and OP (R202). -/
def State.fwdCommit (s : State) (value : Nat) : State :=
  if bits value 28 4 = 2 then
    match bits value 26 2 with
    | 1 => s.macInsertCommit
    | 2 => s.macDeleteCommit
    | 3 => s.macLookupCommit
    | _ => s
  else s.fwdTableWrite value

/-- A write to FWD_SEED_CUR (R212). -/
def State.seedWrite (s : State) (which value : Nat) : State :=
  if s.macSlots = [] then s.setRegN (if which = 0 then R.FWD_SEED_CUR0 else R.FWD_SEED_CUR1) value else s

/-- A write of FWD_MIGRATE.START (R206). -/
def State.migrateStart (s : State) : State :=
  if s.migState = 0 then { s.wr F.FWD_MIGRATE_STATE 1 with fwd := { s.fwd with walk := 0 } }.setRemain else s

/-- One visit of the migration engine, and the end of its walk (R208 to R210). Conventions: log entry 11 (DESIGN CHOICE). -/
def State.migrateStep (s : State) : State :=
  if s.migState ≠ 1 then s
  else if s.fwd.walk < 32768 then
    let s := s.migrateSlot s.fwd.walk
    { s with fwd := { s.fwd with walk := s.fwd.walk + 1 } }.setRemain
  else
    let s := s.retryStash.setRemain
    if s.oldEntries = [] then s.migrateDone else (s.wr F.FWD_MIGRATE_STATE 2).raise 0x0503 0

/-- The learn queue's next insertion (R215, R205). -/
def State.learnInsert (s : State) : State :=
  match s.fwd.learnQ with
  | [] => s
  | (fid, mac, port) :: r =>
    let s := { s with fwd := { s.fwd with learnQ := r } }
    let known := (s.macFind fid mac).isSome
    let x := s.macInsert (learned fid mac port)
    match x.2 with
    | .full => x.1.inc C.FWD_LEARN_FAIL
    | _ => if known then x.1 else x.1.inc C.FWD_LEARNED

/-- A visit of every dynamic entry by the ageing sweep (R217). Conventions: log entry 11 (DESIGN CHOICE). -/
def State.ageingSweep (s : State) : State :=
  if s.rd F.FWD_AGE_AGE_TIME = 0 then s
  else
    let dyn := s.macSlots.filter (fun i => !macStatic (s.entry 2 i))
    let old := dyn.filter (fun i => decide (macAge (s.entry 2 i) = 0))
    let s := dyn.foldl (fun s i =>
      let e := s.entry 2 i
      if macAge e = 0 then s.setEntry 2 i [] else s.setEntry 2 i (macWith e 28 2 (macAge e - 1))) s
    let s := s.add C.FWD_AGED old.length
    if old = [] then s else s.partialRetry

/-- A write to FWD_FLUSH (R218). -/
def State.fwdFlush (s : State) (value : Nat) : State :=
  let busy := s.on F.FWD_FLUSH_BUSY
  let s := ((s.wr F.FWD_FLUSH_SCOPE (bits value 28 2)).wr F.FWD_FLUSH_PORT (bits value 8 5)).wr F.FWD_FLUSH_FID (bits value 0 6)
  if value.testBit 31 ∧ ¬ busy then s.flushMac (bits value 28 2) (bits value 8 5) (bits value 0 6) else s

/-- A slice compared with its shadow (R228; 16, Table 16-1); `upset` says that a momentary upset has changed it.
Conventions: log entries 11 (DESIGN CHOICE), 32 (DEDUCED). -/
def State.tcamScrub (s : State) (i : Nat) (upset uncorrectable : Bool) : State :=
  if uncorrectable then s.failSilent 5 i
  else if sget 0 s.fwd.tcamBad i = 0 ∧ ¬ upset then s
  else
    let s := { s with fwd := { s.fwd with tcamBad := sput 0 i 0 s.fwd.tcamBad } }
    ((s.inc C.FWD_TCAM_FIX).raise 0x0505 0).detect 4 (i / 256)

end Sys2Proof.Machine
end

