-- ==== Sys2Proof/Machine/Sct.lean ====
section
/-! DEFINITION. Stream channels (06): the steps of Table 6-1, recovery and latency monitors, and the commands of SCT. -/

namespace Sys2Proof.Machine

/-- Bits of word `k` of the entry of channel `h` (Table 6-2). -/
def State.scf (s : State) (h k lo w : Nat) : Nat := bits (s.tw 5 h k) lo w

/-- What leaves SCT for admission. -/
structure Fate where
  mask : Nat
  vid : Nat
  tc : Nat
  colour : Nat
  cls : Nat
  sc : Option Nat
  data : List Byte
  listener : Nat
  ts : Bool
  latMon : Option Nat
  rtagPop : Bool
  maxSdu : Nat
  charge : Option Charge
  /-- the frame as it was before FWD routed it -/
  orig : Option (List Byte)
  deriving DecidableEq, Repr

/-- A frame without a stream channel passes SCT as FWD decided. -/
def plainFate (d : Dec) : Fate :=
  { mask := d.mask, vid := d.vid, tc := d.tc, colour := d.colour, cls := d.cls, sc := d.sc, data := d.data, listener := 0,
    ts := false, latMon := none, rtagPop := false, maxSdu := 0, charge := none, orig := d.orig }

/-- A step of Table 6-1 ends in a drop, with its counter advanced and the frame's fate so far, or passes the frame on. -/
abbrev Pass := Except (State × Fate) (State × Fate)

/-- Length L of R246 as it stands: data without FCS, and 4 for it. -/
def scLen (data : List Byte) : Nat := data.length + 4

/-- The dynamic state of a channel as a commit initialises it (R241). -/
def State.dynInit (s : State) (h : Nat) : State :=
  s.setDyn h { ctok := s.scf h 3 0 20 * 1000, etok := s.scf h 4 0 20 * 1000, refill := s.lcUs, gen := 0, recov := 0, hist := 0,
               takeAny := true, acceptAt := s.clk.now, twinSeq := none, twinPort := 0, twinT := 0, pairs := 0,
               inits := (s.dyn h).inits + 1 }

/-- Step 2: the frame is counted, its class mapped, and its ingress stamp of kind SC recorded (R109). The Boolean says that the
stamp was lost. -/
def State.scCount (s : State) (h p : Nat) (wt : Int) (t : Fate) : State × Fate × Bool :=
  let s := s.inc (C.SCT_C_FRAMES h)
  let t := if s.scf h 0 15 1 = 1 then { t with tc := s.scf h 0 12 3 } else t
  if s.scf h 0 5 1 = 1 ∧ p < 24 then
    let r := s.pushStamp p 0 (stampEntry 1 0 0 0 h wt)
    (r.1, t, r.2)
  else (s, t, false)

/-- Step 3 (R244): the authentication binding. -/
def State.scAuth (s : State) (h p : Nat) (keySlot : Option Nat) (t : Fate) : Pass :=
  let ok := match s.scf h 6 12 2 with
    | 1 => decide (24 ≤ p) || decide (keySlot = some (s.scf h 6 16 8))
    | 3 => false
    | _ => true
  if ok then .ok (s, t) else .error (s.inc (C.SCT_C_AUTH_FAIL h), t)

/-- Step 4 (R246, R247): the maximum SDU of a frame whose last byte has arrived. -/
def State.scSdu (s : State) (h : Nat) (ended : Bool) (t : Fate) : Pass :=
  let m := s.scf h 0 16 14
  if ended ∧ m ≠ 0 ∧ m < scLen t.data then .error (s.inc (C.SCT_C_SDU_OVERSIZE h), t) else .ok (s, { t with maxSdu := m })

/-- The state of stream gate `g` at WT now (R249, R250, R252). -/
def State.sgOpen (s : State) (g : Nat) : Bool :=
  if s.on (F.SCT_SG_CTRL_BLOCKED g) then false
  else if s.on (F.SCT_SG_CTRL_EN g) then
    (gatesOf (s.listAt s.wtNs gateFuel (s.glist (s.rd (F.SCT_SG_CTRL_LIST g))))).testBit 0
  else true

/-- Step 5 (R251, R252): the stream gate. -/
def State.scGate (s : State) (h : Nat) (t : Fate) : Pass :=
  let g := s.scf h 4 20 5
  if s.scf h 4 25 1 = 0 ∨ s.sgOpen g then .ok (s, t)
  else
    let s := s.inc (C.SCT_C_GATE_CLOSED h)
    if s.scf h 4 26 1 = 1 then
      let was := s.on (F.SCT_SG_CTRL_BLOCKED g)
      let s := s.wr (F.SCT_SG_CTRL_BLOCKED g) 1
      .error (if was then s else s.raise 0x0601 (g + h * 2 ^ 16), t)
    else .error (s, t)

/-- The ports of a mask on which a copy never fits (R253, R344): `len` is the buffer length, or none while the frame arrives. -/
def State.unfit (s : State) (mask vid tc : Nat) (len : Option Nat) : List Nat :=
  (List.range 24).filter (fun q => mask.testBit q &&
    s.neverFits q tc vid (match len with | some n => n | none => s.classMaxSdu (q * 8 + tc)))

/-- Bits cleared in a mask. -/
def clearAll (m : Nat) (l : List Nat) : Nat := l.foldl clearBit m

/-- Step 6 (R253, R345): ports on which the frame never fits leave the mask. -/
def State.scFits (s : State) (h p : Nat) (ended : Bool) (t : Fate) : Pass :=
  let action := s.scf h 0 1 3
  let nh := s.scf h 7 0 10
  let mask := if action = 1 then 2 ^ bits (s.tw 4 nh 1) 16 5 else t.mask
  let vid := if action = 1 then bits (s.tw 4 nh 2) 0 12 else t.vid
  let tag := if (s.scf h 5 0 2 = 1 ∨ s.scf h 5 0 2 = 2) ∧ rtagOf t.data = none then 6 else 0
  let bad := s.unfit mask vid t.tc (if ended then some (scLen t.data + tag) else none)
  match bad with
  | [] => .ok (s, t)
  | q :: _ =>
    let s := (s.inc (C.SCT_C_NEVER_FITS h)).raiseNeverFits (q * 8 + t.tc) (some h)
    let m := clearAll mask bad
    if action = 1 then .error (s, t)
    else if m = 0 ∧ action = 0 ∧ (s.scf h 0 30 1 = 0 ∨ p = 27) then .error (s, t)
    else .ok (s, { t with mask := m })

/-- The bandwidth profile of R255 on a frame of `len` bytes: new buckets, colour and the bucket charged (0 none). -/
def police (d : ScDyn) (mode cir eir cbs ebs : Nat) (aware coupling : Bool) (colour len nowUs : Nat) : ScDyn × Nat × Nat :=
  let dt := nowUs - d.refill
  let cFull := cbs * 1000
  let eFull := ebs * 1000
  let eirEff := if mode = 1 then 0 else eir
  let coup := if mode = 1 then true else coupling
  let cNew := d.ctok + cir * dt
  let overflow := cNew - cFull
  let ctok := min cFull cNew
  let etok := min eFull (d.etok + eirEff * dt + (if coup then overflow else 0))
  let need := len * 1000
  let inC := if aware then min colour 2 else 0
  let d := { d with refill := nowUs, ctok := ctok, etok := etok }
  if cir = 0 ∧ eirEff = 0 then (d, 2, 0)
  else if inC = 0 ∧ need ≤ ctok then ({ d with ctok := ctok - need }, 0, 1)
  else if inC ≠ 2 ∧ need ≤ etok then ({ d with etok := etok - need }, 1, 2)
  else (d, 2, 0)

/-- Step 7 (R255 to R257): the policer. Conventions: log entry 33 (DEDUCED). -/
def State.scPolice (s : State) (h p : Nat) (ended : Bool) (t : Fate) : Pass :=
  let mode := s.scf h 1 24 2
  if mode = 0 ∨ mode = 3 then .ok (s, t)
  else
    let m := s.scf h 0 16 14
    let len := if ended then scLen t.data else if m = 0 then s.maxFrame p else m
    let r := police (s.dyn h) mode (s.scf h 1 0 24) (s.scf h 2 0 24) (s.scf h 3 0 20) (s.scf h 4 0 20)
      (decide (s.scf h 1 26 1 = 1)) (decide (s.scf h 1 27 1 = 1)) t.colour len s.lcUs
    let s := s.setDyn h r.1
    let cap := s.scf h (if r.2.2 = 1 then 3 else 4) 0 20 * 1000
    if r.2.1 = 2 ∧ s.scf h 1 28 1 = 1 then .error (s.inc (C.SCT_C_RED h), t)
    else .ok (s, { t with colour := r.2.1,
                          charge := if ended ∨ r.2.2 = 0 then none else some ⟨h, r.2.2, len, cap, (s.dyn h).inits⟩ })

/-- What recovery says of a frame (R262). -/
inductive Recov where
  | accept | eliminate | rogue
  deriving DecidableEq, Repr

/-- Number of 0 bits among the low `n` bits of a number. -/
def zeroBits (v : Nat) : Nat → Nat
  | 0 => 0
  | n + 1 => zeroBits v n + (if v.testBit n then 0 else 1)

/-- Recovery of R262 for a frame with sequence number `seq`. Conventions: log entry 33 (DEDUCED). -/
def State.recover (s : State) (h seq : Nat) : State × Recov :=
  let d := s.dyn h
  let n := max 1 (min 32 (s.scf h 5 6 6))
  let acc (s : State) (d : ScDyn) : State × Recov := (s.setDyn h { d with acceptAt := s.clk.now }, .accept)
  if d.takeAny then acc s { d with recov := seq, hist := 1, takeAny := false }
  else if s.scf h 5 2 2 = 2 then
    if seq = d.recov then (s, .eliminate) else acc s { d with recov := seq }
  else
    let delta := sgn 16 (seq + 65536 - d.recov)
    if (n : Int) ≤ delta.natAbs then (s, .rogue)
    else if delta ≤ 0 then
      let k := delta.natAbs
      if d.hist.testBit k then (s, .eliminate)
      else acc (s.inc (C.SCT_C_OUT_OF_ORDER h)) { d with hist := d.hist + 2 ^ k }
    else
      let k := delta.toNat
      let lost := zeroBits (d.hist / 2 ^ (n - k)) k
      let s := if 1 < k then s.inc (C.SCT_C_OUT_OF_ORDER h) else s
      acc (s.add (C.SCT_C_LOST h) lost) { d with hist := (d.hist * 2 ^ k + 1) % 2 ^ 32, recov := seq }

/-- Twin-copy recording (06, Twin-copy recording; R120, R121, R266). Conventions: log entry 33 (DEDUCED). -/
def State.twin (s : State) (h p seq : Nat) (wt : Int) (lost accepted : Bool) : State :=
  let d := s.dyn h
  let window := s.scf h 6 0 12
  if 24 ≤ p ∨ lost then s
  else if d.twinSeq = some seq ∧ p ≠ d.twinPort ∧ window ≠ 0 ∧ wt - d.twinT ≤ (window : Int) * 1000 * nsUnit then
    let d' := { d with twinSeq := none, pairs := d.pairs + 1 }
    let s := s.setDyn h d'
    let div := s.rd F.TSU_SKEW_CTRL_DIV
    if div ≠ 0 ∧ d'.pairs % div = 0 then
      s.pushSkew [BitVec.ofNat 32 (h * 16 + d.twinPort * 2 ^ 16 + p * 2 ^ 24), BitVec.ofInt 32 ((wt - d.twinT) / 2 ^ 35),
        BitVec.ofNat 32 (subNs d.twinT), BitVec.ofNat 32 (secOf d.twinT)]
    else s
  else if accepted then s.setDyn h { d with twinSeq := some seq, twinPort := p, twinT := wt }
  else s

/-- Step 8 (R262 to R266): recovery. Conventions: log entry 33 (DEDUCED). -/
def State.scRecover (s : State) (h p : Nat) (wt : Int) (lost : Bool) (t : Fate) : Pass :=
  let rcv := s.scf h 5 2 2
  let on := decide (rcv = 1 ∨ rcv = 2)
  match rtagOf t.data with
  | none => if s.scf h 5 5 1 = 1 then .ok (s.inc C.SCT_TAGLESS, t) else .error (s.inc C.SCT_TAGLESS, t)
  | some seq =>
    let r := if on then s.recover h seq else (s, .accept)
    let s := if s.scf h 0 6 1 = 1 then r.1.twin h p seq wt lost (decide (r.2 = .accept)) else r.1
    match r.2 with
    | .accept => .ok (s, t)
    | .eliminate => .error (s.inc (C.SCT_C_ELIMINATED h), t)
    | .rogue => .error (s.inc (C.SCT_C_ROGUE h), t)

/-- Step 9 (R259 to R261): sequence generation. -/
def State.scGen (s : State) (h esiFirst spf : Nat) (t : Fate) : Pass :=
  match s.scf h 5 0 2 with
  | 1 =>
    let d := s.dyn h
    .ok (s.setDyn h { d with gen := (d.gen + 1) % 65536 }, { t with data := rtagSet t.data d.gen })
  | 2 =>
    if spf = 0 then .error (s.inc C.SCT_GEN_NO_ESI, t)
    else .ok (s, { t with data := rtagSet t.data (esiFirst / spf % 65536) })
  | _ => .ok (s, t)

/-- The next hop `nh` on a frame: the exceptions of Table 5-8 for an IP frame first (R229, R232; 06, R268, R269). -/
def State.hopRoute (s : State) (nh : Nat) (data : List Byte) : Routed :=
  if isV4 data ∨ isV6 data then
    match s.routeCheck data with
    | some r => r
    | none => s.throughHop data nh
  else
    match s.throughHop data nh with
    | .go d vid port => .go (d.take 12 ++ data.drop 12) vid port
    | r => r

/-- What ACTION 1 makes of a frame: it is routed as it was before FWD routed it, its R-TAG left out, and leaves with the R-TAG that it
has by now (R229, R232). Conventions: log entry 32 (DEDUCED). -/
def State.scRoute (s : State) (h : Nat) (t : Fate) : Routed :=
  match s.hopRoute (s.scf h 7 0 10) (rtagPop (t.orig.getD t.data)), rtagOf t.data with
  | .go d vid port, some seq => .go (rtagSet d seq) vid port
  | r, _ => r

/-- Step 10 (R267 to R269, Table 6-5): the action. A frame that an exception of Table 5-8 has trapped already stays trapped. -/
def State.scAction (s : State) (h p : Nat) (t : Fate) : Pass :=
  let action := s.scf h 0 1 3
  let t := { t with ts := decide (s.scf h 0 5 1 = 1), rtagPop := decide (s.scf h 5 4 1 = 1), listener := s.scf h 7 10 6,
                    latMon := if s.scf h 0 7 1 = 1 then some (s.scf h 0 8 4) else none }
  let finish (s : State) (t : Fate) : Pass :=
    let m := if s.scf h 0 4 1 = 1 ∧ p = 27 then t.mask / 2 ^ 24 * 2 ^ 24 else t.mask
    let m := if p = 27 then clearBit m 27 else m
    if m = 0 then .error (s.inc C.FWD_NO_DEST, t) else .ok (s, { t with mask := m })
  let exch := if s.scf h 0 30 1 = 1 then 2 ^ 27 else 0
  match action with
  | 0 => finish s { t with mask := t.mask ||| exch }
  | 1 =>
    if t.cls = 7 then finish s t
    else
      match s.scRoute h t with
      | .drop c => .error (s.inc c, t)
      | .trap c => finish ((s.inc c).inc C.FWD_TRAPPED) { t with mask := 2 ^ 24, cls := 7 }
      | .go d vid port => finish (if t.orig.isSome then s else s.inc C.FWD_L3_ROUTED) { t with mask := 2 ^ port, data := d, vid := vid }
  | 2 => finish s { t with mask := t.mask ||| 2 ^ 25 ||| exch }
  | 3 => finish s { t with mask := t.mask ||| 2 ^ 26 ||| exch }
  | _ => .error (s.inc C.SCT_ACTION_INVALID, t)

/-- Continue after a step that passed. -/
def Pass.andThen (r : Pass) (k : State → Fate → Pass) : Pass :=
  match r with
  | .error x => .error x
  | .ok (s, t) => k s t

/-- The steps of Table 6-1 on a frame of port `p` with handle `h` (R237). -/
def State.sctSteps (s : State) (h p : Nat) (f : RxFrame) (d : Dec) : Pass :=
  if s.scf h 0 0 1 = 0 then .error (s.inc C.SCT_INVALID_SC, plainFate d)
  else
    let c := s.scCount h p f.wt (plainFate d)
    (((((((c.1.scAuth h p f.keySlot c.2.1).andThen
      (fun s t => s.scSdu h f.ended t)).andThen
      (fun s t => s.scGate h t)).andThen
      (fun s t => s.scFits h p f.ended t)).andThen
      (fun s t => s.scPolice h p f.ended t)).andThen
      (fun s t => s.scRecover h p f.wt (c.2.2 || f.stampLost) t)).andThen
      (fun s t => s.scGen h f.esiFirst f.spf t)).andThen
      (fun s t => s.scAction h p t)

/-- SCT on a decided frame (R237). Conventions: log entry 33 (DEDUCED). -/
def State.sctPass (s : State) (p : Nat) (f : RxFrame) (d : Dec) : Pass :=
  match d.sc with
  | none => .ok (s, plainFate d)
  | some h => s.sctSteps h p f d

/-- A bucket with tokens returned up to a burst; a bucket that holds more keeps what it holds. -/
def returned (have_ back cap : Nat) : Nat := max have_ (min cap (have_ + back))

/-- The difference of R257 returned when the true length is known, to the state under which it was charged (R242).
Conventions: log entry 33 (DEDUCED). -/
def State.refund (s : State) (charge : Option Charge) (len : Nat) : State :=
  match charge with
  | none => s
  | some c =>
    let d := s.dyn c.chan
    let back := (c.octets - len) * 1000
    if d.inits ≠ c.inits then s
    else s.setDyn c.chan (if c.bucket = 1 then { d with ctok := returned d.ctok back c.cap }
      else { d with etok := returned d.etok back c.cap })

/-- A latency sample in ns of channel `h` (R270, R271). Conventions: log entry 33 (DEDUCED). -/
def State.latSample (s : State) (m h ns : Nat) : State :=
  let s := s.setRegN (R.SCT_LAT_MIN m) (min (s.regN (R.SCT_LAT_MIN m)) ns)
  let s := s.setRegN (R.SCT_LAT_MAX m) (max (s.regN (R.SCT_LAT_MAX m)) ns)
  let s := (s.add64 (R.SCT_LAT_SUM_LO m) ns).inc (R.SCT_LAT_COUNT m)
  let thresh := s.rd (F.SCT_LAT_THRESH_THRESH m)
  if thresh ≠ 0 ∧ thresh < ns then
    let s := s.inc (R.SCT_LAT_OVER m)
    let last := sget 0 s.latAt m
    if last = 0 ∨ last + 1000000 ≤ s.clk.now + 1 then
      ({ s with latAt := sput 0 m (s.clk.now + 1) s.latAt }).raise 0x0603 h
    else s
  else s

-- commands

/-- A write to SCT_COMMIT (R15, R241, R242). Conventions: log entry 33 (DEDUCED). -/
def State.sctCommit (s : State) (value : Nat) : State :=
  let h := bits value 0 9
  let was := decide (s.scf h 0 0 1 = 1)
  let s := s.setEntry 5 h (s.staged R.SCT_STAGE0 8)
  if s.scf h 0 0 1 = 1 ∧ (¬ was ∨ value.testBit 31) then s.dynInit h else s

/-- A write to SCT_STATE_SEL: the dynamic state of a channel is captured. -/
def State.sctStateSel (s : State) (value : Nat) : State :=
  let h := bits value 0 9
  let d := s.dyn h
  let s := ((s.wr F.SCT_STATE_SEL_HANDLE h).setRegN R.SCT_STATE0 d.ctok).setRegN R.SCT_STATE1 d.etok
  ((s.setRegN R.SCT_STATE2 (d.gen * 65536 + d.recov)).setRegN R.SCT_STATE3 d.hist).setRegN R.SCT_STATE4
    (b2n d.twinSeq.isSome * 2 + b2n d.takeAny)

/-- Recovery reset of a channel (R263): RESET_MS milliseconds without an accepted frame. -/
def State.rcvReset (s : State) (h : Nat) : State :=
  let d := s.dyn h
  let ms := s.scf h 5 12 12
  let rcv := s.scf h 5 2 2
  if s.scf h 0 0 1 = 1 ∧ (rcv = 1 ∨ rcv = 2) ∧ ms ≠ 0 ∧ ¬ d.takeAny ∧ d.acceptAt + ms * 1000000 ≤ s.clk.now then
    ((s.setDyn h { d with takeAny := true, hist := 0 }).inc C.SCT_RCV_RESETS).raise 0x0602 h
  else s

/-- A write to SCT_LATn_THRESH: THRESH, and CLEAR zeroes the monitor in one cycle. -/
def State.latencyClear (s : State) (m value : Nat) : State :=
  let s := s.wr (F.SCT_LAT_THRESH_THRESH m) value
  if value.testBit 31 then
    let s := ((s.setRegN (R.SCT_LAT_MIN m) 0xFFFFFFFF).setRegN (R.SCT_LAT_MAX m) 0).setPair (R.SCT_LAT_SUM_LO m) (R.SCT_LAT_SUM_HI m) 0
    (s.setRegN (R.SCT_LAT_COUNT m) 0).setRegN (R.SCT_LAT_OVER m) 0
  else s

end Sys2Proof.Machine
end

