-- ==== Sys2Proof/Machine/Buf.lean ====
section
/-! DEFINITION. Buffer and replication (07): cells and descriptors, admission, release, pause requests, the audit, stuck heads and
flush. -/

namespace Sys2Proof.Machine

/-- Cells of `n` bytes (R275). -/
def cellsOf (n : Nat) : Nat := (n + 127) / 128

def State.setBuf (s : State) (b : Buf) : State := { s with buf := b }
def State.pkt (s : State) (id : Nat) : Option Pkt := (s.buf.pkt.find? (fun e => e.1 == id)).map (fun e => e.2)
def State.freeCells (s : State) : Nat := s.buf.cells.count
def State.freePkts (s : State) : Nat := s.buf.pkts.count
def State.freeCopies (s : State) : Nat := s.buf.copies.count

/-- A packet that no descriptor holds. -/
def pkt0 : Pkt :=
  { data := [], complete := true, bad := false, inPort := 0, inTc := 0, tc := 0, colour := 0, vid := 0, pcp := 0, dei := 0,
    sc := none, cls := 0, listener := 0, act := timeAct0, esiFirst := 0, spf := 0, lc := 0, wt := 0, ts := false, latMon := none,
    latPort := 28, rtagPop := false, stpid := 0, cells := [], badCells := [], charge := 0, copies := 0 }

def State.getPkt (s : State) (id : Nat) : Pkt := match s.pkt id with | some p => p | none => pkt0
def State.setPkt (s : State) (id : Nat) (p : Pkt) : State := { s with buf := { s.buf with pkt := sput pkt0 id p s.buf.pkt } }
def State.modPkt (s : State) (id : Nat) (f : Pkt → Pkt) : State := s.setPkt id (f (s.getPkt id))

/-- Buffer length of a packet whose last byte has arrived (R275, R758). -/
def pktLen (p : Pkt) : Nat := p.data.length + 4

/-- Depth of a queue (R284). -/
def State.depth (s : State) (q : Nat) : Nat := (s.queue q).foldl (fun n c => n + (s.getPkt c.pkt).charge) 0

/-- The octets that a cell of a packet holds, by its place in the chain (R275). -/
def cellOctets (p : Pkt) (i : Nat) : List Byte := (p.data.drop (128 * i)).take 128

/-- The CRC-16 of every cell of a packet computed over its octets and stored with it (R305). -/
def State.sealCells (s : State) (id : Nat) : State :=
  let p := s.getPkt id
  { s with buf := { s.buf with crc :=
    (List.range p.cells.length).foldl (fun m i => sput 0 (nth 0 p.cells i) (crc16 (cellOctets p i)) m) s.buf.crc } }

/-- The first cell of a packet whose read fails, and whether by its ECC: an uncorrectable word, or a CRC-16 other than the one stored
(R305, R306). -/
def State.badCell (s : State) (p : Pkt) : Option (Nat × Bool) :=
  ((List.range p.cells.length).find? (fun i =>
    p.badCells.contains (nth 0 p.cells i) || sget 0 s.buf.crc (nth 0 p.cells i) != crc16 (cellOctets p i))).map
    (fun i => (nth 0 p.cells i, p.badCells.contains (nth 0 p.cells i)))

/-- Cells of stored frames of an ingress port, of one ingress class or of all (R302, R303). -/
def State.ingressCells (s : State) (p : Nat) (cls : Option Nat) : Nat :=
  s.buf.pkt.foldl (fun n e =>
    if e.2.inPort = p ∧ cls.getD e.2.inTc = e.2.inTc then n + e.2.cells.length else n) 0

-- pause requests (R302 to R304, R177)

def State.pfcOn (s : State) (p : Nat) : Bool := decide (p < 4) && s.on (F.MAC_CTRL_PFC_EN p)

/-- Whether a request stands after a count is compared with XOFF and XON (R302, R304). -/
def pauseWanted (was : Bool) (count xoff xon : Nat) : Bool :=
  if xoff = 0 then false
  else if xoff ≤ count then true
  else was && decide ((if xoff ≤ xon then xoff - 1 else xon) < count)

/-- A MAC control frame queued for a port: the vector and whether its times are 0 (R177). Conventions: log entry 35 (DEDUCED). -/
def State.askPause (s : State) (p vec : Nat) (zero : Bool) : State :=
  if s.on (F.MAC_CTRL_PAUSE_TX_EN p) ∧ s.rd (F.MAC_PAUSE_TX_QUANTA p) ≠ 0 ∧ s.linkUp p then
    s.modPort p (fun m => { m with ctrl := m.ctrl ++ [(vec, zero)] })
  else s

/-- The pause requests of an ingress port after its cell counts changed; where a part of the classes is withdrawn, a time-0 frame names
these, and the refresh of the others starts anew (R177). Conventions: log entry 59 (DESIGN CHOICE). -/
def State.updatePause (s : State) (p : Nat) : State :=
  if 16 ≤ p then s
  else
    let old := (s.port p).pauseReq
    let xoff := s.rd (F.BUF_PORT_XOFF_XOFF p)
    let xon := s.rd (F.BUF_PORT_XOFF_XON p)
    let new := if s.pfcOn p then
        (List.range 8).foldl (fun v c =>
          if pauseWanted (old.testBit c) (s.ingressCells p (some c)) xoff xon then v + 2 ^ c else v) 0
      else if pauseWanted (old != 0) (s.ingressCells p none) xoff xon then 0x100 else 0
    if new = old then s
    else
      let added := new - (new &&& old)
      let gone := old - (new &&& old)
      let s := s.modPort p (fun m => { m with pauseReq := new, refreshAt := s.clk.now })
      let s := if added ≠ 0 then (s.inc C.BUF_PAUSE_REQUESTS).askPause p new false else s
      if gone ≠ 0 then s.askPause p gone true else s

-- release (R285 to R288)

/-- A frame's cells and its packet descriptor return to their free lists. -/
def State.freePkt (s : State) (id : Nat) : State :=
  let p := s.getPkt id
  let s := { s with buf := { s.buf with cells := s.buf.cells.addAll p.cells, pkts := s.buf.pkts.add id } }
  let s := s.setPkt id pkt0
  let drop (f : Option RxFrame) : Option RxFrame :=
    f.map (fun r => if r.pkt = some id then { r with pkt := none, cells := [] } else r)
  let s := if p.complete then s
    else s.modPort p.inPort (fun m => { m with cur := drop m.cur, held := drop m.held })
  s.updatePause p.inPort

/-- A copy's reference is released (R285, R288). -/
def State.dropRef (s : State) (id : Nat) : State :=
  let s := s.modPkt id (fun p => { p with copies := p.copies - 1 })
  if (s.getPkt id).copies = 0 then s.freePkt id else s

/-- A copy leaves its queue for good: its descriptor returns, and its reference is released. -/
def State.releaseCopy (s : State) (c : Copy) : State :=
  ({ s with buf := { s.buf with copies := s.buf.copies.add c.id } }).dropRef c.pkt

/-- The time at the head of a queue starts anew (R313): the copy now at its head has just come there. -/
def State.restartHead (s : State) (q : Nat) : State :=
  { s with buf := { s.buf with headSince := sput 0 q (if s.queue q = [] then 0 else s.clk.now) s.buf.headSince } }

/-- A copy unlinked from a queue and released. -/
def State.unlink (s : State) (q : Nat) (c : Copy) : State :=
  let head := decide ((s.queue q).head? = some c)
  let s := s.setQueue q ((s.queue q).filter (fun x => decide (x ≠ c)))
  (if head then s.restartHead q else s).releaseCopy c

/-- Whether a copy of a queue is in transmission or waits, preempted, for its rest. -/
def State.inTx (s : State) (q : Nat) (c : Copy) : Bool :=
  let m := s.port (q / 8)
  (match m.tx with | some t => decide (t.queue = q) && decide (t.copy = c) | none => false) ||
    (match m.rest with | some t => decide (t.queue = q) && decide (t.copy = c) | none => false)

/-- The copies of a packet, with their queues. -/
def State.copiesOf (s : State) (id : Nat) : List (Nat × Copy) :=
  s.buf.q.flatMap (fun e => (e.2.filter (fun c => decide (c.pkt = id))).map (fun c => (e.1, c)))

-- the staging FIFO (R279, R280)

/-- Event 0x0705 or 0x0706 at the first drop after its bit was cleared. Conventions: log entry 35 (DEDUCED). -/
def State.noCell (s : State) : State := (s.inc C.BUF_NO_CELL).raiseOnce 0x0705 0

/-- The transmission of a copy of a bad frame is to end with its last octet, or at octet `at_` where it does not end before, stomped. -/
def TxFrame.stompAt (t : TxFrame) (at_ : Option Nat) : TxFrame :=
  { t with stomp := true, cutAt := match t.cutAt, at_ with
      | some k, some n => some (min k n)
      | none, x => x
      | x, none => x }

/-- The transmission of copy `c` of queue `q` marked to end stomped. -/
def State.stompTx (s : State) (q : Nat) (c : Copy) (at_ : Option Nat) : State :=
  let mark (t : TxFrame) : TxFrame := if t.queue = q ∧ t.copy = c then t.stompAt at_ else t
  s.modPort (q / 8) (fun m => { m with tx := m.tx.map mark, rest := m.rest.map mark })

/-- A cut-through copy that is ended early counts in CT_STOMPED, once (R292). -/
def State.countStomp (s : State) (q : Nat) (c : Copy) : State :=
  let m := s.port (q / 8)
  let fresh (t : Option TxFrame) : Bool := match t with | some t => decide (t.queue = q ∧ t.copy = c) && !t.stomp | none => false
  if c.cut ∧ (fresh m.tx ∨ fresh m.rest) then s.inc C.BUF_CT_STOMPED else s

/-- Every copy of a frame is dropped, and its cells are released (R159, R280, R287, R292): copies not in transmission are unlinked, those
in transmission end with their last octet, or at octet `at_`, stomped. Conventions: log entry 35 (DEDUCED). -/
def State.spoil (s : State) (id : Nat) (at_ : Option Nat) : State :=
  let s := s.modPkt id (fun p => { p with bad := true })
  (s.copiesOf id).foldl (fun s x =>
    if s.inTx x.1 x.2 then (s.countStomp x.1 x.2).stompTx x.1 x.2 at_ else s.unlink x.1 x.2) s

/-- One cell for a frame on its way in: its cells so far, and whether one was found. -/
def State.takeCell (s : State) : Option (Nat × State) :=
  match s.buf.cells.take? with
  | none => none
  | some (c, r) => some (c, { s with buf := { s.buf with cells := r } })

/-- Cells until a frame holds `n` of them, or none when the list runs empty. -/
def State.takeCells (s : State) : Nat → List Nat → Option (State × List Nat)
  | 0, l => some (s, l)
  | n + 1, l =>
    match s.takeCell with
    | none => none
    | some (c, s') => s'.takeCells n (l ++ [c])

/-- The cells of a frame put where it is held: its packet once admitted. -/
def State.giveCells (s : State) (f : RxFrame) (l : List Nat) : State × RxFrame :=
  match f.pkt with
  | some id => (((s.modPkt id (fun p => { p with cells := l })).sealCells id).updatePause (s.getPkt id).inPort, { f with cells := l })
  | none => (s, { f with cells := l })

/-- A frame that found no cell (R280): its copies in transmission end with the octets that were written (R281). -/
def State.outOfCells (s : State) (f : RxFrame) : State × RxFrame :=
  let s := s.noCell
  let s := { s with buf := { s.buf with cells := if f.pkt = none then s.buf.cells.addAll f.cells else s.buf.cells } }
  let s := match f.pkt with | some id => s.spoil id (some (128 * f.cells.length)) | none => s
  (s, { f with dead := true, cells := [], pkt := none })

/-- A frame ensured to hold `n` cells (R279, R280). -/
def State.fillCells (s : State) (f : RxFrame) (n : Nat) : State × RxFrame :=
  match s.takeCells (n - f.cells.length) f.cells with
  | some (s', l) => if l = f.cells then (s, f) else s'.giveCells f l
  | none => s.outOfCells f

-- admission (R296 to R298)

/-- A value at an ECN field's place: the offset of the IP header that R298 finds. -/
def State.ipOffset (s : State) (d : List Byte) : Option Nat :=
  let o := rtagSkip d
  let tag (o : Nat) : Bool :=
    let t := fld d o 2
    decide (o + 4 ≤ d.length) && (t == 0x8100 || t == 0x88A8 || (t == s.rd F.MAC_S_TPID_TPID))
  let o := if tag o then (if tag (o + 4) then o + 8 else o + 4) else o
  let t := fld d o 2
  let v := fld d (o + 2) 1 / 16
  if o + 3 ≤ d.length ∧ ((t = 0x0800 ∧ v = 4) ∨ (t = 0x86DD ∧ v = 6)) then some (o + 2) else none

/-- ECN field of the IP header at an offset. -/
def ecnAt (d : List Byte) (o : Nat) : Nat :=
  if fld d o 1 / 16 = 4 then fld d (o + 1) 1 % 4 else fld d (o + 1) 1 / 16 % 4

/-- An ECN-capable frame (R298). -/
def State.ect (s : State) (d : List Byte) : Bool :=
  match s.ipOffset d with
  | some o => ecnAt d o == 1 || ecnAt d o == 2
  | none => false

/-- The frame with its ECN field 0b11, and the IPv4 checksum updated (R298). -/
def State.markCe (s : State) (d : List Byte) : List Byte :=
  match s.ipOffset d with
  | none => d
  | some o =>
    if fld d o 1 / 16 = 4 then
      let w := fld d o 2
      let w2 := w / 4 * 4 + 3
      splice (splice d o (beBytes 2 w2)) (o + 10) (beBytes 2 (ocUpdate (fld d (o + 10) 2) w w2))
    else
      let w := fld d o 2
      splice d o (beBytes 2 (w - (w / 16 % 4) * 16 + 48))

/-- One step of the LFSR of R759. -/
def lfsrStep (x : Nat) : Nat := if x % 2 = 1 then (x / 2) ^^^ 0xB400 else x / 2

/-- lfsr8() of R759. -/
def State.lfsr8 (s : State) : Nat × State :=
  let x := lfsrStep (lfsrStep (lfsrStep (lfsrStep (lfsrStep (lfsrStep (lfsrStep (lfsrStep s.buf.lfsr)))))))
  (x % 256, { s with buf := { s.buf with lfsr := x } })

/-- What the RED profile says of a copy. -/
inductive Red where
  | pass | drop | mark
  deriving DecidableEq, Repr

/-- The profile test of R297 for queue `q`, colour `c`. Conventions: log entry 35 (DEDUCED). -/
def State.redTest (s : State) (q c : Nat) (capable : Bool) : State × Red :=
  let i := s.rd (F.BUF_Q_PROF_PROFILE q)
  let lo := bits (s.tw 7 i c) 0 16
  let hi := max (bits (s.tw 7 i c) 16 16) lo
  let w3 := s.tw 7 i 3
  let avg := s.rd (F.BUF_Q_AVG_AVG q)
  if hi * 256 ≤ avg then (s, .drop)
  else if lo * 256 ≤ avg then
    let p := bits w3 (8 * c) 8 * (avg - lo * 256) / ((hi - lo) * 256)
    let r := s.lfsr8
    if r.1 < p then (r.2, if w3.testBit 24 ∧ capable then .mark else .drop) else (r.2, .pass)
  else (s, .pass)

/-- The average depth of a queue after a look at depth `d` (R297). Conventions: log entry 35 (DEDUCED). -/
def State.updateAvg (s : State) (q d : Nat) : State :=
  let w := min 12 (bits (s.tw 7 (s.rd (F.BUF_Q_PROF_PROFILE q)) 3) 25 4)
  let a : Int := s.rd (F.BUF_Q_AVG_AVG q)
  s.wr (F.BUF_Q_AVG_AVG q) (a + ((d * 256 : Nat) - a) / 2 ^ w).toNat

/-- A MAC control frame of the port is under way, its gap included. -/
def State.controlRuns (s : State) (p : Nat) : Bool := decide ((s.port p).gapQ = 224) && decide (s.clk.now < (s.port p).gapEnd)

/-- A port transmits nothing and its queues hold nothing (R289). -/
def State.portIdle (s : State) (p : Nat) : Bool :=
  !s.controlRuns p && (s.port p).tx.isNone && (s.port p).rest.isNone && (List.range 8).all (fun t => (s.queue (p * 8 + t)).isEmpty)

/-- Whether a copy leaves by cut-through (R289). Conventions: log entry 35 (DEDUCED). -/
def State.cutThrough (s : State) (p q : Nat) : Bool :=
  decide (p < 24) && decide (q < 24) && s.on (F.BUF_PORT_CT_CT_EN p) && s.on (F.BUF_PORT_CT_CT_EN q) &&
    !(decide (p < 16) && s.on (F.CPH_MS_CTRL_RX_EN p)) && s.portIdle q && decide (s.portKbps q ≤ s.portKbps p)

/-- A copy linked into a queue. -/
def State.link (s : State) (q id : Nat) (ce : Bool) : State :=
  let p := s.getPkt id
  let cut := s.cutThrough p.inPort (q / 8) && !p.complete
  match s.buf.copies.take? with
  | none => s
  | some (c, r) =>
    let s := { s with buf := { s.buf with copies := r } }
    let first := (s.queue q).isEmpty
    let s := s.setQueue q (s.queue q ++ [{ id := c, pkt := id, cut := cut, ce := ce, linked := s.lcNs, waited := false }])
    let s := if first then { s with buf := { s.buf with headSince := sput 0 q s.clk.now s.buf.headSince } } else s
    let s := s.modPkt id (fun p => { p with copies := p.copies + 1, latPort := if q / 8 < 24 then min p.latPort (q / 8) else p.latPort })
    let s := s.inc (C.BUF_Q_ENQUEUED q)
    let s := if ce then s.inc (C.BUF_Q_ECN_MARK q) else s
    if cut then s.inc C.BUF_CT_TAKEN else s

/-- The decision of R297 for one destination queue, after the tests of R345 and R347. -/
def State.admitQueue (s : State) (q id : Nat) : State :=
  let p := s.getPkt id
  let n := p.charge
  let c := min p.colour 2
  let d := s.depth q
  let s := s.updateAvg q d
  let cfgMin := s.rd (F.BUF_Q_CFG_MIN q)
  let cfgMax := s.rd (F.BUF_Q_CFG_MAX q)
  if s.freeCopies = 0 then (s.inc C.BUF_NO_COPY_DESC).raiseOnce 0x0706 0
  else if d + n ≤ cfgMin then s.link q id false
  else if cfgMax ≠ 0 ∧ cfgMax < d + n then s.inc (C.BUF_Q_TAIL_DROP q)
  else if s.freeCells < s.rd F.BUF_RESERVE_CELLS + n then s.inc (C.BUF_Q_TAIL_DROP q)
  else
    let r := s.redTest q c (s.ect p.data)
    match r.2 with
    | .pass => r.1.link q id false
    | .mark => r.1.link q id true
    | .drop => r.1.inc (C.BUF_Q_RED_DROP q)

/-- A frame without a stream channel that never fits, or a stored frame above the class maximum SDU, is not linked (R345, R347). -/
def State.refused (s : State) (q id : Nat) : Option State :=
  let p := s.getPkt id
  let len := if p.complete then pktLen p else s.classMaxSdu q
  if p.sc = none ∧ s.neverFits (q / 8) (q % 8) p.vid len then
    some ((s.inc (C.EGS_Q_NEVER_FITS q)).raiseNeverFits q none)
  else if p.complete ∧ s.classMaxSdu q < pktLen p then some (s.inc (C.EGS_Q_SDU_DROP q))
  else none

/-- One copy at one queue: held back while the queue is flushed (R315). -/
def State.offer (s : State) (q id : Nat) : State :=
  if s.on F.BUF_QFLUSH_BUSY ∧ s.rd F.BUF_QFLUSH_QUEUE = q then
    (s.modPkt id (fun p => { p with copies := p.copies + 1 })).setBuf
      { (s.modPkt id (fun p => { p with copies := p.copies + 1 })).buf with
        heldBack := s.buf.heldBack ++ [(q, { id := 0, pkt := id, cut := false, ce := false, linked := 0, waited := false })] }
  else
    match s.refused q id with
    | some s => s
    | none => s.admitQueue q id

/-- The packet of a frame that comes to admission. -/
def mkPkt (p inTc : Nat) (f : RxFrame) (t : Fate) (charge : Nat) : Pkt :=
  { data := t.data, complete := f.ended, bad := false, inPort := p, inTc := inTc, tc := t.tc, colour := t.colour, vid := t.vid,
    pcp := f.pcp, dei := f.dei, sc := t.sc, cls := t.cls, listener := t.listener, act := f.act, esiFirst := f.esiFirst,
    spf := f.spf, lc := f.lc, wt := f.wt, ts := t.ts, latMon := t.latMon, latPort := 28, rtagPop := t.rtagPop,
    stpid := f.stpid, cells := f.cells, badCells := [], charge := charge, copies := 0 }

/-- The frame's cells return to the free list. -/
def State.returnCells (s : State) (l : List Nat) : State :=
  { s with buf := { s.buf with cells := s.buf.cells.addAll l } }

/-- Admission (R296, R297): the packet descriptor that the frame received, if any copy was admitted, and its cells, a further one where
an R-TAG has made it longer (R275). Conventions: log entry 35 (DEDUCED). -/
def State.admitFrame (s : State) (p inTc : Nat) (f : RxFrame) (t : Fate) : State × Option (Nat × List Nat) :=
  let n := if f.ended then cellsOf (t.data.length + 4) else cellsOf (s.maxFrame p)
  match s.buf.pkts.take? with
  | none => (((s.inc C.BUF_NO_PKT_DESC).raiseOnce 0x0706 0).returnCells f.cells, none)
  | some (id, r) =>
    if s.freeCells < n then (s.noCell.returnCells f.cells, none)
    else
      let g := if f.ended then s.fillCells f n else (s, f)
      let s := { g.1 with buf := { g.1.buf with pkts := r } }
      let s := (s.setPkt id (mkPkt p inTc g.2 t n)).sealCells id
      let s : State := ((List.range 28).filter (fun q => t.mask.testBit q)).foldl (fun s q => s.offer (q * 8 + t.tc) id) s
      if (s.getPkt id).copies = 0 then (s.freePkt id, none) else (s.updatePause p, some (id, g.2.cells))

-- the end of a frame that was admitted while it arrived

/-- A linked copy tested again on its true length (R345, R347). -/
def State.retest (s : State) (id : Nat) : State :=
  (s.copiesOf id).foldl (fun s x =>
    let q := x.1
    if s.inTx q x.2 then s
    else
      let p := s.getPkt id
      if s.neverFits (q / 8) (q % 8) p.vid (pktLen p) then
        (((s.unlink q x.2).inc (C.EGS_Q_NEVER_FITS q)).raiseNeverFits q p.sc)
      else if s.classMaxSdu q < pktLen p ∧ ¬ x.2.cut then (s.unlink q x.2).inc (C.EGS_Q_SDU_DROP q)
      else s) s

/-- The last byte of an admitted frame has arrived and the frame is good: the charge becomes that of its length (R296). -/
def State.completePkt (s : State) (id : Nat) : State :=
  let s := s.modPkt id (fun p => { p with complete := true, charge := cellsOf (pktLen p) })
  (s.sealCells id).retest id

-- the queues of internal and external ports

/-- The head of a queue leaves after its transmission or discard. -/
def State.popHead (s : State) (q : Nat) : State :=
  match s.queue q with
  | [] => s
  | c :: r =>
    ((s.setQueue q r).restartHead q).releaseCopy c

-- commands

/-- A write to BUF_COMMIT (R15, R300). -/
def State.bufCommit (s : State) (value : Nat) : State := s.setEntry 7 (bits value 0 5) (s.staged R.BUF_STAGE0 4)

/-- Cells that neither the free list nor the chain of a live frame holds (R308). -/
def State.unmarkedCells (s : State) : List Nat :=
  (s.buf.cells.absent 65536).filter (fun c => !s.buf.pkt.any (fun e => e.2.cells.contains c))

/-- Packet descriptors that are neither free nor live (R310). -/
def State.unmarkedPkts (s : State) : List Nat :=
  (s.buf.pkts.absent 32768).filter (fun i => !s.buf.pkt.any (fun e => e.1 == i))

/-- Copy descriptors that are neither free nor in a queue (R310). -/
def State.unmarkedCopies (s : State) : List Nat :=
  (s.buf.copies.absent 65536).filter (fun i => !s.buf.q.any (fun e => e.2.any (fun c => c.id == i)))

/-- The audit walk begins (R308): what the staging FIFOs hold is marked, and what the walk reaches from the free lists and the live
frames. Conventions: log entry 35 (DEDUCED). -/
def State.leakAudit (s : State) : State :=
  let ms := s.rd F.BUF_AUDIT_PERIOD
  if ms = 0 ∨ s.buf.walking ∨ s.clk.now < s.buf.auditAt + ms * 1000000 then s
  else
    let held := s.mac.flatMap (fun e =>
      (e.2.cur.toList ++ e.2.held.toList ++ e.2.inq).flatMap (fun f => f.cells))
    { s with buf := { s.buf with walking := true, auditAt := s.clk.now, marked := held, leaked := s.unmarkedCells,
                                 pktLeaked := s.unmarkedPkts, copyLeaked := s.unmarkedCopies } }

/-- The walk ends (R309 to R312). Conventions: log entry 35 (DEDUCED). -/
def State.auditWalkDone (s : State) : State :=
  if ¬ s.buf.walking then s
  else
    let b := s.buf
    let un := b.leaked.filter (fun c => !b.marked.contains c)
    let orphan (now before : List Nat) : List Nat := now.filter (fun c => before.contains c)
    let reclaim := s.on F.BUF_AUDIT_RECLAIM
    let oc := if reclaim then orphan un b.suspects else []
    let op := if reclaim then orphan b.pktLeaked b.pktSuspects else []
    let ok := if reclaim then orphan b.copyLeaked b.copySuspects else []
    let keep (l o : List Nat) : List Nat := l.filter (fun c => !o.contains c)
    let s := { s with buf := { b with
      walking := false, marked := [], cells := b.cells.addAll oc, pkts := b.pkts.addAll op, copies := b.copies.addAll ok,
      leaked := keep b.leaked oc, pktLeaked := keep b.pktLeaked op, copyLeaked := keep b.copyLeaked ok,
      suspects := keep un oc, pktSuspects := keep b.pktLeaked op, copySuspects := keep b.copyLeaked ok } }
    let s := s.wr F.BUF_AUDIT_STATUS_SUSPECT un.length
    let s := if un = [] then s else s.raise 0x0702 0
    if oc = [] then s else ((s.add C.BUF_ORPHANS oc.length).raise 0x0701 oc.length).detect 6 0

/-- A flush of a queue begins (R315): every copy not in transmission is unlinked. -/
def State.flushQueue (s : State) (q : Nat) : State :=
  let s := (s.wr F.BUF_QFLUSH_BUSY 1).wr F.BUF_QFLUSH_QUEUE q
  ((s.queue q).filter (fun c => !s.inTx q c)).foldl (fun s c => (s.unlink q c).inc (C.BUF_Q_FLUSHED q)) s

/-- A write to BUF_QFLUSH. -/
def State.queueFlush (s : State) (value : Nat) : State :=
  let busy := s.on F.BUF_QFLUSH_BUSY
  let q := bits value 0 8
  if busy then s
  else
    let s := s.wr F.BUF_QFLUSH_QUEUE q
    if value.testBit 31 ∧ q < 224 then s.flushQueue q else s

/-- The flush ends: copies that arrived meanwhile are admitted (R315), and a flush by R314 that waited for the command begins. -/
def State.queueFlushDone (s : State) : State :=
  if s.on F.BUF_QFLUSH_BUSY then
    let held := s.buf.heldBack
    let s := { s.wr F.BUF_QFLUSH_BUSY 0 with buf := { s.buf with heldBack := [] } }
    let s := held.foldl (fun s x => (if (s.getPkt x.2.pkt).bad then s else s.offer x.1 x.2.pkt).dropRef x.2.pkt) s
    match s.buf.flushNext with
    | [] => s
    | q :: r => { s with buf := { s.buf with flushNext := r } }.flushQueue q
  else s

/-- A queue is blocked (R313): its class is paused, its gate closed, its shaper has slope 0, or its link is down. -/
def State.blocked (s : State) (q : Nat) : Bool :=
  let p := q / 8
  let t := q % 8
  (decide (p < 24) && ((s.rd (F.MAC_STATUS_PAUSED p)).testBit t || !s.linkUp p || !(s.portGates p).testBit t)) ||
    (s.on (F.EGS_Q_SHAPER_SHAPER_EN q) && s.rd (F.EGS_Q_SHAPER_IDLE_SLOPE q) == 0)

/-- Over a TIME cycle in which a queue is blocked, the time of its head stands still (R313). Conventions: log entry 35 (DEDUCED). -/
def State.holdHeads (s : State) : State :=
  s.buf.q.foldl (fun s e =>
    if s.blocked e.1 then { s with buf := { s.buf with headSince := sput 0 e.1 (sget 0 s.buf.headSince e.1 + 4) s.buf.headSince } }
    else s) s

/-- The head of a queue has stood STUCK_TIME without starting (R313, R314). Conventions: log entry 35 (DEDUCED). -/
def State.stuckHead (s : State) (q : Nat) : State :=
  let time := s.rd F.BUF_STUCK_STUCK_TIME
  match s.queue q with
  | [] => s
  | c :: _ =>
    if time = 0 ∨ s.inTx q c ∨ s.blocked q ∨ s.clk.now ≤ sget 0 s.buf.headSince q + time * 1000000 then s
    else
      let s := (s.raise 0x0703 q).inc C.BUF_STUCK_HEADS
      let s := (s.wr F.BUF_STUCK_Q_QUEUE q).wr F.BUF_STUCK_Q_VALID 1
      let s := { s with buf := { s.buf with headSince := sput 0 q s.clk.now s.buf.headSince } }
      let s := if ¬ s.on F.BUF_STUCK_FLUSH then s
        else if s.on F.BUF_QFLUSH_BUSY then { s with buf := { s.buf with flushNext := s.buf.flushNext ++ [q] } }
        else s.flushQueue q
      s.detect 7 q

end Sys2Proof.Machine
end

