-- ==== Sys2Proof/Machine/Link.lean ====
section
/-! DEFINITION. The Quosor link as the blocks use it (13, R548 to R559): sending on a virtual channel, credits, the replay buffer,
and the counter leases of 12 that travel on it. -/

namespace Sys2Proof.Machine

def State.setQlb (s : State) (q : Qlb) : State := { s with qlb := q }

/-- Unit B of the pair (R542). -/
def State.unitB (s : State) : Bool := s.on F.QLB_STATUS_UNIT
def State.duty (s : State) : Bool := s.on F.QLB_STATUS_DUTY
def State.linkIsUp (s : State) : Bool := s.on F.QLB_STATUS_LINK_UP
def State.mirroring (s : State) : Bool := s.on F.QLB_STATUS_MIRRORING
/-- ACTIVE, or DEGRADED with duty (R544). -/
def State.actsActive (s : State) : Bool := s.role == 0 || (s.role == 3 && s.duty)

/-- Octets of a link frame that carries a message: header, payload and check (Table 13-2); a mirror message counts as the largest
that VC3 carries. Conventions: log entry 46 (DEDUCED). -/
def linkBytes : LinkMsg → Nat
  | .req .. => 44
  | .rsp .. => 40
  | .frame f => f.bytes.length + 48
  | _ => 288

/-- Credits that a message takes on its channel (Table 13-3). -/
def creditsOf : LinkMsg → Nat
  | .frame f => (f.bytes.length + 255) / 256
  | _ => 1

def Qlb.credit (q : Qlb) (vc : Nat) : Nat :=
  match vc with
  | 0 => q.credit0
  | 2 => q.credit2
  | 3 => q.credit3
  | _ => 65536

def Qlb.setCredit (q : Qlb) (vc n : Nat) : Qlb :=
  match vc with
  | 0 => { q with credit0 := n }
  | 2 => { q with credit2 := n }
  | 3 => { q with credit3 := n }
  | _ => q

/-- Octets held in the replay buffer (R554). -/
def Qlb.replay (q : Qlb) : Nat := q.held.foldl (fun n f => n + linkBytes f.msg) 0

/-- Whether a message can leave now (R552, R554). -/
def Qlb.canSend (q : Qlb) (vc : Nat) (m : LinkMsg) : Bool :=
  decide (creditsOf m ≤ q.credit vc) && decide (q.replay + linkBytes m ≤ 65536)

/-- A job of any client ends with a status (R509, Tables 12-5 and 12-12). -/
def State.job (s : State) (status : Nat) : State :=
  let s := s.add64 C.CPH_JOBS_LO 1
  match status with
  | 1 => s.inc C.CPH_TAG_FAIL
  | 2 => s.inc C.CPH_KEY_EMPTY
  | 3 => s.inc C.CPH_KEY_MODE
  | 6 => s.inc C.CPH_LENGTH
  | 7 => s.inc C.CPH_ABORTED
  | _ => s

/-- A frame of a protected link is a job of the cipher engine (12, R540). -/
def State.linkJob (s : State) : State := if s.on F.CPH_QLINK_PROTECTED then s.job 0 else s

/-- A message leaves as a link frame with the next SEQ. -/
def State.emit (s : State) (vc : Nat) (m : LinkMsg) : State :=
  let q := s.qlb
  let q := { q.setCredit vc (q.credit vc - creditsOf m) with
             txSeq := (q.txSeq + 1) % 65536, txCount := if q.key.isSome then q.txCount + 1 else q.txCount, held := q.held ++ [⟨q.txSeq, vc, m⟩],
             ackAt := if q.held = [] then s.clk.now else q.ackAt }
  let s := ((s.setQlb q).inc C.QLB_LF_TX).linkJob
  if vc = 3 then s.inc C.QLB_MIRROR_TX else s

/-- A message sent on a virtual channel, or kept until credits and space allow; while the link is down nothing is sent.
Conventions: log entry 46 (DEDUCED). -/
def State.linkSend (s : State) (vc : Nat) (m : LinkMsg) : State :=
  if ¬ s.linkIsUp then s
  else if s.qlb.waiting.all (fun w => w.vc != vc) && s.qlb.canSend vc m then s.emit vc m
  else s.setQlb { s.qlb with waiting := s.qlb.waiting ++ [⟨vc, m, s.clk.now⟩] }

/-- Waiting messages that can leave do, in the order VC1, VC3, VC0, VC2 of precedence (R552). -/
def State.drainVc (s : State) (vc : Nat) : Nat → State
  | 0 => s
  | n + 1 =>
    match s.qlb.waiting.find? (fun w => w.vc == vc) with
    | none => s
    | some w =>
      if s.qlb.canSend vc w.msg then
        (({ s with qlb := { s.qlb with waiting := s.qlb.waiting.erase w } }).emit vc w.msg).drainVc vc n
      else s

def State.drainLink (s : State) : State :=
  let n := s.qlb.waiting.length
  (((s.drainVc 1 n).drainVc 3 n).drainVc 0 n).drainVc 2 n

/-- A mirror message, when mirroring runs (R566). -/
def State.mirror (s : State) (m : LinkMsg) : State := if s.mirroring then s.linkSend 3 m else s

/-- A loss in a queue of R110 to R113 that is no stamp queue of a port: event 0x0306, whose parameter the spec does not give for
it (R112). Conventions: log entries 2 (DESIGN CHOICE), 40 (DEDUCED). -/
def State.raiseLost (s : State) : State := let f := s.drawFree; f.2.raise 0x0306 (f.1 % 2 ^ 32)

-- counter leases (12, R526 to R534)

def State.lease (s : State) (i : Nat) : Lease := sget lease0 s.leases i
def State.setLease (s : State) (i : Nat) (l : Lease) : State := { s with leases := sput lease0 i l s.leases }
/-- LEASE_LOG in force: 0 to 7 act as 8 (Table 12-7), and the field's value otherwise. -/
def State.leaseLog (s : State) : Nat := max 8 (s.rd F.CPH_LEASE_LEASE_LOG)
def State.leaseCeil (s : State) (i : Nat) : Nat := sget 0 s.pers.ceil i
def State.leaseHeld (s : State) (i : Nat) : Bool := s.on (F.CPH_LEASE_STATE_HELD i)
def State.isHome (s : State) : Bool := s.on F.CPH_LEASE_HOME

/-- Ceiling C of a counter written to the persistent store (R530). -/
def State.setCeil (s : State) (i c : Nat) : State :=
  ({ s with pers := { s.pers with ceil := sput 0 i c s.pers.ceil } }).setRegN (R.CPH_LEASE_CEIL i) c

/-- A block comes into use, or waits behind the current one (R529). Conventions: log entry 45 (DEDUCED). -/
def State.takeBlock (s : State) (i g : Nat) : State :=
  let l := s.lease i
  if s.leaseHeld i then s.setLease i { l with nextBlock := some g, asked := false }
  else
    let v := g * 2 ^ s.leaseLog
    let s := s.setLease i { l with block := g, asked := false }
    let s := s.setPair (R.CPH_LEASE_NEXT_LO i) (R.CPH_LEASE_NEXT_HI i) (if v = 0 then 1 else v)
    (s.wr (F.CPH_LEASE_STATE_HELD i) 1).wr (F.CPH_LEASE_STATE_STALL i) 0

/-- C written and sent when a grant of block `g` needs it (R531). -/
def State.raiseCeil (s : State) (i g : Nat) : State :=
  let ahead := max 1 (s.rd F.CPH_LEASE_AHEAD)
  if s.leaseCeil i < g + 1 + ahead / 2 then (s.setCeil i (g + 1 + ahead)).linkSend 3 (.lease i (.ceiling (g + 1 + ahead)))
  else s

/-- The home grants the next block, to itself or to the partner (R530 to R532). Conventions: log entry 45 (DEDUCED). -/
def State.grantBlock (s : State) (i : Nat) (toHome : Bool) : State :=
  let l := s.lease i
  let g := l.unleased
  let s := if s.leaseCeil i ≤ g then s.raiseCeil i g else s
  let s := s.setLease i { l with unleased := g + 1 }
  let s := s.raiseCeil i g
  let s := s.linkSend 3 (.lease i (.grant g toHome))
  if toHome then
    if s.linkIsUp then s.setLease i { s.lease i with ackWait := some g, asked := true } else s.takeBlock i g
  else s

/-- A unit asks for a next block, of itself when it is home (R529, R532). -/
def State.askBlock (s : State) (i : Nat) : State :=
  let l := s.lease i
  if l.asked ∨ l.nextBlock.isSome then s
  else if s.isHome then s.grantBlock i true
  else if s.linkIsUp then (s.setLease i { l with asked := true }).linkSend 3 (.lease i .request)
  else s

/-- A unit out of blocks stops using the counter (R529). -/
def State.leaseStall (s : State) (i : Nat) : State :=
  if s.on (F.CPH_LEASE_STATE_STALL i) then s
  else ((s.wr (F.CPH_LEASE_STATE_STALL i) 1).inc C.CPH_LEASE_STALLS).raise 0x0D05 i

/-- What a client gets of a counter. -/
inductive Draw where
  | value (v : Nat)
  | wait
  | exhausted
  deriving DecidableEq, Repr

/-- After a value: the next of the block, or the first of the next block (R528, R529). -/
def State.advanceLease (s : State) (i v : Nat) : State :=
  let l := s.lease i
  let size := 2 ^ s.leaseLog
  let s :=
    if v + 1 < (l.block + 1) * size then s.setPair (R.CPH_LEASE_NEXT_LO i) (R.CPH_LEASE_NEXT_HI i) (v + 1)
    else
      let s := (s.setPair (R.CPH_LEASE_NEXT_LO i) (R.CPH_LEASE_NEXT_HI i) 0).wr (F.CPH_LEASE_STATE_HELD i) 0
      match l.nextBlock with
      | some g => (s.setLease i { l with nextBlock := none }).takeBlock i g
      | none => s
  if (s.lease i).nextBlock.isNone ∧ s.leaseHeld i ∧ (s.lease i).block * size + size / 2 ≤ v + 1 then s.askBlock i else s

/-- The next value of a counter (R528, R529, R534). Conventions: log entry 45 (DEDUCED). -/
def State.drawLease (s : State) (i : Nat) : State × Draw :=
  let s := if s.leaseHeld i then s else s.askBlock i
  if s.leaseHeld i then
    let v := s.pair (R.CPH_LEASE_NEXT_LO i) (R.CPH_LEASE_NEXT_HI i)
    if 2 ^ 64 ≤ (s.lease i).block * 2 ^ s.leaseLog ∨ v = 0 then (s, .exhausted)
    else (s.advanceLease i v, .value v)
  else (s.leaseStall i, .wait)

/-- A lease message of the partner (R529 to R533). Conventions: log entry 45 (DEDUCED). -/
def State.leaseMsg (s : State) (i : Nat) (m : LeaseMsg) : State :=
  let l := s.lease i
  match m with
  | .request => if s.isHome then s.grantBlock i false else s
  | .grant g toHome =>
    let s := s.setLease i { l with unleased := max l.unleased (g + 1) }
    if toHome then s.linkSend 3 (.lease i (.ack g)) else s.takeBlock i g
  | .ack g => if l.ackWait = some g then (s.setLease i { l with ackWait := none }).takeBlock i g else s
  | .ceiling c => s.setCeil i c
  | .nextUnleased b =>
    if s.mirroring ∧ 32 ≤ i then
      let s := s.setLease i { l with nextBlock := none, asked := false, unleased := b, ackWait := none }
      (s.setPair (R.CPH_LEASE_NEXT_LO i) (R.CPH_LEASE_NEXT_HI i) 0).wr (F.CPH_LEASE_STATE_HELD i) 0
    else s.setLease i { l with unleased := max l.unleased b }

/-- The link has come up: what the loss of the link took on its way is asked for, or granted, again (R529, R532). -/
def State.leaseAgain (s : State) : State :=
  s.leases.foldl (fun s e =>
    match (s.lease e.1).ackWait with
    | some g => s.linkSend 3 (.lease e.1 (.grant g true))
    | none => s.setLease e.1 { s.lease e.1 with asked := false }) s

/-- The home without a partner uses its grants at once (R532). Conventions: log entry 45 (DEDUCED). -/
def State.leaseAlone (s : State) : State :=
  s.leases.foldl (fun s e =>
    match (s.lease e.1).ackWait with
    | some g => (s.setLease e.1 { s.lease e.1 with ackWait := none }).takeBlock e.1 g
    | none => s) s

/-- Who is home (R530): unit A while both are present, and otherwise the unit alone. Conventions: log entry 45 (DEDUCED). -/
def State.setHome (s : State) (home : Bool) : State := s.wr F.CPH_LEASE_HOME (b2n home)

/-- A counter restarts from the block that holds a PN (R527). Conventions: log entry 45 (DEDUCED). -/
def State.restartLease (s : State) (i pn : Nat) : State :=
  let g := pn / 2 ^ s.leaseLog
  let l := s.lease i
  let s := s.setLease i { l with nextBlock := none, asked := false, unleased := g, ackWait := none }
  let s := s.setPair (R.CPH_LEASE_NEXT_LO i) (R.CPH_LEASE_NEXT_HI i) 0
  let s := (s.wr (F.CPH_LEASE_STATE_HELD i) 0).setCeil i (g + 1 + max 1 (s.rd F.CPH_LEASE_AHEAD))
  (s.linkSend 3 (.lease i (.nextUnleased g))).linkSend 3 (.lease i (.ceiling (s.leaseCeil i)))

end Sys2Proof.Machine
end

