-- ==== Sys2Proof/Machine/Macsec.lean ====
section
/-! DEFINITION. MACsec of a port (12, R517 to R527): protection of departing frames, and the receive outcomes of Table 12-13. -/

namespace Sys2Proof.Machine

def State.key (s : State) (slot : Nat) : Key := sget key0 s.cph.keys slot
def State.setKey (s : State) (slot : Nat) (k : Key) : State := { s with cph := { s.cph with keys := sput key0 slot k s.cph.keys } }
def State.setCph (s : State) (c : Cph) : State := { s with cph := c }

/-- A slot holds a key whose MODE has a bit (Table 12-6). -/
def State.keyFor (s : State) (slot mode : Nat) : Bool := (s.key slot).loaded && (s.key slot).mode.testBit mode

/-- Why a slot cannot serve a use that needs a MODE bit: KEY_EMPTY or KEY_MODE (R503). -/
def State.keyStatus (s : State) (slot : Nat) : Nat := if (s.key slot).loaded then 3 else 2

def msSa (p a : Nat) : Nat := p * 4 + a

/-- Frames that pass the SecY uncontrolled (R518). -/
def uncontrolled (d : List Byte) : Bool := etOf d == 0x888E || etOf d == 0x8808

/-- An XPN suite. -/
def State.msXpn (s : State) (p : Nat) : Bool := decide (2 ≤ s.rd (F.CPH_MS_CTRL_SUITE p))

/-- An association that can take over (R521). -/
def State.txReady (s : State) (p a : Nat) : Bool :=
  s.on (F.CPH_MS_TXSA_CTRL_VALID p a) && s.keyFor (s.rd (F.CPH_MS_TXSA_CTRL_SLOT p a)) 4 && !s.cph.exhausted.contains (msSa p a)

/-- PN register of a transmit association; 0 acts as 1 (R520). -/
def State.txPn (s : State) (p a : Nat) : Nat :=
  let lo := s.regN (R.CPH_MS_TXSA_PN_LO p a)
  let v := if s.msXpn p then s.regN (R.CPH_MS_TXSA_PN_HI p a) * 2 ^ 32 + lo else lo
  max 1 v

def State.txPnMax (s : State) (p : Nat) : Nat := if s.msXpn p then 2 ^ 64 - 1 else 2 ^ 32 - 1

/-- TX_AN moves (R521, R527): a shared channel's lease counter restarts from the block of the association's PN.
Conventions: log entry 44 (DEDUCED). -/
def State.moveAn (s : State) (p a : Nat) : State :=
  let s := s.wr (F.CPH_MS_CTRL_TX_AN p) a
  if s.on (F.CPH_MS_CTRL_PAIR_SHARED p) then s.restartLease (32 + p) (s.txPn p a) else s

/-- What a departing frame gets. -/
inductive TxPn where
  | send (an pn : Nat)
  | wait
  | exhausted
  deriving DecidableEq, Repr

/-- The next PN of the association in use (R520, R526, R527). -/
def State.nextPn (s : State) (p : Nat) : State × TxPn :=
  let a := s.rd (F.CPH_MS_CTRL_TX_AN p)
  if s.cph.exhausted.contains (msSa p a) then (s, .exhausted)
  else if s.on (F.CPH_MS_CTRL_PAIR_SHARED p) then
    let r := s.drawLease (32 + p)
    match r.2 with
    | .value v =>
      if s.txPnMax p < v then (r.1.setCph { r.1.cph with exhausted := msSa p a :: r.1.cph.exhausted }, .exhausted)
      else (r.1, .send a v)
    | .wait => (r.1, .wait)
    | .exhausted => (r.1.setCph { r.1.cph with exhausted := msSa p a :: r.1.cph.exhausted }, .exhausted)
  else
    let pn := s.txPn p a
    if pn = s.txPnMax p then (s.setCph { s.cph with exhausted := msSa p a :: s.cph.exhausted }, .send a pn)
    else
      let s := s.setRegN (R.CPH_MS_TXSA_PN_LO p a) (pn + 1)
      (if s.msXpn p then s.setRegN (R.CPH_MS_TXSA_PN_HI p a) ((pn + 1) / 2 ^ 32) else s, .send a pn)

/-- Event 0x0D03 when the PN in use reaches THRESH (R522). -/
def State.pnThreshold (s : State) (p a pn : Nat) : State :=
  let th := s.regN R.CPH_PN_THRESH
  let v := if s.msXpn p then pn / 2 ^ 32 else pn
  if th ≠ 0 ∧ th ≤ v ∧ ¬ s.cph.threshed.contains (msSa p a) then
    (s.setCph { s.cph with threshed := msSa p a :: s.cph.threshed }).raise 0x0D03 0
  else s

/-- The secure channel stops: each frame for protection is dropped, its job ended with COUNTER_EXHAUSTED (R521, R534). -/
def State.scStop (s : State) (p : Nat) : State :=
  let s := (s.job 4).inc (C.CPH_MS_TX_PN_EXHAUSTED p)
  if s.cph.stopped.contains p then s else (s.setCph { s.cph with stopped := p :: s.cph.stopped }).raise 0x0D04 0

/-- What selection makes of a frame on a port: sent as it is, sent under an association with a PN, dropped, or left to wait. -/
inductive Secure where
  | plain
  | under (an pn : Nat)
  | drop
  | wait
  deriving DecidableEq, Repr

/-- The association is not VALID, or its slot holds no key for MACsec: the frame is dropped, and takes no PN (R503, R520, R523).
Conventions: log entry 44 (DEDUCED). -/
def State.txDenied (s : State) (p an : Nat) : Option State :=
  let slot := s.rd (F.CPH_MS_TXSA_CTRL_SLOT p an)
  if ¬ s.on (F.CPH_MS_TXSA_CTRL_VALID p an) ∨ ¬ (s.key slot).loaded then some ((s.inc (C.CPH_MS_TX_KEY_EMPTY p)).job 2)
  else if ¬ s.keyFor slot 4 then some (s.job 3)
  else none

/-- A frame that has taken its PN is protected: it counts, and the PN may reach THRESH. Conventions: log entry 44 (DEDUCED). -/
def State.txUnder (s : State) (p an pn : Nat) : State × Secure :=
  let s := ((s.pnThreshold p an pn).job 0).inc (C.CPH_MS_TX_PROTECTED p)
  (if s.on (F.CPH_MS_CTRL_ENCRYPT p) then s.inc (C.CPH_MS_TX_ENCRYPTED p) else s, .under an pn)

/-- The next PN of the association in use, or of the one after it when that one is exhausted (R521).
Conventions: log entry 44 (DEDUCED). -/
def State.txNumber (s : State) (p : Nat) : State × Secure :=
  let r := s.nextPn p
  match r.2 with
  | .send an pn => r.1.txUnder p an pn
  | .wait => (r.1, .wait)
  | .exhausted =>
    let a := (r.1.rd (F.CPH_MS_CTRL_TX_AN p) + 1) % 4
    if r.1.txReady p a then
      let r2 := (r.1.moveAn p a).nextPn p
      match r2.2 with
      | .send an pn => r2.1.txUnder p an pn
      | .wait => (r2.1, .wait)
      | .exhausted => (r2.1.scStop p, .drop)
    else (r.1.scStop p, .drop)

/-- Protection of a departing frame (R518 to R523); a channel that has stopped drops it until TX_AN is written.
Conventions: log entry 44 (DEDUCED). -/
def State.msSelect (s : State) (p : Nat) (d : List Byte) : State × Secure :=
  if ¬ (p < 16 ∧ s.on (F.CPH_MS_CTRL_TX_EN p)) ∨ uncontrolled d then (s, .plain)
  else
    let a := s.rd (F.CPH_MS_CTRL_TX_AN p)
    if s.cph.stopped.contains p then (s.scStop p, .drop)
    else if s.cph.exhausted.contains (msSa p a) then s.txNumber p
    else
      match s.txDenied p a with
      | some s => (s, .drop)
      | none => s.txNumber p

/-- The IV of a frame: SCI and PN, or for an XPN suite SSCI and PN under the salt (R520). Conventions: log entry 7 (PRESUMED). -/
def msIv (xpn : Bool) (sci ssci pn salt : Nat) : List Byte :=
  if xpn then beBytes 12 ((ssci * 2 ^ 64 + pn) ^^^ salt) else beBytes 12 (sci * 2 ^ 32 + pn % 2 ^ 32)

/-- A protected frame: SecTAG, secure data and ICV (R519). -/
def State.msProtect (s : State) (p an pn : Nat) (d : List Byte) : List Byte :=
  let incl := s.on (F.CPH_MS_CTRL_INCLUDE_SCI p)
  let enc := s.on (F.CPH_MS_CTRL_ENCRYPT p)
  let sci := s.pair (R.CPH_MS_TXSCI_LO p) (R.CPH_MS_TXSCI_HI p)
  let data := d.drop 12
  let tci := b2n incl * 32 + b2n enc * 12 + an
  let tag := [0x88#8, 0xE5#8] ++ beBytes 1 tci ++ beBytes 1 (if data.length < 48 then data.length else 0) ++ beBytes 4 pn ++
    (if incl then beBytes 8 sci else [])
  let salt := s.regN (R.CPH_MS_TXSA_SALT2 p an) * 2 ^ 64 + s.regN (R.CPH_MS_TXSA_SALT1 p an) * 2 ^ 32 + s.regN (R.CPH_MS_TXSA_SALT0 p an)
  let iv := msIv (s.msXpn p) sci (s.regN (R.CPH_MS_TXSA_SSCI p an)) pn salt
  let key := (s.key (s.rd (F.CPH_MS_TXSA_CTRL_SLOT p an))).bytes
  let aad := d.take 12 ++ tag
  if enc then
    let r := gcmEncrypt key iv aad data
    aad ++ r.1 ++ r.2
  else aad ++ data ++ (gcmEncrypt key iv (aad ++ data) []).2

-- reception (R524, R525, Table 12-13)

/-- A SecTAG as received. -/
structure SecTag where
  e : Bool
  an : Nat
  sc : Bool
  pn : Nat
  sci : Nat
  len : Nat
  secure : Nat
  deriving DecidableEq, Repr

/-- The SecTAG of a frame without FCS: none when it is malformed (Table 12-13, row 2). -/
def secTag (d : List Byte) : Option SecTag :=
  let tci := fld d 14 1
  let sl := fld d 15 1
  let es := tci.testBit 6
  let sc := tci.testBit 5
  let scb := tci.testBit 4
  let e := tci.testBit 3
  let c := tci.testBit 2
  let len := if sc then 16 else 8
  let avail := d.length - 12 - len - 16
  if d.length < 12 + len + 16 + 2 ∨ tci.testBit 7 ∨ (es ∧ sc) ∨ (sc ∧ scb) ∨ (c ∧ ¬ e) ∨ (sl ≠ 0 ∧ (48 ≤ sl ∨ avail < sl)) ∨
      (sl ≠ 0 ∧ sl ≠ avail ∧ 60 < d.length) then none
  else some { e := e, an := tci % 4, sc := sc, pn := fld d 16 4, sci := if sc then fld d 20 8 else saOf d * 65536 + 1, len := len,
              secure := if sl ≠ 0 then sl else avail }

/-- The frame with SecTAG and ICV removed. -/
def stripSec (t : SecTag) (d : List Byte) : List Byte := d.take 12 ++ (d.drop (12 + t.len)).take t.secure

/-- The PN of an XPN frame recovered from the lowest acceptable PN (IEEE 802.1AE-2018). -/
def recoverPn (lowest pn : Nat) : Nat :=
  let hi := lowest / 2 ^ 32
  if lowest.testBit 31 ∧ ¬ pn.testBit 31 then (hi + 1) * 2 ^ 32 + pn else hi * 2 ^ 32 + pn

/-- Delivered frame and the slot that decrypted it. -/
abbrev RxSec := State × Option (List Byte × Option Nat)

/-- Rows 6 to 9 of Table 12-13. Conventions: log entry 44 (DEDUCED). -/
def State.msCheck (s : State) (p c : Nat) (t : SecTag) (d : List Byte) (strict : Bool) : RxSec :=
  let slot := s.rd (F.CPH_MS_RXSC_SA_CTRL_SLOT p c t.an)
  if ¬ s.keyFor slot 4 then ((s.inc (C.CPH_MS_RX_KEY_EMPTY p)).job (s.keyStatus slot), none)
  else
    let lo := s.regN (R.CPH_MS_RXSC_SA_NEXT_PN_LO p c t.an)
    let next := max 1 (if s.msXpn p then s.regN (R.CPH_MS_RXSC_SA_NEXT_PN_HI p c t.an) * 2 ^ 32 + lo else lo)
    let lowest := max 1 (next - s.regN (R.CPH_MS_WINDOW p))
    let pn := if s.msXpn p then recoverPn lowest t.pn else t.pn
    if s.on (F.CPH_MS_CTRL_REPLAY_PROTECT p) ∧ pn < lowest then (s.inc (C.CPH_MS_RX_LATE p), none)
    else
      let salt := s.regN (R.CPH_MS_RXSC_SA_SALT2 p c t.an) * 2 ^ 64 + s.regN (R.CPH_MS_RXSC_SA_SALT1 p c t.an) * 2 ^ 32 +
        s.regN (R.CPH_MS_RXSC_SA_SALT0 p c t.an)
      let iv := msIv (s.msXpn p) t.sci (s.regN (R.CPH_MS_RXSC_SA_SSCI p c t.an)) pn salt
      let key := (s.key slot).bytes
      let hdr := d.take (12 + t.len)
      let data := (d.drop (12 + t.len)).take t.secure
      let icv := ((d.drop (12 + t.len)).drop t.secure).take 16
      let r := if t.e then gcmDecrypt key iv hdr data else (data, (gcmDecrypt key iv (hdr ++ data) []).2)
      if r.2 ≠ icv then
        let s := s.job 1
        if strict ∨ t.e then (s.inc (C.CPH_MS_RX_NOT_VALID p), none)
        else (s.inc (C.CPH_MS_RX_INVALID p), some (d.take 12 ++ data, none))
      else if pn < next then ((s.job 0).inc (C.CPH_MS_RX_DELAYED p), some (d.take 12 ++ r.1, some slot))
      else
        let s := ((s.job 0).inc (C.CPH_MS_RX_OK p)).setRegN (R.CPH_MS_RXSC_SA_NEXT_PN_LO p c t.an) (pn + 1)
        let s := if s.msXpn p then s.setRegN (R.CPH_MS_RXSC_SA_NEXT_PN_HI p c t.an) ((pn + 1) / 2 ^ 32) else s
        (s, some (d.take 12 ++ r.1, some slot))

/-- A frame received on a port with RX_EN = 1, without FCS (Table 12-13). Conventions: log entry 44 (DEDUCED). -/
def State.msReceive (s : State) (p : Nat) (d : List Byte) : RxSec :=
  let v := s.rd (F.CPH_MS_CTRL_VALIDATE p)
  let strict := decide (2 ≤ v)
  if uncontrolled d then (s, some (d, none))
  else if etOf d ≠ 0x88E5 then
    if strict then (s.inc (C.CPH_MS_RX_NO_TAG p), none) else (s.inc (C.CPH_MS_RX_UNTAGGED p), some (d, none))
  else
    match secTag d with
    | none => (s.inc (C.CPH_MS_RX_BAD_TAG p), none)
    | some t =>
      let loose := !strict && !t.e
      match (List.range 4).find? (fun c => s.on (F.CPH_MS_RXSC_CTRL_VALID p c) &&
          decide (s.pair (R.CPH_MS_RXSC_SCI_LO p c) (R.CPH_MS_RXSC_SCI_HI p c) = t.sci)) with
      | none => (s.inc (C.CPH_MS_RX_NO_SCI p), if loose then some (stripSec t d, none) else none)
      | some c =>
        if ¬ s.on (F.CPH_MS_RXSC_SA_CTRL_VALID p c t.an) then
          (s.inc (C.CPH_MS_RX_NO_SA p), if loose then some (stripSec t d, none) else none)
        else if v = 0 ∧ ¬ t.e then (s.inc (C.CPH_MS_RX_UNCHECKED p), some (stripSec t d, none))
        else s.msCheck p c t d strict

/-- A write to CPH_MSp_CTRL.TX_AN (R521, R523, R527): the channel restarts when the association is valid and not exhausted. -/
def State.txAnWrite (s : State) (p a : Nat) : State :=
  let s := if s.rd (F.CPH_MS_CTRL_TX_AN p) = a then s else s.moveAn p a
  if s.txReady p a then s.setCph { s.cph with stopped := s.cph.stopped.filter (fun x => x != p) } else s

end Sys2Proof.Machine
end

