-- ==== Sys2Proof/Machine/Mac.lean ====
section
/-! DEFINITION. Ethernet ports (04): links, reception and its checks, pause, preemption verify, PLCA, MDIO, and a frame's way
through FWD, SCT and admission. -/

namespace Sys2Proof.Machine

/-- A port receives and transmits: the device runs, ENABLE is 1 and the link is up (R141, R664). -/
def State.portLive (s : State) (p : Nat) : Bool := s.alive && s.on (F.MAC_CTRL_ENABLE p) && s.linkUp p

-- PTP headers (03, R106, R109)

/-- The offset of the PTP header of a frame: over Ethernet, or over UDP port 319. -/
def ptpOffset (d : List Byte) : Option Nat :=
  if etOf d = 0x88F7 then some 14
  else if isV4 d ∧ fld d 23 1 = 17 ∧ fld d 20 2 % 8192 = 0 ∧ fld d (14 + ihl d * 4 + 2) 2 = 319 then some (14 + ihl d * 4 + 8)
  else if isV6 d ∧ fld d 20 1 = 17 ∧ fld d 56 2 = 319 then some 62
  else none

/-- A PTP event message: messageType 0 to 3. -/
def ptpEvent (d : List Byte) : Option Nat :=
  match ptpOffset d with
  | some o => if fld d o 1 % 16 ≤ 3 then some o else none
  | none => none

/-- The ingress stamp of a PTP event message (R109). Conventions: log entry 34 (DEDUCED). -/
def State.stampPtp (s : State) (p : Nat) (d : List Byte) (lc : Int) : State :=
  match ptpEvent d with
  | some o =>
    if s.on (F.TSU_P_CTRL_ING_EN p) then
      (s.pushStamp p 0 (stampEntry 0 (fld d o 1 % 16) (fld d (o + 30) 2) (fld d (o + 4) 1) 0 lc)).1
    else s
  | none => s

/-- The last Sync of a domain, when a frame with a correct FCS is one (R84). -/
def State.noteSync (s : State) (d : List Byte) : State :=
  match ptpOffset d with
  | some o =>
    if fld d o 1 % 16 = 0 then
      { s with clk := { s.clk with syncAt := sput 0 (fld d (o + 4) 1) (s.clk.now + 1) s.clk.syncAt } }
    else s
  | none => s

/-- A frame without its port tag, whatever Table 4-6 makes of it. -/
def stripTag (tpid : Nat) (d : List Byte) : List Byte :=
  if tpid ≠ 0 ∧ etOf d = tpid ∧ 16 ≤ d.length then d.take 12 ++ d.drop 16 else d

/-- The octets in which the stamper of a port can read a PTP header: none of a frame that MACsec encrypts (R105; 12, R524). -/
def State.visible (s : State) (p tpid : Nat) (d : List Byte) : Option (List Byte) :=
  if p < 16 ∧ s.on (F.CPH_MS_CTRL_RX_EN p) ∧ etOf d = 0x88E5 then
    match secTag d with
    | some t => if t.e then none else some (stripTag tpid (stripSec t d))
    | none => none
  else some (stripTag tpid d)

-- tags and filters on reception (R165 to R171)

/-- TPID of a port's tag: none on a transparent port, or with TPID 0 on an S-port. -/
def State.portTpid (s : State) (p : Nat) : Nat :=
  match s.rd (F.MAC_TAG_PORT_TYPE p) with
  | 1 => s.rd F.MAC_S_TPID_TPID
  | 2 => 0
  | _ => 0x8100

/-- Table 4-6 and R167: the frame with its port tag removed and its VID, PCP and DEI, or none when it is dropped. -/
def State.classify (s : State) (p tpid : Nat) (d : List Byte) : Option (List Byte × Nat × Nat × Nat) :=
  let accept := s.rd (F.MAC_TAG_ACCEPT p)
  let pvid := s.rd (F.MAC_TAG_PVID p)
  if tpid ≠ 0 ∧ etOf d = tpid ∧ 16 ≤ d.length then
    let tci := fld d 14 2
    let vid := tci % 4096
    if vid = 4095 then none
    else if vid = 0 then
      if accept = 1 ∨ pvid = 0 ∨ pvid = 4095 then none
      else some (d.take 12 ++ d.drop 16, pvid, tci / 8192, tci / 4096 % 2)
    else if accept = 2 then none
    else some (d.take 12 ++ d.drop 16, vid, tci / 8192, tci / 4096 % 2)
  else if accept = 1 ∨ pvid = 0 ∨ pvid = 4095 then none
  else some (d, pvid, s.rd (F.MAC_TAG_DEF_PCP p), 0)

/-- The octets of a port tag, or those that tell that there is none, have arrived (R157). -/
def tagKnown (tpid : Nat) (d : List Byte) : Bool :=
  decide (tpid = 0) || (decide (14 ≤ d.length) && (decide (etOf d ≠ tpid) || decide (16 ≤ d.length)))

/-- XOR of the octets of a destination address. -/
def daHash (d : List Byte) : Nat := (d.take 6).foldl (fun h b => h ^^^ b.toNat) 0

/-- The group-address hash filter rejects a frame (R170, R171). -/
def State.gfilter (s : State) (p : Nat) (d : List Byte) : Bool :=
  let h := daHash d
  s.on (F.MAC_CTRL_GFILTER_EN p) && decide (6 ≤ d.length) && isGroup (daOf d) && !isBroadcast (daOf d) && !isLinkLocal (daOf d) &&
    !(s.regN (R.MAC_GHASH0 p + 4 * (h / 32))).testBit (h % 32)

/-- The device's own MAC (14, R601). -/
def State.ownMac (s : State) : Nat := s.otp.mac

-- pause (R172 to R180)

/-- Time of pause quanta in ns at a port's speed. Conventions: log entry 31 (PRESUMED). -/
def State.quantaNs (s : State) (p q : Nat) : Nat := q * 512 * 1000000 / s.portKbps p

def State.setPaused (s : State) (p v : Nat) : State :=
  let was := s.rd (F.MAC_STATUS_PAUSED p)
  let s := s.wr (F.MAC_STATUS_PAUSED p) v
  if was = 0 ∧ v ≠ 0 then s.modPort p (fun m => { m with pausedAt := s.clk.now }) else s

/-- A pause time for class `c` (R172, R174). -/
def State.pauseClass (s : State) (p c q : Nat) : State :=
  let v := s.rd (F.MAC_STATUS_PAUSED p)
  if q = 0 then s.setPaused p (clearBit v c)
  else
    (s.modPort p (fun m => { m with pauseEnd := sput 0 c (s.clk.now + s.quantaNs p q) m.pauseEnd })).setPaused p
      (if v.testBit c then v else v + 2 ^ c)

/-- A MAC control frame: counted by check 5, and honoured when its FCS is good (R172 to R176). Conventions: log entry 31 (PRESUMED). -/
def State.macControl (s : State) (p : Nat) (d : List Byte) (good : Bool) : State :=
  let op := fld d 14 2
  let da := daOf d
  let own := da == 0x0180C2000001 || da == s.ownMac
  let pfc := s.pfcOn p
  let honour := decide (p < 16) && own &&
    ((op == 1 && !pfc && s.on (F.MAC_CTRL_PAUSE_RX_EN p)) || (op == 0x0101 && pfc))
  if ¬ honour then s.inc (C.MAC_RX_CTRL_UNSUP p)
  else
    let s := s.inc (C.MAC_RX_PAUSE p)
    if s.on (F.MAC_STATUS_PAUSE_IGNORED p) then s.inc (C.MAC_RX_PAUSE_IGN p)
    else if ¬ good then s
    else if op = 1 then (List.range 8).foldl (fun s c => s.pauseClass p c (fld d 16 2)) s
    else (List.range 8).foldl (fun s c => if (fld d 16 2).testBit c then s.pauseClass p c (fld d (18 + 2 * c) 2) else s) s

/-- Every pause in force released. -/
def State.releasePause (s : State) (p : Nat) : State :=
  (s.modPort p (fun m => { m with pauseEnd := [] })).wr (F.MAC_STATUS_PAUSED p) 0

/-- A class's pause ends (R172). -/
def State.pauseExpiry (s : State) (p c : Nat) : State :=
  if sget 0 (s.port p).pauseEnd c ≤ s.clk.now then s.setPaused p (clearBit (s.rd (F.MAC_STATUS_PAUSED p)) c) else s

/-- The pause watchdog trips, in 1 µs ticks (R179, R180). -/
def State.pauseWdTrip (s : State) (p : Nat) : State :=
  let limit := s.rd (F.MAC_PAUSE_WD_LIMIT p)
  let hold := s.rd (F.MAC_PAUSE_WD_HOLD p)
  if s.rd (F.MAC_STATUS_PAUSED p) = 0 ∨ limit = 0 ∨ (s.clk.now - (s.port p).pausedAt) / 1000 ≤ limit * 1000 then s
  else
    let s := ((s.releasePause p).inc (C.MAC_PAUSE_WD p)).raise 0x0403 p
    if hold = 0 then s
    else (s.wr (F.MAC_STATUS_PAUSE_IGNORED p) 1).modPort p (fun m => { m with ignoreEnd := s.clk.now + hold * 1000000 })

/-- The end of the time in which pause frames are ignored (R179). -/
def State.pauseIgnoredEnd (s : State) (p : Nat) : State :=
  if (s.port p).ignoreEnd ≤ s.clk.now then s.wr (F.MAC_STATUS_PAUSE_IGNORED p) 0 else s

/-- A standing request is repeated, unless XOFF and XON end it now (R177, R304). -/
def State.pauseRefresh (s : State) (p : Nat) : State :=
  let s := s.updatePause p
  let m := s.port p
  let q := s.rd (F.MAC_PAUSE_TX_QUANTA p)
  let r := s.rd (F.MAC_PAUSE_REFRESH p)
  let every := s.quantaNs p (if r = 0 then q / 2 else r)
  if m.pauseReq = 0 ∨ s.clk.now < m.refreshAt + every then s
  else (s.askPause p m.pauseReq false).modPort p (fun m => { m with refreshAt := s.clk.now })

-- reception

/-- A frame as it starts: nothing known but its octets and stamps. -/
def rxFrame0 (bytes : List Byte) : RxFrame :=
  { bytes := bytes, ended := false, dead := false, tpid := 0, pkt := none, decided := false, cells := [], vid := 0, pcp := 0,
    dei := 0, colour := 0, sc := none, mask := none, tc := 0, esiFirst := 0, spf := 0, act := timeAct0, keySlot := none, lc := 0,
    wt := 0, stampLost := false, preemptable := false, charge := none, startAt := 0, before := 0, stpid := 0, tagOct := 0,
    sdu := none }

/-- Reception accepts preemptable frames (R184). -/
def State.rxPreempt (s : State) (p : Nat) : Bool := s.on (F.MAC_CTRL_PREEMPT_EN p) && s.preemptOn p

/-- Octets of the frame in reception on a port that have arrived. -/
def State.arrived (s : State) (p : Nat) (f : RxFrame) : Nat :=
  min f.bytes.length (f.before + (s.clk.now - f.startAt) * s.portKbps p / 8000000)

/-- A new frame enters reception; a preemptable one in reception is held. Its stamp is due whatever the checks make of it (R109). -/
def State.startFrame (s : State) (p phase : Nat) (bytes : List Byte) (pre : Bool) : State :=
  let f := { rxFrame0 bytes with tpid := s.portTpid p, lc := s.rxStamp p s.clk.lc phase, wt := s.rxStamp p s.clk.wt phase,
                                 preemptable := pre, startAt := s.clk.now, stpid := s.rd F.MAC_S_TPID_TPID }
  let s := s.modPort p (fun m =>
    { m with cur := some f, held := match m.cur with
        | some c => if c.preemptable then some { c with before := s.arrived p c } else m.held
        | none => m.held })
  match s.visible p f.tpid (dropFcs bytes) with
  | some x => s.stampPtp p x f.lc
  | none => s

/-- What checks 2 to 5 make of the octets of a frame that have been received. -/
inductive Early where
  | drop (counter : Nat)
  | control
  | pass (d : List Byte) (vid pcp dei : Nat)
  deriving DecidableEq, Repr

/-- Checks 2 to 5 of Table 4-5 on octets without FCS; a check whose octets never arrived does not fail. -/
def State.earlyChecks (s : State) (p tpid : Nat) (d : List Byte) : Early :=
  if ¬ s.forwarding then .drop (C.MAC_RX_NOTREADY p)
  else
    let tag := if tagKnown tpid d then s.classify p tpid d else some (d, 0, 0, 0)
    match tag with
    | none => .drop (C.MAC_RX_TAGDROP p)
    | some (d', vid, pcp, dei) =>
      if s.gfilter p d then .drop (C.MAC_RX_GFILTER p)
      else if etOf d = 0x8808 then .control
      else .pass d' vid pcp dei

/-- Checks after 5 on a whole frame: the counter of the first that fails. -/
def State.lateCheck (s : State) (p : Nat) (raw : List Byte) (n extra : Nat) (e : RxEnd) : Option Nat :=
  if e.cutAt.isSome then some (C.MAC_RX_TRUNC p)
  else if n < 64 then some (C.MAC_RX_RUNT p)
  else if s.maxFrame p + extra < n then some (C.MAC_RX_OVERSIZE p)
  else if e.codeErr then some (C.MAC_RX_CODE p)
  else if ¬ fcsOk raw then some (C.MAC_RX_FCS p)
  else none

/-- Cut-through copies in transmission that turn out longer than their class maximum SDU (R347). -/
def State.stompLong (s : State) (id : Nat) : State :=
  let len := pktLen (s.getPkt id)
  ((s.copiesOf id).filter (fun x => s.inTx x.1 x.2 && x.2.cut && decide (s.classMaxSdu x.1 < len))).foldl (fun s x =>
    ((s.countStomp x.1 x.2).stompTx x.1 x.2 (some (s.classMaxSdu x.1 + 1))).inc (C.EGS_Q_SDU_DROP x.1)) s

/-- Cells of a frame that is dropped before admission return. -/
def State.dropFrame (s : State) (f : RxFrame) : State := if f.pkt = none then s.returnCells f.cells else s

/-- The lesser of two octets at which a copy is to end. -/
def endAt (a b : Option Nat) : Option Nat :=
  match a, b with
  | some x, some y => some (min x y)
  | some x, none => some x
  | none, y => y

/-- A frame counted as received (R157). -/
def State.countRx (s : State) (p octets : Nat) : State := (s.inc (C.MAC_RX_FRAMES p)).add64 (C.MAC_RX_OCTETS_LO p) octets

/-- The end of a frame that its decision has met while it arrived: what the policer charged too much returns (06, R257), and a frame
longer than MAX_SDU is counted and ended at the octet after it (06, R247). -/
def State.endDecided (s : State) (p : Nat) (f : RxFrame) (raw : List Byte) (e : RxEnd) : State :=
  let len := raw.length - f.tagOct
  let s := s.refund f.charge len
  let long := match f.sdu with | some (h, m) => if m ≠ 0 ∧ m < len then some (h, m) else none | none => none
  let s := match long with | some (h, _) => s.inc (C.SCT_C_SDU_OVERSIZE h) | none => s
  let bad := s.lateCheck p raw raw.length 0 e
  let s := match bad with | some c => s.inc c | none => s.countRx p raw.length
  match f.pkt with
  | none => s
  | some id =>
    if bad.isNone ∧ long.isNone then
      let r := s.fillCells f (cellsOf (pktLen (s.getPkt id)))
      if r.2.dead then r.1 else (r.1.completePkt id).stompLong id
    else
      let cut := if e.cutAt.isSome then some raw.length
        else if s.maxFrame p < raw.length then some (s.maxFrame p + 1) else none
      s.spoil id (endAt cut (long.map (fun x => x.2 + 1)))

/-- A good frame, decrypted where it was protected, waits for its decision. -/
def State.acceptFrame (s : State) (p : Nat) (f : RxFrame) (d : List Byte) (vid pcp dei : Nat) (slot : Option Nat) : State :=
  let r := s.fillCells { f with bytes := d, ended := true, vid := vid, pcp := pcp, dei := dei, keySlot := slot } (cellsOf (d.length + 4))
  if r.2.dead then r.1 else r.1.modPort p (fun m => { m with inq := m.inq ++ [r.2] })

/-- A received MAC control frame (R173). -/
def State.controlEnd (s : State) (p : Nat) (f : RxFrame) (raw d : List Byte) (e : RxEnd) : State :=
  (s.macControl p d (e.cutAt.isNone && !e.codeErr && decide (64 ≤ raw.length) && fcsOk raw)).dropFrame f

/-- What MACsec and the checks of the plaintext make of a frame that has passed checks 6 to 9 on a port with MACsec receive: tags are
read from the plaintext (R105, R157, R160; 12, R524). -/
def State.endUnsealed (s : State) (p : Nat) (f : RxFrame) (raw d : List Byte) : State :=
  let r := s.msReceive p d
  match r.2 with
  | none => (r.1.countRx p raw.length).dropFrame f
  | some (d', slot) =>
    let plain := stripTag f.tpid d'
    let s := if (r.1.visible p f.tpid d).isNone then (r.1.stampPtp p plain f.lc).noteSync plain else r.1
    match s.classify p f.tpid d' with
    | none => (s.inc (C.MAC_RX_TAGDROP p)).dropFrame f
    | some (d'', vid, pcp, dei) => (s.countRx p raw.length).acceptFrame p f d'' vid pcp dei slot

/-- Octets that protection adds to a received frame: its SecTAG and ICV (R163; 12, R524). -/
def secExtra (d : List Byte) : Nat := if etOf d = 0x88E5 then (if (fld d 14 1).testBit 5 then 32 else 24) else 0

/-- The end of a frame that has met no decision yet: the checks of Table 4-5 in order. Of a protected frame on a port with MACsec
receive, check 3 waits for the plaintext. -/
def State.endPlain (s : State) (p : Nat) (f : RxFrame) (raw : List Byte) (e : RxEnd) : State :=
  let d := if e.cutAt.isSome then raw else dropFcs raw
  let ms := decide (p < 16) && s.on (F.CPH_MS_CTRL_RX_EN p)
  if ms ∧ etOf d = 0x88E5 ∧ s.forwarding then
    if s.gfilter p d then (s.inc (C.MAC_RX_GFILTER p)).dropFrame f
    else
      match s.lateCheck p raw raw.length (secExtra d) e with
      | some c => (s.inc c).dropFrame f
      | none => s.endUnsealed p f raw d
  else
    match s.earlyChecks p f.tpid d with
    | .drop c => (s.inc c).dropFrame f
    | .control => s.controlEnd p f raw d e
    | .pass d' vid pcp dei =>
      match s.lateCheck p raw raw.length 0 e with
      | some c => (s.inc c).dropFrame f
      | none => if ms then s.endUnsealed p f raw d else (s.countRx p raw.length).acceptFrame p f d' vid pcp dei none

/-- A fragment error counts as check 2 before the device is ready (R56, R184). -/
def State.fragError (s : State) (p : Nat) : State := s.inc (if s.forwarding then C.MAC_RX_FRAG_ERR p else C.MAC_RX_NOTREADY p)

/-- A frame's last byte arrives, or it is cut short (R157, R173, R184); a whole one with a correct FCS may be a Sync, whatever the
checks make of it (03, R84). Conventions: log entry 30 (DEDUCED). -/
def State.endFrame (s : State) (p : Nat) (f : RxFrame) (e : RxEnd) : State :=
  let raw := match e.cutAt with | some n => f.bytes.take n | none => f.bytes
  let s := if e.cutAt.isNone ∧ ¬ e.fragErr ∧ fcsOk raw then
      match s.visible p f.tpid (dropFcs raw) with
      | some x => s.noteSync x
      | none => s
    else s
  if f.dead then s
  else if e.fragErr then
    let s := (s.fragError p).refund f.charge (raw.length - f.tagOct)
    match f.pkt with
    | some id => s.spoil id none
    | none => s.dropFrame f
  else if f.decided then s.endDecided p f raw e
  else s.endPlain p f raw e

/-- A new preemptable frame starts: the rest of one that was preempted never came, which is a missing fragment (R184). -/
def State.abandonHeld (s : State) (p : Nat) : State :=
  let m := s.port p
  let s := s.modPort p (fun m => { m with held := none, cur := m.cur.filter (fun f => !f.preemptable) })
  let one (s : State) (f : Option RxFrame) : State :=
    match f with
    | some f => s.endFrame p f ⟨none, false, true⟩
    | none => s
  one (one s (m.cur.filter (fun f => f.preemptable))) m.held

/-- The next fragment of a preempted frame: its octets go on, those of its packet too once it has been admitted (R184; 07, R296). -/
def State.continueFrame (s : State) (p : Nat) (f : RxFrame) (before : Nat) (bytes : List Byte) : State :=
  let all := f.bytes ++ bytes
  let s := s.modPort p (fun m =>
    { m with cur := some { f with bytes := all, before := before, startAt := s.clk.now }, held := none })
  match f.pkt with
  | some id =>
    (s.modPkt id (fun k => { k with data := k.data ++ (dropFcs all).drop (f.bytes.length - 4) })).sealCells id
  | none => s

/-- What a receiver whose link is up makes of a start delimiter (R157 check 1, R181, R182, R184). A port with PREEMPT_EN answers a verify
mPacket by a respond mPacket. Conventions: log entry 30 (DEDUCED). -/
def State.frameArrives (s : State) (p : Nat) (smd : Smd) (phase : Nat) (bytes : List Byte) : State :=
  match smd with
  | .express => s.startFrame p phase bytes false
  | .first => if s.rxPreempt p then (s.abandonHeld p).startFrame p phase bytes true else s.inc (C.MAC_RX_PREAMBLE p)
  | .continued =>
    if ¬ s.rxPreempt p then s.inc (C.MAC_RX_PREAMBLE p)
    else
      match (s.port p).held, (s.port p).cur with
      | some f, _ => s.continueFrame p f f.before bytes
      | none, some f => if f.preemptable then s.continueFrame p f (s.arrived p f) bytes else s.fragError p
      | none, none => s.fragError p
  | .verify =>
    if p < 16 ∧ s.on (F.MAC_CTRL_PREEMPT_EN p) then s.modPort p (fun m => { m with mpkts := m.mpkts ++ [false] }) else s
  | .respond =>
    if s.rd (F.MAC_STATUS_VERIFY_STATE p) = 1 ∧ (s.port p).verifySent ≠ 0 then s.wr (F.MAC_STATUS_VERIFY_STATE p) 2 else s

-- PLCA (R154 to R156)

/-- Bit times of a 10BASE-T1S segment in ns. -/
def bitTimes (n : Nat) : Nat := n * 100

/-- The node whose opportunity a port uses (R155). -/
def State.plcaOwn (s : State) (p : Nat) : Nat := if s.on (F.MAC_STATUS_PLCA_COORD p) then 0 else s.rd (F.MAC_PLCA_NODE_ID_NC p)

/-- The time of an opportunity in which nothing is sent: TO_TIMER, 0 acting as 32 (R154). -/
def State.plcaTo (s : State) (p : Nat) : Nat :=
  let t := s.rd (F.MAC_PLCA_TO_TIMER p)
  bitTimes (if t = 0 then 32 else t)

/-- The time within which a burst goes on: BURST_TMR, 0 acting as 128 (R154). -/
def State.plcaBurst (s : State) (p : Nat) : Nat :=
  let t := s.rd (F.MAC_PLCA_BURST_BURST_TMR p)
  bitTimes (if t = 0 then 128 else t)

/-- Opportunities of a cycle of the coordinator: NODE_COUNT, 0 acting as 1 and 17 to 31 as 16 (R154). -/
def State.plcaCount (s : State) (p : Nat) : Nat := max 1 (min 16 (s.rd (F.MAC_PLCA_NODE_COUNT p)))

/-- The node whose opportunity runs now, and since when (R154). The coordinator sends its beacon of 20 bit times after the last
opportunity of a cycle; another node waits there for the beacon. -/
def State.plcaNow (s : State) (p : Nat) : Nat × Nat :=
  let m := s.port p
  let at_ := if m.plcaSent = 0 then m.plcaAt else m.plcaAt + s.plcaBurst p
  let id := if m.plcaSent = 0 then m.plcaId else m.plcaId + 1
  if m.plcaSent ≠ 0 ∧ s.clk.now ≤ at_ then (m.plcaId, m.plcaAt)
  else
    let opp := s.plcaTo p
    let n := (s.clk.now - at_) / opp
    if ¬ s.on (F.MAC_STATUS_PLCA_COORD p) then (id + n, at_ + n * opp)
    else
      let left := s.plcaCount p - id
      if n < left then (id + n, at_ + n * opp)
      else
        let cycle := s.plcaCount p * opp + bitTimes 20
        let start := at_ + left * opp + bitTimes 20
        let x := start + (s.clk.now - start) / cycle * cycle
        if s.clk.now < start then (s.plcaCount p, at_ + left * opp) else ((s.clk.now - x) / opp, x + (s.clk.now - x) / opp * opp)

/-- A port transmits by CSMA/CD: PLCA is off, or the beacon has been lost (R156). -/
def State.csma (s : State) (p : Nat) : Bool :=
  !s.on (F.MAC_PLCA_PLCA_EN p) || (!s.on (F.MAC_STATUS_PLCA_COORD p) && (s.port p).beaconLost)

/-- A 10BASE-T1S port may start a frame: nothing is received from the segment, and by PLCA its own opportunity runs, with frames of the
burst left (R154 to R156). -/
def State.t1sGrant (s : State) (p : Nat) : Bool :=
  (s.port p).cur.isNone &&
    (s.csma p ||
      ((s.on (F.MAC_STATUS_PLCA_COORD p) || s.on (F.MAC_STATUS_PLCA_STATUS p)) && decide ((s.plcaNow p).1 = s.plcaOwn p) &&
        decide ((s.port p).plcaSent ≤ s.rd (F.MAC_PLCA_MAX_BC p))))

/-- A frame from the segment takes the opportunity that runs. -/
def State.plcaTaken (s : State) (p : Nat) : State :=
  if p < 16 then s
  else
    let n := s.plcaNow p
    s.modPort p (fun m => { m with plcaId := n.1, plcaAt := s.clk.now, plcaSent := 0 })

/-- The opportunity that runs ends with the frame that took it. -/
def State.plcaYield (s : State) (p : Nat) : State :=
  if p < 16 then s else s.modPort p (fun m => { m with plcaId := m.plcaId + 1, plcaAt := s.clk.now, plcaSent := 0 })

/-- The port's own frame ends: its opportunity goes on while MAX_BC allows a further frame (R154). -/
def State.plcaSentOne (s : State) (p : Nat) : State :=
  if p < 16 ∨ s.csma p then s
  else
    let n := (s.port p).plcaSent + 1
    if n ≤ s.rd (F.MAC_PLCA_MAX_BC p) then s.modPort p (fun m => { m with plcaId := s.plcaOwn p, plcaAt := s.clk.now, plcaSent := n })
    else (s.modPort p (fun m => { m with plcaId := s.plcaOwn p })).plcaYield p

/-- No beacon for 400 µs at a node that is not coordinator, from its last beacon or from link-up: counted once (R156). -/
def State.plcaBeaconLost (s : State) (p : Nat) : State :=
  let m := s.port p
  if 16 ≤ p ∧ s.linkUp p ∧ s.on (F.MAC_PLCA_PLCA_EN p) ∧ ¬ s.on (F.MAC_STATUS_PLCA_COORD p) ∧ ¬ m.beaconLost ∧
      m.beaconAt + 400000 ≤ s.clk.now then
    let s := s.modPort p (fun m => { m with beaconLost := true })
    ((s.wr (F.MAC_STATUS_PLCA_STATUS p) 0).inc (C.MAC_PLCA_BEACON_LOSS p)).raise 0x0406 p
  else s

/-- A beacon is seen: a new cycle begins (R154, R156). -/
def State.plcaBeacon (s : State) (p : Nat) : State :=
  if 16 ≤ p ∧ s.linkUp p ∧ s.on (F.MAC_PLCA_PLCA_EN p) ∧ ¬ s.on (F.MAC_STATUS_PLCA_COORD p) then
    (s.wr (F.MAC_STATUS_PLCA_STATUS p) 1).modPort p (fun m =>
      { m with beaconAt := s.clk.now, beaconLost := false, plcaId := 0, plcaAt := s.clk.now, plcaSent := 0 })
  else s

/-- A frame's stamp point crosses the reference plane of a port (R98, R109): nothing of the medium arrives while CAL_LOOP is set
(R118, R119). Conventions: log entry 30 (DEDUCED). -/
def State.frameStartRx (s : State) (p : Nat) (smd : Smd) (preambleOk : Bool) (phase : Nat) (bytes : List Byte) : State :=
  if ¬ s.portLive p ∨ s.on (F.TSU_P_CTRL_CAL_LOOP p) then s
  else if ¬ preambleOk then s.inc (C.MAC_RX_PREAMBLE p)
  else (s.plcaTaken p).frameArrives p smd phase bytes

/-- The frame in reception on a port ends. -/
def State.frameEndRx (s : State) (p : Nat) (e : RxEnd) : State :=
  match (s.port p).cur with
  | none => s
  | some f => ((s.plcaYield p).modPort p (fun m => { m with cur := none })).endFrame p f e

-- decisions (R188, R237, R297)

/-- A keep-alive of the partner is noted (13, R563). -/
def State.noteKeepAlive (s : State) (p : Nat) (d : List Byte) : State :=
  let partner := s.pair R.QLB_PARTNER_MAC_LO R.QLB_PARTNER_MAC_HI
  if p < 24 ∧ etOf d = 0x88B5 ∧ fld d 14 1 = 0x10 ∧ partner ≠ 0 ∧ saOf d = partner then s.setQlb { s.qlb with kaAt := some s.clk.now } else s

/-- A frame's decision, SCT and admission. -/
def State.decideFrame (s : State) (p : Nat) (f : RxFrame) : State × RxFrame :=
  let r := (s.noteKeepAlive p f.bytes).decide_ p f
  let f := { f with decided := true }
  match r.2 with
  | none => (r.1.returnCells f.cells, { f with cells := [] })
  | some d =>
    match r.1.sctPass p f d with
    | .error (s, t) => (s.returnCells f.cells, { f with cells := [], charge := t.charge })
    | .ok (s, t) =>
      let a := s.admitFrame p d.tc f t
      let f := { f with charge := t.charge, sdu := if f.ended then none else t.sc.map (fun h => (h, t.maxSdu)) }
      match a.2 with
      | some (id, l) => (a.1, { f with pkt := some id, cells := l })
      | none => (a.1, { f with cells := [] })

/-- A decision handed to SCT counts as a retired slot, a frame that the MAC discards after its slot was taken as a wasted one
(17, R714, R715). -/
def State.countDecision (s : State) : State := { s with cnt := { s.cnt with decided := s.cnt.decided + 1 } }
def State.countDiscard (s : State) : State := { s with cnt := { s.cnt with discarded := s.cnt.discarded + 1 } }

/-- Octets up to which the parsed headers of a frame reach behind `o` octets of tags: IPv4 options, a second tag, and the ports of a
flow key (R188). -/
def headerEnd : Nat → Nat → List Byte → Nat
  | 0, o, _ => o + 14
  | n + 1, o, d =>
    if etOf d = 0x8100 ∨ etOf d = 0x88A8 then headerEnd n (o + 4) (d.take 12 ++ d.drop 16)
    else if etOf d = 0xF1C1 then headerEnd n (o + 6) (d.take 12 ++ d.drop 18)
    else if isV4 d then o + 14 + ihl d * 4 + 4
    else if isV6 d then o + 58
    else o + 14

/-- The octets of a frame that its decision waits for: 64, or where its headers end, up to 128 (R158, R188). -/
def headerNeed (d : List Byte) : Nat := min 128 (max 64 (headerEnd 3 0 d))

/-- The buffer has no cells for the frame that a block feeds next to an internal port: the block is held by credit flow (R145). -/
def State.creditHeld (s : State) (p : Nat) : Bool :=
  decide (24 ≤ p) &&
    (match (s.port p).inq with
     | f :: _ => decide (s.freeCells < cellsOf (f.bytes.length + 4) - f.cells.length)
     | [] => false)

/-- With the headers of its next frame held, FWD takes a port's decision (R188): the oldest whole frame, or the frame in reception
once its first bytes have arrived and MACsec does not hold it back (R158, R160). A frame that the MAC rejects while it arrives gives
back its cells (07, R287), and one that the group filter rejects takes no decision (R170). Conventions: log entry 32 (DEDUCED). -/
def State.forwardingDecision (s : State) (p : Nat) : State :=
  if ¬ s.forwarding ∨ s.creditHeld p then s
  else
    match (s.port p).inq with
    | f :: r =>
      let s := s.modPort p (fun m => { m with inq := r })
      let c := s.fillCells f (cellsOf (f.bytes.length + 4))
      if c.2.dead then c.1 else (c.1.countDecision.decideFrame p c.2).1
    | [] =>
      match (s.port p).cur with
      | none => s
      | some f =>
        let d := dropFcs f.bytes
        if f.dead ∨ f.decided ∨ s.arrived p f < headerNeed d ∨ (p < 16 ∧ s.on (F.CPH_MS_CTRL_RX_EN p)) then s
        else
          match s.earlyChecks p f.tpid d with
          | .drop c =>
            let s := (s.inc c).modPort p (fun m => { m with cur := some { f with dead := true, cells := [] } })
            let s := s.returnCells f.cells
            if s.gfilter p d then s else s.countDiscard
          | .control => s
          | .pass x vid pcp dei =>
            let r := s.countDecision.decideFrame p
              { f with bytes := x, vid := vid, pcp := pcp, dei := dei, tagOct := d.length - x.length }
            r.1.modPort p (fun m => { m with cur := some { r.2 with bytes := f.bytes } })

/-- Octets of a frame in reception that its staging FIFO has to hold by now: those that have arrived without the port tag, and an R-TAG
that SCT has inserted (R275, R279). -/
def State.stagedOctets (s : State) (p : Nat) (f : RxFrame) : Nat :=
  let whole := (stripTag f.tpid (dropFcs f.bytes)).length + 4
  let tag := f.bytes.length - whole
  match f.pkt with
  | some id => min (pktLen (s.getPkt id)) (s.arrived p f - tag + (pktLen (s.getPkt id) - whole))
  | none => s.arrived p f - tag

/-- A staging FIFO takes a free cell for the frame on its way in: one when the frame starts, and a further one when the last is full
(R279, R280). -/
def State.stagingCellTake (s : State) (p : Nat) : State :=
  match (s.port p).cur with
  | none => s
  | some f =>
    let n := min (f.cells.length + 1) (max 1 (cellsOf (s.stagedOctets p f)))
    if f.dead ∨ n ≤ f.cells.length ∨ (f.decided ∧ f.pkt = none) then s
    else
      let r := s.fillCells f n
      r.1.modPort p (fun m => { m with cur := some (if r.2.dead then { r.2 with dead := false, decided := true } else r.2) })

-- links (R141 to R150, R756)

/-- Modes that a port supports (Table 4-3). -/
def modeOk (p mode : Nat) : Bool :=
  if p < 4 then decide (mode ≤ 7)
  else if p < 12 then decide (5 ≤ mode ∧ mode ≤ 7)
  else if p < 16 then mode == 8
  else mode == 9

/-- The speed in use of a link that comes up, where `speed` is what the partner or the PHY signals (R152, R756). -/
def State.speedFor (s : State) (p speed : Nat) : Nat :=
  let an := s.on (F.MAC_CTRL_AN_EN p)
  let own := s.rd (F.MAC_CTRL_SPEED p)
  match s.rd (F.MAC_CTRL_MODE p) with
  | 0 => 5
  | 1 => 5
  | 3 => 4
  | 4 => 3
  | 6 => own
  | 7 => 2
  | 9 => 0
  | _ => if an then speed else own

/-- Verify begins, or preemption starts without it (R182). -/
def State.startVerify (s : State) (p : Nat) : State :=
  if p < 16 ∧ s.on (F.MAC_CTRL_PREEMPT_EN p) then
    if s.on (F.MAC_CTRL_VERIFY_DIS p) then s.wr (F.MAC_STATUS_VERIFY_STATE p) 4
    else (s.wr (F.MAC_STATUS_VERIFY_STATE p) 1).modPort p (fun m => { m with verifySent := 0, verifyAt := s.clk.now })
  else s.wr (F.MAC_STATUS_VERIFY_STATE p) 0

/-- MODE_ERR is set and event 0x0407 raised (R142). Conventions: log entry 30 (DEDUCED). -/
def State.modeError (s : State) (p : Nat) : State := (s.wr (F.MAC_STATUS_MODE_ERR p) 1).raise 0x0407 p

/-- MAC_LINK_SUMMARY follows a port's LINK_UP (R187). -/
def State.setLink (s : State) (p : Nat) (up : Bool) : State :=
  let l := s.rd F.MAC_LINK_SUMMARY_LINK
  (s.wr (F.MAC_STATUS_LINK_UP p) (b2n up)).wr F.MAC_LINK_SUMMARY_LINK (if up then l ||| 2 ^ p else clearBit l p)

/-- Nominal gate lead in 1/16 ns (08, Table 8-3). -/
def State.nominalLead (s : State) (p : Nat) : Nat :=
  let sp := s.rd (F.MAC_STATUS_SPEED_ACT p)
  if p < 12 then nth 0 [7502 * 16, 1022 * 16, 318 * 16, 2304 * 16 / 10, 1984 * 16 / 10, 1692 * 16 / 10] sp
  else if p < 16 then nth 0 [6870 * 16, 750 * 16, 144 * 16] sp
  else 0

/-- Link establishment on a port has reached its end (Table 4-4): ports are enabled from step 11 of bring-up on (02, R53), an RGMII
port as soon as its PHY reports link, every other 1 ms after its establishment began, and a 10GBASE-KR port within the 500 ms of a
training that has not failed (R148, R149). -/
def State.linkReady (s : State) (p : Nat) : Bool :=
  let mode := s.rd (F.MAC_CTRL_MODE p)
  s.portsOn && s.on (F.MAC_CTRL_ENABLE p) && !s.linkUp p && modeOk p mode &&
    (decide (mode = 8) || decide ((s.port p).linkAt + 1000000 ≤ s.clk.now)) &&
    (decide (mode ≠ 1) || (decide (s.rd (F.MAC_STATUS_KR_STATE p) ≠ 3) && decide (s.clk.now ≤ (s.port p).krAt + 500000000)))

/-- The partner or the PHY signals the duplex of a link (R147, R152): elsewhere it is full. -/
def State.duplexSignalled (s : State) (p : Nat) : Bool :=
  s.on (F.MAC_CTRL_AN_EN p) && [2, 5, 7, 8].contains (s.rd (F.MAC_CTRL_MODE p))

/-- A link comes up (R147, R148, R149, R182; 08, R353). The coefficients that a training has agreed are free (log entry 2).
Conventions: log entry 2 (DESIGN CHOICE). -/
def State.linkComesUp (s : State) (p speed : Nat) (full : Bool) : State :=
  if ¬ s.linkReady p then s
  else if s.duplexSignalled p ∧ ¬ full then (if s.on (F.MAC_STATUS_MODE_ERR p) then s else s.modeError p)
  else
    let sp := s.speedFor p speed
    let s := ((s.setLink p true).wr (F.MAC_STATUS_SPEED_ACT p) sp).wr (F.MAC_STATUS_MODE_ERR p) 0
    let s := if s.rd (F.MAC_CTRL_MODE p) = 1 then
        let f := s.drawFree
        (f.2.wr (F.MAC_STATUS_KR_STATE p) 2).modPort p (fun m => { m with krCoef := some f.1 })
      else s
    let s := s.modPort p (fun m => { m with everUp := true, lastSpeed := sp, calWait := true, beaconAt := s.clk.now,
                                            beaconLost := false, plcaId := 0, plcaAt := s.clk.now, plcaSent := 0, leadFrom := none })
    let s := if p < 16 then
        let i := s.rd (F.EGS_P_LEAD_CFG_INIT p)
        s.wr (F.EGS_P_LEAD_LEAD p) (if i = 0 then s.nominalLead p else i)
      else s
    (s.startVerify p).raise 0x0401 p

/-- Link establishment begins on a port: Clause 72 training in MODE 0x1 (R148, R149). -/
def State.establish (s : State) (p : Nat) : State :=
  let s := s.modPort p (fun m => { m with linkAt := s.clk.now })
  if s.rd (F.MAC_CTRL_MODE p) = 1 then
    (s.wr (F.MAC_STATUS_KR_STATE p) 1).modPort p (fun m => { m with krAt := s.clk.now })
  else s.wr (F.MAC_STATUS_KR_STATE p) 0

/-- Port enabling begins, at step 11 of bring-up (02, Table 2-9). -/
def State.enablePorts (s : State) : State :=
  (List.range 24).foldl (fun s p =>
    if s.on (F.MAC_CTRL_ENABLE p) ∧ modeOk p (s.rd (F.MAC_CTRL_MODE p)) then s.establish p else s) s

/-- The frame in transmission, or its preempted rest, is abandoned (R143, R150). -/
def State.abortTx (s : State) (p : Nat) : State :=
  let m := s.port p
  let s := s.modPort p (fun m => { m with tx := none, rest := none })
  let one (s : State) (t : Option TxFrame) : State :=
    match t with
    | some t => (s.inc (C.MAC_TX_ABORT p)).unlink t.queue t.copy
    | none => s
  one (one s m.tx) m.rest

/-- A link goes down, and a 10GBASE-KR port trains anew (R99, R148, R150; 05, R218). Conventions: log entry 30 (DEDUCED). -/
def State.linkGoesDown (s : State) (p : Nat) : State :=
  if ¬ s.linkUp p then s
  else
    let m := s.port p
    let cut (s : State) (f : Option (RxFrame × Nat)) : State :=
      match f with
      | some (f, n) => s.endFrame p f ⟨some n, false, false⟩
      | none => s
    let cur := m.cur.map (fun f => (f, s.arrived p f))
    let s := s.modPort p (fun m => { m with cur := none, held := none })
    let s := cut (cut s cur) (m.held.map (fun f => (f, f.before)))
    let s := (s.abortTx p).releasePause p
    let s := (s.setLink p false).wr (F.TSU_P_QSTAT_CAL_DONE p) 0
    let s := (s.wr (F.MAC_STATUS_VERIFY_STATE p) 0).wr (F.MAC_STATUS_PLCA_STATUS p) 0
    let s := s.modPort p (fun m =>
      { m with calWait := false, ctrl := [], mpkts := [], krCoef := none, leadFrom := none, discardAt := s.clk.now })
    let s := if ¬ s.on (F.MAC_CTRL_ENABLE p) then s.wr (F.MAC_STATUS_KR_STATE p) 0 else if p < 16 then s.establish p else s
    let s := (s.inc (C.MAC_LINK_DOWNS p)).raise 0x0402 p
    if s.on (F.FWD_PORT_CTRL_FLUSH_ON_LINKDOWN p) then s.flushMac 1 p 0 else s

/-- While the link is down, the head copy of the highest class that holds one is taken and discarded (R150). -/
def State.linkdownDiscard (s : State) (p : Nat) : State :=
  if s.linkUp p ∨ s.clk.now < (s.port p).discardAt then s
  else
    match ((List.range 8).map (fun t => p * 8 + (7 - t))).find? (fun q => !(s.queue q).isEmpty) with
    | none => s
    | some q =>
      match s.queue q with
      | [] => s
      | c :: _ =>
        let pk := s.getPkt c.pkt
        let s := s.modPort p (fun m => { m with discardAt := s.clk.now + octetNs (8 + s.effLen p pk.vid (pktLen pk)) (s.portKbps p) })
        (s.popHead q).inc (C.MAC_TX_LINKDOWN p)

/-- Bits of MAC_PnCTRL that are reserved on a port (Table 4-7). -/
def macCtrlReserved (p : Nat) : Nat :=
  (if p < 16 then 0 else 2 ^ 20 + 2 ^ 18 + 2 ^ 17) + (if p < 4 then 0 else 2 ^ 19)

/-- What a write to MAC_PnCTRL does to MODE_ERR (R142): a value of MODE that the port does not support sets it, and raises the event where
the value is new or the bit was 0. -/
def State.checkMode (s : State) (p : Nat) (changed : Bool) : State :=
  if modeOk p (s.rd (F.MAC_CTRL_MODE p)) then s.wr (F.MAC_STATUS_MODE_ERR p) 0
  else if changed ∨ ¬ s.on (F.MAC_STATUS_MODE_ERR p) then s.modeError p
  else s

/-- A write to MAC_PnCTRL (R141 to R143, R148, R182). Conventions: log entry 30 (DEDUCED). -/
def State.macCtrlWrite (s : State) (p value : Nat) : State :=
  let old := s.regN (R.MAC_CTRL p)
  let r := macCtrlReserved p
  let new0 := value - (value &&& r)
  let was := s.on (F.MAC_CTRL_ENABLE p)
  let s1 := s.writeFields (R.MAC_CTRL p) new0
  let new := s1.regN (R.MAC_CTRL p)
  let will := s1.on (F.MAC_CTRL_ENABLE p)
  let relink := bits old 14 2 ≠ bits new 14 2 ∨ bits old 4 8 ≠ bits new 4 8
  let s := if was ∧ (¬ will ∨ relink) then (s.linkGoesDown p).writeFields (R.MAC_CTRL p) new0 else s1
  let s := s.checkMode p (decide (bits old 4 4 ≠ bits new 4 4))
  let s := if ¬ will then (s.wr (F.MAC_STATUS_KR_STATE p) 0).wr (F.TSU_P_QSTAT_CAL_DONE p) 0
    else if s.portsOn ∧ modeOk p (s.rd (F.MAC_CTRL_MODE p)) ∧ (¬ was ∨ relink) then s.establish p
    else s
  let s := if will ∧ ¬ was then s.modPort p (fun m => { m with everUp := false, linkAt := s.clk.now }) else s
  let v := s.rd (F.MAC_STATUS_VERIFY_STATE p)
  if s.linkUp p ∧ (v = 0 ∨ v = 3 ∨ ¬ s.on (F.MAC_CTRL_PREEMPT_EN p)) then s.startVerify p else s

/-- Clause 72 training fails (R148). -/
def State.krTrainFailed (s : State) (p : Nat) : State :=
  if s.on (F.MAC_CTRL_ENABLE p) ∧ s.rd (F.MAC_CTRL_MODE p) = 1 ∧ s.rd (F.MAC_STATUS_KR_STATE p) = 1 then
    ((s.wr (F.MAC_STATUS_KR_STATE p) 3).modPort p (fun m => { m with krAt := s.clk.now })).raise 0x0405 p
  else s

/-- The next training attempt, 100 ms after a failure (R148). -/
def State.krRetry (s : State) (p : Nat) : State :=
  if s.on (F.MAC_CTRL_ENABLE p) ∧ s.rd (F.MAC_STATUS_KR_STATE p) = 3 ∧ (s.port p).krAt + 100000000 ≤ s.clk.now then s.establish p
  else s

/-- The calibration for the present link-up is complete (R99). -/
def State.calibrationDone (s : State) (p : Nat) : State :=
  if s.linkUp p ∧ (s.port p).calWait then
    (s.modPort p (fun m => { m with calWait := false })).wr (F.TSU_P_QSTAT_CAL_DONE p) 1
  else s

/-- The verify timer of a port: the next verify mPacket, or the failure after the third (R182). Conventions: log entry 30 (DEDUCED). -/
def State.verifyTimer (s : State) (p : Nat) : State :=
  let m := s.port p
  if s.rd (F.MAC_STATUS_VERIFY_STATE p) ≠ 1 ∨ ¬ s.on (F.MAC_STATUS_TX_ON p) ∨ s.clk.now < m.verifyAt + 10000000 then s
  else if m.verifySent < 3 then
    s.modPort p (fun m => { m with verifySent := m.verifySent + 1, verifyAt := s.clk.now, mpkts := m.mpkts ++ [true] })
  else (s.wr (F.MAC_STATUS_VERIFY_STATE p) 3).raise 0x0404 p

-- 10BASE-T1S (R154 to R156; 08, R362)

/-- A collision: counted, and the frame transmitted again after a wait that the spec leaves open (R156; 08, R362; log entry 2).
Conventions: log entry 2 (DESIGN CHOICE). -/
def State.collision (s : State) (p : Nat) : State :=
  if 16 ≤ p ∧ s.csma p ∧ (s.port p).tx.isSome then
    let f := s.drawFree
    (f.2.inc (C.MAC_COLLISIONS p)).modPort p (fun m =>
      { m with tx := m.tx.map (fun t => { t with start := s.clk.now + f.1, stamped := false }) })
  else s

/-- The PLCA coordinator's ports follow duty (R155; 13, R543). Conventions: log entry 30 (DEDUCED). -/
def State.setCoord (s : State) : State :=
  (List.range 8).foldl (fun s k =>
    let was := s.on (F.MAC_STATUS_PLCA_COORD (16 + k))
    let s := s.wr (F.MAC_STATUS_PLCA_COORD (16 + k)) (b2n s.duty)
    if was = s.duty then s
    else s.modPort (16 + k) (fun m =>
      { m with beaconAt := s.clk.now, beaconLost := false, plcaId := 0, plcaAt := s.clk.now, plcaSent := 0 })) s

-- MDIO (R153)

/-- A write to MAC_MDIO_CMD: while BUSY it is dropped whole, and a START with a reserved Clause 22 OP starts no frame.
Conventions: log entry 59 (DESIGN CHOICE). -/
def State.mdioStart (s : State) (value : Nat) : State :=
  if s.on F.MAC_MDIO_CMD_BUSY then s
  else
    let s := s.writeFields R.MAC_MDIO_CMD value
    let op := bits value 11 2
    if value.testBit 14 ∧ (value.testBit 13 ∨ op = 1 ∨ op = 3) then s.wr F.MAC_MDIO_CMD_BUSY 1 else s

/-- The MDIO frame ends. Conventions: log entry 30 (DEDUCED). -/
def State.mdioDone (s : State) (data : Nat) : State :=
  if s.on F.MAC_MDIO_CMD_BUSY then
    let read := decide (2 ≤ s.rd F.MAC_MDIO_CMD_OP)
    let s := s.wr F.MAC_MDIO_CMD_BUSY 0
    if read then s.wr F.MAC_MDIO_DATA_DATA data else s
  else s

end Sys2Proof.Machine
end

