-- ==== Sys2Proof/Machine/Aud.lean ====
section
/-! DEFINITION. The audio crosspoint (09): scheduled changes, listeners, the two passes of a sample strobe, talkers, TDM ports,
the margin monitor, meters, and what the partner sends. -/

namespace Sys2Proof.Machine

def State.setAud (s : State) (a : Aud) : State := { s with aud := a }
/-- OFF, the local offset in force (R363). -/
def State.localOff (s : State) : Nat := s.rd F.AUD_LOCAL_CUR
def State.wtFree (s : State) : Bool := s.wtState == 0

-- mixes as tables (R367 to R373)

def State.tapGain (s : State) (t : Nat) : Ramp := sget (rampAt 0) s.aud.gains t
def State.tapDuck (s : State) (t : Nat) : Ramp := sget (rampAt 4194304) s.aud.ducks t
def State.setGain (s : State) (t : Nat) (r : Ramp) : State :=
  s.setAud { s.aud with gains := sput (rampAt 0) t r s.aud.gains }
def State.setDuck (s : State) (t : Nat) (r : Ramp) : State :=
  s.setAud { s.aud with ducks := sput (rampAt 4194304) t r s.aud.ducks }

/-- A tap entry comes into force: a change of GAIN starts a ramp (R373). -/
def State.setTap (s : State) (t : Nat) (w0 w1 : Word) : State :=
  let old := bits (s.tw 8 t 0) 16 16
  let new := bits w0.toNat 16 16
  let s' := s.setEntry 8 t [w0, w1]
  if old = new then s' else s'.setGain t (rampTo (s.tapGain t) (lin (sgn 16 new)) (bits w1.toNat 0 16))

/-- A committed entry of table 0x08; other indices are ignored (R367, R371). -/
def State.audCommit (s : State) (i : Nat) : State :=
  let w0 := s.reg R.AUD_STAGE0
  let w1 := s.reg R.AUD_STAGE1
  if i < 2624 then s.setTap i w0 w1
  else if 4096 ≤ i ∧ i < 4424 then s.setEntry 8 i [w0, w1]
  else s

-- scheduled changes (R377 to R383)

/-- Whether KIND and INDEX are in range, and the value of a LOCAL_OFFSET (R378). -/
def changeValid (c : AudChange) : Bool :=
  match c.kind with
  | 0 => decide (c.index < 2624)
  | 1 => decide (c.index < 328)
  | 2 => decide (c.index < 8)
  | 3 => decide (c.index < 8)
  | 4 => decide (c.index = 0) && decide (bits c.w0.toNat 0 8 ≤ 120)
  | 5 => decide (c.index < 64)
  | _ => false

/-- The change concerns outputs of the local pass. -/
def changeLocal (c : AudChange) : Bool :=
  (c.kind == 0 && decide (2048 ≤ c.index)) || (c.kind == 1 && decide (256 ≤ c.index))

/-- Order of R382: index, then unit A before unit B, then commits in order. -/
def entryBefore (a b : AudEntry) : Bool :=
  decide (a.c.esi < b.c.esi) ||
    (a.c.esi == b.c.esi && (b.unitB && !a.unitB || (a.unitB == b.unitB && decide (a.seq < b.seq))))

/-- An entry put into the queue in the order of R382. -/
def insertEntry (e : AudEntry) : List AudEntry → List AudEntry
  | [] => [e]
  | x :: r => if entryBefore e x then e :: x :: r else x :: insertEntry e r

/-- A change is queued. -/
def State.enqueueChange (s : State) (c : AudChange) (unitB own : Bool) : State :=
  let a := s.aud
  let e : AudEntry := ⟨c, unitB, own, a.seq, none, false⟩
  s.setAud { a with queue := insertEntry e a.queue, seq := a.seq + 1,
                    target := if c.kind = 4 then some (bits c.w0.toNat 0 8) else a.target }

/-- A change committed in this unit: queued and mirrored, or refused (R378 to R380). -/
def State.commitChange (s : State) (c : AudChange) : State :=
  let refuse (r k : Nat) : State := ((s.wr F.AUD_CHG_STATUS_RESULT r).inc k).raise 0x0901 0
  if ¬ changeValid c then refuse 3 C.AUD_CHG_INVALID
  else if c.esi < s.clk.esi + 96 then refuse 1 C.AUD_CHG_LATE
  else if 192 ≤ (s.aud.queue.filter (·.own)).length ∨ 256 ≤ s.aud.queue.length then refuse 2 C.AUD_CHG_FULL
  else ((s.wr F.AUD_CHG_STATUS_RESULT 0).enqueueChange c s.unitB true).mirror (.audChange c)

/-- A write to AUD_CHG_CMD: the staged values at the staged index (R377). -/
def State.chgCmd (s : State) (kind index : Nat) : State :=
  s.commitChange ⟨kind, index, s.pair R.AUD_CHG_ESI_LO R.AUD_CHG_ESI_HI, s.reg R.AUD_STAGE0, s.reg R.AUD_STAGE1⟩

/-- The pass that a change concerns has already reached its index (R381). -/
def State.changeLate (s : State) (c : AudChange) : Bool :=
  if c.kind = 4 then decide (c.esi ≤ s.clk.esi)
  else
    match (if changeLocal c then s.aud.locP else s.aud.netP) with
    | some p => decide (c.esi ≤ p)
    | none => false

/-- A change of the partner (R380, R381). -/
def State.audChange (s : State) (c : AudChange) : State :=
  if 256 ≤ s.aud.queue.length then (s.inc C.AUD_MIRROR_LOST).raise 0x0902 0
  else
    let s := if s.changeLate c then (s.inc C.AUD_MIRROR_LATE).raise 0x0902 0 else s
    s.enqueueChange c (!s.unitB) false

/-- The voices of a generator as its registers hold them (R401). -/
def State.voices (s : State) (g : Nat) : List Voice :=
  (List.range 4).map (fun v =>
    { inc := s.regN (R.AUD_TG_V_INC g v), level := s.rd (F.AUD_TG_V_LEVEL_LEVEL g v), start := s.rd (F.AUD_TG_V_START_START g v),
      duration := s.rd (F.AUD_TG_V_DUR_DURATION g v), sustain := s.on (F.AUD_TG_V_DUR_SUSTAIN g v) })

def toneGen0 : ToneGen := ⟨none, []⟩

/-- One due change in a pass: the state, and what stays of the entry. -/
def State.applyEntry (s : State) (loc : Bool) (e : AudEntry) : State × Option AudEntry :=
  match e.c.kind with
  | 0 => if changeLocal e.c = loc then (s.setTap e.c.index e.c.w0 e.c.w1, none) else (s, some e)
  | 1 => if changeLocal e.c = loc then (s.setEntry 8 (4096 + e.c.index) [e.c.w0, e.c.w1], none) else (s, some e)
  | 4 => (s, some e)
  | 5 =>
    if loc then (s, some e)
    else (s.setAud { s.aud with started := sput false e.c.index (e.c.w0.toNat.testBit 0) s.aud.started }, none)
  | k =>
    let v := match e.voices with | some v => v | none => s.voices e.c.index
    let g : ToneGen := if k = 2 then ⟨some e.c.esi, v⟩ else toneGen0
    if loc then
      if e.netDone then (s.setAud { s.aud with genLoc := sput toneGen0 e.c.index g s.aud.genLoc }, none) else (s, some e)
    else if e.netDone then (s, some e)
    else (s.setAud { s.aud with genNet := sput toneGen0 e.c.index g s.aud.genNet }, some { e with netDone := true, voices := some v })

/-- The changes due in a pass before it computes index `p`, in order (R381 to R383). -/
def State.applyDue (s : State) (loc : Bool) (p : Nat) : List AudEntry → State × List AudEntry
  | [] => (s, [])
  | e :: r =>
    if p < e.c.esi then (s, e :: r)
    else
      let a := s.applyEntry loc e
      let b := a.1.applyDue loc p r
      (b.1, match a.2 with | some e => e :: b.2 | none => b.2)

def State.applyChanges (s : State) (loc : Bool) (p : Nat) : State :=
  let r := s.applyDue loc p s.aud.queue
  r.1.setAud { r.1.aud with queue := r.2 }

/-- The local offset takes the values due at strobe `k` (R413). -/
def State.applyOffset (s : State) (k : Nat) : State :=
  let due := s.aud.queue.filter (fun e => e.c.kind == 4 && decide (e.c.esi ≤ k))
  let s := s.setAud { s.aud with queue := s.aud.queue.filter (fun e => !(e.c.kind == 4 && decide (e.c.esi ≤ k))) }
  due.foldl (fun s e => s.wr F.AUD_LOCAL_CUR (bits e.c.w0.toNat 0 8)) s

-- sources (R364, R388, R389, R401, R403, R407)

/-- Active slots of a TDM port (R396, R398). -/
def State.tdmSlots (s : State) (p : Nat) : Nat :=
  min (min (s.rd (F.AUD_TDM_CFG_SLOTS p)) 16) (16 / 2 ^ min (s.rd (F.AUD_TDM_CFG_BCLK_DIV p)) 4)

def State.tdmWidth (s : State) (p : Nat) : Nat := widthOf (s.rd (F.AUD_TDM_CFG_BITS p))

/-- The captures of unit A are used in both units (R407). -/
def State.canonical (s : State) : Bool := s.on F.AUD_CTRL_LI_CANON && s.mirroring

/-- A frame kept by strobe index. -/
def frameAt (m : Sparse (Option (Nat × List Word))) (p k : Nat) : Option (List Word) :=
  match sget none m (p * 256 + k % 256) with
  | some (i, w) => if i = k then some w else none
  | none => none

def putFrame (m : Sparse (Option (Nat × List Word))) (p k : Nat) (w : List Word) : Sparse (Option (Nat × List Word)) :=
  sput none (p * 256 + k % 256) (some (k, w)) m

/-- The capture of port `p` that LI samples of index `j` read. -/
def State.liFrameOf (s : State) (p j : Nat) : Option (List Word) :=
  if j < 5 then none
  else if s.canonical ∧ s.unitB then frameAt s.aud.liPartner p (j - 5)
  else frameAt s.aud.li p (j - 5)

/-- Slot `i` of a port carries and captures: neither its LO nor its LI number exceeds 63 (R398). -/
def State.slotUsed (s : State) (p i : Nat) : Bool :=
  decide (s.rd (F.AUD_TDM_MAP_FIRST_LO p) + i ≤ 63) && decide (s.rd (F.AUD_TDM_MAP_FIRST_LI p) + i ≤ 63)

/-- LI(i) at index `j`: of the first port one of whose slots captures it (R398). -/
def State.liSample (s : State) (i j : Nat) : Int :=
  match [0, 1, 2, 3].find? (fun p =>
      decide (s.rd (F.AUD_TDM_MAP_FIRST_LI p) ≤ i) && decide (i < s.rd (F.AUD_TDM_MAP_FIRST_LI p) + s.tdmSlots p) &&
        s.slotUsed p (i - s.rd (F.AUD_TDM_MAP_FIRST_LI p))) with
  | none => 0
  | some p =>
    match s.liFrameOf p j with
    | some w => slotIn (s.tdmWidth p) (nth 0 w (i - s.rd (F.AUD_TDM_MAP_FIRST_LI p)))
    | none => 0

/-- Sample `j` of NI `x`, when it is held. -/
def State.niHeld (s : State) (x j : Nat) : Option Int :=
  match sget none s.aud.ni (x * 256 + j % 256) with
  | some (i, v) => if i = j then some v else none
  | none => none

/-- Sample `j` of EP `n`, when it lies in the written range and in system SRAM (R403). -/
def State.epSample (s : State) (n j : Nat) : Option Int :=
  let len := s.rd (F.AUD_EP_LEN_LEN n)
  let w := sget 0 s.aud.wr n
  let a := s.regN (R.AUD_EP_BASE n) + 4 * (j % len)
  if len = 0 ∨ w ≤ j ∨ j + len < w then none
  else if inSram a 4 then some (sgn 32 (s.word a))
  else none

/-- The generators that a pass reads. -/
def State.gen (s : State) (loc : Bool) (g : Nat) : ToneGen := sget toneGen0 (if loc then s.aud.genLoc else s.aud.genNet) g

/-- A listener's channels, when its CFG is in range (R384). -/
def State.listenerCh (s : State) (l : Nat) : Option Nat :=
  let ch := s.rd (F.AUD_L_CFG_CH l)
  if 1 ≤ ch ∧ ch ≤ 8 ∧ s.rd (F.AUD_L_CFG_FIRST_NI l) + ch ≤ 256 then some ch else none

/-- The listeners that map onto an NI. -/
def State.listenersOf (s : State) (x : Nat) : List Nat :=
  (List.range 64).filter (fun l =>
    match s.listenerCh l with
    | some ch => decide (s.rd (F.AUD_L_CFG_FIRST_NI l) ≤ x) && decide (x < s.rd (F.AUD_L_CFG_FIRST_NI l) + ch)
    | none => false)

def State.setConc (s : State) (loc : Bool) (x : Nat) (c : Int × Nat) : State :=
  if loc then s.setAud { s.aud with concLoc := sput (0, 0) x c s.aud.concLoc }
  else s.setAud { s.aud with concNet := sput (0, 0) x c s.aud.concNet }

/-- A pass reads NI `x` at index `j`, concealing a missing sample (R389). -/
def State.readNi (s : State) (loc : Bool) (x j : Nat) : State × Int :=
  match s.niHeld x j with
  | some v => (s.setConc loc x (v, 0), v)
  | none =>
    let c := sget (0, 0) (if loc then s.aud.concLoc else s.aud.concNet) x
    let run := min (c.2 + 1) 49
    let v := if run ≤ 48 then c.1 - c.1 / 16 else 0
    let s := if loc then s else (s.listenersOf x).foldl (fun s l => s.inc (C.AUD_L_CONCEALED l)) s
    (s.setConc loc x (v, run), v)

/-- A pass reads a source at index `j` (R364). -/
def State.readSource (s : State) (loc : Bool) (code j : Nat) : State × Int :=
  if code < 0x100 then s.readNi loc code j
  else if code < 0x140 then (s, s.liSample (code - 0x100) j)
  else if code < 0x148 then (s, genValue (s.gen loc (code - 0x140)) j)
  else if code < 0x150 then
    match s.epSample (code - 0x148) j with
    | some v => (s, v)
    | none => ((s.inc C.AUD_EP_UNDERRUN).raiseOnce 0x0906 0, 0)
  else (s, 0)

-- mixing (R370, R374 to R376)

def tapSource (w : Nat) : Nat := bits w 0 10
def tapPrio (w : Nat) : Nat := bits w 10 2
def tapForce (w : Nat) : Bool := w.testBit 12

/-- The outputs of a pass that have an entry, a ramp or an active block: any other is silent and stays so. -/
def State.liveOuts (s : State) (loc : Bool) : List Nat :=
  let t := (s.tables.filter (fun e => e.1 / 0x10000 == 8)).map (fun e =>
    let i := e.1 % 0x10000
    if i < 4096 then i / 8 else i - 4096)
  let r := (s.aud.gains.map (fun e => e.1 / 8)) ++ (s.aud.ducks.map (fun e => e.1 / 8)) ++ s.aud.act.map (·.1)
  ((t ++ r).filter (fun o => decide (256 ≤ o) == loc)).eraseDups

/-- The NIs that a pass reads whether or not a tap names them: those that a listener maps, and those that hold a sample of the index
or a value that fades. Any other NI has never held a sample: it reads 0 and stays so (R389). -/
def State.nisOf (s : State) (loc : Bool) (j : Nat) : List Nat :=
  let mapped := (List.range 64).flatMap (fun l =>
    match s.listenerCh l with
    | some ch => (List.range ch).map (s.rd (F.AUD_L_CFG_FIRST_NI l) + ·)
    | none => [])
  let held := (s.aud.ni.filter (fun e => match e.2 with | some (i, _) => i == j | none => false)).map (fun e => e.1 / 256)
  mapped ++ held ++ (if loc then s.aud.concLoc else s.aud.concNet).map (·.1)

/-- The sources that a pass reads at an index: the NIs, and what the live outputs name (R364, R389). -/
def State.sourcesOf (s : State) (loc : Bool) (j : Nat) (outs : List Nat) : List Nat :=
  (s.nisOf loc j ++
    (outs.flatMap (fun o => (List.range 8).map (fun t => tapSource (s.tw 8 (o * 8 + t) 0)))).filter (· != 0x3FF)).eraseDups

/-- Each source read once. -/
def State.readAll (s : State) (loc : Bool) (j : Nat) : List Nat → State × Sparse Int
  | [] => (s, [])
  | c :: r =>
    let a := s.readSource loc c j
    let b := a.1.readAll loc j r
    (b.1, sput 0 c a.2 b.2)

/-- The taps of an output whose FORCE is 1. -/
def State.forcedTaps (s : State) (o : Nat) : Nat :=
  (List.range 8).foldl (fun m t => if tapForce (s.tw 8 (o * 8 + t) 0) then m ||| 2 ^ t else m) 0

/-- Pmax + 1 over a mask of active taps. -/
def State.pmaxOf (s : State) (o mask : Nat) : Nat :=
  (List.range 8).foldl (fun m t => if mask.testBit t then max m (tapPrio (s.tw 8 (o * 8 + t) 0) + 1) else m) 0

/-- The duck targets of an output at a block start (R375, R376). -/
def State.duckOut (s : State) (o mask : Nat) : State :=
  let pm := s.pmaxOf o mask
  let depth := bits (s.tw 8 (4096 + o) 0) 16 16
  let s := s.setAud { s.aud with pmax := sput 0 o pm s.aud.pmax }
  (List.range 8).foldl (fun s t =>
    let i := o * 8 + t
    let r := s.tapDuck i
    let tgt : Int :=
      if depth = 0 ∨ pm ≤ tapPrio (s.tw 8 i 0) + 1 then 4194304 else if 1536 ≤ depth then 0 else lin (-(depth : Int))
    if tgt = r.b then s
    else
      let w1 := s.tw 8 (4096 + o) 1
      s.setDuck i (rampTo r tgt (if tgt < rampNow r then bits w1 16 8 * 48 else bits w1 24 8 * 384))) s

/-- The taps of an output summed at one index: the sum and the taps whose source is active (R370, R374). -/
def State.mixTaps (s : State) (o level : Nat) (src : Sparse Int) : Int × Nat :=
  (List.range 8).foldl (fun (a : Int × Nat) t =>
    let w := s.tw 8 (o * 8 + t) 0
    if tapSource w = 0x3FF then a
    else
      let x := sget 0 src (tapSource w)
      let g := (rampNow (s.tapGain (o * 8 + t)) * rampNow (s.tapDuck (o * 8 + t))) / 2 ^ 22
      (a.1 + x * g, if level ≤ x.natAbs then a.2 ||| 2 ^ t else a.2)) (0, 0)

/-- The ramps of an output advance by one sample; a DUCK_DEPTH of 0 leaves duck_now at 2^22 (R376). -/
def State.stepRamps (s : State) (o : Nat) : State :=
  (List.range 8).foldl (fun s t =>
    let i := o * 8 + t
    (s.setGain i (rampNext (s.tapGain i))).setDuck i (rampNext (s.tapDuck i))) s

def State.undduck (s : State) (o : Nat) : State :=
  if bits (s.tw 8 (4096 + o) 0) 16 16 = 0 then (List.range 8).foldl (fun s t => s.setDuck (o * 8 + t) (rampAt 4194304)) s else s

/-- One output at one index (R370). `block`: the taps of the block just ended, at the first index of a block. -/
def State.mixOut (s : State) (o : Nat) (newBlock skipped : Bool) (src : Sparse Int) : State × Int :=
  let s := if newBlock then
      let s := s.duckOut o (if skipped then s.forcedTaps o else sget 0 s.aud.act o)
      s.setAud { s.aud with act := sput 0 o 0 s.aud.act }
    else s
  let s := s.undduck o
  let m := s.mixTaps o (actLevel (sgn 16 (bits (s.tw 8 (4096 + o) 1) 0 16))) src
  let y1 := m.1 / 2 ^ 22
  let y2 := (sat32 y1 * lin (sgn 16 (bits (s.tw 8 (4096 + o) 0) 0 16))) / 2 ^ 22
  let s := if sat32 y1 ≠ y1 ∨ sat32 y2 ≠ y2 then s.inc (C.AUD_CLIP o) else s
  let s := s.setAud { s.aud with act := sput 0 o (sget 0 s.aud.act o ||| m.2 ||| s.forcedTaps o) s.aud.act }
  (s.stepRamps o, sat32 y2)

/-- The outputs of a pass at one index. -/
def State.mixAll (s : State) (newBlock skipped : Bool) (src : Sparse Int) : List Nat → State × Sparse Int
  | [] => (s, [])
  | o :: r =>
    let a := s.mixOut o newBlock skipped src
    let b := a.1.mixAll newBlock skipped src r
    (b.1, sput 0 o a.2 b.2)

-- AUD_SYNC (R567)

/-- The part of an AUD_SYNC set that a pass takes at its apply index. -/
def State.installSync (s : State) (a : AudSync) (loc : Bool) : State :=
  let mine (o : Nat) : Bool := decide (256 ≤ o) == loc
  let tapOf (i : Nat) : Nat := if i < 4096 then i / 8 else i - 4096
  let s := a.entries.foldl (fun s e => if mine (tapOf e.1) then s.setEntry 8 e.1 e.2 else s) s
  let s := a.gains.foldl (fun s e => if mine (e.1 / 8) then s.setGain e.1 e.2 else s) s
  let s := a.ducks.foldl (fun s e => if mine (e.1 / 8) then s.setDuck e.1 e.2 else s) s
  let s := s.setAud
    { s.aud with
      act := a.active.foldl (fun m e => if mine e.1 then sput 0 e.1 e.2 m else m) s.aud.act
      pmax := a.pmax.foldl (fun m e => if mine e.1 then sput 0 e.1 (e.2 + 1).toNat m else m) s.aud.pmax }
  let gens : Sparse ToneGen := (List.range 8).foldl (fun m g => sput toneGen0 g (nth toneGen0 a.gens g) m) []
  if loc then s.setAud { s.aud with genLoc := gens, sync := none, syncNet := false }
  else s.setAud
    { s.aud with genNet := gens, syncNet := true,
                 started := (List.range 64).foldl (fun m t => sput false t (nth false a.talkers t) m) [] }

/-- A set that waits is taken by a pass that reaches its apply index. -/
def State.trySync (s : State) (loc : Bool) (p : Nat) : State :=
  match s.aud.sync with
  | some a => if a.apply ≤ p ∧ loc = s.aud.syncNet then s.installSync a loc else s
  | none => s

/-- A full audio state set of the partner (R567). Conventions: log entry 37 (DEDUCED). -/
def State.audSync (s : State) (a : AudSync) : State := s.setAud { s.aud with sync := some a, syncNet := false }

/-- The state of an output's ramps `k` indices on. -/
def skipAll (k : Nat) (d : Int) (m : Sparse Ramp) : Sparse Ramp := m.foldl (fun r e => sput (rampAt d) e.1 (rampSkip e.2 k) r) []

/-- The queued tap and output changes that fall before an index, applied to the set's tables with the ramps brought forward. -/
def State.ahead (s : State) (at_ : Nat) : Nat → List AudEntry → State
  | now, [] => s.setAud { s.aud with gains := skipAll (at_ - now) 0 s.aud.gains, ducks := skipAll (at_ - now) 4194304 s.aud.ducks }
  | now, e :: r =>
    if at_ ≤ e.c.esi ∨ 2 ≤ e.c.kind then s.ahead at_ now r
    else
      let t := max now e.c.esi
      let s := s.setAud { s.aud with gains := skipAll (t - now) 0 s.aud.gains, ducks := skipAll (t - now) 4194304 s.aud.ducks }
      ((s.applyEntry (changeLocal e.c) e).1).ahead at_ t r

/-- The AUD_SYNC set of the unit with duty, as its state will stand at an index 96 samples ahead (R567).
Conventions: log entry 37 (DEDUCED). -/
def State.makeSync (s : State) : AudSync :=
  let at_ := s.clk.esi + 96
  let t := s.ahead at_ (s.clk.esi + 3) s.aud.queue
  { apply := at_,
    entries := (t.tables.filter (fun e => e.1 / 0x10000 == 8)).map (fun e => (e.1 % 0x10000, e.2)),
    gens := (List.range 8).map (fun g => s.gen false g),
    talkers := (List.range 64).map (fun k => sget false s.aud.started k),
    gains := t.aud.gains, ducks := t.aud.ducks,
    pmax := s.aud.pmax.map (fun e => (e.1, (e.2 : Int) - 1)), active := s.aud.act }

/-- The queued changes as messages, in order. -/
def State.syncChanges (s : State) : List AudChange := s.aud.queue.map (·.c)

-- level meters (R414)

/-- A sample added to a meter. -/
def meterAdd (m : Sparse (Nat × Nat)) (k : Nat) (x : Int) : Sparse (Nat × Nat) :=
  let v := sget (0, 0) m k
  sput (0, 0) k (max v.1 x.natAbs, v.2 + x.natAbs * x.natAbs) m

def meterReg (v : Nat × Nat) (n : Nat) : Nat := if n = 0 then 0x80008000 else rmsReg v.2 n * 65536 + peakReg v.1

/-- The sources that are metered: those that the network pass has read, and of the others those that may hold a sample. -/
def State.meterSources (s : State) (j : Nat) (src : Sparse Int) : Sparse Int :=
  let li := [0, 1, 2, 3].flatMap (fun p => (List.range (s.tdmSlots p)).map (fun i => 0x100 + s.rd (F.AUD_TDM_MAP_FIRST_LI p) + i))
  let tg := s.aud.genNet.map (fun e => 0x140 + e.1)
  let ep := (List.range 8).map (fun n => 0x148 + n)
  ((li.filter (fun c => decide (c < 0x140)) ++ tg ++ ep).eraseDups).foldl (fun (m : Sparse Int) c =>
    if src.any (fun e => e.1 == c) then m
    else if c < 0x140 then sput 0 c (s.liSample (c - 0x100) j) m
    else if c < 0x148 then sput 0 c (genValue (s.gen false (c - 0x140)) j) m
    else match s.epSample (c - 0x148) j with | some v => sput 0 c v m | none => m) src

/-- At an index that is a multiple of 48 × METER_PERIOD the levels of the period just ended are latched. -/
def State.meterLatch (s : State) (p : Nat) : State :=
  let per := s.rd F.AUD_METER_PERIOD_PERIOD
  if per = 0 ∨ p % (48 * per) ≠ 0 then s
  else
    let a := s.aud
    let s := (List.range 336).foldl (fun s i => s.setRegN (R.AUD_MSRC i) (meterReg (sget (0, 0) a.meterSrc i) a.meterNet)) s
    let s := (List.range 328).foldl (fun s o =>
      s.setRegN (R.AUD_MOUT o) (meterReg (sget (0, 0) a.meterOut o) (if o < 256 then a.meterNet else a.meterLoc))) s
    s.setAud { s.aud with meterSrc := [], meterOut := [], meterNet := 0, meterLoc := 0 }

-- talkers (R392 to R395, R408)

/-- The fields of an AAF stream header after the EtherType (IEEE 1722-2016, as Table 9-5 fills them).
Conventions: log entry 38 (PRESUMED). -/
def aafHeader (seq sid ts format ch depth len : Nat) : List Byte :=
  [0x02, 0x81, BitVec.ofNat 8 seq, 0] ++ beBytes 8 sid ++ beBytes 4 ts ++ [BitVec.ofNat 8 format] ++
    beBytes 2 (5 * 4096 + ch) ++ [BitVec.ofNat 8 depth] ++ beBytes 2 len ++ [0, 0]

/-- A talker's channels, when its CFG is in range (R392). -/
def State.talkerCh (s : State) (t : Nat) : Option Nat :=
  let ch := s.rd (F.AUD_T_CFG_CH t)
  if 1 ≤ ch ∧ ch ≤ 8 ∧ s.rd (F.AUD_T_CFG_FIRST_NO t) + ch ≤ 256 then some ch else none

def State.talkerSpf (s : State) (t : Nat) : Nat := if s.on (F.AUD_T_CFG_SPF t) then 12 else 6

/-- The sample bytes of a talker frame: index order, channel order within an index (Table 9-5). -/
def State.talkerSamples (s : State) (t ch spf p : Nat) : List Byte :=
  let w := widthOf (s.rd (F.AUD_T_CFG_BITS t))
  let first := s.rd (F.AUD_T_CFG_FIRST_NO t)
  (List.range spf).flatMap (fun i =>
    (List.range ch).flatMap (fun c => beBytes (w / 8) (sampleOut w (sget 0 s.aud.hist ((first + c) * 16 + (p + i) % 16)))))

/-- The digest of a talker takes the sample bytes of a frame whose first index is `p` (R408). Conventions: log entry 37 (DEDUCED). -/
def State.digestAdd (s : State) (t p : Nat) (d : List Byte) : State :=
  if ¬ s.on F.AUD_CTRL_TWIN_CHECK then s
  else
    let g := sget (0, 0) s.aud.digest t
    let h := if g.1 = p / 48 + 1 then g.2 else 0xFFFFFFFF
    s.setAud { s.aud with digest := sput (0, 0) t (p / 48 + 1, crcReg h d) s.aud.digest }

/-- A talker frame for the indices from `p` on (R393). -/
def State.talkerFrame (s : State) (t ch p : Nat) : State :=
  let spf := s.talkerSpf t
  let smp := s.talkerSamples t ch spf p
  let b := s.rd (F.AUD_T_CFG_BITS t)
  let d := beBytes 6 (s.rd (F.AUD_T_DA_HI_DA t) * 2 ^ 32 + s.regN (R.AUD_T_DA_LO t)) ++
    beBytes 6 (s.rd (F.AUD_T_SA_HI_SA t) * 2 ^ 32 + s.regN (R.AUD_T_SA_LO t)) ++ [0x22, 0xF0] ++
    aafHeader (p / spf % 256) (s.pair (R.AUD_T_SID_LO t) (R.AUD_T_SID_HI t))
      (unsgn 32 (instantOf ((p + s.rd (F.AUD_T_CFG_MTT t) : Nat) : Int))) (formatOf b) ch (widthOf b) smp.length ++ smp
  let f := { rxFrame0 d with ended := true, vid := s.rd (F.AUD_T_DA_HI_VID t), pcp := s.rd (F.AUD_T_DA_HI_PCP t), esiFirst := p,
                             spf := spf, lc := s.clk.lc, wt := s.clk.wt }
  ((s.inc (C.AUD_T_FRAMES t)).feed 25 f).digestAdd t p smp

/-- Two digests of a talker's block differ (R408). -/
def State.twinCompare (s : State) (t block : Nat) : State :=
  let k := t * 4 + block % 4
  let a := sget (0, 0) s.aud.digOwn k
  let b := sget (0, 0) s.aud.digPartner k
  if a.1 = block + 1 ∧ b.1 = block + 1 ∧ a.2 ≠ b.2 then (s.inc (C.AUD_T_TWIN_DIFF t)).raiseOnce 0x0903 0 else s

/-- The digests of a block end and go to the partner. -/
def State.digestClose (s : State) (p : Nat) : State :=
  if (p + 1) % 48 ≠ 0 ∨ ¬ s.on F.AUD_CTRL_TWIN_CHECK then s
  else
    s.aud.digest.foldl (fun s e =>
      let block := p / 48
      let s := s.setAud { s.aud with digest := sput (0, 0) e.1 (0, 0) s.aud.digest }
      if e.2.1 = block + 1 ∧ s.mirroring then
        let crc := e.2.2 ^^^ 0xFFFFFFFF
        let s := s.setAud { s.aud with digOwn := sput (0, 0) (e.1 * 4 + block % 4) (block + 1, crc) s.aud.digOwn }
        (s.mirror (.twinDigest e.1 block crc)).twinCompare e.1 block
      else s) s

/-- A digest of the partner (R408). -/
def State.twinDigest (s : State) (t block crc : Nat) : State :=
  let s := s.setAud { s.aud with digPartner := sput (0, 0) (t * 4 + block % 4) (block + 1, crc) s.aud.digPartner }
  if s.on F.AUD_CTRL_TWIN_CHECK ∧ s.mirroring then s.twinCompare t block else s

/-- The talkers at network index `p`: a frame opens at each multiple of SPF of a started talker (R392).
Conventions: log entry 37 (DEDUCED). -/
def State.talkersOpen (s : State) (p : Nat) : State :=
  let ts := (List.range 64).filter (fun t => sget false s.aud.started t || sget false s.aud.framing t)
  ts.foldl (fun s t =>
    if p % s.talkerSpf t = 0 then
      s.setAud { s.aud with framing := sput false t (sget false s.aud.started t) s.aud.framing }
    else s) s

/-- The frames whose last sample is that of the last network pass leave for P25 (R391, R392, Table 9-1).
Conventions: log entry 37 (DEDUCED). -/
def State.talkersLeave (s : State) : State :=
  match s.aud.netP with
  | none => s
  | some p =>
    let ts := (List.range 64).filter (fun t => sget false s.aud.framing t)
    let s := ts.foldl (fun s t =>
      let spf := s.talkerSpf t
      match s.talkerCh t with
      | some ch => if (p + 1) % spf = 0 ∧ spf ≤ p + 1 ∧ ¬ s.wtFree then s.talkerFrame t ch (p + 1 - spf) else s
      | none => s) s
    s.digestClose p

-- the passes (R363, R413)

/-- Whether index `p` begins a block for a pass whose last index was `last`, and whether the block before was skipped (R374). -/
def blockStart (last : Option Nat) (p : Nat) : Bool × Bool :=
  match last with
  | some l => (decide (l / 48 ≠ p / 48), decide (l / 48 + 1 ≠ p / 48))
  | none => (decide (p % 48 = 0), true)

/-- Before a pass reads index `j`, frames of unit A that this unit lacks are replaced by the own captures, each counted once (R407).
Conventions: log entry 37 (DEDUCED). -/
def State.liFallback (s : State) (j : Nat) : State :=
  if ¬ (s.canonical && s.unitB) ∨ j < 5 then s
  else
    [0, 1, 2, 3].foldl (fun s p =>
      match frameAt s.aud.liPartner p (j - 5), frameAt s.aud.li p (j - 5) with
      | none, some w =>
        (s.inc C.AUD_LI_FALLBACK).setAud { s.aud with liPartner := putFrame s.aud.liPartner p (j - 5) w }
      | _, _ => s) s

/-- The network pass computes index `p`. Conventions: log entry 37 (DEDUCED). -/
def State.networkPass (s : State) (p : Nat) : State :=
  let s := ((s.trySync false p).applyChanges false p).meterLatch p
  let s := s.liFallback p
  let b := blockStart s.aud.netP p
  let outs := s.liveOuts false
  let r := s.readAll false p (s.sourcesOf false p outs)
  let m := r.1.mixAll b.1 b.2 r.2 outs
  let s := m.1
  let s := s.setAud
    { s.aud with
      netP := some p
      hist := m.2.foldl (fun h e => sput 0 (e.1 * 16 + p % 16) e.2 h) (s.aud.hist.filter (fun e => decide (e.1 % 16 ≠ p % 16))) }
  let s := if s.rd F.AUD_METER_PERIOD_PERIOD = 0 then s
    else s.setAud
      { s.aud with
        meterSrc := (s.meterSources p r.2).foldl (fun a e => if e.1 < 0x150 then meterAdd a e.1 e.2 else a) s.aud.meterSrc
        meterOut := m.2.foldl (fun a e => meterAdd a e.1 e.2) s.aud.meterOut
        meterNet := s.aud.meterNet + 1 }
  s.talkersOpen p

/-- Engine capture of local index `p` (R405). -/
def State.capture (s : State) (p : Nat) : State :=
  (List.range 8).foldl (fun s n =>
    let len := s.rd (F.AUD_EC_LEN_LEN n)
    if len = 0 then s
    else
      let a := s.regN (R.AUD_EC_BASE n) + 4 * (p % len)
      let s := if inSram a 4 then s.storeWord a (unsgn 32 (sget 0 s.aud.lastLoc (0x140 + n))) else s
      s.setPair (R.AUD_EC_ESI_LO n) (R.AUD_EC_ESI_HI n) (p + 1)) s

/-- The local pass computes index `p`. -/
def State.localIndex (s : State) (p : Nat) : State :=
  let s := ((s.trySync true p).applyChanges true p).liFallback p
  let b := blockStart s.aud.locP p
  let outs := s.liveOuts true
  let r := s.readAll true p (s.sourcesOf true p outs)
  let m := r.1.mixAll b.1 b.2 r.2 outs
  let s := m.1.setAud { m.1.aud with locP := some p, lastLoc := m.2 }
  let s := if s.rd F.AUD_METER_PERIOD_PERIOD = 0 then s
    else s.setAud { s.aud with meterOut := m.2.foldl (fun a e => meterAdd a e.1 e.2) s.aud.meterOut, meterLoc := s.aud.meterLoc + 1 }
  s.capture p

/-- The local pass at strobe `k`: it computes an index, or repeats its last samples (R363, R413).
Conventions: log entry 37 (DEDUCED). -/
def State.localPass (s : State) (k : Nat) : State :=
  let s := s.applyOffset k
  let p := k + 2 - s.localOff
  let s := if k + 2 < s.localOff then s
    else match s.aud.locP with
      | some l => if p ≤ l then s else s.localIndex p
      | none => s.localIndex p
  -- LO samples wait one frame and are driven in the next but one (R363)
  let keep := (s.aud.pipe.filter (fun e => decide (e.1 % 2 = 0))).map (fun e => (e.1 + 1, e.2))
  let los := s.aud.lastLoc.filter (fun e => decide (0x100 ≤ e.1) && decide (e.1 < 0x140))
  s.setAud { s.aud with pipe := los.foldl (fun m e => sput 0 ((e.1 - 0x100) * 2) e.2 m) keep }

-- TDM ports (R396 to R400, R587)

/-- The slot words of a port's frame that begins now: LO samples computed two strobes ago, zeros in FREE (R391, R398). -/
def State.tdmWords (s : State) (p : Nat) : List Word :=
  let w := s.tdmWidth p
  let first := s.rd (F.AUD_TDM_MAP_FIRST_LO p)
  (List.range (s.tdmSlots p)).map (fun i =>
    if s.wtFree ∨ ¬ s.slotUsed p i then 0
    else BitVec.ofNat 32 (sampleOut w (sget 0 s.aud.pipe ((first + i) * 2 + 1)) * 2 ^ (32 - w)))

/-- Whether a port drives from this strobe on (R399, R544, R583, R587). Conventions: log entry 56 (DEDUCED). -/
def State.tdmDrives (s : State) (p : Nat) : Bool :=
  let duty := match s.qlb.handover with
    | some h => if h.tdm then !h.giver else s.actsActive
    | none => s.actsActive
  s.forwarding && !s.winding && decide (s.tdmSlots p ≠ 0) &&
    match s.rd (F.AUD_TDM_CFG_DRIVE p) with
    | 1 => duty || s.role == 2 || (s.rd F.QLB_TDM_TAKEN).testBit p
    | 2 => true
    | _ => false

/-- The bits of slot words as they follow on the line, as one number, and their count. -/
def lineBits (w : List Word) : Nat := w.foldl (fun v x => v * 2 ^ 32 + x.toNat) 0

/-- A silent line: after some differing bit every bit of the line reads 0 while the own output holds a 1 (R587). -/
def fellSilent (own line n : Nat) : Bool :=
  (List.range n).any (fun d =>
    (own.testBit d != line.testBit d) && decide (line % 2 ^ d = 0) && decide (own % 2 ^ d ≠ 0))

/-- The comparison of the frame that has ended on a port that does not drive (R400, R587). Conventions: log entry 37 (DEDUCED). -/
def State.tdmCompare (s : State) (p strobe : Nat) (line : List Word) : State :=
  let own := sget [] s.aud.tdmOwn p
  if own = [] ∨ ¬ s.on (F.AUD_TDM_STATUS_COMPARING p) then s
  else
    let l := (List.range own.length).map (fun i => nth 0 line i)
    if l = own then s
    else
      let s := ((s.inc (C.AUD_TDM_CMP_DIFF p)).raiseOnce 0x0908 0).mirror (.tdmCmp p strobe)
      if (s.rd F.QLB_TDM_TAKE_EN).testBit p ∧ ¬ s.duty ∧ fellSilent (lineBits own) (lineBits l) (32 * own.length) then
        ((s.wr F.QLB_TDM_TAKEN (s.rd F.QLB_TDM_TAKEN ||| 2 ^ p)).inc C.QLB_TDM_TAKES).raise 0x0E0A 0
      else s

/-- The frames that the previous strobe began have ended: captures and comparisons. -/
def State.tdmEnd (s : State) (prev : Nat) (tin line : List (List Word)) : State :=
  [0, 1, 2, 3].foldl (fun s p =>
    if s.tdmSlots p = 0 then s
    else
      let w := (List.range (s.tdmSlots p)).map (fun i => nth 0 (nth [] tin p) i)
      let s := s.setAud { s.aud with li := putFrame s.aud.li p prev w }
      let s := if s.canonical then s.mirror (.liFrame p prev w) else s
      s.tdmCompare p prev (nth [] line p)) s

/-- Each port begins a frame (R396). -/
def State.tdmBegin (s : State) : State :=
  [0, 1, 2, 3].foldl (fun s p =>
    let d := s.tdmDrives p
    let s := s.wr (F.AUD_TDM_STATUS_DRIVING p) (b2n d)
    let s := s.wr (F.AUD_TDM_STATUS_COMPARING p)
      (b2n (s.forwarding && decide (s.tdmSlots p ≠ 0) && decide (s.rd (F.AUD_TDM_CFG_DRIVE p) = 1) && !d))
    s.setAud { s.aud with tdmOwn := sput [] p (s.tdmWords p) s.aud.tdmOwn }) s

/-- The TDM outputs change hands at strobe E of a hand-over (R583). -/
def State.tdmHandover (s : State) (k : Nat) : State :=
  match s.qlb.handover with
  | some h => if h.index ≤ k ∧ ¬ h.tdm then s.setQlb { s.qlb with handover := some { h with tdm := true } } else s
  | none => s

/-- A partner's raw TDM input frame (R407). -/
def State.liFrame (s : State) (p strobe : Nat) (slots : List Word) : State :=
  s.setAud { s.aud with liPartner := putFrame s.aud.liPartner p strobe slots }

/-- What AUD and the TDM ports do at strobe `k`; the frames that ended began at strobe `prev` (R132). -/
def State.audStrobe (s : State) (k : Nat) (prev : Option Nat) (tin line : List (List Word)) : State :=
  let s := match prev with
    | some q => s.tdmEnd q tin line
    | none => s
  let s := (s.talkersLeave.tdmHandover k).tdmBegin
  if s.forwarding then (s.networkPass (k + 2)).localPass k else s

/-- A discontinuity of the ESI: `next` is the index of the next strobe (R390). -/
def State.audDiscontinuity (s : State) (next : Nat) : State :=
  let s := s.talkersLeave
  let a := s.aud
  let s := s.setAud
    { a with
      ni := a.ni.filter (fun e => match e.2 with | some (j, _) => decide (next + 2 ≤ j) | none => false)
      concNet := [], concLoc := [], netP := none, locP := none, framing := [], act := []
      gains := a.gains.foldl (fun m e => sput (rampAt 0) e.1 (rampAt e.2.b) m) []
      ducks := a.ducks.foldl (fun m e => sput (rampAt 4194304) e.1 (rampAt e.2.b) m) [] }
  (s.inc C.AUD_DISCONTINUITIES).raise 0x0907 0

-- listeners (R384 to R391, R410 to R412)

/-- A sample of a listener frame reaches its NI buffer (R388). -/
def State.niArrive (s : State) (l x : Nat) (j v : Int) : State :=
  let e : Int := s.clk.esi
  if e + 127 < j then s.inc (C.AUD_L_EARLY l)
  else if j + s.localOff ≤ e + 2 then s.inc (C.AUD_L_LATE_LOCAL l)
  else
    let s := if j ≤ e + 2 then s.inc (C.AUD_L_LATE_NET l) else s
    let i := j.toNat
    if (s.niHeld x i).isSome then s
    else s.setAud { s.aud with ni := sput none (x * 256 + i % 256) (some (i, v)) s.aud.ni }

/-- Bin of a margin in ns (Table 9-7). -/
def marginBin (m : Int) : Nat :=
  if m < 0 then 0 else if m < 125000 then 1 else if m < 250000 then 2 else if m < 500000 then 3 else if m < 1000000 then 4
  else if m < 2000000 then 5 else if m < 4000000 then 6 else 7

/-- AUD raises the local offset (R411, R412). A raise that R378 refuses is none. -/
def State.autoRaise (s : State) (l : Nat) (m : Int) : State :=
  let floor := s.rd F.AUD_MARGIN_FLOOR_FLOOR
  let rmax := s.rd F.AUD_LOCAL_RAISE_MAX
  let queued := s.aud.queue.any (fun e => e.c.kind == 4)
  let tgt := (match s.aud.target with | some t => if queued then t else s.localOff | none => s.localOff) + 1
  let recent := match s.aud.raiseAt with | some t => decide (s.clk.now < t + 100000000) | none => false
  let raise := s.on F.AUD_LOCAL_AUTO_RAISE && s.on (F.AUD_L_CFG_MONITOR l) && (s.actsActive || s.role == 2) &&
    decide (m + s.localOff * 20833 < (floor * 1000 : Nat)) && floor != 0 && rmax != 0 &&
    decide (tgt ≤ min (s.rd F.AUD_LOCAL_BASE + rmax) 120) && !recent
  if raise then
    let s' := s.commitChange ⟨4, 0, s.clk.esi + 96, BitVec.ofNat 32 tgt, 0⟩
    if s'.aud.seq = s.aud.seq then s'
    else ((s'.setAud { s'.aud with raiseAt := some s.clk.now }).inc C.AUD_OFFSET_RAISES).raise 0x0904 0
  else s

/-- The margin of an accepted frame whose first index is `k` (R410). -/
def State.marginSample (s : State) (l : Nat) (k : Int) : State :=
  let m := instantOf (k - 2) - s.wtNs
  let old := sgn 32 (s.regN (R.AUD_L_MARGIN_MIN l))
  let s := s.setRegN (R.AUD_L_MARGIN_MIN l) (unsgn 32 (max (-(2 ^ 31)) (min old m)))
  let b := R.AUD_L_BIN l (marginBin m)
  (s.setRegN b (min (s.regN b + 1) 0xFFFFFFFF)).autoRaise l m

/-- The AAF header of a frame passes R385 for listener `l` with `ch` channels: its stream_data_length.
Conventions: log entry 38 (PRESUMED). -/
def State.aafCheck (s : State) (l ch : Nat) (d : List Byte) : Option Nat :=
  let b := s.rd (F.AUD_L_CFG_BITS l)
  let unit := ch * widthOf b / 8
  let len := fld d 34 2
  let ok := decide (38 ≤ d.length) && decide (etOf d = 0x22F0) && decide (fld d 14 1 = 0x02) && decide (fld d 15 1 / 16 = 8) &&
    decide (fld d 15 1 % 2 = 1) && decide (fld d 30 1 = formatOf b) && decide (fld d 31 1 / 16 = 5) &&
    decide (fld d 31 2 % 1024 = ch) && decide (len % unit = 0) && decide (len / unit ≤ 12) && decide (len ≤ d.length - 38) &&
    (!s.on (F.AUD_L_CFG_CHECK_SID l) || decide (fld d 18 8 = s.pair (R.AUD_L_SID_LO l) (R.AUD_L_SID_HI l)))
  if ok then some len else none

/-- How far a timestamp lies behind the instant of an index, modulo 2^32 (R387). -/
def stampFrom (ts : Nat) (k : Int) : Int := sgn 32 (unsgn 32 ((ts : Int) - instantOf k))

/-- The index of the first sample of a frame by its avtp_timestamp (R387). -/
def nearestIndex (now ts : Nat) : Int := (now : Int) + (stampFrom ts now * 12 + 125000) / 250000

/-- That index, when the timestamp lies within 1 µs of the grid (R387). -/
def firstIndex (now ts : Nat) : Option Int :=
  let k := nearestIndex now ts
  if (stampFrom ts k).natAbs ≤ 1000 then some k else none

/-- The samples of an accepted frame, channels in frame order, from index `k` on (R384, R387). -/
def State.niFrame (s : State) (l ch len : Nat) (k : Int) (d : List Byte) : State :=
  let w := widthOf (s.rd (F.AUD_L_CFG_BITS l))
  (List.range (len / (w / 8))).foldl (fun s i =>
    s.niArrive l (s.rd (F.AUD_L_CFG_FIRST_NI l) + i % ch) (k + (i / ch : Nat)) (sampleIn w (fld d (38 + i * (w / 8)) (w / 8)))) s

/-- A frame reaches listener `l` (R384 to R391, R762); an empty one is accepted wherever its timestamp lies, and has its margin too
(R386, R410). -/
def State.listen (s : State) (l : Nat) (d : List Byte) : State :=
  match s.listenerCh l with
  | none => s.inc (C.AUD_L_FORMAT_ERR l)
  | some ch =>
    match s.aafCheck l ch d with
    | none => s.inc (C.AUD_L_FORMAT_ERR l)
    | some len =>
      if s.wtFree then s.inc (C.AUD_L_TS_MISALIGN l)
      else if len = 0 then
        ((s.inc (C.AUD_L_FRAMES l)).inc (C.AUD_L_EMPTY l)).marginSample l (nearestIndex s.clk.esi (fld d 26 4))
      else
        match firstIndex s.clk.esi (fld d 26 4) with
        | none => s.inc (C.AUD_L_TS_MISALIGN l)
        | some k => ((s.inc (C.AUD_L_FRAMES l)).niFrame l ch len k d).marginSample l k

/-- The next frame that has left through P25 reaches AUD: its listener takes it, and a frame without one is not AUD's. -/
def State.listenerFrame (s : State) : State :=
  match s.out25 with
  | [] => s
  | pk :: r =>
    let s := { s with out25 := r }
    match pk.sc with
    | some h => if s.scf h 0 1 3 = 2 then s.listen pk.listener pk.data else s
    | none => s

/-- A write to AUD_LlCFG: its CLEAR (R416). -/
def State.marginClear (s : State) (l value : Nat) : State :=
  let s := s.writeFields (R.AUD_L_CFG l) value
  if value.testBit 31 then
    let s := (List.range 8).foldl (fun s b => s.setRegN (R.AUD_L_BIN l b) 0) (s.setRegN (R.AUD_L_MARGIN_MIN l) 0x7FFFFFFF)
    s.raise 0x0905 0
  else s

/-- A write to AUD_EPn_WR_ESI_HI moves the whole index (R417). -/
def State.wrEsiHi (s : State) (n value : Nat) : State :=
  let s := s.writeFields (R.AUD_EP_WR_ESI_HI n) value
  s.setAud { s.aud with wr := sput 0 n (s.pair (R.AUD_EP_WR_ESI_LO n) (R.AUD_EP_WR_ESI_HI n)) s.aud.wr }

/-- Bring-up step 12: the offset loads, and the talkers that the image enables start (R395, AUD_LOCAL.BASE). -/
def State.audForwarding (s : State) : State :=
  let s := s.wr F.AUD_LOCAL_CUR (min (s.rd F.AUD_LOCAL_BASE) 120)
  let run := (List.range 64).foldl (fun m t => if s.on (F.AUD_T_CFG_EN t) then sput false t true m else m) s.aud.started
  s.setAud { s.aud with started := run }

end Sys2Proof.Machine
end

