-- ==== Sys2Proof/Machine/Can.lean ====
section
/-! DEFINITION. The CAN controllers (10): elements and rings, transmit buffers, starting and ending frames, errors, the trellis,
filtering and routing, and the unit without duty. -/

namespace Sys2Proof.Machine

def State.canC (s : State) (n : Nat) : CanC := sget canC0 s.can n
def State.setCan (s : State) (n : Nat) (c : CanC) : State := { s with can := sput canC0 n c s.can }
def State.modCan (s : State) (n : Nat) (f : CanC → CanC) : State := s.setCan n (f (s.canC n))
def State.canTb (s : State) (n k : Nat) : Option CanTb := sget none (s.canC n).tbs k
def State.setTb (s : State) (n k : Nat) (t : Option CanTb) : State :=
  (s.modCan n (fun c => { c with tbs := sput none k t c.tbs })).wr (F.CAN_TB_STATUS_LOADED n k) (b2n t.isSome)

-- elements (R431, R432)

/-- Data length of a classical or FD code, or of an XL frame (R431). -/
def canLen (fdf xlf : Bool) (dlc : Nat) : Nat :=
  if xlf then dlc % 2048 + 1
  else if dlc % 16 ≤ 8 then dlc % 16
  else if fdf then nth 64 [12, 16, 20, 24, 32, 48, 64] (dlc % 16 - 9) else 8

/-- Bytes of data that a frame carries. -/
def dataLen (fdf xlf rtr : Bool) (dlc : Nat) : Nat := if rtr then 0 else canLen fdf xlf dlc

def pad8 (n : Nat) : Nat := (n + 7) / 8 * 8

/-- A little-endian word of an element. -/
def elemWord (e : List Byte) (k : Nat) : Nat := leNat ((e.drop (4 * k)).take 4)

/-- Length of an element from its header (R431). -/
def elemLen (w1 : Nat) : Nat := 24 + pad8 (dataLen (w1.testBit 12) (w1.testBit 13) (w1.testBit 16) (bits w1 0 11))

/-- A frame with the fields that its format does not have at 0: identifier bits, DLC bits, and the XL fields (Table 10-3). -/
def plainFrame (f : CanFrame) : CanFrame :=
  let ide := f.ide && !f.xlf
  let x (b : Bool) : Bool := b && f.xlf
  { f with ident := if ide then f.ident else f.ident % 2048, ide := ide, brs := f.brs && f.fdf, esi := f.esi && f.fdf,
           rtr := f.rtr && !f.fdf && !f.xlf, rrs := x f.rrs, sec := x f.sec, dlc := if f.xlf then f.dlc else f.dlc % 16,
           sdt := if f.xlf then f.sdt else 0, af := if f.xlf then f.af else 0, vcid := if f.xlf then f.vcid else 0 }

/-- The frame of an element (Table 10-3). -/
def elemFrame (e : List Byte) : CanFrame :=
  let w0 := elemWord e 0
  let w1 := elemWord e 1
  plainFrame
  { ident := BitVec.ofNat 29 (if w1.testBit 17 then bits w0 0 29 else bits w0 0 11), ide := w1.testBit 17, fdf := w1.testBit 12,
    xlf := w1.testBit 13, brs := w1.testBit 14, esi := w1.testBit 15, rtr := w1.testBit 16, rrs := w1.testBit 18,
    sec := w1.testBit 19, dlc := BitVec.ofNat 11 (bits w1 0 11), sdt := BitVec.ofNat 8 (bits w1 24 8),
    af := BitVec.ofNat 32 (elemWord e 2), vcid := BitVec.ofNat 8 (bits (elemWord e 3) 0 8),
    data := (e.drop 24).take (dataLen (w1.testBit 12) (w1.testBit 13) (w1.testBit 16) (bits w1 0 11)) }

/-- The element of a frame, with the receive fields or the TAG. -/
def frameElem (frame : CanFrame) (gap : Bool) (filter tag ns sec : Nat) : List Byte :=
  let f := plainFrame frame
  let n := dataLen f.fdf f.xlf f.rtr f.dlc.toNat
  let d := (f.data ++ zeros n).take n
  let w1 := f.dlc.toNat + b2n gap * 2 ^ 11 + b2n f.fdf * 2 ^ 12 + b2n f.xlf * 2 ^ 13 + b2n f.brs * 2 ^ 14 + b2n f.esi * 2 ^ 15 +
    b2n f.rtr * 2 ^ 16 + b2n f.ide * 2 ^ 17 + b2n f.rrs * 2 ^ 18 + b2n f.sec * 2 ^ 19 + f.sdt.toNat * 2 ^ 24
  leBytes 4 f.ident.toNat ++ leBytes 4 w1 ++ leBytes 4 f.af.toNat ++
    leBytes 4 (f.vcid.toNat + filter * 256 + tag * 65536) ++ leBytes 4 ns ++ leBytes 4 sec ++ d ++ zeros (pad8 n - n)

/-- A transmit element that is invalid (R432). -/
def State.elemInvalid (s : State) (n : Nat) (e : List Byte) : Bool :=
  let w := elemWord e 1
  let fdf := w.testBit 12
  let xlf := w.testBit 13
  (fdf && xlf) || (w.testBit 16 && (fdf || xlf)) || (fdf && !s.on (F.CAN_CTRL_FD_EN n)) || (xlf && !s.on (F.CAN_CTRL_XL_EN n)) ||
    (w.testBit 14 && !fdf) || (w.testBit 17 && xlf)

-- rings (R430, R433 to R437). Rings 0 to 2 are FQ0 to FQ2, 3 and 4 are RXQ0 and RXQ1.

def ringCfg (n r : Nat) : Nat := if r < 3 then R.CAN_FQ_CFG n r else R.CAN_RXQ_CFG n (r - 3)
def ringPut (n r : Nat) : Nat := if r < 3 then R.CAN_FQ_PUT n r else R.CAN_RXQ_PUT n (r - 3)
def ringGet (n r : Nat) : Nat := if r < 3 then R.CAN_FQ_GET n r else R.CAN_RXQ_GET n (r - 3)

/-- Size of a ring in bytes: 0 when it is disabled (R430). -/
def State.ringSize (s : State) (n r : Nat) : Nat :=
  let c := s.regN (ringCfg n r)
  let b := bits c 0 8
  let z := bits c 8 8
  if 1 ≤ z ∧ z ≤ 240 ∧ 16 ≤ b ∧ b + z ≤ 256 then z * 64 else 0

/-- A ring's SIZE or BASE is out of range (R430). -/
def State.ringBad (s : State) (n r : Nat) : Bool := decide (bits (s.regN (ringCfg n r)) 8 8 ≠ 0) && s.ringSize n r == 0

def State.ringFill (s : State) (n r : Nat) : Nat := sget 0 (s.canC n).fill r
def State.setFill (s : State) (n r v : Nat) : State := s.modCan n (fun c => { c with fill := sput 0 r v c.fill })

/-- Address of the byte at an offset of a ring. -/
def State.ringAddr (s : State) (n r o : Nat) : Nat :=
  0x20A00000 + n * 0x4000 + bits (s.regN (ringCfg n r)) 0 8 * 64 + o % max 1 (s.ringSize n r)

def State.ringBytes (s : State) (n r o : Nat) : Nat → List Byte
  | 0 => []
  | k + 1 => s.byte (s.ringAddr n r o) :: s.ringBytes n r (o + 1) k

def State.ringStore (s : State) (n r : Nat) : Nat → List Byte → State
  | _, [] => s
  | o, b :: l => (s.store (s.ringAddr n r o) [b]).ringStore n r (o + 1) l

/-- Length of the element at an offset of a ring. -/
def State.elemLenAt (s : State) (n r o : Nat) : Nat := elemLen (leNat (s.ringBytes n r (o + 4) 4))

/-- The whole elements that lie from an offset on within `left` bytes. -/
def State.ringElems (s : State) (n r : Nat) : Nat → Nat → Nat → List (List Byte)
  | 0, _, _ => []
  | k + 1, o, left =>
    let len := s.elemLenAt n r o
    if left < 24 ∨ left < len then [] else s.ringBytes n r o len :: s.ringElems n r k (o + len) (left - len)

/-- Elements that a feed queue holds, the oldest first. -/
def State.fqElems (s : State) (n r : Nat) : List (List Byte) := s.ringElems n r 640 (s.regN (ringGet n r)) (s.ringFill n r)

/-- An element written at PUT, which then advances past it. Conventions: log entry 40 (DEDUCED). -/
def State.ringAppend (s : State) (n r : Nat) (e : List Byte) : State :=
  let p := s.regN (ringPut n r)
  let s := s.ringStore n r p e
  (s.setRegN (ringPut n r) ((p + e.length) % max 1 (s.ringSize n r))).setFill n r (s.ringFill n r + e.length)

/-- The head element of a feed queue is freed: GET passes it (R433). -/
def State.fqPop (s : State) (n k : Nat) : State :=
  let g := s.regN (ringGet n k)
  let len := min (s.elemLenAt n k g) (s.ringFill n k)
  (s.setRegN (ringGet n k) ((g + len) % max 1 (s.ringSize n k))).setFill n k (s.ringFill n k - len)

/-- OWNER of a feed queue: 0 firmware, 1 GLV, 2 routing; 3 acts as 0 (R434). -/
def State.fqOwner (s : State) (n k : Nat) : Nat := let o := s.rd (F.CAN_FQ_CFG_OWNER n k); if o = 3 then 0 else o

/-- An element offered by GLV or routing; the Boolean says that it was taken (R434). -/
def State.fqOffer (s : State) (n k src : Nat) (e : List Byte) : State × Bool :=
  if s.fqOwner n k ≠ src then (s.inc (C.CAN_FQ_OWNER n), false)
  else if s.ringSize n k < s.ringFill n k + e.length then (s.inc (C.CAN_FQ_FULL n), false)
  else (s.ringAppend n k e, true)

/-- This controller's duty counts, and mirrors, while the pair mirrors state (R436). -/
def State.canMirrors (s : State) (n : Nat) : Bool := s.on (F.CAN_CTRL_TX_ROLE n) && s.mirroring

/-- The unit gives the duty in a controlled hand-over that runs (R583). -/
def State.giving (s : State) : Bool := match s.qlb.handover with | some h => h.giver | none => false

/-- A firmware append is refused (R436, R583). -/
def State.canRefused (s : State) (n : Nat) : Bool :=
  (s.canMirrors n && !s.duty) || (s.on (F.CAN_CTRL_TX_ROLE n) && s.giving)

/-- Appended elements go to the partner. -/
def State.mirrorElems (s : State) (n k : Nat) : List (List Byte) → State
  | [] => s
  | e :: r => (s.mirror (.canAppend n k e)).mirrorElems n k r

/-- A firmware write of FQk_PUT (R435, R436). Conventions: log entry 40 (DEDUCED). -/
def State.fqPut (s : State) (n k value : Nat) : State :=
  let new := bits value 0 14
  let size := s.ringSize n k
  let old := s.regN (ringPut n k)
  let len := (new + size - old) % max 1 size
  if s.canRefused n then s.inc (C.CAN_FQ_NOT_DUTY n)
  else if s.fqOwner n k ≠ 0 then s.inc (C.CAN_FQ_OWNER n)
  else if size ≤ new ∨ new % 8 ≠ 0 ∨ size < s.ringFill n k + len then s.inc (C.CAN_FQ_FULL n)
  else
    let s := (s.setRegN (ringPut n k) new).setFill n k (s.ringFill n k + len)
    if s.canMirrors n then s.mirrorElems n k (s.ringElems n k 640 old len) else s

/-- PUT moves back behind the element that the TB holds (R437). -/
def State.flushRing (s : State) (n k : Nat) : State :=
  let g := s.regN (ringGet n k)
  let keep := match s.canTb n k with | some t => t.elem.length | none => 0
  (s.setRegN (ringPut n k) ((g + keep) % max 1 (s.ringSize n k))).setFill n k keep

/-- A firmware FLUSH; it is mirrored in the unit with duty (R436, R437). -/
def State.fqFlush (s : State) (n k : Nat) : State :=
  let s := s.flushRing n k
  if s.canMirrors n ∧ s.duty then s.mirror (.canFlush n k) else s

-- transmit buffers (R433, R438 to R445)

/-- An entry of the transmit event queue (R441, Table 10-8). Conventions: log entry 40 (DEDUCED). -/
def State.txEvent (s : State) (n k status tag : Nat) (sof : Option (Nat × Nat)) : State :=
  let t := match sof with | some t => t | none => (0, 0)
  let r := hqPush 16 (s.canC n).txev
    [BitVec.ofNat 32 (tag * 65536 + status * 16 + k * 4), BitVec.ofNat 32 t.1, BitVec.ofNat 32 t.2]
  let s := s.modCan n (fun c => { c with txev := r.1 })
  let s := if r.2.1 then s.inc (C.CAN_TXEV_LOST n) else s
  if r.2.2 then s.raiseLost else s

/-- TBk retires its element: the element is freed and its end reported (R433, R441). -/
def State.retire (s : State) (n k status : Nat) : State :=
  match s.canTb n k with
  | none => s
  | some t =>
    let s := ((s.setTb n k none).wr (F.CAN_TB_STATUS_STARTED n k) 0).fqPop n k
    s.txEvent n k status (bits (elemWord t.elem 3) 16 16) t.sof

/-- An empty TB loads the head of its feed queue; an invalid element is discarded (R432, R433). -/
def State.tbLoad (s : State) (n k : Nat) : State :=
  if (s.canTb n k).isSome ∨ s.ringSize n k = 0 then s
  else
    match s.ringElems n k 1 (s.regN (ringGet n k)) (s.ringFill n k) with
    | [] => s
    | e :: _ =>
      if s.elemInvalid n e then
        ((s.fqPop n k).inc (C.CAN_TX_INVALID n)).txEvent n k 2 (bits (elemWord e 3) 16 16) none
      else s.setTb n k (some ⟨e, none, s.clk.now, false⟩)

/-- The number that the arbitration field of a frame forms on the bus: the lower wins (R438; ISO 11898-1).
Conventions: log entry 39 (PRESUMED). -/
def arbitration (f : CanFrame) : Nat :=
  if f.ide then f.ident.toNat / 2 ^ 18 * 2 ^ 21 + 3 * 2 ^ 19 + f.ident.toNat % 2 ^ 18 * 2 + b2n (f.rtr && !f.fdf)
  else f.ident.toNat % 2 ^ 11 * 2 ^ 21 + b2n (if f.xlf then f.rrs else f.rtr && !f.fdf) * 2 ^ 20

/-- The winner among loaded TBs: the lowest arbitration field, and the lowest TB among equal ones. -/
def State.arbWinner (s : State) (n : Nat) : List Nat → Option (Nat × Nat)
  | [] => none
  | k :: r =>
    match s.canTb n k, s.arbWinner n r with
    | none, w => w
    | some t, none => some (k, arbitration (elemFrame t.elem))
    | some t, some (j, a) =>
      let b := arbitration (elemFrame t.elem)
      if b ≤ a then some (k, b) else some (j, a)

-- bit timing (R423, R424)

/-- BUS cycles of a bit of the arbitration phase, and of an FD or XL data phase. -/
def State.arbBit (s : State) (n : Nat) : Nat :=
  (s.rd (F.CAN_NBT_NTSEG1 n) + s.rd (F.CAN_NBT_NTSEG2 n) + 3) * (s.rd (F.CAN_NBT_NBRP n) + 1)
def State.fdBit (s : State) (n : Nat) : Nat :=
  (s.rd (F.CAN_DBT_DTSEG1 n) + s.rd (F.CAN_DBT_DTSEG2 n) + 3) * (s.rd (F.CAN_DBT_DBRP n) + 1)
def State.xlBit (s : State) (n : Nat) : Nat :=
  (s.rd (F.CAN_XBT_DTSEG1 n) + s.rd (F.CAN_XBT_DTSEG2 n) + 3) * (s.rd (F.CAN_XBT_DBRP n) + 1)

/-- A rate above the limits in an enabled phase (R424). -/
def State.rateBad (s : State) (n : Nat) : Bool :=
  decide (s.arbBit n < 160) || (s.on (F.CAN_CTRL_FD_EN n) && decide (s.fdBit n < 20)) ||
    (s.on (F.CAN_CTRL_XL_EN n) && decide (s.xlBit n < 8))

/-- Greatest number of stuff bits among `n` bits. Conventions: log entry 39 (PRESUMED). -/
def stuffBits (n : Nat) : Nat := (n - 1) / 4

/-- The length of a frame in BUS cycles with the largest number of stuff bits and 3 bits of intermission (R452; ISO 11898-1).
Conventions: log entry 39 (PRESUMED). -/
def State.frameCycles (s : State) (n : Nat) (f : CanFrame) : Nat :=
  let d := dataLen f.fdf f.xlf f.rtr f.dlc.toNat * 8
  if f.xlf then
    let arb := 18 + stuffBits 17 + 13 + 3
    let dat := 115 + d + (108 + d) / 10
    arb * s.arbBit n + dat * s.xlBit n
  else if f.fdf then
    let head := if f.ide then 36 else 17
    let all := stuffBits (head + 5 + d)
    let crc := if d ≤ 128 then 4 + 17 + 6 else 4 + 21 + 7
    let arb := head + stuffBits head + 10 + 3
    let dat := 5 + d + (all - stuffBits head) + crc
    if f.brs then arb * s.arbBit n + dat * s.fdBit n else (arb + dat) * s.arbBit n
  else
    let body := (if f.ide then 54 else 34) + d
    (body + 10 + stuffBits body + 3) * s.arbBit n

/-- fits(t, end): the frame of TBk would end before an instant of WT in ns (R452); a BUS cycle lasts 6.25 ns.
Conventions: log entry 39 (PRESUMED). -/
def State.fits (s : State) (n k : Nat) (end_ : Int) : Bool :=
  match s.canTb n k with
  | some t => decide (s.wtNs * 4 + (s.frameCycles n (elemFrame t.elem) * 25 : Nat) < end_ * 4)
  | none => false

-- the trellis (R446 to R455)

def State.ttColumns (s : State) (n : Nat) : Nat := min (s.rd (F.CAN_TT_CTRL_COLUMNS n)) 32
def State.ttCycle (s : State) (n : Nat) : Nat := s.regN (R.CAN_TT_CYCLE n)

/-- The trellis of a controller runs (R446). -/
def State.ttRuns (s : State) (n : Nat) : Bool :=
  decide (1 ≤ s.ttColumns n) && decide (s.ttCycle n ≠ 0) && decide (s.wtState ≠ 0)

/-- The columns in force: those that keep a strictly rising OFFSET below the cycle time, with their index; and whether one was left
out (R449). -/
def ttInForce (cycle : Nat) : Option Nat → Nat → List (List Word) → List (Nat × List Word) × Bool
  | _, _, [] => ([], false)
  | last, j, w :: r =>
    let o := (nth 0 w 0).toNat
    let ok := decide (o < cycle) && (match last with | some l => decide (l < o) | none => true)
    if ok then
      let x := ttInForce cycle (some o) (j + 1) r
      ((j, w) :: x.1, x.2)
    else ((ttInForce cycle last (j + 1) r).1, true)

/-- The committed columns of a controller. -/
def State.ttTable (s : State) (n : Nat) : List (List Word) := (List.range 32).map (fun j => s.entry 0xA (n * 32 + j))

/-- The columns in force of the present cycle (R449, R455). -/
def State.ttCols (s : State) (n : Nat) : List (Nat × List Word) × Bool :=
  ttInForce (s.ttCycle n) none 0 ((s.canC n).cols.take (s.ttColumns n))

def State.ttPhase (s : State) (n : Nat) : Nat := s.regN (R.CAN_TT_PHASE n) % max 1 (s.ttCycle n)

/-- The cycle that holds the present WT (R447). -/
def State.ttNow (s : State) (n : Nat) : Int := (s.wtNs - s.ttPhase n) / (max 1 (s.ttCycle n) : Nat)

/-- The columns of a new cycle come into force (R455). -/
def State.ttFresh (s : State) (n : Nat) : State :=
  let c := s.canC n
  if c.colsCyc = some (s.ttNow n) then s else s.setCan n { c with cols := s.ttTable n, colsCyc := some (s.ttNow n) }

/-- The row of a cycle (R447). -/
def State.ttRow (s : State) (n : Nat) (c : Int) : Nat := (c % ((2 ^ min (s.rd (F.CAN_TT_CTRL_ROWS_LOG n)) 6 : Nat) : Int)).toNat

/-- Kind of a column in a row: an inactive one acts as ARBITRATING, and an EXCLUSIVE one without a TB as SILENT (Table 10-4,
R450). -/
def columnKind (w : List Word) (row : Nat) : Nat :=
  let w1 := (nth 0 w 1).toNat
  let rep := 2 ^ min (bits w1 4 3) 6
  if row % rep ≠ bits w1 7 6 % rep then 1
  else if bits w1 0 2 = 0 ∧ bits w1 2 2 = 3 then 2 else bits w1 0 2

/-- The window that holds the present WT (R449). -/
def State.ttWindow (s : State) (n : Nat) : CanWin × Bool :=
  let cyc := s.ttNow n
  let len : Int := (max 1 (s.ttCycle n) : Nat)
  let start := cyc * len + s.ttPhase n
  let o := s.wtNs - start
  let inf := s.ttCols n
  let off (x : Nat × List Word) : Int := ((nth 0 x.2 0).toNat : Int)
  let past := inf.1.filter (fun x => decide (off x ≤ o))
  let next := inf.1.filter (fun x => decide (o < off x))
  let mk (x : Nat × List Word) (c : Int) (b e : Int) : CanWin :=
    let row := s.ttRow n c
    { start := b, end_ := e, row := row, col := x.1, kind := columnKind x.2 row, tb := bits (nth 0 x.2 1).toNat 2 2,
      started := false, busy := false, seen := false }
  let w : CanWin :=
    match inf.1.head?, past.getLast?, inf.1.getLast? with
    | some f, some p, _ =>
      mk p cyc (start + off p) (match next.head? with | some x => start + off x | none => start + len + off f)
    | some f, none, some l => mk l (cyc - 1) (start - len + off l) (start + off f)
    | _, _, _ => { start := start, end_ := start + len, row := s.ttRow n cyc, col := 0, kind := 1, tb := 0, started := false,
                   busy := false, seen := false }
  (w, inf.2)

/-- A window taken anew keeps what has happened in it when it is the one that was open. -/
def sameWindow (old : Option CanWin) (w : CanWin) : CanWin :=
  match old with
  | some o =>
    if o.start = w.start ∧ o.end_ = w.end_ ∧ o.col = w.col ∧ o.kind = w.kind ∧ o.tb = w.tb then
      { w with started := o.started, busy := o.busy, seen := o.seen }
    else w
  | none => w

/-- The trellis takes the window that holds the present WT, and its status shows it (R455). -/
def State.ttLocate (s : State) (n : Nat) : State :=
  if ¬ s.ttRuns n then
    (s.modCan n (fun c => { c with win := none, colsCyc := none })).setRegN (R.CAN_TT_STATUS n) 0
  else
    let s := s.ttFresh n
    let w := s.ttWindow n
    (s.modCan n (fun c => { c with win := some (sameWindow c.win w.1) })).setRegN (R.CAN_TT_STATUS n)
      (w.1.row * 2 ^ 16 + w.1.col * 2 ^ 8 + b2n w.2 * 2 + 1)

/-- A frame may start: NORMAL or LOOPBACK, not bus-off, past step 12, not in the wait for 11 recessive bits, and not giving the
duty (R418 to R421, R467, R583). -/
def State.mayTransmit (s : State) (n : Nat) : Bool :=
  let m := s.rd (F.CAN_STATUS_EFF_MODE n)
  s.forwarding && (m == 1 || m == 4) && decide (s.rd (F.CAN_STATUS_STATE n) ≠ 2) && decide ((s.canC n).readyAt ≤ s.clk.now) &&
    !(s.on (F.CAN_CTRL_TX_ROLE n) && s.giving)

/-- A window ends: a frame of an exclusive window that never started, or the expected frame of an RX_CHECK window that was not
seen, is counted (R451, R453, R454). -/
def State.ttClose (s : State) (n : Nat) (w : CanWin) : State :=
  if w.kind = 0 ∧ ¬ w.started ∧ (s.canTb n w.tb).isSome ∧ s.mayTransmit n then (s.inc (C.CAN_TT_MISSED n)).raiseOnce 0x0A04 n
  else if w.kind = 3 ∧ ¬ w.seen then (s.inc (C.CAN_RX_MISSED n)).raise 0x0A05 n
  else s

/-- The trellis moves on when its window has ended. Conventions: log entry 40 (DEDUCED). -/
def State.ttAdvance (s : State) (n : Nat) : State :=
  match (s.canC n).win with
  | none => s.ttLocate n
  | some w =>
    if ¬ s.ttRuns n then s.ttLocate n
    else if s.wtNs < w.end_ then s
    else (s.ttClose n w).ttLocate n

/-- A TB named by an EXCLUSIVE column (R451). -/
def State.reserved (s : State) (n k : Nat) : Bool :=
  (s.ttCols n).1.any (fun x =>
    decide (bits (nth 0 x.2 1).toNat 0 2 = 0) && decide (bits (nth 0 x.2 1).toNat 2 2 = k))

/-- The TB whose frame starts at a point where the controller may start one (R438, R451). -/
def State.canSelect (s : State) (n : Nat) : Option Nat :=
  match (s.canC n).win with
  | none => (s.arbWinner n [0, 1, 2]).map (·.1)
  | some w =>
    if w.kind = 0 then if s.fits n w.tb w.end_ then some w.tb else none
    else if w.kind = 1 then
      let cand := [0, 1, 2].filter (fun k => !s.reserved n k && s.fits n k w.end_)
      if s.on (F.CAN_CTRL_TT_SEL n) then cand.head? else (s.arbWinner n cand).map (·.1)
    else none

/-- A TB has a frame on the bus. Conventions: log entry 40 (DEDUCED). -/
def State.canBusy (s : State) (n : Nat) : Bool := [0, 1, 2].any (fun k => s.on (F.CAN_TB_STATUS_STARTED n k))

/-- The selected frame starts: its SOF is sent (R438, R451, R453). -/
def State.startFrameCan (s : State) (n : Nat) : State :=
  if ¬ s.mayTransmit n ∨ s.canBusy n then s
  else
    match s.canSelect n with
    | none => s
    | some k =>
      match s.canTb n k with
      | none => s
      | some t =>
        let s := (s.setTb n k (some { t with sof := some (s.wtSubNs, s.wtSec % 2 ^ 32) })).wr (F.CAN_TB_STATUS_STARTED n k) 1
        let s := s.wr (F.CAN_STATUS_BUS_IDLE n) 0
        match (s.canC n).win with
        | some w =>
          if w.kind = 0 ∧ ¬ w.started then
            let s := s.modCan n (fun c => { c with win := some { w with started := true } })
            if w.busy then s.inc (C.CAN_TT_LATE n) else s
          else s
        | none => s

/-- A point where the controller may start a frame: the bus is idle (R438). -/
def State.canFrameStart (s : State) (n : Nat) : State :=
  ((s.wr (F.CAN_STATUS_BUS_IDLE n) 1).ttAdvance n).startFrameCan n

/-- A column instant: the window before ends, the next opens and may start a frame at once (R451, R453). -/
def State.trellisColumn (s : State) (n : Nat) (idle : Bool) : State :=
  let old := (s.canC n).win
  let s := s.ttAdvance n
  let s := s.wr (F.CAN_STATUS_BUS_IDLE n) (b2n (idle && !s.canBusy n))
  if (s.canC n).win = none ∨ (s.canC n).win = old then s
  else if idle then s.startFrameCan n
  else s.modCan n (fun c => { c with win := c.win.map (fun w => { w with busy := true }) })

/-- A write to CAN_nTT_CTRL, CYCLE or PHASE: the cycle that holds the present WT is taken with the columns in force, and a column
committed meanwhile waits for the next cycle start (R455). -/
def State.trellisWrite (s : State) (n reg value : Nat) : State :=
  let a := match reg with | 0 => R.CAN_TT_CTRL n | 1 => R.CAN_TT_CYCLE n | _ => R.CAN_TT_PHASE n
  let s := s.writeFields a value
  let s := if s.ttRuns n ∧ (s.canC n).colsCyc.isSome then s.modCan n (fun c => { c with colsCyc := some (s.ttNow n) }) else s
  s.ttLocate n

/-- After a WT step every trellis takes the window that holds the new WT (R455). Conventions: log entry 40 (DEDUCED). -/
def State.trellisStep (s : State) : State :=
  (List.range 16).foldl (fun s n => s.ttLocate n) s

/-- A write to CAN_COMMIT: pairs and columns; a column takes effect from the next cycle start (R448, R455, R456). -/
def State.canCommit (s : State) (value : Nat) : State :=
  let i := bits value 0 9
  if bits value 28 4 = 9 then s.setEntry 9 i (s.staged R.CAN_STAGE0 4)
  else if bits value 28 4 = 0xA then
    let n := i / 32
    let s := if s.ttRuns n then s.ttFresh n else s
    s.setEntry 0xA i (s.staged R.CAN_STAGE0 3)
  else s

-- filtering (R456 to R465)

/-- A received element for RXQm (R460 to R462). -/
def State.rxStore (s : State) (n m filter ns sec : Nat) (f : CanFrame) : State :=
  let r := 3 + m
  let size := s.ringSize n r
  let pend := s.on (F.CAN_RXQ_FILL_GAP_PENDING n m)
  let e := frameElem f pend filter 0 ns sec
  let fill := s.ringFill n r
  if size < e.length then s.inc (C.CAN_RX_TOOBIG n)
  else if size < fill + e.length then
    let s := s.inc (if m = 0 then C.CAN_RXQ0_LOST n else C.CAN_RXQ1_LOST n)
    if pend then s else (s.wr (F.CAN_RXQ_FILL_GAP_PENDING n m) 1).raise 0x0A03 n
  else
    let s := (s.ringAppend n r e).wr (F.CAN_RXQ_FILL_GAP_PENDING n m) 0
    let mark := s.rd (F.CAN_RXQ_CFG_WATERMARK n m) * 64
    if mark ≠ 0 ∧ fill < mark ∧ mark ≤ fill + e.length then s.raise 0x0A07 n else s

/-- A pair meets a frame (R457). -/
def pairMatches (w : List Word) (f : CanFrame) : Bool :=
  let w0 := (nth 0 w 0).toNat
  let w1 := (nth 0 w 1).toNat
  let w2 := (nth 0 w 2).toNat
  let w3 := (nth 0 w 3).toNat
  let id := if f.xlf then f.ident.toNat % 2 ^ 11 else f.ident.toNat
  let ide := f.ide && !f.xlf
  w3.testBit 0 && w3.testBit (if f.xlf then 3 else if f.fdf then 2 else 1) &&
    decide ((id ^^^ bits w0 0 29) &&& bits w1 0 29 = 0) && (!w1.testBit 29 || ide == w0.testBit 29) &&
    (!f.xlf || (decide ((f.sdt.toNat ^^^ bits w2 0 8) &&& bits w2 8 8 = 0) &&
      decide ((f.vcid.toNat ^^^ bits w2 16 8) &&& bits w2 24 8 = 0)))

/-- The first pair of a controller that meets a frame. -/
def State.pairFor (s : State) (n : Nat) (f : CanFrame) : Option (Nat × Nat) :=
  ((List.range 32).find? (fun i => pairMatches (s.entry 9 (n * 32 + i)) f)).map (fun i => (i, s.tw 9 (n * 32 + i) 3))

/-- CAN-to-CAN routing (R463, R464). Conventions: log entry 40 (DEDUCED). -/
def State.routeCan (s : State) (n dst fq : Nat) (f : CanFrame) : State :=
  let s := s.inc (C.CAN_ROUTED n)
  if dst = n ∨ fq = 3 ∨ (f.fdf ∧ ¬ s.on (F.CAN_CTRL_FD_EN dst)) ∨ (f.xlf ∧ ¬ s.on (F.CAN_CTRL_XL_EN dst)) then
    s.inc (C.CAN_ROUTE_DROP n)
  else
    let r := s.fqOffer dst fq 2 (frameElem f false 0 0 0 0)
    if r.2 then r.1 else r.1.inc (C.CAN_ROUTE_DROP n)

/-- An item for GLV, received now (R459, R475, R484). -/
def State.toGlv (s : State) (chan : Nat) (f : Option CanFrame) (d : List Byte) (wt : Int) : State :=
  { s with glv := { s.glv with inq := s.glv.inq ++ [⟨chan, f, d, s.lcUs, wt⟩] } }

/-- The filter decision of a valid frame whose SOF fell `ago` ns ago (R457 to R460). Conventions: log entry 40 (DEDUCED). -/
def State.canFilter (s : State) (n ago : Nat) (f : CanFrame) : State :=
  let t := s.wtNs - ago
  let ns := (t % 1000000000).toNat
  let sec := (t / 1000000000).toNat % 2 ^ 32
  match s.pairFor n f with
  | none =>
    let s := s.inc (C.CAN_NOMATCH n)
    let q := s.rd (F.CAN_CTRL_NOMATCH n)
    if q = 1 ∨ q = 2 then
      let d := s.drawFree
      d.2.rxStore n (q - 1) (d.1 % 32) ns sec f
    else s
  | some (i, w) =>
    let q := bits w 4 2
    let s := if q = 1 ∨ q = 2 then s.rxStore n (q - 1) i ns sec f else s
    let s := if w.testBit 6 then s.toGlv n (some f) [] t else s
    if w.testBit 7 then s.routeCan n (bits w 8 4) (bits w 12 2) f else s

/-- An element and a received frame are equal (R469). -/
def sameFrame (a b : CanFrame) : Bool :=
  a.ident == b.ident && a.ide == b.ide && a.fdf == b.fdf && a.xlf == b.xlf && a.brs == b.brs && a.rtr == b.rtr &&
    a.rrs == b.rrs && a.sec == b.sec && a.dlc == b.dlc && a.sdt == b.sdt && a.af == b.af && a.vcid == b.vcid &&
    a.data == b.data

/-- In the unit without duty a received frame equal to a loaded TB retires it (R469). -/
def State.mirrorRetire (s : State) (n : Nat) (f : CanFrame) : State :=
  if ¬ s.on (F.CAN_CTRL_TX_ROLE n) ∨ s.duty then s
  else
    match [0, 1, 2].find? (fun k => match s.canTb n k with | some t => sameFrame (elemFrame t.elem) f | none => false) with
    | some k => (s.retire n k 0).inc (C.CAN_MIRROR_RETIRED n)
    | none => s

/-- A window of RX_CHECK sees its expected frame (R454). -/
def State.ttSee (s : State) (n ago : Nat) (f : CanFrame) : State :=
  match (s.canC n).win with
  | none => s
  | some w =>
    let e := nth 0 (nth [] (s.canC n).cols w.col) 2
    if w.kind = 3 ∧ w.start ≤ s.wtNs - ago ∧ f.ident.toNat = bits e.toNat 0 29 ∧ f.ide = e.toNat.testBit 29 then
      s.modCan n (fun c => { c with win := some { w with seen := true } })
    else s

-- errors and bus-off (R426, R466 to R468)

/-- A wait for 11 recessive bits, `times` over. -/
def State.canWait (s : State) (n times : Nat) : State :=
  s.modCan n (fun c => { c with readyAt := s.clk.now + (times * 11 * s.arbBit n * 25 + 3) / 4 })

/-- Error active or passive by the counters; the entry into error passive is reported (R466, R468). -/
def State.confine (s : State) (n : Nat) : State :=
  let st := s.rd (F.CAN_STATUS_STATE n)
  let passive := decide (128 ≤ s.rd (F.CAN_STATUS_TEC n)) || decide (128 ≤ s.rd (F.CAN_STATUS_REC n))
  if st = 2 then s
  else if passive ∧ st = 0 then ((s.wr (F.CAN_STATUS_STATE n) 1).raise 0x0A02 n).detect 10 n
  else if ¬ passive ∧ st = 1 then s.wr (F.CAN_STATUS_STATE n) 0
  else s

/-- Recovery from bus-off starts: it takes 128 times 11 recessive bits at the least (R467). -/
def State.recoveryStart (s : State) (n : Nat) : State := (s.modCan n (fun c => { c with recovering := true })).canWait n 128

/-- The controller goes bus-off; no frame of it is on the bus (R467). -/
def State.busOff (s : State) (n : Nat) : State :=
  let s := (s.wr (F.CAN_STATUS_STATE n) 2).wr (F.CAN_STATUS_TEC n) 255
  let s := ((s.inc (C.CAN_BUS_OFFS n)).raise 0x0A01 n).detect 9 n
  if s.on (F.CAN_CTRL_AUTO_RECOVER n) then s.recoveryStart n else s

/-- TEC and REC count in NORMAL alone (R418). -/
def State.counts (s : State) (n : Nat) : Bool := s.rd (F.CAN_STATUS_EFF_MODE n) == 1 && decide (s.rd (F.CAN_STATUS_STATE n) ≠ 2)

/-- An error while receiving. -/
def State.recError (s : State) (n step : Nat) : State :=
  let s := s.inc (C.CAN_RX_ERRORS n)
  if s.counts n then (s.wr (F.CAN_STATUS_REC n) (min 255 (s.rd (F.CAN_STATUS_REC n) + step))).confine n else s

/-- A frame of a format that is not enabled (R426). -/
def State.disabledFormat (s : State) (n : Nat) : State :=
  if s.on (F.CAN_CTRL_PEX_EN n) then
    let s := s.canWait n 1
    (s.inc (C.CAN_PEX n)).raiseOnce 0x0A06 n
  else s.recError n 1

/-- A cancel retires the frame of TBk, in this unit and, from the unit with duty, in the partner (R442, R443, R445). -/
def State.cancelEnds (s : State) (n k : Nat) : State :=
  match s.canTb n k with
  | none => s
  | some t =>
    let s := ((s.retire n k 1).wr (F.CAN_TB_STATUS_CANCEL_RESULT n k) 1).inc (C.CAN_CANCELLED n)
    if s.canMirrors n ∧ s.duty then
      s.mirror (.canCancel n k (bits (elemWord t.elem 3) 16 16) (elemFrame t.elem).ident.toNat)
    else s

/-- A frame that lost arbitration or met an error is selected again, or retired (R439, R443). -/
def State.missedFrame (s : State) (n : Nat) : State :=
  [0, 1, 2].foldl (fun s k =>
    if ¬ s.on (F.CAN_TB_STATUS_STARTED n k) then s
    else if s.rd (F.CAN_TB_STATUS_CANCEL_RESULT n k) = 2 then s.cancelEnds n k
    else if s.on (F.CAN_CTRL_ONE_SHOT n) then s.retire n k 3
    else s.wr (F.CAN_TB_STATUS_STARTED n k) 0) s

/-- The controller leaves the bus in mid-frame: its TBs keep their elements, but for one whose cancel is pending (R420, R443). -/
def State.dropStarts (s : State) (n : Nat) : State :=
  [0, 1, 2].foldl (fun s k =>
    if s.on (F.CAN_TB_STATUS_STARTED n k) ∧ s.rd (F.CAN_TB_STATUS_CANCEL_RESULT n k) = 2 then s.cancelEnds n k
    else s.wr (F.CAN_TB_STATUS_STARTED n k) 0) s

/-- The frame on the bus lost arbitration (R439). -/
def State.arbitrationLost (s : State) (n : Nat) : State :=
  if s.canBusy n then (s.inc (C.CAN_ARB_LOST n)).missedFrame n else s

/-- An error on the bus (R426, R466); LOOPBACK receives its own frames only (R418). -/
def State.canError (s : State) (n : Nat) (kind : CanErrorKind) : State :=
  if s.rd (F.CAN_STATUS_EFF_MODE n) = 0 ∨ s.rd (F.CAN_STATUS_STATE n) = 2 then s
  else
    match kind with
    | .transmit step =>
      if ¬ s.canBusy n then s
      else
        let s := (s.inc (C.CAN_TX_ERRORS n)).missedFrame n
        if ¬ s.counts n then s
        else if 255 < s.rd (F.CAN_STATUS_TEC n) + step then s.busOff n
        else (s.wr (F.CAN_STATUS_TEC n) (s.rd (F.CAN_STATUS_TEC n) + step)).confine n
    | .receive step => if s.rd (F.CAN_STATUS_EFF_MODE n) = 4 then s else s.recError n step
    | .disabledFormat xl =>
      if s.rd (F.CAN_STATUS_EFF_MODE n) = 4 then s else if s.on (if xl then F.CAN_CTRL_XL_EN n else F.CAN_CTRL_FD_EN n) then s else s.disabledFormat n

/-- REC after a frame received without error (ISO 11898-1): one less, and above 127 a value from 119 to 127.
Conventions: log entries 2 (DESIGN CHOICE), 40 (DEDUCED). -/
def State.recGood (s : State) (n : Nat) : State :=
  if ¬ s.counts n then s
  else
    let r := s.rd (F.CAN_STATUS_REC n)
    if 127 < r then
      let d := s.drawFree
      (d.2.wr (F.CAN_STATUS_REC n) (119 + d.1 % 9)).confine n
    else (s.wr (F.CAN_STATUS_REC n) (r - 1)).confine n

/-- A frame of the bus becomes valid (R457, R469). -/
def State.canReceived (s : State) (n ago : Nat) (frame : CanFrame) : State :=
  let f := plainFrame frame
  let m := s.rd (F.CAN_STATUS_EFF_MODE n)
  if (m ≠ 1 ∧ m ≠ 2 ∧ m ≠ 3) ∨ s.rd (F.CAN_STATUS_STATE n) = 2 then s
  else if (f.fdf ∧ ¬ s.on (F.CAN_CTRL_FD_EN n)) ∨ (f.xlf ∧ ¬ s.on (F.CAN_CTRL_XL_EN n)) then s.disabledFormat n
  else
    let s := ((s.inc (C.CAN_RX_FRAMES n)).recGood n).ttSee n ago f
    ((s.canFilter n ago f).mirrorRetire n f).wr (F.CAN_STATUS_BUS_IDLE n) 1

/-- The frame on the bus has been sent without error (R440, R443, R471). In LOOPBACK it is received too, with the ESI flag that the
controller gave it (Table 10-3). -/
def State.canSent (s : State) (n : Nat) : State :=
  match [0, 1, 2].find? (fun k => s.on (F.CAN_TB_STATUS_STARTED n k)) with
  | none => s
  | some k =>
    match s.canTb n k with
    | none => s
    | some t =>
      let s := if s.rd (F.CAN_TB_STATUS_CANCEL_RESULT n k) = 2 then s.wr (F.CAN_TB_STATUS_CANCEL_RESULT n k) 3 else s
      let s := (s.retire n k 0).inc (C.CAN_TX_FRAMES n)
      let s := if t.resent then s.inc (C.CAN_TAKEOVER_RESENT n) else s
      let s := s.wr (F.CAN_STATUS_BUS_IDLE n) 1
      let s := if s.counts n then (s.wr (F.CAN_STATUS_TEC n) (s.rd (F.CAN_STATUS_TEC n) - 1)).confine n else s
      if s.rd (F.CAN_STATUS_EFF_MODE n) = 4 then
        let ago := match t.sof with
          | some (ns, _) => (s.wtSubNs + 1000000000 - ns) % 1000000000
          | none => 0
        let f := elemFrame t.elem
        (s.inc (C.CAN_RX_FRAMES n)).canFilter n ago { f with esi := f.fdf && s.rd (F.CAN_STATUS_STATE n) == 1 }
      else s

-- modes (R418 to R425)

/-- CFG_ERROR. -/
def State.cfgError (s : State) (n : Nat) : State := (s.wr (F.CAN_STATUS_CFG_ERR n) 1).raise 0x0A08 n

/-- The mode that should be in force (R418, R419, R424; 14, Table 14-5). -/
def State.modeTarget (s : State) (n : Nat) : Nat :=
  let m := s.rd (F.CAN_CTRL_MODE n)
  if 5 ≤ m ∨ s.rateBad n ∨ s.winding then 0
  else if m = 1 ∧ s.on (F.CAN_CTRL_TX_ROLE n) ∧ ¬ s.duty then 2
  else m

/-- The controller may acknowledge: NORMAL or RESTRICTED, not bus-off, after the wait for 11 recessive bits (R418, R420, R421,
R467). -/
def State.mayAck (s : State) (n : Nat) : Bool :=
  let m := s.rd (F.CAN_STATUS_EFF_MODE n)
  s.forwarding && (m == 1 || m == 3) && decide (s.rd (F.CAN_STATUS_STATE n) ≠ 2) && decide ((s.canC n).readyAt ≤ s.clk.now)

/-- A new mode comes into force (R418, R420). -/
def State.enterMode (s : State) (n m : Nat) : State :=
  let old := s.rd (F.CAN_STATUS_EFF_MODE n)
  let s := s.wr (F.CAN_STATUS_EFF_MODE n) m
  if m = 0 then
    let s := (((s.dropStarts n).wr (F.CAN_STATUS_TEC n) 0).wr (F.CAN_STATUS_REC n) 0).wr (F.CAN_STATUS_STATE n) 0
    s.modCan n (fun c => { c with recovering := false })
  else if (m = 1 ∨ m = 3) ∧ (old = 0 ∨ old = 4) then
    s.canWait n 1
  else s

/-- The mode in force follows at a bus-idle point, or at once to OFF (R420). -/
def State.modeChange (s : State) (n : Nat) : State :=
  let m := s.modeTarget n
  if m = s.rd (F.CAN_STATUS_EFF_MODE n) then s
  else if (m ≠ 0 ∨ s.winding) ∧ s.canBusy n then s
  else s.enterMode n m

/-- After a write that could bring a rate or a ring out of range: CFG_ERR and its event, or CFG_ERR cleared (R424, R430). -/
def State.canCheck (s : State) (n : Nat) (bad : Bool) : State :=
  if bad then s.cfgError n else s.wr (F.CAN_STATUS_CFG_ERR n) 0

/-- A write to CAN_nCTRL: a change to OFF acts at once. -/
def State.canCtrlWrite (s : State) (n value : Nat) : State :=
  let s := s.writeFields (R.CAN_CTRL n) value
  let s := s.canCheck n (s.rateBad n)
  if s.modeTarget n = 0 ∧ s.rd (F.CAN_STATUS_EFF_MODE n) ≠ 0 then s.enterMode n 0 else s

/-- A write to a bit-timing register (R425). -/
def State.bitTimingWrite (s : State) (n reg value : Nat) : State :=
  let a := match reg with | 0 => R.CAN_NBT n | 1 => R.CAN_DBT n | 2 => R.CAN_XBT n | _ => R.CAN_TDC n
  let m := s.rd (F.CAN_CTRL_MODE n)
  if m = 0 ∨ 5 ≤ m then
    let s := s.writeFields a value
    s.canCheck n (s.rateBad n)
  else s.cfgError n

/-- A write to a ring's CFG without FLUSH (R430). -/
def State.ringCfgWrite (s : State) (n r value : Nat) : State :=
  let s := s.writeFields (ringCfg n r) value
  s.canCheck n (s.ringBad n r)

/-- A firmware write of RXQm_GET frees what it passes (R460). -/
def State.rxqGetWrite (s : State) (n m value : Nat) : State :=
  let size := max 1 (s.ringSize n (3 + m))
  let passed := (bits value 0 14 % size + size - s.regN (R.CAN_RXQ_GET n m) % size) % size
  (s.writeFields (R.CAN_RXQ_GET n m) value).setFill n (3 + m) (s.ringFill n (3 + m) - passed)

/-- A write to CAN_nRECOVER (R467). -/
def State.canRecover (s : State) (n value : Nat) : State :=
  if value.testBit 0 ∧ s.rd (F.CAN_STATUS_STATE n) = 2 ∧ ¬ (s.canC n).recovering then s.recoveryStart n else s

/-- Recovery ends, no earlier than 128 times 11 bits after it started (R467). -/
def State.busOffRecovery (s : State) (n : Nat) : State :=
  if s.rd (F.CAN_STATUS_STATE n) = 2 ∧ (s.canC n).recovering ∧ (s.canC n).readyAt ≤ s.clk.now then
    let s := ((s.wr (F.CAN_STATUS_TEC n) 0).wr (F.CAN_STATUS_REC n) 0).wr (F.CAN_STATUS_STATE n) 0
    s.modCan n (fun c => { c with recovering := false })
  else s

/-- A cancel of TBk, which loads the next element at once (R442 to R445). -/
def State.cancelTb (s : State) (n k : Nat) : State :=
  if (s.canTb n k).isNone then s
  else if s.on (F.CAN_TB_STATUS_STARTED n k) then s.wr (F.CAN_TB_STATUS_CANCEL_RESULT n k) 2
  else (s.cancelEnds n k).tbLoad n k

/-- A write to CAN_nTB_CANCEL (R442). -/
def State.tbCancel (s : State) (n value : Nat) : State :=
  [0, 1, 2].foldl (fun s k => if value.testBit k then s.cancelTb n k else s) s

-- the unit without duty (R469 to R471)

/-- MIRROR_AGE has passed for an element in a TB (R470). -/
def State.mirrorExpired (s : State) (n k : Nat) : State :=
  let age := s.rd (F.CAN_CTRL_MIRROR_AGE n)
  match s.canTb n k with
  | some t =>
    if s.on (F.CAN_CTRL_TX_ROLE n) ∧ ¬ s.duty ∧ age ≠ 0 ∧ t.at_ + age * 1000000 ≤ s.clk.now then
      (s.retire n k 3).inc (C.CAN_MIRROR_EXPIRED n)
    else s
  | none => s

/-- A mirrored element (R436). -/
def State.canAppend (s : State) (n k : Nat) (e : List Byte) : State :=
  if s.fqOwner n k ≠ 0 then s.inc (C.CAN_FQ_OWNER n)
  else if s.ringSize n k < s.ringFill n k + e.length then s.inc (C.CAN_FQ_FULL n)
  else s.ringAppend n k e

/-- Feed elements rewritten from GET on. -/
def State.fqRewrite (s : State) (n k : Nat) (l : List (List Byte)) : State :=
  let s := (s.setRegN (ringPut n k) (s.regN (ringGet n k))).setFill n k 0
  l.foldl (fun s e => s.ringAppend n k e) s

/-- The first element with a TAG and an identifier left out. -/
def dropElem (tag ident : Nat) : List (List Byte) → List (List Byte) × Bool
  | [] => ([], false)
  | e :: r =>
    if bits (elemWord e 3) 16 16 = tag ∧ (elemFrame e).ident.toNat = ident then (r, true)
    else let x := dropElem tag ident r; (e :: x.1, x.2)

/-- A mirrored cancel (R445). -/
def State.canCancel (s : State) (n k tag ident : Nat) : State :=
  let inTb := match s.canTb n k with
    | some t => bits (elemWord t.elem 3) 16 16 == tag && (elemFrame t.elem).ident.toNat == ident
    | none => false
  if inTb then (s.retire n k 1).inc (C.CAN_CANCELLED n)
  else
    let x := dropElem tag ident (s.fqElems n k)
    if x.2 then ((s.fqRewrite n k x.1).inc (C.CAN_CANCELLED n)).txEvent n k 1 tag none else s

/-- The duty of the unit has changed: ages and takeover marks of the loaded elements (R470, R471). -/
def State.canDuty (s : State) : State :=
  (List.range 16).foldl (fun s n =>
    if ¬ s.on (F.CAN_CTRL_TX_ROLE n) then s
    else [0, 1, 2].foldl (fun s k =>
      match s.canTb n k with
      | some t => s.setTb n k (some { t with at_ := s.clk.now, resent := s.duty })
      | none => s) s) s

/-- The firmware elements of a feed queue of TX_ROLE 1, for a mirror sync (R567). -/
def State.canSyncElems (s : State) : List (Nat × Nat × List Byte) :=
  (List.range 16).flatMap (fun n =>
    if s.on (F.CAN_CTRL_TX_ROLE n) then
      [0, 1, 2].flatMap (fun k => if s.fqOwner n k = 0 then (s.fqElems n k).map (fun e => (n, k, e)) else [])
    else [])

/-- The own feed elements of TX_ROLE 1 are discarded before a mirror sync is applied (R567). -/
def State.canSyncClear (s : State) : State :=
  (List.range 16).foldl (fun s n =>
    if ¬ s.on (F.CAN_CTRL_TX_ROLE n) then s
    else [0, 1, 2].foldl (fun s k =>
      if s.fqOwner n k ≠ 0 then s
      else (((s.setTb n k none).wr (F.CAN_TB_STATUS_STARTED n k) 0).setRegN (ringPut n k) (s.regN (ringGet n k))).setFill n k 0) s) s

end Sys2Proof.Machine
end

