-- ==== Sys2Proof/Machine/Cfg.lean ====
section
/-! DEFINITION. The configuration image and its checks, the boot record, the census, staging and the configuration scrub (02). -/

namespace Sys2Proof.Machine

-- the image in a slot (Tables 2-1, 2-3 to 2-8)

def slotBytes : Nat := 0x1800000
/-- Flash offset of image slot `k` (Table 2-1). -/
def slotAt (k : Nat) : Nat := 0x10000 + k * slotBytes
/-- `n` image bytes at offset `o` of slot `k`. -/
def State.imgBytes (s : State) (k o n : Nat) : List Byte := getBytes s.flashByte (slotAt k + o) n
/-- An image field, most significant octet first (R39). -/
def State.img (s : State) (k o n : Nat) : Nat := beNat (s.imgBytes k o n)

def State.imgVintage (s : State) (k : Nat) : Nat := s.img k 0x06 2
def State.imgPrint (s : State) (k : Nat) : Nat := s.img k 0x08 8
def State.imgLength (s : State) (k : Nat) : Nat := s.img k 0x10 4
def State.imgSections (s : State) (k : Nat) : Nat := s.img k 0x14 2

/-- A section-table entry (Table 2-4). -/
structure Section where
  type : Nat
  target : Nat
  flags : Nat
  offset : Nat
  size : Nat
  reserved : Nat
  deriving DecidableEq, Repr

def State.section_ (s : State) (k i : Nat) : Section :=
  let o := 0x20 + 16 * i
  ⟨s.img k o 1, s.img k (o + 1) 1, s.img k (o + 2) 2, s.img k (o + 4) 4, s.img k (o + 8) 4, s.img k (o + 12) 4⟩

def State.sections (s : State) (k : Nat) : List Section := (List.range (min 1024 (s.imgSections k))).map (s.section_ k)

/-- A record of a register-write section: its address, and what is done there (Table 2-5). -/
inductive RegRec where
  | write (value : Nat)
  | modify (mask value : Nat)
  | poll (mask expected timeout : Nat)
  | bad
  deriving DecidableEq, Repr

/-- The record at an offset with `left` bytes of its section to come: address, action, length. -/
def State.regRec (s : State) (k o left : Nat) : Nat × RegRec × Nat :=
  let w := s.img k o 4
  let a := w / 4 * 4
  match w % 4 with
  | 0 => if left < 8 then (a, .bad, 8) else (a, .write (s.img k (o + 4) 4), 8)
  | 1 => if left < 12 then (a, .bad, 12) else (a, .modify (s.img k (o + 4) 4) (s.img k (o + 8) 4), 12)
  | 2 => if left < 16 then (a, .bad, 16) else (a, .poll (s.img k (o + 4) 4) (s.img k (o + 8) 4) (s.img k (o + 12) 4), 16)
  | _ => (a, .bad, 16)

/-- The records of a register-write section. -/
def State.regRecs (s : State) (k : Nat) : Nat → Nat → Nat → List (Nat × RegRec)
  | 0, _, _ => []
  | n + 1, o, left =>
    if left = 0 then []
    else
      let r := s.regRec k o left
      match r.2.1 with
      | .bad => [(r.1, .bad)]
      | x => (r.1, x) :: s.regRecs k n (o + r.2.2) (left - r.2.2)

/-- Words of entry `i` of a table, none where Table 2-6 has no such index. -/
def tableWords (t i : Nat) : Option Nat :=
  match t with
  | 1 => if i < 4096 then some 3 else none
  | 3 => if i < 4096 then some 7 else none
  | 4 => if i < 1024 then some 5 else none
  | 5 => if i < 512 then some 8 else none
  | 6 => if i < 256 then some 6 else if i < 4352 then some 2 else none
  | 7 => if i < 32 then some 4 else none
  | 8 => if i < 2624 then some 2 else if 4096 ≤ i ∧ i < 4424 then some 2 else none
  | 9 => if i < 512 then some 4 else none
  | 10 => if i < 512 then some 3 else none
  | 11 => if i < 24 then some 6 else if 32 ≤ i ∧ i < 96 then some 3 else none
  | _ => none

/-- A table-load block that the loader takes (Table 2-5, R46). -/
def blockOk (t words first count reserved : Nat) : Bool :=
  decide (1 ≤ t) && decide (t ≤ 11) && decide (1 ≤ words) && decide (words ≤ 8) && reserved == 0 &&
    (if t = 2 then decide (words = 4) && decide (count ≤ 32776)
     else (List.range count).all (fun i => tableWords t (first + i) == some words))

/-- Whether the blocks of a table-load section are in order. -/
def State.blocksOk (s : State) (k : Nat) : Nat → Nat → Nat → Bool
  | 0, _, left => left == 0
  | n + 1, o, left =>
    if left = 0 then true
    else
      let words := s.img k (o + 1) 1
      let count := s.img k (o + 4) 2
      let len := 8 + count * words * 4
      decide (8 ≤ left) && decide (len ≤ left) && blockOk (s.img k o 1) words (s.img k (o + 2) 2) count (s.img k (o + 6) 2) &&
        s.blocksOk k n (o + len) (left - len)

/-- The records of a wrapped-key section: SLOT, MODE, wrapped bytes; the Boolean says that the section is in order. -/
def State.keyRecs (s : State) (k : Nat) : Nat → Nat → Nat → List (Nat × Nat × List Byte) × Bool
  | 0, _, left => ([], left == 0)
  | n + 1, o, left =>
    if left = 0 then ([], true)
    else
      let len := s.img k (o + 2) 1
      if left < 4 ∨ (len ≠ 16 ∧ len ≠ 32) ∨ s.img k (o + 3) 1 ≠ 0 ∨ left < len + 12 then ([], false)
      else
        let r := s.keyRecs k n (o + len + 12) (left - (len + 12))
        ((s.img k o 1, s.img k (o + 1) 1, s.imgBytes k (o + 4) (len + 8)) :: r.1, r.2)

/-- The records of an audio-asset section: ASSET, flash-window address of its samples, COUNT (R49). -/
def State.assetRecs (s : State) (k : Nat) : Nat → Nat → Nat → List (Nat × Nat × Nat) × Bool
  | 0, _, left => ([], left == 0)
  | n + 1, o, left =>
    if left = 0 then ([], true)
    else
      let a := s.img k o 2
      let count := s.img k (o + 4) 4
      let len := 8 + 2 * count
      if left < 8 ∨ 256 ≤ a ∨ s.img k (o + 2) 2 ≠ 0 ∨ left < len then ([], false)
      else
        let r := s.assetRecs k n (o + len) (left - len)
        ((a, 0x30000000 + slotAt k + o + 8, count) :: r.1, r.2)

/-- Whether the content of a section is in order (R43, R46). Conventions: log entry 17 (DEDUCED). -/
def State.contentOk (s : State) (k : Nat) (x : Section) : Bool :=
  match x.type with
  | 1 => (s.regRecs k (x.size / 8 + 1) x.offset x.size).all (fun r => r.2 != .bad)
  | 2 => s.blocksOk k (x.size / 8 + 1) x.offset x.size
  | 3 => decide (8 ≤ x.size)
  | 4 => (s.keyRecs k (x.size / 28 + 1) x.offset x.size).2
  | 5 => (s.assetRecs k (x.size / 8 + 1) x.offset x.size).2
  | _ => decide (x.size = 16) && s.img k (x.offset + 1) 1 == 0 && s.img k (x.offset + 10) 6 == 0

/-- Engine and ENTRY of the firmware sections that have an entry point (R48). -/
def State.imgEntries (s : State) (k : Nat) : List (Nat × Nat) :=
  (s.sections k).filterMap (fun x =>
    if x.type = 3 ∧ 8 ≤ x.size ∧ x.target < 8 ∧ s.img k (x.offset + 4) 4 ≠ 0xFFFFFFFF then some (x.target, s.img k (x.offset + 4) 4)
    else none)

/-- No element occurs twice. -/
def distinct : List Nat → Bool
  | [] => true
  | x :: r => !r.contains x && distinct r

/-- An address put into a rising list. -/
def insertAddr (a : Nat) : List Nat → List Nat
  | [] => [a]
  | b :: r => if a < b then a :: b :: r else if a = b then b :: r else b :: insertAddr a r

/-- The scrub set of an image, rising (R61). -/
def State.imgScrub (s : State) (k : Nat) : List Nat :=
  ((s.sections k).filter (fun x => x.type == 1 && bit x.flags 0)).foldl (fun l x =>
    ((s.regRecs k (x.size / 8 + 1) x.offset x.size).filter (fun r => region r.1 == .regs)).foldl (fun l r =>
      match r.2 with
      | .write _ => insertAddr r.1 l
      | .modify _ _ => insertAddr r.1 l
      | _ => l) l) []

/-- Two sections that are not empty overlap (R43). Conventions: log entry 17 (DEDUCED). -/
def sectionsApart : List Section → Bool
  | [] => true
  | x :: r => r.all (fun y => decide (x.size = 0) || decide (y.size = 0) || decide (x.offset + x.size ≤ y.offset) ||
      decide (y.offset + y.size ≤ x.offset)) && sectionsApart r

/-- Whether the loader takes an image (Tables 2-3 to 2-5, R43, R46, R48, R61). Conventions: log entry 17 (DEDUCED). -/
def State.imgOk (s : State) (k : Nat) : Bool :=
  let n := s.imgSections k
  let len := s.imgLength k
  decide (s.img k 0 4 = 0x4C51494D) && decide (s.img k 4 2 = 1) && decide (0 < len) && decide (len % 16 = 0) &&
    decide (len + 128 ≤ slotBytes) && decide (1 ≤ n) && decide (n ≤ 1024) && s.img k 0x16 2 == 0 &&
    (let l := s.sections k
     l.all (fun x => decide (1 ≤ x.type) && decide (x.type ≤ 6) && x.reserved == 0 && x.flags / 2 == 0 &&
         (x.size == 0 || (decide (0x20 + 16 * n ≤ x.offset) && decide (x.offset + x.size ≤ len)))) && sectionsApart l &&
       (l.filter (fun x => x.size != 0)).all (s.contentOk k)) &&
    distinct ((s.imgEntries k).map (fun e => e.1)) && decide ((s.imgScrub k).length ≤ 16384)

/-- The image digest D (02, Digest, fingerprint and signature). -/
def State.imgDigest (s : State) (k : Nat) : Nat :=
  let b := s.imgBytes k 0 (s.imgLength k)
  sha256 ((b.take 8 ++ zeros 8 ++ b.drop 16).take b.length)

/-- The fingerprint of the image is that of its digest (R51). -/
def State.printOk (s : State) (k : Nat) : Bool := decide (s.imgPrint k = s.imgDigest k / 2 ^ 192)

/-- The public key is the one whose hash is fused (R51). -/
def State.keyHashOk (s : State) (k : Nat) : Bool := decide (sha256 (s.imgBytes k (s.imgLength k) 64) = s.otp.keyHash)

/-- The signature verifies over the digest (R51). -/
def State.signatureOk (s : State) (k : Nat) : Bool :=
  let o := s.imgLength k
  ecdsaVerify (s.img k o 32) (s.img k (o + 0x20) 32) (s.imgDigest k) (s.img k (o + 0x40) 32) (s.img k (o + 0x60) 32)

-- the boot record (Table 2-2, R40, R41)

structure BootRec where
  seq : Nat
  active : Nat
  armed : Nat
  trial : Nat
  outcome : Nat
  activeV : Nat
  armedV : Nat
  activeFp : Nat
  armedFp : Nat
  deriving DecidableEq, Repr

/-- Copy `c` of the boot record, if it is valid (R40). -/
def State.bootCopy (s : State) (c : Nat) : Option BootRec :=
  let b := getBytes s.flashByte (c * 0x8000) 64
  if fld b 0 4 = 0x4C514252 ∧ fld b 0x3C 4 = crc32 (b.take 0x3C) then
    some ⟨fld b 4 4, fld b 8 1, fld b 9 1, fld b 0xA 1, fld b 0xB 1, fld b 0xC 2, fld b 0xE 2, fld b 0x10 8, fld b 0x18 8⟩
  else none

/-- The copy in use and its record (R40). Of two SEQUENCEs exactly 2^31 apart neither is greater, and copy 0 is taken (log entry 58,
DESIGN CHOICE). Conventions: log entries 17 (DEDUCED), 58 (DESIGN CHOICE). -/
def State.bootRec (s : State) : Option (Nat × BootRec) :=
  match s.bootCopy 0, s.bootCopy 1 with
  | some a, some b => if seqNewer b.seq a.seq then some (1, b) else some (0, a)
  | some a, none => some (0, a)
  | none, some b => some (1, b)
  | none, none => none

/-- The bytes of a boot record. -/
def bootBytes (r : BootRec) : List Byte :=
  let b := beBytes 4 0x4C514252 ++ beBytes 4 r.seq ++ beBytes 1 r.active ++ beBytes 1 r.armed ++ beBytes 1 r.trial ++
    beBytes 1 r.outcome ++ beBytes 2 r.activeV ++ beBytes 2 r.armedV ++ beBytes 8 r.activeFp ++ beBytes 8 r.armedFp ++ zeros 28
  b ++ beBytes 4 (crc32 b)

/-- The boot record rewritten: the copy that is not in use is erased and written with the next SEQUENCE (R41). Where no copy is valid,
the fresh record goes to copy 0 with SEQUENCE 0 (R42; log entry 58, DESIGN CHOICE). Conventions: log entry 58 (DESIGN CHOICE). -/
def State.writeBootRec (s : State) (r : BootRec) : State :=
  match s.bootRec with
  | some (c, old) => ((s.erase ((1 - c) * 0x8000) 0x8000)).program ((1 - c) * 0x8000) (bootBytes { r with seq := (old.seq + 1) % 2 ^ 32 })
  | none => (s.erase 0 0x8000).program 0 (bootBytes { r with seq := 0 })

/-- A record without an armed slot, and with an outcome (R78). -/
def BootRec.unarm (r : BootRec) (outcome : Nat) : BootRec :=
  { r with armed := 0xFF, armedV := 0, armedFp := 0, trial := 0, outcome := outcome }

/-- The record in use, or one that names the running image. -/
def State.bootRecNow (s : State) : BootRec :=
  match s.bootRec with
  | some (_, r) => r
  | none => ⟨0, s.rd F.CFG_STATUS_BOOT_SLOT, 0xFF, 0, 0, s.rd F.CFG_VINTAGE_NUMBER, 0, s.pair R.CFG_FP_LO R.CFG_FP_HI, 0⟩

/-- The trial that runs is confirmed (R79). -/
def State.confirmTrial (s : State) : State :=
  match s.bootRec with
  | some (_, r) =>
    if s.on F.CFG_STATUS_TRIAL ∧ r.trial = 2 then
      (s.writeBootRec { r with active := r.armed, activeV := r.armedV, activeFp := r.armedFp, armed := 0xFF, armedV := 0, armedFp := 0,
                               trial := 0, outcome := 1 }).wr F.CFG_STATUS_TRIAL 0
    else s
  | none => s

/-- TRIAL_HOLD seconds after forwarding the trial is confirmed (R79). The runtime's part is done whichever engines run (log entry 58,
DESIGN CHOICE). Conventions: log entry 58 (DESIGN CHOICE). -/
def State.trialConfirm (s : State) : State :=
  match s.boot.forwardAt with
  | some t => if s.alive ∧ t + s.rd F.CFG_CENSUS_HOLD_TRIAL_HOLD * 1000000000 ≤ s.clk.now then s.confirmTrial else s
  | none => s

-- the configuration scrub (R61 to R65)

/-- First 64 bits of the digest of a group of registers. Conventions: log entry 20 (DEDUCED). -/
def State.groupDigest (s : State) (g : List Nat) : Nat := sha256 (g.flatMap (fun a => beBytes 4 (s.regN a))) / 2 ^ 192

/-- The groups of the scrub set. -/
def State.scrubGroups (s : State) : List (List Nat) := groupsOf 64 256 s.boot.scrub

/-- The baseline is taken and the scrub set locked (R63, R64). -/
def State.takeBaseline (s : State) : State :=
  let g := s.scrubGroups
  let s := { s with boot := { s.boot with baseline := g.map s.groupDigest, locked := true, scrubAt := s.clk.now } }
  (s.wr F.CFG_SCRUB_STATUS_GROUPS (g.length - 1)).wr F.CFG_STATUS_SCRUB_ON (b2n (g != []))

/-- One group of a scrub: a first reading that differs is repeated at once (R65). -/
def State.scrubGroup (s : State) (disturbed : Bool) (i : Nat) (g : List Nat) (base : Nat) : State :=
  let bad := s.groupDigest g != base
  if ¬ bad ∧ ¬ disturbed then s
  else
    let s := s.wr F.CFG_SCRUB_STATUS_LAST_GROUP i
    if bad then (s.raise 0x0203 i).failSilent 6 i else (s.incSat F.CFG_SCRUB_STATUS_TRANSIENTS).detect 5 0

/-- Every 100 ms CFG recomputes every group digest; `disturbed` names the groups whose first reading a momentary upset changes (R65).
Conventions: log entries 11 (DESIGN CHOICE), 20 (DEDUCED). -/
def State.configurationScrub (s : State) (disturbed : List Nat) : State :=
  if ¬ s.alive ∨ ¬ s.boot.locked ∨ s.clk.now < s.boot.scrubAt + 100000000 then s
  else (List.zip (List.range 256) (List.zip s.scrubGroups s.boot.baseline)).foldl
    (fun s x => if s.flt.silent then s else s.scrubGroup (disturbed.contains x.1) x.1 x.2.1 x.2.2)
    { s with boot := { s.boot with scrubAt := s.clk.now } }

-- the census (R66 to R73)

def State.censusMac (s : State) (i : Nat) : Nat := s.rd (F.CFG_CENSUS_E_MAC_HI_MAC_HI i) * 2 ^ 32 + s.rd (F.CFG_CENSUS_E_MAC_LO_MAC_LO i)
def State.censusValid (s : State) (i : Nat) : Bool := s.on (F.CFG_CENSUS_E_MAC_HI_VALID i)

/-- Two vintages agree (R67). -/
def State.agrees (s : State) (number fp : Nat) : Bool :=
  decide (number = s.rd F.CFG_VINTAGE_NUMBER) && decide (fp = s.pair R.CFG_FP_LO R.CFG_FP_HI)

/-- A vintage as keep-alives and heartbeats carry it: the number, then the fingerprint, in network byte order (R66). -/
def vintageField (number fp : Nat) : List Byte := beBytes 2 number ++ beBytes 8 fp

/-- The vintage field of R66. -/
def State.vintageBytes (s : State) : List Byte := vintageField (s.rd F.CFG_VINTAGE_NUMBER) (s.pair R.CFG_FP_LO R.CFG_FP_HI)

/-- An entry written with a report. Conventions: log entry 20 (DEDUCED). -/
def State.censusPut (s : State) (i mac number fp : Nat) (viaHb : Bool) : State :=
  let partner := viaHb || decide (mac = s.pair R.QLB_PARTNER_MAC_LO R.QLB_PARTNER_MAC_HI)
  let s := s.setRegN (R.CFG_CENSUS_E_MAC_LO i) mac
  let s := s.setRegN (R.CFG_CENSUS_E_MAC_HI i) (mac / 2 ^ 32 + 2 ^ 16 + b2n partner * 2 ^ 17 + b2n viaHb * 2 ^ 18)
  let s := s.setRegN (R.CFG_CENSUS_E_NUMBER i) (number + b2n (s.agrees number fp) * 2 ^ 16)
  let s := s.setPair (R.CFG_CENSUS_E_FP_LO i) (R.CFG_CENSUS_E_FP_HI i) fp
  let s := s.setRegN (R.CFG_CENSUS_E_SEEN i) s.wtSec
  { s with boot := { s.boot with seenAt := sput 0 i s.clk.now s.boot.seenAt, censusDirty := true } }

/-- A report reaches the census (R68, R69). -/
def State.censusReport (s : State) (mac number fp : Nat) (viaHb : Bool) : State :=
  if mac = s.otp.mac then s
  else
    match (List.range 64).find? (fun i => s.censusValid i && s.censusMac i == mac) with
    | some i => s.censusPut i mac number fp viaHb
    | none =>
      match (List.range 64).find? (fun i => !s.censusValid i) with
      | some i => s.censusPut i mac number fp viaHb
      | none =>
        let s := s.wr F.CFG_CENSUS_STATUS_OVERFLOW 1
        if s.boot.overflowEpisode then s
        else ({ s with boot := { s.boot with overflowEpisode := true, censusDirty := true } }).raise 0x0206 0

/-- SEEN, AGREE and DISAGREE (R71). -/
def State.censusCount (s : State) : State :=
  let v := (List.range 64).filter s.censusValid
  let a := v.filter (fun i => s.on (F.CFG_CENSUS_E_NUMBER_AGREE i))
  ((s.wr F.CFG_CENSUS_STATUS_SEEN v.length).wr F.CFG_CENSUS_STATUS_AGREE a.length).wr F.CFG_CENSUS_STATUS_DISAGREE (v.length - a.length)

/-- CENSUS_OK (R72). -/
def State.censusOk (s : State) : Bool :=
  decide (s.rd F.CFG_CENSUS_STATUS_SEEN = s.rd F.CFG_CENSUS_CFG_EXP_PEERS) && s.rd F.CFG_CENSUS_STATUS_DISAGREE == 0 &&
    decide (s.rd F.CFG_VINTAGE_NUMBER = s.rd F.CFG_VINTAGE_EXP_VINTAGE) && !s.on F.CFG_CENSUS_STATUS_OVERFLOW

/-- CENSUS_OK judged anew with its events (R73); the first judgement raises DISCORD whenever it is 0. -/
def State.censusJudge (s : State) (first : Bool) : State :=
  let was := s.on F.CFG_CENSUS_STATUS_CENSUS_OK
  let now := s.censusOk
  let s := s.wr F.CFG_CENSUS_STATUS_CENSUS_OK (b2n now)
  if now ∧ ¬ was then s.raise 0x0202 0
  else if ¬ now ∧ (was ∨ first) then s.raise 0x0201 0
  else s

/-- The counts follow a change of the table, and CENSUS_OK once the first evaluation has been made (R71, R73).
Conventions: log entry 20 (DEDUCED). -/
def State.censusEvaluate (s : State) : State :=
  if ¬ s.boot.censusDirty then s
  else
    let s := ({ s with boot := { s.boot with censusDirty := false } }).censusCount
    if s.boot.settled then s.censusJudge false else s

/-- SETTLE seconds after forwarding (R73). Conventions: log entry 20 (DEDUCED). -/
def State.censusSettle (s : State) : State :=
  match s.boot.forwardAt with
  | some t =>
    if s.boot.settled ∨ ¬ s.alive ∨ s.clk.now < t + s.rd F.CFG_CENSUS_HOLD_SETTLE * 1000000000 then s
    else (({ s with boot := { s.boot with settled := true, censusDirty := false } }).censusCount).censusJudge true
  | none => s

/-- An entry without a report for AGE seconds is removed (R70). -/
def State.censusAge (s : State) (i : Nat) : State :=
  let age := s.rd F.CFG_CENSUS_CFG_AGE
  if age = 0 ∨ ¬ s.censusValid i ∨ s.clk.now < sget 0 s.boot.seenAt i + age * 1000000000 then s
  else
    let s := (List.range 6).foldl (fun s k => s.setRegN (R.CFG_CENSUS_E_MAC_LO i + 4 * k) 0) s
    let s := s.wr F.CFG_CENSUS_STATUS_OVERFLOW 0
    { s with boot := { s.boot with seenAt := sput 0 i 0 s.boot.seenAt, overflowEpisode := false, censusDirty := true } }

-- staging (Table 2-13, R75 to R77); each answers the response status of Table 15-10

def State.stageState (s : State) : Nat := s.rd F.CFG_STAGE_STATUS_STATE
def State.setStage (s : State) (v : Nat) : State := s.wr F.CFG_STAGE_STATUS_STATE v

/-- STAGE_BEGIN. Conventions: log entry 21 (DEDUCED). -/
def State.stageBegin (s : State) : State × Nat :=
  if s.stageState ≠ 0 then (s, 4)
  else if s.on F.CFG_STATUS_TRIAL then (s, 5)
  else
    let k := 1 - s.rd F.CFG_STATUS_BOOT_SLOT
    ((((s.erase (slotAt k) slotBytes).wr F.CFG_STAGE_STATUS_BYTES 0).wr F.CFG_STAGE_STATUS_SLOT k).setStage 1, 0)

/-- Whether a STAGE_WRITE would be carried out. -/
def State.stageTakes (s : State) (offset n : Nat) : Bool :=
  s.stageState == 1 && decide (offset = s.rd F.CFG_STAGE_STATUS_BYTES) && decide (offset + n ≤ slotBytes)

/-- STAGE_WRITE of bytes at an image offset. Conventions: log entry 21 (DEDUCED). -/
def State.stageWrite (s : State) (offset : Nat) (b : List Byte) : State × Nat :=
  match s.stageState with
  | 1 =>
    if offset ≠ s.rd F.CFG_STAGE_STATUS_BYTES then (s, 3)
    else if slotBytes < offset + b.length then (s, 2)
    else ((s.program (slotAt (s.rd F.CFG_STAGE_STATUS_SLOT) + offset) b).wr F.CFG_STAGE_STATUS_BYTES (offset + b.length), 0)
  | 2 => (s, 4)
  | _ => (s, 5)

/-- STAGE_VERIFY. Conventions: log entry 21 (DEDUCED). -/
def State.stageVerify (s : State) : State × Nat :=
  match s.stageState with
  | 1 => (s.setStage 2, 0)
  | 2 => (s, 4)
  | _ => (s, 5)

/-- Why the staged slot fails its check, 0 when it passes (Table 2-22, CAUSE). -/
def State.imgCause (s : State) (k : Nat) : Nat :=
  if ¬ s.imgOk k then 1 else if ¬ s.printOk k then 2 else if ¬ s.keyHashOk k then 3 else if ¬ s.signatureOk k then 4 else 0

/-- The check of the staged slot ends. Conventions: log entry 21 (DEDUCED). -/
def State.stageCheckDone (s : State) : State :=
  if s.stageState ≠ 2 then s
  else
    let k := s.rd F.CFG_STAGE_STATUS_SLOT
    let c := s.imgCause k
    let s := s.wr F.CFG_STAGE_VINTAGE_CAUSE c
    if c = 0 then
      ((s.wr F.CFG_STAGE_VINTAGE_NUMBER (s.imgVintage k)).setPair R.CFG_STAGE_FP_LO R.CFG_STAGE_FP_HI (s.imgPrint k)).setStage 3
    else s.setStage 4

/-- ARM (R75, R77). Conventions: log entry 21 (DEDUCED). -/
def State.arm (s : State) : State × Nat :=
  if s.stageState ≠ 3 then (s, 5)
  else
    ((s.writeBootRec { s.bootRecNow with armed := s.rd F.CFG_STAGE_STATUS_SLOT, armedV := s.rd F.CFG_STAGE_VINTAGE_NUMBER,
                                         armedFp := s.pair R.CFG_STAGE_FP_LO R.CFG_STAGE_FP_HI, trial := 1 }).setStage 5, 0)

/-- DISARM. Conventions: log entry 21 (DEDUCED). -/
def State.disarm (s : State) : State × Nat :=
  if s.stageState ≠ 5 then (s, 5)
  else
    let r := s.bootRecNow
    ((s.writeBootRec (r.unarm r.outcome)).setStage 3, 0)

/-- STAGE_ABORT; CAUSE shows a cause in FAILED only (Table 2-22). Conventions: log entry 21 (DEDUCED). -/
def State.stageAbort (s : State) : State × Nat :=
  match s.stageState with
  | 0 => (s, 0)
  | 5 =>
    let r := s.bootRecNow
    ((s.writeBootRec (r.unarm r.outcome)).setStage 0, 0)
  | _ => ((s.setStage 0).wr F.CFG_STAGE_VINTAGE_CAUSE 0, 0)

end Sys2Proof.Machine
end

