-- ==== Sys2Proof/Machine/Bridge.lean ====
section
/-! DEFINITION. Bus errors and the stores of engines, the bridge, the semaphores and guarded operations (13, R569 to R581; 15, R627
to R633). -/

namespace Sys2Proof.Machine

-- bus errors (R23, R632)

/-- A bus error at engine `e`: the record, the counter, and the trap that drops a reservation (R632, R633, Table 15-11). -/
def State.busError (s : State) (e addr : Nat) (write : Bool) (cause : Nat) : State :=
  let s := (s.setRegN (R.ENG_BUSERR_ADDR e) addr).setRegN (R.ENG_BUSERR_INFO e) (b2n write * 256 + cause)
  let s := s.inc (C.ENG_BUS_ERRORS e)
  { s with eng := { s.eng with resv := sput none e none s.eng.resv }, qlb := { s.qlb with guardLr := sput none e none s.qlb.guardLr } }

/-- What a load, LR, SC or AMO of engine `e` returns. -/
def State.setRdata (s : State) (e v : Nat) : State := { s with eng := { s.eng with rdata := sput 0 e (BitVec.ofNat 32 v) s.eng.rdata } }

def State.guardOf (s : State) (e : Nat) : Option Guard := sget none s.qlb.guards e
def State.setGuard (s : State) (e : Nat) (g : Option Guard) : State := s.setQlb { s.qlb with guards := sput none e g s.qlb.guards }

/-- Engine `e` waits for the bridge: a read, a semaphore, a free tag, a fence or a guarded operation (R570 to R578).
Conventions: log entry 12 (DEDUCED). -/
def State.engineWaits (s : State) (e : Nat) : Bool :=
  s.qlb.open_.any (fun r => r.engine == e && r.kind != 2) || s.qlb.stalled.any (fun r => r.engine == e) || s.qlb.fencing.contains e ||
    (s.guardOf e).isSome

/-- Engine `e` can issue an access: firmware runs from bring-up step 10 on (02, Table 2-9; 01, R25).
Conventions: log entry 12 (DEDUCED). -/
def State.engineActs (s : State) (e : Nat) : Bool := s.released && s.engineRuns e && !s.engineWaits e

/-- An address in the own shared region (R578). -/
def State.ownShared (s : State) (a : Nat) : Bool :=
  let b := s.regN R.QLB_SHARED_BASE
  decide (b ≤ a) && decide (a < b + s.rd F.QLB_SHARED_SIZE_SIZE * 1024) && inSram a 4

-- requests (R570, R571, Table 13-7)

/-- A free tag: 0 to 31 for reads and semaphores, 32 to 63 for writes (R570). -/
def State.freeTag (s : State) (write : Bool) : Option Nat :=
  ((List.range 32).map (fun t => if write then t + 32 else t)).find? (fun t => s.qlb.open_.all (fun r => r.tag != t))

/-- A request leaves with its tag. Conventions: log entry 47 (DEDUCED). -/
def State.issue (s : State) (r : OpenReq) : State :=
  let r := { r with since := s.clk.now }
  (s.setQlb { s.qlb with open_ := s.qlb.open_ ++ [r] }).linkSend 0 (.req r.kind r.tag r.size r.engine r.addr r.data)

/-- A request takes a tag, or its engine stalls until one is free (R570). Conventions: log entry 47 (DEDUCED). -/
def State.request (s : State) (r : OpenReq) : State :=
  match s.freeTag (r.kind == 2) with
  | some t => s.issue { r with tag := t }
  | none => s.setQlb { s.qlb with stalled := s.qlb.stalled ++ [r] }

/-- Stalled accesses that find a tag go on, the oldest first. -/
def State.unstall (s : State) : State :=
  let l := s.qlb.stalled
  l.foldl (fun s r => s.request r) (s.setQlb { s.qlb with stalled := [] })

def State.dropReq (s : State) (r : OpenReq) : State := s.setQlb { s.qlb with open_ := s.qlb.open_.erase r }

-- what failures leave (R572 to R574, R580)

/-- A read fails at its engine (R572). -/
def State.readFails (s : State) (e addr status : Nat) : State :=
  let s := (s.setRegN R.QLB_RD_ERR_ADDR addr).setRegN R.QLB_RD_ERR (e * 256 + status)
  (s.inc C.QLB_RD_ERRORS).busError e (0x40000000 + addr) false 6

/-- A posted write that fails enters the far-error record (R573, Table 13-10). Conventions: log entry 47 (DEDUCED). -/
def State.farError (s : State) (e addr status : Nat) (atomic : Bool) : State :=
  let w := BitVec.ofNat 32 (status * 16 + e * 256 + b2n atomic * 2048)
  let h := hqPush 16 s.qlb.far [w, BitVec.ofNat 32 addr, BitVec.ofNat 32 s.wtSubNs, BitVec.ofNat 32 s.wtSec]
  let s := s.setQlb { s.qlb with far := h.1 }
  let s := if h.2.1 then s.inc R.QLB_FAR_LOST else s
  let s := if h.2.2 then s.raiseLost else s
  let s := s.setRegN (R.QLB_FENCE e) (min (s.regN (R.QLB_FENCE e) + 1) 0xFFFFFFFF)
  (s.inc C.QLB_FAR_ERRORS).raise 0x0E06 0

/-- Whether engine `e` has posted writes that have neither retired nor failed. -/
def State.writesOpen (s : State) (e : Nat) : Bool :=
  s.qlb.open_.any (fun r => r.engine == e && r.kind == 2) || s.qlb.stalled.any (fun r => r.engine == e && r.kind == 2)

/-- The count of a fence returned and started anew (R574). -/
def State.fenceDone (s : State) (e : Nat) : State :=
  let s := s.setRdata e (s.regN (R.QLB_FENCE e))
  (s.setRegN (R.QLB_FENCE e) 0).setQlb { (s.setRegN (R.QLB_FENCE e) 0).qlb with fencing := s.qlb.fencing.filter (fun x => x != e) }

/-- Fences whose writes have all retired or failed end. -/
def State.endFences (s : State) : State := s.qlb.fencing.foldl (fun s e => if s.writesOpen e then s else s.fenceDone e) s

-- guarded operations (R577 to R581)

/-- The arithmetic of an AMO. -/
def amoValue (op : AmoOp) (old new : Nat) : Nat :=
  match op with
  | .swap => new
  | .add => (old + new) % 2 ^ 32
  | .xor => old ^^^ new
  | .and => old &&& new
  | .or => old ||| new
  | .min => if sgn 32 new < sgn 32 old then new else old
  | .max => if sgn 32 old < sgn 32 new then new else old
  | .minu => min old new
  | .maxu => max old new

/-- The word that a guarded operation writes once it has read `old`: none when an SC finds another value (R579). -/
def guardWrites (g : Guard) (old : Nat) : Option Nat :=
  match g.op with
  | some op => some (amoValue op old g.data)
  | none => if g.expect_ = some old then some g.data else none

/-- What the engine receives: the old word of an AMO, 0 or 1 of an SC. -/
def guardResult (g : Guard) : Nat :=
  match g.op with
  | some _ => g.old
  | none => if g.expect_ = some g.old then 0 else 1

/-- The semaphore of an address (R577). -/
def semOf (a : Nat) : Nat := a / 4 % 32

def State.setHeld (s : State) (sem : Nat) (v : Bool) : State :=
  let w := s.regN R.QLB_SEM_HELD
  s.setRegN R.QLB_SEM_HELD (w - (w &&& 2 ^ sem) + b2n v * 2 ^ sem)

/-- A guarded operation ends with its result. -/
def State.guardEnds (s : State) (e : Nat) (g : Guard) : State := (s.setGuard e none).setRdata e (guardResult g)

/-- The local part of a guarded operation on the own shared region: read, compute, write (R578). -/
def State.guardLocal (s : State) (g : Guard) : State × Guard :=
  let old := s.word g.addr
  let g := { g with old := old }
  match guardWrites g old with
  | some v => (s.storeWord g.addr v, g)
  | none => (s, g)

/-- The read of a guarded operation on the partner window. -/
def guardRead (e : Nat) (g : Guard) : OpenReq :=
  { tag := 0, kind := 1, engine := e, size := 4, addr := g.addr - 0x40000000, data := 0, since := 0, guarded := true, reserve := false }

/-- A semaphore request of unit B: kind 3 acquires, kind 4 releases. -/
def semReq (e kind : Nat) (g : Guard) : OpenReq :=
  { tag := 0, kind := kind, engine := e, size := 4, addr := semOf g.addr, data := 0, since := 0, guarded := true, reserve := false }

/-- The semaphore is held: the operation goes on at its word. On the own shared region it ends but for the release. -/
def State.guardGranted (s : State) (e : Nat) (g : Guard) : State × Option Guard :=
  if 0x40000000 ≤ g.addr then ((s.setGuard e (some { g with phase := 1 })).request (guardRead e g), none)
  else
    let r := s.guardLocal g
    (r.1, some r.2)

/-- The release in unit B: SEM_REL, and the result once it is answered. In unit A the semaphore is free at once. -/
def State.guardRelease (s : State) (e : Nat) (g : Guard) : State :=
  if s.unitB then (s.setGuard e (some { g with phase := 3 })).request (semReq e 4 g)
  else (s.setHeld (semOf g.addr) false).guardEnds e g

/-- Unit A: the guarded operations that wait for a free semaphore take it, in engine order. -/
def State.takeSems (s : State) : Nat → State
  | 0 => s
  | n + 1 =>
    match (List.range 8).find? (fun e =>
        match s.guardOf e with
        | some g => g.phase == 0 && !(s.regN R.QLB_SEM_HELD).testBit (semOf g.addr)
        | none => false) with
    | none => s
    | some e =>
      match s.guardOf e with
      | none => s
      | some g =>
        let r := (s.setHeld (semOf g.addr) true).guardGranted e g
        match r.2 with
        | none => r.1.takeSems n
        | some g' => (r.1.guardRelease e g').takeSems n

/-- After a change of the semaphores or tags: what can go on does. -/
def State.bridgeGoesOn (s : State) : State :=
  let s := s.unstall
  let s := if s.unitB then s else s.takeSems 16
  s.endFences

/-- A guarded operation meets an error: a bus error, and the semaphore is given back (R580). -/
def State.guardFails (s : State) (e : Nat) (g : Guard) (status : Nat) : State :=
  let sent := decide (g.phase = 2) || (decide (g.phase = 3) && (guardWrites g g.old).isSome && decide (0x40000000 ≤ g.addr))
  let s := if sent then s.farError e (g.addr - 0x40000000) 7 true else s
  let s := (s.setGuard e none).busError e g.addr true 6
  let s := if g.phase = 1 ∧ 0x40000000 ≤ g.addr then
      ((s.setRegN R.QLB_RD_ERR_ADDR (g.addr - 0x40000000)).setRegN R.QLB_RD_ERR (e * 256 + status)).inc C.QLB_RD_ERRORS
    else s
  if g.phase = 0 ∨ g.phase = 3 ∨ ¬ s.linkIsUp then s
  else if s.unitB then s.request (semReq e 4 g)
  else s.setHeld (semOf g.addr) false

/-- A guarded operation begins (R578, R581). Conventions: log entry 47 (DEDUCED). -/
def State.startGuard (s : State) (e : Nat) (g : Guard) : State :=
  if ¬ s.linkIsUp then
    if 0x40000000 ≤ g.addr then s.busError e g.addr true 6
    else
      let r := s.guardLocal g
      r.1.guardEnds e r.2
  else if s.unitB then (s.setGuard e (some g)).request (semReq e 3 g)
  else (s.setGuard e (some g)).takeSems 16

-- answers (R572, R573, R577)

/-- A response accepted on VC1. -/
def State.linkTaken (s : State) (vc : Nat) : State :=
  let s := (s.inc C.QLB_LF_RX).linkJob
  let s := if vc = 3 then s.inc C.QLB_MIRROR_RX else s
  s.setQlb { s.qlb with goodAt := s.clk.now, rxSeq := (s.qlb.rxSeq + 1) % 65536 }

/-- READ_RSP. -/
def State.readRsp (s : State) (tag status data : Nat) : State :=
  if ¬ s.linkIsUp then s
  else
    let s := s.linkTaken 1
    match s.qlb.open_.find? (fun r => r.tag == tag && r.kind == 1) with
    | none => s
    | some r =>
      let s := s.dropReq r
      let s :=
        match (if r.guarded then s.guardOf r.engine else none) with
        | some g =>
          if status ≠ 0 then s.guardFails r.engine g status
          else
            let g := { g with old := data }
            match guardWrites g data with
            | some v =>
              (s.setGuard r.engine (some { g with phase := 2 })).request
                { tag := 0, kind := 2, engine := r.engine, size := 4, addr := g.addr - 0x40000000, data := v, since := 0, guarded := true,
                  reserve := false }
            | none => s.guardRelease r.engine g
        | none =>
          if status ≠ 0 then s.readFails r.engine r.addr status
          else
            let s := s.setRdata r.engine (data % 2 ^ (8 * r.size))
            if r.reserve then s.setQlb { s.qlb with guardLr := sput none r.engine (some (0x40000000 + r.addr, data)) s.qlb.guardLr }
            else s
      s.bridgeGoesOn

/-- WRITE_ACK. -/
def State.writeAck (s : State) (tag status : Nat) : State :=
  if ¬ s.linkIsUp then s
  else
    let s := s.linkTaken 1
    match s.qlb.open_.find? (fun r => r.tag == tag && r.kind == 2) with
    | none => s
    | some r =>
      let s := s.dropReq r
      let s :=
        match (if r.guarded then s.guardOf r.engine else none) with
        | some g => if status ≠ 0 then s.guardFails r.engine g status else s.guardRelease r.engine g
        | none => if status ≠ 0 then s.farError r.engine r.addr status false else s
      s.bridgeGoesOn

/-- SEM_RSP: the semaphore is granted, or BUSY asks for a retry 1 µs later, or a release is answered. -/
def State.semRsp (s : State) (tag status : Nat) : State :=
  if ¬ s.linkIsUp then s
  else
    let s := s.linkTaken 1
    match s.qlb.open_.find? (fun r => r.tag == tag && decide (3 ≤ r.kind)) with
    | none => s
    | some r =>
      if r.kind = 3 ∧ status = 4 then
        (s.dropReq r).setQlb { (s.dropReq r).qlb with open_ := (s.dropReq r).qlb.open_ ++ [{ r with since := s.clk.now, data := 1 }] }
      else
        let s := s.dropReq r
        let s :=
          match s.guardOf r.engine with
          | none => s
          | some g =>
            if r.kind = 4 then s.guardEnds r.engine g
            else if status ≠ 0 then s.guardFails r.engine g status
            else
              let x := s.guardGranted r.engine g
              match x.2 with
              | none => x.1
              | some g' => x.1.guardRelease r.engine g'
        s.bridgeGoesOn

/-- 1 µs after BUSY the request is sent again (R577). -/
def State.semRetry (s : State) (tag : Nat) : State :=
  match s.qlb.open_.find? (fun r => r.tag == tag && r.kind == 3 && r.data == 1) with
  | none => s
  | some r =>
    if s.linkIsUp ∧ r.since + 1000 ≤ s.clk.now then ((s.dropReq r).issue { r with data := 0 }).inc C.QLB_SEM_RETRIES else s

/-- BRIDGE_TIMEOUT has passed for an open request (R572, R573). Conventions: log entry 47 (DEDUCED). -/
def State.bridgeTimeout (s : State) (tag : Nat) : State :=
  let us := s.rd F.QLB_BRIDGE_BRIDGE_TIMEOUT
  match s.qlb.open_.find? (fun r => r.tag == tag) with
  | none => s
  | some r =>
    if s.clk.now < r.since + (if us = 0 then 100 else us) * 1000 then s
    else
      let s := s.dropReq r
      let s :=
        match (if r.guarded then s.guardOf r.engine else none) with
        | some g => s.guardFails r.engine g 6
        | none =>
          if r.kind = 2 then s.farError r.engine r.addr 6 false
          else if r.kind = 1 then s.readFails r.engine r.addr 6
          else s
      s.bridgeGoesOn

/-- The link goes down: open accesses end, the partner's semaphores are freed, operations on the own region go on alone (R559, R572,
R573, R580, R581). -/
def State.bridgeDown (s : State) : State :=
  let l := s.qlb.open_
  let w := s.qlb.stalled
  let s := s.setQlb { s.qlb with open_ := [], stalled := [], semPartner := [] }
  let s := l.foldl (fun s r =>
    if r.guarded then s else if r.kind = 2 then s.farError r.engine r.addr 7 false else s.readFails r.engine r.addr 5) s
  let s := w.foldl (fun s r =>
    if r.guarded then s else if r.kind = 2 then s.farError r.engine r.addr 5 false else s.readFails r.engine r.addr 5) s
  let s := (List.range 8).foldl (fun s e =>
    match s.guardOf e with
    | none => s
    | some g =>
      if g.phase = 3 then s.guardEnds e g
      else if 0x40000000 ≤ g.addr then s.guardFails e g 5
      else
        let r := s.guardLocal g
        r.1.guardEnds e r.2) s
  (s.setRegN R.QLB_SEM_HELD 0).endFences

-- inbound requests (R569, R571, R577)

/-- A response to the partner; before bring-up step 12 every request is answered NOT_READY (R56, R558).
Conventions: log entry 47 (DEDUCED). -/
def State.respond (s : State) (kind tag status data : Nat) : State :=
  if s.linkIsUp then s.linkSend 1 (.rsp kind tag status data) else s.emit 1 (.rsp kind tag status data)

/-- The unit takes a bridge request from the lanes. Conventions: log entry 47 (DEDUCED). -/
def State.bridgeHears (s : State) : Bool := s.alive && s.on F.QLB_CTRL_EN && s.on F.QLB_LANES_ALIGNED

def sizeOk (n : Nat) : Bool := n == 1 || n == 2 || n == 4

/-- READ from the partner. -/
def State.bridgeRead (s : State) (tag size addr : Nat) : State :=
  if ¬ s.bridgeHears then s
  else
    let s := s.linkTaken 0
    if ¬ s.forwarding then s.respond 0x81 tag 1 0
    else if ¬ sizeOk size then s.respond 0x81 tag 2 0
    else if inSram addr size ∨ (0x18000000 ≤ addr ∧ addr + size ≤ 0x18020000) then s.respond 0x81 tag 0 (leNat (getBytes s.byte addr size))
    else (s.inc C.QLB_DENIED_IN).respond 0x81 tag 3 0

/-- WRITE from the partner. -/
def State.bridgeWrite (s : State) (tag size addr data : Nat) : State :=
  if ¬ s.bridgeHears then s
  else
    let s := s.linkTaken 0
    if ¬ s.forwarding then s.respond 0x82 tag 1 0
    else if ¬ sizeOk size then s.respond 0x82 tag 2 0
    else if inSram addr size then (s.store addr (leBytes size data)).respond 0x82 tag 0 0
    else (s.inc C.QLB_DENIED_IN).respond 0x82 tag 3 0

/-- SEM_ACQ from unit B (R577). -/
def State.semAcq (s : State) (tag sem : Nat) : State :=
  if ¬ s.bridgeHears ∨ s.unitB then s
  else
    let s := s.linkTaken 0
    if ¬ s.forwarding then s.respond 0x83 tag 1 0
    else if (s.regN R.QLB_SEM_HELD).testBit sem then s.respond 0x83 tag 4 0
    else
      let s := s.setHeld sem true
      (s.setQlb { s.qlb with semPartner := s.qlb.semPartner ++ [sem] }).respond 0x83 tag 0 0

/-- SEM_REL from unit B. -/
def State.semRel (s : State) (tag sem : Nat) : State :=
  if ¬ s.bridgeHears ∨ s.unitB then s
  else
    let s := s.linkTaken 0
    if ¬ s.forwarding then s.respond 0x83 tag 1 0
    else
      let s :=
        if s.qlb.semPartner.contains sem then
          (s.setHeld sem false).setQlb { (s.setHeld sem false).qlb with semPartner := s.qlb.semPartner.filter (fun x => x != sem) }
        else s
      (s.respond 0x83 tag 0 0).takeSems 16

-- accesses of an engine (R571 to R574, R578, R579; 15, R630 to R633)

/-- The region that holds all `n` octets of an access; none when they reach beyond it (R630). Conventions: log entry 15 (DEDUCED). -/
def span (a n : Nat) : Region := if region (a + n - 1) = region a then region a else .none

/-- An engine's load in the partner window, a non-posted read, or from its memories at once (15, Table 15-1); `engineRead` serves the
registers and the flash window. Conventions: log entries 1 (PRESUMED), 15 (DEDUCED). -/
def State.engineLoad (s : State) (e addr size : Nat) : State :=
  if ¬ s.engineActs e ∨ ¬ sizeOk size then s
  else
    match span addr size with
    | .partner =>
      if ¬ s.linkIsUp then s.readFails e (addr - 0x40000000) 5
      else s.request { tag := 0, kind := 1, engine := e, size := size, addr := addr - 0x40000000, data := 0, since := 0, guarded := false,
                       reserve := false }
    | .tcm => s.setRdata e (leNat (getBytes s.byte addr size))
    | .sram => s.setRdata e (leNat (getBytes s.byte addr size))
    | .aon => s.setRdata e (leNat (getBytes s.byte addr size))
    | .bootRom => s.setRdata e (leNat (getBytes Config.bootRom addr size))
    | .none => s.busError e addr false 1
    | .regs => s
    | .flash => s

/-- An engine's store: in the partner window a posted write; into its memories at once; a read-only region answers with a bus error
(R631, R632). Conventions: log entry 15 (DEDUCED). -/
def State.engineStore (s : State) (e addr data size : Nat) : State :=
  if ¬ s.engineActs e ∨ ¬ sizeOk size then s
  else
    match span addr size with
    | .partner =>
      if ¬ s.linkIsUp then s.farError e (addr - 0x40000000) 5 false
      else s.request { tag := 0, kind := 2, engine := e, size := size, addr := addr - 0x40000000, data := data % 2 ^ (8 * size), since := 0,
                       guarded := false, reserve := false }
    | .tcm => s.store addr (leBytes size data)
    | .sram => s.store addr (leBytes size data)
    | .aon => s.busError e addr true 2
    | .bootRom => s.busError e addr true 2
    | .flash => s.busError e addr true 2
    | .none => s.busError e addr true 1
    | .regs => s

/-- A read of QLB_FENCEf by engine `e` (R574). Conventions: log entry 47 (DEDUCED). -/
def State.fenceRead (s : State) (e f : Nat) : State :=
  if ¬ s.engineActs e then s
  else if e ≠ f then s.setRdata e (s.regN (R.QLB_FENCE f))
  else if s.writesOpen e then s.setQlb { s.qlb with fencing := s.qlb.fencing ++ [e] }
  else s.fenceDone e

/-- Where an atomic access may not go: its bus-error cause (R631, R633). Conventions: log entry 15 (DEDUCED). -/
def atomicCause (addr : Nat) (write : Bool) : Nat :=
  match region addr with
  | .none => 1
  | .bootRom => if write then 2 else 5
  | .aon => if write then 2 else 5
  | _ => 5

/-- LR (R579, R633). Conventions: log entry 47 (DEDUCED). -/
def State.loadReserved (s : State) (e addr : Nat) : State :=
  if ¬ s.engineActs e then s
  else if addr % 4 ≠ 0 then s.busError e addr false 5
  else if region addr = .partner then
    if ¬ s.linkIsUp then s.readFails e (addr - 0x40000000) 5
    else s.request { tag := 0, kind := 1, engine := e, size := 4, addr := addr - 0x40000000, data := 0, since := 0, guarded := false,
                     reserve := true }
  else if s.ownShared addr then
    (s.setRdata e (s.word addr)).setQlb { s.qlb with guardLr := sput none e (some (addr, s.word addr)) s.qlb.guardLr }
  else if region addr = .tcm ∨ region addr = .sram then
    let s := s.setRdata e (s.word addr)
    { s with eng := { s.eng with resv := sput none e (some addr) s.eng.resv } }
  else s.busError e addr false (atomicCause addr false)

/-- SC (R579, R633): 0 when it writes, 1 when it does not. Conventions: log entry 47 (DEDUCED). -/
def State.storeConditional (s : State) (e addr data : Nat) : State :=
  if ¬ s.engineActs e then s
  else if addr % 4 ≠ 0 then s.busError e addr true 5
  else if region addr = .partner ∨ s.ownShared addr then
    let lr := sget none s.qlb.guardLr e
    let s := s.setQlb { s.qlb with guardLr := sput none e none s.qlb.guardLr }
    match lr with
    | some (a, v) => if a = addr then s.startGuard e ⟨none, addr, data, some v, 0, 0⟩ else s.setRdata e 1
    | none => s.setRdata e 1
  else if region addr = .tcm ∨ region addr = .sram then
    let held := sget none s.eng.resv e == some addr
    let s := { s with eng := { s.eng with resv := sput none e none s.eng.resv } }
    if held then (s.storeWord addr data).setRdata e 0 else s.setRdata e 1
  else s.busError e addr true (atomicCause addr true)

/-- An AMO (R578, R633): the old word is returned. Conventions: log entry 47 (DEDUCED). -/
def State.amo (s : State) (e : Nat) (op : AmoOp) (addr data : Nat) : State :=
  if ¬ s.engineActs e then s
  else if addr % 4 ≠ 0 then s.busError e addr true 5
  else if region addr = .partner ∨ s.ownShared addr then s.startGuard e ⟨some op, addr, data, none, 0, 0⟩
  else if region addr = .tcm ∨ region addr = .sram then
    let old := s.word addr
    (s.storeWord addr (amoValue op old data)).setRdata e old
  else s.busError e addr true (atomicCause addr true)

end Sys2Proof.Machine
end

