-- ==== Sys2Proof/Machine/Cph.lean ====
section
/-! DEFINITION. The job rings, the compare pairs and the key store (12, R493 to R514). -/

namespace Sys2Proof.Machine

-- key store (R507 to R514)

/-- Whether a job is bound to a generation of a slot (R509). -/
def State.bound (s : State) (slot gen : Nat) : Bool := s.cph.jobs.any (fun j => j.slot == slot && j.gen == gen)

/-- Retiring banks in use (R513). -/
def State.banks (s : State) : Nat := (s.cph.old.filter (fun o => o.bank)).length

/-- The material of a slot leaves it: destroyed at once when no job is bound to it, else kept until the last one retires (R512). -/
def State.retireKey (s : State) (slot : Nat) (bank : Bool) : State :=
  let k := s.key slot
  if ¬ k.loaded then s
  else if s.bound slot k.gen then s.setCph { s.cph with old := s.cph.old ++ [⟨slot, k.gen, k.bytes, bank⟩] }
  else s.inc C.CPH_KEY_DESTROYED

/-- Old material that an erased slot still keeps (R513). -/
def State.keptOld (s : State) (slot : Nat) : Bool := s.cph.old.any (fun o => o.slot == slot && !o.bank)

/-- Whether a write into a slot must wait for a retiring bank (R513). -/
def State.bankWait (s : State) (slot : Nat) : Bool :=
  ((s.key slot).loaded && s.bound slot (s.key slot).gen || s.keptOld slot) && decide (32 ≤ s.banks)

/-- A key written into a slot; old material with bound jobs, that of an erased slot too, goes to a retiring bank (R509, R510,
R513). -/
def State.writeKey (s : State) (slot mode : Nat) (b : List Byte) : State :=
  let s := s.retireKey slot true
  let s := s.setCph { s.cph with old := s.cph.old.map (fun o => if o.slot = slot then { o with bank := true } else o) }
  s.setKey slot { loaded := true, mode := mode, bytes := b, gen := ((s.key slot).gen + 1) % 65536 }

/-- A slot erased (R509, R511). -/
def State.eraseKey (s : State) (slot : Nat) : State :=
  let s := s.retireKey slot false
  s.setKey slot { loaded := false, mode := 0, bytes := [], gen := ((s.key slot).gen + 1) % 65536 }

/-- CPH_KS_ERASE (R511). Conventions: log entry 43 (DEDUCED). -/
def State.keyErase (s : State) (value : Nat) : State := if value.testBit 31 then s.eraseKey (value % 256) else s

/-- CPH_KS_SEL captures the state of a slot. Conventions: log entry 43 (DEDUCED). -/
def State.cphKsSel (s : State) (value : Nat) : State :=
  let slot := value % 256
  let k := s.key slot
  let s := s.wr F.CPH_KS_SEL_SLOT slot
  let old := s.cph.old.any (fun o => o.slot == slot)
  s.setRegN R.CPH_KS_STATE
    (k.gen * 65536 + k.mode * 256 + b2n k.loaded * 128 + b2n (k.loaded && k.bytes.length == 32) * 64 + b2n old * 32)

-- rings (R501 to R506)

/-- SIZE in force: above 512 acts as 512. -/
def State.cphSize (s : State) (e : Nat) : Nat := min 512 (s.rd (F.CPH_RING_SIZE_SIZE e))

/-- Address of descriptor `i` of a ring. -/
def State.jobAddr (s : State) (e i : Nat) : Nat := s.regN (R.CPH_RING_BASE e) / 64 * 64 + i * 64

/-- Word `k` of a descriptor. -/
def State.jobWord (s : State) (e i k : Nat) : Nat := s.word (s.jobAddr e i + 4 * k)

def State.ringJobs (s : State) (e : Nat) : List Job := s.cph.jobs.filter (fun j => j.ring == e)

/-- The next descriptor to dispatch, when the ring runs and a shared context is free (R497). -/
def State.nextJob (s : State) (e : Nat) : Option Nat :=
  let n := s.cphSize e
  let inflight := (s.ringJobs e).length
  if ¬ s.alive ∨ ¬ s.on (F.CPH_RING_CTRL_EN e) ∨ n = 0 ∨ s.cph.aborting.contains e ∨ 16 ≤ inflight ∨ 64 ≤ s.cph.jobs.length ∨
      ¬ inSram (s.jobAddr e 0) (n * 64) then none
  else
    let i := (s.rd (F.CPH_RING_GET_GET e) + inflight) % n
    if i = s.rd (F.CPH_RING_PUT_PUT e) % n then none else some i

/-- Two ranges of bytes overlap. -/
def overlap (a n b m : Nat) : Bool := decide (0 < n) && decide (0 < m) && decide (a < b + m) && decide (b < a + n)

/-- Ranges that an operation uses (R502): address and length. -/
def jobRanges (op tagLen aadLen len keyLen : Nat) (iv aad inp out tag : Nat) : List (Nat × Nat) :=
  match op with
  | 1 => [(iv, 12), (aad, aadLen), (inp, len), (out, len), (tag, tagLen)]
  | 2 => [(iv, 12), (aad, aadLen), (inp, len), (out, len), (tag, tagLen)]
  | 3 => [(inp, len), (tag, tagLen)]
  | 4 => [(inp, len), (tag, tagLen)]
  | 5 => [(out, keyLen + 8)]
  | 6 => [(inp, len)]
  | 7 => [(inp, len)]
  | _ => []

/-- What a job comes to: its status, the bytes it writes and the key it writes. -/
structure JobResult where
  status : Nat
  outs : List (Nat × List Byte)
  keyW : Option (Nat × Nat × List Byte)
  /-- a LENGTH caused by an address -/
  badAddr : Bool

def jobEnds (status : Nat) : JobResult := ⟨status, [], none, false⟩

/-- Whether a slot has a MODE bit that an operation needs (Table 12-4). -/
def State.slotServes (s : State) (op slot : Nat) : Bool :=
  let m := (s.key slot).mode
  match op with
  | 1 => m.testBit 0
  | 2 => m.testBit 0
  | 3 => m.testBit 1 || m.testBit 7
  | 4 => m.testBit 1 || m.testBit 7
  | 5 => m.testBit 2
  | 6 => m.testBit 2
  | _ => m.testBit 3

/-- A descriptor carried out under the keys of its dispatch (R502 to R505, Table 12-4). Conventions: log entry 43 (DEDUCED). -/
def State.runJob (s : State) (e i : Nat) : JobResult :=
  let w0 := s.jobWord e i 0
  let w1 := s.jobWord e i 1
  let op := bits w0 0 4
  let tl := bits w0 4 4
  let tagLen := if tl = 0 then 16 else tl
  let slot := bits w0 8 8
  let dst := bits w0 16 8
  let dmode := bits w0 24 8
  let aadLen := bits w1 0 15
  let len := bits w1 16 15
  let iv := s.jobWord e i 2
  let aad := s.jobWord e i 3
  let inp := s.jobWord e i 4
  let out := s.jobWord e i 5
  let tag := s.jobWord e i 6
  let mem := fun a n => getBytes s.byte a n
  if op = 0 then jobEnds 0
  else if 8 ≤ op then jobEnds 3
  else if 16384 < aadLen ∨ 16384 < len ∨ (1 ≤ tl ∧ tl ≤ 3) ∨ (op = 6 ∧ len ≠ 24 ∧ len ≠ 40) then jobEnds 6
  else if (jobRanges op tagLen aadLen len (s.key dst).bytes.length iv aad inp out tag).any (fun r => r.2 != 0 && !inSram r.1 r.2) ∨
      ((op = 1 ∨ op = 2) ∧ ((out ≠ inp ∧ overlap out len inp len) ∨ overlap out len aad aadLen)) then
    { jobEnds 6 with badAddr := true }
  else if ¬ (s.key slot).loaded ∨ (op = 5 ∧ ¬ (s.key dst).loaded) then jobEnds 2
  else if ¬ s.slotServes op slot ∨ (op = 5 ∧ ¬ s.keyFor dst 4) ∨ ((op = 6 ∨ op = 7) ∧ dmode.testBit 7) then jobEnds 3
  else
    let key := (s.key slot).bytes
    match op with
    | 1 =>
      let r := gcmEncrypt key (mem iv 12) (mem aad aadLen) (mem inp len)
      ⟨0, [(out, r.1), (tag, r.2.take tagLen)], none, false⟩
    | 2 =>
      let r := gcmDecrypt key (mem iv 12) (mem aad aadLen) (mem inp len)
      if r.2.take tagLen = mem tag tagLen then ⟨0, [(out, r.1)], none, false⟩ else jobEnds 1
    | 3 => ⟨0, [(tag, (cmacBytes key (mem inp len)).take tagLen)], none, false⟩
    | 4 => if (cmacBytes key (mem inp len)).take tagLen = mem tag tagLen then jobEnds 0 else jobEnds 1
    | 5 => ⟨0, [(out, keyWrap key (s.key dst).bytes)], none, false⟩
    | 6 =>
      match keyUnwrap key (mem inp len) with
      | some k => ⟨0, [], some (dst, dmode, k), false⟩
      | none => jobEnds 1
    | _ => ⟨0, [], some (dst, dmode, kdf key (mem inp len) (if w1.testBit 15 then 32 else 16)), false⟩

/-- Pairs that take new jobs (R495). -/
def State.pairsOn (s : State) : List Nat := [0, 1, 2, 3].filter (fun c => (s.rd F.CPH_CTRL_PAIR_EN).testBit c)

/-- IN_SERVICE: the pairs that take jobs, and those that still finish theirs. -/
def State.refreshPairs (s : State) : State :=
  s.wr F.CPH_STATUS_IN_SERVICE
    ([0, 1, 2, 3].foldl (fun m c =>
      if s.pairsOn.contains c || s.cph.jobs.any (fun j => j.pair == c && !j.ready) then m + 2 ^ c else m) 0)

/-- A pair that runs a job: one of those in service other than `but` (R494; log entry 2: the spec does not say which).
Conventions: log entries 2 (DESIGN CHOICE), 43 (DEDUCED). -/
def State.pickPair (s : State) (but : Option Nat) : State × Option Nat :=
  let l := s.pairsOn.filter (fun c => some c != but)
  match l with
  | [] => (s, none)
  | _ =>
    let f := s.drawFree
    (f.2, some (nth 0 l (f.1 % l.length)))

/-- The next descriptor of ring `e` is dispatched when its OP is one of `ops` (R503, R509). Conventions: log entry 43 (DEDUCED). -/
def State.dispatchJob (s : State) (e : Nat) (ops : List Nat) : State :=
  match s.nextJob e with
  | none => s
  | some i =>
    if ¬ ops.contains (bits (s.jobWord e i 0) 0 4) then s
    else
      let r := s.runJob e i
      let slot := bits (s.jobWord e i 0) 8 8
      let p := s.pickPair none
      match p.2 with
      | none => s
      | some c =>
        let s := p.1
        let s := if r.badAddr then (s.inc C.CPH_RING_ERRORS).raiseOnce 0x0D07 e else s
        s.setCph { s.cph with jobs := s.cph.jobs ++
          [{ ring := e, idx := i, slot := slot, gen := (s.key slot).gen, pair := c, rerun := false, ready := false,
             status := r.status, outs := r.outs, keyW := r.keyW }] }

/-- The words that end a descriptor: word 14 with the generation, then word 15 with DONE; the engine's CPH bit is set (R501,
R643). -/
def State.endDescriptor (s : State) (e i : Nat) (gen : Option Nat) (status : Nat) : State :=
  let s := match gen with
    | some g => s.storeWord (s.jobAddr e i + 56) g
    | none => s
  (s.storeWord (s.jobAddr e i + 60) (2 ^ 31 + status)).wr (F.ENG_IRQ_PEND_CPH e) 1

/-- The result of the oldest job of a ring released: outputs, the key, the words and GET (R493, R499, R501).
Conventions: log entry 43 (DEDUCED). -/
def State.releaseJob (s : State) (j : Job) : State :=
  let s := s.setCph { s.cph with jobs := s.cph.jobs.erase j }
  let s := j.outs.foldl (fun s o => s.store o.1 o.2) s
  let s := match j.keyW with
    | some (d, m, b) => s.writeKey d m b
    | none => s
  let s := (s.endDescriptor j.ring j.idx (some j.gen) j.status).job j.status
  s.wr (F.CPH_RING_GET_GET j.ring) ((j.idx + 1) % max 1 (s.cphSize j.ring))

/-- ABORT takes effect once no job of the ring is in flight (R506). -/
def State.abortRing (s : State) (e : Nat) : Nat → State
  | 0 => s
  | n + 1 =>
    let i := s.rd (F.CPH_RING_GET_GET e) % max 1 (s.cphSize e)
    if i = s.rd (F.CPH_RING_PUT_PUT e) % max 1 (s.cphSize e) then s
    else (((s.endDescriptor e i none 7).job 7).wr (F.CPH_RING_GET_GET e) ((i + 1) % max 1 (s.cphSize e))).abortRing e n

def State.tryAbort (s : State) (e : Nat) : State :=
  if s.cph.aborting.contains e ∧ s.ringJobs e = [] then
    let s := s.abortRing e 512
    (s.setCph { s.cph with aborting := s.cph.aborting.filter (fun x => x != e) }).wr (F.CPH_RING_CTRL_EN e) 0
  else s

/-- Ready jobs of a ring released in order, up to one that waits for a retiring bank (R499, R513). -/
def State.releaseReady (s : State) (e : Nat) : Nat → State
  | 0 => s
  | n + 1 =>
    match (s.ringJobs e).head? with
    | none => s
    | some j =>
      let waits := match j.keyW with
        | some w => s.bankWait w.1
        | none => false
      if j.ready && !waits then (s.releaseJob j).releaseReady e n else s

/-- What follows the end of jobs on any ring. -/
def State.settleRings (s : State) : State :=
  ((List.range 8).foldl (fun s e => (s.releaseReady e 16).tryAbort e) s).refreshPairs

def State.setJob (s : State) (old new : Job) : State :=
  s.setCph { s.cph with jobs := s.cph.jobs.map (fun j => if j == old then new else j) }

/-- The unit has no compare pair left (R495). -/
def State.noPair (s : State) : State := if s.pairsOn = [] ∧ s.rd F.CPH_STATUS_IN_SERVICE = 0 then s.failSilent 9 0 else s

/-- A difference of pair `c` (R494): counted, and in the window of the pair; a lasting one retires the pair, and its jobs run on
another, or on none (R495). -/
def State.pairDiffers (s : State) (c : Nat) : State :=
  let s := (s.inc C.CPH_COMPARE_FAULTS).raise 0x0D01 c
  let r := s.detector 3 c
  if r.2 ∧ (r.1.rd F.CPH_CTRL_PAIR_EN).testBit c then
    let s := (r.1.wr F.CPH_CTRL_PAIR_EN (r.1.rd F.CPH_CTRL_PAIR_EN - 2 ^ c)).raise 0x0D02 0
    let p := s.pickPair (some c)
    let d := match p.2 with | some d => d | none => 4
    p.1.setCph { p.1.cph with jobs := p.1.cph.jobs.map (fun j => if j.pair == c && !j.ready then { j with pair := d } else j) }
  else r.1

/-- The oldest running job of a ring ends on its pair; `differs` says that the two cores disagree (R493, R494).
Conventions: log entry 43 (DEDUCED). -/
def State.jobComplete (s : State) (e : Nat) (differs : Bool) : State :=
  match (s.ringJobs e).find? (fun j => !j.ready) with
  | none => s
  | some j =>
    if ¬ differs then (s.setJob j { j with ready := true }).settleRings.noPair
    else
      let failed := { j with ready := true, status := 5, outs := [], keyW := none }
      if j.rerun then ((s.setJob j failed).pairDiffers j.pair).settleRings.noPair
      else
        let p := s.pickPair (some j.pair)
        match p.2 with
        | some d => ((p.1.setJob j { j with pair := d, rerun := true }).pairDiffers j.pair).settleRings.noPair
        | none => ((s.setJob j failed).pairDiffers j.pair).settleRings.noPair

/-- A write to a ring's PUT (R501). Conventions: log entry 43 (DEDUCED). -/
def State.ringPut (s : State) (e value : Nat) : State := s.writeFields (R.CPH_RING_PUT e) value

/-- ABORT of a ring (R506). -/
def State.ringAbort (s : State) (e : Nat) : State :=
  (s.setCph { s.cph with aborting := if s.cph.aborting.contains e then s.cph.aborting else s.cph.aborting ++ [e] }).tryAbort e

/-- A write to CPH_RINGe_CTRL. -/
def State.ringCtrlWrite (s : State) (e value : Nat) : State :=
  let s := s.writeFields (R.CPH_RING_CTRL e) value
  if value.testBit 31 then s.ringAbort e else s

/-- Old material of a slot destroyed once no job is bound to it (R512); a rewrite that waited for a bank goes on (R513). -/
def State.keyDestroyed (s : State) (slot : Nat) : State :=
  let gone := s.cph.old.filter (fun o => o.slot == slot && !s.bound o.slot o.gen)
  if gone = [] then s
  else
    let s := s.setCph { s.cph with old := s.cph.old.filter (fun o => !gone.contains o) }
    (s.add C.CPH_KEY_DESTROYED gone.length).settleRings

/-- A write to CPH_CTRL: pairs in service (R495). -/
def State.pairEnWrite (s : State) (value : Nat) : State := ((s.writeFields R.CPH_CTRL value).refreshPairs).noPair

/-- Every job ends ABORTED, and every slot, bank and the working buffer are zeroised (R516). Conventions: log entry 24 (DEDUCED). -/
def State.zeroise (s : State) : State :=
  let s := s.cph.jobs.foldl (fun s j =>
    ((s.endDescriptor j.ring j.idx (some j.gen) 7).job 7).wr (F.CPH_RING_GET_GET j.ring) ((j.idx + 1) % max 1 (s.cphSize j.ring))) s
  let s := (s.add C.CPH_KEY_DESTROYED s.cph.old.length).setCph { s.cph with jobs := [], old := [] }
  let s := (List.range 256).foldl (fun s k => s.eraseKey k) s
  { s with flt := { s.flt with kekBlocked := true } }

/-- An uncorrectable error in the material of a slot erases it (R496): jobs bound to it end with KEY_EMPTY. -/
def State.keyEccLost (s : State) (slot : Nat) : State :=
  let g := (s.key slot).gen
  let s := s.setCph { s.cph with jobs := s.cph.jobs.map (fun j =>
    if j.slot == slot && j.gen == g && !j.ready then { j with ready := true, status := 2, outs := [], keyW := none } else j) }
  (s.eraseKey slot).settleRings

end Sys2Proof.Machine
end

