-- ==== Sys2Proof/Machine/Egs.lean ====
section
/-! DEFINITION. Egress scheduling (08): selection, the shaper, list commits and changes, stamps and the gate lead, transmission and
its end, and the monitors. -/

namespace Sys2Proof.Machine

-- lists (R328 to R339)

/-- A header commit of list `n` (R15, R328, R329, R334, R336, R337). -/
def State.listHeaderCommit (s : State) (n : Nat) : State :=
  let w := s.staged R.EGS_STAGE0 6
  if hdrRejected w then
    { (s.wr F.EGS_COMMIT_STATUS_RESULT 2).raise 0x0802 n with egsLast := none }
  else
    let s := { s.setEntry 6 n w with egsLast := none }
    let l := s.glist n
    if ¬ hdrValid w then (s.setGlist n glist0).wr F.EGS_COMMIT_STATUS_RESULT 0
    else if l.running then
      let c := s.cycleTime w
      let l := { l with pending := some w, cycNew := c, changeT := firstAt (hdrBase w) c (s.wtNs + 1000) }
      { (s.setGlist n (s.setNextOf l)).wr F.EGS_COMMIT_STATUS_RESULT 1 with egsLast := some n }
    else (s.refreshList n).wr F.EGS_COMMIT_STATUS_RESULT 0

/-- A commit of gate entry `i` (R15, R338), which the running lists that hold it use from its next turn on. -/
def State.gateEntryCommit (s : State) (i : Nat) : State :=
  let s := { (s.setEntry 6 (256 + i) (s.staged R.EGS_STAGE0 2)).wr F.EGS_COMMIT_STATUS_RESULT 0 with egsLast := none }
  s.lists.foldl (fun s e =>
    if hdrFirst e.2.words ≤ i ∧ i < hdrFirst e.2.words + hdrLength e.2.words then s.setGlist e.1 (s.entryCommitted e.2) else s) s

/-- A write to EGS_COMMIT: header, entry, or ignored above 4351 (Table 8-5). -/
def State.egsCommit (s : State) (value : Nat) : State :=
  let i := bits value 0 13
  if i < 256 then s.listHeaderCommit i
  else if i < 4352 then s.gateEntryCommit (i - 256)
  else s

/-- A write to EGS_LIST_SEL captures a list's state. -/
def State.egsListSel (s : State) (value : Nat) : State :=
  let n := bits value 0 8
  let l := s.glist n
  let pend := l.pending.isSome
  let s := s.wr F.EGS_LIST_SEL_LIST n
  let s := s.setRegN R.EGS_LIST_STATUS (b2n l.running * 2 ^ 31 + b2n pend * 2 ^ 30 + gatesOf l * 2 ^ 16 +
    b2n (l.running && l.init) * 2 ^ 12 + (if l.running ∧ ¬ l.init then l.pos else 0))
  let t := if pend then l.changeT else 0
  (s.setRegN R.EGS_LIST_CHANGE_NS ((t % 1000000000).toNat)).setRegN R.EGS_LIST_CHANGE_S ((t / 1000000000).toNat)

/-- A cycle start or the end of an entry of a running list, at or before WT now (R331, R332, R338). -/
def State.gateEvent (s : State) (n : Nat) : State :=
  let l := s.glist n
  match l.next with
  | some t =>
    if l.running ∧ t ≤ s.wtNs ∧ ¬ (l.pending.isSome ∧ l.changeT ≤ t) then s.setGlist n (s.advanceList l t) else s
  | none => s

/-- Ports that a list drives (R329). -/
def State.portsOf (s : State) (n : Nat) : List Nat :=
  (List.range 24).filter (fun p => s.on (F.EGS_P_GATE_EN p) && decide (s.rd (F.EGS_P_GATE_LIST p) = n))

/-- Length in R340 of what remains of a preempted frame (R351). -/
def State.leftOf (s : State) (t : TxFrame) : Nat :=
  (if (s.getPkt t.copy.pkt).complete then t.bytes.length + 4 else s.classMaxSdu t.queue) - t.sent

/-- The remainder of a preempted frame that never fits a new list is discarded (R346, R351). -/
def State.testRest (s : State) (q : Nat) : State :=
  let p := q / 8
  match (s.port p).rest, s.maxWin p (q % 8) with
  | some t, some m =>
    let w := if s.preemptable p (q % 8) then s.minFragNs p else octetNs (8 + s.leftOf t) (s.portKbps p)
    if t.queue = q ∧ m < w then
      let s := (s.modPort p (fun m => { m with rest := none })).raiseNeverFits q (s.getPkt t.copy.pkt).sc
      (s.inc (C.EGS_Q_NEVER_FITS q)).unlink q t.copy
    else s
  | _, _ => s

/-- The head copy of a queue tested against a new list (R346). -/
def State.testHead (s : State) (q : Nat) : State :=
  let s := s.testRest q
  match s.queue q with
  | [] => s
  | c :: _ =>
    let pk := s.getPkt c.pkt
    let len := if pk.complete then pktLen pk else s.classMaxSdu q
    if ¬ s.inTx q c ∧ s.neverFits (q / 8) (q % 8) pk.vid len then
      ((s.unlink q c).inc (C.EGS_Q_NEVER_FITS q)).raiseNeverFits q pk.sc
    else s

/-- A change of list `n` has taken effect (R334, R336, R346). -/
def State.listChanged (s : State) (n : Nat) : State :=
  let s := if s.egsLast = some n then { s.wr F.EGS_COMMIT_STATUS_RESULT 0 with egsLast := none } else s
  let s := s.raise 0x0801 n
  (s.portsOf n).foldl (fun s p => (List.range 8).foldl (fun s t => s.testHead (p * 8 + t)) s) s

/-- The change instant T of a list comes (R334 to R336). Conventions: log entry 36 (DEDUCED). -/
def State.changeInstant (s : State) (n : Nat) : State :=
  let l := s.glist n
  if l.running ∧ l.pending.isSome ∧ l.changeT ≤ s.wtNs then (s.setGlist n (s.changeList l)).listChanged n else s

/-- Every running list after a WT step of R86 (R339). -/
def State.relocateLists (s : State) : State :=
  s.lists.foldl (fun s e =>
    if e.2.running then
      let r := s.relocate e.2
      let s := s.setGlist e.1 r.1
      if r.2 then s.listChanged e.1 else s
    else s) s

-- the shaper (R323 to R327)

/-- A queue counts as transmitting (R325); on a 10BASE-T1S port a frame starts with its transmit opportunity, and again after a
collision (R362). Conventions: log entry 36 (DEDUCED). -/
def State.transmitting (s : State) (q : Nat) : Bool :=
  let m := s.port (q / 8)
  (match m.tx with
   | some t => decide (t.queue = q) && decide (t.start ≤ s.clk.now)
   | none => false) || (decide (m.gapQ = q) && decide (s.clk.now < m.gapEnd))

def State.qCredit (s : State) (q : Nat) : Int := sget 0 s.credit q
def State.setQCredit (s : State) (q : Nat) (c : Int) : State := { s with credit := sput 0 q c s.credit }

/-- One 4 ns tick of a queue's credit, in units of 4 × 10^-6 bit (R324). -/
def State.tickCredit (s : State) (q : Nat) : State :=
  let p := q / 8
  let slope : Int := s.rd (F.EGS_Q_SHAPER_IDLE_SLOPE q)
  let ceil : Int := s.rd (F.EGS_Q_BURST_BURST_CEIL q) * 8 * 250000
  let c := s.qCredit q
  if p < 24 ∧ ¬ s.linkUp p then s.setQCredit q 0
  else if p < 24 ∧ (¬ (s.portGates p).testBit (q % 8) ∨ (s.rd (F.MAC_STATUS_PAUSED p)).testBit (q % 8)) then s
  else if s.transmitting q then s.setQCredit q (c + slope - s.portKbps p)
  else if s.queue q ≠ [] then s.setQCredit q (c + slope)
  else if ceil < c then s.setQCredit q ceil
  else s.setQCredit q (min (c + slope) ceil)

/-- The queues whose SHAPER_EN is 1. -/
def State.shaped (s : State) : List Nat :=
  (s.regs.filter (fun e => decide (R.EGS_Q_SHAPER 0 ≤ e.1) && decide (e.1 < R.EGS_Q_SHAPER 224) && decide (e.1 % 16 = 0) &&
    e.2.toNat.testBit 31)).map (fun e => (e.1 - R.EGS_Q_SHAPER 0) / 16)

def State.tickShapers (s : State) : State := s.shaped.foldl (fun s q => s.tickCredit q) s

/-- EGS_QqCREDIT: signed 1/16 bit, truncated toward 0; 0 without a shaper (R326). -/
def State.creditReg (s : State) (q : Nat) : Nat :=
  if s.on (F.EGS_Q_SHAPER_SHAPER_EN q) then unsgn 32 (Int.tdiv (s.qCredit q * 64) 1000000) else 0

/-- A write to EGS_QqSHAPER or EGS_QqBURST (R327). -/
def State.shaperWrite (s : State) (q : Nat) (burst : Bool) (value : Nat) : State :=
  if burst then s.writeFields (R.EGS_Q_BURST q) value
  else
    let was := s.on (F.EGS_Q_SHAPER_SHAPER_EN q)
    let s := s.writeFields (R.EGS_Q_SHAPER q) value
    if s.on (F.EGS_Q_SHAPER_SHAPER_EN q) ∧ ¬ was then s.setQCredit q 0 else s

-- eligibility (R317, R342)

/-- The head of a queue can be selected at all: whole, or leaving by cut-through (R289, R290). -/
def State.ready (s : State) (c : Copy) : Bool :=
  let pk := s.getPkt c.pkt
  (pk.complete || c.cut) && !pk.bad

/-- The length rule of R342 for a copy of `len` octets at WT now. -/
def State.passes (s : State) (p t vid len : Nat) : Bool :=
  match s.window p t s.wtNs with
  | none => true
  | some r => decide ((s.wireNs p vid len : Int) ≤ r) || (s.preemptable p t && decide ((s.minFragNs p : Int) ≤ r))

/-- Length in R340 of the head copy of a queue. -/
def State.headLen (s : State) (q : Nat) (c : Copy) : Nat :=
  let pk := s.getPkt c.pkt
  if pk.complete then pktLen pk else s.classMaxSdu q

/-- Pause, shaper and gate allow a queue (R317); internal ports have the shaper only. -/
def State.unblocked (s : State) (q : Nat) : Bool :=
  let p := q / 8
  (decide (24 ≤ p) || (!(s.rd (F.MAC_STATUS_PAUSED p)).testBit (q % 8) && (s.portGates p).testBit (q % 8))) &&
    (!s.on (F.EGS_Q_SHAPER_SHAPER_EN q) || (s.rd (F.EGS_Q_SHAPER_IDLE_SLOPE q) != 0 && decide (0 ≤ s.qCredit q)))

/-- A head copy that fails the length rule is counted once (R342). -/
def State.countWait (s : State) (q : Nat) (c : Copy) : State :=
  if c.waited then s
  else (s.setQueue q ((s.queue q).map (fun x => if x = c then { x with waited := true } else x))).inc (C.EGS_Q_WINDOW_WAITS q)

/-- Whether queue `q` is eligible now, and its window wait counted. -/
def State.eligible (s : State) (q : Nat) : State × Option Copy :=
  match s.queue q with
  | [] => (s, none)
  | c :: _ =>
    if s.inTx q c ∨ ¬ s.ready c ∨ ¬ s.unblocked q then (s, none)
    else if 24 ≤ q / 8 then (s, some c)
    else if s.passes (q / 8) (q % 8) (s.getPkt c.pkt).vid (s.headLen q c) then (s, some c)
    else (s.countWait q c, none)

/-- The eligible queue with the highest class among some classes (R318). Conventions: log entry 36 (DEDUCED). -/
def State.select (s : State) (p : Nat) : List Nat → State × Option (Nat × Copy)
  | [] => (s, none)
  | t :: r =>
    let e := s.eligible (p * 8 + t)
    match e.2 with
    | some c => (e.1, some (p * 8 + t, c))
    | none => e.1.select p r

def classesDown : List Nat := [7, 6, 5, 4, 3, 2, 1, 0]

-- what leaves (R162, R164, R168, R265, R298)

/-- The octets of a copy as an egress port sends or delivers them, without FCS. -/
def State.egressBytes (s : State) (p : Nat) (pk : Pkt) (ce : Bool) : List Byte :=
  let d := if ce then s.markCe pk.data else pk.data
  let d := if p = 25 ∨ p = 26 ∨ (pk.rtagPop ∧ p ≠ 24) then rtagPop d else d
  if s.tagsOut p pk.vid pk.stpid then
    let tpid := s.tagTpid p pk.stpid
    let dei := if s.on (F.MAC_CTRL_DEI_ENCODE p) then b2n (pk.colour == 1) else pk.dei
    d.take 12 ++ beBytes 2 tpid ++ beBytes 2 (pk.pcp * 8192 + dei * 4096 + pk.vid) ++ d.drop 12
  else d

/-- The delay of a copy handed to the MAC (R357, R358). Conventions: log entry 36 (DEDUCED). -/
def State.delaySample (s : State) (q : Nat) (c : Copy) : State :=
  let d := min (s.lcNs - c.linked).toNat 0xFFFFFFFF
  let s := s.setRegN (R.EGS_Q_MAXDLY q) (max (s.regN (R.EGS_Q_MAXDLY q)) d)
  let bin := if d < 64 then 0 else min 15 (Nat.log2 (d / 64) + 1)
  (List.range 8).foldl (fun s m =>
    if s.on (F.EGS_HM_CFG_EN m) ∧ s.rd (F.EGS_HM_CFG_QUEUE m) = q then
      let s := s.setRegN (R.EGS_HM_DLY_BIN m bin) (min (s.regN (R.EGS_HM_DLY_BIN m bin) + 1) 0xFFFFFFFF)
      s.setRegN (R.EGS_HM_DLY_MAX m) (max (s.regN (R.EGS_HM_DLY_MAX m)) d)
    else s) s

/-- A cell of the copy fails its check when it is read (R306): its CRC, or its ECC. Its record carries the block and the word's address,
which is open (16, Table 16-6; log entry 2). Conventions: log entries 2 (DESIGN CHOICE), 55 (DESIGN CHOICE). -/
def State.cellError (s : State) (cell : Nat) (ecc : Bool) : State :=
  let f := s.drawFree
  ((f.2.inc (if ecc then C.BUF_ECC_UNCORR else C.BUF_CELL_CRC)).raiseFull 0 0x0704 cell 0 (0x07000000 + f.1 % 2 ^ 24) 0 false).detect 1 7

/-- A FABRIC cycle in ns, twice as long under the throttle (01, R33). -/
def State.fabricNs (s : State) : Nat := if s.on F.WAK_BO_THROTTLE then 4 else 2

/-- The gate-open instant for which the frame selected now is a trim sample (R354). -/
def State.trimOf (s : State) (p t : Nat) (c : Copy) : Option Int :=
  match s.portList p with
  | none => none
  | some l0 =>
    let u := s.wtNs + s.leadNs p
    let l := s.listAt u gateFuel l0
    let ago := u - l.entryStart
    if p < 16 ∧ s.on (F.EGS_P_LEAD_CFG_TRIM_EN p) ∧ ¬ l.init ∧ l.entry ≠ [] ∧ ago ≤ s.fabricNs ∧ (gatesOf l).testBit t ∧ ¬ l.was.testBit t ∧
        c.linked ≤ s.lcNs - ago ∧ ((s.port p).gapEnd : Int) ≤ s.clk.now - ago ∧ s.rd (F.MAC_STATUS_PAUSED p) = 0 then
      some l.entryStart
    else none

/-- Transmission of a selected copy begins, or the copy is discarded (R164, R305, R306, R347, R519 to R523).
Conventions: log entry 36 (DEDUCED). -/
def State.beginTx (s : State) (p q : Nat) (c : Copy) : State :=
  let pk := s.getPkt c.pkt
  let d := s.egressBytes p pk c.ce
  let long := decide (p < 24 ∧ s.maxFrame p < d.length + 4)
  if pk.complete ∧ ¬ c.cut ∧ long then (s.inc (C.MAC_TX_OVERSIZE p)).popHead q
  else
    let sec := s.msSelect p d
    match sec.2 with
    | .drop => sec.1.popHead q
    | .wait => sec.1
    | m =>
      let s := sec.1
      let sdu := c.cut && pk.complete && decide (s.classMaxSdu q < pktLen pk)
      let bad := s.badCell pk
      let tx : TxFrame :=
        { queue := q, copy := c, bytes := d, express := !s.preemptable p (q % 8), sent := 0, frags := 0, start := s.clk.now,
          stamped := false, lcOut := 0, sec := match m with | .under an pn => some (an, pn) | _ => none,
          cutAt := endAt (if long then some (s.maxFrame p + 1) else none) (if sdu then some (s.classMaxSdu q + 1) else none),
          stomp := long || sdu || bad.isSome, hold := false, trim := s.trimOf p (q % 8) c }
      let s := if long then s.inc (C.MAC_TX_OVERSIZE p) else s
      let s := if sdu then s.inc (C.EGS_Q_SDU_DROP q) else s
      let s := if c.cut ∧ tx.stomp then s.inc C.BUF_CT_STOMPED else s
      let s := match bad with | some (cell, ecc) => s.cellError cell ecc | none => s
      if 24 ≤ p ∧ bad.isSome then s.popHead q else (s.delaySample q c).modPort p (fun m => { m with tx := some tx })

/-- Octets of frame data sent so far of the fragment in transmission. -/
def State.sentNow (s : State) (p : Nat) (t : TxFrame) : Nat := (s.clk.now - t.start) * s.portKbps p / 8000000 - 8

/-- A point at which a preemptable frame may be preempted (R183). Conventions: log entry 31 (PRESUMED). -/
def State.preemptPoint (s : State) (p : Nat) (t : TxFrame) : Bool :=
  let n := s.sentNow p t
  !t.express && decide (64 * (1 + s.rd (F.MAC_CTRL_ADD_FRAG p)) - 4 ≤ n) && decide (t.sent + n + 60 ≤ t.bytes.length)

/-- Start delimiters of the preemptable MAC by the number of the frame, those of its further fragments, and the fragment counts
(R183; IEEE 802.3br Clause 99). -/
def smdStart (n : Nat) : Nat := nth 0 [0xE6, 0x4C, 0x7F, 0xB3] (n % 4)
def smdCont (n : Nat) : Nat := nth 0 [0x61, 0x52, 0x9E, 0x2A] (n % 4)
def fragCount (n : Nat) : Nat := nth 0 [0xE6, 0x4C, 0x7F, 0xB3] (n % 4)

/-- The mCRC over the octets of a frame so far (R183; IEEE 802.3br Clause 99). -/
def mCrc (l : List Byte) : List Byte := leBytes 4 (crc32 l ^^^ 0xFFFF0000)

/-- What the port puts on the medium for a frame or a fragment of one, whose octets are `octets` (R183). -/
def State.onWire (s : State) (p : Nat) (t : TxFrame) (octets : List Byte) : State :=
  let n := (s.port p).frameNo
  let w : Wire := if t.express then ⟨0xD5, none, octets⟩
    else if t.frags = 0 then ⟨smdStart n, none, octets⟩
    else ⟨smdCont n, some (fragCount (t.frags - 1)), octets⟩
  s.modPort p (fun m => { m with wire := some w })

/-- The frame in transmission is preempted: its fragment ends with the mCRC, and its rest waits at the head of its queue (R183, R349,
R351). -/
def State.preempt (s : State) (p : Nat) (t : TxFrame) : State :=
  let n := s.sentNow p t
  let s := s.onWire p t ((t.bytes.drop t.sent).take n ++ mCrc (t.bytes.take (t.sent + n)))
  let s := s.modPort p (fun m =>
    { m with tx := none, rest := some { t with sent := t.sent + n, frags := t.frags + 1, hold := false },
             gapEnd := s.clk.now + octetNs 16 (s.portKbps p), gapQ := t.queue })
  s.inc (C.MAC_TX_PREEMPTED p)

/-- Classes that are express, or preemptable, from the highest. -/
def State.classesOf (s : State) (p : Nat) (pre : Bool) : List Nat := classesDown.filter (fun t => s.preemptable p t == pre)

/-- The rest of a preempted frame may resume: its class gate is open and it passes R342 with what remains, whatever pause and shaper say
(R173, R185, R351). -/
def State.canResume (s : State) (p : Nat) (t : TxFrame) : Bool :=
  match s.window p (t.queue % 8) s.wtNs with
  | none => true
  | some r => decide ((octetNs (8 + s.leftOf t) (s.portKbps p) : Int) ≤ r) ||
      (s.preemptable p (t.queue % 8) && decide ((s.minFragNs p : Int) ≤ r))

-- internal loop (03, R118, R119)

def State.looped (s : State) (p : Nat) : Bool := s.on (F.TSU_P_CTRL_CAL_LOOP p)

/-- The octets that follow the start delimiter on the wire: padded to 64 with the FCS, ended early and stomped where the frame is
(R159, R162). Conventions: log entry 31 (PRESUMED). -/
def wireBytes (d : List Byte) (cutAt : Option Nat) (stomp : Bool) : List Byte :=
  let b := d ++ List.replicate (60 - d.length) 0
  let b := match cutAt with | some k => b.take (k - 4) | none => b
  if stomp then b ++ leBytes 4 (crcReg 0xFFFFFFFF b) else b ++ fcs b

/-- The stamp point of a looped frame reaches the port's own receiver after the internal loop latency, which is a free value
(R118; log entry 29). Conventions: log entries 2 (DESIGN CHOICE), 29 (DEDUCED). -/
def State.loopStart (s : State) (p phase : Nat) (t : TxFrame) : State :=
  let r := s.drawFree
  r.2.frameArrives p (if t.express then .express else .first) (phase + r.1) (wireBytes t.bytes t.cutAt t.stomp)

/-- A preempted frame's rest resumes at the receiver too. Conventions: log entry 29 (DEDUCED). -/
def State.loopResume (s : State) (p : Nat) : State :=
  if s.looped p ∧ (s.port p).cur = none ∧ (s.port p).held.isSome then s.frameArrives p .continued 0 [] else s

/-- The end of a looped frame. Conventions: log entry 29 (DEDUCED). -/
def State.loopEnd (s : State) (p : Nat) (t : TxFrame) : State :=
  match (s.port p).cur with
  | none => s
  | some f =>
    (s.modPort p (fun m => { m with cur := none })).endFrame p { f with bytes := wireBytes t.bytes t.cutAt t.stomp } ⟨none, false, false⟩

/-- A MAC control frame of the device (R177, Table 4-6; IEEE 802.3 Annex 31B, IEEE 802.1Qbb). Conventions: log entry 31 (PRESUMED). -/
def State.controlBytes (s : State) (p : Nat) (vec : Nat) (zero : Bool) : List Byte :=
  let q := if zero then 0 else s.rd (F.MAC_PAUSE_TX_QUANTA p)
  let body := if s.pfcOn p then beBytes 2 0x0101 ++ beBytes 2 vec ++
      (List.range 8).flatMap (fun c => beBytes 2 (if vec.testBit c then q else 0))
    else beBytes 2 1 ++ beBytes 2 q
  beBytes 6 0x0180C2000001 ++ beBytes 6 s.ownMac ++ beBytes 2 0x8808 ++ body

/-- A MAC control frame leaves between frames (R177, R178, R321). Conventions: log entry 36 (DEDUCED). -/
def State.sendControl (s : State) (p : Nat) : State :=
  match (s.port p).ctrl with
  | [] => s
  | (vec, zero) :: rest =>
    let octets := wireBytes (s.controlBytes p vec zero) none false
    let s1 := (s.modPort p (fun m => { m with ctrl := rest, gapEnd := s.clk.now + octetNs 84 (s.portKbps p), gapQ := 224,
                                              wire := some ⟨0xD5, none, octets⟩ })).inc (C.MAC_TX_PAUSE p)
    if s.looped p then s1.endFrame p { rxFrame0 octets with tpid := s.portTpid p } ⟨none, false, false⟩ else s1

/-- A verify or respond mPacket leaves: 60 octets of zero and the mCRC (R181, R182; IEEE 802.3br Clause 99). -/
def State.sendMpacket (s : State) (p : Nat) : State :=
  match (s.port p).mpkts with
  | [] => s
  | verify :: rest =>
    let s1 := s.modPort p (fun m => { m with mpkts := rest, gapEnd := s.clk.now + octetNs 84 (s.portKbps p), gapQ := 224,
                                             wire := some ⟨if verify then 0x07 else 0x19, none, zeros 60 ++ mCrc (zeros 60)⟩ })
    if s.looped p then s1.frameArrives p (if verify then .verify else .respond) 0 [] else s1

/-- A remainder that fails R342 waits, counted once in WINDOW_WAITS (R342, R351). -/
def State.waitRest (s : State) (p : Nat) (c : Copy) : State :=
  match (s.port p).rest with
  | none => s
  | some t =>
    (s.countWait t.queue c).modPort p (fun m => { m with rest := m.rest.map (fun t => { t with copy := { t.copy with waited := true } }) })

/-- Selection on an external port whose MAC can start a frame. -/
def State.selectFrame (s : State) (p : Nat) : State :=
  let m := s.port p
  match m.rest with
  | none =>
    let r := s.select p classesDown
    (match r.2 with | some (q, c) => r.1.beginTx p q c | none => r.1)
  | some t =>
    let r := s.select p (s.classesOf p false)
    match r.2 with
    | some (q, c) => r.1.beginTx p q c
    | none =>
      if r.1.canResume p t then
        (r.1.modPort p (fun m => { m with tx := some { t with start := r.1.clk.now }, rest := none })).loopResume p
      else
        match r.1.queue t.queue with
        | c :: _ => if c.pkt = t.copy.pkt then r.1.waitRest p c else r.1
        | [] => r.1

/-- A 10BASE-T1S port with NODE_ID_NC 0 only listens unless it is coordinator (R155). Conventions: log entry 30 (DEDUCED). -/
def State.listens (s : State) (p : Nat) : Bool :=
  decide (16 ≤ p) && s.rd (F.MAC_PLCA_NODE_ID_NC p) == 0 && !s.on (F.MAC_STATUS_PLCA_COORD p)

/-- The scheduler's selection on a port (R318, R319, R349). Conventions: log entry 36 (DEDUCED). -/
def State.transmitSelection (s : State) (p : Nat) : State :=
  if ¬ s.alive then s
  else if 24 ≤ p then
    match (s.port p).tx with
    | some _ => s
    | none =>
      let r := s.select p classesDown
      (match r.2 with | some (q, c) => r.1.beginTx p q c | none => r.1)
  else if ¬ s.portLive p ∨ ¬ s.on (F.MAC_STATUS_TX_ON p) ∨ s.macStopped ∨ s.listens p then s
  else
    match (s.port p).tx with
    | some t =>
      let r := s.select p (s.classesOf p false)
      if s.preemptPoint p t ∧ (r.2.isSome ∨ t.hold) then
        if t.hold then (r.1.preempt p t).inc (C.EGS_Q_HOLD_PREEMPTS t.queue) else r.1.preempt p t
      else s
    | none =>
      if s.clk.now < (s.port p).gapEnd ∨ (16 ≤ p ∧ ¬ s.t1sGrant p) then s
      else if (s.port p).mpkts ≠ [] then s.sendMpacket p
      else if (s.port p).ctrl ≠ [] then s.sendControl p
      else s.selectFrame p

/-- The hold of R350, 64 bytes before the gate of the class in transmission closes. -/
def State.holdRequest (s : State) (p : Nat) : State :=
  match (s.port p).tx with
  | none => s
  | some t =>
    match s.window p (t.queue % 8) s.wtNs with
    | none => s
    | some r =>
      if t.express ∨ (octetNs 64 (s.portKbps p) : Int) < r then s
      else if s.preemptPoint p t then (s.preempt p t).inc (C.EGS_Q_HOLD_PREEMPTS t.queue)
      else s.modPort p (fun m => { m with tx := some { t with hold := true } })

-- stamps (03, R101 to R109; R270; R355)

/-- Octets of a 64-bit field advanced by an amount. -/
def addField (d : List Byte) (o : Nat) (x : Int) : List Byte :=
  splice d o (beBytes 8 (unsgn 64 ((fld d o 8 : Int) + x)))

/-- The UDP checksum of a frame over UDP/IPv4 set to 0 (R104). Conventions: log entry 34 (DEDUCED). -/
def clearUdp (d : List Byte) : List Byte := if isV4 d then splice d (14 + ihl d * 4 + 6) [0, 0] else d

/-- A one-step action of a transmit descriptor at the stamp `t` of its clock (Table 3-5, R103, R104).
Conventions: log entry 34 (DEDUCED). -/
def State.oneStep (s : State) (a : TimeAct) (d : List Byte) (t : Int) : List Byte × Bool :=
  if a.op / 2 = 0 then (d, false)
  else
    match ptpOffset d with
    | none => (d, false)
    | some o =>
      if isV6 d then (d, true)
      else
        let f := o + a.offset
        let d := if a.op.testBit 1 then splice d f (beBytes 6 (secOf t % 2 ^ 48) ++ beBytes 4 (subNs t)) else d
        let d := if a.op.testBit 2 then
            let link : Int := if a.addLink ∧ a.linkPort < 24 then
                (s.rd (F.TSU_P_MEAN_DELAY_DELAY a.linkPort) : Int) + sgn 32 (s.rd (F.TSU_P_ASYM_ASYM a.linkPort)) else 0
            addField d f ((t - a.ref) / 2 ^ 23 + link * 4096)
          else d
        (clearUdp d, false)

/-- Transparent correction of a PTP event message forwarded between two ports (R106). Conventions: log entry 34 (DEDUCED). -/
def State.transparent (s : State) (p : Nat) (pk : Pkt) (d : List Byte) (wt : Int) : List Byte :=
  if pk.inPort < 24 ∧ s.on (F.TSU_P_CTRL_TC_EN p) ∧ s.on (F.TSU_P_CTRL_TC_EN pk.inPort) then
    match ptpEvent d with
    | none => d
    | some o =>
      let n := fld d (o + 4) 1
      if isV6 d ∨ n = s.rd (F.TSU_DC_CTRL_DOMAIN_NUMBER 0) ∨ n = s.rd (F.TSU_DC_CTRL_DOMAIN_NUMBER 1) then d
      else clearUdp (addField d (o + 8) ((wt - pk.wt) / 2 ^ 23))
  else d

/-- WT at the stamp point written into DEPARTURE of a glove frame of GLV with STAMP (11, R483). -/
def gloveStamp (pk : Pkt) (d : List Byte) (wt : Int) : List Byte :=
  let o := rtagSkip d
  if pk.inPort = 26 ∧ fld d o 2 = 0x88B5 ∧ (fld d (o + 4) 1).testBit 0 then
    splice d (o + 10) (beBytes 4 (secOf wt % 2 ^ 32) ++ beBytes 4 (subNs wt))
  else d

/-- The lead in force stays so until the window of class `t`, from which a sample came, ends (R356). -/
def State.holdLead (s : State) (p t : Nat) : State :=
  match s.window p t s.wtNs with
  | some r => s.modPort p (fun m => { m with leadOld := s.leadInForce p, leadFrom := some (s.wtNs + r) })
  | none => s.modPort p (fun m => { m with leadFrom := none })

/-- A trim sample of a frame of class `t` (R355, R356). Conventions: log entry 36 (DEDUCED). -/
def State.trimSample (s : State) (p t : Nat) (open_ wt : Int) : State :=
  let s := s.holdLead p t
  let err := wt / 2 ^ 35 - open_ * 16
  let nominal : Int := s.nominalLead p
  let lead : Int := s.rd (F.EGS_P_LEAD_LEAD p)
  let x := lead + clampI (-128) 128 (Int.tdiv err 8)
  let y := clampI 0 (2 * nominal) x
  let s := (s.wr (F.EGS_P_LEAD_LEAD p) y.toNat).setRegN (R.EGS_P_LEAD_ERR p) (unsgn 32 err)
  let s := s.inc (R.EGS_P_LEAD_SAMPLES p)
  if x = y then s else s.raise 0x0803 p

/-- The egress stamps of a frame recorded (R109). -/
def State.egressQueue (s : State) (p : Nat) (pk : Pkt) (lc wt : Int) : State :=
  let s := if pk.act.op.testBit 0 then (s.pushStamp p 1 (stampEntry 2 0 0 0 pk.act.tag lc)).1 else s
  match pk.sc with
  | some h => if pk.ts then (s.pushStamp p 1 (stampEntry 1 0 0 0 h wt)).1 else s
  | none => s

/-- The latency sample of a copy that has left whole on the lowest external port to which one was admitted (R270). -/
def State.egressLatency (s : State) (p : Nat) (pk : Pkt) (t : TxFrame) : State :=
  match pk.latMon, pk.sc with
  | some m, some h => if pk.latPort = p ∧ t.stamped ∧ ¬ t.stomp then s.latSample m h ((t.lcOut - pk.lc) / nsUnit).toNat else s
  | _, _ => s

/-- The stamp point of the frame in transmission crosses the reference plane (R98, R103, R105, R354).
Conventions: log entry 36 (DEDUCED). -/
def State.egressStamp (s : State) (p phase : Nat) : State :=
  match (s.port p).tx with
  | none => s
  | some t =>
    if t.stamped ∨ s.clk.now < t.start then s
    else
      let pk := s.getPkt t.copy.pkt
      let lc := s.txStamp p s.clk.lc phase
      let wt := s.txStamp p s.clk.wt phase
      let tag := if s.tagsOut p pk.vid pk.stpid then (t.bytes.drop 12).take 4 else []
      let body := t.bytes.take 12 ++ t.bytes.drop (12 + tag.length)
      let one := s.oneStep pk.act body (s.txStamp p (s.clockOf pk.act.clock) phase)
      let s := if one.2 then s.inc (C.MAC_TX_ONESTEP_REFUSED p) else s
      let d := gloveStamp pk (s.transparent p pk one.1 wt) wt
      let d := d.take 12 ++ tag ++ d.drop 12
      let d := match t.sec with | some (an, pn) => s.msProtect p an pn d | none => d
      let t' := { t with stamped := true, bytes := d, lcOut := lc }
      let s := (s.modPort p (fun m => { m with tx := some t' })).egressQueue p pk lc wt
      let s := match t.trim with
        | some o => s.trimSample p (t.queue % 8) o wt
        | none => s
      if s.looped p then s.loopStart p phase t' else s

/-- Octets of the frame in transmission as it ends on the wire, FCS and padding included (R162). -/
def State.wireLen (s : State) (p : Nat) (t : TxFrame) : Nat :=
  let n := t.bytes.length + 4 + (if t.stamped then 0 else match t.sec with | some _ => s.msOverhead p | none => 0)
  let n := max 64 n
  match t.cutAt with
  | some k => min k n
  | none => n

/-- A frame that leaves through P27 goes to the partner with its metadata (13, R553; R144). -/
def State.toPartner (s : State) (pk : Pkt) (d : List Byte) : State :=
  s.linkSend 2 (.frame { bytes := d, vid := pk.vid, pcp := pk.pcp, dei := pk.dei == 1, colour := pk.colour, sc := pk.sc })

/-- A frame delivered to the block behind an internal port (R144, R295). -/
def State.deliver (s : State) (p : Nat) (pk : Pkt) (d : List Byte) : State :=
  let x := { pk with data := d, cells := [], badCells := [] }
  match p with
  | 24 => { s with out24 := s.out24 ++ [x] }
  | 25 => { s with out25 := s.out25 ++ [x] }
  | 26 => { s with out26 := s.out26 ++ [x] }
  | _ => s.toPartner pk d

/-- What a frame that has left an external port counts and gives (R159, R162, R270), and the frame itself on the medium (R183). -/
def State.frameLeft (s : State) (p : Nat) (t : TxFrame) : State :=
  let s := (s.inc (C.MAC_TX_FRAMES p)).add64 (C.MAC_TX_OCTETS_LO p) (s.wireLen p t)
  let s := if t.stomp then s.inc (C.MAC_TX_STOMPED p) else s
  let s := (s.egressLatency p (s.getPkt t.copy.pkt) t).plcaSentOne p
  (s.onWire p t ((wireBytes t.bytes t.cutAt t.stomp).drop t.sent)).modPort p (fun m =>
    { m with frameNo := if t.express then m.frameNo else m.frameNo + 1 })

/-- The frame in transmission has left (R159, R285, R306, R325). Conventions: log entry 36 (DEDUCED). -/
def State.transmitComplete (s : State) (p : Nat) : State :=
  match (s.port p).tx with
  | none => s
  | some t =>
    let pk := s.getPkt t.copy.pkt
    if ¬ pk.complete ∧ ¬ pk.bad ∧ t.cutAt.isNone then s
    else
      let s := s.modPort p (fun m =>
        { m with tx := none, gapEnd := s.clk.now + (if p < 24 then octetNs 12 (s.portKbps p) else 0), gapQ := t.queue })
      let s := if p < 24 then s.frameLeft p t else if pk.bad ∨ t.stomp then s else s.deliver p pk t.bytes
      let s := (s.inc (C.BUF_Q_DEQUEUED t.queue)).popHead t.queue
      if p < 24 ∧ t.stamped ∧ s.looped p then s.loopEnd p t else s

-- monitors (R357 to R360)

/-- A write to EGS_MAXDLY_CLEAR. -/
def State.maxdlyClear (s : State) (value : Nat) : State :=
  if value.testBit 31 then (List.range 224).foldl (fun s q => s.setRegN (R.EGS_Q_MAXDLY q) 0) s
  else if bits value 0 8 < 224 then s.setRegN (R.EGS_Q_MAXDLY (bits value 0 8)) 0
  else s

/-- CLEAR of a histogram monitor (R360). -/
def State.hmClear (s : State) (m : Nat) : State :=
  let s := (List.range 16).foldl (fun s k => (s.setRegN (R.EGS_HM_DLY_BIN m k) 0).setRegN (R.EGS_HM_DEP_BIN m k) 0) s
  (s.setRegN (R.EGS_HM_DLY_MAX m) 0).setRegN (R.EGS_HM_DEP_MAX m) 0

/-- A write to EGS_HMm_CFG: every write of the register writes QUEUE, which implies a clear (R360). -/
def State.hmQueueWrite (s : State) (m value : Nat) : State := (s.writeFields (R.EGS_HM_CFG m) value).hmClear m

/-- A depth sample of a monitor, DEPTH_PERIOD µs after the last (R359). -/
def State.depthSample (s : State) (m : Nat) : State :=
  let q := s.rd (F.EGS_HM_CFG_QUEUE m)
  let us := s.rd (F.EGS_HM_CFG_DEPTH_PERIOD m)
  if ¬ s.on (F.EGS_HM_CFG_EN m) ∨ 224 ≤ q ∨ us = 0 ∨ s.clk.now < sget 0 s.buf.depthAt m + us * 1000 then s
  else
    let s := { s with buf := { s.buf with depthAt := sput 0 m s.clk.now s.buf.depthAt } }
    let d := s.depth q
    let bin := if d = 0 then 0 else min 15 (Nat.log2 d + 1)
    let s := s.setRegN (R.EGS_HM_DEP_BIN m bin) (min (s.regN (R.EGS_HM_DEP_BIN m bin) + 1) 0xFFFFFFFF)
    s.setRegN (R.EGS_HM_DEP_MAX m) (max (s.regN (R.EGS_HM_DEP_MAX m)) d)

end Sys2Proof.Machine
end

