-- ==== Sys2Proof/Machine/Flt.lean ====
section
/-! DEFINITION. The cellar, bottling, the background scrub, the clock monitors and the debug port (16). -/

namespace Sys2Proof.Machine

-- firmware's records (R680)

/-- FLT_LOG_CMD of an engine (R680). -/
def State.fltLog (s : State) (e value : Nat) : State :=
  let code := value % 65536
  if code < 0x1080 ∨ 0x10FF < code then s
  else
    { s with fltq := s.fltq ++
      [s.event code (s.regN (R.FLT_LOG_DATA0 e)) 0 (s.regN (R.FLT_LOG_DATA1 e)) (s.regN (R.FLT_LOG_DATA2 e)) true] }

-- bottling (R683 to R688)

/-- Octets `n` of the captured ring from an address on, a record's words most significant octet first (R684).
Conventions: log entry 22 (DEDUCED). -/
def ringRecord (ring : Sparse Byte) (slot : Nat) : List Byte :=
  (List.range 8).flatMap (fun k => (getBytes (fun a => sget 0 ring a) (0x18000000 + slot * 32 + 4 * k) 4).reverse)

/-- The bytes of a bottle: its header, and the 4095 newest records of the ring as it stood, oldest first (R683, Table 16-7).
Conventions: log entry 22 (DEDUCED). -/
def State.bottleBytes (s : State) (b : Bottling) : List Byte :=
  let recs := (List.range 4095).flatMap (fun i => ringRecord b.ring ((b.next + 1 + i) % 4096))
  let head := beBytes 4 0x4C514342 ++ beBytes 4 b.seq ++ beBytes 1 b.reason ++ beBytes 1 b.wtInfo ++ s.vintageBytes ++ beBytes 4 b.sec ++
    beBytes 4 b.ns
  head ++ beBytes 4 (crc32 (head ++ zeros 4 ++ recs)) ++ recs

/-- The throttle history as WAK keeps it: entries, longest, AON second of the last entry (14, R599). -/
def State.keepThrottles (s : State) : State :=
  { s with pers := { s.pers with throttle := (s.regN C.WAK_THROTTLES, s.rd F.WAK_BO_LONGEST, s.wak.throttleAt / 1000000000) } }

/-- A bottling ends, or fails for a flash error (R683, R688). Conventions: log entry 22 (DEDUCED). -/
def State.bottled (s : State) (flashOk : Bool) : State :=
  match s.flt.bottling with
  | none => s
  | some b =>
    let s := ({ s with flt := { s.flt with bottling := none } }.wr F.FLT_STATUS_BOTTLING 0).keepThrottles
    let v := s.rd F.FLT_BOTTLE_VALID
    if flashOk then
      let s := s.program (bottleBase b.bottle) (s.bottleBytes b)
      let s := ((s.wr F.FLT_BOTTLE_REASON b.reason).wr F.FLT_BOTTLE_LAST b.bottle).wr F.FLT_BOTTLE_VALID (v ||| 2 ^ b.bottle)
      ((s.setRegN R.FLT_BOTTLE_SEQ b.seq).inc C.FLT_BOTTLES).raise 0x1104 0
    else ((s.wr F.FLT_BOTTLE_VALID (v - (v &&& 2 ^ b.bottle))).inc C.FLT_BOTTLE_FAILS).raise 0x1105 0

-- the background scrub (Table 16-1, R663)

/-- Block ID of the memory that holds a word: the instance of detectors 0 and 1. -/
def eccBlock : EccPlace → Nat
  | .cellData _ => 0x07
  | .keySlot _ => 0x0D
  | .canRing _ _ _ => 0x0A
  | .other b _ => b.toNat

/-- An uncorrectable word of a buffer cell: its copies fail when they are read, those in transmission at once (07, R292, R306).
Conventions: log entry 55 (DESIGN CHOICE). -/
def State.cellLost (s : State) (cell : Nat) : State :=
  match s.buf.pkt.find? (fun e => e.2.cells.contains cell) with
  | none => s
  | some e =>
    let s := s.modPkt e.1 (fun p => { p with badCells := if p.badCells.contains cell then p.badCells else p.badCells ++ [cell] })
    (s.copiesOf e.1).foldl (fun s x =>
      if s.inTx x.1 x.2 then ((s.countStomp x.1 x.2).stompTx x.1 x.2 none).cellError cell true else s) s

/-- The element of a CAN ring that an uncorrectable word lies in is discarded. -/
def State.ringLost (s : State) (n r i : Nat) : State :=
  let l := s.ringElems n r 640 (s.regN (ringGet n r)) (s.ringFill n r)
  if i < l.length then s.fqRewrite n r (l.take i ++ l.drop (i + 1)) else s

/-- What the background scrub meets: the end of a pass, a correctable word, or an uncorrectable one (Table 16-1).
Conventions: log entry 11 (DESIGN CHOICE). -/
def State.backgroundScrub (s : State) (place : Option EccPlace) (correctable : Bool) : State :=
  if s.boot.step < 3 then s
  else
    match place with
    | none => s.inc C.FLT_SCRUB_PASSES
    | some p =>
      if correctable then (s.inc C.FLT_ECC_CORRECTED).detect 0 (eccBlock p)
      else
        match p with
        | .cellData c => ((s.inc C.FLT_ECC_UNCORR).cellLost c.toNat).detect 1 (eccBlock p)
        | .keySlot k => ((s.inc C.FLT_ECC_UNCORR).keyEccLost k.toNat).detect 1 (eccBlock p)
        | .canRing n r i => ((s.inc C.FLT_ECC_UNCORR).ringLost n.val r.val i).detect 1 (eccBlock p)
        | .other b w => s.eccFatal b.toNat w.toNat

-- monitors (R675 to R677)

/-- A difference between the two cores of an engine (15, R629; R662). -/
def State.lockstep (s : State) (e : Nat) : State :=
  if s.alive ∧ (s.engineRuns e ∨ (e = 0 ∧ s.boot.step < 11)) then s.failSilent 1 e else s

/-- The crystal is lost (R677, FLT_MON.CLK_BAD). Conventions: log entry 23 (DEDUCED). -/
def State.crystalLost (s : State) : State :=
  let s := { s.setRegN R.FLT_MON (s.regN R.FLT_MON ||| 32) with flt := { s.flt with crystalGood := 0 } }
  if s.on F.FLT_STATUS_CRYSTAL_LOST then s else (s.wr F.FLT_STATUS_CRYSTAL_LOST 1).raise 0x1103 0

/-- A clock of Table 16-4 is absent, out of range or out of lock (R676). -/
def State.clockMonitor (s : State) (c : Nat) : State :=
  if c = 5 then s.crystalLost
  else if s.boot.step < 3 then s
  else (s.setRegN R.FLT_MON (s.regN R.FLT_MON ||| 2 ^ c)).failSilent 2 c

/-- The crystal judged over one second, at most once a second (R677). Conventions: log entry 23 (DEDUCED). -/
def State.crystalCheck (s : State) (within_ : Bool) : State :=
  if s.clk.now < s.flt.crystalAt + 1000000000 then s
  else
    let s := { s with flt := { s.flt with crystalAt := s.clk.now } }
    if ¬ within_ then s.crystalLost
    else if ¬ s.on F.FLT_STATUS_CRYSTAL_LOST then s
    else if 10 ≤ s.flt.crystalGood + 1 then
      let s := { s with flt := { s.flt with crystalGood := 0 } }
      (s.wr F.FLT_STATUS_CRYSTAL_LOST 0).setRegN R.FLT_MON (s.regN R.FLT_MON &&& 0x1F1F)
    else { s with flt := { s.flt with crystalGood := s.flt.crystalGood + 1 } }

-- the debug port (R689 to R693)

/-- The instructions of the test access port. -/
inductive JtagInstr where
  | bypass
  | idcode
  | sample
  | extest
  | engineDebug
  | dbgOpen
  deriving DecidableEq, Repr

/-- What an instruction of the test access port acts as: while the port is closed every one but IDCODE, SAMPLE/PRELOAD and the request
DBG_OPEN acts as BYPASS (R689, R690; 18, R724). -/
def State.jtagActs (s : State) (i : JtagInstr) : JtagInstr :=
  match i with
  | .extest => if s.on F.FLT_STATUS_DBG_OPEN then .extest else .bypass
  | .engineDebug => if s.on F.FLT_STATUS_DBG_OPEN then .engineDebug else .bypass
  | _ => i

/-- DBG_OPEN with its code (R690, R691, Table 16-8 steps 1 to 3). Conventions: log entry 24 (DEDUCED). -/
def State.debugOpen (s : State) (code : Nat) : State :=
  if code ≠ 0x0DB6 ∨ s.flt.dbgStage ≠ 0 ∨ s.boot.step < 3 then s
  else if s.otp.debugLock ∨ ¬ s.on F.FLT_DBG_CTRL_ALLOW_OPEN then (s.inc C.FLT_DEBUG_REFUSED).raiseMust 0x1107 0 0 0 0
  else
    let s := (s.failSilent 10 0).zeroise
    { s with flt := { s.flt with dbgStage := 1 }, qlb := { s.qlb with key := none } }

/-- Zeroisation ends (R691 steps 4 to 6, R692). The code of a failure's record is open (log entry 2).
Conventions: log entry 24 (DEDUCED). -/
def State.zeroisationDone (s : State) (verified : Bool) : State :=
  if s.flt.dbgStage ≠ 1 then s
  else if verified then
    (({ s with flt := { s.flt with dbgStage := 2 } }).raiseMust 0x1108 0 0 0 0).wr F.FLT_STATUS_DBG_OPEN 1
  else
    let f := ({ s with flt := { s.flt with dbgStage := 3 } }).drawFree
    { f.2 with fltq := f.2.fltq ++ [f.2.event (f.1 % 65536) 0 0 0 0 true] }

end Sys2Proof.Machine
end

