-- ==== Sys2Proof/Machine/Wak.lean ====
section
/-! DEFINITION. Keep-alives, the sleep agreement, the wake decisions, false wakes and the brown-out throttle (14). -/

namespace Sys2Proof.Machine

def State.setWak (s : State) (w : Wak) : State := { s with wak := w }
def State.power (s : State) : Nat := s.rd F.WAK_STATUS_POWER
def State.setPower (s : State) (p : Nat) : State := s.wr F.WAK_STATUS_POWER p
def State.agreement (s : State) : Nat := s.rd F.WAK_STATUS_STATE
def secondNs : Nat := 1000000000

-- need (R605)

/-- How long the need of a peer counts; a NEED_HOLD of 0 lets it count until the next update of AON, 135 ns.
Conventions: log entry 49 (DEDUCED). -/
def State.needHold (s : State) : Nat :=
  let h := s.rd F.WAK_KA_NEED_HOLD
  if h = 0 then 135 else h * 1000000

/-- Peer need: the OR over the peers heard within NEED_HOLD. -/
def State.peerNeed (s : State) : Nat :=
  s.wak.peers.foldl (fun n p => if s.clk.now ≤ p.2.2 + s.needHold then n ||| p.2.1 else n) 0

def State.networkNeed (s : State) : Nat := s.rd F.WAK_NEED_NEED ||| s.peerNeed

/-- The need of a peer, by its key. -/
def State.hearPeer (s : State) (key need : Nat) : State :=
  s.setWak { s.wak with peers := s.wak.peers.filter (fun p => p.1 != key) ++ [(key, need, s.clk.now)] }

/-- PEER_NEED_EXPIRY: a need that has not been renewed leaves. -/
def State.peerNeedExpiry (s : State) (key : Nat) : State :=
  s.setWak { s.wak with peers := s.wak.peers.filter (fun p => !(p.1 == key && decide (p.2.2 + s.needHold < s.clk.now))) }

-- keep-alive frames (R600 to R604)

/-- FLAGS of Table 14-3. -/
def State.kaFlags (s : State) (probe : Bool) : Nat :=
  let a := s.agreement
  b2n probe + b2n (decide (1 ≤ a)) * 2 + b2n (decide (2 ≤ a)) * 4 + b2n (decide (a = 3)) * 8 + b2n s.duty * 16 + b2n s.wak.first * 32

/-- A keep-alive from its destination address on (R600, Table 14-3). Conventions: log entry 49 (DEDUCED). -/
def State.kaFrame (s : State) (probe : Bool) (period : Nat) : List Byte :=
  beBytes 6 (s.rd F.WAK_KA_DA_HI_DA * 2 ^ 32 + s.rd F.WAK_KA_DA_LO_DA) ++ beBytes 6 s.otp.mac ++ beBytes 2 0x88B5 ++
    beBytes 1 0x10 ++ beBytes 1 1 ++ beBytes 1 (s.kaFlags probe) ++ beBytes 1 (s.rd F.TSU_WT_STATUS_SRC * 128 + s.wtState) ++
    beBytes 2 (s.rd F.WAK_NEED_NEED) ++ s.vintageBytes ++ beBytes 2 s.wak.seq ++ beBytes 2 period ++
    beBytes 1 (s.rd F.WAK_CAUSE_CAUSE) ++ zeros 3

/-- A frame of the device itself handed to P24 with a destination mask; its traffic class is open (log entry 2).
Conventions: log entry 49 (DEDUCED). -/
def State.p24Send (s : State) (d : List Byte) (mask vid : Nat) : State :=
  let f := s.drawFree
  let r : RxFrame := { rxFrame0 d with ended := true, mask := some mask, tc := f.1 % 8, vid := vid, lc := s.clk.lc, wt := s.clk.wt }
  f.2.feed 24 r

/-- A keep-alive leaves through P24 on the ports of a mask. Conventions: log entry 49 (DEDUCED). -/
def State.sendKa (s : State) (probe : Bool) (period mask : Nat) : State :=
  let s := (s.p24Send (s.kaFrame probe period) mask 0).inc C.WAK_KA_TX
  s.setWak { s.wak with seq := (s.wak.seq + 1) % 65536, first := false }

/-- The CAN keep-alive of the unit with duty (R604). -/
def State.canKa (s : State) : State :=
  let n := s.rd F.WAK_CAN_KA_KA_CAN
  let data := beBytes 2 (s.rd F.WAK_NEED_NEED) ++ beBytes 1 (s.kaFlags false) ++ zeros 1 ++ beBytes 2 (s.rd F.CFG_VINTAGE_NUMBER) ++
    beBytes 2 (s.pair R.CFG_FP_LO R.CFG_FP_HI % 65536)
  let f : CanFrame :=
    { ident := BitVec.ofNat 29 (s.rd F.WAK_CAN_KA_ID_KA_CAN_ID), ide := s.on F.WAK_CAN_KA_IDE, fdf := false, xlf := false,
      brs := false, esi := false, rtr := false, rrs := false, sec := false, dlc := 8, sdt := 0, af := 0, vcid := 0, data := data }
  (s.fqOffer n 2 0 (frameElem f false 0 0 0 0)).1

/-- KEEP_ALIVE_TX (R602, R604). Conventions: log entry 49 (DEDUCED). -/
def State.keepAliveTx (s : State) : State :=
  let period := s.rd F.WAK_KA_KA_PERIOD
  if ¬ s.forwarding ∨ s.winding ∨ period = 0 then s
  else
    let now := s.clk.now
    let s :=
      if s.wak.kaAt + period * 1000000 ≤ now then
        (s.setWak { s.wak with kaAt := now, changeDue := false }).sendKa false period (s.rd F.WAK_KA_PORTS_PORTS)
      else if s.wak.changeDue ∧ s.wak.changeAt + 10000000 ≤ now then
        (s.setWak { s.wak with changeDue := false, changeAt := now }).sendKa false 0 (s.rd F.WAK_KA_PORTS_PORTS)
      else s
    if s.on F.WAK_CTRL_CAN_KA_EN ∧ s.duty ∧ s.wak.canKaAt + period * 1000000 ≤ now then
      (s.setWak { s.wak with canKaAt := now }).canKa
    else s

-- the agreement (R606 to R610)

def State.toAgreement (s : State) (a : Nat) : State :=
  (s.wr F.WAK_STATUS_STATE a).setWak { s.wak with stateAt := s.clk.now, changeDue := true }

/-- Source `c` is enabled and not quarantined (R613). -/
def State.sourceFit (s : State) (c : Nat) : Bool := (s.regN R.WAK_SRC_EN).testBit c && !(s.regN R.WAK_QUAR_STATUS).testBit c

/-- Sources that are armed on entering PREPARE: WAKE_N, the timer, T1S and CAN (R609). -/
def earlySources : List Nat := [1, 2, 8, 9, 10, 11, 12, 13, 14, 15, 16, 17, 18, 19]

/-- Sources armed in addition. Conventions: log entry 50 (DEDUCED). -/
def State.armSources (s : State) (l : List Nat) : State :=
  s.setWak { s.wak with armed := (l.filter s.sourceFit).foldl (fun m c => m ||| 2 ^ c) s.wak.armed }

/-- Arming (R609): a new set of causes begins. -/
def State.arming (s : State) : State :=
  let s := ((s.setRegN R.WAK_CAUSE_SET 0).wr F.WAK_CAUSE_LATCHED 0).setWak { s.wak with armed := 0, errs := [], want := none }
  s.armSources earlySources

/-- The persistent store takes the false-wake counts (R622, Table 14-5, step 3). -/
def State.keepFalseWakes (s : State) : State :=
  { s with pers := { s.pers with falseWakes := (List.range 32).foldl (fun m c =>
      sput (0, 0) c (s.rd (F.WAK_FW_FW_COUNT c), s.rd (F.WAK_FW_RUN c)) m) [] } }

/-- The commit (R608, Table 14-5, steps 1 to 4). Conventions: log entry 49 (DEDUCED). -/
def State.commitSleep (s : State) : State :=
  let s := ((s.toAgreement 3).setPower 2).raise 0x0F02 0
  let s := if s.forwarding ∧ s.rd F.WAK_KA_KA_PERIOD ≠ 0 then s.sendKa false 0 (s.rd F.WAK_KA_PORTS_PORTS) else s
  let s := if s.duty then s.mirror (.wakState .commit) else s
  let s := if s.boot.forwardAt.isSome then s.confirmTrial else s
  s.keepFalseWakes.keepThrottles.beginBottling 2

/-- READY is left for PREPARE (Table 14-4); a PREPARE_TIME of 0 commits at once in the unit that decides. -/
def State.enterPrepare (s : State) : State :=
  let s := s.arming.toAgreement 2
  if s.duty then
    let s := s.mirror (.wakState .prepare)
    if s.rd F.WAK_HOLD_PREPARE_TIME = 0 then s.commitSleep else s
  else s

/-- PREPARE is left for AWAKE (Table 14-4); the partner hears of it unless it asked. Conventions: log entry 49 (DEDUCED). -/
def State.abortSleep (s : State) (tell : Bool) : State :=
  let s := ((s.setWak { s.wak with armed := 0 }).toAgreement 0).inc C.WAK_ABORTS
  let s := s.raise 0x0F01 0
  if tell then s.mirror (.wakState .abort) else s

/-- A wake of this run is confirmed by network need within WAKE_CONFIRM of forwarding: the run of its source ends (R621, R622). -/
def State.confirmWake (s : State) : State :=
  match s.boot.forwardAt with
  | none => s
  | some t =>
    let limit := s.rd F.WAK_CONFIRM_WAKE_CONFIRM * secondNs
    if s.wak.judged ∨ s.rd F.DEV_RESET_CAUSE_CAUSE ≠ 4 then s
    else if limit = 0 ∨ (s.networkNeed ≠ 0 ∧ s.clk.now ≤ t + limit) then
      (s.setWak { s.wak with judged := true }).wr (F.WAK_FW_RUN (s.rd F.WAK_CAUSE_CAUSE)) 0
    else s

/-- Need, or EN = 0, ends READY and PREPARE (Table 14-4). Conventions: log entries 13 (DEDUCED), 49 (DEDUCED). -/
def State.wakEvaluate (s : State) : State :=
  let s := s.confirmWake
  let hold := s.networkNeed != 0 || !s.on F.WAK_CTRL_EN
  match s.agreement with
  | 1 => if hold then s.toAgreement 0 else s
  | 2 => if hold then s.abortSleep true else s
  | _ => s

/-- NEED_WRITE (R602). -/
def State.needWrite (s : State) (value : Nat) : State :=
  let old := s.rd F.WAK_NEED_NEED
  let s := s.wr F.WAK_NEED_NEED value
  if s.rd F.WAK_NEED_NEED ≠ old then s.setWak { s.wak with changeDue := true } else s

/-- READY_HOLD ms of READY with network need 0, in a unit with duty (Table 14-4, R607). -/
def State.readyHold (s : State) : State :=
  if s.alive ∧ s.agreement = 1 ∧ s.duty ∧ s.networkNeed = 0 ∧ s.wak.stateAt + s.rd F.WAK_HOLD_READY_HOLD * 1000000 ≤ s.clk.now then s.enterPrepare
  else s

/-- MIN_AWAKE seconds after forwarding a unit without network need is READY (Table 14-4). -/
def State.minAwake (s : State) : State :=
  match s.boot.forwardAt with
  | none => s
  | some t =>
    if s.alive ∧ s.agreement = 0 ∧ s.on F.WAK_CTRL_EN ∧ s.networkNeed = 0 ∧ t + s.rd F.WAK_CONFIRM_MIN_AWAKE * secondNs ≤ s.clk.now then
      let s := s.toAgreement 1
      if s.rd F.WAK_HOLD_READY_HOLD = 0 then s.readyHold else s
    else s

/-- PREPARE_TIME has passed in the unit that decides (Table 14-4, R608). -/
def State.sleepCommit (s : State) : State :=
  if s.alive ∧ s.agreement = 2 ∧ s.duty ∧ s.networkNeed = 0 ∧ s.wak.stateAt + s.rd F.WAK_HOLD_PREPARE_TIME * 1000000 ≤ s.clk.now then s.commitSleep
  else s

/-- The partner's sleep agreement (R607). Conventions: log entry 49 (DEDUCED). -/
def State.wakMessage (s : State) (m : WakMsg) : State :=
  match m with
  | .prepare =>
    if s.duty then s
    else if s.networkNeed ≠ 0 then s.mirror (.wakState .abort)
    else if s.agreement = 1 then s.enterPrepare
    else s
  | .commit => if ¬ s.duty ∧ s.agreement = 2 then s.commitSleep else s
  | .abort => if s.agreement = 2 then s.abortSleep false else s

/-- A wake that falls at or after the commit is latched (R610). Conventions: log entry 50 (DEDUCED). -/
def State.latchWake (s : State) (c : Nat) : State :=
  if s.on F.WAK_CAUSE_LATCHED then s
  else (((s.wr F.WAK_CAUSE_LATCHED 1).wr F.WAK_CAUSE_CAUSE c).setWak { s.wak with want := some c }).inc C.WAK_LATCHED_WAKES

def State.noteCause (s : State) (c : Nat) : State := s.setRegN R.WAK_CAUSE_SET (s.regN R.WAK_CAUSE_SET ||| 2 ^ c)

/-- A peer's need heard (R605, R610). -/
def State.peerHeard (s : State) (key need : Nat) : State :=
  let s := s.hearPeer key need
  if s.agreement = 3 ∧ s.power = 2 ∧ need ≠ 0 then (s.noteCause 3).latchWake 3 else s

/-- A received keep-alive enters AON (R603); without mirroring the partner's COMMIT commits a unit without duty (R607).
Conventions: log entry 49 (DEDUCED). -/
def State.keepAliveRx (s : State) : State :=
  match s.kaq with
  | [] => s
  | (_, d) :: r =>
    let s := { s with kaq := r }
    if fld d 15 1 ≠ 1 then s.inc C.WAK_KA_BAD
    else
      let src := saOf d
      let s := (s.inc C.WAK_KA_RX).censusReport src (fld d 20 2) (fld d 22 8) false
      let s := if src = s.otp.mac then s else s.peerHeard src (fld d 18 2)
      if src = s.pair R.QLB_PARTNER_MAC_LO R.QLB_PARTNER_MAC_HI ∧ ¬ s.mirroring ∧ ¬ s.duty ∧ (fld d 16 1).testBit 3 ∧ s.networkNeed = 0 ∧
          (s.agreement = 1 ∨ s.agreement = 2) then
        (if s.agreement = 1 then s.arming else s).commitSleep
      else s

/-- A frame received on KA_CAN that is a CAN keep-alive (R604). Conventions: log entry 49 (DEDUCED). -/
def State.canKaRx (s : State) (n : Nat) (f : CanFrame) : State :=
  let m := s.rd (F.CAN_STATUS_EFF_MODE n)
  if s.on F.WAK_CTRL_CAN_KA_EN ∧ n = s.rd F.WAK_CAN_KA_KA_CAN ∧ 1 ≤ m ∧ m ≤ 3 ∧ s.rd (F.CAN_STATUS_STATE n) ≠ 2 ∧ ¬ f.fdf ∧ ¬ f.xlf ∧
      ¬ f.rtr ∧ f.ide = s.on F.WAK_CAN_KA_IDE ∧ f.ident.toNat = s.rd F.WAK_CAN_KA_ID_KA_CAN_ID ∧ f.dlc = 8 then
    s.peerHeard (2 ^ 48) (fld f.data 0 2)
  else s

-- SLEEP (R612, R613, Table 14-5)

/-- What leaves with the core state: the frames, elements and messages that CAN, serial and Ethernet still hold at step 2 of the shutdown
are lost (R611). -/
def State.elementsLost (s : State) : State := { s with mac := [], buf := State.reset.buf, can := [], ser := [] }

/-- The core domains stop: SLEEP with its entry second, whatever the core still held lost with it (R611, Tables 14-5 and 14-8). A
throttle ends with the rails. Conventions: log entry 50 (DEDUCED). -/
def State.enterSleep (s : State) : State :=
  let s := s.silenced.elementsLost
  let s := { s with boot := { s.boot with step := 0 }, clk := { s.clk with on := false } }
  let s := (s.setPower 3).wr F.WAK_BO_THROTTLE 0
  let s := s.setWak { s.wak with pwrReq := false, sleepAt := s.clk.now }
  (s.setRegN R.WAK_SLEEP_ENTRY s.aonSeconds).armSources [4, 5, 6, 7]

/-- SLEEP_ENTRY: the shutdown is complete once the bottling has ended (Table 14-5, steps 4 to 6). -/
def State.sleepEntry (s : State) : State :=
  if s.power = 2 ∧ s.flt.bottling = none ∧ s.alive then
    (s.enterSleep.inc C.WAK_SLEEPS).wr F.WAK_CAUSE_FAILSAFE 0
  else s

/-- A wake decision (R612, R626). -/
def State.decideWake (s : State) (c : Nat) : State :=
  let s := (s.wr F.WAK_CAUSE_CAUSE c).setPower 4
  s.setWak { s.wak with pwrReq := true, pwrAt := s.clk.now, want := none }

def State.dwellOver (s : State) : Bool := decide (s.wak.sleepAt + max 10 (s.rd F.WAK_DWELL_DWELL) * 1000000 ≤ s.clk.now)

/-- A wake source asks in SLEEP: it is decided at once after the dwell, else it waits for the dwell's end, the first to ask deciding
(R612). -/
def State.askWake (s : State) (c : Nat) : State :=
  if s.dwellOver ∧ s.wak.want = none then s.decideWake c
  else s.setWak { s.wak with want := s.wak.want <|> some c }

/-- An event of wake source `c`, when it is armed (R610, R612, R613). Conventions: log entry 50 (DEDUCED). -/
def State.wakeEvent (s : State) (c : Nat) : State :=
  if ¬ s.wak.armed.testBit c then s
  else
    let s := s.noteCause c
    if s.agreement = 2 then s.abortSleep true
    else if s.power = 2 then s.latchWake c
    else if s.power = 3 then s.askWake c
    else s

/-- The dwell ends: the wake that was latched or waits is decided (R612). -/
def State.dwellEnd (s : State) : State :=
  if s.power ≠ 3 ∨ ¬ s.dwellOver then s
  else
    match s.wak.want with
    | some c => s.decideWake c
    | none => s

/-- WAKE_N held active (Table 14-6, code 1). -/
def State.wakeN (s : State) (us : Nat) : State := if max 1 (s.rd F.WAK_PINS_WAKEN_FILTER) ≤ us then s.wakeEvent 1 else s

/-- The wake timer, or the retry of the fail-safe path (Table 14-6, codes 2 and 20; R625). -/
def State.wakeTimer (s : State) : State :=
  let retry := match s.wak.oneOff with
    | some t => decide (t ≤ s.clk.now)
    | none => false
  if s.power ≠ 3 then s
  else if retry then ((s.setWak { s.wak with oneOff := none }).noteCause 20).askWake 20
  else if s.rd F.WAK_TIMER_WAKE_TIMER ≠ 0 ∧ s.wak.sleepAt + s.rd F.WAK_TIMER_WAKE_TIMER * secondNs ≤ s.clk.now then s.wakeEvent 2
  else s

/-- Receive signal on P0 to P3 (Table 14-6, codes 4 to 7). -/
def State.signalDetect (s : State) (p us : Nat) : State := if max 1 (s.rd F.WAK_PINS_SD_MIN) ≤ us then s.wakeEvent (4 + p) else s

/-- The eight compare bytes from an offset on as a number, byte i in bits [8i + 7:8i]; bytes beyond the end are 0. -/
def wakeBytes (l : List Byte) (o : Nat) : Nat := leNat ((l.drop o).take 8)

/-- The match of MODE 2 (R616). -/
def State.canMatches (s : State) (c : Nat) (f : CanFrame) : Bool :=
  !f.rtr && decide (f.ide = s.on (F.WAK_C_CTRL_IDE c)) &&
    ((f.ident.toNat ^^^ s.rd (F.WAK_C_ID_MATCH_ID c)) &&& s.rd (F.WAK_C_ID_MASK_MASK c)) == 0 &&
    decide (s.rd (F.WAK_C_CTRL_DLC_MIN c) ≤ canLen false false f.dlc.toNat) &&
    ((wakeBytes (f.data.take (canLen false false f.dlc.toNat)) 0 ^^^ s.pair (R.WAK_C_DATA_MATCH_LO c) (R.WAK_C_DATA_MATCH_HI c)) &&&
      s.pair (R.WAK_C_DATA_MASK_LO c) (R.WAK_C_DATA_MASK_HI c)) == 0

def State.setErrs (s : State) (c n : Nat) : State := s.setWak { s.wak with errs := sput 0 c n s.wak.errs }

/-- What a CAN wake detector sees (R615 to R617). Conventions: log entry 50 (DEDUCED). -/
def State.canWake (s : State) (c : Nat) (ev : CanWakeEvent) : State :=
  let mode := s.rd (F.WAK_C_CTRL_MODE c)
  if ¬ s.wak.armed.testBit (16 + c) then s
  else
    match ev with
    | .dominant us => if mode = 0 ∧ max 1 (s.rd (F.WAK_C_CTRL_WUP_MIN c)) ≤ us then s.wakeEvent (16 + c) else s
    | .frame f =>
      if mode = 0 ∨ f.fdf ∨ f.xlf then s
      else
        let s := s.setErrs c 0
        if mode = 1 ∨ s.canMatches c f then s.wakeEvent (16 + c) else s
    | .decodeError =>
      if mode = 0 then s
      else
        let n := sget 0 s.wak.errs c + 1
        let s := s.setErrs c n
        if s.rd (F.WAK_C_CTRL_ERR_LIMIT c) ≠ 0 ∧ s.rd (F.WAK_C_CTRL_ERR_LIMIT c) ≤ n then s.wakeEvent (16 + c) else s

/-- The match of MODE 2 of a T1S wake receiver (R620). -/
def State.t1sMatches (s : State) (n : Nat) (d : List Byte) : Bool :=
  (!s.on (F.WAK_T_CTRL_DA_CMP n) || daOf d == s.rd (F.WAK_T_DA_HI_DA n) * 2 ^ 32 + s.rd (F.WAK_T_DA_LO_DA n)) &&
    (!s.on (F.WAK_T_CTRL_ET_CMP n) || etOf d == s.rd (F.WAK_T_DA_HI_ETYPE n)) &&
    ((wakeBytes d (14 + s.rd (F.WAK_T_CTRL_OFFSET n)) ^^^ s.pair (R.WAK_T_DATA_MATCH_LO n) (R.WAK_T_DATA_MATCH_HI n)) &&&
      s.pair (R.WAK_T_DATA_MASK_LO n) (R.WAK_T_DATA_MASK_HI n)) == 0

/-- What a T1S wake receiver sees (R620). Conventions: log entry 50 (DEDUCED). -/
def State.t1sWake (s : State) (n : Nat) (ev : T1sWakeEvent) : State :=
  let mode := s.rd (F.WAK_T_CTRL_MODE n)
  match ev with
  | .carrier us => if mode = 0 ∧ max 1 (s.rd (F.WAK_T_CTRL_ACT_MIN n)) ≤ us then s.wakeEvent (8 + n) else s
  | .frame b => if mode ≠ 0 ∧ fcsOk b ∧ (mode = 1 ∨ s.t1sMatches n (dropFcs b)) then s.wakeEvent (8 + n) else s

/-- The supply is not good 100 ms after PWR_REQ (Table 14-4). Conventions: log entry 50 (DEDUCED). -/
def State.supplyFail (s : State) : State :=
  if s.power = 4 ∧ s.wak.pwrAt + 100000000 ≤ s.clk.now then
    let s := s.enterSleep.inc C.WAK_SUPPLY_FAILS
    (s.setWak { s.wak with supplyFailed := true }).writeRecord (s.event 0x0F0A 0 0 0 0 true)
  else s

-- false wakes and quarantine (R621 to R623)

/-- WAKE_CONFIRM has passed without network need: a false wake of the deciding source; a WAKE_CONFIRM of 0 confirms every wake (R621).
Conventions: log entry 50 (DEDUCED). -/
def State.falseWake (s : State) : State :=
  match s.boot.forwardAt with
  | none => s
  | some t =>
    let c := s.rd F.WAK_CAUSE_CAUSE
    if s.wak.judged ∨ s.rd F.DEV_RESET_CAUSE_CAUSE ≠ 4 ∨ s.rd F.WAK_CONFIRM_WAKE_CONFIRM = 0 ∨
        s.clk.now < t + s.rd F.WAK_CONFIRM_WAKE_CONFIRM * secondNs then s
    else
      let s := s.setWak { s.wak with judged := true }
      if c = 2 ∨ c = 20 then s
      else
        let s := ((s.incSat (F.WAK_FW_FW_COUNT c)).incSat (F.WAK_FW_RUN c)).raise 0x0F04 0
        let limit := s.rd F.WAK_QUAR_QUAR_LIMIT
        if limit ≠ 0 ∧ limit ≤ s.rd (F.WAK_FW_RUN c) ∧ ¬ (s.regN R.WAK_QUAR_STATUS).testBit c then
          let s := (s.setRegN R.WAK_QUAR_STATUS (s.regN R.WAK_QUAR_STATUS + 2 ^ c)).raise 0x0F05 0
          s.setWak { s.wak with quarAt := sput 0 c s.aonSeconds s.wak.quarAt }
        else s

/-- Sources leave quarantine; while the detectors are armed they are armed again. -/
def State.unquarantine (s : State) (mask : Nat) : State :=
  let l := (List.range 32).filter (fun c => mask.testBit c && (s.regN R.WAK_QUAR_STATUS).testBit c)
  let s := s.setRegN R.WAK_QUAR_STATUS (l.foldl (fun m c => m - 2 ^ c) (s.regN R.WAK_QUAR_STATUS))
  if 2 ≤ s.agreement then
    s.armSources (l.filter (fun c => earlySources.contains c || (decide (4 ≤ c) && decide (c ≤ 7) && s.power == 3)))
  else s

/-- QUAR_HOLD hours have passed since a source was quarantined. -/
def State.quarantineEnd (s : State) (c : Nat) : State :=
  let hold := s.rd F.WAK_QUAR_QUAR_HOLD
  if hold ≠ 0 ∧ (s.regN R.WAK_QUAR_STATUS).testBit c ∧ sget 0 s.wak.quarAt c + hold * 3600 ≤ s.aonSeconds then s.unquarantine (2 ^ c) else s

/-- A write to WAK_QUAR_CLEAR. -/
def State.quarClear (s : State) (value : Nat) : State := s.unquarantine value

-- the fail-safe path (R625)

/-- FAILSAFE_TIME has passed after a wake without forwarding, or the device is UNBOOTABLE: SLEEP with a retry.
Conventions: log entry 50 (DEDUCED). -/
def State.failsafeSleep (s : State) : State :=
  let t := s.rd F.WAK_FAILSAFE_FAILSAFE_TIME
  let late := s.rd F.DEV_RESET_CAUSE_CAUSE == 4 && s.boot.forwardAt.isNone && decide (s.boot.since + t * secondNs ≤ s.clk.now)
  if t = 0 ∨ s.boot.step = 0 ∨ ¬ (late ∨ s.rd F.CFG_STATUS_STATE = 6) then s
  else
    let s := ((s.arming.enterSleep.wr F.WAK_STATUS_STATE 3).wr F.WAK_CAUSE_FAILSAFE 1).inc C.WAK_FAILSAFE_SLEEPS
    s.setWak { s.wak with failsafed := true, oneOff := some (s.clk.now + t * secondNs) }

-- the throttle (R594 to R599)

/-- Entries of the last 10 s (WAK_BO.ENTRIES_10S). -/
def State.recentThrottles (s : State) : List Nat := s.wak.throttles.filter (fun t => decide (s.clk.now < t + 10 * secondNs))

/-- VDD_CORE falls below the warning level (R595, R597); in SHUTDOWN the clocks are halved too and POWER stays as it is.
Conventions: log entry 50 (DEDUCED). -/
def State.throttleEnter (s : State) : State :=
  if s.on F.WAK_BO_THROTTLE ∨ 3 ≤ s.power ∨ s.boot.step = 0 then s
  else
    let s := (if s.power = 0 then s.setPower 1 else s).wr F.WAK_BO_THROTTLE 1
    let s := s.setWak { s.wak with throttleAt := s.clk.now, throttles := s.clk.now :: s.recentThrottles, bottleAsked := false }
    let s := ((s.inc C.WAK_THROTTLES).setRegN R.FLT_MON (s.regN R.FLT_MON ||| 256)).raise 0x0F06 0
    let s := { s with cnt := { s.cnt with run := s.cnt.run.map (fun (r : Sweep) => { r with throttled := true }) } }
    let r := s.detector 8 0
    if r.2 then r.1.raise 0x0F08 0 else r.1

/-- How long VDD_CORE must stay at the recovery level, 1 ms (Table 14-2). -/
def recoveryNs : Nat := 1000000

/-- VDD_CORE has stayed at the recovery level for 1 ms (R596), which it cannot have within 1 ms of the throttle's start (R594).
Conventions: log entry 50 (DEDUCED). -/
def State.throttleExit (s : State) : State :=
  if ¬ s.on F.WAK_BO_THROTTLE ∨ s.clk.now < s.wak.throttleAt + recoveryNs then s
  else
    let us := (s.clk.now - s.wak.throttleAt) / 1000
    let s := (if s.power = 1 then s.setPower 0 else s).wr F.WAK_BO_THROTTLE 0
    let s := s.wr F.WAK_BO_LONGEST (max (s.rd F.WAK_BO_LONGEST) (min us 65535))
    (s.setRegN R.FLT_MON (s.regN R.FLT_MON - (s.regN R.FLT_MON &&& 256))).raise 0x0F07 us

/-- A throttle of more than 10 ms asks for bottling, at most once per 10 s (R597, R682). -/
def State.throttleBottling (s : State) : State :=
  if ¬ s.on F.WAK_BO_THROTTLE ∨ s.wak.bottleAsked ∨ s.clk.now ≤ s.wak.throttleAt + 10000000 then s
  else
    let s := s.setWak { s.wak with bottleAsked := true }
    let recent := match s.flt.throttleBottleAt with
      | some t => decide (s.clk.now < t + 10 * secondNs)
      | none => false
    if recent then s.inc C.FLT_BOTTLES_SKIPPED
    else ({ s with flt := { s.flt with throttleBottleAt := some s.clk.now } }).beginBottling 3

/-- VDD_CORE falls below the reset level (R598). -/
def State.brownOut (s : State) (mv : Nat) : State :=
  if 675 ≤ mv ∨ s.boot.step = 0 then s
  else
    let s := s.setRegN R.FLT_MON (s.regN R.FLT_MON ||| 256)
    let low := s.flt.silent && s.rd F.FLT_STATUS_LAST_FS_CAUSE == 11
    let s := if low then s.setRegN R.FLT_FS_DATA (min mv (s.regN R.FLT_FS_DATA)) else s
    s.failSilent 11 mv

end Sys2Proof.Machine
end

