-- ==== Sys2Proof/Machine/Eng.lean ====
section
/-! DEFINITION. The engines' watchdogs, timers, mailboxes, event queues, P24 rings and read windows (15). -/

namespace Sys2Proof.Machine

-- watchdog and timer (R639, R641)

/-- A write to ENG_WD_KICK: only 0x5A5A restarts the watchdog. -/
def State.wdKick (s : State) (e value : Nat) : State :=
  if s.engineActs e ∧ value % 65536 = 0x5A5A then { s with eng := { s.eng with wdAt := sput 0 e s.clk.now s.eng.wdAt } } else s

/-- PERIOD of a watchdog in ns; 0 acts as 10 ms. -/
def State.wdPeriod (s : State) (e : Nat) : Nat :=
  let p := s.rd (F.ENG_WD_CFG_PERIOD e)
  (if p = 0 then 10 else p) * 1000000

/-- The watchdog of an engine that runs firmware expires: event 0x1001 and fail-silence. Conventions: log entry 51 (DEDUCED). -/
def State.watchdog (s : State) (e : Nat) : State :=
  if s.alive ∧ 10 ≤ s.boot.step ∧ s.engineRuns e ∧ sget 0 s.eng.wdAt e + s.wdPeriod e ≤ s.clk.now then
    ((s.inc (C.ENG_WD_EXPIRED e)).raise 0x1001 e).failSilent 7 e
  else s

/-- ENG_MTIMECMP of an engine. -/
def State.mtimecmp (s : State) (e : Nat) : Nat := s.pair (R.ENG_MTIMECMP_LO e) (R.ENG_MTIMECMP_HI e)

/-- The machine timer interrupt of an engine is pending (R641). -/
def State.timerInterrupt (s : State) (e : Nat) : Bool := decide (s.mtimecmp e ≤ s.mtime)

/-- The machine software interrupt of an engine is pending: its inbound mailbox holds a message and ENG_IRQ_EN.MB is 1 (R642). -/
def State.softwareInterrupt (s : State) (e : Nat) : Bool :=
  !(sget [] s.eng.mailbox e).isEmpty && (s.rd (F.ENG_IRQ_EN_EN e)).testBit 1

/-- The machine external interrupt of an engine is pending: a bit of ENG_IRQ_PEND other than MB and its enable (R643). -/
def State.externalInterrupt (s : State) (e : Nat) : Bool :=
  let en := s.rd (F.ENG_IRQ_EN_EN e)
  (en.testBit 0 && !(sget hq0 s.eng.evq e).q.isEmpty) || (en.testBit 2 && s.on (F.ENG_IRQ_PEND_TXR e)) ||
    (en.testBit 3 && s.on (F.ENG_IRQ_PEND_RXR e)) || (en.testBit 4 && s.on (F.ENG_IRQ_PEND_CPH e))

/-- The level of the machine timer interrupt that an engine sees follows MTIME and MTIMECMP. -/
def State.machineTimer (s : State) (e : Nat) : State :=
  { s with eng := { s.eng with mtip := sput false e (s.timerInterrupt e) s.eng.mtip } }

/-- HI half latched for engine `e` under a key of its own. -/
def State.latchHi (s : State) (e key v : Nat) : State :=
  { s with eng := { s.eng with latch := sput 0 (e * 256 + key) (BitVec.ofNat 32 v) s.eng.latch } }

/-- A read of ENG_MTIME_LO latches ENG_MTIME_HI for the reading engine. Conventions: log entry 51 (DEDUCED). -/
def State.mtimeLoRead (s : State) (e : Nat) : State :=
  if s.engineActs e then (s.latchHi e 255 (s.mtime / 2 ^ 32)).setRdata e (s.mtime % 2 ^ 32) else s

-- mailboxes (R647 to R649)

/-- A write to ENG_MB_SEND: the four TXD words enter the destination's mailbox whole, or the sender reads FULL. -/
def State.mbSend (s : State) (e value : Nat) : State :=
  if ¬ s.engineActs e then s
  else
    let d := value % 8
    let q := sget [] s.eng.mailbox d
    if q.length < 16 then
      let m := [BitVec.ofNat 32 e, s.reg (R.ENG_MB_TXD0 e), s.reg (R.ENG_MB_TXD1 e), s.reg (R.ENG_MB_TXD2 e), s.reg (R.ENG_MB_TXD3 e)]
      { s with eng := { s.eng with mailbox := sput [] d (q ++ [m]) s.eng.mailbox } }.wr (F.ENG_MB_STATUS_RESULT e) 0
    else (s.wr (F.ENG_MB_STATUS_RESULT e) 1).inc (C.ENG_MB_FULL e)

/-- A read of ENG_MB_RX_HEAD0: the oldest message is removed and latched. -/
def State.mailboxRead (s : State) (e : Nat) : State :=
  if ¬ s.engineActs e then s
  else
    let s := match sget [] s.eng.mailbox e with
      | [] => s.latchHead (R.ENG_MB_RX_HEAD0 e) 5 none
      | m :: r =>
        { s with eng := { s.eng with mailbox := sput [] e r s.eng.mailbox } }.latchHead (R.ENG_MB_RX_HEAD0 e) 5
          (some (BitVec.ofNat 32 ((nth 0 m 0).toNat * 16 + 1) :: m.drop 1))
    s.setRdata e (s.regN (R.ENG_MB_RX_HEAD0 e))

-- event router (R644 to R646)

/-- An event in the queue of engine `e`; its loss raises no event. -/
def State.queueEvent (s : State) (v : Ev) (e : Nat) : State :=
  let h := hqPush 64 (sget hq0 s.eng.evq e) [BitVec.ofNat 32 (v.code * 65536), BitVec.ofNat 32 v.param, BitVec.ofNat 32 v.ns, BitVec.ofNat 32 v.sec]
  let s := { s with eng := { s.eng with evq := sput hq0 e h.1 s.eng.evq } }
  if h.2.1 then s.inc (R.ENG_EVQ_LOST e) else s

/-- The entry of ENG_ROUTE that an event looks up (R644). -/
def routeEntry (code : Nat) : Nat := (code / 256 - 1) * 16 + (code % 256 - 1)

/-- The event that the router handles next: the oldest, and among those of one instant the one with the least block ID and code (R645).
Conventions: log entry 54 (DEDUCED). -/
def routedNext : List Ev → Option Ev
  | [] => none
  | v :: r => some ((r.filter (fun x => x.ns == v.ns && x.sec == v.sec)).foldl (fun m x => if x.code < m.code then x else m) v)

/-- The next raised event is routed. -/
def State.eventRoute (s : State) : State :=
  match routedNext s.evq with
  | none => s
  | some v =>
    let s := { s with evq := s.evq.erase v }
    if s.boot.step < 3 then s
    else
      let m := s.rd (F.ENG_ROUTE_ENGINES (routeEntry v.code))
      (List.range 8).foldl (fun s e => if m.testBit e then s.queueEvent v e else s) s

-- the rings of P24 (R650 to R653)

/-- Descriptors of a ring: SIZE above 512 acts as 512; a ring whose descriptors do not lie in system SRAM has none. -/
def ringLen (base size each : Nat) : Nat :=
  let n := min size 512
  if inSram base (n * each) then n else 0

def State.txrLen (s : State) (e : Nat) : Nat := ringLen (s.regN (R.ENG_TXR_BASE e)) (s.rd (F.ENG_TXR_SIZE_SIZE e)) 64
def State.rxrLen (s : State) (e : Nat) : Nat := ringLen (s.regN (R.ENG_RXR_BASE e)) (s.rd (F.ENG_RXR_SIZE_SIZE e)) 32

/-- A write of a transmit ring's PUT. -/
def State.txrPut (s : State) (e value : Nat) : State := s.wr (F.ENG_TXR_PUT_PUT e) value

/-- The transmit ring of engine `e` has a descriptor to serve. -/
def State.txrWaits (s : State) (e : Nat) : Bool :=
  let n := s.txrLen e
  n != 0 && (s.rd (F.ENG_TXR_GET_GET e) % n != s.rd (F.ENG_TXR_PUT_PUT e) % n)

/-- The ring served next by the round robin (R651). -/
def State.txrNext (s : State) : Option Nat := ((List.range 8).map (fun i => (s.eng.turn + i) % 8)).find? (fun e => s.txrWaits e)

/-- Word `k` of a descriptor. -/
def State.descWord (s : State) (at_ k : Nat) : Nat := s.word (at_ + 4 * k)

/-- The time action of a transmit descriptor (Table 15-6, Table 3-5). -/
def State.descAct (s : State) (a : Nat) : TimeAct :=
  let w := s.descWord a 6
  let x := s.descWord a 10
  let sec := s.descWord a 9 + (x % 65536) * 2 ^ 32
  { op := bits w 0 3, addLink := w.testBit 3, clock := bits w 4 2, offset := bits w 8 8, linkPort := bits w 16 5,
    tag := s.descWord a 7 % 65536, ref := ((sec * 1000000000 + s.descWord a 8 : Nat) : Int) * 2 ^ 39 + ((x / 65536 : Nat) : Int) * 2 ^ 23 }

/-- The frame of a transmit descriptor as P24 hands it on (R145, R193). -/
def State.descFrame (s : State) (a len : Nat) : RxFrame :=
  let w1 := s.descWord a 1
  let w3 := s.descWord a 3
  { rxFrame0 (getBytes s.byte (s.descWord a 0) len) with
    ended := true, vid := bits w3 0 12, pcp := bits w3 12 3, tc := bits w3 15 3, colour := bits w3 18 2,
    sc := if w1.testBit 17 then some (bits w3 20 9) else none,
    mask := if w1.testBit 16 then some (s.descWord a 2 % 2 ^ 28) else none,
    spf := bits w1 18 8, esiFirst := s.descWord a 4 + s.descWord a 5 * 2 ^ 32, act := s.descAct a, lc := s.clk.lc, wt := s.clk.wt }

/-- A transmit descriptor ends: word 15, GET, the interrupt and the counter. -/
def State.txrEnd (s : State) (e a status : Nat) : State :=
  let s := s.storeWord (a + 60) (2 ^ 31 + status)
  let n := s.txrLen e
  let s := s.wr (F.ENG_TXR_GET_GET e) ((s.rd (F.ENG_TXR_GET_GET e) % n + 1) % n)
  let s := s.wr (F.ENG_IRQ_PEND_TXR e) 1
  let s := { s with eng := { s.eng with turn := (e + 1) % 8 } }
  if status = 0 then s.inc (C.ENG_TXR_FRAMES e)
  else
    let s := s.inc (C.ENG_TXR_ERRORS e)
    if status = 2 then s.raise 0x1003 e else s

/-- The descriptor at GET of engine `e`, on its turn and while the buffer gives P24 credit (04, R145).
Conventions: log entry 51 (DEDUCED). -/
def State.txDescriptor (s : State) (e : Nat) : State :=
  if ¬ s.alive ∨ s.txrNext ≠ some e ∨ s.creditHeld 24 then s
  else
    let a := s.regN (R.ENG_TXR_BASE e) + (s.rd (F.ENG_TXR_GET_GET e) % s.txrLen e) * 64
    let len := bits (s.descWord a 1) 0 14
    if len < 14 ∨ 9212 < len then s.txrEnd e a 1
    else if ¬ inSram (s.descWord a 0) len then s.txrEnd e a 2
    else
      let f := s.descFrame a len
      (s.feed 24 f).txrEnd e a 0

/-- A frame written into the descriptor at `a`. Conventions: log entry 51 (DEDUCED). -/
def State.rxrStore (s : State) (r a : Nat) (p : Pkt) : State :=
  let s := s.store (s.word a) p.data
  let s := s.storeWord (a + 8) (p.data.length + p.inPort * 2 ^ 16 + p.tc * 2 ^ 21 + p.colour * 2 ^ 24 + p.cls * 2 ^ 26)
  let s := s.storeWord (a + 12) (p.vid + p.pcp * 2 ^ 12 + p.dei * 2 ^ 15 + (match p.sc with | some h => h * 2 ^ 16 + 2 ^ 25 | none => 0))
  let s := s.storeWord (a + 28) (2 ^ 31)
  let n := s.rxrLen r
  let s := s.wr (F.ENG_RXR_GET_GET r) ((s.rd (F.ENG_RXR_GET_GET r) % n + 1) % n)
  (s.wr (F.ENG_IRQ_PEND_RXR r) 1).inc (C.ENG_RXR_FRAMES r)

/-- The oldest frame that has left the buffer through P24 goes to its receive ring (R652, R653).
Conventions: log entry 51 (DEDUCED). -/
def State.rxrFrame (s : State) : State :=
  match s.out24 with
  | [] => s
  | p :: rest =>
    if ¬ s.alive then s
    else
      let s := { s with out24 := rest }
      let r := s.rd (F.ENG_P24_STEER_RING p.cls)
      let n := s.rxrLen r
      let g := s.rd (F.ENG_RXR_GET_GET r)
      if n = 0 ∨ g % n = s.rd (F.ENG_RXR_PUT_PUT r) % n then (s.inc (C.ENG_RXR_NO_DESC r)).raiseOnce 0x1002 0
      else
        let a := s.regN (R.ENG_RXR_BASE r) + g % n * 32
        let buf := bits (s.descWord a 1) 0 14
        if buf < p.data.length ∨ ¬ inSram (s.word a) p.data.length then s.inc (C.ENG_RXR_TOOBIG r)
        else s.rxrStore r a p

-- reads with an effect (R110, R634 to R636, R699)

/-- A load from the flash window: before step 10 the engine waits; after step 5 of the shutdown it ends with a bus error.
Conventions: log entry 51 (DEDUCED). -/
def State.flashWindowRead (s : State) (e addr size : Nat) : State :=
  if ¬ s.engineActs e ∨ ¬ sizeOk size ∨ region addr ≠ .flash ∨ s.boot.step < 10 then s
  else if s.power = 2 ∧ s.wak.stateAt + 180000000 ≤ s.clk.now then
    let f := s.drawFree
    f.2.busError e addr false (f.1 % 8)
  else if 0x34000000 < addr + size then s.busError e addr false 1
  else s.setRdata e (leNat (getBytes s.windowByte (addr - 0x30000000) size))

/-- The oldest entry of a queue with a HEAD0 register is removed and latched for the registers from `head` on (R110).
Conventions: log entries 2 (DESIGN CHOICE), 51 (DEDUCED). -/
def State.popHq (s : State) (h : Hq) (head n : Nat) (put : State → Hq → State) : State :=
  let r := hqPop h
  (put s r.2).latchHead head n r.1

/-- A read of HEAD0 of a queue by engine `e` (R110, R113). -/
def State.head0Read (s : State) (e : Nat) (q : HeadQueue) : State :=
  if ¬ s.engineActs e then s
  else
    match q with
    | .ingress p =>
      let s := s.popHq (sget hq0 s.iq p.val) (R.TSU_P_IQ_HEAD0 p.val) 4 (fun s h => { s with iq := sput hq0 p.val h s.iq })
      s.setRdata e (s.regN (R.TSU_P_IQ_HEAD0 p.val))
    | .egress p =>
      let s := s.popHq (sget hq0 s.eq p.val) (R.TSU_P_EQ_HEAD0 p.val) 4 (fun s h => { s with eq := sput hq0 p.val h s.eq })
      s.setRdata e (s.regN (R.TSU_P_EQ_HEAD0 p.val))
    | .skew =>
      let s := s.popHq s.skew R.TSU_SKEW_HEAD0 4 (fun s h => { s with skew := h })
      s.setRdata e (s.regN R.TSU_SKEW_HEAD0)
    | .capture n =>
      let s := s.popHq (sget hq0 s.cap n.val) (R.TSU_CAP_HEAD0 n.val) 4 (fun s h => { s with cap := sput hq0 n.val h s.cap })
      s.setRdata e (s.regN (R.TSU_CAP_HEAD0 n.val))
    | .canTxEvent n =>
      let s := s.popHq (s.canC n.val).txev (R.CAN_TXEV_HEAD0 n.val) 3 (fun s h => s.modCan n.val (fun c => { c with txev := h }))
      s.setRdata e (s.regN (R.CAN_TXEV_HEAD0 n.val))
    | .farError =>
      let s := s.popHq s.qlb.far R.QLB_FAR_HEAD0 4 (fun s h => s.setQlb { s.qlb with far := h })
      s.setRdata e (s.regN R.QLB_FAR_HEAD0)
    | .events =>
      let s := s.popHq (sget hq0 s.eng.evq e) (R.ENG_EVQ_HEAD0 e) 4
        (fun s h => { s with eng := { s.eng with evq := sput hq0 e h s.eng.evq } })
      s.setRdata e (s.regN (R.ENG_EVQ_HEAD0 e))

/-- Engine `e` reads a LO half of a chained counter: the HI half goes to its latch for the block. -/
def State.loRead (s : State) (e addr : Nat) : State :=
  (s.latchHi e (addr / 0x100000 % 256) (s.regN (addr + 4))).setRdata e (s.regN addr)

end Sys2Proof.Machine
end

