-- ==== Sys2Proof/Machine/Cnt.lean ====
section
/-! DEFINITION. The harvest and the top-down slot counters (17). -/

namespace Sys2Proof.Machine

def State.setCnt (s : State) (c : Cnt) : State := { s with cnt := c }

-- the catalogue (R709, Table 17-1)

/-- What a slot of the harvest table holds: a pad, the word at an address, a gauge of the buffer, or a half of a slot counter. -/
inductive Slot where
  | pad
  | reg (addr : Nat)
  | free
  | pktFree
  | copyFree
  | ingress (port : Nat)
  | depth (queue : Nat)
  | td (i : Nat)
  deriving DecidableEq, Repr

/-- `n` consecutive words from an address on. -/
def wordsAt (addr n : Nat) : List Slot := (List.range n).map (fun k => .reg (addr + 4 * k))

/-- The words of `count` instances, from an address and at a stride. -/
def instWords (addr stride count n : Nat) : List Slot := (List.range count).flatMap (fun i => wordsAt (addr + i * stride) n)

/-- Slots that are captured one by one, each in a cycle of its own (R704). -/
def apart (l : List Slot) : List (List Slot) := l.map (fun x => [x])

def slotsTsu : List (List Slot) :=
  apart ((List.range 24).flatMap (fun p => [.reg (R.TSU_P_IQ_LOST p), .reg (R.TSU_P_EQ_LOST p)]) ++
    (List.range 4).map (fun n => .reg (R.TSU_CAP_LOST n)) ++ [.reg R.TSU_SKEW_LOST, .pad])

/-- The two halves of the chained octet counters are captured together (R705). -/
def slotsMac : List (List Slot) :=
  (List.range 24).flatMap (fun n =>
    let a := C.MAC_RX_FRAMES n
    [[.reg a], [.pad], wordsAt (a + 4) 2, [.reg (a + 12)], [.pad], wordsAt (a + 16) 2] ++ apart (wordsAt (a + 24) 24))

def slotsFwd : List (List Slot) := apart (wordsAt C.FWD_VLAN_UNKNOWN 29 ++ [.reg C.FWD_TRAP_DROP]) ++ [wordsAt C.FWD_DECISIONS_LO 2]

/-- The words of the 16 latency monitors are captured together (R705). -/
def slotsSct : List (List Slot) :=
  apart (instWords (C.SCT_C_FRAMES 0) 0x40 512 10 ++ wordsAt C.SCT_INVALID_SC 5 ++ [.pad]) ++ [instWords (R.SCT_LAT_MIN 0) 0x20 16 6]

/-- The 243 gauges are captured together (R705). -/
def slotsBuf : List (List Slot) :=
  apart (instWords (C.BUF_Q_ENQUEUED 0) 0x20 224 6 ++ wordsAt C.BUF_NO_CELL 10) ++
    [[.free, .pktFree, .copyFree] ++ (List.range 16).map .ingress ++ (List.range 224).map .depth, [.pad]]

def slotsEgs : List (List Slot) :=
  apart (instWords (C.EGS_Q_NEVER_FITS 0) 0x10 224 4 ++ (List.range 28).map (fun p => .reg (R.EGS_P_LEAD_SAMPLES p)))

def slotsAud : List (List Slot) :=
  apart (instWords (C.AUD_L_FRAMES 0) 0x20 64 8 ++ instWords (C.AUD_T_FRAMES 0) 0x10 64 2 ++ wordsAt (C.AUD_CLIP 0) 328 ++
    wordsAt C.AUD_CHG_LATE 9 ++ wordsAt (C.AUD_TDM_CMP_DIFF 0) 4 ++ [.pad])

def slotsCan : List (List Slot) := apart (instWords (C.CAN_TX_FRAMES 0) 0x4000 16 25)

def slotsSer : List (List Slot) := apart (instWords (C.SER_RX_MSGS 0) 0x100 8 15)

def slotsGlv : List (List Slot) :=
  apart (instWords (C.GLV_C_FRAMES 0) 0x10 24 4 ++ instWords (C.GLV_D_FRAMES 0) 0x20 64 8 ++ wordsAt C.GLV_NO_DECAP 3 ++ [.pad])

def slotsCph : List (List Slot) :=
  apart (instWords (C.CPH_MS_TX_PROTECTED 0) 0x40 16 16 ++ [.reg C.CPH_COMPARE_FAULTS, .pad]) ++ [wordsAt C.CPH_JOBS_LO 2] ++
    apart (wordsAt (C.CPH_JOBS_LO + 8) 12)

def slotsQlb : List (List Slot) := apart (wordsAt C.QLB_LF_TX 21 ++ [.pad])

def slotsWak : List (List Slot) := apart (wordsAt C.WAK_KA_TX 10)

def slotsEng : List (List Slot) := apart (instWords (C.ENG_TXR_FRAMES 0) 0x20 8 8)

def slotsFlt : List (List Slot) := apart (wordsAt C.FLT_CELLAR_RECORDS 11 ++ [.pad])

/-- The ten slots of CNT are captured together (R705). -/
def slotsCnt : List (List Slot) := [(List.range 10).map .td]

/-- The regions of the blocks 0x03 to 0x12, each as the groups that are captured in one cycle, in slot order. -/
def harvestRegions : List (List (List Slot)) :=
  [slotsTsu, slotsMac, slotsFwd, slotsSct, slotsBuf, slotsEgs, slotsAud, slotsCan, slotsSer, slotsGlv, slotsCph, slotsQlb, slotsWak,
   slotsEng, slotsFlt, slotsCnt]

/-- The capture groups of a sweep in order, each with the number of its region (R704, R705). -/
def harvestGroups : List (Nat × List Slot) :=
  (harvestRegions.zip (List.range 16)).flatMap (fun r => r.1.map (fun g => (r.2, g)))

/-- First slots of the blocks 0x01 to 0x12 (Table 17-1); none for DEV and CFG. -/
def firstSlots : List (Option Nat) :=
  [none, none, some 0, some 54, some 822, some 854, some 6076, some 7674, some 8598, some 9580, some 9980, some 10100, some 10712,
   some 10984, some 11006, some 11016, some 11080, some 11092]

/-- The five slot counters, LO then HI (R714). -/
def State.tdWords (s : State) : List Word :=
  [s.cnt.retired, s.cnt.wasted, s.cnt.front, s.cnt.back, s.cnt.total].flatMap (fun v =>
    [BitVec.ofNat 32 v, BitVec.ofNat 32 (v / 2 ^ 32)])

/-- The value of a slot. -/
def State.slotValue (s : State) : Slot → Word
  | .pad => 0
  | .reg a => s.reg a
  | .free => BitVec.ofNat 32 s.freeCells
  | .pktFree => BitVec.ofNat 32 s.freePkts
  | .copyFree => BitVec.ofNat 32 s.freeCopies
  | .ingress p => BitVec.ofNat 32 (s.ingressCells p none)
  | .depth q => BitVec.ofNat 32 (s.depth q)
  | .td i => nth 0 s.tdWords i

-- sweeps (R702 to R708)

/-- Groups captured now: their values, and for each region begun its offset from START (R705, R710, R712). -/
def State.captureSlots (s : State) (r : Sweep) (l : List (Nat × List Slot)) : Sweep :=
  l.foldl (fun r g => { r with slots := r.slots ++ g.2.map s.slotValue, groups := r.groups + 1,
                               offs := if g.1 = r.offs.length then r.offs ++ [s.clk.now - r.at_] else r.offs }) r

/-- One FABRIC cycle of a running sweep captures its next group (R704). Conventions: log entry 53 (DEDUCED). -/
def State.sweepCycle (s : State) : State :=
  match s.cnt.run with
  | none => s
  | some r => s.setCnt { s.cnt with run := some (s.captureSlots r ((harvestGroups.drop r.groups).take 1)) }

/-- The banks lie in system SRAM, from a multiple of 64 on (R707). -/
def sweepBase (base : Nat) : Bool := base % 64 == 0 && inSram base 0x15C00

/-- A sweep starts with its first capture; with a bad BASE it writes nothing (R707). Conventions: log entry 53 (DEDUCED). -/
def State.startSweep (s : State) (manual : Bool) : State :=
  let r : Sweep :=
    { n := s.cnt.count, manual := manual, startNs := s.wtSubNs, startS := s.wtSec % 2 ^ 32, lcNs := subNs s.clk.lc,
      lcS := secOf s.clk.lc % 2 ^ 32, at_ := s.clk.now, state := s.wtState, src := s.wtSrc, stepped := false,
      throttled := s.on F.WAK_BO_THROTTLE, base := s.regN R.CNT_HARVEST_BASE, slots := [], groups := 0, offs := [] }
  let s := s.setCnt { s.cnt with count := (s.cnt.count + 1) % 2 ^ 32 }
  if sweepBase r.base then (s.setCnt { s.cnt with run := some (s.captureSlots r (harvestGroups.take 1)) }).wr F.CNT_HARVEST_STATUS_BUSY 1
  else (s.wr F.CNT_HARVEST_STATUS_BASE_ERR 1).raise 0x1201 0

/-- HARVEST_SWEEP: PERIOD ms on LC after the last scheduled start, from forwarding on. -/
def State.harvestSweep (s : State) : State :=
  let p := s.rd F.CNT_HARVEST_PERIOD
  if ¬ s.forwarding ∨ p = 0 ∨ s.clk.now < s.cnt.nextAt ∨ s.cnt.run.isSome then s
  else (s.setCnt { s.cnt with nextAt := s.cnt.nextAt + p * 1000000 }).startSweep false

/-- A write to CNT_HARVEST that sets START starts a sweep when none runs. -/
def State.harvestStart (s : State) (value : Nat) : State :=
  if value.testBit 31 ∧ s.alive ∧ s.cnt.run = none then s.startSweep true else s

/-- A write to CNT_HARVEST sets PERIOD, and the next sweep starts PERIOD ms later. -/
def State.harvestPeriodWrite (s : State) (value : Nat) : State :=
  let s := s.wr F.CNT_HARVEST_PERIOD value
  s.setCnt { s.cnt with nextAt := s.clk.now + s.rd F.CNT_HARVEST_PERIOD * 1000000 }

/-- The header of a bank (Table 17-2). -/
def State.sweepHeader (s : State) (r : Sweep) : List Word :=
  let blocks := (List.range 18).map (fun i =>
    match nth none firstSlots i with
    | none => 0xFFFF
    | some f => f + min (nth 0 r.offs (i - 2)) 0xFFFF * 65536)
  ([0x4C514856, r.n, r.startNs, r.startS, s.wtSubNs, s.wtSec % 2 ^ 32, r.lcNs, r.lcS,
    r.state + r.src * 16 + b2n r.stepped * 256 + b2n r.throttled * 512 + b2n r.manual * 1024, 11102] ++ blocks ++ [0, 0, 0, 0]).map
    (BitVec.ofNat 32)

/-- Words as bytes, each little-endian. -/
def wordBytes (l : List Word) : List Byte := l.flatMap (fun w => leBytes 4 w.toNat)

/-- The bank of a sweep. Conventions: log entry 53 (DEDUCED). -/
def sweepBank (r : Sweep) : Nat := r.base + (r.n % 2) * 0xAE00

/-- A sweep's header, once its slots are stored (R706). Conventions: log entry 53 (DEDUCED). -/
def State.writeHeader (s : State) (r : Sweep) : State := s.store (sweepBank r) (wordBytes (s.sweepHeader r))

/-- What a sweep writes to its bank: slots, header, SWEEP_END. -/
def State.writeBank (s : State) (r : Sweep) : State :=
  ((s.store (sweepBank r + 0x80) (wordBytes r.slots)).writeHeader r).storeWord (sweepBank r + 0xADF8) r.n

/-- SWEEP_COMPLETE: the last captures, the bank, then LAST_BANK and CNT_HARVEST_SWEEP. Conventions: log entry 53 (DEDUCED). -/
def State.sweepComplete (s : State) : State :=
  match s.cnt.run with
  | none => s
  | some r =>
    if ¬ s.alive then s
    else
      let r := s.captureSlots r (harvestGroups.drop r.groups)
      let s := (s.setCnt { s.cnt with run := none }).wr F.CNT_HARVEST_STATUS_BUSY 0
      let dur := (s.wtNs - ((r.startS * 1000000000 + r.startNs : Nat) : Int)).toNat
      let s := (s.writeBank r).wr F.CNT_HARVEST_STATUS_BASE_ERR 0
      let s := (s.wr F.CNT_HARVEST_STATUS_LAST_BANK (r.n % 2)).wr F.CNT_HARVEST_STATUS_DURATION (min dur 0xFFFF)
      s.setRegN R.CNT_HARVEST_SWEEP r.n

/-- A sweep cut short by fail-silence or sleep leaves SWEEP_END of its bank unequal to SWEEP (R708). How many of its stores came
before the cut, and which unequal value SWEEP_END has, are free values (log entry 53).
Conventions: log entries 2 (DESIGN CHOICE), 53 (DEDUCED). -/
def State.cutSweep (s : State) : State :=
  match s.cnt.run with
  | none => s
  | some r =>
    let f := ((s.setCnt { s.cnt with run := none }).wr F.CNT_HARVEST_STATUS_BUSY 0).drawFree
    let done := f.1 % (r.slots.length + 2)
    let s := f.2.store (sweepBank r + 0x80) (wordBytes (r.slots.take done))
    let s := if done ≤ r.slots.length ∨ r.slots.length < 11102 then s else s.writeHeader r
    let g := s.drawFree
    g.2.storeWord (sweepBank r + 0xADF8) ((g.2.word (sweepBank r) + 1 + g.1 % (2 ^ 32 - 1)) % 2 ^ 32)

-- the slot counters (R714 to R717)

/-- A port holds a header (R188). -/
def State.headerHeld (s : State) : Bool := s.mac.any (fun e => !e.2.inq.isEmpty)

/-- The decision cycles whose fate is known now, 28 cycles after they started, are counted (R715). -/
def Cnt.settleFates (c : Cnt) : Cnt :=
  let due := c.fates.filter (fun x => x.1 ≤ 1)
  let wasted := (due.filter (fun x => x.2)).length
  { c with fates := (c.fates.filter (fun x => 1 < x.1)).map (fun x => (x.1 - 1, x.2)), total := (c.total + due.length) % 2 ^ 64,
           wasted := (c.wasted + wasted) % 2 ^ 64, retired := (c.retired + (due.length - wasted)) % 2 ^ 64 }

/-- One FABRIC cycle: a decision that starts in it is counted when its fate is known; any other is FRONT or BACK (R714, R715).
Conventions: log entry 53 (DEDUCED). -/
def State.slotCycle (s : State) : State :=
  let c := s.cnt.settleFates
  let idle := { c with total := (c.total + 1) % 2 ^ 64 }
  s.setCnt
    (if c.decided ≠ 0 then { c with decided := c.decided - 1, fates := c.fates ++ [(28, false)] }
     else if c.discarded ≠ 0 then { c with discarded := c.discarded - 1, fates := c.fates ++ [(28, true)] }
     else if s.headerHeld ∧ (s.freeCells = 0 ∨ s.freePkts = 0 ∨ s.freeCopies = 0) then { idle with back := (c.back + 1) % 2 ^ 64 }
     else { idle with front := (c.front + 1) % 2 ^ 64 })

/-- One FABRIC cycle of the harvest and the slot counters. -/
def State.cntCycle (s : State) : State := s.sweepCycle.slotCycle

/-- The FABRIC cycles of one TIME cycle: two, or one under the throttle (R716).
Conventions: log entries 6 (DESIGN CHOICE), 53 (DEDUCED), 57 (DESIGN CHOICE). -/
def State.slotTick (s : State) : State :=
  if ¬ s.alive then s else if s.on F.WAK_BO_THROTTLE then s.cntCycle else s.cntCycle.cntCycle

/-- A read of CNT_TD_SNAP by engine `e`: the five counters into CNT_TD_*; it returns 0. -/
def State.tdSnap (s : State) (e : Nat) : State :=
  if ¬ s.engineActs e then s
  else
    let w := s.tdWords
    ((List.range 10).foldl (fun s i => s.setReg (R.CNT_TD_RETIRED_LO + 4 * i) (nth 0 w i)) s).setRdata e 0

/-- Whether an address is the LO half of a chained counter (R698): MAC octets, FWD decisions, CPH jobs. -/
def chainedLo (a : Nat) : Bool :=
  (List.range 24).any (fun p => a == C.MAC_RX_OCTETS_LO p || a == C.MAC_TX_OCTETS_LO p) || a == C.FWD_DECISIONS_LO || a == C.CPH_JOBS_LO

/-- A read of the LO half of a chained counter by engine `e`. -/
def State.counterLoRead (s : State) (e addr : Nat) : State := if s.engineActs e ∧ chainedLo addr then s.loRead e addr else s

end Sys2Proof.Machine
end

