-- ==== Sys2Proof/Machine/Sched.lean ====
section
/-! DEFINITION. The scheduler of the cipher engine (12, R497, R498): whose turn a dispatch is. An inline job, of MACsec or of the
Quosor link, is dispatched within the command that needs it, so that no inline queue ever waits at a dispatch of another queue. -/

namespace Sys2Proof.Machine

/-- Word `k` of encapsulation entry `c` (11, Table 11-4). -/
def State.encW (s : State) (c k : Nat) : Nat := s.tw 0xB c k
def State.encNtscf (s : State) (c : Nat) : Bool := decide (c < 16) && (s.encW c 3).testBit 25

/-- A channel encapsulates: EN, and duty where ROLE asks for it (11, R484). -/
def State.encapsulating (s : State) (c : Nat) : Bool :=
  s.forwarding && (s.encW c 1).testBit 31 && (!(s.encW c 2).testBit 31 || s.duty)

/-- A channel seals its items; SEAL is ignored under NTSCF (R535). -/
def State.sealing (s : State) (c : Nat) : Bool := !s.encNtscf c && (s.encW c 3).testBit 24

/-- A channel waits for a freshness value (R529). -/
def State.sealStalls (s : State) (c : Nat) : Bool :=
  s.keyFor (bits (s.encW c 3) 16 8) 5 && decide ((s.drawLease c).2 = .wait)

/-- A queue of the shared pool has a job to dispatch: 0 to 23 the sealing of a glove channel, 24 the seal checks of decapsulation,
25 to 32 the rings (Table 12-1). -/
def State.queueReady (s : State) (q : Nat) : Bool :=
  if q < 24 then
    s.glv.inq.any (fun i => i.chan == q) && s.encapsulating q && s.sealing q && !s.sealStalls q
  else if q = 24 then
    match s.out26 with
    | pk :: _ => match pk.sc with | some h => decide (s.scf h 6 12 2 = 2) | none => false
    | [] => false
  else (s.nextJob (q - 25)).isSome

/-- The queue that the next dispatch serves: the first ready one after that served last (R498). -/
def State.queueDue (s : State) : Option Nat :=
  ((List.range 33).map (fun i => (s.cph.turn + 1 + i) % 33)).find? (fun q => s.queueReady q)

/-- It is the turn of a queue. Conventions: log entry 43 (DEDUCED). -/
def State.isDue (s : State) (q : Nat) : Bool := s.queueDue == some q

/-- A queue has been served. Conventions: log entry 43 (DEDUCED). -/
def State.served (s : State) (q : Nat) : State := s.setCph { s.cph with turn := q }

/-- A dispatch from ring `e`, one job, when it is the ring's turn (R498). Conventions: log entry 43 (DEDUCED). -/
def State.dispatchTurn (s : State) (e : Nat) (ops : List Nat) : State :=
  let t := s.dispatchJob e ops
  if s.isDue (25 + e) ∧ t.cph.jobs.length ≠ s.cph.jobs.length then t.served (25 + e) else s

end Sys2Proof.Machine
end

