-- ==== Sys2Proof/Machine/Ser.lean ====
section
/-! DEFINITION. The serial channels (11): characters, messages, the receive and transmit rings, and the unit without duty. -/

namespace Sys2Proof.Machine

def State.serC (s : State) (n : Nat) : SerC := sget serC0 s.ser n
def State.setSer (s : State) (n : Nat) (c : SerC) : State := { s with ser := sput serC0 n c s.ser }
def State.modSer (s : State) (n : Nat) (f : SerC → SerC) : State := s.setSer n (f (s.serC n))

/-- Transmit and receive rings of a channel (R476). -/
def serTx (n : Nat) : Nat := 0x20B10000 + n * 0x1000
def serRx (n : Nat) : Nat := 0x20B10800 + n * 0x1000

/-- `k` bytes from an offset of a 2 KiB ring. -/
def State.serBytes (s : State) (base o : Nat) : Nat → List Byte
  | 0 => []
  | k + 1 => s.byte (base + o % 2048) :: s.serBytes base (o + 1) k

def State.serStore (s : State) (base : Nat) : Nat → List Byte → State
  | _, [] => s
  | o, b :: l => (s.store (base + o % 2048) [b]).serStore base (o + 1) l

def pad4 (n : Nat) : Nat := (n + 3) / 4 * 4

/-- A serial element (Table 11-1). -/
def serElem (d : List Byte) (gap err brk : Bool) (ns sec : Nat) : List Byte :=
  leBytes 4 (d.length + b2n gap * 2 ^ 16 + b2n err * 2 ^ 17 + b2n brk * 2 ^ 18) ++ leBytes 4 ns ++ leBytes 4 sec ++ d ++
    zeros (pad4 d.length - d.length)

def serElemLen (w0 : Nat) : Nat := 12 + pad4 (bits w0 0 11)

/-- The message bytes of an element. -/
def serData (e : List Byte) : List Byte := (e.drop 12).take (bits (elemWord e 0) 0 11)

/-- The channel runs: EN, and a rate within 3 Mbit/s (R472). -/
def State.serRuns (s : State) (n : Nat) : Bool := s.alive && s.on (F.SER_CTRL_EN n) && !s.on (F.SER_STATUS_CFG_ERR n)

/-- Bits of a character (R472). Conventions: log entry 41 (DEDUCED). -/
def State.charBits (s : State) (n : Nat) : Nat :=
  let p := s.rd (F.SER_CTRL_PARITY n)
  1 + (if s.on (F.SER_CTRL_DATA7 n) then 7 else 8) + (if p = 1 ∨ p = 2 then 1 else 0) + (if s.on (F.SER_CTRL_STOP2 n) then 2 else 1)

/-- Bit times in ns, rounded up: a bit lasts DIV / 16 cycles of 6.25 ns (R472). -/
def State.bitTimes (s : State) (n k : Nat) : Nat := (k * s.rd (F.SER_BAUD_DIV n) * 25 + 63) / 64

/-- Time of a character in ns. -/
def State.charNs (s : State) (n : Nat) : Nat := s.bitTimes n (s.charBits n)

/-- The line has been idle for `k` bit times at an instant (R473, R478). -/
def State.lineIdle (s : State) (n k at_ : Nat) : Bool := decide ((s.serC n).lineAt + s.bitTimes n k ≤ at_)

/-- The level of SERn_DE: asserted while a message is sent, and inactive before step 12 and from fail-silence on (R478, R479). -/
def State.deLevel (s : State) (n : Nat) : Bool := (s.forwarding && s.on (F.SER_STATUS_DE n)) != s.on (F.SER_CTRL_DE_POL n)

def State.serMax (s : State) (n : Nat) : Nat :=
  let m := s.rd (F.SER_FRAME_MAX_LEN n)
  if m = 0 ∨ 1024 < m then 1024 else m

-- the transmit ring (R477, R478, R480)

def State.serOwner (s : State) (n : Nat) : Nat := if s.rd (F.SER_CTRL_TX_OWNER n) = 1 then 1 else 0
def State.serMirrors (s : State) (n : Nat) : Bool := s.on (F.SER_CTRL_TX_ROLE n) && s.mirroring

/-- The head element of the transmit ring. -/
def State.serHead (s : State) (n : Nat) : Option (List Byte) :=
  let g := s.regN (R.SER_TXQ_GET n)
  let len := serElemLen (leNat (s.serBytes (serTx n) g 4))
  if (s.serC n).txFill < 12 ∨ (s.serC n).txFill < len then none else some (s.serBytes (serTx n) g len)

/-- Bytes added to the transmit ring: the head is loaded when the ring was empty. -/
def State.serFilled (s : State) (n len : Nat) : State :=
  s.modSer n (fun c => { c with txFill := c.txFill + len, headAt := if c.txFill = 0 then s.clk.now else c.headAt,
                                resent := if c.txFill = 0 then false else c.resent })

/-- The head element is freed. -/
def State.serPop (s : State) (n : Nat) : State :=
  let g := s.regN (R.SER_TXQ_GET n)
  let len := min (serElemLen (leNat (s.serBytes (serTx n) g 4))) (s.serC n).txFill
  (s.setRegN (R.SER_TXQ_GET n) ((g + len) % 2048)).modSer n (fun c =>
    { c with txFill := c.txFill - len, headAt := s.clk.now, resent := false })

/-- An element written at PUT. -/
def State.serAppendRing (s : State) (n : Nat) (e : List Byte) : State :=
  let p := s.regN (R.SER_TXQ_PUT n)
  ((s.serStore (serTx n) p e).setRegN (R.SER_TXQ_PUT n) ((p + e.length) % 2048)).serFilled n e.length

/-- An element offered by GLV; the Boolean says that it was taken (R477, R434). -/
def State.serOffer (s : State) (n : Nat) (e : List Byte) : State × Bool :=
  if s.serOwner n ≠ 1 then (s.inc (C.SER_TXQ_OWNER n), false)
  else if 2048 < (s.serC n).txFill + e.length then (s, false)
  else (s.serAppendRing n e, true)

/-- The whole elements of a span of the transmit ring. -/
def State.serElems (s : State) (n : Nat) : Nat → Nat → Nat → List (List Byte)
  | 0, _, _ => []
  | k + 1, o, left =>
    let len := serElemLen (leNat (s.serBytes (serTx n) o 4))
    if left < 12 ∨ left < len then [] else s.serBytes (serTx n) o len :: s.serElems n k (o + len) (left - len)

/-- A firmware write of SER_nTXQ_PUT (R435, R436, R477, R480). Conventions: log entry 41 (DEDUCED). -/
def State.serTxqPut (s : State) (n value : Nat) : State :=
  let new := bits value 0 11
  let old := s.regN (R.SER_TXQ_PUT n)
  let len := (new + 2048 - old) % 2048
  if (s.serMirrors n ∧ ¬ s.duty) ∨ (s.on (F.SER_CTRL_TX_ROLE n) ∧ s.giving) then s.inc (C.SER_TXQ_NOT_DUTY n)
  else if s.serOwner n ≠ 0 then s.inc (C.SER_TXQ_OWNER n)
  else if new % 4 ≠ 0 ∨ 2048 < (s.serC n).txFill + len then s
  else
    let s := (s.setRegN (R.SER_TXQ_PUT n) new).serFilled n len
    if s.serMirrors n then (s.serElems n 171 old len).foldl (fun s e => s.mirror (.serAppend n e)) s else s

/-- A mirrored element (R480). -/
def State.serAppend (s : State) (n : Nat) (e : List Byte) : State :=
  if s.serOwner n ≠ 0 then s.inc (C.SER_TXQ_OWNER n)
  else if 2048 < (s.serC n).txFill + e.length then s
  else s.serAppendRing n e

/-- A mirrored flush: PUT moves back behind the loaded element (R437, R480). -/
def State.serFlush (s : State) (n : Nat) : State :=
  let keep := match s.serHead n with | some e => e.length | none => 0
  let s := s.setRegN (R.SER_TXQ_PUT n) ((s.regN (R.SER_TXQ_GET n) + keep) % 2048)
  s.modSer n (fun c => { c with txFill := keep })

/-- The transmitter may start a message (R478 to R480, R583). -/
def State.serMaySend (s : State) (n : Nat) : Bool :=
  s.forwarding && !s.winding && s.serRuns n && (!s.on (F.SER_CTRL_TX_ROLE n) || (s.duty && !s.giving)) && !s.on (F.SER_STATUS_TX_BUSY n)

/-- After TX_GAP idle bit times the next element starts: DE is asserted (R478). An invalid element is discarded (Table 11-1).
Conventions: log entry 41 (DEDUCED). -/
def State.serialTxStart (s : State) (n : Nat) : State :=
  if ¬ s.serRuns n ∨ s.on (F.SER_STATUS_TX_BUSY n) ∨ (s.serC n).txFill = 0 then s
  else
    let len := bits (leNat (s.serBytes (serTx n) (s.regN (R.SER_TXQ_GET n)) 4)) 0 11
    if len = 0 ∨ 1024 < len then (s.serPop n).inc (C.SER_TX_INVALID n)
    else if ¬ s.serMaySend n ∨ ¬ s.lineIdle n (s.rd (F.SER_FRAME_TX_GAP n)) s.clk.now then s
    else
      match s.serHead n with
      | none => s
      | some _ =>
        let time := s.bitTimes n (s.rd (F.SER_DE_DE_LEAD n) + len * s.charBits n + s.rd (F.SER_DE_DE_LAG n))
        let s := s.modSer n (fun c => { c with doneAt := s.clk.now + time })
        (s.wr (F.SER_STATUS_TX_BUSY n) 1).wr (F.SER_STATUS_DE n) 1

/-- DE_LAG bit times after the last stop bit DE is released and the element freed (R478). Conventions: log entry 41 (DEDUCED). -/
def State.serialTxEnd (s : State) (n : Nat) : State :=
  if ¬ s.on (F.SER_STATUS_TX_BUSY n) ∨ s.clk.now < (s.serC n).doneAt then s
  else
    let len := bits (leNat (s.serBytes (serTx n) (s.regN (R.SER_TXQ_GET n)) 4)) 0 11
    let s := (s.inc (C.SER_TX_MSGS n)).add (C.SER_TX_BYTES n) len
    let s := if (s.serC n).resent then s.inc (C.SER_TAKEOVER_RESENT n) else s
    ((s.wr (F.SER_STATUS_TX_BUSY n) 0).wr (F.SER_STATUS_DE n) 0).serPop n

/-- MIRROR_AGE has passed for the loaded element of the unit without duty (R470, R480). -/
def State.serMirrorExpired (s : State) (n : Nat) : State :=
  let age := s.rd (F.SER_DE_MIRROR_AGE n)
  if s.on (F.SER_CTRL_TX_ROLE n) ∧ ¬ s.duty ∧ age ≠ 0 ∧ (s.serHead n).isSome ∧
      (s.serC n).headAt + age * 1000000 ≤ s.clk.now then
    (s.serPop n).inc (C.SER_MIRROR_EXPIRED n)
  else s

-- reception (R473 to R476)

/-- A closed message for the receive ring (R461, R476). -/
def State.serRxStore (s : State) (n : Nat) (m : SerMsg) (brk : Bool) : State :=
  let pend := s.on (F.SER_RXQ_FILL_GAP_PENDING n)
  let e := serElem m.bytes pend m.err brk m.ns m.sec
  if 2048 < (s.serC n).rxFill + e.length then
    let s := s.inc (C.SER_RXQ_LOST n)
    if pend then s else (s.wr (F.SER_RXQ_FILL_GAP_PENDING n) 1).raise 0x0B02 n
  else
    let p := s.regN (R.SER_RXQ_PUT n)
    let s := ((s.serStore (serRx n) p e).setRegN (R.SER_RXQ_PUT n) ((p + e.length) % 2048)).wr (F.SER_RXQ_FILL_GAP_PENDING n) 0
    s.modSer n (fun c => { c with rxFill := c.rxFill + e.length })

/-- A firmware write of SER_nRXQ_GET frees what it passes (R476). -/
def State.serGetWrite (s : State) (n value : Nat) : State :=
  let passed := (bits value 0 11 + 2048 - s.regN (R.SER_RXQ_GET n)) % 2048
  (s.writeFields (R.SER_RXQ_GET n) value).modSer n (fun c => { c with rxFill := c.rxFill - passed })

/-- In the unit without duty a message equal to the loaded element retires it (R469, R480). -/
def State.serMirrorRetire (s : State) (n : Nat) (d : List Byte) : State :=
  if s.on (F.SER_CTRL_TX_ROLE n) ∧ ¬ s.duty ∧ (s.serHead n).map serData = some d then
    (s.serPop n).inc (C.SER_MIRROR_RETIRED n)
  else s

/-- The open message closes and goes to its targets (R473 to R475). Conventions: log entry 41 (DEDUCED). -/
def State.serClose (s : State) (n : Nat) (brk : Bool) : State :=
  match (s.serC n).open_ with
  | none => s
  | some m =>
    let s := (s.modSer n (fun c => { c with open_ := none })).wr (F.SER_STATUS_RX_BUSY n) 0
    if m.bytes = [] ∨ (m.err ∧ s.on (F.SER_CTRL_DROP_ERR n)) then s
    else
      let s := (s.inc (C.SER_RX_MSGS n)).add (C.SER_RX_BYTES n) m.bytes.length
      let s := if s.on (F.SER_CTRL_RX_FW n) then s.serRxStore n m brk else s
      let s := if s.on (F.SER_CTRL_RX_GLOVE n) then s.toGlv (16 + n) none m.bytes s.wtNs else s
      s.serMirrorRetire n m.bytes

/-- The open message holds MAX_LEN bytes. -/
def State.serFull (s : State) (n : Nat) : Bool :=
  match (s.serC n).open_ with
  | some m => decide (s.serMax n ≤ m.bytes.length)
  | none => false

/-- A message that holds MAX_LEN bytes closes and counts OVERLONG; another closes when the line has stayed idle for GAP_BITS bit
times (R473). Conventions: log entry 41 (DEDUCED). -/
def State.serGap (s : State) (n at_ : Nat) : State :=
  if s.serFull n then (s.inc (C.SER_OVERLONG n)).serClose n false
  else if s.lineIdle n (s.rd (F.SER_FRAME_GAP_BITS n)) at_ then s.serClose n false
  else s

/-- A message closes for a cause (R473). Conventions: log entry 41 (DEDUCED). -/
def State.messageClose (s : State) (n : Nat) (cause : SerClose) : State :=
  match cause with
  | .gap => s.serGap n s.clk.now
  | .maxLen => if s.serFull n then s.serGap n s.clk.now else s
  | .brk =>
    if ¬ s.serRuns n then s
    else
      let s := (s.modSer n (fun c => { c with lineAt := s.clk.now })).wr (F.SER_STATUS_LINE n) 0
      let s := s.inc (C.SER_BREAKS n)
      if s.serFull n then (s.inc (C.SER_OVERLONG n)).serClose n false else s.serClose n true

/-- A character joins its message (R472 to R474). -/
def State.serTake (s : State) (n value : Nat) (parity framing : Bool) : State :=
  let p := s.rd (F.SER_CTRL_PARITY n)
  let parity := parity && (p == 1 || p == 2)
  let err := parity || framing
  let s := if parity then s.inc (C.SER_PARITY_ERR n) else s
  let s := if framing then s.inc (C.SER_FRAMING_ERR n) else s
  let s := if err then s.raiseOnce 0x0B01 n else s
  let b : Byte := BitVec.ofNat 8 (if s.on (F.SER_CTRL_DATA7 n) then value % 128 else value)
  let t := s.wtNs - s.charNs n
  let m : SerMsg := match (s.serC n).open_ with
    | some m => { m with bytes := m.bytes ++ [b], err := m.err || err }
    | none => ⟨[b], err, (t % 1000000000).toNat, (t / 1000000000).toNat % 2 ^ 32⟩
  let s := (s.modSer n (fun c => { c with open_ := some m })).wr (F.SER_STATUS_RX_BUSY n) 1
  if s.rd (F.SER_FRAME_GAP_BITS n) = 0 ∨ s.serFull n then s.serGap n s.clk.now else s

/-- A character is received (R472 to R475). Conventions: log entry 41 (DEDUCED). -/
def State.serialCharacter (s : State) (n value : Nat) (parity framing : Bool) : State :=
  if ¬ s.serRuns n then s
  else
    let s := s.serGap n (s.clk.now - s.charNs n)
    let s := (s.modSer n (fun c => { c with lineAt := s.clk.now })).wr (F.SER_STATUS_LINE n) 1
    if s.on (F.SER_STATUS_DE n) ∧ s.on (F.SER_CTRL_ECHO_SUPPRESS n) then s
    else s.serTake n value parity framing

/-- A write to SER_nBAUD: a rate above 3 Mbit/s holds the channel off (R472). -/
def State.serBaudWrite (s : State) (n value : Nat) : State :=
  let s := s.writeFields (R.SER_BAUD n) value
  if s.rd (F.SER_BAUD_DIV n) ≤ 853 then
    let s := (((s.wr (F.SER_STATUS_CFG_ERR n) 1).wr (F.SER_STATUS_TX_BUSY n) 0).wr (F.SER_STATUS_DE n) 0).wr (F.SER_STATUS_RX_BUSY n) 0
    (s.modSer n (fun c => { c with open_ := none })).raise 0x0B03 n
  else s.wr (F.SER_STATUS_CFG_ERR n) 0

/-- A write to SER_nCTRL: a channel that stops leaves its message and its line. -/
def State.serCtrlWrite (s : State) (n value : Nat) : State :=
  let s := s.writeFields (R.SER_CTRL n) value
  if s.on (F.SER_CTRL_EN n) then s
  else
    let s := ((s.wr (F.SER_STATUS_TX_BUSY n) 0).wr (F.SER_STATUS_DE n) 0).wr (F.SER_STATUS_RX_BUSY n) 0
    s.modSer n (fun c => { c with open_ := none })

/-- The duty of the unit has changed (R470, R471, R480). -/
def State.serDuty (s : State) : State :=
  (List.range 8).foldl (fun s n =>
    if s.on (F.SER_CTRL_TX_ROLE n) then s.modSer n (fun c => { c with headAt := s.clk.now, resent := s.duty && c.txFill != 0 }) else s) s

/-- The firmware elements of a transmit ring of TX_ROLE 1, for a mirror sync (R567). -/
def State.serSyncElems (s : State) : List (Nat × List Byte) :=
  (List.range 8).flatMap (fun n =>
    if s.on (F.SER_CTRL_TX_ROLE n) ∧ s.serOwner n = 0 then
      (s.serElems n 171 (s.regN (R.SER_TXQ_GET n)) (s.serC n).txFill).map (fun e => (n, e))
    else [])

/-- The own elements of TX_ROLE 1 are discarded before a mirror sync is applied (R567). -/
def State.serSyncClear (s : State) : State :=
  (List.range 8).foldl (fun s n =>
    if s.on (F.SER_CTRL_TX_ROLE n) ∧ s.serOwner n = 0 then
      (s.setRegN (R.SER_TXQ_PUT n) (s.regN (R.SER_TXQ_GET n))).modSer n (fun c => { c with txFill := 0 })
    else s) s

end Sys2Proof.Machine
end

