-- ==== Sys2Proof/Machine/Glv.lean ====
section
/-! DEFINITION. The glove engine (11) and sealed items (12, R535 to R538): bundling, keep-alives, NTSCF, and decapsulation. -/

namespace Sys2Proof.Machine

def State.setGlv (s : State) (g : Glv) : State := { s with glv := g }
def State.enc (s : State) (c : Nat) : Enc := sget enc0 s.glv.enc c
def State.setEnc (s : State) (c : Nat) (e : Enc) : State := s.setGlv { s.glv with enc := sput enc0 c e s.glv.enc }

/-- CLOSE_BYTES in force (R484, R486). -/
def State.closeBytes (s : State) (c : Nat) : Nat :=
  let v := bits (s.encW c 2) 16 14
  let v := if v = 0 ∨ 8192 < v then 8192 else v
  if s.encNtscf c then min v 2047 else v

/-- LC in ms. -/
def State.lcMs (s : State) : Nat := s.lcUs / 1000

-- items

/-- The body of a CAN item (Table 11-3). -/
def canBody (f : CanFrame) : List Byte :=
  let n := dataLen f.fdf f.xlf f.rtr f.dlc.toNat
  beBytes 4 (b2n f.xlf * 2 ^ 31 + b2n f.fdf * 2 ^ 30 + b2n f.ide * 2 ^ 29 + f.ident.toNat) ++
    beBytes 4 (f.sdt.toNat * 2 ^ 24 + b2n f.brs * 2 ^ 23 + b2n f.esi * 2 ^ 22 + b2n f.rtr * 2 ^ 21 + b2n f.rrs * 2 ^ 20 +
      b2n f.sec * 2 ^ 19 + f.dlc.toNat) ++
    beBytes 4 (if f.xlf then f.af.toNat else 0) ++ [if f.xlf then f.vcid else 0, 0, 0, 0] ++ (f.data ++ zeros n).take n

/-- The frame of a CAN item body. -/
def bodyFrame (b : List Byte) : CanFrame :=
  let a := fld b 0 4
  let c := fld b 4 4
  { ident := BitVec.ofNat 29 a, ide := a.testBit 29, fdf := a.testBit 30, xlf := a.testBit 31, brs := c.testBit 23,
    esi := c.testBit 22, rtr := c.testBit 21, rrs := c.testBit 20, sec := c.testBit 19, dlc := BitVec.ofNat 11 c,
    sdt := BitVec.ofNat 8 (c / 2 ^ 24), af := BitVec.ofNat 32 (fld b 8 4), vcid := BitVec.ofNat 8 (fld b 12 1), data := b.drop 16 }

/-- An ACF CAN message of a classical or FD frame (R486; IEEE 1722-2016). Conventions: log entry 38 (PRESUMED). -/
def acfCan (n : Nat) (f : CanFrame) (wt : Int) : List Byte :=
  let k := dataLen f.fdf f.xlf f.rtr f.dlc.toNat
  let p := pad4 k - k
  beBytes 2 (1 * 512 + (16 + pad4 k) / 4) ++
    beBytes 2 (p * 2 ^ 14 + 2 ^ 13 + b2n f.rtr * 2 ^ 12 + b2n f.ide * 2 ^ 11 + b2n f.brs * 2 ^ 10 + b2n f.fdf * 2 ^ 9 +
      b2n f.esi * 2 ^ 8 + n) ++
    beBytes 8 (unsgn 64 wt) ++ beBytes 4 f.ident.toNat ++ (f.data ++ zeros k).take k ++ zeros p

/-- The message that an item's seal covers, and its TAG (R535). -/
def sealTag (key : List Byte) (subtype chan : Nat) (fresh : List Byte) (body : List Byte) : List Byte :=
  (cmacBytes key ([BitVec.ofNat 8 subtype, BitVec.ofNat 8 chan] ++ fresh ++ body)).take 8

/-- SUBTYPE of a channel (Table 11-2). -/
def subtypeOf (c : Nat) : Nat := if c < 16 then 1 else 2

/-- What sealing makes of an item. -/
inductive Sealed where
  | item (b : List Byte)
  | wait
  | fail

/-- An item's seal under the channel's slot with its next freshness value (R534 to R536). -/
def State.sealItem (s : State) (c : Nat) (body : List Byte) : State × Sealed :=
  let slot := bits (s.encW c 3) 16 8
  if ¬ s.keyFor slot 5 then (((s.job (s.keyStatus slot)).inc C.CPH_SEAL_FAIL).raiseOnce 0x0D06 0, .fail)
  else
    let r := s.drawLease c
    match r.2 with
    | .value v =>
      let f := beBytes 8 v
      ((r.1.job 0).inc C.CPH_SEAL_TX, .item (body ++ f ++ sealTag (s.key slot).bytes (subtypeOf c) c f body))
    | .wait => (r.1, .wait)
    | .exhausted => (((r.1.job 4).inc C.CPH_SEAL_FAIL).raiseOnce 0x0D06 0, .fail)

-- bundling (R482 to R486)

/-- The octets of a frame of channel `c` with its items, oldest first (Table 11-2; NTSCF by R486). -/
def State.gloveOctets (s : State) (c : Nat) (e : Enc) : List Byte :=
  let addr := beBytes 6 (bits (s.encW c 1) 0 16 * 2 ^ 32 + s.encW c 0) ++
    beBytes 6 (s.rd F.GLV_SA_HI_SA * 2 ^ 32 + s.regN R.GLV_SA_LO)
  if s.encNtscf c then
    let p := e.items.flatMap (·.1)
    addr ++ [0x22, 0xF0, 0x82] ++ beBytes 2 (2 ^ 15 + p.length % 2048) ++ beBytes 1 (e.seq % 256) ++
      beBytes 8 (s.encW c 5 * 2 ^ 32 + s.encW c 4) ++ p
  else
    let stamp := (s.encW c 2).testBit 30
    let body := e.items.flatMap (fun i => beBytes 2 i.1.length ++ beBytes 2 (min 65535 (s.lcUs - i.2)) ++ i.1)
    addr ++ [0x88, 0xB5, BitVec.ofNat 8 (subtypeOf c), 0x01] ++
      beBytes 1 (b2n stamp + 2 * b2n e.restart + 4 * b2n ((s.encW c 3).testBit 24)) ++ beBytes 1 c ++ beBytes 2 e.seq ++
      beBytes 2 e.items.length ++ (if stamp then zeros 8 else []) ++ body

/-- The open bundle closes, or a keep-alive is formed: the frame goes to P26 (R482, R484).
Conventions: log entries 38 (PRESUMED), 42 (DEDUCED). -/
def State.closeBundle (s : State) (c : Nat) : State :=
  let e := s.enc c
  let d := s.gloveOctets c e
  let f := { rxFrame0 d with ended := true, vid := bits (s.encW c 1) 16 12, pcp := bits (s.encW c 1) 28 3, lc := s.clk.lc,
                             wt := s.clk.wt }
  let s := s.setEnc c { e with isOpen := false, items := [], seq := (e.seq + 1) % 65536, restart := false, lastMs := s.lcMs }
  (s.inc (C.GLV_C_FRAMES c)).feed 26 f

/-- The octets that an item takes in its frame: 4 + LEN, or the ACF message (R484, R486). -/
def State.itemSize (s : State) (c : Nat) (b : List Byte) : Nat := if s.encNtscf c then b.length else b.length + 4

/-- An item enters the bundle of its channel (R484). -/
def State.bundle (s : State) (c : Nat) (body : List Byte) (rx : Nat) : State :=
  let size (e : Enc) : Nat := e.items.foldl (fun n i => n + s.itemSize c i.1) 0
  let b := s.itemSize c body
  let s := if (s.enc c).isOpen ∧ s.closeBytes c < size (s.enc c) + b then s.closeBundle c else s
  let e := s.enc c
  let e := if e.isOpen then e else { e with isOpen := true, tOpen := s.lcUs, items := [] }
  let s := (s.setEnc c { e with items := e.items ++ [(body, rx)] }).inc (C.GLV_C_ITEMS c)
  if bits (s.encW c 2) 0 16 = 0 ∨ s.closeBytes c ≤ size (s.enc c) then s.closeBundle c else s

/-- An XL frame offered to an NTSCF channel is counted in ITEM_BAD (R486); Table 11-7 gives ITEM_BAD to the decapsulation entries only, so
which of the 64 counts is free. Conventions: log entry 60 (DESIGN CHOICE). -/
def State.xlOffered (s : State) (c : Nat) : State := s.inc (C.GLV_D_ITEM_BAD (Config.itemBadOf c % 64))

/-- One item: dropped, bundled, or left waiting for a freshness value or for its turn in the cipher engine (R484, R486, R498,
R529). The Boolean says that it waits. Conventions: log entries 42 (DEDUCED), 60 (DESIGN CHOICE). -/
def State.takeItem (s : State) (i : GlvItem) : State × Bool :=
  let c := i.chan
  if ¬ s.encapsulating c then (s.inc (C.GLV_C_NOT_DUTY c), false)
  else if s.encNtscf c then
    match i.can with
    | some f => if f.xlf then (s.xlOffered c, false) else (s.bundle c (acfCan c f i.wt) i.rxUs, false)
    | none => (s, false)
  else
    let body := match i.can with | some f => canBody f | none => i.data
    if s.sealing c then
      if ¬ s.sealStalls c ∧ ¬ s.isDue c then (s, true)
      else
        let r := (s.served c).sealItem c body
        match r.2 with
        | .item b => (r.1.bundle c b i.rxUs, false)
        | .wait => (r.1, true)
        | .fail => (r.1, false)
    else (s.bundle c body i.rxUs, false)

/-- The first item whose channel does not wait is taken; items of a channel that waits stay in order. -/
def State.takeFirst (s : State) : List Nat → List GlvItem → State × List GlvItem
  | _, [] => (s, [])
  | held, i :: r =>
    if held.contains i.chan then
      let x := s.takeFirst held r
      (x.1, i :: x.2)
    else
      let t := s.takeItem i
      if t.2 then
        let x := t.1.takeFirst (i.chan :: held) r
        (x.1, i :: x.2)
      else (t.1, r)

/-- GLV takes the next item that it has received (R484, R485). Conventions: log entry 42 (DEDUCED). -/
def State.gloveItem (s : State) : State :=
  let r := s.takeFirst [] s.glv.inq
  r.1.setGlv { r.1.glv with inq := r.2 }

/-- CLOSE_US after its opening a bundle closes (R484). -/
def State.bundleClose (s : State) (c : Nat) : State :=
  let e := s.enc c
  if e.isOpen ∧ e.tOpen + bits (s.encW c 2) 0 16 ≤ s.lcUs then s.closeBundle c else s

/-- KEEPALIVE_MS without a frame the channel sends one with COUNT 0 (R484). -/
def State.gloveKeepalive (s : State) (c : Nat) : State :=
  let ka := bits (s.encW c 3) 0 16
  let e := s.enc c
  if s.encapsulating c ∧ ¬ e.isOpen ∧ ka ≠ 0 ∧ e.lastMs + ka ≤ s.lcMs then (s.closeBundle c).inc (C.GLV_C_KEEPALIVES_SENT c)
  else s

/-- Channels start and pause with EN, duty and forwarding: SEQ restarts with RESTART. A bundle open at a pause stays open until its
time to close comes (R482, R484). Conventions: log entry 42 (DEDUCED). -/
def State.glvRefresh (s : State) : State :=
  (List.range 24).foldl (fun s c =>
    let e := s.enc c
    let on := s.encapsulating c
    if on ∧ ¬ e.active then
      s.setEnc c { e with active := true, seq := 0, restart := true, lastMs := s.lcMs }
    else if ¬ on ∧ e.active then s.setEnc c { e with active := false }
    else s) s

/-- A write to GLV_COMMIT (Tables 11-4 to 11-6). -/
def State.glvCommit (s : State) (value : Nat) : State :=
  let i := bits value 0 7
  if i < 24 then (s.setEntry 0xB i (s.staged R.GLV_STAGE0 6)).glvRefresh
  else if 32 ≤ i ∧ i < 96 then s.setEntry 0xB i (s.staged R.GLV_STAGE0 3)
  else s

-- decapsulation (R487 to R492)

/-- Word `k` of decapsulation entry `d` (Table 11-5). -/
def State.decW (s : State) (d k : Nat) : Nat := s.tw 0xB (32 + d) k

/-- A frame as decapsulation reads it. -/
structure Glove where
  ntscf : Bool
  subtype : Nat
  chan : Nat
  seq : Nat
  restart : Bool
  isSealed : Bool
  count : Nat
  /-- octets from the first item or message on -/
  rest : List Byte

/-- A glove frame that meets R481, or an NTSCF frame (R487). -/
def parseGlove (d : List Byte) : Option Glove :=
  if etOf d = 0x88B5 ∧ 22 ≤ d.length then
    let sub := fld d 14 1
    let c := fld d 17 1
    let fl := fld d 16 1
    let h := if fl.testBit 0 then 30 else 22
    if fld d 15 1 = 1 ∧ ((sub = 1 ∧ c < 16) ∨ (sub = 2 ∧ 16 ≤ c ∧ c < 24)) ∧ h ≤ d.length then
      some ⟨false, sub, c, fld d 18 2, fl.testBit 1, fl.testBit 2, fld d 20 2, d.drop h⟩
    else none
  else if etOf d = 0x22F0 ∧ 26 ≤ d.length ∧ fld d 14 1 = 0x82 ∧ fld d 15 1 / 16 = 8 then
    some ⟨true, 1, 0, fld d 17 1, false, false, 0, (d.drop 26).take (fld d 15 2 % 2048)⟩
  else none

/-- The items of a glove frame: bodies in order, and whether one was cut or missing (R491). -/
def gloveItems : Nat → List Byte → List (List Byte) × Bool
  | 0, _ => ([], false)
  | k + 1, d =>
    if d.length < 4 then ([], true)
    else
      let len := fld d 0 2
      if d.length < 4 + len then ([], true)
      else
        let x := gloveItems k (d.drop (4 + len))
        ((d.drop 4).take len :: x.1, x.2)

/-- A sealed item without its seal, when its tag and freshness pass (R537). -/
inductive SealCheck where
  | ok (body : List Byte) (fresh : Nat)
  | stale
  | fail

/-- One item checked against LAST of its entry. Conventions: log entry 42 (DEDUCED). -/
def State.sealCheck (s : State) (slot last : Nat) (g : Glove) (b : List Byte) : SealCheck :=
  let n := b.length - 16
  let body := b.take n
  let f := (b.drop n).take 8
  let fresh := beNat f
  if b.length < 16 ∨ ¬ s.keyFor slot 5 ∨ fresh = 0 ∨
      b.drop (n + 8) ≠ sealTag (s.key slot).bytes g.subtype g.chan f body then .fail
  else if last ≠ 0 ∧ ¬ (last < fresh ∧ fresh - last ≤ 2 ^ s.rd F.CPH_SEAL_WINDOW_LOG) then .stale
  else .ok body fresh

/-- All items of a frame checked, in order, LAST of entry `d` following each success: their bodies, or the state after the
failure. -/
def State.sealAll (s : State) (d slot : Nat) (g : Glove) : List (List Byte) → Except State (State × List (List Byte))
  | [] => .ok (s, [])
  | b :: r =>
    match s.sealCheck slot (s.pair (R.CPH_SEAL_LAST_LO d) (R.CPH_SEAL_LAST_HI d)) g b with
    | .ok body f =>
      match ((s.job 0).setPair (R.CPH_SEAL_LAST_LO d) (R.CPH_SEAL_LAST_HI d) f).sealAll d slot g r with
      | .ok (t, l) => .ok (t, body :: l)
      | .error e => .error e
    | .stale => .error (((s.job 0).inc C.CPH_SEAL_STALE).raiseOnce 0x0D06 0)
    | .fail =>
      .error (((s.job (if s.keyFor slot 5 then 1 else s.keyStatus slot)).inc C.CPH_SEAL_FAIL).raiseOnce 0x0D06 0)

/-- A refused item (R492). Conventions: log entry 42 (DEDUCED). -/
def State.destDrop (s : State) (d : Nat) : State := (s.inc (C.GLV_D_DEST_DROP d)).raiseOnce 0x0C03 0

/-- An item's element is offered to its destination (R492). Conventions: log entry 42 (DEDUCED). -/
def State.deliverItem (s : State) (d : Nat) (g : Glove) (f : Option CanFrame) (b : List Byte) : State :=
  let w := s.decW d 1
  let r : State × Bool :=
    match f with
    | some f =>
      if w.testBit 4 ∨ bits w 5 2 = 3 then (s, false)
      else s.fqOffer (bits w 0 4) (bits w 5 2) 1 (frameElem f false 0 g.seq 0 0)
    | none => if w.testBit 4 then s.serOffer (bits w 0 3) (serElem b false false false 0 0) else (s, false)
  if r.2 then r.1.inc (C.GLV_D_ITEMS d) else r.1.destDrop d

/-- One item of a glove frame (R491). -/
def State.gloveBody (s : State) (d : Nat) (g : Glove) (b : List Byte) : State :=
  if b = [] then s.inc (C.GLV_D_ITEM_ZERO d)
  else if g.subtype = 2 then s.deliverItem d g none b
  else
    let f := bodyFrame b
    if b.length < 16 ∨ b.length ≠ 16 + dataLen f.fdf f.xlf f.rtr f.dlc.toNat then s.inc (C.GLV_D_ITEM_BAD d)
    else s.deliverItem d g (some f) []

/-- The classical or FD code of a data length. -/
def codeOf (fdf : Bool) (n : Nat) : Option Nat :=
  if n ≤ 8 then some n
  else if fdf then ([9, 10, 11, 12, 13, 14, 15] : List Nat).find? (fun c => canLen true false c == n)
  else none

/-- The messages of an NTSCF frame in order (R487, R491). Conventions: log entry 38 (PRESUMED). -/
def State.acfMessages (s : State) (d : Nat) (g : Glove) : Nat → List Byte → State
  | 0, _ => s
  | k + 1, b =>
    if b.length < 2 then (if b = [] then s else s.inc (C.GLV_D_ITEM_BAD d))
    else
      let len := fld b 0 2 % 512 * 4
      if len = 0 then s.inc (C.GLV_D_ITEM_ZERO d)
      else if b.length < len then s.inc (C.GLV_D_ITEM_BAD d)
      else
        let m := b.take len
        let h := fld m 2 2
        let n := len - 16 - h / 2 ^ 14
        let fdf := h.testBit 9
        let s :=
          if fld m 0 2 / 512 ≠ 1 ∨ len < 16 ∨ len < 16 + h / 2 ^ 14 then s.inc (C.GLV_D_ITEM_BAD d)
          else
            match codeOf fdf n with
            | none => s.inc (C.GLV_D_ITEM_BAD d)
            | some c =>
              let ide := h.testBit 11
              let f : CanFrame :=
                { ident := BitVec.ofNat 29 (fld m 12 4), ide := ide, fdf := fdf, xlf := false, brs := h.testBit 10,
                  esi := h.testBit 8, rtr := h.testBit 12, rrs := false, sec := false, dlc := BitVec.ofNat 11 c, sdt := 0, af := 0,
                  vcid := 0, data := (m.drop 16).take n }
              s.deliverItem d g (some f) []
        s.acfMessages d g k (b.drop len)

/-- The sequence check of an entry (R490): the frame goes on, or it is stale. -/
def State.seqCheck (s : State) (d : Nat) (g : Glove) : State × Bool :=
  let w := if g.ntscf then 8 else 16
  let last := s.rd (F.GLV_DSTATE_LAST_SEQ d)
  let accept (s : State) : State :=
    let s := (s.wr (F.GLV_DSTATE_LAST_SEQ d) g.seq).wr (F.GLV_DSTATE_SYNCED d) 1
    s.setGlv { s.glv with tLast := sput 0 d s.lcMs s.glv.tLast }
  if ¬ s.on (F.GLV_DSTATE_SYNCED d) ∨ g.restart then
    (accept (if g.restart then s.inc (C.GLV_D_RESTARTS d) else s), true)
  else
    let delta := sgn w (g.seq + 2 ^ w - last % 2 ^ w)
    if delta ≤ 0 then (s.inc (C.GLV_D_STALE d), false)
    else if 1 < delta then (accept ((s.add (C.GLV_D_LOST d) (delta - 1).toNat).raiseOnce 0x0C01 0), true)
    else (accept s, true)

/-- The items of a frame that has passed its sequence check are delivered (R491). -/
def State.deliverAll (s : State) (d : Nat) (g : Glove) (items : List (List Byte)) (cut : Bool) : State :=
  let s := s.inc (C.GLV_D_FRAMES d)
  if g.ntscf then (if g.rest = [] then s.inc C.GLV_KEEPALIVES else s.acfMessages d g 1024 g.rest)
  else if g.count = 0 then s.inc C.GLV_KEEPALIVES
  else
    let s := items.foldl (fun s b => s.gloveBody d g b) s
    if cut then s.inc (C.GLV_D_ITEM_BAD d) else s

/-- A matched frame: seals, sequence, items (R489 to R491). -/
def State.decapsulateAt (s : State) (d h : Nat) (g : Glove) : State :=
  let items := gloveItems g.count g.rest
  if s.scf h 6 12 2 = 2 then
    if ¬ g.isSealed then ((s.inc (C.SCT_C_AUTH_FAIL h)).inc C.CPH_SEAL_FAIL).raiseOnce 0x0D06 0
    else
      match s.sealAll d (s.scf h 6 16 8) g items.1 with
      | .error s' => s'.inc (C.SCT_C_AUTH_FAIL h)
      | .ok (s, bodies) =>
        let q := s.seqCheck d g
        if q.2 then q.1.deliverAll d g bodies items.2 else q.1
  else
    let q := s.seqCheck d g
    if q.2 then q.1.deliverAll d g items.1 items.2 else q.1

/-- The next frame that has left through P26 (R488); one whose seals are to be checked waits for its turn in the cipher engine
(R498). -/
def State.decapsulate (s : State) : State :=
  match s.out26 with
  | [] => s
  | pk :: r =>
    if s.queueReady 24 ∧ ¬ s.isDue 24 then s
    else
      let s := if s.queueReady 24 then s.served 24 else s
      let s := { s with out26 := r }
      match parseGlove pk.data with
      | none => (s.inc C.GLV_FORMAT_ERR).raiseOnce 0x0C02 0
      | some g =>
        match pk.sc with
        | none => s.inc C.GLV_NO_DECAP
        | some h =>
          match (List.range 64).find? (fun d =>
              let w := s.decW d 0
              w.testBit 31 && decide (bits w 0 9 = h) && w.testBit 21 == g.ntscf && (g.ntscf || decide (bits w 16 5 = g.chan))) with
          | none => s.inc C.GLV_NO_DECAP
          | some d => s.decapsulateAt d h g

/-- RESYNC_MS without a frame clears the synchronisation of an entry (R490). -/
def State.resync (s : State) (d : Nat) : State :=
  let ms := bits (s.decW d 2) 0 16
  if ms ≠ 0 ∧ s.on (F.GLV_DSTATE_SYNCED d) ∧ sget 0 s.glv.tLast d + ms ≤ s.lcMs then s.wr (F.GLV_DSTATE_SYNCED d) 0 else s

end Sys2Proof.Machine
end

