-- ==== Sys2Proof/Machine/Time.lean ====
section
/-! DEFINITION. Network time (03): the working-time state machine, the domain clocks, snapshots, pulse outputs, capture inputs and
the media clock. -/

namespace Sys2Proof.Machine

-- pulse outputs (R124 to R129)

def State.pulse (s : State) (n : Nat) : Pls := sget pls0 s.pls n
def State.setPulse (s : State) (n : Nat) (p : Pls) : State := { s with pls := sput pls0 n p s.pls }

/-- MODE of an output in force; 3 is reserved and acts as off. Conventions: log entry 27 (DESIGN CHOICE). -/
def plsMode (p : Pls) : Nat := bits p.ctrl 0 2
def plsClock (p : Pls) : Nat := bits p.ctrl 2 2
def plsDiv (p : Pls) : Nat := bits p.ctrl 16 16

/-- WIDTH as R127 bounds it, in ns; 0 holds the output inactive. -/
def plsWidth (p : Pls) : Nat :=
  if plsMode p = 2 then (if plsDiv p * 20833 ≤ p.width then plsDiv p * 20833 - 4 else p.width)
  else if p.period ≠ 0 ∧ p.period ≤ p.width then p.period - 4
  else p.width

/-- The earliest START + k × PERIOD that lies ahead of an instant (R124); of a single pulse, START when it lies ahead (R127). -/
def plsAhead (p : Pls) (t : Int) : Option Int :=
  if t < p.start then some p.start
  else if p.period = 0 then none
  else some (p.start + ((t - p.start) / (p.period * nsUnit) + 1) * (p.period * nsUnit))

/-- ACTIVE: pulses are scheduled. -/
def plsActive (p : Pls) : Bool :=
  decide (plsWidth p ≠ 0) &&
    (match plsMode p with
     | 1 => p.edge.isSome || p.fall.isSome
     | 2 => decide (plsDiv p ≠ 0)
     | _ => false)

/-- An output with its ACTIVE bit brought up to date. -/
def State.putPulse (s : State) (n : Nat) (p : Pls) : State := (s.setPulse n p).wr (F.TSU_PLS_CTRL_ACTIVE n) (b2n (plsActive p))

/-- The settings of the registers come into force, with no edge scheduled: what START, PERIOD and WIDTH hold at that moment (R128).
Conventions: log entries 27 (DESIGN CHOICE), 59 (DESIGN CHOICE). -/
def State.takeSettings (s : State) (n : Nat) (p : Pls) : Pls :=
  { p with ctrl := s.regN (R.TSU_PLS_CTRL n), period := s.regN (R.TSU_PLS_PERIOD n), width := s.regN (R.TSU_PLS_WIDTH n),
           start := ((s.regN (R.TSU_PLS_START_NS n) +
             (s.rd (F.TSU_PLS_START_S_HI_START n) * 2 ^ 32 + s.regN (R.TSU_PLS_START_S_LO n)) * 1000000000 : Nat) : Int) * nsUnit,
           reload := false, made := none }

/-- An output that has taken settings with its first edge by R124. Conventions: log entry 27 (DESIGN CHOICE). -/
def State.schedule (s : State) (p : Pls) : Pls :=
  { p with edge := if plsMode p = 1 ∧ plsWidth p ≠ 0 then plsAhead p (s.clockOf (plsClock p)) else none }

/-- A write to TSU_PLSn_CTRL: applied at once when idle, else at the next edge (R128). Conventions: log entry 27 (DESIGN CHOICE). -/
def State.plsCtrlWrite (s : State) (n value : Nat) : State :=
  let s := s.writeFields (R.TSU_PLS_CTRL n) value
  let p := s.pulse n
  if ¬ plsActive p ∧ ¬ p.high then s.putPulse n (s.schedule (s.takeSettings n p)) else s.putPulse n { p with reload := true }

/-- Whether an output is held inactive: TIME mode on WT in FREE (R93). Conventions: log entry 27 (DESIGN CHOICE). -/
def State.plsHeld (s : State) (p : Pls) : Bool := decide (plsMode p = 1) && decide (plsClock p = 0) && s.wtState == 0

/-- A pulse starts at an instant of the clock of its output: WIDTH later it ends. MEDIA pulses run on WT. -/
def plsRise (p : Pls) (t : Int) : Pls := { p with high := true, fall := some (t + plsWidth p * nsUnit), made := some t }

/-- An active edge of TIME mode (R124), with settings that waited for it (R128): where they name another clock, the edge is made at
the instant that clock shows. Conventions: log entry 27 (DESIGN CHOICE). -/
def State.plsEdge (s : State) (n : Nat) (p : Pls) (t : Int) : State :=
  let q := if p.reload then s.takeSettings n p else p
  let t := if plsClock q = plsClock p then t else s.clockOf (plsClock q)
  if plsMode q ≠ 1 ∨ plsWidth q = 0 then s.putPulse n (s.schedule { q with high := false, fall := none })
  else
    let q := { q with edge := plsAhead q t }
    s.putPulse n (if s.plsHeld q then q else plsRise q t)

/-- The end of a pulse; settings that waited come into force (R128). -/
def State.plsFall (s : State) (n : Nat) (p : Pls) : State :=
  let p := { p with high := false, fall := none }
  s.putPulse n (if p.reload then s.schedule (s.takeSettings n p) else p)

/-- The clock on which the schedule of an output runs. -/
def State.plsNow (s : State) (p : Pls) : Int := if plsMode p = 2 then s.clk.wt else s.clockOf (plsClock p)

/-- An output reaches a scheduled edge: an active edge, or the end of the pulse. -/
def State.pulseEdge (s : State) (n : Nat) : State :=
  let p := s.pulse n
  let now := s.plsNow p
  if s.flt.silent then s
  else
    match p.edge, p.fall with
    | some e, some f =>
      if e ≤ now ∧ e ≤ f then s.plsEdge n p e else if f ≤ now then s.plsFall n p else s
    | some e, none => if e ≤ now then s.plsEdge n p e else s
    | none, some f => if f ≤ now then s.plsFall n p else s
    | none, none => s

/-- An active edge of MEDIA mode at a strobe whose ESI is a multiple of MEDIA_DIV (R125). Conventions: log entry 27 (DESIGN CHOICE). -/
def State.plsStrobe (s : State) (k n : Nat) : State :=
  let p := s.pulse n
  if plsMode p ≠ 2 ∨ plsDiv p = 0 ∨ k % plsDiv p ≠ 0 then s
  else
    let q := if p.reload then s.takeSettings n p else p
    if plsMode q ≠ 2 ∨ plsDiv q = 0 then s.putPulse n (s.schedule { q with high := false, fall := none })
    else s.putPulse n (if plsWidth q = 0 then q else plsRise q s.clk.wt)

def State.plsStrobes (s : State) (k : Nat) : State :=
  if s.flt.silent then s else (List.range 8).foldl (fun s n => s.plsStrobe k n) s

/-- The clock of an output steps by `d`: its schedule is recomputed from START, edges already made are not made again, and the
pulse that runs keeps its WIDTH (R129); a single pulse that was passed over and whose START lies ahead again is scheduled again.
Conventions: log entry 59 (DESIGN CHOICE). -/
def State.plsStep (s : State) (n : Nat) (d : Int) : State :=
  let p := s.pulse n
  if plsMode p = 1 then
    let now := s.clockOf (plsClock p)
    let from_ := match p.made with
      | some m => max now m
      | none => now
    s.putPulse n { p with edge := if plsWidth p = 0 then none else plsAhead p from_, fall := p.fall.map (· + d) }
  else s.putPulse n { p with fall := p.fall.map (· + d) }

/-- Every output whose clock is `c` after a step of it by `d`; MEDIA pulses run on WT. -/
def State.pulsesStepped (s : State) (c : Nat) (d : Int) : State :=
  (List.range 8).foldl (fun s n =>
    let p := s.pulse n
    if (plsMode p = 2 ∧ c = 0) ∨ (plsMode p ≠ 2 ∧ plsClock p = c) then s.plsStep n d else s) s

-- capture inputs (R130, R131)

/-- An edge that the glitch filter has seen hold for `heldNs`; `phase` is its place in the TIME cycle in ns.
Conventions: log entry 27 (DESIGN CHOICE). -/
def State.captureEdge (s : State) (n : Nat) (rising : Bool) (heldNs phase : Nat) : State :=
  let sel := s.rd (F.TSU_CAP_CTRL_EDGE n)
  let f := s.rd (F.TSU_CAP_CTRL_FILTER n) * 4
  if ¬ s.clk.on ∨ ¬ sel.testBit (if rising then 0 else 1) ∨ heldNs < f then s
  else
    let back : Int := ((phase : Int) - f) * nsUnit
    let wt := s.clk.wt + back
    let lc := s.clk.lc + back
    let r := hqPush 8 (sget hq0 s.cap n)
      [BitVec.ofNat 32 (b2n rising * 4), BitVec.ofNat 32 (subNs wt), BitVec.ofNat 32 (secOf wt), BitVec.ofNat 32 (subNs lc)]
    let s := { s with cap := sput hq0 n r.1 s.cap }
    let s := if r.2.1 then s.inc (R.TSU_CAP_LOST n) else s
    if r.2.2 then s.raiseLost else s

-- working time (R86 to R90)

/-- The domain that WT follows or converges on. -/
def State.setSrc (s : State) (n : Nat) : State := (s.wr F.TSU_CTRL_WT_SRC n).wr F.TSU_WT_STATUS_SRC n

/-- WT − DC of a domain. -/
def State.residual (s : State) (n : Nat) : Int := s.clk.wt - s.dc n

def State.setSlew (s : State) (off : Int) : State := { s with clk := { s.clk with slewOff := off, slewAt := s.clk.now } }

/-- The synthesiser re-phases: the next strobe is the first at least 100 µs ahead, and AUD receives the discontinuity (R135).
Conventions: log entry 28 (DEDUCED). -/
def State.rephase (s : State) : State :=
  let k := firstStrobe s.clk.wt
  ({ s with clk := { s.clk with nextK := k } }).audDiscontinuity k

/-- What a WT step by more than 1 ns brings (R86): the event, the ESI, the gate lists, the pulses and the trellis; a trim sample
under way is dropped. -/
def State.wtStepped (s : State) (d : Int) : State :=
  let s := s.raise 0x0304 0
  let s := { s with cnt := { s.cnt with run := s.cnt.run.map (fun (r : Sweep) => { r with stepped := true }) } }
  let s := s.rephase.relocateLists
  let s := (s.pulsesStepped 0 d).trellisStep
  { s with mac := s.mac.map (fun e => (e.1, { e.2 with tx := e.2.tx.map (fun t => { t with trim := none }) })) }

/-- WT takes a value: a move of at most 1 ns passes without a step (R86). -/
def State.moveWt (s : State) (v : Int) : State :=
  let d := v - s.clk.wt
  let s := s.setWt v
  if nsUnit < d.natAbs then s.wtStepped d else s

/-- WT locks on domain `n` by a step (Table 3-2). -/
def State.lockOn (s : State) (n : Nat) : State := (((s.setSrc n).setWtState 1).setSlew 0).moveWt (s.dc n)

/-- A hand-over towards domain `n` starts or turns; the slew offset continues (R87, R89). Conventions: log entry 26 (DEDUCED). -/
def State.startHandover (s : State) (n : Nat) : State :=
  (((s.setSrc n).setWtState 2).setSlew s.clk.slewOff).raise 0x0301 0

/-- HOLDOVER at a frozen rate, without the slew offset (Table 3-2). Conventions: log entry 26 (DEDUCED). -/
def State.enterHoldover (s : State) (rate : Int) : State :=
  let s := (s.setWtState 3).setSlew 0
  ({ s with clk := { s.clk with holdRate := rate } }).raise 0x0303 0

/-- The hand-over to `n` can proceed (R87). -/
def State.canFollow (s : State) (n : Nat) : Bool := s.usable n && s.within n

/-- HOLDOVER ends when the WT_SRC domain, or with AUTO_HANDOVER the other, qualifies (Table 3-2).
Conventions: log entry 26 (DEDUCED). -/
def State.holdoverCheck (s : State) : State :=
  if s.wtState ≠ 3 then s
  else
    let n := s.wtSrc
    if s.canFollow n then s.startHandover n
    else if s.autoHandover && s.canFollow (1 - n) then s.startHandover (1 - n)
    else s

/-- The source or target has become unfit: a hand-over to the other domain, or HOLDOVER at `rate` (Table 3-2). -/
def State.sourceUnfit (s : State) (rate : Int) : State :=
  let o := 1 - s.wtSrc
  if s.autoHandover && s.canFollow o then s.startHandover o else s.enterHoldover rate

/-- The reports of WT of the two units disagree (R95). -/
def State.wtMismatch (s : State) : Bool :=
  match s.qlb.hb with
  | none => false
  | some h =>
    let own := s.wtState
    (decide (own ≠ 0) && decide (h.wtState ≠ 0) && decide (b2n h.wtSrc ≠ s.wtSrc)) ||
      ((h.wtState == 3 || h.wtState == 0) && (own == 1 || own == 2))

/-- Since when the reports mismatch; agreement clears PARTNER_MISMATCH (R95, R96). Conventions: log entry 26 (DEDUCED). -/
def State.noteMismatch (s : State) : State :=
  if s.wtMismatch then
    { s with clk := { s.clk with mismatchAt := match s.clk.mismatchAt with | some t => some t | none => some s.clk.now } }
  else
    let s := { s with clk := { s.clk with mismatchAt := none } }
    if s.qlb.hb.isSome then s.wr F.TSU_WT_STATUS_PARTNER_MISMATCH 0 else s

/-- A mismatch held for more than PAIR_GRACE ms (R95). -/
def State.pairWtMismatch (s : State) : State :=
  let s := s.noteMismatch
  let g := s.rd F.TSU_CTRL_PAIR_GRACE
  match s.clk.mismatchAt with
  | none => s
  | some t =>
    if g = 0 ∨ s.clk.now ≤ t + g * 1000000 ∨ s.on F.TSU_WT_STATUS_PARTNER_MISMATCH then s
    else (s.wr F.TSU_WT_STATUS_PARTNER_MISMATCH 1).raise 0x0307 0

/-- USABLE of domain `n` falls: what WT does (Table 3-2). -/
def State.usableCleared (s : State) (n : Nat) : State :=
  if (s.wtState = 1 ∨ s.wtState = 2) ∧ s.wtSrc = n then (s.sourceUnfit (s.dcGain n)).noteMismatch else s

/-- Firmware sets USABLE of domain `n` (R84, Table 3-2, R88). -/
def State.usableSet (s : State) (n : Nat) : State :=
  if s.usable n then s
  else
    let s := s.wr (F.TSU_DC_CTRL_USABLE n) 1
    let s := if n = 0 then { s with clk := { s.clk with usableAt0 := s.clk.now } }
      else { s with clk := { s.clk with usableAt1 := s.clk.now } }
    let cand := decide (s.wtSrc = n) || s.autoHandover
    let s :=
      match s.wtState with
      | 0 => if cand then s.lockOn n else s
      | 3 => if ¬ cand then s else if s.within n then s.holdoverCheck else s.raise 0x0309 0
      | _ => s
    s.noteMismatch

/-- A write to USABLE by any path. -/
def State.usableWrite (s : State) (n : Nat) (v : Bool) : State :=
  if v then s.usableSet n
  else if s.usable n then (s.wr (F.TSU_DC_CTRL_USABLE n) 0).usableCleared n
  else s

/-- No Sync of the domain for SYNC_TIMEOUT ms (R84, R85). Conventions: log entry 26 (DEDUCED). -/
def State.domainLost (s : State) (n : Nat) : State :=
  let t := s.rd (F.TSU_DC_CTRL_SYNC_TIMEOUT n)
  let set := if n = 0 then s.clk.usableAt0 else s.clk.usableAt1
  let at_ := max set (match s.lastSync n with | some x => x | none => 0)
  if ¬ s.usable n ∨ t = 0 ∨ s.clk.now < at_ + t * 1000000 then s
  else ((s.wr (F.TSU_DC_CTRL_USABLE n) 0).raise 0x0305 n).usableCleared n

/-- The signed amount that a write to STEP_NS adds: STEP_S, STEP_NS and STEP_FRAC (R82). -/
def State.stepAmount (s : State) (n ns : Nat) : Int :=
  (sgn 32 (s.regN (R.TSU_DC_STEP_S n)) * 1000000000 + sgn 32 ns) * nsUnit +
    ((s.rd (F.TSU_DC_STEP_FRAC_FRAC n) : Nat) : Int) * 2 ^ 23

/-- DCn steps, and WT reacts by Table 3-2. -/
def State.dcStep (s : State) (n ns : Nat) : State :=
  if ¬ s.clk.on then s
  else
    let d := s.stepAmount n ns
    let s := s.setRegN (R.TSU_DC_STEP_S n) 0
    let s := (s.setDc n (s.dc n + d)).pulsesStepped (2 + n) d
    let s :=
      match s.wtState with
      | 1 =>
        if s.wtSrc ≠ n then s
        else if d.natAbs ≤ nsUnit then s.setWt (s.clk.wt + d)
        else if s.within n then s.startHandover n
        else s.sourceUnfit (s.dcGain n)
      | 2 => if s.wtSrc = n ∧ ¬ s.within n then s.enterHoldover (s.dcGain n) else s
      | 3 => s.holdoverCheck
      | _ => s
    s.noteMismatch

/-- RATE of DCn from the next TIME cycle on (R82). -/
def State.dcRateWrite (s : State) (n value : Nat) : State := s.setRegN (R.TSU_DC_RATE n) value

/-- FORCE_STEP (R86, Table 3-2): ignored while DC[WT_SRC] is not usable. Conventions: log entry 26 (DEDUCED). -/
def State.forceStep (s : State) : State :=
  if s.usable s.wtSrc then (s.lockOn s.wtSrc).noteMismatch else s

/-- LOAD_WT, in FREE alone (R760). Conventions: log entry 26 (DEDUCED). -/
def State.loadWt (s : State) : State :=
  if s.wtState ≠ 0 ∨ ¬ s.clk.on then s
  else
    let sec := s.rd F.TSU_WT_LOAD_S_HI_S_HI * 2 ^ 32 + s.regN R.TSU_WT_LOAD_S_LO
    s.moveWt (((sec * 1000000000 + s.regN R.TSU_WT_LOAD_NS : Nat) : Int) * nsUnit)

/-- Firmware names a domain (Table 3-2, R88). Conventions: log entry 26 (DEDUCED). -/
def State.wtSrcWrite (s : State) (n : Nat) : State :=
  let s :=
    if s.wtState = 0 then (if s.usable n then s.lockOn n else s.setSrc n)
    else if n = s.wtSrc then s
    else if s.canFollow n then s.startHandover n
    else s.raise 0x0309 0
  s.noteMismatch

/-- The update of the slew offset every microsecond (R89, R90). Conventions: log entries 11 (DESIGN CHOICE), 26 (DEDUCED). -/
def State.slewUpdate (s : State) : State :=
  if s.wtState ≠ 2 ∨ s.clk.now < s.clk.slewAt + 1000 then s
  else
    let n := s.wtSrc
    let rem := s.residual n
    let ramp := s.rd F.TSU_WT_SLEW_RAMP
    let most : Int := max 100 (s.rd F.TSU_WT_SLEW_MAX) * 1000
    let off := s.clk.slewOff
    let want : Int :=
      if (off * off * 2 ^ 39 : Int) < (rem.natAbs : Int) * 2 * ramp * 1000000000 ∨ (ramp = 0 ∧ rem ≠ 0) then
        (if 0 < rem then -most else most)
      else 0
    let off := if ramp = 0 then want else off + clampI (-(ramp : Int)) ramp (want - off)
    if rem.natAbs ≤ nsUnit then ((((s.setWt (s.dc n)).setSlew 0).setWtState 1).raise 0x0302 0).noteMismatch
    else s.setSlew off

/-- SNAP (R115, R116). -/
def State.snapClock (s : State) (base : Nat) (v : Int) : State :=
  ((s.setRegN base (subNs v)).setRegN (base + 4) (secOf v % 2 ^ 32)).setRegN (base + 8) (secOf v / 2 ^ 32 % 65536)

def State.snap (s : State) : State :=
  let s := (s.snapClock R.TSU_SNAP_LC_NS s.clk.lc).snapClock R.TSU_SNAP_DC0_NS s.clk.dc0
  let s := (s.snapClock R.TSU_SNAP_DC1_NS s.clk.dc1).snapClock R.TSU_SNAP_WT_NS s.clk.wt
  let s := s.setPair R.TSU_SNAP_ESI_LO R.TSU_SNAP_ESI_HI s.clk.esi
  s.setRegN R.TSU_SNAP_STATE (2 ^ 31 + s.wtSrc * 16 + s.wtState)

-- the media clock (R132 to R136)

/-- MEDIA_LOCK by the errors of the strobes (R136); the Boolean says that the synthesiser re-phases.
Conventions: log entry 28 (DEDUCED). -/
def State.mediaLock (s : State) (errNs : Int) : State × Bool :=
  let bad := if 50 < errNs.natAbs then s.clk.strobeBad + 1 else 0
  let good := if errNs.natAbs ≤ 10 then s.clk.strobeGood + 1 else 0
  let s := { s with clk := { s.clk with strobeBad := if bad = 48 then 0 else bad, strobeGood := min good 48 } }
  if bad = 48 then ((s.wr F.TSU_WT_STATUS_MEDIA_LOCK 0).raise 0x0308 0, true)
  else (if good = 48 then s.wr F.TSU_WT_STATUS_MEDIA_LOCK 1 else s, false)

/-- WT has reached the next strobe, which lies `errNs` from the instant of its index (R132, R135, R761).
Conventions: log entry 28 (DEDUCED). -/
def State.strobeDue (s : State) (errNs : Int) : Bool := decide (strobeInstant s.clk.nextK + errNs * nsUnit ≤ s.clk.wt)

/-- A sample strobe, `errNs` from its instant: the ESI advances, and AUD, the TDM ports and the MEDIA pulses act (R132, R133). A strobe
whose instant WT has not reached is none. Conventions: log entry 28 (DEDUCED). -/
def State.sampleStrobe (s : State) (errNs : Int) (tin line : List (List Word)) : State :=
  if ¬ s.clk.on ∨ ¬ s.strobeDue errNs then s
  else
    let k := s.clk.nextK
    let prev := if s.clk.esi = 0 then none else some s.clk.esi
    let s := { s with clk := { s.clk with esi := k, nextK := k + 1 } }
    let s := s.wr F.TSU_MEDIA_STATUS_PHASE_ERR (unsgn 16 errNs)
    let r := s.mediaLock errNs
    let s := r.1.plsStrobes k
    let s := if s.flt.silent then s else s.audStrobe k prev tin line
    if r.2 then s.rephase else s

end Sys2Proof.Machine
end

