-- ==== Sys2Proof/Machine/Pair.lean ====
section
/-! DEFINITION. The pair: roles and duty, the Quosor link's establishment and loss, heartbeats, mirroring, restart requests and the
controlled hand-over (13, R542 to R568, R582 to R588; 12, R539 to R541). -/

namespace Sys2Proof.Machine

-- times of Table 13-10 in ns, with what a 0 acts as

def State.linkTimeout (s : State) : Nat :=
  let v := s.rd F.QLB_TIMING_LINK_TIMEOUT
  (if v = 0 then 100 else v) * 1000

def State.probeWait (s : State) : Nat :=
  let v := s.rd F.QLB_PROBE_PROBE_WAIT
  (if v = 0 then 200 else v) * 1000

def State.formWaitNs (s : State) : Nat := max 1 (s.rd F.QLB_CTRL_FORM_WAIT) * 1000000

def State.forming (s : State) : Bool := s.on F.QLB_STATUS_FORMING

/-- The partner MAC is known and a keep-alive or heartbeat of it came within PROBE_WAIT (QLB_STATUS.PARTNER_PRESENT). -/
def State.partnerPresent (s : State) : Bool :=
  let recent (t : Option Nat) : Bool := match t with | some t => decide (s.clk.now ≤ t + s.probeWait) | none => false
  recent s.qlb.hbAt || recent s.qlb.kaAt

-- roles (R543 to R546)

/-- ROLE and DUTY take values; a change is an event, and what duty drives follows (R543, R546, R584, R588). -/
def State.setRole (s : State) (role : Nat) (duty : Bool) : State :=
  if role = s.role ∧ duty = s.duty then s
  else
    let changed := duty != s.duty
    let s := ((s.wr F.QLB_STATUS_ROLE role).wr F.QLB_STATUS_DUTY (b2n duty)).raiseMust 0x0E05 0 0 0 0
    if changed then
      let s := if duty then s.wr F.QLB_TDM_TAKEN 0 else s
      s.canDuty.serDuty.glvRefresh.setCoord
    else s

/-- Mirroring ends. -/
def State.stopMirror (s : State) : State := (s.wr F.QLB_STATUS_MIRRORING 0).setQlb { (s.wr F.QLB_STATUS_MIRRORING 0).qlb with mirrorSync := false }

/-- The partner's vintage agrees, by its last heartbeat (R562). -/
def State.hbAgrees (s : State) (h : Heartbeat) : Bool := s.agrees h.number.toNat h.fingerprint.toNat

/-- Mirroring may run, but for the sync (R566). -/
def State.mayMirror (s : State) : Bool :=
  s.linkIsUp && s.forwarding && !s.forming && match s.qlb.hb with | some h => !h.forming && s.hbAgrees h | none => false

/-- The unit with duty sends its feed elements, the AUD_SYNC set and the queued changes, and mirroring begins (R567). -/
def State.startMirror (s : State) : State :=
  let s := s.canSyncElems.foldl (fun s e => s.linkSend 3 (.canAppend e.1 e.2.1 e.2.2)) s
  let s := s.serSyncElems.foldl (fun s e => s.linkSend 3 (.serAppend e.1 e.2)) s
  let s := s.linkSend 3 (.audSync s.makeSync)
  let s := s.syncChanges.foldl (fun s c => s.linkSend 3 (.audChange c)) s
  s.wr F.QLB_STATUS_MIRRORING 1

/-- The unit without duty discards its own elements and changes before a sync (R567). -/
def State.clearForSync (s : State) : State :=
  if s.qlb.mirrorSync then s
  else
    let s := s.canSyncClear.serSyncClear
    let s := s.setAud { s.aud with queue := [] }
    s.setQlb { s.qlb with mirrorSync := true }

/-- A mirror sync is due (R566, R567). -/
def State.syncMirror (s : State) : State :=
  if ¬ s.mayMirror then (if s.mirroring then s.stopMirror else s)
  else if s.mirroring then s
  else
    match s.qlb.hb with
    | some h => if s.duty then (if h.duty then s else s.startMirror) else (if h.duty then s.clearForSync else s)
    | none => s

/-- Duty is taken on partner loss, with the leases (R584, R585, R533). Conventions: log entry 48 (DEDUCED). -/
def State.takeOver (s : State) : State := ((s.setRole 2 true).setHome true).leaseAlone

-- link frames on the lanes (Table 13-2, R540, R551)

/-- The header of a link frame: channel, ACK, LENGTH, SEQ, the credits it returns and FCOUNT (Table 13-2). -/
def linkHeader (vc len seq ack count : Nat) (ackValid : Bool) (credits : List Byte) : List Byte :=
  [BitVec.ofNat 8 (vc * 16 + 1), BitVec.ofNat 8 (b2n ackValid)] ++ beBytes 2 len ++ beBytes 2 seq ++ beBytes 2 ack ++
    (credits ++ zeros 3).take 3 ++ [0] ++ beBytes 4 count

/-- The IV of a direction's frame with a count (R540). -/
def linkIv (unitB : Bool) (count : Nat) : List Byte := beBytes 4 (if unitB then 0x0B else 0x0A) ++ beBytes 8 count

/-- FCOUNT extended to 64 bits: the least value above the count last accepted with these low 32 bits (R551). -/
def extendCount (last : Option Nat) (low : Nat) : Nat :=
  match last with
  | none => low
  | some l => let v := l / 2 ^ 32 * 2 ^ 32 + low; if l < v then v else v + 2 ^ 32

/-- A link frame with its check: the header covered and the payload encrypted under the session key, or both under a CRC-32
(Table 13-2, R540, R551). -/
def linkFrame (key : Option (List Byte)) (unitB : Bool) (count : Nat) (header payload : List Byte) : List Byte :=
  match key with
  | some k => let r := gcmEncrypt k (linkIv unitB count) header payload; header ++ r.1 ++ r.2
  | none => header ++ payload ++ beBytes 4 (crc32 (header ++ payload))

/-- A frame of VC4 leaves: its octets, and the count of frames of this direction, which protected frames alone advance. -/
def State.sendVc4 (s : State) (isProtected : Bool) (payload : List Byte) : State :=
  let q := s.qlb
  let key := if isProtected then q.key else none
  let h := linkHeader 4 payload.length 0 ((q.rxSeq + 65535) % 65536) (q.txCount % 2 ^ 32) s.linkIsUp []
  let s := s.setQlb { q with wire := linkFrame key s.unitB q.txCount h payload,
                             txCount := if isProtected then q.txCount + 1 else q.txCount }
  (if isProtected then s.linkJob else s).inc C.QLB_LF_TX

-- link establishment (Table 13-4, R539 to R541)

/-- The epochs of unit A and unit B (R539). -/
def State.epochs (s : State) (own peer : Nat) : List Byte := if s.unitB then beBytes 4 peer ++ beBytes 4 own else beBytes 4 own ++ beBytes 4 peer

/-- Two matching alignment positions: the lanes are aligned, and a new link epoch begins (R549, R539, R541). -/
def State.lanesAligned (s : State) : State :=
  if ¬ s.alive ∨ ¬ s.on F.QLB_CTRL_EN ∨ s.on F.QLB_LANES_ALIGNED then s
  else
    let s := s.setRegN R.QLB_LANES 7
    let s := s.setQlb { s.qlb with peerEpoch := none, key := none, hb := none, hbSent := none, hbTxAt := none, epochAt := none,
                                   goodAt := s.clk.now, txCount := 0, txSeq := 0, rxSeq := 0, held := [] }
    if ¬ s.on F.CPH_QLINK_EN then s
    else if ¬ s.keyFor (s.rd F.CPH_QLINK_SLOT) 6 then s.raise 0x0D08 0
    else
      let n := (s.pers.epoch + 1) % 2 ^ 32
      ({ s with pers := { s.pers with epoch := n } }).setRegN R.CPH_QLINK_EPOCH n

/-- The link may carry protected frames, or is not protected at all (R539 to R541). Conventions: log entry 46 (DEDUCED). -/
def State.linkKeyed (s : State) : Bool := !s.on F.CPH_QLINK_EN || s.qlb.key.isSome

/-- The unit hears frames of VC4. Conventions: log entry 46 (DEDUCED). -/
def State.linkHears (s : State) : Bool := s.alive && s.on F.QLB_CTRL_EN && s.on F.QLB_LANES_ALIGNED

/-- A received EPOCH frame: with both epochs known the session key is derived (R539). -/
def State.epoch (s : State) (value : Nat) : State :=
  if ¬ s.linkHears then s
  else
    let s := (s.inc C.QLB_LF_RX).setQlb { s.qlb with peerEpoch := some value, goodAt := s.clk.now }
    let slot := s.rd F.CPH_QLINK_SLOT
    if ¬ s.on F.CPH_QLINK_EN ∨ s.qlb.key.isSome ∨ ¬ s.keyFor slot 6 then s
    else
      let input := beBytes 4 0x514C4E4B ++ zeros 1 ++ s.epochs s.pers.epoch value
      (s.setQlb { s.qlb with key := some (kdf (s.key slot).bytes input 32), txCount := 0 }).wr F.CPH_QLINK_PROTECTED 1

/-- What is sent every so often is due again. -/
def dueAgain (last : Option Nat) (period now : Nat) : Bool := match last with | some t => decide (t + period ≤ now) | none => true

/-- An EPOCH frame leaves, unprotected, every 2 µs while the link is established (R539, Table 13-4). -/
def State.epochSend (s : State) : State :=
  if s.linkHears ∧ ¬ s.linkIsUp ∧ dueAgain s.qlb.epochAt 2000 s.clk.now then
    (s.setQlb { s.qlb with epochAt := some s.clk.now }).sendVc4 false (beBytes 4 s.pers.epoch)
  else s

/-- A heartbeat has been accepted in each direction: the link is up (R557, R553, R533). Conventions: log entry 46 (DEDUCED). -/
def State.linkComes (s : State) : State :=
  if s.linkIsUp ∨ s.qlb.hb.isNone ∨ s.qlb.hbSent.isNone then s
  else
    let s := (s.wr F.QLB_STATUS_LINK_UP 1).wr F.QLB_STATUS_LINK_ONLY 0
    let s := s.setQlb { s.qlb with credit0 := 64, credit2 := 128, credit3 := 64, txSeq := 0, rxSeq := 0, held := [], waiting := [],
                                   lost := false, downAt := 0, ackAt := s.clk.now, nakAt := none }
    let s := ((s.raise 0x0E01 0).setHome (!s.unitB)).leaseAgain
    (List.range 48).foldl (fun s i => s.linkSend 3 (.lease i (.nextUnleased (s.lease i).unleased))) s

-- heartbeats (R561, Table 13-5)

/-- The payload of a heartbeat (Table 13-5), its vintage by R66. -/
def heartbeatOctets (h : Heartbeat) : List Byte :=
  let state := b2n h.unitB * 128 + b2n h.duty * 64 + b2n h.forming * 32 + b2n h.mirroring * 16 + b2n h.linkOnlySeen * 8 + h.role % 8
  [1, BitVec.ofNat 8 state] ++ vintageField h.number.toNat h.fingerprint.toNat ++ beBytes 1 (b2n h.wtSrc * 128 + h.wtState % 8) ++
    [0] ++ beBytes 6 h.mac.toNat ++ beBytes 8 h.sent.toNat ++ beBytes 1 h.tdmDriven.toNat ++ [h.coord] ++ beBytes 2 h.ack.toNat ++
    beBytes 4 h.faults.toNat ++ beBytes 4 h.hbSeq.toNat

/-- The heartbeat that leaves now. -/
def State.heartbeatNow (s : State) : Heartbeat :=
  { unitB := s.unitB, duty := s.duty, forming := s.forming, mirroring := s.mirroring, linkOnlySeen := s.on F.QLB_STATUS_LINK_ONLY,
    role := s.role, number := BitVec.ofNat 16 (s.rd F.CFG_VINTAGE_NUMBER), fingerprint := BitVec.ofNat 64 (s.pair R.CFG_FP_LO R.CFG_FP_HI),
    wtSrc := s.on F.TSU_WT_STATUS_SRC, wtState := s.wtState,
    mac := BitVec.ofNat 48 s.otp.mac, sent := BitVec.ofNat 64 s.wtTs64,
    tdmDriven := BitVec.ofNat 4 ((List.range 4).foldl (fun m p => m + b2n (s.on (F.AUD_TDM_STATUS_DRIVING p)) * 2 ^ p) 0),
    coord := BitVec.ofNat 8 ((List.range 8).foldl (fun m k => m + b2n (s.on (F.MAC_STATUS_PLCA_COORD (16 + k))) * 2 ^ k) 0),
    ack := BitVec.ofNat 16 (s.qlb.rxSeq + 65535), faults := BitVec.ofNat 32 s.flt.lasting, hbSeq := BitVec.ofNat 32 s.qlb.hbSeq }

/-- HB_PERIOD in ns; 0 acts as 20 µs (R561). -/
def State.hbPeriod (s : State) : Nat :=
  let v := s.rd F.QLB_TIMING_HB_PERIOD
  (if v = 0 then 20 else v) * 1000

/-- A heartbeat leaves every HB_PERIOD (R561, R558). -/
def State.heartbeatTx (s : State) : State :=
  if ¬ s.forwarding ∨ ¬ s.linkHears ∨ ¬ s.linkKeyed ∨ ¬ dueAgain s.qlb.hbTxAt s.hbPeriod s.clk.now then s
  else
    let h := s.heartbeatNow
    let s := s.sendVc4 (s.on F.CPH_QLINK_PROTECTED) (heartbeatOctets h)
    let s := s.setQlb { s.qlb with hbSent := some h, hbTxAt := some s.clk.now, hbSeq := (s.qlb.hbSeq + 1) % 2 ^ 32 }
    s.linkComes

/-- Frames that an ACK covers leave the replay buffer and give their credits back (R553, R554). Conventions: log entry 46 (DEDUCED). -/
def State.acked (s : State) (ack : Nat) : State :=
  let gone := s.qlb.held.filter (fun f => decide ((ack + 65536 - f.seq) % 65536 < 32768))
  if gone = [] then s
  else
    let q := { s.qlb with held := s.qlb.held.filter (fun f => !gone.contains f), ackAt := s.clk.now }
    let q := gone.foldl (fun q f => q.setCredit f.vc (q.credit f.vc + creditsOf f.msg)) q
    (s.setQlb q).drainLink

/-- Both units show duty: unit B releases it (R545). Conventions: log entry 46 (DEDUCED). -/
def State.dutyConflict (s : State) (h : Heartbeat) : State :=
  if s.duty ∧ h.duty ∧ s.unitB then
    ((s.setRole (if s.hbAgrees h then 1 else 3) false).inc C.QLB_DUTY_CONFLICTS).raise 0x0E08 0
  else s

/-- Table 13-1 on a partner heartbeat; a unit whose partner shows another vintage reports DEGRADED from any state and keeps its duty (02,
R74). -/
def State.roleOnHeartbeat (s : State) (h : Heartbeat) : State :=
  let agree := s.hbAgrees h
  match s.role with
  | 0 => if agree then s else s.setRole 3 s.duty
  | 1 =>
    if ¬ s.forming then (if agree then s else s.setRole 3 s.duty)
    else
      let s := s.wr F.QLB_STATUS_FORMING 0
      if agree then (if h.duty ∨ s.unitB then s else s.setRole 0 true)
      else s.setRole 3 (!s.unitB && !h.duty)
  | 2 => s.setRole (if agree then 0 else 3) s.duty
  | 3 => if agree ∧ s.linkIsUp then s.setRole (if s.duty then 0 else 1) s.duty else s
  | _ => s

/-- The partner drives a port that this unit took without duty (R588). -/
def State.takeReverted (s : State) (h : Heartbeat) : State :=
  if ¬ h.duty ∨ s.duty then s
  else (List.range 4).foldl (fun s p =>
    if h.tdmDriven.toNat.testBit p ∧ (s.rd F.QLB_TDM_TAKEN).testBit p then
      (s.wr F.QLB_TDM_TAKEN (s.rd F.QLB_TDM_TAKEN - 2 ^ p)).inc C.QLB_TDM_TAKE_REVERTED
    else s) s

/-- A valid heartbeat of the partner (R561, R562). -/
def State.heartbeat (s : State) (h : Heartbeat) : State :=
  if ¬ s.linkHears ∨ ¬ s.linkKeyed ∨ s.qlb.peerEpoch.isNone then s
  else
    let s := ((s.inc C.QLB_LF_RX).linkJob).inc C.QLB_HB_RX
    let s := s.setQlb { s.qlb with goodAt := s.clk.now, hbAt := some s.clk.now, hb := some h }
    let s := s.setPair R.QLB_PARTNER_MAC_LO R.QLB_PARTNER_MAC_HI h.mac.toNat
    let s := s.wr F.QLB_STATUS_PARTNER_ROLE (b2n h.duty * 8 + h.role)
    let s := (s.censusReport h.mac.toNat h.number.toNat h.fingerprint.toNat true).noteMismatch
    let s := s.linkComes.acked h.ack.toNat
    if ¬ s.forwarding then s
    else (((s.dutyConflict h).roleOnHeartbeat h).takeReverted h).syncMirror

-- retransmission (R554 to R557)

/-- Held frames from one on are sent again, each a job of its own (R540, R551, R556). -/
def State.resend (s : State) (n : Nat) : State :=
  let s := (s.add C.QLB_RETRANSMITS n).add C.QLB_LF_TX n
  let s := if s.on F.CPH_QLINK_PROTECTED then s.add64 C.CPH_JOBS_LO n else s
  s.setQlb { s.qlb with ackAt := s.clk.now, txCount := if s.qlb.key.isSome then s.qlb.txCount + n else s.qlb.txCount }

/-- A NAK names the SEQ from which the partner expects frames (R556). Conventions: log entry 46 (DEDUCED). -/
def State.nak (s : State) (seq : Nat) : State :=
  if ¬ s.linkIsUp then s
  else
    let s := ((s.inc C.QLB_LF_RX).linkJob).setQlb { s.qlb with goodAt := s.clk.now }
    s.resend (s.qlb.held.filter (fun f => decide ((f.seq + 65536 - seq) % 65536 < 32768))).length

/-- ACK has not advanced for 10 µs with frames held (R556). -/
def State.retransmit (s : State) : State :=
  if s.linkIsUp ∧ s.qlb.held ≠ [] ∧ s.qlb.ackAt + 10000 ≤ s.clk.now then s.resend s.qlb.held.length else s

/-- A NAK with the SEQ expected leaves, at most once per 2 µs (R555). -/
def State.sendNak (s : State) : State :=
  if dueAgain s.qlb.nakAt 2000 s.clk.now ∧ s.linkIsUp then
    ((s.setQlb { s.qlb with nakAt := some s.clk.now }).sendVc4 (s.on F.CPH_QLINK_PROTECTED) (beBytes 2 s.qlb.rxSeq)).inc C.QLB_NAKS_SENT
  else s

/-- A link frame is discarded (R541, R555, Tables 13-3 and 13-6). -/
def State.linkFrameDiscarded (s : State) (why : LinkBad) : State :=
  if ¬ s.linkHears then s
  else
    match why with
    | .tag => if s.on F.CPH_QLINK_PROTECTED then (s.inc C.CPH_QLINK_TAG_FAIL).sendNak else s
    | .crc => if s.on F.CPH_QLINK_PROTECTED then s else (s.inc C.QLB_LF_CRC_FAIL).sendNak
    | .seq => (s.setQlb { s.qlb with goodAt := s.clk.now }).sendNak
    | .reserved => (s.inc C.QLB_LF_BAD).setQlb { s.qlb with goodAt := s.clk.now }

-- loss (R559, R563 to R565)

/-- No good frame, or no alignment, for LINK_TIMEOUT, or EN cleared: the link goes down (R559). Conventions: log entry 46 (DEDUCED). -/
def State.quosorLinkDown (s : State) : State :=
  if ¬ s.on F.QLB_LANES_ALIGNED ∨ (s.on F.QLB_CTRL_EN ∧ s.clk.now < s.qlb.goodAt + s.linkTimeout) then s
  else
    let was := s.linkIsUp
    let s := ((s.setRegN R.QLB_LANES 0).wr F.QLB_STATUS_LINK_UP 0).wr F.CPH_QLINK_PROTECTED 0
    let s := s.setQlb { s.qlb with held := [], waiting := [], key := none, peerEpoch := none, hb := none, hbSent := none }
    if ¬ was then s
    else
      let s := s.setQlb { s.qlb with downAt := max 1 s.clk.now, probeAt := s.clk.now, handover := none }
      let s := (s.stopMirror.bridgeDown.inc C.QLB_LINK_DOWNS).raise 0x0E02 0
      s.detect 11 0

/-- A pair probe on each of PROBE_PORTS every 50 µs from link-down on (R563). Conventions: log entry 46 (DEDUCED). -/
def State.pairProbe (s : State) : State :=
  let ports := s.rd F.QLB_PROBE_PROBE_PORTS
  if ¬ s.forwarding ∨ s.linkIsUp ∨ s.qlb.downAt = 0 ∨ ports = 0 ∨ s.clk.now < s.qlb.probeAt then s
  else ((s.sendKa true 0 ports).inc C.QLB_PROBES_SENT).setQlb { ((s.sendKa true 0 ports).inc C.QLB_PROBES_SENT).qlb with
    probeAt := s.clk.now + 50000 }

/-- The failure is link-only (R565): a keep-alive of the partner within PROBE_WAIT of the link-down. -/
def State.markLinkOnly (s : State) : State :=
  let s := ((s.wr F.QLB_STATUS_LINK_ONLY 1).inc C.QLB_LINK_ONLY_EVENTS).raise 0x0E04 0
  if s.role = 0 ∨ (s.role = 1 ∧ ¬ s.forming) then s.setRole 3 s.duty else s

def State.linkOnlyCheck (s : State) : State :=
  match s.qlb.kaAt with
  | none => s
  | some t =>
    if ¬ s.forwarding ∨ s.linkIsUp ∨ s.qlb.downAt = 0 ∨ s.on F.QLB_STATUS_LINK_ONLY ∨ s.qlb.lost ∨ t < s.qlb.downAt ∨
        s.qlb.downAt + s.probeWait < t then s
    else s.markLinkOnly

/-- No keep-alive of the partner for PROBE_WAIT with the link down (R564, Table 13-1, R584, R585). -/
def State.partnerLost (s : State) : State :=
  let last := max s.qlb.downAt (match s.qlb.kaAt with | some t => t | none => 0)
  if ¬ s.forwarding ∨ s.linkIsUp ∨ s.qlb.lost ∨ s.forming ∨ s.role = 2 ∨ s.clk.now < last + s.probeWait then s
  else
    let s := (s.setQlb { s.qlb with lost := true, handover := none }).wr F.QLB_STATUS_LINK_ONLY 0
    ((s.inc C.QLB_PARTNER_LOSSES).raise 0x0E03 0).takeOver

/-- FORM_WAIT has passed without a formed pair (R545, R547, Table 13-1). -/
def State.formWait (s : State) : State :=
  match s.boot.forwardAt with
  | none => s
  | some t =>
    if ¬ s.forwarding ∨ ¬ s.forming ∨ s.clk.now < t + s.formWaitNs then s
    else
      let s := s.wr F.QLB_STATUS_FORMING 0
      if s.partnerPresent then
        let s := (if s.linkIsUp then s else s.markLinkOnly).setRole 3 (!s.unitB)
        s.setHome (!s.unitB)
      else s.takeOver

-- mirror messages (Table 13-6, R25, R568)

/-- A message not queued within 100 µs is discarded (R568). -/
def State.mirrorLost (s : State) : State :=
  let late := s.qlb.waiting.filter (fun w => w.vc == 3 && decide (w.since + 100000 < s.clk.now))
  let s := s.setQlb { s.qlb with waiting := s.qlb.waiting.filter (fun w => !late.contains w) }
  late.foldl (fun s _ => (s.inc C.QLB_MIRROR_LOST).raise 0x0E07 0) s

/-- A message of the partner that applies whatever mirrors. -/
def State.onLink (s : State) (f : State → State) : State := if s.linkIsUp then f (s.linkTaken 3) else s

/-- A message of the partner that applies only while the pair mirrors (R25). -/
def State.onMirror (s : State) (f : State → State) : State := s.onLink (fun s => if s.mirroring then f s else s)

/-- An element or set of the partner: while the pair mirrors, or as a part of the mirror sync in the unit without duty (R25, R567). -/
def State.onSync (s : State) (f : State → State) : State :=
  s.onLink (fun s =>
    let agree : Bool := match s.qlb.hb with | some h => s.hbAgrees h | none => false
    if s.mirroring then f s
    else if s.duty ∨ ¬ agree then s
    else f s.clearForSync)

/-- The AUD_SYNC set completes the sync: mirroring runs in this unit (R566, R567). -/
def State.syncReceived (s : State) (a : AudSync) : State := (s.audSync a).wr F.QLB_STATUS_MIRRORING 1

/-- A P27 frame of the partner enters the frame path with its metadata (R553; 04, R144). -/
def State.pairFrame (s : State) (f : PairFrame) : State :=
  if ¬ s.linkIsUp then s
  else
    let s := s.linkTaken 2
    let r : RxFrame := { rxFrame0 f.bytes with ended := true, vid := f.vid, pcp := f.pcp, dei := b2n f.dei, colour := f.colour, sc := f.sc,
                                               lc := s.clk.lc, wt := s.clk.wt }
    s.feed 27 r

-- restart requests and hand-over (R582, R583)

/-- QLB_RESTART. -/
def State.qlbRestart (s : State) (value : Nat) : State := if value % 65536 = 0xA55A then s.linkSend 3 .restartReq else s

/-- A restart request of the partner: accepted, and the reset follows, or refused (R582). -/
def State.restartReq (s : State) : State :=
  s.onLink (fun s =>
    let standby : Bool := match s.qlb.hb with | some h => h.role == 1 && s.mirroring | none => false
    if s.on F.QLB_CTRL_ACCEPT_RESTART ∧ (¬ s.duty ∨ standby) then
      let s := s.linkSend 3 (.restartRsp true)
      { s with flt := { s.flt with due := 2 } }
    else s.linkSend 3 (.restartRsp false))

/-- The partner's answer. -/
def State.restartRsp (s : State) (accepted : Bool) : State := s.onLink (fun s => if accepted then s else s.raise 0x0E09 0)

/-- The controlled hand-over begins in an ACTIVE unit (R583). Conventions: log entry 48 (DEDUCED). -/
def State.beginHandover (s : State) (restart : Bool) : State :=
  if s.role ≠ 0 ∨ s.qlb.handover.isSome ∨ ¬ s.mirroring then s
  else
    let e := s.clk.esi + 96
    (s.setQlb { s.qlb with handover := some ⟨e, true, false, restart⟩ }).linkSend 3 (.dutyOffer e)

/-- QLB_HANDOVER. Conventions: log entry 48 (DEDUCED). -/
def State.qlbHandover (s : State) (value : Nat) : State := if value.testBit 0 then s.beginHandover false else s

/-- An offer: the STANDBY unit prepares to drive from strobe E. Conventions: log entry 48 (DEDUCED). -/
def State.dutyOffer (s : State) (index : Nat) : State :=
  s.onMirror (fun s => if s.role = 1 then s.setQlb { s.qlb with handover := some ⟨index, false, false, false⟩ } else s)

/-- Controllers and channels of TX_ROLE 1 are idle, and the TDM outputs have changed hands (Table 13-9, steps 2 and 3).
Conventions: log entry 48 (DEDUCED). -/
def State.handedOver (s : State) (h : Handover) : Bool :=
  h.giver && h.tdm && s.duty &&
    (List.range 16).all (fun n => !s.on (F.CAN_CTRL_TX_ROLE n) || !s.canBusy n) &&
    (List.range 8).all (fun n => !s.on (F.SER_CTRL_TX_ROLE n) || !s.on (F.SER_STATUS_TX_BUSY n))

/-- The ACTIVE unit releases duty (Table 13-9, step 4). Conventions: log entries 13 (DEDUCED), 48 (DEDUCED). -/
def State.releaseDuty (s : State) : State :=
  match s.qlb.handover with
  | some h => if s.handedOver h then (s.linkSend 3 .dutyTaken).setRole 1 false else s
  | none => s

/-- DUTY_TAKEN: the STANDBY unit takes duty and answers; in the unit that gave it the hand-over ends, and a restart that it was for
follows (R583; 16, R672). Conventions: log entry 48 (DEDUCED). -/
def State.dutyTaken (s : State) : State :=
  s.onLink (fun s =>
    match s.qlb.handover with
    | none => s
    | some h =>
      let s := s.setQlb { s.qlb with handover := none }
      if h.giver then
        if s.duty then s else if h.restart then { s with flt := { s.flt with due := 1 } } else s
      else (s.setRole 0 true).linkSend 3 .dutyTaken)

end Sys2Proof.Machine
end

