-- ==== Sys2Proof/Machine/RegFile.lean ====
section
/-! DEFINITION. The register file as an engine or the boot ROM sees it: live fields, the access types of R11, the effect of a write
to each register, banks and the scrub lock (00, R11 to R25; 02, R64; 15, Tables 15-11 and 15-12). -/

namespace Sys2Proof.Machine

-- addresses

/-- Registers of which every engine has its own copy, at the model's address for engine `e` (15, ENG 0x000 to 0x07F; 16, FLT_LOG_DATA). -/
def banked (e a : Nat) : Nat :=
  if (0x21000000 ≤ a ∧ a < 0x21000080) ∨ (0x21100010 ≤ a ∧ a < 0x2110001C) then a + (e + 1) * 0x100000000 else a

/-- Message RAM of the CAN controllers and rings of the serial channels, which hold memory words. -/
def blockRam (a : Nat) : Bool :=
  (decide (0x20A00000 ≤ a) && decide (a < 0x20A40000) && decide (0x400 ≤ (a - 0x20A00000) % 0x4000)) ||
    (decide (0x20B10000 ≤ a) && decide (a < 0x20B18000))

/-- Whether a word address holds a register or a word of block memory (R23). -/
def mapped (e a : Nat) : Bool := a % 4 == 0 && (blockRam a || (regRow? (banked e a)).isSome)

-- reads

/-- Registers of one name: the first address, the stride and the number of instances, and how a state brings the live fields of
instance `n` up to date. -/
structure LiveReg where
  base : Nat
  stride : Nat
  count : Nat
  fresh : State → Nat → State

def b2w (b : Bool) : Nat := if b then 1 else 0

/-- A residual in 1/16 ns as the register shows it: 0 in LOCKED and FREE (03, TSU_WT_RESIDUAL). -/
def State.residualReg (s : State) : Nat :=
  if s.wtState = 0 ∨ s.wtState = 1 then 0 else unsgn 32 (s.residual s.wtSrc / 2 ^ 35)

/-- Milliseconds since the last Sync of a domain, saturating. -/
def State.syncAge (s : State) (n : Nat) : Nat :=
  match s.lastSync n with
  | none => 0xFFFF
  | some t => min ((s.clk.now - t) / 1000000) 0xFFFF

/-- The fields that show the state of their block as it is when they are read. -/
def liveRegs : List LiveReg := [
  ⟨R.DEV_MAC_LO, 4, 1, fun s _ => s.setRegN R.DEV_MAC_LO (s.otp.mac % 2 ^ 32)⟩,
  ⟨R.DEV_MAC_HI, 4, 1, fun s _ => s.setRegN R.DEV_MAC_HI (s.otp.mac / 2 ^ 32 % 65536)⟩,
  ⟨R.TSU_WT_RESIDUAL, 4, 1, fun s _ => s.setRegN R.TSU_WT_RESIDUAL s.residualReg⟩,
  ⟨R.TSU_DC_SYNC_AGE 0, 0x20, 2, fun s n => s.wr (F.TSU_DC_SYNC_AGE_AGE n) (s.syncAge n)⟩,
  ⟨R.TSU_P_QSTAT 0, 0x40, 24, fun s n =>
    let i := sget hq0 s.iq n
    let o := sget hq0 s.eq n
    let s := (s.wr (F.TSU_P_QSTAT_IQ_FILL n) i.q.length).wr (F.TSU_P_QSTAT_EQ_FILL n) o.q.length
    (s.wr (F.TSU_P_QSTAT_IQ_GAP_PENDING n) (b2w i.gap)).wr (F.TSU_P_QSTAT_EQ_GAP_PENDING n) (b2w o.gap)⟩,
  ⟨R.FWD_REHASH_KEY_HI, 4, 1, fun s _ => s.wr F.FWD_REHASH_KEY_HI_STASH_USED s.stashUsed⟩,
  ⟨R.SCT_SG_CTRL 0, 4, 32, fun s n => s.wr (F.SCT_SG_CTRL_OPEN n) (b2w (s.sgOpen n))⟩,
  ⟨R.BUF_FREE, 4, 1, fun s _ => s.wr F.BUF_FREE_CELLS s.freeCells⟩,
  ⟨R.BUF_PKT_FREE, 4, 1, fun s _ => s.wr F.BUF_PKT_FREE_PKT_FREE s.freePkts⟩,
  ⟨R.BUF_COPY_FREE, 4, 1, fun s _ => s.wr F.BUF_COPY_FREE_COPY_FREE s.freeCopies⟩,
  ⟨R.BUF_PORT_ING 0, 8, 16, fun s n => s.wr (F.BUF_PORT_ING_CELLS n) (s.ingressCells n none)⟩,
  ⟨R.BUF_Q_DEPTH 0, 0x10, 224, fun s n => s.wr (F.BUF_Q_DEPTH_CELLS n) (s.depth n)⟩,
  ⟨R.EGS_P_GSTATE 0, 0x40, 28, fun s n => s.wr (F.EGS_P_GSTATE_GATES n) (s.portGates n)⟩,
  ⟨R.EGS_Q_CREDIT 0, 0x10, 224, fun s n => s.setRegN (R.EGS_Q_CREDIT n) (s.creditReg n)⟩,
  ⟨R.AUD_CHG_STATUS, 4, 1, fun s _ => s.wr F.AUD_CHG_STATUS_FILL s.aud.queue.length⟩,
  ⟨R.AUD_STATUS, 4, 1, fun s _ => (s.wr F.AUD_STATUS_RUNNING (b2w !s.wtFree)).wr F.AUD_STATUS_MIRRORING (b2w s.mirroring)⟩,
  ⟨R.AUD_L_CFG 0, 0x20, 64, fun s n => s.wr (F.AUD_L_CFG_CFG_ERR n) (b2w (s.listenerCh n).isNone)⟩,
  ⟨R.AUD_T_CFG 0, 0x20, 64, fun s n =>
    (s.wr (F.AUD_T_CFG_CFG_ERR n) (b2w (s.talkerCh n).isNone)).wr (F.AUD_T_CFG_RUNNING n)
      (b2w (sget false s.aud.framing n && (s.talkerCh n).isSome && !s.wtFree))⟩,
  ⟨R.CAN_SUMMARY, 4, 1, fun s _ =>
    let off := (List.range 16).foldl (fun m n => if s.rd (F.CAN_STATUS_STATE n) = 2 then m + 2 ^ n else m) 0
    (s.wr F.CAN_SUMMARY_DUTY (if s.duty then 0xFFFF else 0)).wr F.CAN_SUMMARY_BUS_OFF off⟩,
  ⟨R.CAN_STATUS 0, 0x4000, 16, fun s n => s.wr (F.CAN_STATUS_DUTY n) (b2w s.duty)⟩,
  ⟨R.CAN_FQ_FREE 0 0, 0x4000, 16, fun s n => s.wr (F.CAN_FQ_FREE_FREE n 0) (s.ringSize n 0 - s.ringFill n 0)⟩,
  ⟨R.CAN_FQ_FREE 0 1, 0x4000, 16, fun s n => s.wr (F.CAN_FQ_FREE_FREE n 1) (s.ringSize n 1 - s.ringFill n 1)⟩,
  ⟨R.CAN_FQ_FREE 0 2, 0x4000, 16, fun s n => s.wr (F.CAN_FQ_FREE_FREE n 2) (s.ringSize n 2 - s.ringFill n 2)⟩,
  ⟨R.CAN_RXQ_FILL 0 0, 0x4000, 16, fun s n => s.wr (F.CAN_RXQ_FILL_FILL n 0) (s.ringFill n 3)⟩,
  ⟨R.CAN_RXQ_FILL 0 1, 0x4000, 16, fun s n => s.wr (F.CAN_RXQ_FILL_FILL n 1) (s.ringFill n 4)⟩,
  ⟨R.SER_STATUS 0, 0x100, 8, fun s n => s.wr (F.SER_STATUS_DUTY n) (b2w s.duty)⟩,
  ⟨R.SER_TXQ_FREE 0, 0x100, 8, fun s n => s.wr (F.SER_TXQ_FREE_FREE n) (2048 - (s.serC n).txFill)⟩,
  ⟨R.SER_RXQ_FILL 0, 0x100, 8, fun s n => s.wr (F.SER_RXQ_FILL_FILL n) (s.serC n).rxFill⟩,
  ⟨R.CPH_STATUS, 4, 1, fun s _ => s.wr F.CPH_STATUS_INFLIGHT s.cph.jobs.length⟩,
  ⟨R.CPH_KS_POOL, 4, 1, fun s _ => s.wr F.CPH_KS_POOL_FREE (32 - s.banks)⟩,
  ⟨R.QLB_STATUS, 4, 1, fun s _ => s.wr F.QLB_STATUS_PARTNER_PRESENT (b2w s.partnerPresent)⟩,
  ⟨R.WAK_STATUS, 4, 1, fun s _ => s.wr F.WAK_STATUS_PEER_NEED s.peerNeed⟩,
  ⟨R.WAK_AON_SECONDS, 4, 1, fun s _ => s.setRegN R.WAK_AON_SECONDS s.aonSeconds⟩,
  ⟨R.WAK_BO, 4, 1, fun s _ => s.wr F.WAK_BO_ENTRIES_10S (min s.recentThrottles.length 255)⟩,
  ⟨R.ENG_IRQ_PEND 0, 0x100000000, 8, fun s e =>
    (s.wr (F.ENG_IRQ_PEND_MB e) (b2w !(sget [] s.eng.mailbox e).isEmpty)).wr (F.ENG_IRQ_PEND_EVQ e) (b2w !(sget hq0 s.eng.evq e).q.isEmpty)⟩,
  ⟨R.ENG_MB_STATUS 0, 0x100000000, 8, fun s e => s.wr (F.ENG_MB_STATUS_FILL e) (sget [] s.eng.mailbox e).length⟩,
  ⟨R.ENG_MTIME_LO, 4, 1, fun s _ => s.setRegN R.ENG_MTIME_LO s.mtime⟩,
  ⟨R.FLT_STATUS, 4, 1, fun s _ => s.wr F.FLT_STATUS_DEBUG_LOCK (b2w s.otp.debugLock)⟩,
  ⟨R.FLT_RESTART_STATUS, 4, 1, fun s _ => s.wr F.FLT_RESTART_STATUS_RESTARTS (min s.recentRestarts 255)⟩]

/-- The instance that an address is of `count` instances from `base` on. -/
def instanceOf (base stride count a : Nat) : Option Nat :=
  if base ≤ a ∧ (a - base) % stride = 0 ∧ (a - base) / stride < count then some ((a - base) / stride) else none

/-- The state with the live fields of the register at a (banked) address brought up to date. -/
def State.refreshReg (s : State) (a : Nat) : State :=
  match liveRegs.find? (fun r => (instanceOf r.base r.stride r.count a).isSome) with
  | some r => r.fresh s ((a - r.base) / r.stride)
  | none => s

/-- Bits of a register that a read returns: WO fields read 0 (R11). Conventions: log entry 15 (DEDUCED). -/
def readable (a : Nat) (v : Nat) : Nat :=
  match regRow? a with
  | some r => v - (v &&& r.mask (fun t => t == .wo))
  | none => v

/-- The block latches that a read of a HI half returns (17, R699; 15, R641). -/
def State.latched (s : State) (e a : Nat) : Option Nat :=
  if a = R.ENG_MTIME_HI then some (sget 0 s.eng.latch (e * 256 + 255)).toNat
  else if chainedLo (a - 4) then some (sget 0 s.eng.latch (e * 256 + a / 0x100000 % 256)).toNat
  else none

/-- The word that engine `e` reads at a mapped word address, without the side effects of the read (R11, R14).
Conventions: log entries 1 (PRESUMED), 15 (DEDUCED). -/
def State.readReg (s : State) (e a : Nat) : Nat :=
  if blockRam a then s.word a
  else
    match s.latched e a with
    | some v => v
    | none => let b := banked e a; readable b ((s.refreshReg b).regN b)

-- writes

/-- Registers of one name and the effect of a write of `v` by engine `e` to instance `n`. -/
structure WriteReg where
  base : Nat
  stride : Nat
  count : Nat
  run : State → (e n v : Nat) → State

/-- Every RW field but one takes its value. -/
def State.writeBut (s : State) (f : Fld) (v : Nat) : State := s.writeFields f.addr (insertField (v % 2 ^ 32) f.lo f.w (s.rd f))

/-- A write to TSU_CTRL: its RW fields, then LOAD_WT, WT_SRC, FORCE_STEP and SNAP (03, R85 to R88, R93, R760). -/
def State.tsuCtrlWrite (s : State) (v : Nat) : State :=
  let s := s.writeBut F.TSU_CTRL_WT_SRC v
  let s := if v.testBit 10 then s.loadWt else s
  let s := s.wtSrcWrite (v % 2)
  let s := if v.testBit 9 then s.forceStep else s
  if v.testBit 8 then s.snap else s

/-- A write to TSU_DCn_CTRL. -/
def State.dcCtrlWrite (s : State) (n v : Nat) : State := (s.writeBut (F.TSU_DC_CTRL_USABLE n) v).usableWrite n (v.testBit 8)

/-- A write to a register that names a gate control list: the list named before and the one named now follow (08, R329). -/
def State.listNameWrite (s : State) (f : Fld) (v : Nat) : State :=
  let old := s.rd f
  let s := s.writeFields f.addr v
  (s.refreshList old).refreshList (s.rd f)

/-- A write to CPH_MSp_CTRL: TX_AN moves the association (12, R521, R523). -/
def State.msCtrlWrite (s : State) (p v : Nat) : State := (s.writeBut (F.CPH_MS_CTRL_TX_AN p) v).txAnWrite p (v % 4)

/-- A write to the PN of a transmit association starts its numbers anew. Conventions: log entry 44 (DEDUCED). -/
def State.txPnWrite (s : State) (p a addr v : Nat) : State :=
  let s := s.writeFields addr v
  let k := p * 4 + a
  s.setCph { s.cph with exhausted := s.cph.exhausted.filter (fun x => x != k), threshed := s.cph.threshed.filter (fun x => x != k) }

/-- A write to CAN_nFQk_CFG. -/
def State.fqCfgWrite (s : State) (n k v : Nat) : State :=
  let s := s.ringCfgWrite n k v
  if v.testBit 31 then s.fqFlush n k else s

/-- A write to QLB_CTRL: EN 0 holds the lanes idle and the link down (13, Table 13-9). Conventions: log entry 46 (DEDUCED). -/
def State.qlbCtrlWrite (s : State) (v : Nat) : State := (s.writeFields R.QLB_CTRL v).quosorLinkDown

/-- A write to CNT_HARVEST (17, R702, R703). -/
def State.harvestWrite (s : State) (v : Nat) : State := (s.harvestPeriodWrite (v % 65536)).harvestStart v

/-- A write of ENG_MTIMECMP (15, R641). -/
def State.mtimecmpWrite (s : State) (e addr v : Nat) : State := (s.writeFields addr v).machineTimer e

def writeTsu : List WriteReg := [
  ⟨R.TSU_CTRL, 4, 1, fun s _ _ v => s.tsuCtrlWrite v⟩,
  ⟨R.TSU_DC_CTRL 0, 0x20, 2, fun s _ n v => s.dcCtrlWrite n v⟩,
  ⟨R.TSU_DC_RATE 0, 0x20, 2, fun s _ n v => s.dcRateWrite n v⟩,
  ⟨R.TSU_DC_STEP_NS 0, 0x20, 2, fun s _ n v => s.dcStep n v⟩,
  ⟨R.TSU_DC_STEP_FRAC 0, 0x20, 2, fun s _ n v => s.setRegN (R.TSU_DC_STEP_FRAC n) (v % 65536)⟩,
  ⟨R.TSU_DC_STEP_S 0, 0x20, 2, fun s _ n v => s.setRegN (R.TSU_DC_STEP_S n) v⟩,
  ⟨R.TSU_PLS_CTRL 0, 0x20, 8, fun s _ n v => s.plsCtrlWrite n v⟩]

def writeMac : List WriteReg := [
  ⟨R.MAC_CTRL 0, 0x1000, 24, fun s _ n v => s.macCtrlWrite n v⟩,
  ⟨R.MAC_MDIO_CMD, 4, 1, fun s _ _ v => s.mdioStart v⟩]

def writeFwd : List WriteReg := [
  ⟨R.FWD_COMMIT, 4, 1, fun s _ _ v => s.fwdCommit v⟩,
  ⟨R.FWD_SEED_CUR0, 4, 2, fun s _ n v => s.seedWrite n v⟩,
  ⟨R.FWD_MIGRATE, 4, 1, fun s _ _ v => if v.testBit 0 then s.migrateStart else s⟩,
  ⟨R.FWD_FLUSH, 4, 1, fun s _ _ v => s.fwdFlush v⟩]

def writeSct : List WriteReg := [
  ⟨R.SCT_COMMIT, 4, 1, fun s _ _ v => s.sctCommit v⟩,
  ⟨R.SCT_STATE_SEL, 4, 1, fun s _ _ v => s.sctStateSel v⟩,
  ⟨R.SCT_SG_CTRL 0, 4, 32, fun s _ n v => s.listNameWrite (F.SCT_SG_CTRL_LIST n) v⟩,
  ⟨R.SCT_LAT_THRESH 0, 0x20, 16, fun s _ n v => s.latencyClear n v⟩]

def writeBuf : List WriteReg := [
  ⟨R.BUF_COMMIT, 4, 1, fun s _ _ v => s.bufCommit v⟩,
  ⟨R.BUF_QFLUSH, 4, 1, fun s _ _ v => s.queueFlush v⟩]

def writeEgs : List WriteReg := [
  ⟨R.EGS_COMMIT, 4, 1, fun s _ _ v => s.egsCommit v⟩,
  ⟨R.EGS_LIST_SEL, 4, 1, fun s _ _ v => s.egsListSel v⟩,
  ⟨R.EGS_MAXDLY_CLEAR, 4, 1, fun s _ _ v => s.maxdlyClear v⟩,
  ⟨R.EGS_P_GATE 0, 0x40, 28, fun s _ n v => s.listNameWrite (F.EGS_P_GATE_LIST n) v⟩,
  ⟨R.EGS_Q_SHAPER 0, 0x10, 224, fun s _ n v => s.shaperWrite n false v⟩,
  ⟨R.EGS_Q_BURST 0, 0x10, 224, fun s _ n v => s.shaperWrite n true v⟩,
  ⟨R.EGS_HM_CFG 0, 0x100, 8, fun s _ n v => s.hmQueueWrite n v⟩]

def writeAud : List WriteReg := [
  ⟨R.AUD_COMMIT, 4, 1, fun s _ _ v => s.audCommit (v % 8192)⟩,
  ⟨R.AUD_CHG_CMD, 4, 1, fun s _ _ v => s.chgCmd (bits v 28 4) (v % 8192)⟩,
  ⟨R.AUD_L_CFG 0, 0x20, 64, fun s _ n v => s.marginClear n v⟩,
  ⟨R.AUD_EP_WR_ESI_HI 0, 0x10, 8, fun s _ n v => s.wrEsiHi n v⟩]

def writeCan : List WriteReg := [
  ⟨R.CAN_COMMIT, 4, 1, fun s _ _ v => s.canCommit v⟩,
  ⟨R.CAN_CTRL 0, 0x4000, 16, fun s _ n v => s.canCtrlWrite n v⟩,
  ⟨R.CAN_NBT 0, 0x4000, 16, fun s _ n v => s.bitTimingWrite n 0 v⟩,
  ⟨R.CAN_DBT 0, 0x4000, 16, fun s _ n v => s.bitTimingWrite n 1 v⟩,
  ⟨R.CAN_XBT 0, 0x4000, 16, fun s _ n v => s.bitTimingWrite n 2 v⟩,
  ⟨R.CAN_TDC 0, 0x4000, 16, fun s _ n v => s.bitTimingWrite n 3 v⟩,
  ⟨R.CAN_TB_CANCEL 0, 0x4000, 16, fun s _ n v => s.tbCancel n v⟩,
  ⟨R.CAN_RECOVER 0, 0x4000, 16, fun s _ n v => s.canRecover n v⟩,
  ⟨R.CAN_FQ_CFG 0 0, 0x4000, 16, fun s _ n v => s.fqCfgWrite n 0 v⟩,
  ⟨R.CAN_FQ_CFG 0 1, 0x4000, 16, fun s _ n v => s.fqCfgWrite n 1 v⟩,
  ⟨R.CAN_FQ_CFG 0 2, 0x4000, 16, fun s _ n v => s.fqCfgWrite n 2 v⟩,
  ⟨R.CAN_FQ_PUT 0 0, 0x4000, 16, fun s _ n v => s.fqPut n 0 v⟩,
  ⟨R.CAN_FQ_PUT 0 1, 0x4000, 16, fun s _ n v => s.fqPut n 1 v⟩,
  ⟨R.CAN_FQ_PUT 0 2, 0x4000, 16, fun s _ n v => s.fqPut n 2 v⟩,
  ⟨R.CAN_RXQ_CFG 0 0, 0x4000, 16, fun s _ n v => s.ringCfgWrite n 3 v⟩,
  ⟨R.CAN_RXQ_CFG 0 1, 0x4000, 16, fun s _ n v => s.ringCfgWrite n 4 v⟩,
  ⟨R.CAN_RXQ_GET 0 0, 0x4000, 16, fun s _ n v => s.rxqGetWrite n 0 v⟩,
  ⟨R.CAN_RXQ_GET 0 1, 0x4000, 16, fun s _ n v => s.rxqGetWrite n 1 v⟩,
  ⟨R.CAN_TT_CTRL 0, 0x4000, 16, fun s _ n v => s.trellisWrite n 0 v⟩,
  ⟨R.CAN_TT_CYCLE 0, 0x4000, 16, fun s _ n v => s.trellisWrite n 1 v⟩,
  ⟨R.CAN_TT_PHASE 0, 0x4000, 16, fun s _ n v => s.trellisWrite n 2 v⟩]

def writeSer : List WriteReg := [
  ⟨R.SER_CTRL 0, 0x100, 8, fun s _ n v => s.serCtrlWrite n v⟩,
  ⟨R.SER_BAUD 0, 0x100, 8, fun s _ n v => s.serBaudWrite n v⟩,
  ⟨R.SER_TXQ_PUT 0, 0x100, 8, fun s _ n v => s.serTxqPut n v⟩,
  ⟨R.SER_RXQ_GET 0, 0x100, 8, fun s _ n v => s.serGetWrite n v⟩]

def writeGlv : List WriteReg := [⟨R.GLV_COMMIT, 4, 1, fun s _ _ v => s.glvCommit v⟩]

def writeCph : List WriteReg := [
  ⟨R.CPH_CTRL, 4, 1, fun s _ _ v => s.pairEnWrite v⟩,
  ⟨R.CPH_KS_SEL, 4, 1, fun s _ _ v => s.cphKsSel v⟩,
  ⟨R.CPH_KS_ERASE, 4, 1, fun s _ _ v => s.keyErase v⟩,
  ⟨R.CPH_RING_PUT 0, 0x20, 8, fun s _ n v => s.ringPut n v⟩,
  ⟨R.CPH_RING_CTRL 0, 0x20, 8, fun s _ n v => s.ringCtrlWrite n v⟩,
  ⟨R.CPH_MS_CTRL 0, 0x400, 16, fun s _ n v => s.msCtrlWrite n v⟩,
  ⟨R.CPH_MS_TXSA_PN_LO 0 0, 0x400, 16, fun s _ n v => s.txPnWrite n 0 (R.CPH_MS_TXSA_PN_LO n 0) v⟩,
  ⟨R.CPH_MS_TXSA_PN_LO 0 1, 0x400, 16, fun s _ n v => s.txPnWrite n 1 (R.CPH_MS_TXSA_PN_LO n 1) v⟩,
  ⟨R.CPH_MS_TXSA_PN_LO 0 2, 0x400, 16, fun s _ n v => s.txPnWrite n 2 (R.CPH_MS_TXSA_PN_LO n 2) v⟩,
  ⟨R.CPH_MS_TXSA_PN_LO 0 3, 0x400, 16, fun s _ n v => s.txPnWrite n 3 (R.CPH_MS_TXSA_PN_LO n 3) v⟩,
  ⟨R.CPH_MS_TXSA_PN_HI 0 0, 0x400, 16, fun s _ n v => s.txPnWrite n 0 (R.CPH_MS_TXSA_PN_HI n 0) v⟩,
  ⟨R.CPH_MS_TXSA_PN_HI 0 1, 0x400, 16, fun s _ n v => s.txPnWrite n 1 (R.CPH_MS_TXSA_PN_HI n 1) v⟩,
  ⟨R.CPH_MS_TXSA_PN_HI 0 2, 0x400, 16, fun s _ n v => s.txPnWrite n 2 (R.CPH_MS_TXSA_PN_HI n 2) v⟩,
  ⟨R.CPH_MS_TXSA_PN_HI 0 3, 0x400, 16, fun s _ n v => s.txPnWrite n 3 (R.CPH_MS_TXSA_PN_HI n 3) v⟩]

def writeQlb : List WriteReg := [
  ⟨R.QLB_CTRL, 4, 1, fun s _ _ v => s.qlbCtrlWrite v⟩,
  ⟨R.QLB_HANDOVER, 4, 1, fun s _ _ v => s.qlbHandover v⟩,
  ⟨R.QLB_RESTART, 4, 1, fun s _ _ v => s.qlbRestart v⟩]

def writeWak : List WriteReg := [
  ⟨R.WAK_NEED, 4, 1, fun s _ _ v => s.needWrite v⟩,
  ⟨R.WAK_QUAR_CLEAR, 4, 1, fun s _ _ v => s.quarClear v⟩]

def writeEng : List WriteReg := [
  ⟨R.ENG_WD_KICK 0, 0x100000000, 8, fun s _ n v => s.wdKick n v⟩,
  ⟨R.ENG_MB_SEND 0, 0x100000000, 8, fun s _ n v => s.mbSend n v⟩,
  ⟨R.ENG_MTIMECMP_LO 0, 0x100000000, 8, fun s _ n v => s.mtimecmpWrite n (R.ENG_MTIMECMP_LO n) v⟩,
  ⟨R.ENG_MTIMECMP_HI 0, 0x100000000, 8, fun s _ n v => s.mtimecmpWrite n (R.ENG_MTIMECMP_HI n) v⟩,
  ⟨R.ENG_TXR_PUT 0, 0x40, 8, fun s _ n v => s.txrPut n v⟩]

def writeFlt : List WriteReg := [⟨R.FLT_LOG_CMD, 4, 1, fun s e _ v => s.fltLog e v⟩]

def writeCnt : List WriteReg := [⟨R.CNT_HARVEST, 4, 1, fun s _ _ v => s.harvestWrite v⟩]

/-- The registers of a block whose writes do more than their fields take. -/
def blockWrites (a : Nat) : List WriteReg :=
  match (a / 0x100000) % 0x1000 with
  | 0x203 => writeTsu
  | 0x204 => writeMac
  | 0x205 => writeFwd
  | 0x206 => writeSct
  | 0x207 => writeBuf
  | 0x208 => writeEgs
  | 0x209 => writeAud
  | 0x20A => writeCan
  | 0x20B => writeSer
  | 0x20C => writeGlv
  | 0x20D => writeCph
  | 0x20E => writeQlb
  | 0x20F => writeWak
  | 0x210 => writeEng
  | 0x211 => writeFlt
  | 0x212 => writeCnt
  | _ => []

/-- The effect of a write of `v` at a mapped word address by engine `e`, or by the boot ROM as engine 0 (R11). -/
def State.regEffect (s : State) (e a v : Nat) : State :=
  if blockRam a then s.storeWord a v
  else
    let b := banked e a
    match (blockWrites b).find? (fun w => (instanceOf w.base w.stride w.count b).isSome) with
    | some w => w.run s e ((b - w.base) / w.stride) v
    | none => s.writeFields b v

/-- A register of the scrub set, locked (02, R64). -/
def State.scrubLocked (s : State) (a : Nat) : Bool := s.boot.locked && s.boot.scrub.contains a

/-- A write of engine `e` that the scrub set holds off: a bus error, and its event (02, R64; 15, Table 15-11). -/
def State.scrubDenied (s : State) (e a : Nat) : State := (s.busError e a true 3).raise 0x0208 a

/-- An engine's write to a register: the scrub lock, the map, then its effect (R23, R64, R632). Conventions: log entry 15 (DEDUCED). -/
def State.engineWrite (s : State) (e a v : Nat) : State :=
  if ¬ s.engineActs e then s
  else if region a ≠ .regs then s.engineStore e a v 4
  else if ¬ mapped e a then s.busError e a true 1
  else if s.scrubLocked a then s.scrubDenied e a
  else s.regEffect e a v

/-- The effect of a write to register `a` that engine `e` has issued, unless the scrub set holds it locked (02, R64).
Conventions: log entry 12 (DEDUCED). -/
def State.guarded (s : State) (e a : Nat) (f : State → State) : State := if s.scrubLocked a then s.scrubDenied e a else f s

/-- The same for a row that does not name its engine: the bus error of a locked register goes to one of the engines that run, and
which one is open (log entry 2). -/
def State.guardedAny (s : State) (a : Nat) (f : State → State) : State :=
  if s.scrubLocked a then
    let d := s.drawFree
    d.2.scrubDenied (nth 0 s.runningEngines (d.1 % s.runningEngines.length)) a
  else f s

-- loads

/-- The queue whose HEAD0 register stands at a word address, as engine `e` sees it. -/
def headQueueAt (e a : Nat) : Option HeadQueue :=
  match instanceOf (R.TSU_P_IQ_HEAD0 0) 0x40 24 a, instanceOf (R.TSU_P_EQ_HEAD0 0) 0x40 24 a, instanceOf (R.TSU_CAP_HEAD0 0) 0x20 4 a,
      instanceOf (R.CAN_TXEV_HEAD0 0) 0x4000 16 a with
  | some p, _, _, _ => some (.ingress (Fin.ofNat 24 p))
  | _, some p, _, _ => some (.egress (Fin.ofNat 24 p))
  | _, _, some n, _ => some (.capture (Fin.ofNat 4 n))
  | _, _, _, some n => some (.canTxEvent (Fin.ofNat 16 n))
  | _, _, _, _ =>
    if a = R.TSU_SKEW_HEAD0 then some .skew
    else if a = R.QLB_FAR_HEAD0 then some .farError
    else if banked e a = R.ENG_EVQ_HEAD0 e then some .events
    else none

/-- A load of the register word at `a` by engine `e`, with what a read of that register does (R110; 13, R574; 15, R641, R647; 17,
R699, R714). -/
def State.loadReg (s : State) (e a : Nat) : State :=
  match headQueueAt e a, instanceOf (R.QLB_FENCE 0) 4 8 a with
  | some q, _ => s.head0Read e q
  | none, some f => s.fenceRead e f
  | none, none =>
    if banked e a = R.ENG_MB_RX_HEAD0 e then s.mailboxRead e
    else if a = R.ENG_MTIME_LO then s.mtimeLoRead e
    else if a = R.CNT_TD_SNAP then s.tdSnap e
    else if chainedLo a then s.loRead e a
    else s.setRdata e (s.readReg e a)

/-- A load by engine `e` at any address (15, Table 15-1): a register word, the flash window, the partner window or memory; one that
finds neither memory nor a register ends with a bus error (R23). -/
def State.engineRead (s : State) (e addr size : Nat) : State :=
  if ¬ s.engineActs e ∨ ¬ sizeOk size then s
  else
    match span addr size with
    | .regs => if size = 4 ∧ mapped e addr then s.loadReg e addr else s.busError e addr false 1
    | .flash => s.flashWindowRead e addr size
    | _ => s.engineLoad e addr size

/-- A store by engine `e` at any address: a register word, or as `engineStore` has it. -/
def State.engineWriteAny (s : State) (e addr data size : Nat) : State :=
  if span addr size = .regs ∧ s.engineActs e ∧ sizeOk size then
    (if size = 4 ∧ mapped e addr then s.engineWrite e addr data else s.busError e addr true 1)
  else s.engineStore e addr data size

end Sys2Proof.Machine
end

