-- ==== Sys2Proof/Machine/Maint.lean ====
section
/-! DEFINITION. Maintenance frames: authentication, replay protection and the commands of Table 15-9 (15, R654 to R657; 02, R75 to
R77). The vendor runtime on E2 is part of what the spec describes. -/

namespace Sys2Proof.Machine

/-- Offsets 0 to 15 + LENGTH of a maintenance frame (Table 15-8). -/
def maintHead (subtype version slot cmd counter status reserved : Nat) (args : List Byte) : List Byte :=
  beBytes 1 subtype ++ beBytes 1 version ++ beBytes 1 slot ++ beBytes 1 cmd ++ beBytes 8 counter ++ beBytes 2 args.length ++
    beBytes 1 status ++ beBytes 1 reserved ++ args

/-- A response leaves through P24 on the ingress port of the request (Table 15-8, R655). Conventions: log entry 52 (DEDUCED). -/
def State.maintRespond (s : State) (r : MaintReq) (cmd status : Nat) (args : List Byte) : State :=
  let h := maintHead 0x21 1 r.slot.toNat cmd r.counter.toNat status 0 args
  let d := beBytes 6 r.src.toNat ++ beBytes 6 r.router.toNat ++ beBytes 2 0x88B5 ++ h ++ cmacBytes (s.key r.slot.toNat).bytes h
  (s.job 0).p24Send d (2 ^ r.inPort.val) r.vid.toNat

/-- E2 runs the runtime and frames are forwarded. -/
def State.runtimeActs (s : State) : Bool := s.forwarding && s.engineActs 2

/-- The cellar record of a rejected request (R655, Table 16-6). -/
def State.maintReject (s : State) (r : MaintReq) (cmd : Nat) : State :=
  let m := r.src.toNat
  { s with fltq := s.fltq ++
    [s.event 0x1080 (m / 2 ^ 32 + cmd * 2 ^ 16 + r.slot.toNat * 2 ^ 24) 0 (m % 2 ^ 32) (r.counter.toNat % 2 ^ 32) true] }

/-- The CMAC_VER job on a request: its status (R503, R504). Conventions: log entry 52 (DEDUCED). -/
def State.maintVerify (s : State) (r : MaintReq) (cmd : Nat) : Nat :=
  if ¬ s.keyFor r.slot.toNat 7 then s.keyStatus r.slot.toNat
  else if r.tag = cmacBytes (s.key r.slot.toNat).bytes
      (maintHead 0x20 r.version.toNat r.slot.toNat cmd r.counter.toNat r.reqStatus.toNat r.reserved.toNat r.args) then 0
  else 1

/-- COUNTER lies above LAST and within the window of the slot. -/
def State.counterFits (s : State) (r : MaintReq) : Bool :=
  let c := r.counter.toNat
  s.eng.challenged && decide (sget 0 s.eng.last r.slot.toNat < c) && decide (c ≤ sget 0 s.eng.winEnd r.slot.toNat)

/-- An authenticated request: when it is accepted LAST becomes COUNTER and the command acts; any other gets no response and a
record; a wrong VERSION is discarded (R655, Table 15-8). Conventions: log entry 52 (DEDUCED). -/
def State.maint (s : State) (r : MaintReq) (cmd : Nat) (act : State → State) : State :=
  if ¬ s.runtimeActs ∨ r.version.toNat ≠ 1 then s
  else
    let v := s.maintVerify r cmd
    let s := s.job v
    if v = 0 ∧ s.counterFits r then act { s with eng := { s.eng with last := sput 0 r.slot.toNat r.counter.toNat s.eng.last } }
    else s.maintReject r cmd

/-- A command whose outcome is a status alone. -/
def State.maintStatus (s : State) (r : MaintReq) (cmd : Nat) (x : State × Nat) : State := if r.args = [] then x.1.maintRespond r cmd x.2 []
  else s.maintRespond r cmd 2 []

-- CHALLENGE (R654)

/-- The block of L24 is used up by the window. -/
def State.useBlock (s : State) : State :=
  let s := (s.setPair (R.CPH_LEASE_NEXT_LO 24) (R.CPH_LEASE_NEXT_HI 24) 0).wr (F.CPH_LEASE_STATE_HELD 24) 0
  match (s.lease 24).nextBlock with
  | some g => (s.setLease 24 { s.lease 24 with nextBlock := none }).takeBlock 24 g
  | none => s

/-- The answer to a CHALLENGE once a block is held: B, then LAST and the window end. Conventions: log entry 52 (DEDUCED). -/
def State.challengeAnswer (s : State) (r : MaintReq) : State :=
  let b := s.pair (R.CPH_LEASE_NEXT_LO 24) (R.CPH_LEASE_NEXT_HI 24)
  let s := s.useBlock.maintRespond r 0 0 (beBytes 8 b)
  let k := r.slot.toNat
  { s with eng := { s.eng with challenged := true, chalWait := none, last := sput 0 k b s.eng.last,
                               winEnd := sput 0 k (b + 2 ^ s.leaseLog - 1) s.eng.winEnd } }

/-- A CHALLENGE that waits for its block is answered when the block is there. Conventions: log entry 13 (DEDUCED). -/
def State.challengeGoesOn (s : State) : State :=
  match s.eng.chalWait with
  | none => s
  | some r => if s.leaseHeld 24 ∧ s.runtimeActs then s.challengeAnswer r else s

/-- CHALLENGE: at most one per second is answered with a new block, every other one with BUSY. Conventions: log entry 52 (DEDUCED). -/
def State.challenge (s : State) (r : MaintReq) : State :=
  if ¬ s.runtimeActs ∨ r.version.toNat ≠ 1 ∨ ¬ s.keyFor r.slot.toNat 7 then s
  else if r.args ≠ [] then s.maintRespond r 0 2 []
  else
    let recent : Bool := match s.eng.challengeAt with
      | some t => decide (s.clk.now < t + 1000000000)
      | none => false
    if recent ∨ s.eng.chalWait.isSome then s.maintRespond r 0 4 []
    else
      let s := { s with eng := { s.eng with challengeAt := some s.clk.now, chalWait := some r } }
      let s := if s.leaseHeld 24 then s else s.askBlock 24
      s.challengeGoesOn

-- READ and READ_BOTTLE (R656)

/-- HEAD0 registers of queues. -/
def isHead0 (a : Nat) : Bool :=
  (instanceOf (R.TSU_P_IQ_HEAD0 0) 0x40 24 a).isSome || (instanceOf (R.TSU_P_EQ_HEAD0 0) 0x40 24 a).isSome ||
    (instanceOf (R.TSU_CAP_HEAD0 0) 0x20 4 a).isSome || a == R.TSU_SKEW_HEAD0 || (instanceOf (R.CAN_TXEV_HEAD0 0) 0x4000 16 a).isSome ||
    a == R.QLB_FAR_HEAD0 || a == 0x21000030 || a == 0x21000068

/-- A word that READ may return. Conventions: log entry 52 (DEDUCED). -/
def readAllowed (a : Nat) : Bool :=
  match region a with
  | .sram => true
  | .aon => true
  | .regs => mapped 2 a && !isHead0 a
  | _ => false

/-- Words from an address on, each most significant octet first. -/
def State.readWords (s : State) (a n : Nat) : List Byte :=
  (List.range n).flatMap (fun i => beBytes 4 (if region (a + 4 * i) = .regs then s.readReg 2 (a + 4 * i) else s.word (a + 4 * i)))

def State.maintRead (s : State) (r : MaintReq) : State :=
  let a := beNat (r.args.take 4)
  let n := beNat (r.args.drop 4)
  if r.args.length ≠ 6 ∨ n = 0 ∨ 256 < n then s.maintRespond r 1 2 []
  else if a % 4 ≠ 0 ∨ ¬ (List.range n).all (fun i => readAllowed (a + 4 * i) && region (a + 4 * i) == region a) then s.maintRespond r 1 1 []
  else s.maintRespond r 1 0 (s.readWords a n)

def State.maintBottle (s : State) (r : MaintReq) : State :=
  let b := beNat (r.args.take 1)
  let o := beNat ((r.args.drop 1).take 4)
  let n := beNat (r.args.drop 5)
  if r.args.length ≠ 7 ∨ 3 < b ∨ n = 0 ∨ 1024 < n ∨ 0x20000 < o + n then s.maintRespond r 2 2 []
  else s.maintRespond r 2 0 (getBytes s.flashByte (bottleBase b + o) n)

-- staging (R75 to R77)

/-- A STAGE_WRITE is carried out and answered. -/
def State.stageWriteNow (s : State) (r : MaintReq) : State :=
  let x := s.stageWrite (beNat (r.args.take 4)) (r.args.drop 4)
  x.1.maintRespond r 0x11 x.2 []

/-- A staging request is carried out and answered (Table 2-13). -/
def State.stageNow (s : State) (cmd : Nat) (r : MaintReq) : State :=
  match cmd with
  | 0x10 => s.maintStatus r cmd s.stageBegin
  | 0x11 => if r.args.length < 5 ∨ 1028 < r.args.length then s.maintRespond r 0x11 2 [] else s.stageWriteNow r
  | 0x12 => s.maintStatus r cmd s.stageVerify
  | 0x13 => s.maintStatus r cmd s.arm
  | 0x14 => s.maintStatus r cmd s.disarm
  | _ => s.maintStatus r cmd s.stageAbort

/-- Whether a staging request waits for the bottling that runs: a write that would be carried out, and every request that comes while
one waits (R76). -/
def State.stageHolds (s : State) (cmd : Nat) (r : MaintReq) : Bool :=
  s.flt.bottling.isSome &&
    (!s.boot.stageWait.isEmpty ||
      (cmd == 0x11 && decide (5 ≤ r.args.length) && decide (r.args.length ≤ 1028) &&
        s.stageTakes (beNat (r.args.take 4)) (r.args.length - 4)))

/-- A staging request that has been accepted. Conventions: log entry 58 (DESIGN CHOICE). -/
def State.stageCommand (s : State) (cmd : Nat) (r : MaintReq) : State :=
  if s.stageHolds cmd r then { s with boot := { s.boot with stageWait := s.boot.stageWait ++ [(cmd, r)] } } else s.stageNow cmd r

/-- Staging requests that waited for a bottling are carried out, in their order.
Conventions: log entries 13 (DEDUCED), 21 (DEDUCED). -/
def State.stageGoesOn (s : State) : State :=
  if s.flt.bottling.isSome ∨ s.boot.stageWait = [] ∨ ¬ s.runtimeActs then s
  else s.boot.stageWait.foldl (fun s r => s.stageNow r.1 r.2) { s with boot := { s.boot with stageWait := [] } }

-- RESTART (R657)

def State.maintRestart (s : State) (r : MaintReq) : State :=
  let m := beNat r.args
  if r.args.length ≠ 1 ∨ 1 < m then s.maintRespond r 0x20 2 []
  else
    let s := s.maintRespond r 0x20 0 []
    if m = 1 ∧ s.role = 0 ∧ s.mirroring then s.beginHandover true
    else { s with flt := { s.flt with due := 3 } }

end Sys2Proof.Machine
end

