-- ==== Sys2Proof/Machine/Boot.lean ====
section
/-! DEFINITION. Resets, bring-up and its failure, and the restarts after fail-silence (02, R38 to R60, R77, R78; 15, R637, R638;
16, R668 to R673; 18, R720, R721, R729). -/

namespace Sys2Proof.Machine

-- resets (Table 2-10)

/-- Registers of WAK, which lie in AON (14, R590). Conventions: log entry 16 (DEDUCED). -/
def wakReg (a : Nat) : Bool := decide (0x20F00000 ≤ a) && decide (a < 0x21000000)

/-- An address of the always-on SRAM. Conventions: log entry 16 (DEDUCED). -/
def aonByte (a : Nat) : Bool := decide (0x18000000 ≤ a) && decide (a < 0x18020000)

/-- Bring-up begins: the cause and the strap are shown (02, Table 2-11; 13, R542; 18, R721). -/
def State.startBringUp (s : State) (cause : Nat) (pairId testEn : Bool) : State :=
  let s := (s.wr F.DEV_RESET_CAUSE_CAUSE cause).setRegN R.DEV_STRAP (b2n pairId + b2n testEn * 2)
  let s := s.wr F.QLB_STATUS_UNIT (b2n pairId)
  { s with boot := { s.boot with step := 1, since := s.clk.now, pairId := pairId, testEn := testEn } }

/-- A cold reset: the flash and the OTP are kept (R60). Conventions: log entries 4 (DESIGN CHOICE), 8 (DESIGN CHOICE), 16 (DEDUCED). -/
def State.coldReset (s : State) (pairId testEn : Bool) : State :=
  ({ State.reset with flash := s.flash, otp := s.otp, pers := s.pers, free := s.free, pending := s.pending }).startBringUp 0 pairId testEn

/-- Every other reset: AON, the cellar and the persistent store are kept too (R60; 14, R590; 16, R669, R681).
Conventions: log entries 3 (DESIGN CHOICE), 8 (DESIGN CHOICE), 16 (DEDUCED). -/
def State.afterReset (s : State) (cause : Nat) (pairId : Bool) : State :=
  let s := s.flushCellar
  let lost := s.on F.FLT_STATUS_CRYSTAL_LOST
  let t : State :=
    { State.reset with
      regs := s.regs.filter (fun e => wakReg e.1), mem := s.mem.filter (fun e => aonByte e.1), flash := s.flash, otp := s.otp,
      pers := s.pers, free := s.free, pending := s.pending, clk := { clk0 with now := s.clk.now },
      wak := { s.wak with pwrReq := true, want := none, oneOff := none },
      flt := { flt0 with restarts := s.flt.restarts, seq := s.flt.seq, crystalGood := s.flt.crystalGood, crystalAt := s.flt.crystalAt,
                         kekBlocked := s.flt.kekBlocked } }
  let t := ((t.wr F.FLT_STATUS_LAST_FS_CAUSE (s.rd F.FLT_STATUS_LAST_FS_CAUSE)).wr F.FLT_STATUS_CRYSTAL_LOST (b2n lost)).setRegN R.FLT_MON
    (b2n lost * 32)
  let t := (t.setReg R.FLT_FS_DATA (s.reg R.FLT_FS_DATA)).setReg R.FLT_CELLAR_HEAD (s.reg R.FLT_CELLAR_HEAD)
  let t := t.setPower 0
  let t := if cause = 4 then t.setWak { t.wak with judged := false } else (t.wr F.WAK_STATUS_STATE 0).setWak { t.wak with armed := 0 }
  t.startBringUp cause pairId s.boot.testEn

/-- RST_N (R720). Conventions: log entries 8 (DESIGN CHOICE), 16 (DEDUCED). -/
def State.warmReset (s : State) (pairId : Bool) : State := s.afterReset 1 pairId

-- bring-up (Table 2-9)

/-- Step 2: AON is ready and the PLLs are enabled. Conventions: log entry 16 (DEDUCED). -/
def State.aonReady (s : State) : State := if s.boot.step = 1 then { s with boot := { s.boot with step := 2 } } else s

/-- The loader starts on a slot (Table 2-9, steps 4 and 5). -/
def State.startSlot (s : State) (k : Nat) (armed : Bool) : State :=
  let tried := s.boot.tried ++ [k]
  let s := { s with boot := { s.boot with step := 5, slot := k, tried := tried, armed := armed, applied := 0, pollEnd := none } }
  let s := (s.wr F.DEV_RESET_CAUSE_SLOT_TRIES tried.length).wr F.CFG_STATUS_BOOT_SLOT k
  (s.wr F.CFG_STATUS_TRIAL (b2n armed)).wr F.CFG_STATUS_STATE 1

/-- Bring-up of a slot has failed: a failed trial goes back to ACTIVE_SLOT, and whatever failed, a slot not yet tried in this reset is
tried before the unit is unbootable (R58, R59, R78). Conventions: log entries 17 (DEDUCED), 19 (DEDUCED). -/
def State.slotFails (s : State) (cause : Nat) : State :=
  let k := s.boot.slot
  let s := s.raiseMust 0x0207 k 0 cause 0
  let x : State × Nat :=
    if s.boot.armed then
      let r := s.bootRecNow
      ((s.writeBootRec (r.unarm 2)).raiseMust 0x0204 0 0 0 0, if s.boot.tried.contains (r.active % 2) then 1 - k else r.active % 2)
    else (s, 1 - k)
  if x.1.boot.tried.contains x.2 then
    { (x.1.wr F.CFG_STATUS_STATE 6).wr F.CFG_STATUS_TRIAL 0 with boot := { x.1.boot with step := 4, pollEnd := none } }
  else x.1.startSlot x.2 false

/-- Bring-up of a slot has failed for a cause to which the spec gives no code: the code is open (log entry 2).
Conventions: log entry 19 (DEDUCED). -/
def State.slotFailsOpen (s : State) : State :=
  let f := s.drawFree
  f.2.slotFails f.1

/-- The slot that the boot record gives, and whether it is a trial (R42, R77, R78). Conventions: log entry 17 (DEDUCED). -/
def State.chooseSlot (s : State) : State :=
  match s.bootRec with
  | none => s.startSlot 0 false
  | some (_, r) =>
    if r.trial = 1 ∧ r.armed < 2 then (s.writeBootRec { r with trial := 2 }).startSlot r.armed true
    else if r.trial = 2 then ((s.writeBootRec (r.unarm 3)).raiseMust 0x0205 0 0 0 0).startSlot (r.active % 2) false
    else s.startSlot (r.active % 2) false

/-- Bottles that are valid when FLT checks them (16, R685), and the last of them. -/
def State.checkBottles (s : State) : State :=
  let s := s.wr F.FLT_BOTTLE_VALID ((List.range 4).foldl (fun m n => m + b2n (s.bottleValid n) * 2 ^ n) 0)
  match s.lastBottle with
  | none => s
  | some n =>
    ((s.wr F.FLT_BOTTLE_LAST n).wr F.FLT_BOTTLE_REASON (beNat (getBytes s.flashByte (bottleBase n + 8) 1))).setRegN R.FLT_BOTTLE_SEQ
      (s.bottleSeq n)

/-- What the persistent store holds goes to its registers (12, R533; 14, R622). Conventions: log entry 5 (DESIGN CHOICE). -/
def State.loadPersistent (s : State) : State :=
  let s := (List.range 32).foldl (fun s c =>
    let f := sget (0, 0) s.pers.falseWakes c
    (s.wr (F.WAK_FW_FW_COUNT c) f.1).wr (F.WAK_FW_RUN c) f.2) s
  (List.range 48).foldl (fun s i =>
    (s.setLease i { lease0 with unleased := s.leaseCeil i }).setRegN (R.CPH_LEASE_CEIL i) (s.leaseCeil i)) s

/-- Steps 3 to 5: the clocks start, the boot record is read and a slot chosen (03, R80, R83, R760, R761; 16, R681). -/
def State.pllLock (s : State) : State :=
  if s.boot.step ≠ 2 then s
  else
    let s := { s with clk := { s.clk with on := true, lc := 0, dc0 := 0, dc1 := 0, wt := 0, esi := 0, nextK := 5 } }
    let s := if s.rd F.DEV_RESET_CAUSE_CAUSE = 0 then s else s.wr F.FLT_CELLAR_HEAD_BOOT (s.rd F.FLT_CELLAR_HEAD_BOOT + 1)
    s.checkBottles.loadPersistent.chooseSlot

/-- The fingerprint that the boot record holds for a slot, where it names it, is that of the image: ARMED_FP for the slot that is tried
as ARMED_SLOT, also where it is ACTIVE_SLOT too (R57, R78). -/
def State.recordOk (s : State) (k : Nat) : Bool :=
  match s.bootRec with
  | none => true
  | some (_, r) =>
    if s.boot.armed then decide (r.armedFp = s.imgPrint k)
    else if k = r.active then decide (r.activeFp = s.imgPrint k)
    else if k = r.armed then decide (r.armedFp = s.imgPrint k)
    else true

/-- The firmware sections are copied to the TCMs and system SRAM (02, Bring-up; Table 2-5). Conventions: log entry 18 (DEDUCED). -/
def State.copyFirmware (s : State) (k : Nat) : State :=
  (s.sections k).foldl (fun s x =>
    let load := s.img k x.offset 4
    let n := x.size - 8
    if x.type = 3 ∧ 8 ≤ x.size ∧ ((region load = .tcm ∧ load + n ≤ 0x08100000) ∨ (region load = .sram ∧ load + n ≤ 0x10200000)) then
      s.store load (s.imgBytes k (x.offset + 8) n)
    else s) s

/-- Step 6: the last byte has been streamed; header, sections, fingerprint and key hash are judged (R43, R46, R48, R51, R57, R61). -/
def State.imageStreamed (s : State) : State :=
  if s.boot.step ≠ 5 ∨ s.flt.silent then s
  else
    let k := s.boot.slot
    if ¬ s.imgOk k then s.slotFails 1
    else
      let s := s.copyFirmware k
      if ¬ s.printOk k then s.slotFails 2
      else if ¬ s.keyHashOk k then s.slotFails 3
      else if ¬ s.recordOk k then s.slotFailsOpen
      else { s.wr F.CFG_STATUS_STATE 2 with boot := { s.boot with step := 6 } }

-- step 8: the sections are applied (Table 2-5)

/-- One thing that the loader applies. -/
inductive ApplyOp where
  | reg (a : Nat) (r : RegRec)
  | entry (t i : Nat) (w : List Word)
  | key (slot mode : Nat) (wrapped : List Byte)
  | params (offset : Nat)
  deriving DecidableEq, Repr

/-- The entries of a table-load section, in stored order (Table 2-5, R45). -/
def State.blockEntries (s : State) (k : Nat) : Nat → Nat → Nat → List ApplyOp
  | 0, _, _ => []
  | n + 1, o, left =>
    if left < 8 then []
    else
      let words := s.img k (o + 1) 1
      let count := s.img k (o + 4) 2
      let len := 8 + count * words * 4
      (List.range count).map (fun i => .entry (s.img k o 1) (s.img k (o + 2) 2 + i)
        ((List.range words).map (fun j => BitVec.ofNat 32 (s.img k (o + 8 + (i * words + j) * 4) 4)))) ++
      s.blockEntries k n (o + len) (left - len)

/-- Everything that the loader applies from a section. -/
def State.sectionOps (s : State) (k : Nat) (x : Section) : List ApplyOp :=
  if x.size = 0 then []
  else
    match x.type with
    | 1 => (s.regRecs k (x.size / 8 + 1) x.offset x.size).map (fun r => .reg r.1 r.2)
    | 2 => s.blockEntries k (x.size / 8 + 1) x.offset x.size
    | 4 => (s.keyRecs k (x.size / 28 + 1) x.offset x.size).1.map (fun r => .key r.1 r.2.1 r.2.2)
    | 6 => [.params x.offset]
    | _ => []

/-- Everything that the loader applies from an image, in section-table order (Table 2-9, step 8). -/
def State.imageOps (s : State) (k : Nat) : List ApplyOp := (s.sections k).flatMap (s.sectionOps k)

/-- A word that the boot ROM reads at an address of a poll or read-modify-write record (R44). An address that holds nothing and the
partner window read 0 (log entry 58, DESIGN CHOICE). Conventions: log entry 58 (DESIGN CHOICE). -/
def State.bootRead (s : State) (a : Nat) : Nat :=
  match region a with
  | .regs => if mapped 0 a then s.readReg 0 a else 0
  | .bootRom => leNat (getBytes Config.bootRom a 4)
  | .flash => leNat (getBytes s.windowByte (a - 0x30000000) 4)
  | .none => 0
  | .partner => 0
  | .tcm => s.word a
  | .sram => s.word a
  | .aon => s.word a

/-- A word that the boot ROM writes at an address of a record; what R631 makes read-only, the always-on SRAM among it, takes nothing
(15, R631). Conventions: log entry 18 (DEDUCED). -/
def State.bootWrite (s : State) (a v : Nat) : State :=
  match region a with
  | .regs => if mapped 0 a then s.regEffect 0 a v else s
  | .tcm => s.storeWord a v
  | .sram => s.storeWord a v
  | _ => s

/-- Words put into the STAGE registers of a block. -/
def State.stage (s : State) (base : Nat) : List Word → State
  | [] => s
  | w :: r => (s.setReg base w).stage (base + 4) r

/-- A table entry through STAGE and COMMIT of its block (R45); the Boolean says that it was placed (R47). -/
def State.loadEntry (s : State) (t i : Nat) (w : List Word) : State × Bool :=
  match t with
  | 2 =>
    let s := (s.stage R.FWD_STAGE0 w).fwdCommit (2 * 2 ^ 28 + 2 ^ 26)
    (s, s.rd F.FWD_COMMIT_STATUS_RESULT != 2)
  | 5 => ((s.stage R.SCT_STAGE0 w).sctCommit i, true)
  | 6 =>
    let s := (s.stage R.EGS_STAGE0 w).egsCommit i
    (s, !(decide (i < 256) && s.rd F.EGS_COMMIT_STATUS_RESULT == 2))
  | 7 => ((s.stage R.BUF_STAGE0 w).bufCommit i, true)
  | 8 => ((s.stage R.AUD_STAGE0 w).audCommit i, true)
  | 9 => ((s.stage R.CAN_STAGE0 w).canCommit (9 * 2 ^ 28 + i), true)
  | 10 => ((s.stage R.CAN_STAGE0 w).canCommit (10 * 2 ^ 28 + i), true)
  | 11 => ((s.stage R.GLV_STAGE0 w).glvCommit i, true)
  | _ => ((s.stage R.FWD_STAGE0 w).fwdCommit (t * 2 ^ 28 + i), true)

/-- The vintage parameters, from a record or the defaults (Table 2-7). -/
def State.setParams (s : State) (peers vintage settle age hold : Nat) : State :=
  let s := (s.wr F.CFG_CENSUS_CFG_EXP_PEERS peers).wr F.CFG_CENSUS_CFG_AGE age
  ((s.wr F.CFG_VINTAGE_EXP_VINTAGE vintage).wr F.CFG_CENSUS_HOLD_SETTLE settle).wr F.CFG_CENSUS_HOLD_TRIAL_HOLD hold

/-- How applying goes on. -/
inductive ApplyOut where
  | done
  | waits
  | fails
  deriving DecidableEq, Repr

/-- A poll record reads its address (R44). -/
def State.poll (s : State) (a mask expected timeout : Nat) : State × ApplyOut :=
  if s.bootRead a &&& mask = expected then ({ s with boot := { s.boot with pollEnd := none } }, .done)
  else if timeout = 0 then (s, .fails)
  else
    match s.boot.pollEnd with
    | some _ => (s, .waits)
    | none => ({ s with boot := { s.boot with pollEnd := some (s.clk.now + timeout * 1000) } }, .waits)

/-- One thing applied. An EXP_PEERS above 64 is taken modulo 128, the width of its field (log entry 58, DESIGN CHOICE).
Conventions: log entries 18 (DEDUCED), 58 (DESIGN CHOICE). -/
def State.applyOne (s : State) (k : Nat) : ApplyOp → State × ApplyOut
  | .reg a (.write v) => (s.bootWrite a v, .done)
  | .reg a (.modify mask v) =>
    let old := s.bootRead a
    (s.bootWrite a ((old - (old &&& mask)) ||| (v &&& mask)), .done)
  | .reg a (.poll mask expected timeout) => s.poll a mask expected timeout
  | .reg _ .bad => (s, .fails)
  | .entry t i w =>
    let r := s.loadEntry t i w
    (r.1, if r.2 then .done else .fails)
  | .key slot mode b =>
    match if s.flt.kekBlocked then none else keyUnwrap (beBytes 32 s.otp.kek) b with
    | some key => (s.writeKey slot mode key, .done)
    | none => (s, .fails)
  | .params o => (s.setParams (s.img k o 1 % 128) (s.img k (o + 2) 2) (s.img k (o + 4) 2) (s.img k (o + 6) 2) (s.img k (o + 8) 2), .done)

/-- A list of things applied in order, up to one that waits or fails. Conventions: log entry 18 (DEDUCED). -/
def State.applyAll (s : State) (k : Nat) : List ApplyOp → State × ApplyOut
  | [] => (s, .done)
  | op :: r =>
    let x := s.applyOne k op
    match x.2 with
    | .done => ({ x.1 with boot := { x.1.boot with applied := x.1.boot.applied + 1 } }).applyAll k r
    | _ => x

-- steps 9 to 11: baseline, hand-off, release

/-- The assets of an image by ASSET: address of the first sample and COUNT, the later record of one ASSET standing (R49, R658).
Conventions: log entry 18 (DEDUCED). -/
def State.assets (s : State) (k : Nat) : Sparse (Nat × Nat) :=
  ((s.sections k).filter (fun x => x.type == 5 && x.size != 0)).foldl (fun m x =>
    (s.assetRecs k (x.size / 8 + 1) x.offset x.size).1.foldl (fun m r => sput (0, 0) r.1 r.2 m) m) []

/-- ENTRY of an engine, 0xFFFFFFFF for one held in reset. -/
def State.entryOf (s : State) (k e : Nat) : Nat :=
  match (s.imgEntries k).find? (fun x => x.1 == e) with
  | some x => x.2
  | none => 0xFFFFFFFF

/-- The hand-off block (R637, Tables 15-2 and 15-3). Conventions: log entry 18 (DEDUCED). -/
def State.handOff (s : State) (k : Nat) : List Byte :=
  let a := s.assets k
  leBytes 4 0x4C51484F ++ leBytes 4 1 ++ leBytes 1 k ++ leBytes 1 (s.rd F.DEV_RESET_CAUSE_CAUSE) ++ leBytes 2 (s.rd F.CFG_VINTAGE_NUMBER) ++
    zeros 4 ++ leBytes 8 (s.pair R.CFG_FP_LO R.CFG_FP_HI) ++ leBytes 4 (0x30000000 + slotAt k) ++ leBytes 4 a.length ++
    (List.range 8).flatMap (fun e => leBytes 4 (s.entryOf k e)) ++ zeros 192 ++
    (List.range 256).flatMap (fun i => leBytes 4 (sget (0, 0) a i).1 ++ leBytes 4 (sget (0, 0) a i).2) ++ zeros 1792

/-- Each engine with an entry point starts, and every other one stays held; E0 without one halts in the boot ROM (R638).
Conventions: log entry 18 (DEDUCED). -/
def State.releaseEngines (s : State) (k : Nat) : State :=
  let l := s.imgEntries k
  let run := l.foldl (fun m x => m ||| 2 ^ x.1) 0
  let s := (s.wr F.ENG_RUN_RUNNING run).wr F.ENG_RUN_HELD (0xFE - (0xFE &&& run))
  { s with eng := { s.eng with
    start := l.foldl (fun m x => sput (0, 0, 0) x.1 (x.2, x.1, 0x10000000) m) s.eng.start,
    wdAt := l.foldl (fun m x => sput 0 x.1 s.clk.now m) s.eng.wdAt } }

/-- Steps 9 to 11 (R63, R637, R638). -/
def State.finishApply (s : State) : State :=
  let k := s.boot.slot
  let s := { s.wr F.CFG_STATUS_STATE 4 with boot := { s.boot with scrub := s.imgScrub k, pollEnd := none } }
  let s := s.takeBaseline.store 0x10000000 (s.handOff k)
  let s := s.releaseEngines k
  { s with boot := { s.boot with step := 11 } }.enablePorts

/-- The image is applied from where it stands; a poll record that has to wait leaves bring-up at step 8. -/
def State.applyImage (s : State) : State :=
  let k := s.boot.slot
  let r := s.applyAll k ((s.imageOps k).drop s.boot.applied)
  match r.2 with
  | .done => r.1.finishApply
  | .waits => { r.1 with boot := { r.1.boot with step := 8 } }
  | .fails => r.1.slotFailsOpen

/-- Step 7: the signature is judged, and the sections are applied (R51, R52). -/
def State.signatureVerified (s : State) : State :=
  if s.boot.step ≠ 6 ∨ s.flt.silent then s
  else
    let k := s.boot.slot
    if ¬ s.signatureOk k then s.slotFails 4
    else
      let s := ((s.wr F.CFG_STATUS_STATE 3).wr F.CFG_VINTAGE_NUMBER (s.imgVintage k)).setPair R.CFG_FP_LO R.CFG_FP_HI (s.imgPrint k)
      (s.setParams 0 (s.imgVintage k) 3 5 60).applyImage

/-- A poll record whose condition is met lets bring-up go on (R44). Conventions: log entry 13 (DEDUCED). -/
def State.pollGoesOn (s : State) : State :=
  match s.boot.pollEnd with
  | none => s
  | some _ =>
    if s.boot.step ≠ 8 ∨ s.flt.silent then s
    else
      match (s.imageOps s.boot.slot).drop s.boot.applied with
      | .reg a (.poll mask expected _) :: _ => if s.bootRead a &&& mask = expected then s.applyImage else s
      | _ => s

/-- A poll record's timeout has passed (R44). -/
def State.pollTimeout (s : State) : State :=
  match s.boot.pollEnd with
  | none => s
  | some t => if s.boot.step = 8 ∧ ¬ s.flt.silent ∧ t ≤ s.clk.now then ({ s with boot := { s.boot with pollEnd := none } }).slotFailsOpen else s

-- step 12

/-- The wake block at forwarding: AWAKE, and after a wake its event (14, Table 14-4, R625, R626). -/
def State.wakForwarding (s : State) : State :=
  let s := (s.wr F.WAK_STATUS_STATE 0).setPower (if s.on F.WAK_BO_THROTTLE then 1 else 0)
  let s := s.setWak { s.wak with stateAt := s.clk.now, first := true, armed := 0 }
  if s.rd F.DEV_RESET_CAUSE_CAUSE ≠ 4 then s
  else
    let s := s.raise 0x0F03 (s.rd F.WAK_CAUSE_CAUSE)
    let s := if s.wak.supplyFailed then s.raise 0x0F0A 0 else s
    let s := if s.wak.failsafed then s.raise 0x0F09 0 else s
    s.setWak { s.wak with supplyFailed := false, failsafed := false }

/-- A hold of 0 seconds acts at once (Table 2-7). -/
def State.atOnce (s : State) (hold : Nat) (f : State → State) : State := if hold = 0 then f s else s

/-- The roles, the leases, the audio crosspoint, the wake block and the harvest at step 12 (R545, R702). -/
def State.startService (s : State) : State :=
  let s := (s.setRole 1 false).wr F.QLB_STATUS_FORMING 1
  let s := (s.setHome (!s.unitB)).audForwarding.wakForwarding
  s.setCnt { s.cnt with nextAt := s.clk.now }

/-- The boot record at step 12: a fresh one where none was valid (R42), a trial without a hold confirmed (R79). -/
def State.settleRecord (s : State) : State :=
  let s := if s.bootRec.isNone then s.writeBootRec s.bootRecNow else s
  s.atOnce (s.rd F.CFG_CENSUS_HOLD_TRIAL_HOLD) State.trialConfirm

/-- Step 12: frames are forwarded (R42, R56, R73, R79, R545, R702). -/
def State.reachForwarding (s : State) : State :=
  if s.boot.step ≠ 11 ∨ s.flt.silent then s
  else
    let s := { s with boot := { s.boot with step := 12, forwardAt := some s.clk.now } }
    let s := (s.wr F.CFG_STATUS_STATE 5).setRegN R.CFG_BRINGUP_TIME ((s.clk.now - s.boot.since) / 1000)
    let s := (s.setTxOn 1).settleRecord.startService
    s.atOnce (s.rd F.CFG_CENSUS_HOLD_SETTLE) State.censusSettle

-- wake, fault restart and supply (14, R626; 16, R668, R675)

/-- VDD_CORE has held for 1 ms in WAKING: the wake reset (R626); PWR_REQ is at least as old (14, R594). -/
def State.wakeSupplyGood (s : State) : State :=
  if s.power = 4 ∧ s.wak.pwrAt + recoveryNs ≤ s.clk.now then s.afterReset 4 s.boot.pairId else s

/-- FAULT_RESTART (R668 to R670; 14, R598): after cause 11 once the supply has held for 1 ms, else once the bottling has ended or 200 ms
have passed. Conventions: log entries 16 (DEDUCED), 25 (DEDUCED). -/
def State.faultRestart (s : State) (pairId : Bool) : State :=
  let cause := s.rd F.FLT_STATUS_LAST_FS_CAUSE
  let ended :=
    if cause = 11 then decide (s.flt.silentAt + recoveryNs ≤ s.clk.now)
    else s.flt.bottling.isNone || decide (s.flt.silentAt + 200000000 ≤ s.clk.now)
  if ¬ s.flt.silent ∨ s.flt.halted ∨ cause = 10 ∨ s.flt.dbgStage ≠ 0 ∨ ¬ ended then s
  else ({ s with flt := { s.flt with restarts := s.aonSeconds :: s.flt.restarts } }).afterReset 3 pairId

/-- A rail of Table 16-3 leaves its range. -/
def State.supplyMonitor (s : State) (rail : Nat) (high : Bool) : State :=
  if rail = 4 ∧ ¬ high then s.coldReset s.boot.pairId s.boot.testEn
  else if s.boot.step = 0 then s
  else if rail = 0 ∧ ¬ high then s.throttleEnter
  else (s.setRegN R.FLT_MON (s.regN R.FLT_MON ||| 2 ^ (8 + rail))).failSilent 3 rail

-- what follows a command without a row of its own

/-- The reaction of a lasting fault, once no hand-over runs: of two the more severe (16, R672, R673).
Conventions: log entries 13 (DEDUCED), 25 (DEDUCED). -/
def State.react (s : State) : State :=
  if ¬ s.alive ∨ s.qlb.handover.isSome then s
  else
    let t := { s with flt := { s.flt with react := 0, reacting := false } }
    if s.flt.react = 0 then t
    else if s.flt.react = 3 then t.failSilent 8 s.flt.reactK
    else if s.role = 0 then
      (if s.mirroring then { t with flt := { t.flt with reacting := true } }.beginHandover (s.flt.react == 2) else s)
    else if s.flt.react = 2 ∧ (s.role = 1 ∨ s.role = 3) then { t with flt := { t.flt with due := 1 } }
    else t

/-- An answer to a maintenance request is still on its way out. Conventions: log entry 52 (DEDUCED). -/
def State.answering (s : State) : Bool :=
  let answer (d : List Byte) : Bool := etOf d == 0x88B5 && fld d 14 1 == 0x21
  (s.port 24).inq.any (fun f => answer f.bytes) || s.buf.pkt.any (fun e => e.2.inPort == 24 && answer e.2.data)

/-- A reset that is due takes place. Conventions: log entries 13 (DEDUCED), 25 (DEDUCED). -/
def State.dueReset (s : State) : State :=
  match s.flt.due with
  | 1 => s.afterReset 1 s.boot.pairId
  | 2 => s.afterReset 2 s.boot.pairId
  | 3 => if s.answering then s else s.afterReset 1 s.boot.pairId
  | _ => s

/-- The unit is fail-silent, or held in SLEEP (16, R664; 14, R612). -/
def State.down (s : State) : Bool := s.flt.silent || s.boot.step == 0

/-- What a unit that is down gives up, whatever the command went on to do (14, Table 14-5; 16, R664, R665; 17, R708).
Conventions: log entry 13 (DEDUCED). -/
def State.giveUp (s : State) : State := if s.down then s.cutSweep.silenced else s

/-- Everything that follows from the state as a command has left it.
Conventions: log entries 10 (DESIGN CHOICE), 13 (DEDUCED), 57 (DESIGN CHOICE). -/
def settle (s : State) : State :=
  let s := if s.alive then s.react.releaseDuty.challengeGoesOn.stageGoesOn else s
  let s := s.pollGoesOn.giveUp
  let s := if s.alive then s.wakEvaluate else s
  s.dueReset

/-- The outcome of a command: its effect and what follows from it. Conventions: log entry 14 (DEDUCED). -/
def finish (s : State) : Host.Outcome State Fault Refusal := .next (settle s)

/-- An effect of the core, which needs the device to run (16, R664). Conventions: log entry 10 (DESIGN CHOICE). -/
def State.live (s : State) (f : State → State) : State := if s.alive then f s else s

/-- An effect that a fail-silence alone suppresses (16, R664). Conventions: log entry 10 (DESIGN CHOICE). -/
def State.unsilent (s : State) (f : State → State) : State := if s.flt.silent then s else f s

/-- The effect of a write to register `a` by firmware: some engine has to run it (01, R25; 02, R64).
Conventions: log entry 10 (DESIGN CHOICE). -/
def State.regLive (s : State) (a : Nat) (f : State → State) : State := if s.firmwareRuns then s.guardedAny a f else s

/-- The effect of a write to register `a` by engine `e`, which has to run (15, R638; 16, R664).
Conventions: log entry 10 (DESIGN CHOICE). -/
def State.regEng (s : State) (e a : Nat) (f : State → State) : State := if s.engineActs e then s.guarded e a f else s

end Sys2Proof.Machine
end

