-- ==== Sys2Proof/Machine/AudCommands.lean ====
section
/-! DEFINITION. The commands of one family: The audio crosspoint (09). -/

namespace Sys2Proof.Machine

/-- TAP_CHANGE (R377). -/
def execTapChange (index : BitVec 13) (s : State) : Host.Outcome State Fault Refusal :=
  finish (s.regLive R.AUD_CHG_CMD (fun s => s.chgCmd 0 index.toNat))

/-- OUTPUT_CHANGE (R377). -/
def execOutputChange (index : BitVec 13) (s : State) : Host.Outcome State Fault Refusal :=
  finish (s.regLive R.AUD_CHG_CMD (fun s => s.chgCmd 1 index.toNat))

/-- TG_TRIGGER (R402). -/
def execTgTrigger (index : BitVec 13) (s : State) : Host.Outcome State Fault Refusal :=
  finish (s.regLive R.AUD_CHG_CMD (fun s => s.chgCmd 2 index.toNat))

/-- TG_STOP (R401). -/
def execTgStop (index : BitVec 13) (s : State) : Host.Outcome State Fault Refusal :=
  finish (s.regLive R.AUD_CHG_CMD (fun s => s.chgCmd 3 index.toNat))

/-- LOCAL_OFFSET (R413). -/
def execLocalOffset (index : BitVec 13) (s : State) : Host.Outcome State Fault Refusal :=
  finish (s.regLive R.AUD_CHG_CMD (fun s => s.chgCmd 4 index.toNat))

/-- TALKER (R395). -/
def execTalker (index : BitVec 13) (s : State) : Host.Outcome State Fault Refusal :=
  finish (s.regLive R.AUD_CHG_CMD (fun s => s.chgCmd 5 index.toNat))

/-- AUD_COMMIT (R371). -/
def execAudCommit (index : BitVec 13) (s : State) : Host.Outcome State Fault Refusal :=
  finish (s.regLive R.AUD_COMMIT (fun s => s.audCommit index.toNat))

/-- WR_ESI_HI_WRITE (R417). -/
def execWrEsiHiWrite (n : Fin 8) (value : Word) (s : State) : Host.Outcome State Fault Refusal :=
  finish (s.regLive (R.AUD_EP_WR_ESI_HI n) (fun s => s.wrEsiHi n value.toNat))

/-- MARGIN_CLEAR (R416). -/
def execMarginClear (listener : Fin 64) (value : Word) (s : State) : Host.Outcome State Fault Refusal :=
  finish (s.regLive (R.AUD_L_CFG listener) (fun s => s.marginClear listener value.toNat))

/-- LISTENER_FRAME (R387). -/
def execListenerFrame (s : State) : Host.Outcome State Fault Refusal := finish (s.live (fun s => s.listenerFrame))

end Sys2Proof.Machine
end

