-- ==== Sys2Proof/Machine/BridgeCommands.lean ====
section
/-! DEFINITION. The commands of one family: The bridge and atomic accesses (13, R569 to R581; 15, R633). -/

namespace Sys2Proof.Machine

/-- BRIDGE_READ (R569). -/
def execBridgeRead (tag : Fin 32) (size : Byte) (addr : Word) (s : State) : Host.Outcome State Fault Refusal :=
  finish (s.live (fun s => s.bridgeRead tag size.toNat addr.toNat))

/-- BRIDGE_WRITE (R569). -/
def execBridgeWrite (tag : Fin 64) (size : Byte) (addr data : Word) (s : State) : Host.Outcome State Fault Refusal :=
  finish (s.live (fun s => s.bridgeWrite tag size.toNat addr.toNat data.toNat))

/-- SEM_ACQ (R577). -/
def execSemAcq (tag : Fin 32) (sem : Fin 32) (s : State) : Host.Outcome State Fault Refusal :=
  finish (s.live (fun s => s.semAcq tag sem))

/-- SEM_REL (R577). -/
def execSemRel (tag : Fin 32) (sem : Fin 32) (s : State) : Host.Outcome State Fault Refusal :=
  finish (s.live (fun s => s.semRel tag sem))

/-- READ_RSP (R572). -/
def execReadRsp (tag : Fin 32) (status : Fin 5) (data : Word) (s : State) : Host.Outcome State Fault Refusal :=
  finish (s.live (fun s => s.readRsp tag status data.toNat))

/-- WRITE_ACK (R573). -/
def execWriteAck (tag : Fin 64) (status : Fin 5) (s : State) : Host.Outcome State Fault Refusal :=
  finish (s.live (fun s => s.writeAck tag status))

/-- SEM_RSP (R577). -/
def execSemRsp (tag : Fin 32) (status : Fin 5) (s : State) : Host.Outcome State Fault Refusal :=
  finish (s.live (fun s => s.semRsp tag status))

/-- SEM_RETRY (R577). -/
def execSemRetry (tag : Fin 32) (s : State) : Host.Outcome State Fault Refusal := finish (s.live (fun s => s.semRetry tag))

/-- PARTNER_WINDOW_LOAD (R572). -/
def execPartnerWindowLoad (engine : Fin 8) (addr : Word) (size : Byte) (s : State) : Host.Outcome State Fault Refusal :=
  finish (s.engineRead engine addr.toNat size.toNat)

/-- PARTNER_WINDOW_STORE (R573). -/
def execPartnerWindowStore (engine : Fin 8) (addr data : Word) (size : Byte) (s : State) : Host.Outcome State Fault Refusal :=
  finish (s.engineWriteAny engine addr.toNat data.toNat size.toNat)

/-- BRIDGE_TIMEOUT (R572). -/
def execBridgeTimeout (tag : Fin 64) (s : State) : Host.Outcome State Fault Refusal :=
  finish (s.live (fun s => s.bridgeTimeout tag))

/-- QLB_FENCE (R574). -/
def execQlbFence (engine fence : Fin 8) (s : State) : Host.Outcome State Fault Refusal := finish (s.fenceRead engine fence)

/-- LR (R633). -/
def execLr (engine : Fin 8) (addr : Word) (s : State) : Host.Outcome State Fault Refusal :=
  finish (s.loadReserved engine addr.toNat)

/-- SC (R579). -/
def execSc (engine : Fin 8) (addr data : Word) (s : State) : Host.Outcome State Fault Refusal :=
  finish (s.storeConditional engine addr.toNat data.toNat)

/-- AMO (R578). -/
def execAmo (engine : Fin 8) (op : AmoOp) (addr data : Word) (s : State) : Host.Outcome State Fault Refusal :=
  finish (s.amo engine op addr.toNat data.toNat)

end Sys2Proof.Machine
end

