-- ==== Sys2Proof/Machine/BufCommands.lean ====
section
/-! DEFINITION. The commands of one family: The buffer (07). -/

namespace Sys2Proof.Machine

/-- BUF_COMMIT (R300). -/
def execBufCommit (value : Word) (s : State) : Host.Outcome State Fault Refusal :=
  finish (s.regLive R.BUF_COMMIT (fun s => s.bufCommit value.toNat))

/-- LEAK_AUDIT (R308). -/
def execLeakAudit (s : State) : Host.Outcome State Fault Refusal := finish (s.live (fun s => s.leakAudit))

/-- AUDIT_WALK_DONE (R309). -/
def execAuditWalkDone (s : State) : Host.Outcome State Fault Refusal := finish (s.live (fun s => s.auditWalkDone))

/-- STUCK_HEAD (R314). -/
def execStuckHead (queue : Fin 224) (s : State) : Host.Outcome State Fault Refusal := finish (s.live (fun s => s.stuckHead queue))

/-- QUEUE_FLUSH (R315). -/
def execQueueFlush (value : Word) (s : State) : Host.Outcome State Fault Refusal :=
  finish (s.regLive R.BUF_QFLUSH (fun s => s.queueFlush value.toNat))

/-- QUEUE_FLUSH_DONE (R315). -/
def execQueueFlushDone (s : State) : Host.Outcome State Fault Refusal := finish (s.live (fun s => s.queueFlushDone))

end Sys2Proof.Machine
end

