-- ==== Sys2Proof/Machine/CanCommands.lean ====
section
/-! DEFINITION. The commands of one family: The CAN channels (10). -/

namespace Sys2Proof.Machine

/-- The register of a trellis write: TT_CTRL, TT_CYCLE or TT_PHASE (R455). -/
def trellisReg (n reg : Nat) : Nat := match reg with | 0 => R.CAN_TT_CTRL n | 1 => R.CAN_TT_CYCLE n | _ => R.CAN_TT_PHASE n

/-- The bit-timing register of a write: NBT, DBT, XBT or TDC (R425). -/
def timingReg (n reg : Nat) : Nat := match reg with | 0 => R.CAN_NBT n | 1 => R.CAN_DBT n | 2 => R.CAN_XBT n | _ => R.CAN_TDC n

/-- CAN_FRAME_RECEIVED (R457). -/
def execCanFrameReceived (n : Fin 16) (ago : Nat) (frame : CanFrame) (s : State) : Host.Outcome State Fault Refusal :=
  finish (s.live (fun s => (s.canReceived n ago frame).canKaRx n frame))

/-- CAN_FRAME_START (R438). -/
def execCanFrameStart (n : Fin 16) (s : State) : Host.Outcome State Fault Refusal := finish (s.live (fun s => s.canFrameStart n))

/-- CAN_FRAME_SENT (R440). -/
def execCanFrameSent (n : Fin 16) (s : State) : Host.Outcome State Fault Refusal := finish (s.live (fun s => s.canSent n))

/-- ARBITRATION_LOST (R439). -/
def execArbitrationLost (n : Fin 16) (s : State) : Host.Outcome State Fault Refusal :=
  finish (s.live (fun s => s.arbitrationLost n))

/-- CAN_ERROR (R466). -/
def execCanError (n : Fin 16) (kind : CanErrorKind) (s : State) : Host.Outcome State Fault Refusal :=
  finish (s.live (fun s => s.canError n kind))

/-- CAN_RECOVER (R467). -/
def execCanRecover (n : Fin 16) (value : Word) (s : State) : Host.Outcome State Fault Refusal :=
  finish (s.regLive (R.CAN_RECOVER n) (fun s => s.canRecover n value.toNat))

/-- BUS_OFF_RECOVERY (R467). -/
def execBusOffRecovery (n : Fin 16) (s : State) : Host.Outcome State Fault Refusal :=
  finish (s.live (fun s => s.busOffRecovery n))

/-- TB_LOAD (R433). -/
def execTbLoad (n : Fin 16) (tb : Fin 3) (s : State) : Host.Outcome State Fault Refusal :=
  finish (s.live (fun s => s.tbLoad n tb))

/-- FQ_PUT (R435). -/
def execFqPut (n : Fin 16) (fq : Fin 3) (value : Word) (s : State) : Host.Outcome State Fault Refusal :=
  finish (s.regLive (R.CAN_FQ_PUT n fq) (fun s => s.fqPut n fq value.toNat))

/-- FQ_FLUSH (R437). -/
def execFqFlush (n : Fin 16) (fq : Fin 3) (s : State) : Host.Outcome State Fault Refusal :=
  finish (s.regLive (R.CAN_FQ_CFG n fq) (fun s => s.fqFlush n fq))

/-- TB_CANCEL (R442). -/
def execTbCancel (n : Fin 16) (value : Word) (s : State) : Host.Outcome State Fault Refusal :=
  finish (s.regLive (R.CAN_TB_CANCEL n) (fun s => s.tbCancel n value.toNat))

/-- TRELLIS_COLUMN (R451). -/
def execTrellisColumn (n : Fin 16) (busIdle : Bool) (s : State) : Host.Outcome State Fault Refusal :=
  finish (s.live (fun s => s.trellisColumn n busIdle))

/-- TRELLIS_WRITE (R455). -/
def execTrellisWrite (n : Fin 16) (reg : Fin 3) (value : Word) (s : State) : Host.Outcome State Fault Refusal :=
  finish (s.regLive (trellisReg n reg) (fun s => s.trellisWrite n reg value.toNat))

/-- MODE_CHANGE (R420). -/
def execModeChange (n : Fin 16) (s : State) : Host.Outcome State Fault Refusal := finish (s.live (fun s => s.modeChange n))

/-- BIT_TIMING_WRITE (R425). -/
def execBitTimingWrite (n : Fin 16) (reg : Fin 4) (value : Word) (s : State) : Host.Outcome State Fault Refusal :=
  finish (s.regLive (timingReg n reg) (fun s => s.bitTimingWrite n reg value.toNat))

/-- MIRROR_EXPIRED (R470). -/
def execMirrorExpired (n : Fin 16) (tb : Fin 3) (s : State) : Host.Outcome State Fault Refusal :=
  finish (s.live (fun s => s.mirrorExpired n tb))

end Sys2Proof.Machine
end

