-- ==== Sys2Proof/Machine/CfgCommands.lean ====
section
/-! DEFINITION. The commands of one family: Configuration, the census, staging and maintenance (02; 15, R654 to R657). -/

namespace Sys2Proof.Machine

/-- CONFIGURATION_SCRUB (R65). -/
def execConfigurationScrub (disturbed : List Byte) (s : State) : Host.Outcome State Fault Refusal :=
  finish (s.configurationScrub (disturbed.map (·.toNat)))

/-- CENSUS_EVALUATE (R71). -/
def execCensusEvaluate (s : State) : Host.Outcome State Fault Refusal := finish (s.live (fun s => s.censusEvaluate))

/-- CENSUS_SETTLE (R73). -/
def execCensusSettle (s : State) : Host.Outcome State Fault Refusal := finish (s.live (fun s => s.censusSettle))

/-- CENSUS_AGE (R70). -/
def execCensusAge (entry : Fin 64) (s : State) : Host.Outcome State Fault Refusal := finish (s.live (fun s => s.censusAge entry))

/-- TRIAL_CONFIRM (R79). -/
def execTrialConfirm (s : State) : Host.Outcome State Fault Refusal := finish (s.live (fun s => s.trialConfirm))

/-- STAGE_BEGIN (R75). -/
def execStageBegin (req : MaintReq) (s : State) : Host.Outcome State Fault Refusal :=
  finish (s.maint req 0x10 (fun s => s.stageCommand 0x10 req))

/-- STAGE_WRITE (R76). -/
def execStageWrite (req : MaintReq) (s : State) : Host.Outcome State Fault Refusal :=
  finish (s.maint req 0x11 (fun s => s.stageCommand 0x11 req))

/-- STAGE_VERIFY (R656). -/
def execStageVerify (req : MaintReq) (s : State) : Host.Outcome State Fault Refusal :=
  finish (s.maint req 0x12 (fun s => s.stageCommand 0x12 req))

/-- STAGE_CHECK_DONE (R51). -/
def execStageCheckDone (s : State) : Host.Outcome State Fault Refusal := finish (s.live (fun s => s.stageCheckDone))

/-- ARM (R77). -/
def execArm (req : MaintReq) (s : State) : Host.Outcome State Fault Refusal :=
  finish (s.maint req 0x13 (fun s => s.stageCommand 0x13 req))

/-- DISARM (R656). -/
def execDisarm (req : MaintReq) (s : State) : Host.Outcome State Fault Refusal :=
  finish (s.maint req 0x14 (fun s => s.stageCommand 0x14 req))

/-- STAGE_ABORT (R656). -/
def execStageAbort (req : MaintReq) (s : State) : Host.Outcome State Fault Refusal :=
  finish (s.maint req 0x15 (fun s => s.stageCommand 0x15 req))

/-- CHALLENGE (R654). -/
def execChallenge (req : MaintReq) (s : State) : Host.Outcome State Fault Refusal := finish (s.challenge req)

/-- READ (R656). -/
def execRead (req : MaintReq) (s : State) : Host.Outcome State Fault Refusal := finish (s.maint req 1 (fun s => s.maintRead req))

/-- READ_BOTTLE (R656). -/
def execReadBottle (req : MaintReq) (s : State) : Host.Outcome State Fault Refusal :=
  finish (s.maint req 2 (fun s => s.maintBottle req))

/-- RESTART (R657). -/
def execRestart (req : MaintReq) (s : State) : Host.Outcome State Fault Refusal :=
  finish (s.maint req 0x20 (fun s => s.maintRestart req))

end Sys2Proof.Machine
end

