-- ==== Sys2Proof/Machine/CntCommands.lean ====
section
/-! DEFINITION. The commands of one family: Counters and harvest (17). -/

namespace Sys2Proof.Machine

/-- HARVEST_SWEEP (R702). -/
def execHarvestSweep (s : State) : Host.Outcome State Fault Refusal := finish (s.live (fun s => s.harvestSweep))

/-- HARVEST_START (R703). -/
def execHarvestStart (value : Word) (s : State) : Host.Outcome State Fault Refusal :=
  finish (s.regLive R.CNT_HARVEST (fun s => s.harvestWrite value.toNat))

/-- HARVEST_PERIOD_WRITE (R702). -/
def execHarvestPeriodWrite (value : Word) (s : State) : Host.Outcome State Fault Refusal :=
  finish (s.regLive R.CNT_HARVEST (fun s => s.harvestWrite value.toNat))

/-- SWEEP_COMPLETE (R706). -/
def execSweepComplete (s : State) : Host.Outcome State Fault Refusal := finish (s.live (fun s => s.sweepComplete))

/-- TD_SNAP (R717). -/
def execTdSnap (engine : Fin 8) (s : State) : Host.Outcome State Fault Refusal := finish (s.tdSnap engine)

end Sys2Proof.Machine
end

