-- ==== Sys2Proof/Machine/CphCommands.lean ====
section
/-! DEFINITION. The commands of one family: The cipher engine and the keys (12). -/

namespace Sys2Proof.Machine

/-- RING_PUT (R501). -/
def execRingPut (engine : Fin 8) (value : Word) (s : State) : Host.Outcome State Fault Refusal :=
  finish (s.regLive (R.CPH_RING_PUT engine) (fun s => s.ringPut engine value.toNat))

/-- NOP (R501). -/
def execNop (engine : Fin 8) (s : State) : Host.Outcome State Fault Refusal :=
  finish (s.live (fun s => s.dispatchTurn engine [0, 8, 9, 10, 11, 12, 13, 14, 15]))

/-- GCM_ENC (R505). -/
def execGcmEnc (engine : Fin 8) (s : State) : Host.Outcome State Fault Refusal :=
  finish (s.live (fun s => s.dispatchTurn engine [1]))

/-- GCM_DEC (R504). -/
def execGcmDec (engine : Fin 8) (s : State) : Host.Outcome State Fault Refusal :=
  finish (s.live (fun s => s.dispatchTurn engine [2]))

/-- CMAC_GEN (R505). -/
def execCmacGen (engine : Fin 8) (s : State) : Host.Outcome State Fault Refusal :=
  finish (s.live (fun s => s.dispatchTurn engine [3]))

/-- CMAC_VER (R504). -/
def execCmacVer (engine : Fin 8) (s : State) : Host.Outcome State Fault Refusal :=
  finish (s.live (fun s => s.dispatchTurn engine [4]))

/-- WRAP (R507). -/
def execWrap (engine : Fin 8) (s : State) : Host.Outcome State Fault Refusal :=
  finish (s.live (fun s => s.dispatchTurn engine [5]))

/-- UNWRAP (R504). -/
def execUnwrap (engine : Fin 8) (s : State) : Host.Outcome State Fault Refusal :=
  finish (s.live (fun s => s.dispatchTurn engine [6]))

/-- DERIVE (R508). -/
def execDerive (engine : Fin 8) (s : State) : Host.Outcome State Fault Refusal :=
  finish (s.live (fun s => s.dispatchTurn engine [7]))

/-- JOB_COMPLETE (R493). -/
def execJobComplete (engine : Fin 8) (differs : Bool) (s : State) : Host.Outcome State Fault Refusal :=
  finish (s.live (fun s => s.jobComplete engine differs))

/-- RING_ABORT (R506). -/
def execRingAbort (engine : Fin 8) (s : State) : Host.Outcome State Fault Refusal :=
  finish (s.regLive (R.CPH_RING_CTRL engine) (fun s => s.ringAbort engine))

/-- KEY_ERASE (R511). -/
def execKeyErase (value : Word) (s : State) : Host.Outcome State Fault Refusal :=
  finish (s.regLive R.CPH_KS_ERASE (fun s => s.keyErase value.toNat))

/-- KEY_DESTROYED (R512). -/
def execKeyDestroyed (slot : Byte) (s : State) : Host.Outcome State Fault Refusal := finish (s.keyDestroyed slot.toNat)

/-- CPH_KS_SEL (R507). -/
def execCphKsSel (value : Word) (s : State) : Host.Outcome State Fault Refusal :=
  finish (s.regLive R.CPH_KS_SEL (fun s => s.cphKsSel value.toNat))

/-- PAIR_EN_WRITE (R495). -/
def execPairEnWrite (value : Word) (s : State) : Host.Outcome State Fault Refusal :=
  finish (s.regLive R.CPH_CTRL (fun s => s.pairEnWrite value.toNat))

/-- TX_AN_WRITE (R523). -/
def execTxAnWrite (port : Fin 16) (an : Fin 4) (s : State) : Host.Outcome State Fault Refusal :=
  finish (s.regLive (R.CPH_MS_CTRL port) (fun s => s.txAnWrite port an))

end Sys2Proof.Machine
end

