-- ==== Sys2Proof/Machine/EgsCommands.lean ====
section
/-! DEFINITION. The commands of one family: Egress scheduling (08). -/

namespace Sys2Proof.Machine

/-- LIST_HEADER_COMMIT (R334). -/
def execListHeaderCommit (list : Fin 256) (s : State) : Host.Outcome State Fault Refusal :=
  finish (s.regLive R.EGS_COMMIT (fun s => s.listHeaderCommit list))

/-- GATE_ENTRY_COMMIT (R338). -/
def execGateEntryCommit (entry : Fin 4096) (s : State) : Host.Outcome State Fault Refusal :=
  finish (s.regLive R.EGS_COMMIT (fun s => s.gateEntryCommit entry))

/-- EGS_LIST_SEL (R334). -/
def execEgsListSel (value : Word) (s : State) : Host.Outcome State Fault Refusal :=
  finish (s.regLive R.EGS_LIST_SEL (fun s => s.egsListSel value.toNat))

/-- GATE_EVENT (R331). -/
def execGateEvent (list : Fin 256) (s : State) : Host.Outcome State Fault Refusal := finish (s.live (fun s => s.gateEvent list))

/-- CHANGE_INSTANT (R334). -/
def execChangeInstant (list : Fin 256) (s : State) : Host.Outcome State Fault Refusal :=
  finish (s.live (fun s => s.changeInstant list))

/-- TRANSMIT_SELECTION (R318). -/
def execTransmitSelection (port : Fin 28) (s : State) : Host.Outcome State Fault Refusal :=
  finish (s.live (fun s => s.transmitSelection port))

/-- HOLD_REQUEST (R350). -/
def execHoldRequest (port : Fin 16) (s : State) : Host.Outcome State Fault Refusal :=
  finish (s.live (fun s => s.holdRequest port))

/-- EGRESS_STAMP (R109). -/
def execEgressStamp (port : Fin 24) (phase : Nat) (s : State) : Host.Outcome State Fault Refusal :=
  finish (s.live (fun s => s.egressStamp port phase))

/-- TRANSMIT_COMPLETE (R285). -/
def execTransmitComplete (port : Fin 28) (s : State) : Host.Outcome State Fault Refusal :=
  finish (s.live (fun s => s.transmitComplete port))

/-- SHAPER_WRITE (R327). -/
def execShaperWrite (queue : Fin 224) (burst : Bool) (value : Word) (s : State) : Host.Outcome State Fault Refusal :=
  finish (s.regLive (if burst then R.EGS_Q_BURST queue else R.EGS_Q_SHAPER queue) (fun s => s.shaperWrite queue burst value.toNat))

/-- MAXDLY_CLEAR (R357). -/
def execMaxdlyClear (value : Word) (s : State) : Host.Outcome State Fault Refusal :=
  finish (s.regLive R.EGS_MAXDLY_CLEAR (fun s => s.maxdlyClear value.toNat))

/-- HM_CLEAR (R360). -/
def execHmClear (monitor : Fin 8) (s : State) : Host.Outcome State Fault Refusal :=
  finish (s.regLive (R.EGS_HM_CFG monitor) (fun s => s.hmClear monitor))

/-- HM_QUEUE_WRITE (R360). -/
def execHmQueueWrite (monitor : Fin 8) (value : Word) (s : State) : Host.Outcome State Fault Refusal :=
  finish (s.regLive (R.EGS_HM_CFG monitor) (fun s => s.hmQueueWrite monitor value.toNat))

/-- DEPTH_SAMPLE (R359). -/
def execDepthSample (monitor : Fin 8) (s : State) : Host.Outcome State Fault Refusal :=
  finish (s.live (fun s => s.depthSample monitor))

end Sys2Proof.Machine
end

