-- ==== Sys2Proof/Machine/EngCommands.lean ====
section
/-! DEFINITION. The commands of one family: Engines and access paths (15). -/

namespace Sys2Proof.Machine

/-- WD_KICK (R639). -/
def execWdKick (engine : Fin 8) (value : Word) (s : State) : Host.Outcome State Fault Refusal :=
  finish (s.regEng engine (R.ENG_WD_KICK engine) (fun s => s.wdKick engine value.toNat))

/-- WATCHDOG (R639). -/
def execWatchdog (engine : Fin 8) (s : State) : Host.Outcome State Fault Refusal := finish (s.watchdog engine)

/-- MACHINE_TIMER (R641). -/
def execMachineTimer (engine : Fin 8) (s : State) : Host.Outcome State Fault Refusal :=
  finish (s.live (fun s => s.machineTimer engine))

/-- MTIME_LO_READ (R641). -/
def execMtimeLoRead (engine : Fin 8) (s : State) : Host.Outcome State Fault Refusal := finish (s.mtimeLoRead engine)

/-- MB_SEND (R647). -/
def execMbSend (engine : Fin 8) (value : Word) (s : State) : Host.Outcome State Fault Refusal :=
  finish (s.regEng engine (R.ENG_MB_SEND engine) (fun s => s.mbSend engine value.toNat))

/-- MAILBOX_READ (R649). -/
def execMailboxRead (engine : Fin 8) (s : State) : Host.Outcome State Fault Refusal := finish (s.mailboxRead engine)

/-- EVENT_ROUTE (R644). -/
def execEventRoute (s : State) : Host.Outcome State Fault Refusal := finish (s.live (fun s => s.eventRoute))

/-- TXR_PUT (R650). -/
def execTxrPut (engine : Fin 8) (value : Word) (s : State) : Host.Outcome State Fault Refusal :=
  finish (s.regLive (R.ENG_TXR_PUT engine) (fun s => s.txrPut engine value.toNat))

/-- TX_DESCRIPTOR (R651). -/
def execTxDescriptor (engine : Fin 8) (s : State) : Host.Outcome State Fault Refusal :=
  finish (s.live (fun s => s.txDescriptor engine))

/-- RXR_FRAME (R653). -/
def execRxrFrame (s : State) : Host.Outcome State Fault Refusal := finish (s.live (fun s => s.rxrFrame))

/-- FLASH_WINDOW_READ (R635). -/
def execFlashWindowRead (engine : Fin 8) (addr : Word) (size : Byte) (s : State) : Host.Outcome State Fault Refusal :=
  finish (s.flashWindowRead engine addr.toNat size.toNat)

/-- COUNTER_LO_READ (R699). -/
def execCounterLoRead (engine : Fin 8) (addr : Word) (s : State) : Host.Outcome State Fault Refusal :=
  finish (s.counterLoRead engine addr.toNat)

/-- REGISTER_WRITE (R11). -/
def execRegisterWrite (engine : Fin 8) (addr value : Word) (s : State) : Host.Outcome State Fault Refusal :=
  finish (s.engineWrite engine addr.toNat value.toNat)

/-- HEAD0_READ (R110). -/
def execHead0Read (engine : Fin 8) (queue : HeadQueue) (s : State) : Host.Outcome State Fault Refusal :=
  finish (s.head0Read engine queue)

end Sys2Proof.Machine
end

