-- ==== Sys2Proof/Machine/FltCommands.lean ====
section
/-! DEFINITION. The commands of one family: Faults, the cellar and debug (16), and the temperature (18, R752). -/

namespace Sys2Proof.Machine

/-- The temperature sensors, read every 1 ms: TEMP, and MAX in two's complement, 0x8000 while none has been measured (18, R752). -/
def State.devTemp (s : State) (t : Nat) : State :=
  let m := s.rd F.DEV_TEMP_MAX
  let early : Bool := match s.boot.tempAt with
    | some a => decide (s.clk.now < a + 1000000)
    | none => false
  if early then s
  else ({ s with boot := { s.boot with tempAt := some s.clk.now } }.wr F.DEV_TEMP_TEMP t).wr F.DEV_TEMP_MAX (if m = 0x8000 ∨ sgn 16 m < sgn 16 t then t else m)

/-- LOCKSTEP_MISMATCH (R629). -/
def execLockstepMismatch (engine : Fin 8) (s : State) : Host.Outcome State Fault Refusal := finish (s.lockstep engine)

/-- BACKGROUND_SCRUB (R663). -/
def execBackgroundScrub (place : Option EccPlace) (correctable : Bool) (s : State) : Host.Outcome State Fault Refusal :=
  finish (s.live (fun s => s.backgroundScrub place correctable))

/-- SUPPLY_MONITOR (R675). -/
def execSupplyMonitor (rail : Fin 5) (high : Bool) (s : State) : Host.Outcome State Fault Refusal :=
  finish (s.supplyMonitor rail high)

/-- CLOCK_MONITOR (R676). -/
def execClockMonitor (clock : Fin 6) (s : State) : Host.Outcome State Fault Refusal := finish (s.clockMonitor clock)

/-- FAULT_RESTART (R668). -/
def execFaultRestart (pairId : Bool) (s : State) : Host.Outcome State Fault Refusal := finish (s.faultRestart pairId)

/-- CELLAR_RECORD (R678). -/
def execCellarRecord (s : State) : Host.Outcome State Fault Refusal := finish s.cellarRecord

/-- FLT_LOG_CMD (R680). -/
def execFltLogCmd (engine : Fin 8) (value : Word) (s : State) : Host.Outcome State Fault Refusal :=
  finish (s.regEng engine R.FLT_LOG_CMD (fun s => s.fltLog engine value.toNat))

/-- BOTTLED (R683). -/
def execBottled (flashOk : Bool) (s : State) : Host.Outcome State Fault Refusal := finish (s.bottled flashOk)

/-- DEBUG_OPEN (R691). -/
def execDebugOpen (code : BitVec 16) (s : State) : Host.Outcome State Fault Refusal := finish (s.debugOpen code.toNat)

/-- ZEROISATION_DONE (R692). -/
def execZeroisationDone (verified : Bool) (s : State) : Host.Outcome State Fault Refusal := finish (s.zeroisationDone verified)

/-- DEV_TEMP_UPDATE (R752). -/
def execDevTempUpdate (temp : BitVec 16) (s : State) : Host.Outcome State Fault Refusal :=
  finish (s.live (fun s => s.devTemp temp.toNat))

end Sys2Proof.Machine
end

