-- ==== Sys2Proof/Machine/FwdCommands.lean ====
section
/-! DEFINITION. The commands of one family: Forwarding and its tables (05). -/

namespace Sys2Proof.Machine

/-- FORWARDING_DECISION (R188). -/
def execForwardingDecision (port : Fin 28) (s : State) : Host.Outcome State Fault Refusal :=
  finish (s.live (fun s => s.forwardingDecision port))

/-- STAGING_CELL_TAKE (R279). -/
def execStagingCellTake (port : Fin 28) (s : State) : Host.Outcome State Fault Refusal :=
  finish (s.live (fun s => s.stagingCellTake port))

/-- LEARN_INSERT (R215). -/
def execLearnInsert (s : State) : Host.Outcome State Fault Refusal := finish (s.live (fun s => s.learnInsert))

/-- TABLE_WRITE (R15). -/
def execTableWrite (value : Word) (s : State) : Host.Outcome State Fault Refusal :=
  finish (s.regLive R.FWD_COMMIT (fun s => s.fwdTableWrite value.toNat))

/-- MAC_INSERT (R203). -/
def execMacInsert (s : State) : Host.Outcome State Fault Refusal := finish (s.regLive R.FWD_COMMIT (fun s => s.macInsertCommit))

/-- MAC_DELETE (R202). -/
def execMacDelete (s : State) : Host.Outcome State Fault Refusal := finish (s.regLive R.FWD_COMMIT (fun s => s.macDeleteCommit))

/-- MAC_LOOKUP (R202). -/
def execMacLookup (s : State) : Host.Outcome State Fault Refusal := finish (s.regLive R.FWD_COMMIT (fun s => s.macLookupCommit))

/-- SEED_WRITE (R212). -/
def execSeedWrite (which : Fin 2) (value : Word) (s : State) : Host.Outcome State Fault Refusal :=
  finish (s.regLive (R.FWD_SEED_CUR0 + 4 * which) (fun s => s.seedWrite which value.toNat))

/-- MIGRATE_START (R206). -/
def execMigrateStart (s : State) : Host.Outcome State Fault Refusal := finish (s.regLive R.FWD_MIGRATE (fun s => s.migrateStart))

/-- MIGRATE_STEP (R208). -/
def execMigrateStep (s : State) : Host.Outcome State Fault Refusal := finish (s.live (fun s => s.migrateStep))

/-- AGEING_SWEEP (R217). -/
def execAgeingSweep (s : State) : Host.Outcome State Fault Refusal := finish (s.live (fun s => s.ageingSweep))

/-- FWD_FLUSH (R218). -/
def execFwdFlush (value : Word) (s : State) : Host.Outcome State Fault Refusal :=
  finish (s.regLive R.FWD_FLUSH (fun s => s.fwdFlush value.toNat))

/-- TCAM_SCRUB (R228). -/
def execTcamScrub (slice : Fin 4096) (upset shadowUncorrectable : Bool) (s : State) : Host.Outcome State Fault Refusal :=
  finish (s.live (fun s => s.tcamScrub slice upset shadowUncorrectable))

/-- FWD_FLUSH_DONE (R218). -/
def execFwdFlushDone (s : State) : Host.Outcome State Fault Refusal := finish (s.live (fun s => s.wr F.FWD_FLUSH_BUSY 0))

end Sys2Proof.Machine
end

