-- ==== Sys2Proof/Machine/GlvCommands.lean ====
section
/-! DEFINITION. The commands of one family: Glove frames (11, R481 to R492). -/

namespace Sys2Proof.Machine

/-- GLOVE_ITEM (R484). -/
def execGloveItem (s : State) : Host.Outcome State Fault Refusal := finish (s.live (fun s => s.gloveItem))

/-- BUNDLE_CLOSE (R484). -/
def execBundleClose (c : Fin 24) (s : State) : Host.Outcome State Fault Refusal := finish (s.live (fun s => s.bundleClose c))

/-- GLOVE_KEEPALIVE (R484). -/
def execGloveKeepalive (c : Fin 24) (s : State) : Host.Outcome State Fault Refusal :=
  finish (s.live (fun s => s.gloveKeepalive c))

/-- DECAPSULATE (R488). -/
def execDecapsulate (s : State) : Host.Outcome State Fault Refusal := finish (s.live (fun s => s.decapsulate))

/-- RESYNC (R490). -/
def execResync (d : Fin 64) (s : State) : Host.Outcome State Fault Refusal := finish (s.live (fun s => s.resync d))

/-- GLV_COMMIT (R15). -/
def execGlvCommit (value : Word) (s : State) : Host.Outcome State Fault Refusal :=
  finish (s.regLive R.GLV_COMMIT (fun s => s.glvCommit value.toNat))

end Sys2Proof.Machine
end

