-- ==== Sys2Proof/Machine/MacCommands.lean ====
section
/-! DEFINITION. The commands of one family: The Ethernet ports (04). -/

namespace Sys2Proof.Machine

/-- FRAME_START_RX (R98). -/
def execFrameStartRx (port : Fin 24) (smd : Smd) (preambleOk : Bool) (phase : Nat) (bytes : List Byte) (s : State) : Host.Outcome State Fault Refusal :=
  finish (s.live (fun s => s.frameStartRx port smd preambleOk phase bytes))

/-- CALIBRATION_DONE (R99). -/
def execCalibrationDone (port : Fin 24) (s : State) : Host.Outcome State Fault Refusal :=
  finish (s.live (fun s => s.calibrationDone port))

/-- MAC_CTRL_WRITE (R143). -/
def execMacCtrlWrite (port : Fin 24) (value : Word) (s : State) : Host.Outcome State Fault Refusal :=
  finish (s.regLive (R.MAC_CTRL port) (fun s => s.macCtrlWrite port value.toNat))

/-- LINK_UP (R149). -/
def execLinkUp (port : Fin 24) (speed : Nat) (fullDuplex : Bool) (s : State) : Host.Outcome State Fault Refusal :=
  finish (s.live (fun s => s.linkComesUp port speed fullDuplex))

/-- LINK_DOWN (R150). -/
def execLinkDown (port : Fin 24) (s : State) : Host.Outcome State Fault Refusal := finish (s.live (fun s => s.linkGoesDown port))

/-- LINKDOWN_DISCARD (R150). -/
def execLinkdownDiscard (port : Fin 24) (s : State) : Host.Outcome State Fault Refusal :=
  finish (s.live (fun s => s.linkdownDiscard port))

/-- KR_TRAIN_FAILED (R148). -/
def execKrTrainFailed (port : Fin 24) (s : State) : Host.Outcome State Fault Refusal :=
  finish (s.live (fun s => s.krTrainFailed port))

/-- KR_RETRY (R148). -/
def execKrRetry (port : Fin 24) (s : State) : Host.Outcome State Fault Refusal := finish (s.live (fun s => s.krRetry port))

/-- FRAME_END_RX (R157). -/
def execFrameEndRx (port : Fin 24) (ending : RxEnd) (s : State) : Host.Outcome State Fault Refusal :=
  finish (s.live (fun s => s.frameEndRx port ending))

/-- PAUSE_EXPIRY (R172). -/
def execPauseExpiry (port : Fin 24) (cls : Fin 8) (s : State) : Host.Outcome State Fault Refusal :=
  finish (s.live (fun s => s.pauseExpiry port cls))

/-- PAUSE_WD_TRIP (R179). -/
def execPauseWdTrip (port : Fin 24) (s : State) : Host.Outcome State Fault Refusal :=
  finish (s.live (fun s => s.pauseWdTrip port))

/-- PAUSE_IGNORED_END (R179). -/
def execPauseIgnoredEnd (port : Fin 24) (s : State) : Host.Outcome State Fault Refusal :=
  finish (s.live (fun s => s.pauseIgnoredEnd port))

/-- PAUSE_REFRESH (R177). -/
def execPauseRefresh (port : Fin 24) (s : State) : Host.Outcome State Fault Refusal :=
  finish (s.live (fun s => s.pauseRefresh port))

/-- VERIFY_TIMER (R182). -/
def execVerifyTimer (port : Fin 24) (s : State) : Host.Outcome State Fault Refusal :=
  finish (s.live (fun s => s.verifyTimer port))

/-- PLCA_BEACON_LOST (R156). -/
def execPlcaBeaconLost (port : Fin 24) (s : State) : Host.Outcome State Fault Refusal :=
  finish (s.live (fun s => s.plcaBeaconLost port))

/-- MDIO_START (R153). -/
def execMdioStart (value : Word) (s : State) : Host.Outcome State Fault Refusal :=
  finish (s.regLive R.MAC_MDIO_CMD (fun s => s.mdioStart value.toNat))

/-- MDIO_DONE (R153). -/
def execMdioDone (data : BitVec 16) (s : State) : Host.Outcome State Fault Refusal :=
  finish (s.live (fun s => s.mdioDone data.toNat))

/-- PLCA_BEACON (R156). -/
def execPlcaBeacon (port : Fin 24) (s : State) : Host.Outcome State Fault Refusal := finish (s.live (fun s => s.plcaBeacon port))

/-- COLLISION (R362). -/
def execCollision (port : Fin 24) (s : State) : Host.Outcome State Fault Refusal := finish (s.live (fun s => s.collision port))

end Sys2Proof.Machine
end

