-- ==== Sys2Proof/Machine/PairCommands.lean ====
section
/-! DEFINITION. The commands of one family: The pair link, roles and mirroring (13). -/

namespace Sys2Proof.Machine

/-- LANES_ALIGNED (R549). -/
def execLanesAligned (s : State) : Host.Outcome State Fault Refusal := finish (s.live (fun s => s.lanesAligned))

/-- EPOCH (R539). -/
def execEpoch (value : Word) (s : State) : Host.Outcome State Fault Refusal := finish (s.live (fun s => s.epoch value.toNat))

/-- HEARTBEAT (R561). -/
def execHeartbeat (hb : Heartbeat) (s : State) : Host.Outcome State Fault Refusal := finish (s.live (fun s => s.heartbeat hb))

/-- HEARTBEAT_TX (R561). -/
def execHeartbeatTx (s : State) : Host.Outcome State Fault Refusal := finish (s.live (fun s => s.heartbeatTx))

/-- NAK (R556). -/
def execNak (seq : BitVec 16) (s : State) : Host.Outcome State Fault Refusal := finish (s.live (fun s => s.nak seq.toNat))

/-- RETRANSMIT (R556). -/
def execRetransmit (s : State) : Host.Outcome State Fault Refusal := finish (s.live (fun s => s.retransmit))

/-- QUOSOR_LINK_DOWN (R559). -/
def execQuosorLinkDown (s : State) : Host.Outcome State Fault Refusal := finish (s.live (fun s => s.quosorLinkDown))

/-- PAIR_PROBE (R563). -/
def execPairProbe (s : State) : Host.Outcome State Fault Refusal := finish (s.live (fun s => s.pairProbe))

/-- PARTNER_LOST (R564). -/
def execPartnerLost (s : State) : Host.Outcome State Fault Refusal := finish (s.live (fun s => s.partnerLost))

/-- FORM_WAIT (R545). -/
def execFormWait (s : State) : Host.Outcome State Fault Refusal := finish (s.live (fun s => s.formWait))

/-- MIRROR_LOST (R568). -/
def execMirrorLost (s : State) : Host.Outcome State Fault Refusal := finish (s.live (fun s => s.mirrorLost))

/-- FRAME (R553). -/
def execFrame (f : PairFrame) (s : State) : Host.Outcome State Fault Refusal := finish (s.live (fun s => s.pairFrame f))

/-- AUD_CHANGE (R380). -/
def execAudChange (c : AudChange) (s : State) : Host.Outcome State Fault Refusal :=
  finish (s.live (fun s => s.onSync (fun s => s.audChange c)))

/-- LI_FRAME (R407). -/
def execLiFrame (tdm : Fin 4) (strobe : Nat) (slots : List Word) (s : State) : Host.Outcome State Fault Refusal :=
  finish (s.live (fun s => s.onMirror (fun s => s.liFrame tdm strobe slots)))

/-- TWIN_DIGEST (R408). -/
def execTwinDigest (talker : Fin 64) (block : Nat) (crc : Word) (s : State) : Host.Outcome State Fault Refusal :=
  finish (s.live (fun s => s.onMirror (fun s => s.twinDigest talker block crc.toNat)))

/-- TDM_CMP (R400): the report is taken in as a frame of the link; the spec gives it no further use in the unit that receives it. -/
def execTdmCmp (_tdm : Fin 4) (_strobe : Nat) (s : State) : Host.Outcome State Fault Refusal :=
  finish (s.live (fun s => s.onLink (fun s => s)))

/-- CAN_APPEND (R436). -/
def execCanAppend (n : Fin 16) (fq : Fin 3) (element : List Byte) (s : State) : Host.Outcome State Fault Refusal :=
  finish (s.live (fun s => s.onSync (fun s => s.canAppend n fq element)))

/-- CAN_FLUSH (R437). -/
def execCanFlush (n : Fin 16) (fq : Fin 3) (s : State) : Host.Outcome State Fault Refusal :=
  finish (s.live (fun s => s.onMirror (fun s => s.flushRing n fq)))

/-- CAN_CANCEL (R445). -/
def execCanCancel (n : Fin 16) (tb : Fin 3) (tag : BitVec 16) (ident : BitVec 29) (s : State) : Host.Outcome State Fault Refusal :=
  finish (s.live (fun s => s.onMirror (fun s => s.canCancel n tb tag.toNat ident.toNat)))

/-- SER_APPEND (R480). -/
def execSerAppend (n : Fin 8) (element : List Byte) (s : State) : Host.Outcome State Fault Refusal :=
  finish (s.live (fun s => s.onSync (fun s => s.serAppend n element)))

/-- SER_FLUSH (R480). -/
def execSerFlush (n : Fin 8) (s : State) : Host.Outcome State Fault Refusal :=
  finish (s.live (fun s => s.onMirror (fun s => s.serFlush n)))

/-- LEASE (R531). Conventions: log entry 58 (DESIGN CHOICE). -/
def execLease (counter : Fin 48) (msg : LeaseMsg) (s : State) : Host.Outcome State Fault Refusal :=
  finish (s.live (fun s => s.onLink (fun s => s.leaseMsg counter msg)))

/-- WAK_STATE (R607). -/
def execWakState (msg : WakMsg) (s : State) : Host.Outcome State Fault Refusal :=
  finish (s.live (fun s => s.onMirror (fun s => s.wakMessage msg)))

/-- AUD_SYNC (R567). -/
def execAudSync (set_ : AudSync) (s : State) : Host.Outcome State Fault Refusal :=
  finish (s.live (fun s => s.onSync (fun s => s.syncReceived set_)))

/-- DUTY_OFFER (R583). -/
def execDutyOffer (index : Nat) (s : State) : Host.Outcome State Fault Refusal := finish (s.live (fun s => s.dutyOffer index))

/-- DUTY_TAKEN (R583). -/
def execDutyTaken (s : State) : Host.Outcome State Fault Refusal := finish (s.live (fun s => s.dutyTaken))

/-- RESTART_REQ (R582). -/
def execRestartReq (s : State) : Host.Outcome State Fault Refusal := finish (s.live (fun s => s.restartReq))

/-- RESTART_RSP (R582). -/
def execRestartRsp (accepted : Bool) (s : State) : Host.Outcome State Fault Refusal :=
  finish (s.live (fun s => s.restartRsp accepted))

/-- QLB_RESTART (R582). -/
def execQlbRestart (value : Word) (s : State) : Host.Outcome State Fault Refusal :=
  finish (s.regLive R.QLB_RESTART (fun s => s.qlbRestart value.toNat))

/-- QLB_HANDOVER (R583). -/
def execQlbHandover (value : Word) (s : State) : Host.Outcome State Fault Refusal :=
  finish (s.regLive R.QLB_HANDOVER (fun s => s.qlbHandover value.toNat))

/-- LINK_FRAME_DISCARDED (R555). -/
def execLinkFrameDiscarded (why : LinkBad) (s : State) : Host.Outcome State Fault Refusal :=
  finish (s.live (fun s => s.linkFrameDiscarded why))

/-- EPOCH_SEND (R539). -/
def execEpochSend (s : State) : Host.Outcome State Fault Refusal := finish (s.live (fun s => s.epochSend))

end Sys2Proof.Machine
end

