-- ==== Sys2Proof/Machine/ResetCommands.lean ====
section
/-! DEFINITION. The commands of one family: Resets and bring-up (18, R720, R729; 02, Table 2-9; 03, R80). -/

namespace Sys2Proof.Machine

/-- COLD_RESET (R720). -/
def execColdReset (pairId testEn : Bool) (s : State) : Host.Outcome State Fault Refusal := finish (s.coldReset pairId testEn)

/-- WARM_RESET (R720). -/
def execWarmReset (pairId : Bool) (s : State) : Host.Outcome State Fault Refusal := finish (s.warmReset pairId)

/-- AON_READY (R729). -/
def execAonReady (s : State) : Host.Outcome State Fault Refusal := finish (s.unsilent (fun s => s.aonReady))

/-- PLL_LOCK (R80). -/
def execPllLock (s : State) : Host.Outcome State Fault Refusal := finish (s.unsilent (fun s => s.pllLock))

/-- IMAGE_STREAMED (R51). -/
def execImageStreamed (s : State) : Host.Outcome State Fault Refusal := finish s.imageStreamed

/-- SIGNATURE_VERIFIED (R52). -/
def execSignatureVerified (s : State) : Host.Outcome State Fault Refusal := finish s.signatureVerified

/-- POLL_TIMEOUT (R44). -/
def execPollTimeout (s : State) : Host.Outcome State Fault Refusal := finish s.pollTimeout

/-- FORWARDING (R56). -/
def execForwarding (s : State) : Host.Outcome State Fault Refusal := finish s.reachForwarding

end Sys2Proof.Machine
end

