-- ==== Sys2Proof/Machine/SctCommands.lean ====
section
/-! DEFINITION. The commands of one family: Stream channels (06). -/

namespace Sys2Proof.Machine

/-- SCT_COMMIT (R242). -/
def execSctCommit (value : Word) (s : State) : Host.Outcome State Fault Refusal :=
  finish (s.regLive R.SCT_COMMIT (fun s => s.sctCommit value.toNat))

/-- SCT_STATE_SEL (R241). -/
def execSctStateSel (value : Word) (s : State) : Host.Outcome State Fault Refusal :=
  finish (s.regLive R.SCT_STATE_SEL (fun s => s.sctStateSel value.toNat))

/-- RCV_RESET (R263). -/
def execRcvReset (handle : Fin 512) (s : State) : Host.Outcome State Fault Refusal := finish (s.live (fun s => s.rcvReset handle))

/-- LATENCY_CLEAR (R271). -/
def execLatencyClear (monitor : Fin 16) (value : Word) (s : State) : Host.Outcome State Fault Refusal :=
  finish (s.regLive (R.SCT_LAT_THRESH monitor) (fun s => s.latencyClear monitor value.toNat))

end Sys2Proof.Machine
end

