-- ==== Sys2Proof/Machine/SerCommands.lean ====
section
/-! DEFINITION. The commands of one family: The serial channels (11). -/

namespace Sys2Proof.Machine

/-- SERIAL_CHARACTER (R474). -/
def execSerialCharacter (n : Fin 8) (value : Byte) (parityErr framingErr : Bool) (s : State) : Host.Outcome State Fault Refusal :=
  finish (s.live (fun s => s.serialCharacter n value.toNat parityErr framingErr))

/-- MESSAGE_CLOSE (R473). -/
def execMessageClose (n : Fin 8) (cause : SerClose) (s : State) : Host.Outcome State Fault Refusal :=
  finish (s.live (fun s => s.messageClose n cause))

/-- SERIAL_TX_START (R478). -/
def execSerialTxStart (n : Fin 8) (s : State) : Host.Outcome State Fault Refusal := finish (s.live (fun s => s.serialTxStart n))

/-- SERIAL_TX_END (R478). -/
def execSerialTxEnd (n : Fin 8) (s : State) : Host.Outcome State Fault Refusal := finish (s.live (fun s => s.serialTxEnd n))

/-- SER_TXQ_PUT (R477). -/
def execSerTxqPut (n : Fin 8) (value : Word) (s : State) : Host.Outcome State Fault Refusal :=
  finish (s.regLive (R.SER_TXQ_PUT n) (fun s => s.serTxqPut n value.toNat))

/-- SER_BAUD_WRITE (R472). -/
def execSerBaudWrite (n : Fin 8) (value : Word) (s : State) : Host.Outcome State Fault Refusal :=
  finish (s.regLive (R.SER_BAUD n) (fun s => s.serBaudWrite n value.toNat))

/-- SER_MIRROR_EXPIRED (R480). -/
def execSerMirrorExpired (n : Fin 8) (s : State) : Host.Outcome State Fault Refusal :=
  finish (s.live (fun s => s.serMirrorExpired n))

end Sys2Proof.Machine
end

