-- ==== Sys2Proof/Machine/TimeCommands.lean ====
section
/-! DEFINITION. The commands of one family: Network time, pulses, captures and the sample strobe (03). -/

namespace Sys2Proof.Machine

/-- DC_STEP (R82). -/
def execDcStep (n : Fin 2) (stepNs : Word) (s : State) : Host.Outcome State Fault Refusal :=
  finish (s.regLive (R.TSU_DC_STEP_NS n) (fun s => s.dcStep n stepNs.toNat))

/-- DC_RATE (R82). -/
def execDcRate (n : Fin 2) (rate : Word) (s : State) : Host.Outcome State Fault Refusal :=
  finish (s.regLive (R.TSU_DC_RATE n) (fun s => s.dcRateWrite n rate.toNat))

/-- USABLE_SET (R84). -/
def execUsableSet (n : Fin 2) (s : State) : Host.Outcome State Fault Refusal :=
  finish (s.regLive (R.TSU_DC_CTRL n) (fun s => s.usableSet n))

/-- DOMAIN_LOST (R85). -/
def execDomainLost (n : Fin 2) (s : State) : Host.Outcome State Fault Refusal := finish (s.live (fun s => s.domainLost n))

/-- FORCE_STEP (R86). -/
def execForceStep (s : State) : Host.Outcome State Fault Refusal := finish (s.regLive R.TSU_CTRL (fun s => s.forceStep))

/-- LOAD_WT (R760). -/
def execLoadWt (s : State) : Host.Outcome State Fault Refusal := finish (s.regLive R.TSU_CTRL (fun s => s.loadWt))

/-- WT_SRC_WRITE (R87). -/
def execWtSrcWrite (src : Fin 2) (s : State) : Host.Outcome State Fault Refusal :=
  finish (s.regLive R.TSU_CTRL (fun s => s.wtSrcWrite src))

/-- SNAP (R115). -/
def execSnap (s : State) : Host.Outcome State Fault Refusal := finish (s.regLive R.TSU_CTRL (fun s => s.snap))

/-- SLEW_UPDATE (R89). -/
def execSlewUpdate (s : State) : Host.Outcome State Fault Refusal := finish (s.live (fun s => s.slewUpdate))

/-- PAIR_WT_MISMATCH (R95). -/
def execPairWtMismatch (s : State) : Host.Outcome State Fault Refusal := finish (s.live (fun s => s.pairWtMismatch))

/-- PLS_CTRL_WRITE (R128). -/
def execPlsCtrlWrite (n : Fin 8) (value : Word) (s : State) : Host.Outcome State Fault Refusal :=
  finish (s.regLive (R.TSU_PLS_CTRL n) (fun s => s.plsCtrlWrite n value.toNat))

/-- PULSE_EDGE (R124). -/
def execPulseEdge (n : Fin 8) (s : State) : Host.Outcome State Fault Refusal := finish (s.live (fun s => s.pulseEdge n))

/-- CAPTURE_EDGE (R131). -/
def execCaptureEdge (n : Fin 4) (rising : Bool) (heldNs phase : Nat) (s : State) : Host.Outcome State Fault Refusal :=
  finish (s.live (fun s => s.captureEdge n rising heldNs phase))

/-- SAMPLE_STROBE (R132). -/
def execSampleStrobe (errNs : Int) (tdmIn tdmLine : List (List Word)) (s : State) : Host.Outcome State Fault Refusal :=
  finish (s.sampleStrobe errNs tdmIn tdmLine)

end Sys2Proof.Machine
end

