-- ==== Sys2Proof/Machine/WakCommands.lean ====
section
/-! DEFINITION. The commands of one family: Sleep and wake (14). -/

namespace Sys2Proof.Machine

/-- KEEP_ALIVE_TX (R602). -/
def execKeepAliveTx (s : State) : Host.Outcome State Fault Refusal := finish (s.live (fun s => s.keepAliveTx))

/-- KEEP_ALIVE_RX (R603). -/
def execKeepAliveRx (s : State) : Host.Outcome State Fault Refusal := finish (s.live (fun s => s.keepAliveRx))

/-- NEED_WRITE (R602). -/
def execNeedWrite (value : Word) (s : State) : Host.Outcome State Fault Refusal :=
  finish (s.regLive R.WAK_NEED (fun s => s.needWrite value.toNat))

/-- PEER_NEED_EXPIRY (R605). -/
def execPeerNeedExpiry (peer : BitVec 48) (s : State) : Host.Outcome State Fault Refusal :=
  finish (s.live (fun s => s.peerNeedExpiry peer.toNat))

/-- MIN_AWAKE (R606). -/
def execMinAwake (s : State) : Host.Outcome State Fault Refusal := finish (s.live (fun s => s.minAwake))

/-- READY_HOLD (R606). -/
def execReadyHold (s : State) : Host.Outcome State Fault Refusal := finish (s.live (fun s => s.readyHold))

/-- SLEEP_COMMIT (R608). -/
def execSleepCommit (s : State) : Host.Outcome State Fault Refusal := finish (s.live (fun s => s.sleepCommit))

/-- SLEEP_ENTRY (R624). -/
def execSleepEntry (s : State) : Host.Outcome State Fault Refusal := finish (s.live (fun s => s.sleepEntry))

/-- WAKE_N (R613). -/
def execWakeN (heldUs : Nat) (s : State) : Host.Outcome State Fault Refusal := finish (s.unsilent (fun s => s.wakeN heldUs))

/-- WAKE_TIMER (R613). -/
def execWakeTimer (s : State) : Host.Outcome State Fault Refusal := finish (s.unsilent (fun s => s.wakeTimer))

/-- SIGNAL_DETECT (R613). -/
def execSignalDetect (port : Fin 4) (heldUs : Nat) (s : State) : Host.Outcome State Fault Refusal :=
  finish (s.unsilent (fun s => s.signalDetect port heldUs))

/-- CAN_WAKE (R616). -/
def execCanWake (c : Fin 4) (ev : CanWakeEvent) (s : State) : Host.Outcome State Fault Refusal :=
  finish (s.unsilent (fun s => s.canWake c ev))

/-- T1S_WAKE (R620). -/
def execT1sWake (n : Fin 8) (ev : T1sWakeEvent) (s : State) : Host.Outcome State Fault Refusal :=
  finish (s.unsilent (fun s => s.t1sWake n ev))

/-- DWELL_END (R612). -/
def execDwellEnd (s : State) : Host.Outcome State Fault Refusal := finish (s.unsilent (fun s => s.dwellEnd))

/-- WAKE_SUPPLY_GOOD (R626). -/
def execWakeSupplyGood (s : State) : Host.Outcome State Fault Refusal := finish (s.unsilent (fun s => s.wakeSupplyGood))

/-- SUPPLY_FAIL (R606). -/
def execSupplyFail (s : State) : Host.Outcome State Fault Refusal := finish (s.unsilent (fun s => s.supplyFail))

/-- FALSE_WAKE (R621). -/
def execFalseWake (s : State) : Host.Outcome State Fault Refusal := finish (s.live (fun s => s.falseWake))

/-- QUARANTINE_END (R623). -/
def execQuarantineEnd (source : Fin 32) (s : State) : Host.Outcome State Fault Refusal :=
  finish (s.unsilent (fun s => s.quarantineEnd source))

/-- QUAR_CLEAR (R623). -/
def execQuarClear (value : Word) (s : State) : Host.Outcome State Fault Refusal :=
  finish (s.regLive R.WAK_QUAR_CLEAR (fun s => s.quarClear value.toNat))

/-- FAILSAFE_SLEEP (R625). -/
def execFailsafeSleep (s : State) : Host.Outcome State Fault Refusal := finish (s.unsilent (fun s => s.failsafeSleep))

/-- THROTTLE_ENTER (R595). -/
def execThrottleEnter (s : State) : Host.Outcome State Fault Refusal := finish (s.unsilent (fun s => s.throttleEnter))

/-- THROTTLE_EXIT (R596). -/
def execThrottleExit (s : State) : Host.Outcome State Fault Refusal := finish (s.unsilent (fun s => s.throttleExit))

/-- THROTTLE_BOTTLING (R597). -/
def execThrottleBottling (s : State) : Host.Outcome State Fault Refusal := finish (s.live (fun s => s.throttleBottling))

/-- BROWN_OUT (R598). -/
def execBrownOut (millivolt : Nat) (s : State) : Host.Outcome State Fault Refusal := finish (s.brownOut millivolt)

/-- CRYSTAL_CHECK (R677). -/
def execCrystalCheck (within : Bool) (s : State) : Host.Outcome State Fault Refusal := finish (s.crystalCheck within)

end Sys2Proof.Machine
end

