-- ==== Sys2Proof/Machine/Dispatch.lean ====
section
/-! DEFINITION. The command's meaning, by its constructor. -/

namespace Sys2Proof.Machine

def exec (i : Instr) (s : State) : Host.Outcome State Fault Refusal :=
  match i with
  | .coldReset pairId testEn => Sys2Proof.Machine.execColdReset pairId testEn s
  | .warmReset pairId => Sys2Proof.Machine.execWarmReset pairId s
  | .aonReady => Sys2Proof.Machine.execAonReady s
  | .pllLock => Sys2Proof.Machine.execPllLock s
  | .imageStreamed => Sys2Proof.Machine.execImageStreamed s
  | .signatureVerified => Sys2Proof.Machine.execSignatureVerified s
  | .pollTimeout => Sys2Proof.Machine.execPollTimeout s
  | .forwarding => Sys2Proof.Machine.execForwarding s
  | .configurationScrub disturbed => Sys2Proof.Machine.execConfigurationScrub disturbed s
  | .censusEvaluate => Sys2Proof.Machine.execCensusEvaluate s
  | .censusSettle => Sys2Proof.Machine.execCensusSettle s
  | .censusAge entry => Sys2Proof.Machine.execCensusAge entry s
  | .trialConfirm => Sys2Proof.Machine.execTrialConfirm s
  | .stageBegin req => Sys2Proof.Machine.execStageBegin req s
  | .stageWrite req => Sys2Proof.Machine.execStageWrite req s
  | .stageVerify req => Sys2Proof.Machine.execStageVerify req s
  | .stageCheckDone => Sys2Proof.Machine.execStageCheckDone s
  | .arm req => Sys2Proof.Machine.execArm req s
  | .disarm req => Sys2Proof.Machine.execDisarm req s
  | .stageAbort req => Sys2Proof.Machine.execStageAbort req s
  | .challenge req => Sys2Proof.Machine.execChallenge req s
  | .read req => Sys2Proof.Machine.execRead req s
  | .readBottle req => Sys2Proof.Machine.execReadBottle req s
  | .restart req => Sys2Proof.Machine.execRestart req s
  | .dcStep n stepNs => Sys2Proof.Machine.execDcStep n stepNs s
  | .dcRate n rate => Sys2Proof.Machine.execDcRate n rate s
  | .usableSet n => Sys2Proof.Machine.execUsableSet n s
  | .domainLost n => Sys2Proof.Machine.execDomainLost n s
  | .forceStep => Sys2Proof.Machine.execForceStep s
  | .loadWt => Sys2Proof.Machine.execLoadWt s
  | .wtSrcWrite src => Sys2Proof.Machine.execWtSrcWrite src s
  | .snap => Sys2Proof.Machine.execSnap s
  | .slewUpdate => Sys2Proof.Machine.execSlewUpdate s
  | .pairWtMismatch => Sys2Proof.Machine.execPairWtMismatch s
  | .frameStartRx port smd preambleOk phase bytes => Sys2Proof.Machine.execFrameStartRx port smd preambleOk phase bytes s
  | .calibrationDone port => Sys2Proof.Machine.execCalibrationDone port s
  | .head0Read engine queue => Sys2Proof.Machine.execHead0Read engine queue s
  | .plsCtrlWrite n value => Sys2Proof.Machine.execPlsCtrlWrite n value s
  | .pulseEdge n => Sys2Proof.Machine.execPulseEdge n s
  | .captureEdge n rising heldNs phase => Sys2Proof.Machine.execCaptureEdge n rising heldNs phase s
  | .sampleStrobe errNs tdmIn tdmLine => Sys2Proof.Machine.execSampleStrobe errNs tdmIn tdmLine s
  | .macCtrlWrite port value => Sys2Proof.Machine.execMacCtrlWrite port value s
  | .linkUp port speed fullDuplex => Sys2Proof.Machine.execLinkUp port speed fullDuplex s
  | .linkDown port => Sys2Proof.Machine.execLinkDown port s
  | .linkdownDiscard port => Sys2Proof.Machine.execLinkdownDiscard port s
  | .krTrainFailed port => Sys2Proof.Machine.execKrTrainFailed port s
  | .krRetry port => Sys2Proof.Machine.execKrRetry port s
  | .frameEndRx port ending => Sys2Proof.Machine.execFrameEndRx port ending s
  | .pauseExpiry port cls => Sys2Proof.Machine.execPauseExpiry port cls s
  | .pauseWdTrip port => Sys2Proof.Machine.execPauseWdTrip port s
  | .pauseIgnoredEnd port => Sys2Proof.Machine.execPauseIgnoredEnd port s
  | .pauseRefresh port => Sys2Proof.Machine.execPauseRefresh port s
  | .verifyTimer port => Sys2Proof.Machine.execVerifyTimer port s
  | .plcaBeaconLost port => Sys2Proof.Machine.execPlcaBeaconLost port s
  | .mdioStart value => Sys2Proof.Machine.execMdioStart value s
  | .mdioDone data => Sys2Proof.Machine.execMdioDone data s
  | .forwardingDecision port => Sys2Proof.Machine.execForwardingDecision port s
  | .stagingCellTake port => Sys2Proof.Machine.execStagingCellTake port s
  | .learnInsert => Sys2Proof.Machine.execLearnInsert s
  | .tableWrite value => Sys2Proof.Machine.execTableWrite value s
  | .macInsert => Sys2Proof.Machine.execMacInsert s
  | .macDelete => Sys2Proof.Machine.execMacDelete s
  | .macLookup => Sys2Proof.Machine.execMacLookup s
  | .seedWrite which value => Sys2Proof.Machine.execSeedWrite which value s
  | .migrateStart => Sys2Proof.Machine.execMigrateStart s
  | .migrateStep => Sys2Proof.Machine.execMigrateStep s
  | .ageingSweep => Sys2Proof.Machine.execAgeingSweep s
  | .fwdFlush value => Sys2Proof.Machine.execFwdFlush value s
  | .tcamScrub slice upset shadowUncorrectable => Sys2Proof.Machine.execTcamScrub slice upset shadowUncorrectable s
  | .sctCommit value => Sys2Proof.Machine.execSctCommit value s
  | .sctStateSel value => Sys2Proof.Machine.execSctStateSel value s
  | .rcvReset handle => Sys2Proof.Machine.execRcvReset handle s
  | .latencyClear monitor value => Sys2Proof.Machine.execLatencyClear monitor value s
  | .listHeaderCommit list => Sys2Proof.Machine.execListHeaderCommit list s
  | .gateEntryCommit entry => Sys2Proof.Machine.execGateEntryCommit entry s
  | .egsListSel value => Sys2Proof.Machine.execEgsListSel value s
  | .gateEvent list => Sys2Proof.Machine.execGateEvent list s
  | .changeInstant list => Sys2Proof.Machine.execChangeInstant list s
  | .transmitSelection port => Sys2Proof.Machine.execTransmitSelection port s
  | .holdRequest port => Sys2Proof.Machine.execHoldRequest port s
  | .egressStamp port phase => Sys2Proof.Machine.execEgressStamp port phase s
  | .transmitComplete port => Sys2Proof.Machine.execTransmitComplete port s
  | .shaperWrite queue burst value => Sys2Proof.Machine.execShaperWrite queue burst value s
  | .maxdlyClear value => Sys2Proof.Machine.execMaxdlyClear value s
  | .hmClear monitor => Sys2Proof.Machine.execHmClear monitor s
  | .hmQueueWrite monitor value => Sys2Proof.Machine.execHmQueueWrite monitor value s
  | .depthSample monitor => Sys2Proof.Machine.execDepthSample monitor s
  | .bufCommit value => Sys2Proof.Machine.execBufCommit value s
  | .leakAudit => Sys2Proof.Machine.execLeakAudit s
  | .auditWalkDone => Sys2Proof.Machine.execAuditWalkDone s
  | .stuckHead queue => Sys2Proof.Machine.execStuckHead queue s
  | .queueFlush value => Sys2Proof.Machine.execQueueFlush value s
  | .tapChange index => Sys2Proof.Machine.execTapChange index s
  | .outputChange index => Sys2Proof.Machine.execOutputChange index s
  | .tgTrigger index => Sys2Proof.Machine.execTgTrigger index s
  | .tgStop index => Sys2Proof.Machine.execTgStop index s
  | .localOffset index => Sys2Proof.Machine.execLocalOffset index s
  | .talker index => Sys2Proof.Machine.execTalker index s
  | .audCommit index => Sys2Proof.Machine.execAudCommit index s
  | .wrEsiHiWrite n value => Sys2Proof.Machine.execWrEsiHiWrite n value s
  | .marginClear listener value => Sys2Proof.Machine.execMarginClear listener value s
  | .listenerFrame => Sys2Proof.Machine.execListenerFrame s
  | .canFrameReceived n ago frame => Sys2Proof.Machine.execCanFrameReceived n ago frame s
  | .canFrameStart n => Sys2Proof.Machine.execCanFrameStart n s
  | .canFrameSent n => Sys2Proof.Machine.execCanFrameSent n s
  | .arbitrationLost n => Sys2Proof.Machine.execArbitrationLost n s
  | .canError n kind => Sys2Proof.Machine.execCanError n kind s
  | .canRecover n value => Sys2Proof.Machine.execCanRecover n value s
  | .busOffRecovery n => Sys2Proof.Machine.execBusOffRecovery n s
  | .tbLoad n tb => Sys2Proof.Machine.execTbLoad n tb s
  | .fqPut n fq value => Sys2Proof.Machine.execFqPut n fq value s
  | .fqFlush n fq => Sys2Proof.Machine.execFqFlush n fq s
  | .tbCancel n value => Sys2Proof.Machine.execTbCancel n value s
  | .trellisColumn n busIdle => Sys2Proof.Machine.execTrellisColumn n busIdle s
  | .trellisWrite n reg value => Sys2Proof.Machine.execTrellisWrite n reg value s
  | .modeChange n => Sys2Proof.Machine.execModeChange n s
  | .bitTimingWrite n reg value => Sys2Proof.Machine.execBitTimingWrite n reg value s
  | .mirrorExpired n tb => Sys2Proof.Machine.execMirrorExpired n tb s
  | .serialCharacter n value parityErr framingErr => Sys2Proof.Machine.execSerialCharacter n value parityErr framingErr s
  | .messageClose n cause => Sys2Proof.Machine.execMessageClose n cause s
  | .serialTxStart n => Sys2Proof.Machine.execSerialTxStart n s
  | .serialTxEnd n => Sys2Proof.Machine.execSerialTxEnd n s
  | .serTxqPut n value => Sys2Proof.Machine.execSerTxqPut n value s
  | .serBaudWrite n value => Sys2Proof.Machine.execSerBaudWrite n value s
  | .serMirrorExpired n => Sys2Proof.Machine.execSerMirrorExpired n s
  | .gloveItem => Sys2Proof.Machine.execGloveItem s
  | .bundleClose c => Sys2Proof.Machine.execBundleClose c s
  | .gloveKeepalive c => Sys2Proof.Machine.execGloveKeepalive c s
  | .decapsulate => Sys2Proof.Machine.execDecapsulate s
  | .resync d => Sys2Proof.Machine.execResync d s
  | .glvCommit value => Sys2Proof.Machine.execGlvCommit value s
  | .ringPut engine value => Sys2Proof.Machine.execRingPut engine value s
  | .nop engine => Sys2Proof.Machine.execNop engine s
  | .gcmEnc engine => Sys2Proof.Machine.execGcmEnc engine s
  | .gcmDec engine => Sys2Proof.Machine.execGcmDec engine s
  | .cmacGen engine => Sys2Proof.Machine.execCmacGen engine s
  | .cmacVer engine => Sys2Proof.Machine.execCmacVer engine s
  | .wrap engine => Sys2Proof.Machine.execWrap engine s
  | .unwrap engine => Sys2Proof.Machine.execUnwrap engine s
  | .derive engine => Sys2Proof.Machine.execDerive engine s
  | .jobComplete engine differs => Sys2Proof.Machine.execJobComplete engine differs s
  | .ringAbort engine => Sys2Proof.Machine.execRingAbort engine s
  | .keyErase value => Sys2Proof.Machine.execKeyErase value s
  | .keyDestroyed slot => Sys2Proof.Machine.execKeyDestroyed slot s
  | .cphKsSel value => Sys2Proof.Machine.execCphKsSel value s
  | .pairEnWrite value => Sys2Proof.Machine.execPairEnWrite value s
  | .txAnWrite port an => Sys2Proof.Machine.execTxAnWrite port an s
  | .lanesAligned => Sys2Proof.Machine.execLanesAligned s
  | .epoch value => Sys2Proof.Machine.execEpoch value s
  | .heartbeat hb => Sys2Proof.Machine.execHeartbeat hb s
  | .heartbeatTx => Sys2Proof.Machine.execHeartbeatTx s
  | .nak seq => Sys2Proof.Machine.execNak seq s
  | .retransmit => Sys2Proof.Machine.execRetransmit s
  | .quosorLinkDown => Sys2Proof.Machine.execQuosorLinkDown s
  | .pairProbe => Sys2Proof.Machine.execPairProbe s
  | .partnerLost => Sys2Proof.Machine.execPartnerLost s
  | .formWait => Sys2Proof.Machine.execFormWait s
  | .mirrorLost => Sys2Proof.Machine.execMirrorLost s
  | .frame f => Sys2Proof.Machine.execFrame f s
  | .audChange c => Sys2Proof.Machine.execAudChange c s
  | .liFrame tdm strobe slots => Sys2Proof.Machine.execLiFrame tdm strobe slots s
  | .twinDigest talker block crc => Sys2Proof.Machine.execTwinDigest talker block crc s
  | .tdmCmp tdm strobe => Sys2Proof.Machine.execTdmCmp tdm strobe s
  | .canAppend n fq element => Sys2Proof.Machine.execCanAppend n fq element s
  | .canFlush n fq => Sys2Proof.Machine.execCanFlush n fq s
  | .canCancel n tb tag ident => Sys2Proof.Machine.execCanCancel n tb tag ident s
  | .serAppend n element => Sys2Proof.Machine.execSerAppend n element s
  | .serFlush n => Sys2Proof.Machine.execSerFlush n s
  | .lease counter msg => Sys2Proof.Machine.execLease counter msg s
  | .wakState msg => Sys2Proof.Machine.execWakState msg s
  | .audSync set_ => Sys2Proof.Machine.execAudSync set_ s
  | .dutyOffer index => Sys2Proof.Machine.execDutyOffer index s
  | .dutyTaken => Sys2Proof.Machine.execDutyTaken s
  | .restartReq => Sys2Proof.Machine.execRestartReq s
  | .restartRsp accepted => Sys2Proof.Machine.execRestartRsp accepted s
  | .qlbRestart value => Sys2Proof.Machine.execQlbRestart value s
  | .qlbHandover value => Sys2Proof.Machine.execQlbHandover value s
  | .bridgeRead tag size addr => Sys2Proof.Machine.execBridgeRead tag size addr s
  | .bridgeWrite tag size addr data => Sys2Proof.Machine.execBridgeWrite tag size addr data s
  | .semAcq tag sem => Sys2Proof.Machine.execSemAcq tag sem s
  | .semRel tag sem => Sys2Proof.Machine.execSemRel tag sem s
  | .readRsp tag status data => Sys2Proof.Machine.execReadRsp tag status data s
  | .writeAck tag status => Sys2Proof.Machine.execWriteAck tag status s
  | .semRsp tag status => Sys2Proof.Machine.execSemRsp tag status s
  | .semRetry tag => Sys2Proof.Machine.execSemRetry tag s
  | .partnerWindowLoad engine addr size => Sys2Proof.Machine.execPartnerWindowLoad engine addr size s
  | .partnerWindowStore engine addr data size => Sys2Proof.Machine.execPartnerWindowStore engine addr data size s
  | .bridgeTimeout tag => Sys2Proof.Machine.execBridgeTimeout tag s
  | .qlbFence engine fence => Sys2Proof.Machine.execQlbFence engine fence s
  | .lr engine addr => Sys2Proof.Machine.execLr engine addr s
  | .sc engine addr data => Sys2Proof.Machine.execSc engine addr data s
  | .amo engine op addr data => Sys2Proof.Machine.execAmo engine op addr data s
  | .keepAliveTx => Sys2Proof.Machine.execKeepAliveTx s
  | .keepAliveRx => Sys2Proof.Machine.execKeepAliveRx s
  | .needWrite value => Sys2Proof.Machine.execNeedWrite value s
  | .peerNeedExpiry peer => Sys2Proof.Machine.execPeerNeedExpiry peer s
  | .minAwake => Sys2Proof.Machine.execMinAwake s
  | .readyHold => Sys2Proof.Machine.execReadyHold s
  | .sleepCommit => Sys2Proof.Machine.execSleepCommit s
  | .sleepEntry => Sys2Proof.Machine.execSleepEntry s
  | .wakeN heldUs => Sys2Proof.Machine.execWakeN heldUs s
  | .wakeTimer => Sys2Proof.Machine.execWakeTimer s
  | .signalDetect port heldUs => Sys2Proof.Machine.execSignalDetect port heldUs s
  | .canWake c ev => Sys2Proof.Machine.execCanWake c ev s
  | .t1sWake n ev => Sys2Proof.Machine.execT1sWake n ev s
  | .dwellEnd => Sys2Proof.Machine.execDwellEnd s
  | .wakeSupplyGood => Sys2Proof.Machine.execWakeSupplyGood s
  | .supplyFail => Sys2Proof.Machine.execSupplyFail s
  | .falseWake => Sys2Proof.Machine.execFalseWake s
  | .quarantineEnd source => Sys2Proof.Machine.execQuarantineEnd source s
  | .quarClear value => Sys2Proof.Machine.execQuarClear value s
  | .failsafeSleep => Sys2Proof.Machine.execFailsafeSleep s
  | .throttleEnter => Sys2Proof.Machine.execThrottleEnter s
  | .throttleExit => Sys2Proof.Machine.execThrottleExit s
  | .throttleBottling => Sys2Proof.Machine.execThrottleBottling s
  | .brownOut millivolt => Sys2Proof.Machine.execBrownOut millivolt s
  | .crystalCheck within => Sys2Proof.Machine.execCrystalCheck within s
  | .wdKick engine value => Sys2Proof.Machine.execWdKick engine value s
  | .watchdog engine => Sys2Proof.Machine.execWatchdog engine s
  | .machineTimer engine => Sys2Proof.Machine.execMachineTimer engine s
  | .mtimeLoRead engine => Sys2Proof.Machine.execMtimeLoRead engine s
  | .mbSend engine value => Sys2Proof.Machine.execMbSend engine value s
  | .mailboxRead engine => Sys2Proof.Machine.execMailboxRead engine s
  | .eventRoute => Sys2Proof.Machine.execEventRoute s
  | .txrPut engine value => Sys2Proof.Machine.execTxrPut engine value s
  | .txDescriptor engine => Sys2Proof.Machine.execTxDescriptor engine s
  | .rxrFrame => Sys2Proof.Machine.execRxrFrame s
  | .flashWindowRead engine addr size => Sys2Proof.Machine.execFlashWindowRead engine addr size s
  | .counterLoRead engine addr => Sys2Proof.Machine.execCounterLoRead engine addr s
  | .registerWrite engine addr value => Sys2Proof.Machine.execRegisterWrite engine addr value s
  | .lockstepMismatch engine => Sys2Proof.Machine.execLockstepMismatch engine s
  | .backgroundScrub place correctable => Sys2Proof.Machine.execBackgroundScrub place correctable s
  | .supplyMonitor rail high => Sys2Proof.Machine.execSupplyMonitor rail high s
  | .clockMonitor clock => Sys2Proof.Machine.execClockMonitor clock s
  | .faultRestart pairId => Sys2Proof.Machine.execFaultRestart pairId s
  | .cellarRecord => Sys2Proof.Machine.execCellarRecord s
  | .fltLogCmd engine value => Sys2Proof.Machine.execFltLogCmd engine value s
  | .bottled flashOk => Sys2Proof.Machine.execBottled flashOk s
  | .debugOpen code => Sys2Proof.Machine.execDebugOpen code s
  | .zeroisationDone verified => Sys2Proof.Machine.execZeroisationDone verified s
  | .harvestSweep => Sys2Proof.Machine.execHarvestSweep s
  | .harvestStart value => Sys2Proof.Machine.execHarvestStart value s
  | .harvestPeriodWrite value => Sys2Proof.Machine.execHarvestPeriodWrite value s
  | .sweepComplete => Sys2Proof.Machine.execSweepComplete s
  | .tdSnap engine => Sys2Proof.Machine.execTdSnap engine s
  | .plcaBeacon port => Sys2Proof.Machine.execPlcaBeacon port s
  | .collision port => Sys2Proof.Machine.execCollision port s
  | .queueFlushDone => Sys2Proof.Machine.execQueueFlushDone s
  | .fwdFlushDone => Sys2Proof.Machine.execFwdFlushDone s
  | .epochSend => Sys2Proof.Machine.execEpochSend s
  | .linkFrameDiscarded why => Sys2Proof.Machine.execLinkFrameDiscarded why s
  | .devTempUpdate temp => Sys2Proof.Machine.execDevTempUpdate temp s

end Sys2Proof.Machine
end

