-- ==== Sys2Proof/Machine/Tick.lean ====
section
/-! DEFINITION. One cycle of the TIME clock, taken when no command waits. -/

namespace Sys2Proof.Machine

/-- The clocks over one TIME cycle of 4 ns: LC by 4 ns, the domain clocks and WT by their gains (03, R80, R81, R89).
Conventions: log entry 6 (DESIGN CHOICE). -/
def State.tickClocks (s : State) : State :=
  { s with clk := { s.clk with lc := s.clk.lc + 2 ^ 41, dc0 := s.clk.dc0 + s.dcGain 0, dc1 := s.clk.dc1 + s.dcGain 1,
                               wt := s.clk.wt + s.wtGain } }

/-- The time of the power domain AON advances by 4 ns. Conventions: log entry 6 (DESIGN CHOICE). -/
def State.tickNow (s : State) : State := { s with clk := { s.clk with now := s.clk.now + 4 } }

/-- One cycle of the TIME clock: the clocks, what follows working time in HOLDOVER, the shapers' credits, the heads of blocked queues and
the slot counters (03, R80, R81, R90; 08, R326; 07, R313; 17, R714).
Conventions: log entries 6 (DESIGN CHOICE), 57 (DESIGN CHOICE). -/
def tick (s : State) : State :=
  let s := s.tickNow
  settle (if s.clk.on then s.tickClocks.holdoverCheck.noteMismatch.tickShapers.holdHeads.slotTick else s)

end Sys2Proof.Machine
end

