-- ==== Sys2Proof/Machine/Step.lean ====
section
/-! DEFINITION. One step: the command at the front of the queue, or one cycle of the TIME clock. -/

namespace Sys2Proof.Machine

/-- The command at the front of the queue has its effect with the rest of the queue; on an empty queue the clocks advance by one
TIME cycle (03, R80; log entry 6). Conventions: log entries 6 (DESIGN CHOICE), 9 (DESIGN CHOICE). -/
def step (s : State) : Host.Outcome State Fault Refusal :=
  match s.pending with
  | [] => .next (Sys2Proof.Machine.tick s)
  | i :: r => exec i { s with pending := r }

/-- A command put at the front of the queue. Conventions: log entry 9 (DESIGN CHOICE). -/
def State.push (s : State) (i : Instr) : State := { s with pending := i :: s.pending }

/-- The state with the command that a word spells at the front of its queue: unchanged, as no word spells one.
Conventions: log entry 9 (DESIGN CHOICE). -/
def State.withFetchWord (s : State) (nbits w : Nat) : State :=
  match Sys2Proof.decodeTableWord nbits w with
  | some i => s.push i
  | none => s

end Sys2Proof.Machine
end

