-- ==== Sys2Proof/Machine/Balls.lean ====
section
/-! DEFINITION. The levels of the balls that follow from the state: CAN, serial, TDM, flash reset, the backbone and T1S transmitters, in
every power state and at fail-silence (04, R141; 10, R421, R422; 11, R479; 14, R591, R614, R616, R624; 16, R664; 18, R719, R723, R749). -/

namespace Sys2Proof.Machine

/-- What a ball shows: a level, high impedance (for a differential pair: electrical idle), or what its block sends. -/
inductive Ball where
  | low
  | high
  | z
  | sends
  deriving DecidableEq, Repr

def levelOf (b : Bool) : Ball := if b then .high else .low

/-- The core rails are off or the core is held: SLEEP and WAKING (14, Tables 14-1 and 14-8). -/
def State.asleep (s : State) : Bool := decide (3 ≤ s.power)

/-- PWR_REQ (14, R591; 16, R664). -/
def State.ballPwrReq (s : State) : Ball := levelOf s.wak.pwrReq

/-- CANn_STB: high until step 12, then by STB_MODE and the mode in force, its level kept at fail-silence; in SLEEP the detector's for CAN0
to CAN3 and high for the others (R421, R422; 14, R616, Table 14-8; 16, R664). Conventions: log entry 56 (DEDUCED). -/
def State.ballCanStb (s : State) (n : Nat) : Ball :=
  if s.asleep then levelOf (!(decide (n < 4) && s.wak.armed.testBit (16 + n) && decide (s.rd (F.WAK_C_CTRL_MODE n) ≠ 0)))
  else if s.boot.step < 12 then .high
  else
    match s.rd (F.CAN_CTRL_STB_MODE n) with
    | 1 => .high
    | 2 => .low
    | _ => levelOf (decide (s.rd (F.CAN_STATUS_EFF_MODE n) = 0))

/-- CANn_TX: recessive until step 12, at fail-silence, in the modes that drive nothing (OFF, MONITOR and LOOPBACK) and at bus-off; in SLEEP
recessive for CAN0 to CAN3 and high-impedance for the others (Table 10-1, R421, R467; 02, R56; 14, R615, Table 14-8).
Conventions: log entry 56 (DEDUCED). -/
def State.ballCanTx (s : State) (n : Nat) : Ball :=
  if s.asleep then (if n < 4 then .high else .z)
  else if s.boot.step < 12 ∨ s.flt.silent ∨ s.rd (F.CAN_STATUS_STATE n) = 2 then .high
  else
    match s.rd (F.CAN_STATUS_EFF_MODE n) with
    | 1 => .sends
    | 3 => .sends
    | _ => .high

/-- PLSn: active while its pulse lasts, at the level POLARITY gives; inactive when off and at fail-silence, high-impedance in SLEEP, its bank
being off (03, R124, R125, Table 3-12; 16, R664; 18, R727). Conventions: log entry 56 (DEDUCED). -/
def State.ballPls (s : State) (n : Nat) : Ball :=
  if s.asleep then .z else levelOf ((s.pulse n).high != ((s.pulse n).ctrl.testBit 4))

/-- SERn_DE: high-impedance from reset until step 8 and in SLEEP; driven inactive or active, by DE_POL, afterwards (11, R479; 14, Table
14-8; 18, R749). Conventions: log entry 56 (DEDUCED). -/
def State.ballSerDe (s : State) (n : Nat) : Ball :=
  if s.asleep ∨ s.boot.step < 8 then .z
  else levelOf ((!s.flt.silent && s.on (F.SER_STATUS_DE n)) != s.on (F.SER_CTRL_DE_POL n))

/-- SERn_TX: high while DE is inactive, high-impedance in SLEEP (11, R479; 14, Table 14-8). -/
def State.ballSerTx (s : State) (n : Nat) : Ball :=
  if s.asleep then .z else if ¬ s.flt.silent ∧ s.on (F.SER_STATUS_TX_BUSY n) then .sends else .high

/-- The outputs of a TDM port (09, R399; 14, Table 14-8; 16, R664). -/
def State.ballTdm (s : State) (p : Nat) : Ball :=
  if ¬ s.asleep ∧ ¬ s.flt.silent ∧ s.on (F.AUD_TDM_STATUS_DRIVING p) then .sends else .z

/-- FL_RESET_N: low from the start of every reset until step 3 (18, R723). FL_CS_N is held high in SLEEP (18, R719). -/
def State.ballFlReset (s : State) : Ball := levelOf (s.asleep || decide (3 ≤ s.boot.step))

/-- P0 to P3 transmit idle blocks at a bring-up that follows a wake, from the lock of PLL_SD at step 3 until step 11, by FWD_PORTS (14,
R614). Conventions: log entry 56 (DEDUCED). -/
def State.idleBlocks (s : State) (p : Nat) : Bool :=
  decide (p < 4) && s.on F.WAK_CTRL_WAKE_FWD && decide (s.rd F.DEV_RESET_CAUSE_CAUSE = 4) && (s.rd F.WAK_CTRL_FWD_PORTS).testBit p &&
    decide (3 ≤ s.boot.step) && decide (s.boot.step < 11) && !s.asleep && !s.flt.silent

/-- The transmitter of an external port: it sends what its port sends while ENABLE is 1, or idle blocks by R614; off, serdes lanes stand in
electrical idle, RGMII outputs low (in SLEEP high-impedance) and T1S transmitters high-impedance (04, R141; 14, Table 14-8; 16, R664).
Conventions: log entry 56 (DEDUCED). -/
def State.ballPort (s : State) (p : Nat) : Ball :=
  if s.asleep then .z
  else if ¬ s.flt.silent ∧ (s.idleBlocks p ∨ (11 ≤ s.boot.step ∧ s.on (F.MAC_CTRL_ENABLE p))) then .sends
  else if 12 ≤ p ∧ p < 16 then .low
  else .z

/-- What receives in SLEEP: the signal detectors of P0 to P3, the wake receivers of P16 to P23 and the CAN wake detectors, each while its
source is armed (14, R609, R613, Table 14-8). -/
def State.listensAsleep (s : State) (source : Nat) : Bool := s.asleep && s.wak.armed.testBit source

end Sys2Proof.Machine
end

