-- ==== Sys2Proof/Safety.lean ====
section
/-! DEFINITION. What a safe run is, and what the statements say of a state: it is calm, a unit that is down drives nothing, no
reset that is due is left standing, and the sleep agreement stands on the absence of need. -/

namespace Sys2Proof

/-- The device goes on from a state: its step answers a next state. -/
def goesOn (s : Machine.State) : Prop := ∃ t, Machine.step s = .next t

/-- Nothing follows from the state by itself: no reaction, hand-over, reset, sweep, poll, challenge or staging write waits, and
the unit is up, with no sleep agreement and no wake to be judged. -/
def Machine.State.calm (s : Machine.State) : Prop :=
  s.down = false ∧ s.flt.react = 0 ∧ s.flt.reacting = false ∧ s.flt.due = 0 ∧ s.qlb.handover = none ∧ s.eng.chalWait = none ∧ s.boot.stageWait = [] ∧
    s.boot.pollEnd = none ∧ (s.boot.forwardAt = none ∨ s.wak.judged = true) ∧ s.agreement ≠ 1 ∧ s.agreement ≠ 2

/-- A unit that is fail-silent or held in SLEEP drives nothing (16, R664, R665; 14, Table 14-5). -/
def Machine.State.downQuiet (s : Machine.State) : Prop :=
  s.down = true →
    s.rd Machine.F.ENG_RUN_RUNNING = 0 ∧
    (∀ p, p < 24 → (s.port p).tx = none ∧ (s.port p).rest = none ∧ (s.port p).ctrl = [] ∧
      s.rd (Machine.F.MAC_STATUS_TX_ON p) = 0) ∧
    (∀ n, (Machine.sget Machine.pls0 s.pls n).high = false ∧ (Machine.sget Machine.pls0 s.pls n).edge = none) ∧
    (∀ n, n < 8 → s.rd (Machine.F.SER_STATUS_DE n) = 0 ∧ s.rd (Machine.F.SER_STATUS_TX_BUSY n) = 0) ∧
    (∀ p, p < 4 → s.rd (Machine.F.AUD_TDM_STATUS_DRIVING p) = 0)

/-- No harvest sweep runs in a unit that is fail-silent or held (17, R708). -/
def Machine.State.sweepCut (s : Machine.State) : Prop := s.down = true → s.cnt.run = none

/-- A reset that is due has taken place; one that waits for the answer to a maintenance restart has that answer on its way out
(16, R672; 15, R657). -/
def Machine.State.resetTaken (s : Machine.State) : Prop :=
  s.flt.due ≠ 1 ∧ s.flt.due ≠ 2 ∧ (s.flt.due = 3 → s.answering = true)

/-- READY and PREPARE stand only without need and with EN set (14, Table 14-4). -/
def Machine.State.needHeeded (s : Machine.State) : Prop :=
  s.alive = true → (s.agreement = 1 ∨ s.agreement = 2) → s.networkNeed = 0 ∧ s.on Machine.F.WAK_CTRL_EN = true

/-- A write to a register has its effect: firmware runs, and the scrub set does not hold the register locked (01, R25; 02, R64). -/
def Machine.State.writable (s : Machine.State) (a : Nat) : Prop := s.firmwareRuns = true ∧ s.scrubLocked a = false

/-- No staging request waits for a bottling that runs (02, R76). -/
def Machine.State.stageFree (s : Machine.State) : Prop := s.flt.bottling = none ∨ s.boot.stageWait = []

/-- E2 takes an authenticated maintenance request (15, R655): it runs, the version is 1, the CMAC verifies, and COUNTER lies in
the window of its slot above LAST. -/
def Machine.State.accepts (s : Machine.State) (r : MaintReq) (cmd : Nat) : Prop :=
  s.runtimeActs = true ∧ r.version.toNat = 1 ∧ s.maintVerify r cmd = 0 ∧ (s.job 0).counterFits r = true

/-- The state in which an accepted request acts: its CMAC job is counted, and LAST is its COUNTER (15, R655). -/
def Machine.State.accepted (s : Machine.State) (r : MaintReq) : Machine.State :=
  { s.job 0 with eng := { (s.job 0).eng with last := Machine.sput 0 r.slot.toNat r.counter.toNat (s.job 0).eng.last } }

/-- The memories are in canonical form (Table 15-1): what they list differs from what an unlisted byte reads as. -/
def Machine.State.memWf (s : Machine.State) : Prop :=
  Machine.swf (fun _ => (0 : Byte)) s.mem = true ∧ Machine.swf (fun _ => (0xFF : Byte)) s.flash = true

end Sys2Proof
end

