-- ==== Sys2Proof/Certificates/Slice0/Obligations.lean ====
section
/-! DEFINITION. The statements for the provers. In each, `.next (settle t)` says that the command has the effect `t`, and that
what follows from a state by itself (`settle`) has then followed; in a calm state nothing follows. -/

open Sys2Proof Sys2Proof.Machine

/-- A step runs the command at the front of the queue: In every state and for every command, a step with that command at the front
of the queue answers what the command answers on the state with the rest of the queue. (INDEX.md, 95_what_each_step_holds.md) -/
def Obligations.StepTakesTheFront : Prop :=
  ∀ (c : Instr) (r : List Instr) (s : State), s.pending = c :: r → step s = exec c { s with pending := r }

/-- No command stops the device: For every command and every state, exec answers a next state, and that state is one from which
nothing more follows at once (settle of the command's own effect); so a step of every state answers a next state. (INDEX.md,
95_what_each_step_holds.md) -/
def Obligations.EveryCommandAnswers : Prop :=
  (∀ (c : Instr) (s : State), ∃ t, exec c s = .next (settle t)) ∧ (∀ s : State, goesOn s)

/-- A calm state stands, and with no command waiting one TIME cycle passes (the model's choice, log entry 6): Nothing follows by
itself from a calm state: one that is up, with no hand-over, reaction, reset, poll, challenge, staging write or sleep agreement
waiting; so a command's answer is then its own effect. On an empty queue a step of a calm state whose clocks do not run only
advances the time since the cold reset by 4 ns. That an empty queue stands for a TIME cycle is the model's choice (log entry
6). (03_network_time.md, R80, 95_what_each_step_holds.md, R583, R621, R672, R708) -/
def Obligations.IdleStepsTick : Prop :=
  (∀ s : State, s.calm → settle s = s) ∧
  (∀ s : State, s.pending = [] → s.clk.on = false → s.calm →
    step s = .next { s with clk := { s.clk with now := s.clk.now + 4 } })

/-- A unit that is fail-silent or asleep drives nothing and runs no sweep: After every step of every state, if the unit is fail-
silent or held in SLEEP then no engine runs, no port below P24 has a frame in transmission or waiting to go on, MAC transmit is
off on each of them, every pulse output is inactive without an edge to come, no serial channel drives its bus, no TDM port
drives its balls, and no harvest sweep is in progress. (R664, R665, R612, R708, 14_sleep_and_wake.md) -/
def Obligations.DownDrivesNothing : Prop :=
  ∀ s t : State, s.downQuiet → s.sweepCut → step s = .next t → t.downQuiet ∧ t.sweepCut

/-- A reset that is due takes place in the step that makes it due: After every step of every state no warm reset and no partner-
requested reset is left due, and a maintenance restart is left due only while its answer is still on its way out. (R657, R672,
R582) -/
def Obligations.DueResetsAreTaken : Prop :=
  ∀ s t : State, s.resetTaken → step s = .next t → t.resetTaken

/-- READY and PREPARE never stand beside need: After every step of every state, a running unit whose sleep agreement is READY or
PREPARE sees no network need and has WAK_CTRL.EN set (Table 14-4). (14_sleep_and_wake.md, R605, R606) -/
def Obligations.NeedEndsTheAgreement : Prop :=
  ∀ s t : State, s.needHeeded → step s = .next t → t.needHeeded

/-- Every step keeps the memories canonical: If the memory and the flash list their bytes at strictly rising addresses, and list
none that equals what an unlisted byte reads as, then so they do after every step. (15_engines_and_access.md,
02_configuration_image_and_vintage.md) -/
def Obligations.MemoriesStayCanonical : Prop :=
  ∀ s t : State, s.memWf → step s = .next t → t.memWf

/-- The reset state has every invariant: The state after reset drives nothing while down, runs no sweep while down, has no reset
due, heeds need, has canonical memories, and is calm with an empty queue. (02_configuration_image_and_vintage.md, R664, R708) -/
def Obligations.ResetHoldsTheInvariants : Prop :=
  State.reset.downQuiet ∧ State.reset.sweepCut ∧ State.reset.resetTaken ∧ State.reset.needHeeded ∧ State.reset.memWf ∧
    State.reset.calm ∧ State.reset.pending = []

/-- What a cold reset leaves: A cold reset answers a next state in which every register but DEV_RESET_CAUSE, DEV_STRAP and
QLB_STATUS reads its reset value, no memory byte is listed, every table entry is at its reset content, the buffer is empty, the
clocks stand, bring-up is at step 1, and RESET_CAUSE reads 0; the flash, the OTP and the persistent store are kept, and PAIR_ID
shows the strap sampled. (R60, R721, R720, R677, 18_pins_power_package.md) -/
def Obligations.ColdResetLeaves : Prop :=
  ∀ (pairId testEn : Bool) (s : State), ∃ t, exec (.coldReset pairId testEn) s = .next t ∧
    (∀ a, a ≠ R.DEV_RESET_CAUSE → a ≠ R.DEV_STRAP → a ≠ R.QLB_STATUS → t.reg a = regReset a) ∧
    t.rd F.DEV_RESET_CAUSE_CAUSE = 0 ∧ t.regN R.DEV_STRAP = b2n pairId + b2n testEn * 2 ∧
    t.rd F.QLB_STATUS_UNIT = b2n pairId ∧
    t.mem = [] ∧ t.tables = [] ∧ t.buf = buf0 ∧ t.clk = clk0 ∧ t.cph = cph0 ∧ t.mac = [] ∧ t.aud = aud0 ∧ t.can = [] ∧
    t.ser = [] ∧ t.glv = glv0 ∧ t.flt = flt0 ∧ t.boot.step = 1 ∧ t.boot.pairId = pairId ∧
    t.flash = s.flash ∧ t.otp = s.otp ∧ t.pers = s.pers ∧ t.pending = s.pending

/-- What a warm reset keeps: A warm reset answers a next state that keeps every byte of the always-on SRAM, with the records of the
events on their way to the cellar written first, the flash, the OTP, the persistent store and the time since the cold reset;
every byte of memory outside the always-on SRAM is gone, the tables are at their reset contents, the buffer is empty,
RESET_CAUSE reads 1, the strap is the one sampled, and bring-up is at step 1. Every register outside WAK but DEV_RESET_CAUSE,
DEV_STRAP, QLB_STATUS, FLT_STATUS, FLT_MON, FLT_FS_DATA and FLT_CELLAR_HEAD reads its reset value. (R60, R721, R590, R669,
R681) -/
def Obligations.WarmResetLeaves : Prop :=
  ∀ (pairId : Bool) (s : State), ∃ t, exec (.warmReset pairId) s = .next t ∧
    (∀ a, t.byte a = if aonByte a then s.flushCellar.byte a else 0) ∧ (s.fltq = [] → s.flushCellar = s) ∧
    (∀ a, wakReg a = false → a ≠ R.DEV_RESET_CAUSE → a ≠ R.DEV_STRAP → a ≠ R.QLB_STATUS → a ≠ R.FLT_STATUS → a ≠ R.FLT_MON →
      a ≠ R.FLT_FS_DATA → a ≠ R.FLT_CELLAR_HEAD → t.reg a = regReset a) ∧
    t.rd F.DEV_RESET_CAUSE_CAUSE = 1 ∧ t.rd F.QLB_STATUS_UNIT = b2n pairId ∧ t.boot.step = 1 ∧ t.boot.pairId = pairId ∧
    t.flash = s.flash ∧ t.otp = s.otp ∧ t.pers = s.pers ∧ t.clk = { clk0 with now := s.clk.now } ∧ t.tables = [] ∧
    t.buf = buf0 ∧ t.pending = s.pending

/-- The steps of bring-up: AON_READY leads from step 1 to step 2. PLL_LOCK at step 2 starts the clocks with LC, both domain clocks
and WT at 0 and the next strobe index 5, increments BOOT of the cellar unless the reset was a cold one, and goes on to the
bottles, the persistent store and the choice of a slot. IMAGE_STREAMED at step 5 of a slot whose image, fingerprint, key hash
and boot record are in order copies the firmware and goes to step 6. SIGNATURE_VERIFIED at step 6 with a good signature shows
the vintage and the fingerprint, sets the default parameters and applies the image. A poll whose timeout has passed at step 8
ends the slot. FORWARDING at step 11 goes to step 12, shows the time, enables MAC transmit, settles the boot record and starts
the services. (R80, R51, R52, R44, R56, R761, R83, R57, R761) -/
def Obligations.BringUpReachesItsSteps : Prop :=
  ∀ s : State, s.flt.silent = false →
    (s.boot.step = 1 → exec .aonReady s = .next (settle { s with boot := { s.boot with step := 2 } })) ∧
    (s.boot.step = 2 →
      let u := { s with clk := { s.clk with on := true, lc := 0, dc0 := 0, dc1 := 0, wt := 0, esi := 0, nextK := 5 } }
      (s.rd F.DEV_RESET_CAUSE_CAUSE = 0 → exec .pllLock s = .next (settle u.checkBottles.loadPersistent.chooseSlot)) ∧
      (s.rd F.DEV_RESET_CAUSE_CAUSE ≠ 0 →
        exec .pllLock s = .next (settle
          (u.wr F.FLT_CELLAR_HEAD_BOOT (s.rd F.FLT_CELLAR_HEAD_BOOT + 1)).checkBottles.loadPersistent.chooseSlot))) ∧
    (s.boot.step = 5 → s.imgOk s.boot.slot → (s.copyFirmware s.boot.slot).printOk s.boot.slot →
      (s.copyFirmware s.boot.slot).keyHashOk s.boot.slot → (s.copyFirmware s.boot.slot).recordOk s.boot.slot →
      exec .imageStreamed s = .next (settle { (s.copyFirmware s.boot.slot).wr F.CFG_STATUS_STATE 2 with
        boot := { (s.copyFirmware s.boot.slot).boot with step := 6 } })) ∧
    (s.boot.step = 6 → s.signatureOk s.boot.slot →
      exec .signatureVerified s = .next (settle
        (((((s.wr F.CFG_STATUS_STATE 3).wr F.CFG_VINTAGE_NUMBER (s.imgVintage s.boot.slot)).setPair R.CFG_FP_LO R.CFG_FP_HI
          (s.imgPrint s.boot.slot)).setParams 0 (s.imgVintage s.boot.slot) 3 5 60).applyImage))) ∧
    (∀ t, s.boot.step = 8 → s.boot.pollEnd = some t → t ≤ s.clk.now →
      exec .pollTimeout s = .next (settle ({ s with boot := { s.boot with pollEnd := none } }).slotFailsOpen)) ∧
    (s.boot.step = 11 →
      exec .forwarding s = .next (settle
        (((((({ s with boot := { s.boot with step := 12, forwardAt := some s.clk.now } }).wr F.CFG_STATUS_STATE 5).setRegN
          R.CFG_BRINGUP_TIME ((s.clk.now - s.boot.since) / 1000)).setTxOn 1).settleRecord.startService).atOnce
            ((((({ s with boot := { s.boot with step := 12, forwardAt := some s.clk.now } }).wr F.CFG_STATUS_STATE 5).setRegN
              R.CFG_BRINGUP_TIME ((s.clk.now - s.boot.since) / 1000)).setTxOn 1).settleRecord.startService.rd
                F.CFG_CENSUS_HOLD_SETTLE) State.censusSettle)))

/-- A census entry without a report ages out: In a running unit, a valid census entry that has had no report for AGE seconds is
removed (its six registers read 0) and OVERFLOW clears; an entry that is not valid or whose report is younger, and every entry
when AGE is 0, stays. (R70) -/
def Obligations.CensusAgeing : Prop :=
  ∀ (s : State) (i : Fin 64), s.alive = true →
    (s.rd F.CFG_CENSUS_CFG_AGE ≠ 0 → s.censusValid i = true →
      sget 0 s.boot.seenAt i + s.rd F.CFG_CENSUS_CFG_AGE * 1000000000 ≤ s.clk.now →
      ∃ t, exec (.censusAge i) s = .next (settle t) ∧
        (∀ k, k < 6 → t.reg (R.CFG_CENSUS_E_MAC_LO i + 4 * k) = 0) ∧ t.censusValid i = false ∧
        t.rd F.CFG_CENSUS_STATUS_OVERFLOW = 0 ∧ t.boot.censusDirty = true ∧
        (∀ a, a ≠ R.CFG_CENSUS_STATUS → (∀ k, k < 6 → a ≠ R.CFG_CENSUS_E_MAC_LO i + 4 * k) → t.reg a = s.reg a) ∧
        t.mem = s.mem ∧ t.flash = s.flash) ∧
    ((s.rd F.CFG_CENSUS_CFG_AGE = 0 ∨ s.censusValid i = false ∨
        s.clk.now < sget 0 s.boot.seenAt i + s.rd F.CFG_CENSUS_CFG_AGE * 1000000000) →
      exec (.censusAge i) s = .next (settle s))

/-- When the census is judged and what it raises: CENSUS_SETTLE does nothing before SETTLE seconds after forwarding; at or after
that instant, the first time, it recomputes the counts (R71), shows whether the census is in order (R72), and raises 0x0202
when CENSUS_OK changes to 1 and 0x0201 when it is 0. A later CENSUS_EVALUATE of a changed table does the same but raises 0x0201
only at a change from 1 to 0; before the first judgement it recomputes the counts alone. (R73, R71, R72) -/
def Obligations.CensusJudgement : Prop :=
  ∀ (s : State), s.alive = true →
    (∀ t, s.boot.forwardAt = some t → s.clk.now < t + s.rd F.CFG_CENSUS_HOLD_SETTLE * 1000000000 →
      exec .censusSettle s = .next (settle s)) ∧
    (∀ t, s.boot.forwardAt = some t → s.boot.settled = false → t + s.rd F.CFG_CENSUS_HOLD_SETTLE * 1000000000 ≤ s.clk.now →
      let u := ({ s with boot := { s.boot with settled := true, censusDirty := false } }).censusCount
      let v := u.wr F.CFG_CENSUS_STATUS_CENSUS_OK (b2n u.censusOk)
      exec .censusSettle s = .next (settle
        (if u.censusOk then (if u.on F.CFG_CENSUS_STATUS_CENSUS_OK then v else v.raise 0x0202 0) else v.raise 0x0201 0))) ∧
    (s.boot.censusDirty = true →
      let u := ({ s with boot := { s.boot with censusDirty := false } }).censusCount
      let v := u.wr F.CFG_CENSUS_STATUS_CENSUS_OK (b2n u.censusOk)
      exec .censusEvaluate s = .next (settle
        (if ¬ s.boot.settled then u
         else if u.censusOk ∧ ¬ u.on F.CFG_CENSUS_STATUS_CENSUS_OK then v.raise 0x0202 0
         else if ¬ u.censusOk ∧ u.on F.CFG_CENSUS_STATUS_CENSUS_OK then v.raise 0x0201 0
         else v)) ∧
      u.rd F.CFG_CENSUS_STATUS_SEEN = ((List.range 64).filter s.censusValid).length ∧
      u.rd F.CFG_CENSUS_STATUS_AGREE =
        ((List.range 64).filter (fun i => s.censusValid i && s.on (F.CFG_CENSUS_E_NUMBER_AGREE i))).length ∧
      u.rd F.CFG_CENSUS_STATUS_DISAGREE = u.rd F.CFG_CENSUS_STATUS_SEEN - u.rd F.CFG_CENSUS_STATUS_AGREE ∧
      (u.censusOk = true ↔ u.rd F.CFG_CENSUS_STATUS_SEEN = u.rd F.CFG_CENSUS_CFG_EXP_PEERS ∧
        u.rd F.CFG_CENSUS_STATUS_DISAGREE = 0 ∧ u.rd F.CFG_VINTAGE_NUMBER = u.rd F.CFG_VINTAGE_EXP_VINTAGE ∧
        u.on F.CFG_CENSUS_STATUS_OVERFLOW = false))

/-- The configuration scrub and the confirmation of a trial: In a running unit with its scrub set locked, 100 ms after the last
scrub: when every group has its baseline and none is disturbed, the scrub only notes its time; when some group differs from its
baseline and the groups before it are in order, it names that group in LAST_GROUP, raises 0x0203 with it and goes fail-silent
with cause 6 and the group; when a group has its baseline, was disturbed in its first reading, the groups before it are in
order and those after it are in order too or the unit has gone fail-silent by the count, it is named in LAST_GROUP and counted
as a transient. Earlier, or with the set not locked, a scrub changes nothing. TRIAL_CONFIRM at TRIAL_HOLD seconds after
forwarding, with a trial running and TRIAL 2 in the boot record, writes the record with the armed slot as the active one, no
armed slot, TRIAL 0 and OUTCOME 1, and clears TRIAL; before that it changes nothing. (R65, R79, R41, R671) -/
def Obligations.ScrubAndTrialRun : Prop :=
  ∀ (s : State), s.alive = true →
    (s.boot.locked = true → s.boot.scrubAt + 100000000 ≤ s.clk.now →
      let u := { s with boot := { s.boot with scrubAt := s.clk.now } }
      let z := List.zip (List.range 256) (List.zip s.scrubGroups s.boot.baseline)
      ∀ d : List Byte,
      ((∀ y ∈ z, s.groupDigest y.2.1 = y.2.2 ∧ (d.map (·.toNat)).contains y.1 = false) → exec (.configurationScrub d) s = .next (settle u)) ∧
      (∀ l x r, z = l ++ x :: r → (∀ y ∈ l, s.groupDigest y.2.1 = y.2.2 ∧ (d.map (·.toNat)).contains y.1 = false) →
        (s.groupDigest x.2.1 ≠ x.2.2 →
          exec (.configurationScrub d) s =
            .next (settle (((u.wr F.CFG_SCRUB_STATUS_LAST_GROUP x.1).raise 0x0203 x.1).failSilent 6 x.1))) ∧
        (s.groupDigest x.2.1 = x.2.2 → (d.map (·.toNat)).contains x.1 = true →
          let v := ((u.wr F.CFG_SCRUB_STATUS_LAST_GROUP x.1).incSat F.CFG_SCRUB_STATUS_TRANSIENTS).detect 5 0
          (∀ y ∈ r, v.flt.silent = true ∨ (v.groupDigest y.2.1 = y.2.2 ∧ (d.map (·.toNat)).contains y.1 = false)) →
          exec (.configurationScrub d) s = .next (settle v)))) ∧
    (∀ d : List Byte, (s.boot.locked = false ∨ s.clk.now < s.boot.scrubAt + 100000000) →
      exec (.configurationScrub d) s = .next (settle s)) ∧
    (∀ t, s.boot.forwardAt = some t →
      (∀ c r, t + s.rd F.CFG_CENSUS_HOLD_TRIAL_HOLD * 1000000000 ≤ s.clk.now → s.bootRec = some (c, r) →
        s.on F.CFG_STATUS_TRIAL = true → r.trial = 2 →
        exec .trialConfirm s = .next (settle
          ((s.writeBootRec { r with
              active := r.armed, activeV := r.armedV, activeFp := r.armedFp, armed := 0xFF, armedV := 0, armedFp := 0, trial := 0,
              outcome := 1 }).wr F.CFG_STATUS_TRIAL 0))) ∧
      (s.clk.now < t + s.rd F.CFG_CENSUS_HOLD_TRIAL_HOLD * 1000000000 → exec .trialConfirm s = .next (settle s)))

/-- Staging, arming and the staged check: With no staging request waiting for a bottling, an accepted STAGE_BEGIN without arguments
in IDLE with no trial erases the slot that does not hold the running image, clears BYTES, names the slot and goes to WRITING; a
STAGE_WRITE at the next offset that fits, with no bottling running, programs its bytes there and advances BYTES; STAGE_VERIFY
in WRITING goes to VERIFYING; the check's end shows CAUSE and goes to VERIFIED with vintage and fingerprint, or to FAILED; ARM
in VERIFIED writes the boot record with the staged slot armed and TRIAL 1 and goes to ARMED; DISARM in ARMED takes the armed
slot out of the record and goes to VERIFIED; STAGE_ABORT goes to IDLE, and from ARMED takes the armed slot out too, from
another state clears CAUSE. Each is answered with status 0. An accepted STAGE_WRITE of a legal length that comes while a
bottling runs waits for its end, if it would be carried out or another request waits already. (R75, R76, R77, R656, R655, R41,
R51, Table 2-13 of 02_configuration_image_and_vintage.md, Table 15-10 of 15_engines_and_access.md) -/
def Obligations.StagingRuns : Prop :=
  ∀ (s : State) (r : MaintReq),
    let u := s.accepted r
    (s.accepts r 0x10 → s.stageFree → r.args = [] → u.stageState = 0 → u.on F.CFG_STATUS_TRIAL = false →
      exec (.stageBegin r) s = .next (settle
        (((((u.erase (slotAt (1 - u.rd F.CFG_STATUS_BOOT_SLOT)) slotBytes).wr F.CFG_STAGE_STATUS_BYTES 0).wr F.CFG_STAGE_STATUS_SLOT
          (1 - u.rd F.CFG_STATUS_BOOT_SLOT)).setStage 1).maintRespond r 0x10 0 []))) ∧
    (s.accepts r 0x11 → 5 ≤ r.args.length → r.args.length ≤ 1028 → u.flt.bottling = none → u.stageState = 1 →
      beNat (r.args.take 4) = u.rd F.CFG_STAGE_STATUS_BYTES → beNat (r.args.take 4) + (r.args.drop 4).length ≤ slotBytes →
      exec (.stageWrite r) s = .next (settle
        (((u.program (slotAt (u.rd F.CFG_STAGE_STATUS_SLOT) + beNat (r.args.take 4)) (r.args.drop 4)).wr F.CFG_STAGE_STATUS_BYTES
          (beNat (r.args.take 4) + (r.args.drop 4).length)).maintRespond r 0x11 0 []))) ∧
    (s.accepts r 0x11 → 5 ≤ r.args.length → r.args.length ≤ 1028 → u.flt.bottling.isSome = true →
      (u.boot.stageWait ≠ [] ∨ u.stageTakes (beNat (r.args.take 4)) (r.args.length - 4) = true) →
      exec (.stageWrite r) s = .next (settle { u with boot := { u.boot with stageWait := u.boot.stageWait ++ [(0x11, r)] } })) ∧
    (s.accepts r 0x12 → s.stageFree → r.args = [] → u.stageState = 1 →
      exec (.stageVerify r) s = .next (settle ((u.setStage 2).maintRespond r 0x12 0 []))) ∧
    (s.alive = true → s.stageState = 2 →
      let c := s.imgCause (s.rd F.CFG_STAGE_STATUS_SLOT)
      let v := s.wr F.CFG_STAGE_VINTAGE_CAUSE c
      exec .stageCheckDone s = .next (settle
        (if c = 0 then
          ((v.wr F.CFG_STAGE_VINTAGE_NUMBER (v.imgVintage (s.rd F.CFG_STAGE_STATUS_SLOT))).setPair R.CFG_STAGE_FP_LO R.CFG_STAGE_FP_HI
            (v.imgPrint (s.rd F.CFG_STAGE_STATUS_SLOT))).setStage 3
         else v.setStage 4))) ∧
    (s.accepts r 0x13 → s.stageFree → r.args = [] → u.stageState = 3 →
      exec (.arm r) s = .next (settle
        (((u.writeBootRec { u.bootRecNow with
            armed := u.rd F.CFG_STAGE_STATUS_SLOT, armedV := u.rd F.CFG_STAGE_VINTAGE_NUMBER,
            armedFp := u.pair R.CFG_STAGE_FP_LO R.CFG_STAGE_FP_HI, trial := 1 }).setStage 5).maintRespond r 0x13 0 []))) ∧
    (s.accepts r 0x14 → s.stageFree → r.args = [] → u.stageState = 5 →
      exec (.disarm r) s = .next (settle
        (((u.writeBootRec (u.bootRecNow.unarm u.bootRecNow.outcome)).setStage 3).maintRespond r 0x14 0 []))) ∧
    (s.accepts r 0x15 → s.stageFree → r.args = [] →
      exec (.stageAbort r) s = .next (settle
        ((if u.stageState = 0 then u
          else if u.stageState = 5 then (u.writeBootRec (u.bootRecNow.unarm u.bootRecNow.outcome)).setStage 0
          else (u.setStage 0).wr F.CFG_STAGE_VINTAGE_CAUSE 0).maintRespond r 0x15 0 [])))

/-- What staging refuses: With no staging request waiting for a bottling, an accepted STAGE_BEGIN is answered BUSY (4) outside IDLE
and STATE (5) while a trial runs; STAGE_WRITE is answered SEQUENCE (3) at another offset, LENGTH (2) where it runs past the
slot or is of no legal length, BUSY while VERIFYING and STATE in IDLE and from VERIFIED on; STAGE_VERIFY is answered BUSY while
VERIFYING and STATE elsewhere but in WRITING; ARM outside VERIFIED and DISARM outside ARMED are answered STATE; every one of
them but STAGE_WRITE with arguments is answered LENGTH. A request whose CMAC fails or whose counter does not fit gets no answer
and one cellar record; one of another version is discarded. (R75, R76, R655, R656, Table 2-13 of
02_configuration_image_and_vintage.md, Table 15-10 of 15_engines_and_access.md) -/
def Obligations.StagingRefusals : Prop :=
  ∀ (s : State) (r : MaintReq),
    let u := s.accepted r
    (s.accepts r 0x10 → s.stageFree → r.args = [] → (u.stageState ≠ 0 → exec (.stageBegin r) s = .next (settle (u.maintRespond r 0x10 4 []))) ∧
      (u.stageState = 0 → u.on F.CFG_STATUS_TRIAL = true → exec (.stageBegin r) s = .next (settle (u.maintRespond r 0x10 5 [])))) ∧
    (s.accepts r 0x11 → s.stageFree → (r.args.length < 5 ∨ 1028 < r.args.length) →
      exec (.stageWrite r) s = .next (settle (u.maintRespond r 0x11 2 []))) ∧
    (s.stageFree → r.args ≠ [] →
      (s.accepts r 0x10 → exec (.stageBegin r) s = .next (settle (u.maintRespond r 0x10 2 []))) ∧
      (s.accepts r 0x12 → exec (.stageVerify r) s = .next (settle (u.maintRespond r 0x12 2 []))) ∧
      (s.accepts r 0x13 → exec (.arm r) s = .next (settle (u.maintRespond r 0x13 2 []))) ∧
      (s.accepts r 0x14 → exec (.disarm r) s = .next (settle (u.maintRespond r 0x14 2 []))) ∧
      (s.accepts r 0x15 → exec (.stageAbort r) s = .next (settle (u.maintRespond r 0x15 2 [])))) ∧
    (s.accepts r 0x11 → 5 ≤ r.args.length → r.args.length ≤ 1028 → s.stageFree →
      (u.flt.bottling = none → u.stageState = 1 → beNat (r.args.take 4) = u.rd F.CFG_STAGE_STATUS_BYTES →
        slotBytes < beNat (r.args.take 4) + (r.args.drop 4).length →
        exec (.stageWrite r) s = .next (settle (u.maintRespond r 0x11 2 []))) ∧
      (u.stageState = 1 → beNat (r.args.take 4) ≠ u.rd F.CFG_STAGE_STATUS_BYTES →
        exec (.stageWrite r) s = .next (settle (u.maintRespond r 0x11 3 []))) ∧
      (u.stageState = 2 → exec (.stageWrite r) s = .next (settle (u.maintRespond r 0x11 4 []))) ∧
      (u.stageState ≠ 1 → u.stageState ≠ 2 → exec (.stageWrite r) s = .next (settle (u.maintRespond r 0x11 5 [])))) ∧
    (s.accepts r 0x12 → s.stageFree → r.args = [] →
      (u.stageState = 2 → exec (.stageVerify r) s = .next (settle (u.maintRespond r 0x12 4 []))) ∧
      (u.stageState ≠ 1 → u.stageState ≠ 2 → exec (.stageVerify r) s = .next (settle (u.maintRespond r 0x12 5 [])))) ∧
    (s.accepts r 0x13 → s.stageFree → r.args = [] → u.stageState ≠ 3 → exec (.arm r) s = .next (settle (u.maintRespond r 0x13 5 []))) ∧
    (s.accepts r 0x14 → s.stageFree → r.args = [] → u.stageState ≠ 5 → exec (.disarm r) s = .next (settle (u.maintRespond r 0x14 5 []))) ∧
    (s.runtimeActs = true → r.version.toNat = 1 →
      (s.maintVerify r 0x10 ≠ 0 ∨ (s.job (s.maintVerify r 0x10)).counterFits r = false) →
      exec (.stageBegin r) s = .next (settle ((s.job (s.maintVerify r 0x10)).maintReject r 0x10))) ∧
    (s.runtimeActs = true → r.version.toNat ≠ 1 → exec (.stageBegin r) s = .next (settle s))

/-- Challenge, reads and restarts of a maintainer: A CHALLENGE without arguments for a slot with a MAINT key, with no other
answered in the last second and none waiting, while a block of L24 is held, is answered with status 0 and the block's next
value B in 8 bytes after the block has been used up; then LAST of the slot is B, its window ends at B + 2^LEASE_LOG - 1 and no
CHALLENGE waits. Within a second of the last it is answered BUSY (4). An accepted READ of 1 to 256 allowed aligned words of one
region is answered with them most significant octet first, and one that is unaligned or not allowed with DENIED (1); an
accepted READ_BOTTLE inside a bottle is answered with its bytes; an accepted RESTART with MODE 0 is answered and makes a warm
restart due, and one with MODE 1 in the ACTIVE unit of a mirroring pair is answered and begins a hand-over that restarts.
(R654, R655, R656, R657, R504, Table 15-9 of 15_engines_and_access.md, Table 15-10 of 15_engines_and_access.md) -/
def Obligations.MaintenanceAccess : Prop :=
  ∀ (s : State) (r : MaintReq),
    let u := s.accepted r
    (s.runtimeActs = true → r.version.toNat = 1 → s.keyFor r.slot.toNat 7 = true → r.args = [] →
      (s.eng.chalWait = none → (∀ t, s.eng.challengeAt = some t → t + 1000000000 ≤ s.clk.now) → s.leaseHeld 24 = true →
        let c := { s with eng := { s.eng with challengeAt := some s.clk.now, chalWait := some r } }
        let b := s.pair (R.CPH_LEASE_NEXT_LO 24) (R.CPH_LEASE_NEXT_HI 24)
        let v := c.useBlock.maintRespond r 0 0 (beBytes 8 b)
        exec (.challenge r) s = .next (settle
          { v with eng := { v.eng with challenged := true, chalWait := none, last := sput 0 r.slot.toNat b v.eng.last,
                                       winEnd := sput 0 r.slot.toNat (b + 2 ^ v.leaseLog - 1) v.eng.winEnd } })) ∧
      (∀ t, s.eng.challengeAt = some t → s.clk.now < t + 1000000000 →
        exec (.challenge r) s = .next (settle (s.maintRespond r 0 4 [])))) ∧
    (s.accepts r 1 → r.args.length = 6 → beNat (r.args.drop 4) ≠ 0 → beNat (r.args.drop 4) ≤ 256 →
      (beNat (r.args.take 4) % 4 = 0 →
        (∀ i, i < beNat (r.args.drop 4) → readAllowed (beNat (r.args.take 4) + 4 * i) = true ∧
          region (beNat (r.args.take 4) + 4 * i) = region (beNat (r.args.take 4))) →
        exec (.read r) s = .next (settle (u.maintRespond r 1 0 (u.readWords (beNat (r.args.take 4)) (beNat (r.args.drop 4)))))) ∧
      ((beNat (r.args.take 4) % 4 ≠ 0 ∨ readAllowed (beNat (r.args.take 4)) = false) →
        exec (.read r) s = .next (settle (u.maintRespond r 1 1 [])))) ∧
    (s.accepts r 2 → r.args.length = 7 → beNat (r.args.take 1) ≤ 3 → beNat (r.args.drop 5) ≠ 0 → beNat (r.args.drop 5) ≤ 1024 →
      beNat ((r.args.drop 1).take 4) + beNat (r.args.drop 5) ≤ 0x20000 →
      exec (.readBottle r) s = .next (settle
        (u.maintRespond r 2 0 (getBytes u.flashByte (bottleBase (beNat (r.args.take 1)) + beNat ((r.args.drop 1).take 4)) (beNat (r.args.drop 5)))))) ∧
    (s.accepts r 0x20 → r.args = [0] →
      exec (.restart r) s = .next (settle
        { u.maintRespond r 0x20 0 [] with flt := { (u.maintRespond r 0x20 0 []).flt with due := 3 } })) ∧
    (s.accepts r 0x20 → r.args = [1] → (u.maintRespond r 0x20 0 []).role = 0 → (u.maintRespond r 0x20 0 []).mirroring = true →
      exec (.restart r) s = .next (settle ((u.maintRespond r 0x20 0 []).beginHandover true)))

/-- What DC_STEP and DC_RATE do: With the clocks running, DC_STEP adds STEP_S seconds, the written nanoseconds and STEP_FRAC to its
domain clock, clears STEP_S and leaves the other domain clock and LC as they are. In FREE nothing else moves. In LOCKED on that
domain a step of at most 1 ns moves WT with it, a larger one within the limit starts a hand-over to it, and one beyond the
limit makes the source unfit; a step of the target of a hand-over beyond the limit begins HOLDOVER at its gain, any other step
of either domain in HANDOVER leaves the hand-over standing; in HOLDOVER a domain that now qualifies ends it. A source that is
unfit hands over to the other domain where AUTO_HANDOVER is set and that domain qualifies, and begins HOLDOVER otherwise. After
each step it is noted whether the reports of the two units mismatch. With the clocks standing DC_STEP changes nothing. DC_RATE
puts the signed value into the register, which adds it to the 4 ns that the domain clock gains in each later TIME cycle. (R82,
R81, R87, R129, Table 3-2 of 03_network_time.md) -/
def Obligations.DomainClocksStep : Prop :=
  ∀ (n : Fin 2) (v : Word) (s : State),
    (s.writable (R.TSU_DC_RATE n) → exec (.dcRate n v) s = .next (settle (s.setReg (R.TSU_DC_RATE n) v)) ∧
      (s.setReg (R.TSU_DC_RATE n) v).dcGain n = 2 ^ 41 + v.toInt) ∧
    s.tickClocks.dc n = s.dc n + s.dcGain n ∧
    (s.writable (R.TSU_DC_STEP_NS n) → s.clk.on = false → exec (.dcStep n v) s = .next (settle s)) ∧
    (∀ (w : State) (rate : Int), w.sourceUnfit rate =
      if w.autoHandover = true ∧ w.usable (1 - w.wtSrc) = true ∧ w.within (1 - w.wtSrc) = true then w.startHandover (1 - w.wtSrc)
      else w.enterHoldover rate) ∧
    (s.writable (R.TSU_DC_STEP_NS n) → s.clk.on = true →
      let d : Int := (sgn 32 (s.regN (R.TSU_DC_STEP_S n)) * 1000000000 + sgn 32 v.toNat) * 2 ^ 39 +
        ((s.rd (F.TSU_DC_STEP_FRAC_FRAC n) : Nat) : Int) * 2 ^ 23
      let u := ((s.setRegN (R.TSU_DC_STEP_S n) 0).setDc n (s.dc n + d)).pulsesStepped (2 + n) d
      u.dc n = s.dc n + d ∧ u.dc (1 - n) = s.dc (1 - n) ∧ u.clk.lc = s.clk.lc ∧ u.clk.wt = s.clk.wt ∧
        u.regN (R.TSU_DC_STEP_S n) = 0 ∧
        (s.wtState = 0 → exec (.dcStep n v) s = .next (settle u.noteMismatch)) ∧
        (s.wtState = 1 → s.wtSrc = n → d.natAbs ≤ 2 ^ 39 →
          exec (.dcStep n v) s = .next (settle (u.setWt (u.clk.wt + d)).noteMismatch)) ∧
        (s.wtState = 1 → s.wtSrc = n → 2 ^ 39 < d.natAbs → u.within n = true →
          exec (.dcStep n v) s = .next (settle (u.startHandover n).noteMismatch)) ∧
        (s.wtState = 1 → s.wtSrc = n → 2 ^ 39 < d.natAbs → u.within n = false →
          exec (.dcStep n v) s = .next (settle (u.sourceUnfit (u.dcGain n)).noteMismatch)) ∧
        (s.wtState = 1 → s.wtSrc ≠ n → exec (.dcStep n v) s = .next (settle u.noteMismatch)) ∧
        (s.wtState = 2 → s.wtSrc = n → u.within n = false →
          exec (.dcStep n v) s = .next (settle (u.enterHoldover (u.dcGain n)).noteMismatch)) ∧
        (s.wtState = 2 → (s.wtSrc ≠ n ∨ u.within n = true) → exec (.dcStep n v) s = .next (settle u.noteMismatch)) ∧
        (s.wtState = 3 → exec (.dcStep n v) s = .next (settle u.holdoverCheck.noteMismatch)))

/-- A domain whose USABLE the device clears: When DOMAIN_LOST finds the domain usable and SYNC_TIMEOUT milliseconds past since its
last Sync and its setting, it clears USABLE and raises 0x0305 with the domain index; where working time was locked on it or
handing over to it, its source is then unfit, and otherwise nothing more follows; the domain clock and its RATE stay as they
were. (R85) -/
def Obligations.DomainLossIsRaised : Prop :=
  ∀ (n : Fin 2) (s : State), s.alive = true → s.usable n = true → s.rd (F.TSU_DC_CTRL_SYNC_TIMEOUT n) ≠ 0 →
    max (if n = 0 then s.clk.usableAt0 else s.clk.usableAt1) (match s.lastSync n with | some x => x | none => 0) +
      s.rd (F.TSU_DC_CTRL_SYNC_TIMEOUT n) * 1000000 ≤ s.clk.now →
    let v := (s.wr (F.TSU_DC_CTRL_USABLE n) 0).raise 0x0305 n
    let u := if (v.wtState = 1 ∨ v.wtState = 2) ∧ v.wtSrc = n then (v.sourceUnfit (v.dcGain n)).noteMismatch else v
    exec (.domainLost n) s = .next (settle u) ∧ u.usable n = false ∧ u.dc n = s.dc n ∧ u.dcRate n = s.dcRate n ∧
      (∃ e ∈ u.evq, e.code = 0x0305 ∧ e.param = n) ∧ u.on ⟨R.TSU_EVENT, 4, 1⟩ = true

/-- What moves working time: USABLE_SET of the WT_SRC domain in FREE notes the instant and locks WT on it; FORCE_STEP with the
WT_SRC domain usable locks WT on it; LOAD_WT in FREE moves WT to the loaded value; naming a usable domain in FREE locks on it,
an unusable one in FREE only becomes the source, a domain that qualifies outside FREE starts a hand-over, and any other is
refused with 0x0309. A move of WT of at most 1 ns sets WT and nothing else; a larger one raises 0x0304 and makes the next
strobe the first index whose instant lies at least 100 us ahead. SNAP copies the clocks, the ESI and the state. A mismatch that
has held for more than PAIR_GRACE ms sets PARTNER_MISMATCH and raises 0x0307. (R84, R86, R87, R88, R760, R135, R95, R115, Table
3-2 of 03_network_time.md) -/
def Obligations.WorkingTimeMoves : Prop :=
  ∀ (s : State),
    (∀ n : Fin 2, s.writable (R.TSU_DC_CTRL n) → s.usable n = false → s.wtState = 0 → s.wtSrc = n →
      let u := s.wr (F.TSU_DC_CTRL_USABLE n) 1
      let u := if n = 0 then { u with clk := { u.clk with usableAt0 := u.clk.now } }
        else { u with clk := { u.clk with usableAt1 := u.clk.now } }
      exec (.usableSet n) s = .next (settle (u.lockOn n).noteMismatch)) ∧
    (s.writable R.TSU_CTRL →
      (s.usable s.wtSrc = true → exec .forceStep s = .next (settle (s.lockOn s.wtSrc).noteMismatch)) ∧
      (s.wtState = 0 → s.clk.on = true → exec .loadWt s = .next (settle (s.moveWt
        ((((s.rd F.TSU_WT_LOAD_S_HI_S_HI * 2 ^ 32 + s.regN R.TSU_WT_LOAD_S_LO) * 1000000000 + s.regN R.TSU_WT_LOAD_NS : Nat) : Int) * 2 ^ 39)))) ∧
      (∀ n : Fin 2,
        (s.wtState = 0 → exec (.wtSrcWrite n) s =
          .next (settle (if s.usable n then s.lockOn n else s.setSrc n).noteMismatch)) ∧
        (s.wtState ≠ 0 → n.val ≠ s.wtSrc → exec (.wtSrcWrite n) s =
          .next (settle (if s.canFollow n then s.startHandover n else s.raise 0x0309 0).noteMismatch))) ∧
      (exec .snap s = .next (settle
        ((((((s.snapClock R.TSU_SNAP_LC_NS s.clk.lc).snapClock R.TSU_SNAP_DC0_NS s.clk.dc0).snapClock R.TSU_SNAP_DC1_NS
          s.clk.dc1).snapClock R.TSU_SNAP_WT_NS s.clk.wt).setPair R.TSU_SNAP_ESI_LO R.TSU_SNAP_ESI_HI s.clk.esi).setRegN
            R.TSU_SNAP_STATE (2 ^ 31 + s.wtSrc * 16 + s.wtState))))) ∧
    (∀ v : Int, ((v - s.clk.wt).natAbs ≤ 2 ^ 39 → s.moveWt v = s.setWt v) ∧
      (2 ^ 39 < (v - s.clk.wt).natAbs → s.moveWt v = (s.setWt v).wtStepped (v - s.clk.wt) ∧
        (s.moveWt v).clk.wt = v ∧ (s.moveWt v).clk.nextK = firstStrobe v ∧ ∃ e ∈ (s.moveWt v).evq, e.code = 0x0304)) ∧
    (∀ v : Int, v + 100000 * 2 ^ 39 ≤ strobeInstant (firstStrobe v) ∧
      ∀ k, k < firstStrobe v → strobeInstant k < v + 100000 * 2 ^ 39) ∧
    (∀ n, s.lockOn n = (((s.setSrc n).setWtState 1).setSlew 0).moveWt (s.dc n)) ∧
    (∀ t, s.alive = true → s.wtMismatch = true → s.clk.mismatchAt = some t → s.rd F.TSU_CTRL_PAIR_GRACE ≠ 0 →
      t + s.rd F.TSU_CTRL_PAIR_GRACE * 1000000 < s.clk.now → s.on F.TSU_WT_STATUS_PARTNER_MISMATCH = false →
      exec .pairWtMismatch s = .next (settle ((s.wr F.TSU_WT_STATUS_PARTNER_MISMATCH 1).raise 0x0307 0)))

/-- The slew offset of a hand-over stays within MAX and RAMP: In HANDOVER, a SLEW_UPDATE that is due either ends the hand-over,
when the residual is at most 1 ns, with WT at the target clock, the offset 0 and the state LOCKED, raising 0x0302; or it sets
the slew offset to a value that, where the old one lay within MAX (at least 100 ppb), still lies within it, and that differs
from the old one by at most RAMP (in 1/1000 ppb per us) where RAMP is not 0. WT itself does not move then. (R89, R90) -/
def Obligations.SlewStaysBounded : Prop :=
  ∀ (s : State), s.alive = true → s.wtState = 2 → s.clk.slewAt + 1000 ≤ s.clk.now →
    ((s.clk.wt - s.dc s.wtSrc).natAbs ≤ 2 ^ 39 →
      exec .slewUpdate s = .next (settle ((((s.setWt (s.dc s.wtSrc)).setSlew 0).setWtState 1).raise 0x0302 0).noteMismatch)) ∧
    (2 ^ 39 < (s.clk.wt - s.dc s.wtSrc).natAbs →
      ∃ off : Int, exec .slewUpdate s = .next (settle (s.setSlew off)) ∧
        (s.rd F.TSU_WT_SLEW_RAMP ≠ 0 → (off - s.clk.slewOff).natAbs ≤ s.rd F.TSU_WT_SLEW_RAMP) ∧
        (s.clk.slewOff.natAbs ≤ max 100 (s.rd F.TSU_WT_SLEW_MAX) * 1000 →
          off.natAbs ≤ max 100 (s.rd F.TSU_WT_SLEW_MAX) * 1000))

/-- A HEAD0 read pops its queue: A read of HEAD0 of an ingress stamp queue, an egress stamp queue, the skew queue, a capture queue,
a CAN transmit-event queue, the far-error queue or the own event queue by an engine that acts removes the oldest entry, leaves
the rest in order with the gap bit as it was, and puts the entry's words into the HEAD registers, which hold 0 when the queue
was empty; the engine reads the first of them. (R110) -/
def Obligations.HeadReadsPopQueues : Prop :=
  ∀ (e : Fin 8) (s : State), s.engineActs e = true →
    let first (h : Hq) : Option (List Word) := h.q.head?
    let rest (h : Hq) : Hq := ⟨h.q.drop 1, h.gap⟩
    let read (s : State) (head : Nat) : State := { s with eng := { s.eng with rdata := sput 0 e.val (s.reg head) s.eng.rdata } }
    (∀ p : Fin 24,
      let h := sget hq0 s.iq p
      exec (.head0Read e (.ingress p)) s = .next (settle (read
        (({ s with iq := sput hq0 p.val (rest h) s.iq }).latchHead (R.TSU_P_IQ_HEAD0 p) 4 (first h)) (R.TSU_P_IQ_HEAD0 p)))) ∧
    (∀ p : Fin 24,
      let h := sget hq0 s.eq p
      exec (.head0Read e (.egress p)) s = .next (settle (read
        (({ s with eq := sput hq0 p.val (rest h) s.eq }).latchHead (R.TSU_P_EQ_HEAD0 p) 4 (first h)) (R.TSU_P_EQ_HEAD0 p)))) ∧
    exec (.head0Read e .skew) s = .next (settle (read
      (({ s with skew := rest s.skew }).latchHead R.TSU_SKEW_HEAD0 4 (first s.skew)) R.TSU_SKEW_HEAD0)) ∧
    (∀ n : Fin 4,
      let h := sget hq0 s.cap n
      exec (.head0Read e (.capture n)) s = .next (settle (read
        (({ s with cap := sput hq0 n.val (rest h) s.cap }).latchHead (R.TSU_CAP_HEAD0 n) 4 (first h)) (R.TSU_CAP_HEAD0 n)))) ∧
    (∀ n : Fin 16,
      let h := (s.canC n).txev
      exec (.head0Read e (.canTxEvent n)) s = .next (settle (read
        ((s.modCan n (fun c => { c with txev := rest h })).latchHead (R.CAN_TXEV_HEAD0 n) 3 (first h)) (R.CAN_TXEV_HEAD0 n)))) ∧
    exec (.head0Read e .farError) s = .next (settle (read
      ((s.setQlb { s.qlb with far := rest s.qlb.far }).latchHead R.QLB_FAR_HEAD0 4 (first s.qlb.far)) R.QLB_FAR_HEAD0)) ∧
    (let h := sget hq0 s.eng.evq e
     exec (.head0Read e .events) s = .next (settle (read
      (({ s with eng := { s.eng with evq := sput hq0 e.val (rest h) s.eng.evq } }).latchHead (R.ENG_EVQ_HEAD0 e) 4 (first h))
        (R.ENG_EVQ_HEAD0 e)))) ∧
    (∀ (u : State) (head : Nat) (x : Option (List Word)),
      (u.latchHead head 4 x).reg head = (match x with | some l => nth 0 l 0 | none => 0) ∧
      (u.latchHead head 4 x).reg (head + 4) = (match x with | some l => nth 0 l 1 | none => 0) ∧
      (u.latchHead head 4 x).reg (head + 8) = (match x with | some l => nth 0 l 2 | none => 0) ∧
      (u.latchHead head 4 x).reg (head + 12) = (match x with | some l => nth 0 l 3 | none => 0))

/-- Pulses, captures, the sample strobe, and stamps: A write to PLS_CTRL of an idle output takes the settings at once and schedules
the first edge, and otherwise leaves them for the next edge; a scheduled edge in TIME mode that has come, before the end of the
pulse that runs and with no settings waiting, starts a pulse of WIDTH and schedules the next one, but one of an output held
inactive only schedules; the end of a pulse that has come makes the output inactive, and settings that waited are taken then;
an edge of a capture input that is selected and has held for FILTER x 4 ns is queued, with WT and LC of the edge itself, where
the queue of 8 has room; a strobe whose instant has come, with the clocks running, makes the ESI the next index and the next
index one more, and within 50 ns of its instant does not re-phase; a completed calibration shows CAL_DONE; an express frame
with a good preamble on a live port enters reception with its arrival stamps by LC and WT, and on a port below P16 nothing else
precedes it. (R124, R125, R128, R131, R130, R132, R133, R136, R98, R99, R109) -/
def Obligations.PulsesCapturesAndStrobes : Prop :=
  ∀ (s : State),
    (∀ (n : Fin 8) (v : Word), s.writable (R.TSU_PLS_CTRL n) →
      let u := s.writeFields (R.TSU_PLS_CTRL n) v.toNat
      let p := u.pulse n
      exec (.plsCtrlWrite n v) s = .next (settle
        (if plsActive p = false ∧ p.high = false then u.putPulse n (u.schedule (u.takeSettings n p))
         else u.putPulse n { p with reload := true }))) ∧
    (∀ (n : Fin 8) (e : Int), s.alive = true → (s.pulse n).edge = some e → (∀ f, (s.pulse n).fall = some f → e ≤ f) →
      e ≤ s.plsNow (s.pulse n) → (s.pulse n).reload = false → plsMode (s.pulse n) = 1 → plsWidth (s.pulse n) ≠ 0 →
      let q := { s.pulse n with edge := plsAhead (s.pulse n) e }
      exec (.pulseEdge n) s = .next (settle (s.putPulse n
        (if s.plsHeld (s.pulse n) then q else { q with high := true, fall := some (e + plsWidth q * 2 ^ 39), made := some e })))) ∧
    (∀ (n : Fin 8) (f : Int), s.alive = true → (s.pulse n).fall = some f → f ≤ s.plsNow (s.pulse n) →
      (∀ e, (s.pulse n).edge = some e → f < e) →
      let q := { s.pulse n with high := false, fall := none }
      exec (.pulseEdge n) s = .next (settle (s.putPulse n (if (s.pulse n).reload = true then s.schedule (s.takeSettings n q) else q)))) ∧
    (∀ (n : Fin 4) (rising : Bool) (held phase : Nat), s.alive = true → s.clk.on = true →
      (s.rd (F.TSU_CAP_CTRL_EDGE n)).testBit (if rising then 0 else 1) = true → s.rd (F.TSU_CAP_CTRL_FILTER n) * 4 ≤ held →
      (sget hq0 s.cap n).q.length < 8 →
      let back : Int := ((phase : Int) - (s.rd (F.TSU_CAP_CTRL_FILTER n) * 4 : Nat)) * 2 ^ 39
      let h := sget hq0 s.cap n
      let entry : List Word :=
        [BitVec.ofNat 32 (b2n rising * 4) ||| (if h.gap then 3#32 else 1#32), BitVec.ofNat 32 (subNs (s.clk.wt + back)),
          BitVec.ofNat 32 (secOf (s.clk.wt + back)), BitVec.ofNat 32 (subNs (s.clk.lc + back))]
      exec (.captureEdge n rising held phase) s = .next (settle { s with cap := sput hq0 n.val ⟨h.q ++ [entry], false⟩ s.cap })) ∧
    (∀ (err : Int) (tin line : List (List Word)), s.flt.silent = false → s.clk.on = true → s.strobeDue err = true → err.natAbs ≤ 50 →
      let u := ({ s with clk := { s.clk with esi := s.clk.nextK, nextK := s.clk.nextK + 1 } }).wr F.TSU_MEDIA_STATUS_PHASE_ERR (unsgn 16 err)
      (u.mediaLock err).1.clk.esi = s.clk.nextK ∧ (u.mediaLock err).1.clk.nextK = s.clk.nextK + 1 ∧ (u.mediaLock err).2 = false ∧
      exec (.sampleStrobe err tin line) s = .next (settle
        (((u.mediaLock err).1.plsStrobes s.clk.nextK).audStrobe s.clk.nextK (if s.clk.esi = 0 then none else some s.clk.esi) tin line))) ∧
    (∀ p : Fin 24, s.alive = true → s.linkUp p = true → (s.port p).calWait = true →
      exec (.calibrationDone p) s = .next (settle
        ((s.modPort p (fun m => { m with calWait := false })).wr (F.TSU_P_QSTAT_CAL_DONE p) 1))) ∧
    (∀ (p : Fin 24) (phase : Nat) (bytes : List Byte), s.portLive p = true → s.on (F.TSU_P_CTRL_CAL_LOOP p) = false →
      exec (.frameStartRx p .express true phase bytes) s = .next (settle ((s.plcaTaken p).startFrame p phase bytes false)) ∧
      (∃ f, (((s.plcaTaken p).startFrame p phase bytes false).port p).cur = some f ∧ f.bytes = bytes ∧ f.ended = false ∧
        f.preemptable = false ∧ f.startAt = s.clk.now ∧ f.lc = s.rxStamp p s.clk.lc phase ∧ f.wt = s.rxStamp p s.clk.wt phase) ∧
      (p.val < 16 → s.plcaTaken p = s))

/-- Links, training, verify and PLCA: In a unit that enables ports, on an enabled port whose link is down and whose MODE it
supports, 1 ms after its establishment began (at once for RGMII; in 10GBASE-KR within 500 ms of a training that has not
failed), LINK_UP sets LINK_UP and its summary bit, shows the speed, waits for calibration, starts verify and raises 0x0401, and
changes no other port; a half duplex result that is signalled sets MODE_ERR and raises 0x0407 the first time, and the link
stays down. LINK_DOWN clears the link's bits, its summary bit, PAUSED, VERIFY_STATE, PLCA_STATUS and CAL_DONE, counts
LINK_DOWNS and raises 0x0402, flushes the addresses learned on it where FLUSH_ON_LINKDOWN is set, and with nothing in reception
or transmission leaves memory and buffer alone and begins a new training in KR mode; of a link that is down it changes nothing.
While the link is down LINKDOWN_DISCARD drops the head of the highest class that holds one, counting TX_LINKDOWN, and the next
one waits for its wire time. A training failure in KR mode sets KR_STATE to failed and raises 0x0405, and 100 ms later
establishment begins again. With MAC transmit on, a verify mPacket is queued 10 ms after the last, up to three, and 10 ms after
the third VERIFY_STATE becomes failed and 0x0404 is raised. A node whose link is up, with PLCA_EN and without the coordinator
role, that sees no beacon for 400 us clears PLCA_STATUS, counts and raises 0x0406, once until the next beacon; a beacon sets
PLCA_STATUS and begins a new cycle. A collision under CSMA/CD counts, and the frame starts again after an open wait. (R141,
R142, R147, R148, R149, R150, R182, R187, R353, R154, R155, R156) -/
def Obligations.LinksComeAndGo : Prop :=
  ∀ (p : Fin 24) (s : State), s.alive = true →
    (∀ speed full, s.portsOn = true → s.on (F.MAC_CTRL_ENABLE p) = true → s.linkUp p = false →
      modeOk p (s.rd (F.MAC_CTRL_MODE p)) = true →
      (s.rd (F.MAC_CTRL_MODE p) = 8 ∨ (s.port p).linkAt + 1000000 ≤ s.clk.now) →
      (s.rd (F.MAC_CTRL_MODE p) = 1 → s.rd (F.MAC_STATUS_KR_STATE p) ≠ 3 ∧ s.clk.now ≤ (s.port p).krAt + 500000000) →
      (full = true ∨ s.duplexSignalled p = false →
        ∃ u : State, exec (.linkUp p speed full) s = .next (settle (u.raise 0x0401 p)) ∧
          u.linkUp p = true ∧ (u.rd F.MAC_LINK_SUMMARY_LINK).testBit p = true ∧ u.rd (F.MAC_STATUS_SPEED_ACT p) = s.speedFor p speed % 8 ∧
          u.on (F.MAC_STATUS_MODE_ERR p) = false ∧
          u.rd (F.MAC_STATUS_VERIFY_STATE p) =
            (if p.val < 16 ∧ s.on (F.MAC_CTRL_PREEMPT_EN p) = true then (if s.on (F.MAC_CTRL_VERIFY_DIS p) then 4 else 1) else 0) ∧
          (u.port p).calWait = true ∧ u.mem = s.mem ∧ u.tables = s.tables ∧ u.buf = s.buf ∧
          (∀ q, q < 24 → q ≠ p.val → u.linkUp q = s.linkUp q ∧ u.port q = s.port q)) ∧
      (full = false → s.duplexSignalled p = true → exec (.linkUp p speed full) s =
        .next (settle (if s.on (F.MAC_STATUS_MODE_ERR p) then s else (s.wr (F.MAC_STATUS_MODE_ERR p) 1).raise 0x0407 p)))) ∧
    (s.linkUp p = false → exec (.linkDown p) s = .next (settle s)) ∧
    (s.linkUp p = true → ∃ u : State, exec (.linkDown p) s = .next (settle
        (if ((u.inc (C.MAC_LINK_DOWNS p)).raise 0x0402 p).on (F.FWD_PORT_CTRL_FLUSH_ON_LINKDOWN p) then
          ((u.inc (C.MAC_LINK_DOWNS p)).raise 0x0402 p).flushMac 1 p 0
         else (u.inc (C.MAC_LINK_DOWNS p)).raise 0x0402 p)) ∧
      u.linkUp p = false ∧ (u.rd F.MAC_LINK_SUMMARY_LINK).testBit p = false ∧ u.rd (F.MAC_STATUS_PAUSED p) = 0 ∧
      u.rd (F.MAC_STATUS_VERIFY_STATE p) = 0 ∧ u.rd (F.MAC_STATUS_PLCA_STATUS p) = 0 ∧ u.rd (F.TSU_P_QSTAT_CAL_DONE p) = 0 ∧
      (u.port p).calWait = false ∧
      ((s.port p).cur = none → (s.port p).held = none → (s.port p).tx = none → (s.port p).rest = none →
        (p.val < 16 →
          u.rd (F.MAC_STATUS_KR_STATE p) = (if s.on (F.MAC_CTRL_ENABLE p) ∧ s.rd (F.MAC_CTRL_MODE p) = 1 then 1 else 0)) ∧
        u.mem = s.mem ∧ u.buf = s.buf)) ∧
    (∀ q c r, s.linkUp p = false → (s.port p).discardAt ≤ s.clk.now →
      ((List.range 8).map (fun t => p.val * 8 + (7 - t))).find? (fun q => !(s.queue q).isEmpty) = some q → s.queue q = c :: r →
      exec (.linkdownDiscard p) s = .next (settle
        (((s.modPort p (fun m => { m with
          discardAt := s.clk.now + octetNs (8 + s.effLen p (s.getPkt c.pkt).vid (pktLen (s.getPkt c.pkt))) (s.portKbps p) })).popHead
            q).inc (C.MAC_TX_LINKDOWN p)))) ∧
    (s.on (F.MAC_CTRL_ENABLE p) = true → s.rd (F.MAC_CTRL_MODE p) = 1 → s.rd (F.MAC_STATUS_KR_STATE p) = 1 →
      exec (.krTrainFailed p) s = .next (settle
        (((s.wr (F.MAC_STATUS_KR_STATE p) 3).modPort p (fun m => { m with krAt := s.clk.now })).raise 0x0405 p))) ∧
    (s.on (F.MAC_CTRL_ENABLE p) = true → s.rd (F.MAC_CTRL_MODE p) = 1 → s.rd (F.MAC_STATUS_KR_STATE p) = 3 →
      (s.port p).krAt + 100000000 ≤ s.clk.now →
      exec (.krRetry p) s = .next (settle
        (((s.modPort p (fun m => { m with linkAt := s.clk.now })).wr (F.MAC_STATUS_KR_STATE p) 1).modPort p
          (fun m => { m with krAt := s.clk.now })))) ∧
    (s.rd (F.MAC_STATUS_VERIFY_STATE p) = 1 → s.on (F.MAC_STATUS_TX_ON p) = true → (s.port p).verifyAt + 10000000 ≤ s.clk.now →
      ((s.port p).verifySent < 3 → exec (.verifyTimer p) s = .next (settle
        (s.modPort p (fun m =>
          { m with verifySent := m.verifySent + 1, verifyAt := s.clk.now, mpkts := m.mpkts ++ [true] })))) ∧
      (3 ≤ (s.port p).verifySent → exec (.verifyTimer p) s =
        .next (settle ((s.wr (F.MAC_STATUS_VERIFY_STATE p) 3).raise 0x0404 p)))) ∧
    (16 ≤ p.val → s.linkUp p = true → s.on (F.MAC_PLCA_PLCA_EN p) = true → s.on (F.MAC_STATUS_PLCA_COORD p) = false →
      ((s.port p).beaconLost = false → (s.port p).beaconAt + 400000 ≤ s.clk.now →
        exec (.plcaBeaconLost p) s = .next (settle
          ((((s.modPort p (fun m => { m with beaconLost := true })).wr (F.MAC_STATUS_PLCA_STATUS p) 0).inc
            (C.MAC_PLCA_BEACON_LOSS p)).raise 0x0406 p))) ∧
      ((s.port p).beaconLost = true → exec (.plcaBeaconLost p) s = .next (settle s)) ∧
      exec (.plcaBeacon p) s = .next (settle
        ((s.wr (F.MAC_STATUS_PLCA_STATUS p) 1).modPort p (fun m =>
          { m with beaconAt := s.clk.now, beaconLost := false, plcaId := 0, plcaAt := s.clk.now, plcaSent := 0 })))) ∧
    (∀ t, 16 ≤ p.val → s.csma p = true → (s.port p).tx = some t →
      exec (.collision p) s = .next (settle
        ((s.drawFree.2.inc (C.MAC_COLLISIONS p)).modPort p (fun m =>
          { m with tx := some { t with start := s.clk.now + s.drawFree.1, stamped := false } }))))

/-- Writes of the MAC registers, and how pause begins, ends, repeats and trips: A MAC_CTRL write to a disabled port takes its
fields, the reserved bits of the port apart; a MODE that the port supports clears MODE_ERR, another one sets it and raises
0x0407 where the MODE is new or the bit was 0. One that leaves the port disabled clears KR_STATE and CAL_DONE; one that enables
it notes the instant and, from step 11 of bring-up on and with a supported MODE, begins link establishment. A write of
MAC_MDIO_CMD with START and a valid operation takes its fields and sets BUSY, one without START or with a reserved Clause 22 OP
takes its fields alone (that the reserved OP starts nothing, and that a write while BUSY is 1 is dropped whole, is the model's
choice, log entry 59), and while BUSY is 1 it is ignored; at the end of the MDIO frame BUSY clears and a read shows the data.
None of these changes a byte of memory. A good pause frame that is honoured gives its time to every class, and a PFC frame to
the classes of its vector: with quanta q not 0 the class is paused until q times 512 bit times from now whatever stood before,
with 0 it is not paused, and the other classes stay; while PAUSE_IGNORED is 1 the frame is counted as ignored and does nothing,
and a control frame that is not honoured is counted as unsupported. A class whose pause time has come is no longer paused; the
watchdog trips once pause has stood for more than LIMIT ms in ticks of 1 us; a trip with PAUSE_WD_HOLD not 0 releases every
pause, counts, raises 0x0403 and ignores pause frames for HOLD ms; that time over, pause frames are heeded again; a request
that XOFF and XON still call for is repeated after REFRESH quanta, or half TX_QUANTA when REFRESH is 0, and not before. With
PAUSE_WD_LIMIT 0, or before its time, PAUSE_WD_TRIP does nothing; with PAUSE_WD_HOLD 0 a trip releases every pause, counts and
raises 0x0403, and leaves PAUSE_IGNORED as it was. (R141, R142, R143, R153, R172, R173, R174, R175, R177, R179, R180, Table 4-7
of 04_ethernet_ports.md) -/
def Obligations.PortControlsAndPause : Prop :=
  (∀ (s : State),
    (∀ (p : Fin 24) (v : Word), s.writable (R.MAC_CTRL p) →
      let u := s.writeFields (R.MAC_CTRL p) (v.toNat - (v.toNat &&& macCtrlReserved p))
      let w := if modeOk p (u.rd (F.MAC_CTRL_MODE p)) then u.wr (F.MAC_STATUS_MODE_ERR p) 0
        else if u.rd (F.MAC_CTRL_MODE p) ≠ s.rd (F.MAC_CTRL_MODE p) ∨ s.on (F.MAC_STATUS_MODE_ERR p) = false then
          (u.wr (F.MAC_STATUS_MODE_ERR p) 1).raise 0x0407 p
        else u
      s.on (F.MAC_CTRL_ENABLE p) = false → s.linkUp p = false →
      (v.toNat.testBit 0 = false →
        exec (.macCtrlWrite p v) s = .next (settle ((w.wr (F.MAC_STATUS_KR_STATE p) 0).wr (F.TSU_P_QSTAT_CAL_DONE p) 0))) ∧
      (v.toNat.testBit 0 = true →
        exec (.macCtrlWrite p v) s = .next (settle
          ((if s.portsOn = true ∧ modeOk p (u.rd (F.MAC_CTRL_MODE p)) = true then w.establish p else w).modPort p
            (fun m => { m with everUp := false, linkAt := s.clk.now }))))) ∧
    (∀ v : Word, s.writable R.MAC_MDIO_CMD →
      (s.on F.MAC_MDIO_CMD_BUSY = true → exec (.mdioStart v) s = .next (settle s)) ∧
      (s.on F.MAC_MDIO_CMD_BUSY = false → v.toNat.testBit 14 = true →
        (v.toNat.testBit 13 = true ∨ bits v.toNat 11 2 = 1 ∨ bits v.toNat 11 2 = 3) →
        exec (.mdioStart v) s = .next (settle ((s.writeFields R.MAC_MDIO_CMD v.toNat).wr F.MAC_MDIO_CMD_BUSY 1))) ∧
      (s.on F.MAC_MDIO_CMD_BUSY = false →
        (v.toNat.testBit 14 = false ∨ (v.toNat.testBit 13 = false ∧ (bits v.toNat 11 2 = 0 ∨ bits v.toNat 11 2 = 2))) →
        exec (.mdioStart v) s = .next (settle (s.writeFields R.MAC_MDIO_CMD v.toNat)))) ∧
    (∀ d : BitVec 16, s.alive = true → s.on F.MAC_MDIO_CMD_BUSY = true →
      exec (.mdioDone d) s = .next (settle
        (if 2 ≤ s.rd F.MAC_MDIO_CMD_OP then (s.wr F.MAC_MDIO_CMD_BUSY 0).wr F.MAC_MDIO_DATA_DATA d.toNat
         else s.wr F.MAC_MDIO_CMD_BUSY 0))) ∧
    (∀ (a v : Nat), (s.writeFields a v).mem = s.mem ∧ (∀ b, b ≠ a → (s.writeFields a v).reg b = s.reg b))) ∧
  (∀ (s : State) (p : Fin 24), s.alive = true →
    (∀ d : List Byte, p.val < 16 → daOf d = 0x0180C2000001 ∨ daOf d = s.ownMac → s.on (F.MAC_STATUS_PAUSE_IGNORED p) = false →
      let u := s.inc (C.MAC_RX_PAUSE p)
      (fld d 14 2 = 1 → s.pfcOn p = false → s.on (F.MAC_CTRL_PAUSE_RX_EN p) = true →
        s.macControl p d false = u ∧
        s.macControl p d true = (List.range 8).foldl (fun u c => u.pauseClass p c (fld d 16 2)) u) ∧
      (fld d 14 2 = 0x0101 → s.pfcOn p = true → s.macControl p d true =
        (List.range 8).foldl (fun u c => if (fld d 16 2).testBit c then u.pauseClass p c (fld d (18 + 2 * c) 2) else u) u)) ∧
    (∀ (d : List Byte) (good : Bool), p.val < 16 → daOf d = 0x0180C2000001 ∨ daOf d = s.ownMac →
      (fld d 14 2 = 1 ∧ s.pfcOn p = false ∧ s.on (F.MAC_CTRL_PAUSE_RX_EN p) = true) ∨ (fld d 14 2 = 0x0101 ∧ s.pfcOn p = true) →
      s.on (F.MAC_STATUS_PAUSE_IGNORED p) = true →
      s.macControl p d good = (s.inc (C.MAC_RX_PAUSE p)).inc (C.MAC_RX_PAUSE_IGN p)) ∧
    (∀ (d : List Byte) (good : Bool), 16 ≤ p.val ∨ (fld d 14 2 ≠ 1 ∧ fld d 14 2 ≠ 0x0101) ∨
        (daOf d ≠ 0x0180C2000001 ∧ daOf d ≠ s.ownMac) →
      s.macControl p d good = s.inc (C.MAC_RX_CTRL_UNSUP p)) ∧
    (∀ (c : Fin 8) (q : Nat),
      ((s.pauseClass p c q).rd (F.MAC_STATUS_PAUSED p)).testBit c = decide (q ≠ 0) ∧
      (∀ d : Fin 8, d ≠ c → ((s.pauseClass p c q).rd (F.MAC_STATUS_PAUSED p)).testBit d = (s.rd (F.MAC_STATUS_PAUSED p)).testBit d) ∧
      (q ≠ 0 → sget 0 ((s.pauseClass p c q).port p).pauseEnd c = s.clk.now + q * 512 * 1000000 / s.portKbps p)) ∧
    (∀ c : Fin 8, sget 0 (s.port p).pauseEnd c ≤ s.clk.now → exec (.pauseExpiry p c) s =
      .next (settle (s.setPaused p (clearBit (s.rd (F.MAC_STATUS_PAUSED p)) c)))) ∧
    (s.rd (F.MAC_PAUSE_WD_LIMIT p) ≠ 0 → s.rd (F.MAC_STATUS_PAUSED p) ≠ 0 →
      s.rd (F.MAC_PAUSE_WD_LIMIT p) * 1000 < (s.clk.now - (s.port p).pausedAt) / 1000 → s.rd (F.MAC_PAUSE_WD_HOLD p) ≠ 0 →
      exec (.pauseWdTrip p) s = .next (settle
        (((((s.releasePause p).inc (C.MAC_PAUSE_WD p)).raise 0x0403 p).wr (F.MAC_STATUS_PAUSE_IGNORED p) 1).modPort p
          (fun m => { m with ignoreEnd := s.clk.now + s.rd (F.MAC_PAUSE_WD_HOLD p) * 1000000 })))) ∧
    (s.rd (F.MAC_PAUSE_WD_LIMIT p) = 0 ∨ (s.clk.now - (s.port p).pausedAt) / 1000 ≤ s.rd (F.MAC_PAUSE_WD_LIMIT p) * 1000 → exec (.pauseWdTrip p) s = .next (settle s)) ∧
    (s.rd (F.MAC_PAUSE_WD_LIMIT p) ≠ 0 → s.rd (F.MAC_STATUS_PAUSED p) ≠ 0 →
      s.rd (F.MAC_PAUSE_WD_LIMIT p) * 1000 < (s.clk.now - (s.port p).pausedAt) / 1000 → s.rd (F.MAC_PAUSE_WD_HOLD p) = 0 →
      exec (.pauseWdTrip p) s = .next (settle (((s.releasePause p).inc (C.MAC_PAUSE_WD p)).raise 0x0403 p)) ∧
      (((s.releasePause p).inc (C.MAC_PAUSE_WD p)).raise 0x0403 p).rd (F.MAC_STATUS_PAUSED p) = 0) ∧
    ((s.port p).ignoreEnd ≤ s.clk.now → exec (.pauseIgnoredEnd p) s = .next (settle (s.wr (F.MAC_STATUS_PAUSE_IGNORED p) 0))) ∧
    (let u := s.updatePause p
     let every := u.quantaNs p (if u.rd (F.MAC_PAUSE_REFRESH p) = 0 then u.rd (F.MAC_PAUSE_TX_QUANTA p) / 2 else u.rd (F.MAC_PAUSE_REFRESH p))
     ((u.port p).pauseReq ≠ 0 → (u.port p).refreshAt + every ≤ s.clk.now →
       exec (.pauseRefresh p) s = .next (settle
         ((u.askPause p (u.port p).pauseReq false).modPort p (fun m => { m with refreshAt := s.clk.now })))) ∧
     ((u.port p).pauseReq = 0 ∨ s.clk.now < (u.port p).refreshAt + every → exec (.pauseRefresh p) s = .next (settle u))))

/-- The group-address hash filter: With GFILTER_EN the filter rejects exactly a frame whose destination has the group bit set, is
neither broadcast nor one of the reserved addresses 01-80-C2-00-00-00 to 0F, and whose bit h of the port's 256 filter bits is
0, where h is the XOR of the six octets, and the bit lies in GHASHk, k = floor(h / 32), at h mod 32; a frame it rejects
consumes no forwarding decision, whether it is rejected while it arrives or at its end: it is counted neither as decided nor as
wasted. With GFILTER_EN 0 nothing is rejected. (R170, R171) -/
def Obligations.GroupFilterRule : Prop :=
  ∀ (s : State) (p : Fin 24) (a b c d e f : Byte) (r : List Byte),
    let h := a ^^^ b ^^^ c ^^^ d ^^^ e ^^^ f
    (s.gfilter p (a :: b :: c :: d :: e :: f :: r) = true ↔
      s.on (F.MAC_CTRL_GFILTER_EN p) = true ∧ a.getLsbD 0 = true ∧
      ¬ (a = 0xFF ∧ b = 0xFF ∧ c = 0xFF ∧ d = 0xFF ∧ e = 0xFF ∧ f = 0xFF) ∧
      ¬ (a = 0x01 ∧ b = 0x80 ∧ c = 0xC2 ∧ d = 0 ∧ e = 0 ∧ f.toNat ≤ 15) ∧
      (s.reg (R.MAC_GHASH0 p + 4 * (h.toNat / 32))).getLsbD (h.toNat % 32) = false) ∧
    (∀ (fr : RxFrame) (raw : List Byte) (en : RxEnd), s.forwarding = true → s.gfilter p (dropFcs raw) = true →
      en.cutAt = none → (s.classify p fr.tpid (dropFcs raw)).isSome = true →
      s.endPlain p fr raw en = (s.inc (C.MAC_RX_GFILTER p)).dropFrame fr ∧ (s.endPlain p fr raw en).cnt = s.cnt) ∧
    (∀ fr : RxFrame, (s.port p).inq = [] → (s.port p).cur = some fr → s.gfilter p (dropFcs fr.bytes) = true →
      (s.forwardingDecision p).cnt = s.cnt)

/-- The first receive check that fails decides: At the end of a frame that no decision has met, on a port without MACsec receive,
exactly the counter of the first failing check counts: RX_NOTREADY before forwarding, then RX_TAGDROP (which a frame cut before
its tag had arrived does not fail), RX_GFILTER, MAC control, RX_TRUNC of a cut frame, RX_RUNT below 64 bytes, RX_OVERSIZE above
the port's largest frame, RX_CODE, RX_FCS; and a frame that passes them counts RX_FRAMES and its octets and waits for its
decision. The cells of a dropped frame return. A whole frame with a good FCS that is a Sync has its instant noted whatever the
checks make of it. (R157, R164, R169, R170, R176, Table 4-5 of 04_ethernet_ports.md) -/
def Obligations.ReceiveChecksInOrder : Prop :=
  ∀ (s : State) (p : Fin 24) (f : RxFrame) (e : RxEnd), s.alive = true → (s.port p).cur = some f → f.dead = false →
    f.decided = false → e.fragErr = false → (p.val < 16 → s.on (F.CPH_MS_CTRL_RX_EN p) = false) →
    let raw := match e.cutAt with | some n => f.bytes.take n | none => f.bytes
    let d := if e.cutAt.isSome then raw else dropFcs raw
    let w := (s.plcaYield p).modPort p (fun m => { m with cur := none })
    let u := if e.cutAt = none ∧ fcsOk raw = true then w.noteSync (stripTag f.tpid (dropFcs raw)) else w
    let drop (c : Nat) := exec (.frameEndRx p e) s = .next (settle ((u.inc c).dropFrame f))
    (s.forwarding = false → drop (C.MAC_RX_NOTREADY p)) ∧
    (s.forwarding = true → tagKnown f.tpid d = true → s.classify p f.tpid d = none → drop (C.MAC_RX_TAGDROP p)) ∧
    (∀ d' vid pcp dei, s.forwarding = true →
      (if tagKnown f.tpid d = true then s.classify p f.tpid d else some (d, 0, 0, 0)) = some (d', vid, pcp, dei) →
      (s.gfilter p d = true → drop (C.MAC_RX_GFILTER p)) ∧
      (s.gfilter p d = false → etOf d = 0x8808 → exec (.frameEndRx p e) s = .next (settle
        ((u.macControl p d (e.cutAt.isNone && !e.codeErr && decide (64 ≤ raw.length) && fcsOk raw)).dropFrame f))) ∧
      (s.gfilter p d = false → etOf d ≠ 0x8808 →
        (e.cutAt.isSome = true → drop (C.MAC_RX_TRUNC p)) ∧
        (e.cutAt = none → raw.length < 64 → drop (C.MAC_RX_RUNT p)) ∧
        (e.cutAt = none → 64 ≤ raw.length → s.maxFrame p < raw.length → drop (C.MAC_RX_OVERSIZE p)) ∧
        (e.cutAt = none → 64 ≤ raw.length → raw.length ≤ s.maxFrame p → e.codeErr = true → drop (C.MAC_RX_CODE p)) ∧
        (e.cutAt = none → 64 ≤ raw.length → raw.length ≤ s.maxFrame p → e.codeErr = false → fcsOk raw = false → drop (C.MAC_RX_FCS p)) ∧
        (e.cutAt = none → 64 ≤ raw.length → raw.length ≤ s.maxFrame p → e.codeErr = false → fcsOk raw = true →
          exec (.frameEndRx p e) s = .next (settle
            (((u.inc (C.MAC_RX_FRAMES p)).add64 (C.MAC_RX_OCTETS_LO p) raw.length).acceptFrame p f d' vid pcp dei none)))))

/-- A decision takes the oldest frame of a port: In a forwarding device FORWARDING_DECISION takes the oldest whole frame that waits
on the port, gives it its cells, counts a decision, and passes it through FWD, SCT and admission, unless the port is internal
and the buffer lacks the cells, when the frame waits; a port with nothing waiting and nothing in reception is left alone. With
nothing waiting, the frame in reception is decided once the octets that its headers need have arrived, on a port without MACsec
receive, when it passes the early checks, and waits before. Every decision counts in DECISIONS; a frame of a VID that is 0,
4095 or not valid is dropped into VLAN_UNKNOWN, one of a VLAN with ingress filtering from a port that is no member into
INGRESS_FILTER, and one from a group source address into SA_GROUP, in that order. STAGING_CELL_TAKE gives the frame in
reception the next cell that the octets arrived so far need. (R188, R192, R196, R200, R279, R280, R714, Table 5-10 of
05_ingress_and_forwarding.md) -/
def Obligations.ForwardingDecides : Prop :=
  ∀ (s : State) (p : Fin 28), s.forwarding = true →
    (∀ f r, (s.port p).inq = f :: r → s.creditHeld p = true → exec (.forwardingDecision p) s = .next (settle s)) ∧
    (s.creditHeld p = true ↔ 24 ≤ p.val ∧ ∃ f r, (s.port p).inq = f :: r ∧ s.freeCells < cellsOf (f.bytes.length + 4) - f.cells.length) ∧
    (∀ f r, (s.port p).inq = f :: r → s.creditHeld p = false →
      let u := s.modPort p (fun m => { m with inq := r })
      let c := u.fillCells f (cellsOf (f.bytes.length + 4))
      exec (.forwardingDecision p) s = .next (settle (if c.2.dead then c.1 else (c.1.countDecision.decideFrame p c.2).1)) ∧
        (u.port p).inq = r ∧ c.1.countDecision.cnt.decided = c.1.cnt.decided + 1) ∧
    ((s.port p).inq = [] → (s.port p).cur = none → exec (.forwardingDecision p) s = .next (settle s) ∧
      exec (.stagingCellTake p) s = .next (settle s)) ∧
    (∀ f, (s.port p).inq = [] → (s.port p).cur = some f → f.dead = false → f.decided = false →
      (s.arrived p f < headerNeed (dropFcs f.bytes) → exec (.forwardingDecision p) s = .next (settle s)) ∧
      (∀ x vid pcp dei, headerNeed (dropFcs f.bytes) ≤ s.arrived p f → (p.val < 16 → s.on (F.CPH_MS_CTRL_RX_EN p) = false) →
        s.earlyChecks p f.tpid (dropFcs f.bytes) = .pass x vid pcp dei →
        let c := s.countDecision.decideFrame p
          { f with bytes := x, vid := vid, pcp := pcp, dei := dei, tagOct := (dropFcs f.bytes).length - x.length }
        exec (.forwardingDecision p) s = .next (settle (c.1.modPort p (fun m => { m with cur := some { c.2 with bytes := f.bytes } }))))) ∧
    (∀ f, (s.port p).cur = some f → f.dead = false → f.decided = false → f.cells.length < max 1 (cellsOf (s.stagedOctets p f)) →
      let r := s.fillCells f (f.cells.length + 1)
      exec (.stagingCellTake p) s = .next (settle (r.1.modPort p (fun m =>
        { m with cur := some (if r.2.dead then { r.2 with dead := false, decided := true } else r.2) })))) ∧
    (∀ f : RxFrame, f.mask = none →
      let u := s.add64 C.FWD_DECISIONS_LO 1
      (f.vid = 0 ∨ f.vid = 4095 ∨ (s.tw 1 f.vid 2).testBit 8 = false → s.decide_ p f = (u.inc C.FWD_VLAN_UNKNOWN, none)) ∧
      (f.vid ≠ 0 → f.vid ≠ 4095 → (s.tw 1 f.vid 2).testBit 8 = true →
        ((s.tw 1 f.vid 2).testBit 10 = true → s.member f.vid p = false → s.decide_ p f = (u.inc C.FWD_INGRESS_FILTER, none)) ∧
        ((s.tw 1 f.vid 2).testBit 10 = false → isGroup (saOf f.bytes) = true → s.decide_ p f = (u.inc C.FWD_SA_GROUP, none))))

/-- An inserted address is found by its key: When no migration runs, the table does not hold the staged key, and one of the slots
of its two buckets is free, MAC_INSERT puts the entry into the first free one and reports OK with that slot; the table then
finds the key in that slot, with the MAC, the FID and the destination staged and AGE 3; every other slot keeps its entry. A
MAC_LOOKUP of a key that the table holds brings its words to FWD_STAGE0 to 3 and reports its slot, and one of a key that it
does not hold reports 3. (R199, R200, R202, R203, Table 5-9 of 05_ingress_and_forwarding.md) -/
def Obligations.InsertedAddressIsFound : Prop :=
  ∀ (s : State), s.writable R.FWD_COMMIT →
    (∀ i, let e := macStaged (s.staged R.FWD_STAGE0 4);
      let k := macKey e;
      s.migState = 0 → macValid e = true → s.macFind k.1 k.2 = none →
      s.freeSlot (s.bucketSlots s.fwd.curSet 0 k.1 k.2 ++ s.bucketSlots s.fwd.curSet 1 k.1 k.2) = some i →
      let t := (s.setEntry 2 i (macWith e 27 1 s.fwd.curSet)).macStatus 0 (some i)
      exec .macInsert s = .next (settle t) ∧ t.macFind k.1 k.2 = some i ∧ macKey (t.entry 2 i) = k ∧
        macDest (t.entry 2 i) = macDest e ∧ macAge (t.entry 2 i) = 3 ∧ (∀ j, j ≠ i → j < 32776 → t.entry 2 j = s.entry 2 j)) ∧
    (∀ i, let k := macKey (s.staged R.FWD_STAGE0 4);
      s.macFind k.1 k.2 = some i →
      exec .macLookup s = .next (settle (((((s.setReg R.FWD_STAGE0 (nth 0 (s.entry 2 i) 0)).setReg R.FWD_STAGE1
        (nth 0 (s.entry 2 i) 1)).setReg R.FWD_STAGE2 (nth 0 (s.entry 2 i) 2)).setReg R.FWD_STAGE3
          (nth 0 (s.entry 2 i) 3)).macStatus 0 (some i))) ∧
      exec .macDelete s = .next (settle (((s.setEntry 2 i []).macStatus 0 (some i)).partialRetry))) ∧
    (let k := macKey (s.staged R.FWD_STAGE0 4);
      s.macFind k.1 k.2 = none → exec .macLookup s = .next (settle (s.macStatus 3 none)) ∧
        exec .macDelete s = .next (settle (s.macStatus 3 none)))

/-- Seeds, migration, learning, ageing and flushes: A seed is written only while the table holds no valid entry. MIGRATE_START in
IDLE begins a walk at the first slot and elsewhere does nothing; a step of the migration visits one slot and shows what
remains. The learn queue gives its oldest request to the table, which counts it learned, failed, or, where the key is known,
neither. At the end of the walk the stash is retried; with no old entry left the migration is done, and otherwise it is PARTIAL
and 0x0503 is raised. The ageing sweep with AGE_TIME 0 does nothing; otherwise, while no migration is PARTIAL, it leaves every
static entry as it was, removes a dynamic entry of AGE 0, and takes one off the AGE of any other that the table lists once. A
write of FWD_FLUSH takes its fields; with START and not BUSY it leaves no dynamic entry of that scope and, while no migration
runs, every other entry as it was; its end clears BUSY. (R205, R206, R208, R210, R212, R213, R214, R215, R217, R218, R211) -/
def Obligations.MacTableKeepsHouse : Prop :=
  ∀ (s : State), s.alive = true →
    (∀ (w : Fin 2) (v : Word), s.writable (R.FWD_SEED_CUR0 + 4 * w) →
      (s.macSlots = [] → exec (.seedWrite w v) s = .next (settle (s.setReg (R.FWD_SEED_CUR0 + 4 * w) v))) ∧
      (s.macSlots ≠ [] → exec (.seedWrite w v) s = .next (settle s))) ∧
    (s.writable R.FWD_MIGRATE →
      (s.migState = 0 → exec .migrateStart s = .next (settle
        { s.wr F.FWD_MIGRATE_STATE 1 with fwd := { s.fwd with walk := 0 } }.setRemain)) ∧
      (s.migState ≠ 0 → exec .migrateStart s = .next (settle s))) ∧
    (s.migState = 1 → s.fwd.walk < 32768 →
      exec .migrateStep s = .next (settle
        { s.migrateSlot s.fwd.walk with fwd := { (s.migrateSlot s.fwd.walk).fwd with walk := s.fwd.walk + 1 } }.setRemain) ∧
      ((macValid (s.entry 2 s.fwd.walk) = false ∨ macSet (s.entry 2 s.fwd.walk) ≠ s.fwd.curSet) → s.migrateSlot s.fwd.walk = s)) ∧
    (∀ fid mac port r, s.fwd.learnQ = (fid, mac, port) :: r →
      let u := { s with fwd := { s.fwd with learnQ := r } }
      let x := u.macInsert (learned fid mac port)
      exec .learnInsert s = .next (settle
        (if x.2 = .full then x.1.inc C.FWD_LEARN_FAIL
         else if (u.macFind fid mac).isSome then x.1 else x.1.inc C.FWD_LEARNED))) ∧
    (s.rd F.FWD_AGE_AGE_TIME = 0 → exec .ageingSweep s = .next (settle s)) ∧
    (s.migState = 1 → 32768 ≤ s.fwd.walk →
      let u := s.retryStash.setRemain
      exec .migrateStep s = .next (settle (if u.oldEntries = [] then u.migrateDone else (u.wr F.FWD_MIGRATE_STATE 2).raise 0x0503 0))) ∧
    (s.rd F.FWD_AGE_AGE_TIME ≠ 0 → s.migState ≠ 2 → ∃ t, exec .ageingSweep s = .next (settle t) ∧
      (∀ i, i < 65536 → macStatic (s.entry 2 i) = true → t.entry 2 i = s.entry 2 i) ∧
      (∀ i ∈ s.macSlots, macStatic (s.entry 2 i) = false → macAge (s.entry 2 i) = 0 → t.entry 2 i = []) ∧
      (∀ i, s.macSlots.count i = 1 → macStatic (s.entry 2 i) = false → macAge (s.entry 2 i) ≠ 0 →
        t.entry 2 i = macWith (s.entry 2 i) 28 2 (macAge (s.entry 2 i) - 1)) ∧
      t.mem = s.mem ∧ t.buf = s.buf) ∧
    (∀ v : Word, s.writable R.FWD_FLUSH → (v.toNat.testBit 31 = false ∨ s.on F.FWD_FLUSH_BUSY = true) →
      exec (.fwdFlush v) s = .next (settle (((s.wr F.FWD_FLUSH_SCOPE (bits v.toNat 28 2)).wr F.FWD_FLUSH_PORT (bits v.toNat 8 5)).wr
        F.FWD_FLUSH_FID (bits v.toNat 0 6)))) ∧
    (∀ v : Word, s.writable R.FWD_FLUSH → v.toNat.testBit 31 = true → s.on F.FWD_FLUSH_BUSY = false →
      let scope := bits v.toNat 28 2
      let port := bits v.toNat 8 5
      let fid := bits v.toNat 0 6
      let u := ((s.wr F.FWD_FLUSH_SCOPE scope).wr F.FWD_FLUSH_PORT port).wr F.FWD_FLUSH_FID fid
      exec (.fwdFlush v) s = .next (settle (u.flushMac scope port fid)) ∧
      (s.migState = 0 →
        (∀ i ∈ (u.flushMac scope port fid).macSlots, flushTakes scope port fid ((u.flushMac scope port fid).entry 2 i) = false) ∧
        (∀ i, i < 32776 → flushTakes scope port fid (s.entry 2 i) = false → (u.flushMac scope port fid).entry 2 i = s.entry 2 i))) ∧
    exec .fwdFlushDone s = .next (settle (s.wr F.FWD_FLUSH_BUSY 0))

/-- A next hop must lead to a member of its VLAN: A routed frame whose next hop names a port that is not a member of the next hop's
VID is dropped and counted in NH_INVALID: the hop yields that drop whatever else it holds, and a frame to a router MAC that a
route takes to it, and a stream channel's ACTION 1 over it, for a frame that no exception of Table 5-8 takes first, end in that
counter. Where the hop is valid, its VID is in range and its port a member, the frame is not dropped there. (R229) -/
def Obligations.NextHopMembership : Prop :=
  ∀ (s : State) (d : List Byte) (nh : Nat),
    let port := bits (s.tw 4 nh 1) 16 5
    let vid := bits (s.tw 4 nh 2) 0 12
    (s.member vid port = false → s.throughHop d nh = .drop C.FWD_NH_INVALID) ∧
    (∀ key i, s.member vid port = false → s.routeCheck d = none →
      key = (if isV4 d then [(1, fld d 30 4)] else [(2, fld d 38 8), (3, fld d 46 8)]) →
      s.tcamFind s.flowSlices 4096 key = some i → bits (s.slice i).2.2 28 2 = 0 → bits (s.slice i).2.2 0 10 = nh →
      s.route d = .drop C.FWD_NH_INVALID) ∧
    (∀ (h p : Nat) (t : Fate), s.member vid port = false → s.scf h 0 1 3 = 1 → s.scf h 7 0 10 = nh → t.cls ≠ 7 →
      let x := rtagPop (t.orig.getD t.data)
      (isV4 x = true ∨ isV6 x = true → s.routeCheck x = none) → ∃ u, s.scAction h p t = .error (s.inc C.FWD_NH_INVALID, u)) ∧
    ((s.tw 4 nh 1).testBit 28 = true → port < 24 → vid ≠ 0 → vid ≠ 4095 → s.member vid port = true →
      ∃ d', s.throughHop d nh = .go d' vid port ∧ daOf d' = bits (s.tw 4 nh 1) 0 16 * 2 ^ 32 + s.tw 4 nh 0)

/-- Table writes and the TCAM scrub: TABLE_WRITE with OP 0 on TABLE 1, 3 or 4 puts the staged words into the VLAN, TCAM or next-hop
entry that INDEX names (modulo 1024 for next hops), shows OK, and leaves every other entry as it was; with another OP, or for
another TABLE, it changes nothing. TCAM_SCRUB of a slice that equals its shadow changes nothing; of one that differs, by an
upset found now or before, it restores the slice, counts TCAM_FIX, raises 0x0505 with parameter 0 and counts an event of the
transient detector of TCAM bank i / 256; an uncorrectable shadow makes the device fail-silent with cause 5. (R15, R202, R228,
05_ingress_and_forwarding.md) -/
def Obligations.TablesAndScrub : Prop :=
  ∀ (s : State),
    (∀ v : Word, s.writable R.FWD_COMMIT →
      let t := bits v.toNat 28 4
      let i := bits v.toNat 0 12
      (t = 1 → bits v.toNat 26 2 = 0 → exec (.tableWrite v) s = .next (settle
        ((s.setEntry 1 i (s.staged R.FWD_STAGE0 3)).setRegN R.FWD_COMMIT_STATUS 0))) ∧
      (t = 3 → bits v.toNat 26 2 = 0 → exec (.tableWrite v) s = .next (settle
        ((({ s with fwd := { s.fwd with tcamBad := sput 0 i 0 s.fwd.tcamBad } }).setEntry 3 i (s.staged R.FWD_STAGE0 7)).setRegN
          R.FWD_COMMIT_STATUS 0))) ∧
      (t = 4 → bits v.toNat 26 2 = 0 → exec (.tableWrite v) s = .next (settle
        ((s.setEntry 4 (i % 1024) (s.staged R.FWD_STAGE0 5)).setRegN R.FWD_COMMIT_STATUS 0))) ∧
      ((t ≠ 1 ∧ t ≠ 3 ∧ t ≠ 4) ∨ bits v.toNat 26 2 ≠ 0 → exec (.tableWrite v) s = .next (settle s))) ∧
    (∀ (t i j : Nat) (w : List Word), i < 65536 → j < 65536 → i ≠ j → (s.setEntry t i w).entry t j = s.entry t j) ∧
    (s.alive = true → ∀ i : Fin 4096,
      (sget 0 s.fwd.tcamBad i = 0 → exec (.tcamScrub i false false) s = .next (settle s)) ∧
      (∀ upset : Bool, upset = true ∨ sget 0 s.fwd.tcamBad i ≠ 0 →
        let u := { s with fwd := { s.fwd with tcamBad := sput 0 i 0 s.fwd.tcamBad } }
        exec (.tcamScrub i upset false) s = .next (settle (((u.inc C.FWD_TCAM_FIX).raise 0x0505 0).detect 4 (i / 256))) ∧
        u.slice i = (s.tw 3 i 0 + s.tw 3 i 1 * 2 ^ 32 + (s.tw 3 i 2 % 65536) * 2 ^ 64,
          s.tw 3 i 3 + s.tw 3 i 4 * 2 ^ 32 + (s.tw 3 i 5 % 65536) * 2 ^ 64, s.tw 3 i 6)) ∧
      (∀ upset : Bool, exec (.tcamScrub i upset true) s = .next (settle (s.failSilent 5 i))))

/-- Stream channel commits, captures and the recovery reset: SCT_COMMIT puts the eight staged words into the entry that HANDLE
names; where the entry becomes valid, or RESET_STATE is 1 on a valid one, the channel starts with full buckets, its counters 0,
no history and TAKE_ANY set, and otherwise its dynamic state stays. SCT_STATE_SEL shows the dynamic state of the named channel.
RCV_RESET of a valid recovering channel without an accepted frame for RESET_MS milliseconds sets TAKE_ANY, clears the history,
counts RCV_RESETS and raises 0x0602 with the handle, and before that time, with RESET_MS 0 or with TAKE_ANY set changes
nothing. A write of SCT_LATn_THRESH sets THRESH, and CLEAR zeroes the monitor. (R15, R240, R241, R242, R263, Table 6-2 of
06_stream_channels.md) -/
def Obligations.ChannelsAndMonitors : Prop :=
  ∀ (s : State),
    (∀ v : Word, s.writable R.SCT_COMMIT →
      let h := bits v.toNat 0 9
      let u := s.setEntry 5 h (s.staged R.SCT_STAGE0 8)
      (u.scf h 0 0 1 = 1 → (s.scf h 0 0 1 ≠ 1 ∨ v.toNat.testBit 31 = true) →
        exec (.sctCommit v) s = .next (settle (u.dynInit h)) ∧ ((u.dynInit h).dyn h).takeAny = true ∧
        ((u.dynInit h).dyn h).ctok = u.scf h 3 0 20 * 1000 ∧ ((u.dynInit h).dyn h).etok = u.scf h 4 0 20 * 1000 ∧
        ((u.dynInit h).dyn h).gen = 0 ∧ ((u.dynInit h).dyn h).hist = 0 ∧ ((u.dynInit h).dyn h).recov = 0) ∧
      (u.scf h 0 0 1 ≠ 1 ∨ (s.scf h 0 0 1 = 1 ∧ v.toNat.testBit 31 = false) →
        exec (.sctCommit v) s = .next (settle u) ∧ u.dyn h = s.dyn h)) ∧
    (∀ v : Word, s.writable R.SCT_STATE_SEL →
      let h := bits v.toNat 0 9
      exec (.sctStateSel v) s = .next (settle
        ((((((s.wr F.SCT_STATE_SEL_HANDLE h).setRegN R.SCT_STATE0 (s.dyn h).ctok).setRegN R.SCT_STATE1 (s.dyn h).etok).setRegN
          R.SCT_STATE2 ((s.dyn h).gen * 65536 + (s.dyn h).recov)).setRegN R.SCT_STATE3 (s.dyn h).hist).setRegN R.SCT_STATE4
            (b2n (s.dyn h).twinSeq.isSome * 2 + b2n (s.dyn h).takeAny)))) ∧
    (∀ h : Fin 512, s.alive = true → s.scf h 0 0 1 = 1 → (s.scf h 5 2 2 = 1 ∨ s.scf h 5 2 2 = 2) → s.scf h 5 12 12 ≠ 0 →
      (s.dyn h).takeAny = false → (s.dyn h).acceptAt + s.scf h 5 12 12 * 1000000 ≤ s.clk.now →
      exec (.rcvReset h) s = .next (settle
        (((s.setDyn h { s.dyn h with takeAny := true, hist := 0 }).inc C.SCT_RCV_RESETS).raise 0x0602 h))) ∧
    (∀ h : Fin 512, s.alive = true → (s.scf h 0 0 1 ≠ 1 ∨ s.scf h 5 12 12 = 0 ∨ (s.dyn h).takeAny = true ∨
        s.clk.now < (s.dyn h).acceptAt + s.scf h 5 12 12 * 1000000) →
      exec (.rcvReset h) s = .next (settle s)) ∧
    (∀ (m : Fin 16) (v : Word), s.writable (R.SCT_LAT_THRESH m) →
      (v.toNat.testBit 31 = false → exec (.latencyClear m v) s = .next (settle (s.wr (F.SCT_LAT_THRESH_THRESH m) v.toNat))) ∧
      (v.toNat.testBit 31 = true → ∃ u : State, exec (.latencyClear m v) s = .next (settle u) ∧ u.regN (R.SCT_LAT_MIN m) = 0xFFFFFFFF ∧
        u.regN (R.SCT_LAT_MAX m) = 0 ∧ u.pair (R.SCT_LAT_SUM_LO m) (R.SCT_LAT_SUM_HI m) = 0 ∧ u.regN (R.SCT_LAT_COUNT m) = 0 ∧
        u.regN (R.SCT_LAT_OVER m) = 0 ∧ u.tables = s.tables ∧ u.mem = s.mem))

/-- An accepted sequence number is accepted once: In a channel with recovery (RCV 1 or 2), after a frame with a sequence number has
been accepted, a second frame with that number is eliminated; a frame that is not accepted changes nothing in recovery; the
history stays within its 32 bits; and a frame without an R-TAG neither reads nor changes the recovery state, and counts in
TAGLESS, passed with TAKE_NO_SEQ and dropped without. (R262, R264, 06_stream_channels.md) -/
def Obligations.DuplicatesAreEliminated : Prop :=
  ∀ (s : State) (h seq : Nat), (s.scf h 5 2 2 = 1 ∨ s.scf h 5 2 2 = 2) → seq < 65536 → (s.dyn h).recov < 65536 →
    ((s.recover h seq).2 = .accept → ((s.recover h seq).1.recover h seq).2 = .eliminate) ∧
    ((s.recover h seq).2 ≠ .accept → (s.recover h seq).1 = s) ∧
    ((s.dyn h).hist < 2 ^ 32 → ((s.recover h seq).1.dyn h).hist < 2 ^ 32) ∧
    ((s.recover h seq).1.dyn h).recov < 65536 ∧
    (∀ (p : Nat) (wt : Int) (lost : Bool) (t : Fate), rtagOf t.data = none →
      s.scRecover h p wt lost t = if s.scf h 5 5 1 = 1 then .ok (s.inc C.SCT_TAGLESS, t) else .error (s.inc C.SCT_TAGLESS, t))

/-- What a latency sample updates: A sample of ns nanoseconds makes MIN the smaller and MAX the larger of it and the old value,
adds it to the 64-bit SUM and one to COUNT; beyond a THRESH that is not 0 it also counts OVER, and raises 0x0603 with the
handle when no such event of the monitor was raised in the last millisecond; otherwise OVER stays and nothing is raised. (R271) -/
def Obligations.LatencySamples : Prop :=
  ∀ (s : State) (m : Fin 16) (h ns : Nat), ns < 2 ^ 32 →
    let t := s.latSample m h ns
    let beyond := s.rd (F.SCT_LAT_THRESH_THRESH m) ≠ 0 ∧ s.rd (F.SCT_LAT_THRESH_THRESH m) < ns
    let told := sget 0 s.latAt m ≠ 0 ∧ s.clk.now + 1 < sget 0 s.latAt m + 1000000
    t.regN (R.SCT_LAT_MIN m) = min (s.regN (R.SCT_LAT_MIN m)) ns ∧ t.regN (R.SCT_LAT_MAX m) = max (s.regN (R.SCT_LAT_MAX m)) ns ∧
    t.pair (R.SCT_LAT_SUM_LO m) (R.SCT_LAT_SUM_HI m) = (s.pair (R.SCT_LAT_SUM_LO m) (R.SCT_LAT_SUM_HI m) + ns) % 2 ^ 64 ∧
    t.regN (R.SCT_LAT_COUNT m) = (s.regN (R.SCT_LAT_COUNT m) + 1) % 2 ^ 32 ∧
    (beyond → t.regN (R.SCT_LAT_OVER m) = (s.regN (R.SCT_LAT_OVER m) + 1) % 2 ^ 32) ∧
    (¬ beyond → t.regN (R.SCT_LAT_OVER m) = s.regN (R.SCT_LAT_OVER m)) ∧
    (beyond → ¬ told → ∃ e, t.evq = s.evq ++ [e] ∧ e.code = 0x0603 ∧ e.param = h) ∧
    (¬ beyond ∨ told → t.evq = s.evq)

/-- The steps of a stream channel, its policer and its numbers: A frame of an invalid channel is counted in INVALID_SC alone. One
of a valid channel counts FRAMES (a stamp of its own apart) and takes the steps of Table 6-1 in order, of which the first that
drops it ends it; an authentication binding that fails ends it in AUTH_FAIL, and one that holds passes it, an ended frame
longer than MAX_SDU in SDU_OVERSIZE, ACTION 4 to 7 in ACTION_INVALID; GEN 1 gives it the generation counter, which goes one on
modulo 65536. The policer's buckets never exceed their bursts; a green frame takes its length from the committed bucket and a
yellow one from the excess bucket; a red one takes nothing. (R237, R244, R246, R255, R256, R259, R268, Table 6-1 of
06_stream_channels.md) -/
def Obligations.StreamStepsInOrder : Prop :=
  (∀ (s : State) (h p : Nat) (f : RxFrame) (d : Dec),
    (s.scf h 0 0 1 = 0 → s.sctSteps h p f d = .error (s.inc C.SCT_INVALID_SC, plainFate d)) ∧
    (s.scf h 0 0 1 = 1 →
      let c := s.scCount h p f.wt (plainFate d)
      (s.scf h 0 5 1 = 0 ∨ 24 ≤ p → c.1 = s.inc (C.SCT_C_FRAMES h)) ∧
      s.sctSteps h p f d =
        (((((((c.1.scAuth h p f.keySlot c.2.1).andThen (fun s t => s.scSdu h f.ended t)).andThen (fun s t => s.scGate h t)).andThen
          (fun s t => s.scFits h p f.ended t)).andThen (fun s t => s.scPolice h p f.ended t)).andThen
          (fun s t => s.scRecover h p f.wt (c.2.2 || f.stampLost) t)).andThen (fun s t => s.scGen h f.esiFirst f.spf t)).andThen
          (fun s t => s.scAction h p t))) ∧
  (∀ (x : State × Fate) (k : State → Fate → Pass), Pass.andThen (.error x) k = .error x ∧ Pass.andThen (.ok x) k = k x.1 x.2) ∧
  (∀ (s : State) (h p : Nat) (slot : Option Nat) (t : Fate),
    (s.scf h 6 12 2 = 1 → p < 24 → slot ≠ some (s.scf h 6 16 8) → s.scAuth h p slot t = .error (s.inc (C.SCT_C_AUTH_FAIL h), t)) ∧
    (s.scf h 6 12 2 = 1 → 24 ≤ p ∨ slot = some (s.scf h 6 16 8) → s.scAuth h p slot t = .ok (s, t)) ∧
    (s.scf h 6 12 2 = 0 → s.scAuth h p slot t = .ok (s, t)) ∧
    (s.scf h 0 16 14 ≠ 0 → s.scf h 0 16 14 < scLen t.data → s.scSdu h true t = .error (s.inc (C.SCT_C_SDU_OVERSIZE h), t)) ∧
    (4 ≤ s.scf h 0 1 3 → ∃ u, s.scAction h p t = .error (s.inc C.SCT_ACTION_INVALID, u)) ∧
    (∀ first spf, s.scf h 5 0 2 = 1 → ∃ u, s.scGen h first spf t = .ok (u, { t with data := rtagSet t.data (s.dyn h).gen }) ∧
      (u.dyn h).gen = ((s.dyn h).gen + 1) % 65536 ∧ (∀ k, k ≠ h → u.dyn k = s.dyn k))) ∧
  (∀ (d : ScDyn) (mode cir eir cbs ebs : Nat) (aware coupling : Bool) (colour len now : Nat),
    let r := police d mode cir eir cbs ebs aware coupling colour len now
    let c := min (cbs * 1000) (d.ctok + cir * (now - d.refill))
    r.1.ctok ≤ cbs * 1000 ∧ r.1.etok ≤ ebs * 1000 ∧ r.1.refill = now ∧
    (r.2.1 = 0 → r.2.2 = 1 ∧ r.1.ctok + len * 1000 = c) ∧
    (r.2.1 = 1 → r.2.2 = 2 ∧ r.1.ctok = c ∧ r.1.etok + len * 1000 ≤ ebs * 1000) ∧
    (r.2.1 = 2 → r.2.2 = 0 ∧ r.1.ctok = c) ∧ r.2.1 ≤ 2 ∧
    (r.1.gen = d.gen ∧ r.1.recov = d.recov ∧ r.1.hist = d.hist ∧ r.1.takeAny = d.takeAny))

/-- Profiles, the audit, stuck heads and flushes: BUF_COMMIT puts the four staged words into the named RED profile. With a period
of 0 the audit does nothing; once the period has passed it begins a walk that marks what staging holds and finds the cells that
neither the free list nor a live frame holds. The end of a walk reports the number of cells that are unmarked, and raises
0x0702 where there are any; with RECLAIM those that the walk before left unmarked too return to the free list, and, where there
are any, count in ORPHANS and raise 0x0701 with their number; the others are the suspects of the next walk. The head of a queue
that is neither blocked nor in transmission for more than STUCK_TIME raises 0x0703 with the queue, is counted and recorded, and
with FLUSH its queue is flushed, at once or when the flush that runs has ended; with STUCK_TIME 0 nothing happens. A write of
BUF_QFLUSH while none is BUSY names the queue, and with START takes every copy that is not in transmission out of it; while
BUSY is 1 it is ignored. The end of a flush clears BUSY, offers what has arrived meanwhile and is not bad to its queue, and
begins the flush that waits. (R300, R308, R309, R310, R311, R312, R313, R314, R315, Table 7-2 of 07_buffer_and_replication.md) -/
def Obligations.BufferCommands : Prop :=
  ∀ (s : State),
    (∀ v : Word, s.writable R.BUF_COMMIT →
      exec (.bufCommit v) s = .next (settle (s.setEntry 7 (bits v.toNat 0 5) (s.staged R.BUF_STAGE0 4)))) ∧
    (s.alive = true →
      (s.rd F.BUF_AUDIT_PERIOD = 0 → exec .leakAudit s = .next (settle s)) ∧
      (s.rd F.BUF_AUDIT_PERIOD ≠ 0 → s.buf.walking = false → s.buf.auditAt + s.rd F.BUF_AUDIT_PERIOD * 1000000 ≤ s.clk.now →
        ∃ held, exec .leakAudit s =
            .next (settle { s with buf := { s.buf with
              walking := true, auditAt := s.clk.now, marked := held, leaked := s.unmarkedCells, pktLeaked := s.unmarkedPkts,
              copyLeaked := s.unmarkedCopies } }) ∧
          (∀ p f, (s.port p).cur = some f → ∀ c ∈ f.cells, c ∈ held)) ∧
      (∀ c, c ∈ s.unmarkedCells ↔
        c < 65536 ∧ (∀ y ∈ s.buf.cells, ¬ (y.1 ≤ c ∧ c < y.1 + y.2)) ∧ (∀ e ∈ s.buf.pkt, c ∉ e.2.cells)) ∧
      (s.buf.walking = true →
        let un := s.buf.leaked.filter (fun c => !s.buf.marked.contains c)
        let oc := if s.on F.BUF_AUDIT_RECLAIM then un.filter (fun c => s.buf.suspects.contains c) else []
        ∃ u : State, u.regs = s.regs ∧ u.evq = s.evq ∧ u.buf.walking = false ∧ u.buf.cells = s.buf.cells.addAll oc ∧
          u.buf.suspects = un.filter (fun c => !oc.contains c) ∧ u.buf.q = s.buf.q ∧ u.buf.pkt = s.buf.pkt ∧
          (let v := u.wr F.BUF_AUDIT_STATUS_SUSPECT un.length
           let v := if un = [] then v else v.raise 0x0702 0
           exec .auditWalkDone s = .next (settle
             (if oc = [] then v else ((v.add C.BUF_ORPHANS oc.length).raise 0x0701 oc.length).detect 6 0))))) ∧
    (∀ (q : Fin 224) (c : Copy) (r : List Copy), s.alive = true → s.queue q = c :: r →
      (s.rd F.BUF_STUCK_STUCK_TIME = 0 → exec (.stuckHead q) s = .next (settle s)) ∧
      (s.rd F.BUF_STUCK_STUCK_TIME ≠ 0 → s.inTx q c = false → s.blocked q = false →
        sget 0 s.buf.headSince q + s.rd F.BUF_STUCK_STUCK_TIME * 1000000 < s.clk.now →
        let u := (((s.raise 0x0703 q).inc C.BUF_STUCK_HEADS).wr F.BUF_STUCK_Q_QUEUE q).wr F.BUF_STUCK_Q_VALID 1
        let u := { u with buf := { u.buf with headSince := sput 0 q.val s.clk.now s.buf.headSince } }
        (s.on F.BUF_STUCK_FLUSH = false → exec (.stuckHead q) s = .next (settle (u.detect 7 q))) ∧
        (s.on F.BUF_STUCK_FLUSH = true → s.on F.BUF_QFLUSH_BUSY = false →
          exec (.stuckHead q) s = .next (settle ((u.flushQueue q).detect 7 q))) ∧
        (s.on F.BUF_STUCK_FLUSH = true → s.on F.BUF_QFLUSH_BUSY = true →
          exec (.stuckHead q) s = .next (settle
            ({ u with buf := { u.buf with flushNext := u.buf.flushNext ++ [q.val] } }.detect 7 q))))) ∧
    (∀ v : Word, s.writable R.BUF_QFLUSH →
      (s.on F.BUF_QFLUSH_BUSY = false → (v.toNat.testBit 31 = false ∨ 224 ≤ bits v.toNat 0 8) →
        exec (.queueFlush v) s = .next (settle (s.wr F.BUF_QFLUSH_QUEUE (bits v.toNat 0 8)))) ∧
      (s.on F.BUF_QFLUSH_BUSY = true → exec (.queueFlush v) s = .next (settle s)) ∧
      (s.on F.BUF_QFLUSH_BUSY = false → v.toNat.testBit 31 = true → bits v.toNat 0 8 < 224 →
        let q := bits v.toNat 0 8
        exec (.queueFlush v) s = .next (settle ((s.wr F.BUF_QFLUSH_QUEUE q).flushQueue q)) ∧
        (∀ c ∈ (s.flushQueue q).queue q, s.inTx q c = true) ∧
        ((s.queue q).all (fun c => s.inTx q c) = true → (s.flushQueue q).queue q = s.queue q))) ∧
    (s.alive = true → s.on F.BUF_QFLUSH_BUSY = true →
      let v := s.buf.heldBack.foldl
        (fun u x => (if (u.getPkt x.2.pkt).bad then u else u.offer x.1 x.2.pkt).dropRef x.2.pkt)
        { s.wr F.BUF_QFLUSH_BUSY 0 with buf := { s.buf with heldBack := [] } }
      (v.buf.flushNext = [] → exec .queueFlushDone s = .next (settle v)) ∧
      (∀ q r, v.buf.flushNext = q :: r →
        exec .queueFlushDone s = .next (settle ({ v with buf := { v.buf with flushNext := r } }.flushQueue q))))

/-- Admission to a queue, and the random dropping: At admission of a copy to a queue, with a copy descriptor free: at or below MIN
it is linked whatever else holds; above a MAX that is not 0 it counts TAIL_DROP, as it does when fewer cells are free than the
reserve and its own; no descriptor counts NO_COPY_DESC. The RED profile passes a copy whose average lies below its MIN without
a random number, drops it at or above MAX without one, and draws one number between them. The generator is preset to 0xACE1 and
never reaches 0. (R296, R297, R301, R759, Table 7-1 of 07_buffer_and_replication.md) -/
def Obligations.AdmissionRules : Prop :=
  (∀ (s : State) (q id : Nat), q < 224 →
    let n := (s.getPkt id).charge
    let u := s.updateAvg q (s.depth q)
    (s.freeCopies = 0 → s.admitQueue q id = (u.inc C.BUF_NO_COPY_DESC).raiseOnce 0x0706 0) ∧
    (s.freeCopies ≠ 0 → s.depth q + n ≤ s.rd (F.BUF_Q_CFG_MIN q) → s.admitQueue q id = u.link q id false) ∧
    (s.freeCopies ≠ 0 → s.rd (F.BUF_Q_CFG_MIN q) < s.depth q + n →
      (s.rd (F.BUF_Q_CFG_MAX q) ≠ 0 → s.rd (F.BUF_Q_CFG_MAX q) < s.depth q + n → s.admitQueue q id = u.inc (C.BUF_Q_TAIL_DROP q)) ∧
      ((s.rd (F.BUF_Q_CFG_MAX q) = 0 ∨ s.depth q + n ≤ s.rd (F.BUF_Q_CFG_MAX q)) → s.freeCells < s.rd F.BUF_RESERVE_CELLS + n →
        s.admitQueue q id = u.inc (C.BUF_Q_TAIL_DROP q)))) ∧
  (∀ (s : State) (q c : Nat) (capable : Bool),
    let i := s.rd (F.BUF_Q_PROF_PROFILE q)
    let lo := bits (s.tw 7 i c) 0 16
    let hi := max (bits (s.tw 7 i c) 16 16) lo
    let avg := s.rd (F.BUF_Q_AVG_AVG q)
    (avg < lo * 256 → s.redTest q c capable = (s, .pass)) ∧
    (hi * 256 ≤ avg → s.redTest q c capable = (s, .drop)) ∧
    (lo * 256 ≤ avg → avg < hi * 256 →
      (s.redTest q c capable).1 = { s with buf := { s.buf with lfsr := s.lfsr8.2.buf.lfsr } } ∧
      (bits (s.tw 7 i 3) (8 * c) 8 = 0 → (s.redTest q c capable).2 = .pass) ∧
      ((s.redTest q c capable).2 = .mark → capable = true))) ∧
  (State.reset.buf.lfsr = 0xACE1 ∧
    ∀ s : State, 0 < s.buf.lfsr → s.buf.lfsr < 65536 → 0 < s.lfsr8.2.buf.lfsr ∧ s.lfsr8.2.buf.lfsr < 65536 ∧ s.lfsr8.1 < 256)

/-- A frame is freed when its last copy goes: When a copy of a packet leaves its queue, its copy descriptor returns and the
packet's count falls by one; while copies remain, no cell and no packet descriptor returns; with the last one, the packet's
cells and its descriptor return together and the packet is gone. (R285, R286, R288, 07_buffer_and_replication.md) -/
def Obligations.FramesAreFreedOnce : Prop :=
  ∀ (s : State) (c : Copy),
    let u := s.releaseCopy c
    u.buf.copies = s.buf.copies.add c.id ∧
    (1 < (s.getPkt c.pkt).copies →
      (u.getPkt c.pkt).copies = (s.getPkt c.pkt).copies - 1 ∧ u.buf.cells = s.buf.cells ∧ u.buf.pkts = s.buf.pkts ∧
        (u.getPkt c.pkt).data = (s.getPkt c.pkt).data ∧ (u.getPkt c.pkt).cells = (s.getPkt c.pkt).cells) ∧
    ((s.getPkt c.pkt).copies ≤ 1 →
      u.buf.cells = s.buf.cells.addAll (s.getPkt c.pkt).cells ∧ u.buf.pkts = s.buf.pkts.add c.pkt ∧ u.getPkt c.pkt = pkt0) ∧
    (∀ id, id ≠ c.pkt → u.getPkt id = s.getPkt id) ∧ u.mem = s.mem ∧ u.tables = s.tables

/-- Commits, events and changes of gate control lists: A header commit that Table 8-1 rejects changes no list, shows REJECTED and
raises 0x0802 with the list; an accepted one with VALID 0 stops the list at once; one to a running list waits, shows PENDING,
and takes effect at the earliest instant of the new schedule at least 1 us ahead; one to a list that does not run starts it
where it is named. An entry commit writes the entry, shows OK, and lets every list that holds it set its next event again. A
gate event at or before WT now, ahead of any change, advances the list: a cycle starts at the end of INIT_GATES or of a cycle,
and else the next entry comes into force; the change instant puts the new list in force and raises 0x0801. EGS_LIST_SEL shows
the list's state. (R15, R328, R329, R331, R334, R335, R336, R337, R338, Table 8-1 of 08_egress_scheduling.md, Table 8-5 of
08_egress_scheduling.md) -/
def Obligations.GateListsRun : Prop :=
  ∀ (s : State),
    (∀ n : Fin 256, s.writable R.EGS_COMMIT →
      let w := s.staged R.EGS_STAGE0 6
      let u := { s.setEntry 6 n w with egsLast := none }
      (hdrRejected w = true → exec (.listHeaderCommit n) s = .next (settle
          { (s.wr F.EGS_COMMIT_STATUS_RESULT 2).raise 0x0802 n with egsLast := none }) ∧
        ({ (s.wr F.EGS_COMMIT_STATUS_RESULT 2).raise 0x0802 n with egsLast := none } : State).lists = s.lists) ∧
      (hdrRejected w = false → hdrValid w = false →
        exec (.listHeaderCommit n) s = .next (settle ((u.setGlist n glist0).wr F.EGS_COMMIT_STATUS_RESULT 0)) ∧
        (((u.setGlist n glist0).wr F.EGS_COMMIT_STATUS_RESULT 0).glist n).running = false) ∧
      (hdrRejected w = false → hdrValid w = true → (s.glist n).running = false →
        exec (.listHeaderCommit n) s = .next (settle ((u.refreshList n).wr F.EGS_COMMIT_STATUS_RESULT 0))) ∧
      (hdrRejected w = false → hdrValid w = true → (s.glist n).running = true →
        ∃ l : GList, exec (.listHeaderCommit n) s = .next (settle
            { (u.setGlist n l).wr F.EGS_COMMIT_STATUS_RESULT 1 with egsLast := some n.val }) ∧
          l.pending = some w ∧ l.cycNew = u.cycleTime w ∧ l.changeT = firstAt (hdrBase w) (u.cycleTime w) (s.wtNs + 1000) ∧
          l.running = true ∧ l.words = (s.glist n).words ∧ l.pos = (s.glist n).pos ∧ l.cyc = (s.glist n).cyc)) ∧
    (∀ i : Fin 4096, s.writable R.EGS_COMMIT →
      let u := { (s.setEntry 6 (256 + i) (s.staged R.EGS_STAGE0 2)).wr F.EGS_COMMIT_STATUS_RESULT 0 with egsLast := none }
      exec (.gateEntryCommit i) s = .next (settle (u.lists.foldl (fun u e =>
        if hdrFirst e.2.words ≤ i.val ∧ i.val < hdrFirst e.2.words + hdrLength e.2.words then u.setGlist e.1 (u.entryCommitted e.2)
        else u) u)) ∧
      (∀ (w : State) (l : GList), { w.entryCommitted l with next := none } = { l with next := none })) ∧
    (∀ (l : GList) (t : Int), (l.pending = none ∨ t ≠ l.changeT) →
      s.advanceList l t = if l.init = true ∨ t = cycleEnd l then s.startCycle l t else s.nextEntry l t) ∧
    (∀ v : Word, s.writable R.EGS_LIST_SEL → (s.glist (bits v.toNat 0 8)).pos < 4096 → ∃ u : State, exec (.egsListSel v) s = .next (settle u) ∧
      u.lists = s.lists ∧ u.rd F.EGS_LIST_SEL_LIST = bits v.toNat 0 8 ∧
      (u.regN R.EGS_LIST_STATUS).testBit 31 = (s.glist (bits v.toNat 0 8)).running ∧
      (u.regN R.EGS_LIST_STATUS).testBit 30 = (s.glist (bits v.toNat 0 8)).pending.isSome ∧
      ((s.glist (bits v.toNat 0 8)).pending = none → u.regN R.EGS_LIST_CHANGE_NS = 0 ∧ u.regN R.EGS_LIST_CHANGE_S = 0)) ∧
    (∀ (n : Fin 256) (t : Int), s.alive = true → (s.glist n).running = true → (s.glist n).next = some t → t ≤ s.wtNs →
      ((s.glist n).pending = none ∨ t < (s.glist n).changeT) →
      exec (.gateEvent n) s = .next (settle (s.setGlist n (s.advanceList (s.glist n) t)))) ∧
    (∀ n : Fin 256, s.alive = true → (s.glist n).running = true → (s.glist n).pending.isSome = true →
      (s.glist n).changeT ≤ s.wtNs →
      exec (.changeInstant n) s = .next (settle ((s.setGlist n (s.changeList (s.glist n))).listChanged n))) ∧
    (∀ (base : Int) (c : Nat) (t : Int), t ≤ firstAt base c t ∧ base ≤ firstAt base c t ∧
      (0 < c → ∃ k : Nat, firstAt base c t = base + k * c ∧ (0 < k → base + ((k : Int) - 1) * c < t)))

/-- A port sends what it selects: A live port whose MAC can start a frame (one of P16 to P23 in its transmit opportunity) first
sends a verify or respond mPacket that waits, then a MAC control frame that waits; otherwise, with no preempted rest, the
selected head copy begins: a whole stored frame that fits, with no bad cell, on a port without MACsec transmit, is put on the
medium as the egress port forms it, from now on. A port that is not live, or whose transmit is off or stopped, or within the
gap, starts nothing, nor does a 10BASE-T1S port with NODE_ID_NC 0 that is not coordinator or one outside its opportunity. With
a frame in transmission a preemptable one gives way at a point where that is possible, when an express frame can go or a hold
stands. An internal port with nothing in transmission begins the selected copy. The stamp point of the frame in transmission,
once it has begun, marks it stamped once, with its stamp by LC; with CAL_LOOP set the port's own receiver then holds the octets
that an express frame has on the wire. At its end a frame counts TX_FRAMES, its octets and, where it is stomped, TX_STOMPED,
and DEQUEUED, stands on the medium, leaves its queue, and the gap of 12 octets begins; on an internal port it is delivered
unless it is bad; a frame still arriving does not end. A hold 64 octets before the close preempts at a point where that is
possible, and else is remembered. (R162, R178, R183, R317, R318, R321, R325, R350, R100, R98, R118, R155) -/
def Obligations.PortsTransmit : Prop :=
  ∀ (s : State),
    (∀ p : Fin 28, s.alive = true → p.val < 24 →
      ((s.portLive p = false ∨ s.on (F.MAC_STATUS_TX_ON p) = false ∨ s.macStopped = true ∨ s.listens p = true ∨
          ((s.port p).tx = none ∧ (s.clk.now < (s.port p).gapEnd ∨ (16 ≤ p.val ∧ s.t1sGrant p = false)))) →
        exec (.transmitSelection p) s = .next (settle s)) ∧
      (s.portLive p = true → s.on (F.MAC_STATUS_TX_ON p) = true → s.listens p = false → s.macStopped = false →
        (∀ x, (s.port p).tx = some x →
          let e := s.select p (s.classesOf p false)
          exec (.transmitSelection p) s = .next (settle
            (if s.preemptPoint p x = true ∧ (e.2.isSome = true ∨ x.hold = true) then
              (if x.hold then (e.1.preempt p x).inc (C.EGS_Q_HOLD_PREEMPTS x.queue) else e.1.preempt p x)
             else s))) ∧
        ((s.port p).tx = none → (s.port p).gapEnd ≤ s.clk.now → (16 ≤ p.val → s.t1sGrant p = true) →
          (∀ v r, (s.port p).mpkts = v :: r → s.on (F.TSU_P_CTRL_CAL_LOOP p) = false →
            exec (.transmitSelection p) s = .next (settle (s.modPort p (fun m =>
              { m with mpkts := r, gapEnd := s.clk.now + octetNs 84 (s.portKbps p), gapQ := 224,
                       wire := some ⟨if v then 0x07 else 0x19, none, zeros 60 ++ mCrc (zeros 60)⟩ })))) ∧
          (∀ c r, (s.port p).mpkts = [] → (s.port p).ctrl = c :: r → s.on (F.TSU_P_CTRL_CAL_LOOP p) = false →
            exec (.transmitSelection p) s = .next (settle ((s.modPort p (fun m =>
              { m with ctrl := r, gapEnd := s.clk.now + octetNs 84 (s.portKbps p), gapQ := 224,
                       wire := some ⟨0xD5, none, wireBytes (s.controlBytes p c.1 c.2) none false⟩ })).inc (C.MAC_TX_PAUSE p)))) ∧
          ((s.port p).mpkts = [] → (s.port p).ctrl = [] → (s.port p).rest = none →
            ((s.select p classesDown).2 = none →
              exec (.transmitSelection p) s = .next (settle (s.select p classesDown).1)) ∧
            (∀ q c, (s.select p classesDown).2 = some (q, c) →
              let u := (s.select p classesDown).1
              let pk := u.getPkt c.pkt
              let d := u.egressBytes p pk c.ce
              exec (.transmitSelection p) s = .next (settle (u.beginTx p q c)) ∧
              (u.msTx p = false → pk.complete = true → d.length + 4 ≤ u.maxFrame p → u.badCell pk = none → c.cut = false →
                ∃ x, ((u.beginTx p q c).port p).tx = some x ∧ x.queue = q ∧ x.copy = c ∧ x.bytes = d ∧ x.start = u.clk.now ∧
                  x.express = !u.preemptable p (q % 8) ∧ x.sent = 0 ∧ x.stomp = false ∧ x.stamped = false ∧ x.sec = none ∧
                  x.cutAt = none)))))) ∧
    (∀ p : Fin 28, s.alive = true → 24 ≤ p.val →
      ((s.port p).tx.isSome = true → exec (.transmitSelection p) s = .next (settle s)) ∧
      ((s.port p).tx = none →
        exec (.transmitSelection p) s = .next (settle
          (match (s.select p classesDown).2 with
           | some (q, c) => (s.select p classesDown).1.beginTx p q c
           | none => (s.select p classesDown).1))) ∧
      (∀ x, (s.port p).tx = some x →
        (s.getPkt x.copy.pkt).complete = true ∨ (s.getPkt x.copy.pkt).bad = true →
        let u := s.modPort p (fun m => { m with tx := none, gapEnd := s.clk.now, gapQ := x.queue })
        exec (.transmitComplete p) s = .next (settle
          (((if (s.getPkt x.copy.pkt).bad = true ∨ x.stomp = true then u else u.deliver p (s.getPkt x.copy.pkt) x.bytes).inc
            (C.BUF_Q_DEQUEUED x.queue)).popHead x.queue)))) ∧
    (∀ (p : Fin 24) (phase : Nat) (t : TxFrame), s.alive = true → (s.port p).tx = some t →
      (t.stamped = true ∨ s.clk.now < t.start → exec (.egressStamp p phase) s = .next (settle s)) ∧
      (t.stamped = false → t.start ≤ s.clk.now → exec (.egressStamp p phase) s = .next (settle (s.egressStamp p phase)) ∧
        (s.on (F.TSU_P_CTRL_CAL_LOOP p) = false →
          ∃ x, ((s.egressStamp p phase).port p).tx = some x ∧ x.stamped = true ∧ x.queue = t.queue ∧ x.copy = t.copy ∧
            x.lcOut = s.txStamp p s.clk.lc phase) ∧
        (s.on (F.TSU_P_CTRL_CAL_LOOP p) = true → t.express = true →
          ∃ x f, ((s.egressStamp p phase).port p).tx = some x ∧ x.stamped = true ∧
            ((s.egressStamp p phase).port p).cur = some f ∧ f.bytes = wireBytes x.bytes x.cutAt x.stomp))) ∧
    (∀ (p : Fin 28) (t : TxFrame), s.alive = true → p.val < 24 → (s.port p).tx = some t →
      let pk := s.getPkt t.copy.pkt
      (pk.complete = false → pk.bad = false → t.cutAt = none → exec (.transmitComplete p) s = .next (settle s)) ∧
      (pk.complete = true ∨ pk.bad = true ∨ t.cutAt.isSome = true → s.on (F.TSU_P_CTRL_CAL_LOOP p) = false →
        let u := s.modPort p (fun m =>
          { m with tx := none, gapEnd := s.clk.now + octetNs 12 (s.portKbps p), gapQ := t.queue })
        let v := (u.inc (C.MAC_TX_FRAMES p)).add64 (C.MAC_TX_OCTETS_LO p) (s.wireLen p t)
        let v := if t.stomp then v.inc (C.MAC_TX_STOMPED p) else v
        let v := ((v.egressLatency p (v.getPkt t.copy.pkt) t).plcaSentOne p).onWire p t ((wireBytes t.bytes t.cutAt t.stomp).drop t.sent)
        let v := v.modPort p (fun m => { m with frameNo := if t.express then m.frameNo else m.frameNo + 1 })
        exec (.transmitComplete p) s = .next (settle ((v.inc (C.BUF_Q_DEQUEUED t.queue)).popHead t.queue)))) ∧
    (∀ (p : Fin 16) (t : TxFrame) (r : Int), s.alive = true → (s.port p).tx = some t → t.express = false →
      s.window p (t.queue % 8) s.wtNs = some r → r ≤ (octetNs 64 (s.portKbps p) : Int) →
      exec (.holdRequest p) s = .next (settle
        (if s.preemptPoint p t then (s.preempt p t).inc (C.EGS_Q_HOLD_PREEMPTS t.queue)
         else s.modPort p (fun m => { m with tx := some { t with hold := true } }))))

/-- Shapers, delay maxima and histogram monitors: A write of EGS_Qq_SHAPER or EGS_Qq_BURST takes its fields and leaves the credit,
but that a write which sets SHAPER_EN from 0 to 1 starts the credit at 0. MAXDLY_CLEAR clears the named queue's maximum, or
with ALL every one. CLEAR of a monitor zeroes its bins and both maxima, and a write of QUEUE takes the fields and clears. A
depth sample of an enabled monitor, DEPTH_PERIOD us after the last, counts one in the bin of the depth, bins saturating, and
raises the maximum; before that time, with EN 0 or with DEPTH_PERIOD 0 none is taken. (R323, R327, R358, R359, R360,
08_egress_scheduling.md) -/
def Obligations.EgressMonitors : Prop :=
  ∀ (s : State),
    (∀ (q : Fin 224) (v : Word),
      (s.writable (R.EGS_Q_BURST q) → exec (.shaperWrite q true v) s = .next (settle (s.writeFields (R.EGS_Q_BURST q) v.toNat))) ∧
      (s.writable (R.EGS_Q_SHAPER q) →
        let u := s.writeFields (R.EGS_Q_SHAPER q) v.toNat
        exec (.shaperWrite q false v) s = .next (settle
          (if u.on (F.EGS_Q_SHAPER_SHAPER_EN q) ∧ s.on (F.EGS_Q_SHAPER_SHAPER_EN q) = false then u.setQCredit q 0 else u)) ∧
        (u.on (F.EGS_Q_SHAPER_SHAPER_EN q) = v.toNat.testBit 31) ∧ u.credit = s.credit)) ∧
    (∀ v : Word, s.writable R.EGS_MAXDLY_CLEAR → ∃ u : State, exec (.maxdlyClear v) s = .next (settle u) ∧
      (v.toNat.testBit 31 = true → ∀ q, q < 224 → u.regN (R.EGS_Q_MAXDLY q) = 0) ∧
      (v.toNat.testBit 31 = false → bits v.toNat 0 8 < 224 → u.regN (R.EGS_Q_MAXDLY (bits v.toNat 0 8)) = 0 ∧
        ∀ a, a ≠ R.EGS_Q_MAXDLY (bits v.toNat 0 8) → u.reg a = s.reg a) ∧ u.tables = s.tables ∧ u.mem = s.mem) ∧
    (∀ m : Fin 8, s.writable (R.EGS_HM_CFG m) →
      exec (.hmClear m) s = .next (settle (s.hmClear m)) ∧
      (∀ v : Word, exec (.hmQueueWrite m v) s = .next (settle ((s.writeFields (R.EGS_HM_CFG m) v.toNat).hmClear m))) ∧
      (∀ k, k < 16 → (s.hmClear m).regN (R.EGS_HM_DLY_BIN m k) = 0 ∧ (s.hmClear m).regN (R.EGS_HM_DEP_BIN m k) = 0) ∧
      (s.hmClear m).regN (R.EGS_HM_DLY_MAX m) = 0 ∧ (s.hmClear m).regN (R.EGS_HM_DEP_MAX m) = 0) ∧
    (∀ m : Fin 8, s.alive = true → s.on (F.EGS_HM_CFG_EN m) = true → s.rd (F.EGS_HM_CFG_QUEUE m) < 224 →
      s.rd (F.EGS_HM_CFG_DEPTH_PERIOD m) ≠ 0 →
      sget 0 s.buf.depthAt m + s.rd (F.EGS_HM_CFG_DEPTH_PERIOD m) * 1000 ≤ s.clk.now →
      let d := s.depth (s.rd (F.EGS_HM_CFG_QUEUE m))
      let bin := if d = 0 then 0 else min 15 (Nat.log2 d + 1)
      ∃ u : State, exec (.depthSample m) s = .next (settle u) ∧
        u.regN (R.EGS_HM_DEP_BIN m bin) = min (s.regN (R.EGS_HM_DEP_BIN m bin) + 1) 0xFFFFFFFF ∧
        (∀ k, k < 16 → k ≠ bin → u.regN (R.EGS_HM_DEP_BIN m k) = s.regN (R.EGS_HM_DEP_BIN m k)) ∧
        u.regN (R.EGS_HM_DEP_MAX m) = max (s.regN (R.EGS_HM_DEP_MAX m)) d % 2 ^ 32 ∧ sget 0 u.buf.depthAt m = s.clk.now ∧
        u.buf.q = s.buf.q ∧ u.buf.pkt = s.buf.pkt) ∧
    (∀ m : Fin 8, s.alive = true → (s.on (F.EGS_HM_CFG_EN m) = false ∨ s.rd (F.EGS_HM_CFG_DEPTH_PERIOD m) = 0 ∨
        s.clk.now < sget 0 s.buf.depthAt m + s.rd (F.EGS_HM_CFG_DEPTH_PERIOD m) * 1000) →
      exec (.depthSample m) s = .next (settle s))

/-- Changes, commits, and frames at the audio crosspoint: Each of TAP_CHANGE, OUTPUT_CHANGE, TG_TRIGGER, TG_STOP, LOCAL_OFFSET and
TALKER commits a change of its kind at the staged index with the staged values: out of range it shows RESULT 3 and counts
CHG_INVALID, less than 96 indices ahead RESULT 1 and CHG_LATE, with 192 own or 256 changes queued RESULT 2 and CHG_FULL, each
raising 0x0901; otherwise RESULT 0, it is queued, and it is mirrored. AUD_COMMIT puts staged words into a tap or output entry
and ignores other indices. A write of WR_ESI_HI makes the whole write index the pair written. CLEAR of a listener sets
MARGIN_MIN to 0x7FFFFFFF and its bins to 0. The next frame that reached P25 goes to its listener; one for a listener out of
range or of a wrong format counts FORMAT_ERR, in FREE TS_MISALIGN, one without samples FRAMES and EMPTY with its margin, and
one with samples whose timestamp lies off the grid TS_MISALIGN; otherwise it counts FRAMES, its samples go to the NI buffers
and its margin is taken. With no frame there nothing happens. (R371, R377, R378, R379, R380, R384, R385, R386, R387, R391,
R416, R417) -/
def Obligations.AudioCommands : Prop :=
  (∀ (s : State) (i : BitVec 13), s.writable R.AUD_CHG_CMD →
    let c (k : Nat) : AudChange := ⟨k, i.toNat, s.pair R.AUD_CHG_ESI_LO R.AUD_CHG_ESI_HI, s.reg R.AUD_STAGE0, s.reg R.AUD_STAGE1⟩
    exec (.tapChange i) s = .next (settle (s.commitChange (c 0))) ∧ exec (.outputChange i) s = .next (settle (s.commitChange (c 1))) ∧
    exec (.tgTrigger i) s = .next (settle (s.commitChange (c 2))) ∧ exec (.tgStop i) s = .next (settle (s.commitChange (c 3))) ∧
    exec (.localOffset i) s = .next (settle (s.commitChange (c 4))) ∧ exec (.talker i) s = .next (settle (s.commitChange (c 5)))) ∧
  (∀ (s : State) (c : AudChange),
    let refuse (r k : Nat) : State := ((s.wr F.AUD_CHG_STATUS_RESULT r).inc k).raise 0x0901 0
    (changeValid c = false → s.commitChange c = refuse 3 C.AUD_CHG_INVALID) ∧
    (changeValid c = true → c.esi < s.clk.esi + 96 → s.commitChange c = refuse 1 C.AUD_CHG_LATE) ∧
    (changeValid c = true → s.clk.esi + 96 ≤ c.esi → (192 ≤ (s.aud.queue.filter (·.own)).length ∨ 256 ≤ s.aud.queue.length) →
      s.commitChange c = refuse 2 C.AUD_CHG_FULL) ∧
    (changeValid c = true → s.clk.esi + 96 ≤ c.esi → (s.aud.queue.filter (·.own)).length < 192 → s.aud.queue.length < 256 →
      s.commitChange c = ((s.wr F.AUD_CHG_STATUS_RESULT 0).enqueueChange c s.unitB true).mirror (.audChange c) ∧
      (s.commitChange c).aud.queue.length = s.aud.queue.length + 1 ∧ (∃ e ∈ (s.commitChange c).aud.queue, e.c = c ∧ e.own = true) ∧
      (∀ e ∈ s.aud.queue, e ∈ (s.commitChange c).aud.queue)) ∧
    (changeValid c = true ↔ (c.kind = 0 ∧ c.index < 2624) ∨ (c.kind = 1 ∧ c.index < 328) ∨ (c.kind = 2 ∧ c.index < 8) ∨
      (c.kind = 3 ∧ c.index < 8) ∨ (c.kind = 4 ∧ c.index = 0 ∧ c.w0.toNat % 256 ≤ 120) ∨ (c.kind = 5 ∧ c.index < 64))) ∧
  (∀ (s : State) (i : BitVec 13), s.writable R.AUD_COMMIT →
    (i.toNat < 2624 → exec (.audCommit i) s = .next (settle (s.setTap i.toNat (s.reg R.AUD_STAGE0) (s.reg R.AUD_STAGE1)))) ∧
    (4096 ≤ i.toNat → i.toNat < 4424 →
      exec (.audCommit i) s = .next (settle (s.setEntry 8 i.toNat [s.reg R.AUD_STAGE0, s.reg R.AUD_STAGE1]))) ∧
    ((2624 ≤ i.toNat ∧ i.toNat < 4096) ∨ 4424 ≤ i.toNat → exec (.audCommit i) s = .next (settle s))) ∧
  (∀ (s : State) (n : Fin 8) (v : Word), s.writable (R.AUD_EP_WR_ESI_HI n) → ∃ u : State,
    exec (.wrEsiHiWrite n v) s = .next (settle u) ∧
    sget 0 u.aud.wr n = v.toNat * 2 ^ 32 + s.regN (R.AUD_EP_WR_ESI_LO n) ∧ u.aud.queue = s.aud.queue ∧ u.mem = s.mem) ∧
  (∀ (s : State) (l : Fin 64) (v : Word), s.writable (R.AUD_L_CFG l) →
    (v.toNat.testBit 31 = false → exec (.marginClear l v) s = .next (settle (s.writeFields (R.AUD_L_CFG l) v.toNat))) ∧
    (v.toNat.testBit 31 = true → ∃ u : State, exec (.marginClear l v) s = .next (settle (u.raise 0x0905 0)) ∧
      u.regN (R.AUD_L_MARGIN_MIN l) = 0x7FFFFFFF ∧ (∀ b, b < 8 → u.regN (R.AUD_L_BIN l b) = 0) ∧ u.aud = s.aud)) ∧
  (∀ (s : State) (pk : Pkt) (r : List Pkt) (h : Nat), s.alive = true → s.out25 = pk :: r → pk.sc = some h → s.scf h 0 1 3 = 2 →
    let u := { s with out25 := r }
    let l := pk.listener
    exec .listenerFrame s = .next (settle (u.listen l pk.data)) ∧
    exec .listenerFrame { s with out25 := [] } = .next (settle { s with out25 := [] }) ∧
    (s.listenerCh l = none → u.listen l pk.data = u.inc (C.AUD_L_FORMAT_ERR l)) ∧
    (∀ ch, s.listenerCh l = some ch → s.aafCheck l ch pk.data = none → u.listen l pk.data = u.inc (C.AUD_L_FORMAT_ERR l)) ∧
    (∀ ch len, s.listenerCh l = some ch → s.aafCheck l ch pk.data = some len →
      (s.wtState = 0 → u.listen l pk.data = u.inc (C.AUD_L_TS_MISALIGN l)) ∧
      (s.wtState ≠ 0 → len = 0 →
        u.listen l pk.data = ((u.inc (C.AUD_L_FRAMES l)).inc (C.AUD_L_EMPTY l)).marginSample l (nearestIndex s.clk.esi (fld pk.data 26 4))) ∧
      (s.wtState ≠ 0 → len ≠ 0 → firstIndex s.clk.esi (fld pk.data 26 4) = none → u.listen l pk.data = u.inc (C.AUD_L_TS_MISALIGN l)) ∧
      (∀ k, s.wtState ≠ 0 → len ≠ 0 → firstIndex s.clk.esi (fld pk.data 26 4) = some k →
        u.listen l pk.data = ((u.inc (C.AUD_L_FRAMES l)).niFrame l ch len k pk.data).marginSample l k)))

/-- Scheduled changes take effect in one order in both units: The change queue, kept in the order of index, unit A before unit B,
and commit number, stays in that order when a change is put in; changes that this order tells apart leave the same queue
whichever of them comes first; and a pass applies the due changes from the front, one after the other, up to the first that is
not due. (R382) -/
def Obligations.ChangesKeepOneOrder : Prop :=
  (∀ a b : AudEntry, entryBefore a b = true ↔
    a.c.esi < b.c.esi ∨ (a.c.esi = b.c.esi ∧ ((a.unitB = false ∧ b.unitB = true) ∨ (a.unitB = b.unitB ∧ a.seq < b.seq)))) ∧
  (∀ (e : AudEntry) (l : List AudEntry), l.Pairwise (fun x y => entryBefore y x = false) →
    (insertEntry e l).Pairwise (fun x y => entryBefore y x = false)) ∧
  (∀ (a b : AudEntry) (l : List AudEntry), l.Pairwise (fun x y => entryBefore y x = false) →
    (entryBefore a b = true ∨ entryBefore b a = true) → insertEntry a (insertEntry b l) = insertEntry b (insertEntry a l)) ∧
  (∀ (s : State) (loc : Bool) (p : Nat) (e : AudEntry) (r : List AudEntry),
    (e.c.esi ≤ p → (s.applyDue loc p (e :: r)).1 = ((s.applyEntry loc e).1.applyDue loc p r).1) ∧
    (p < e.c.esi → s.applyDue loc p (e :: r) = (s, e :: r)))

/-- Mixes saturate, and empty ones are silent: With every table entry at its reset content a tap reads no source and its gain is
mute, and an output control is 0. Whatever a state holds, a mix of an output whose eight taps name no source, or whose gains
stand at 0, is 0; every output sample lies in the 32-bit range; and mixing changes neither memory nor the tables nor the change
queue. A ramp stands at its start value at 0 samples and at its target from L samples on. (R363, R368, R369, R370, R372, R373,
R376, 09_audio_crosspoint.md) -/
def Obligations.MixesAreBoundedAndSilent : Prop :=
  (∀ s : State, s.tables = [] → ∀ i, i < 2624 → tapSource (s.tw 8 i 0) = 0x3FF ∧ bits (s.tw 8 i 0) 16 16 = 0x8000 ∧ s.tw 8 i 1 = 0) ∧
  (∀ s : State, s.tables = [] → ∀ o, o < 328 → s.tw 8 (4096 + o) 0 = 0 ∧ s.tw 8 (4096 + o) 1 = 0) ∧
  (∀ (s : State) (o : Nat) (nb sk : Bool) (src : Sparse Int),
    let m := s.mixOut o nb sk src
    m.2 < 2 ^ 31 ∧ -(2 ^ 31) ≤ m.2 ∧ m.1.mem = s.mem ∧ m.1.tables = s.tables ∧ m.1.aud.queue = s.aud.queue ∧
    ((∀ t, t < 8 → tapSource (s.tw 8 (o * 8 + t) 0) = 0x3FF) → m.2 = 0) ∧
    ((∀ t, t < 8 → rampNow (s.tapGain (o * 8 + t)) = 0) → m.2 = 0)) ∧
  (∀ (r : Ramp) (b : Int) (l : Nat), rampNow (rampTo r b l) = (if l = 0 then b else rampNow r) ∧
    (∀ n, l ≤ n → rampNow (rampSkip (rampTo r b l) n) = b))

/-- Frames and errors of a CAN controller: A valid frame that a controller in NORMAL, RESTRICTED or MONITOR receives is counted,
passes the first pair that meets it, may retire the equal TB of a unit without duty, and leaves the bus idle; in another mode
or in bus-off nothing is received. One of a format not enabled is without PEX_EN a receive error, and with it counts PEX,
reports 0x0A06 and waits 11 recessive bits. At a point where it may start one, a controller whose bus is idle and that no
trellis runs starts the frame of the TB that wins (no loaded TB has a lower arbitration field), notes its instant, marks it
STARTED and shows the bus busy; where it may not, or without a loaded TB, it starts nothing. A frame sent outside LOOPBACK
retires its TB with status 0, counts TX_FRAMES (and TAKEOVER_RESENT), turns a pending cancel into result 3 and lowers TEC. A
lost arbitration counts ARB_LOST and leaves the frame to be selected again, or retires it with status 3 under ONE_SHOT. A
transmit error that takes TEC above 255 makes the controller bus-off, with its event and, under AUTO_RECOVER, its recovery;
RECOVER there starts the recovery, which lasts 128 times 11 bits and whose end clears both counters and the state. In a unit
without duty a mirrored element older than MIRROR_AGE is retired. (R419, R426, R438, R440, R441, R453, R457, R466, R467, R469,
R470, R418) -/
def Obligations.CanFramesOnTheBus : Prop :=
  ∀ (n : Fin 16) (s : State), s.alive = true →
    (∀ (ago : Nat) (g : CanFrame), (s.rd (F.CAN_STATUS_STATE n) = 2 ∨ s.rd (F.CAN_STATUS_EFF_MODE n) = 0 ∨ 4 ≤ s.rd (F.CAN_STATUS_EFF_MODE n)) →
      exec (.canFrameReceived n ago g) s = .next (settle s)) ∧
    (∀ (ago : Nat) (g : CanFrame), s.rd (F.CAN_STATUS_STATE n) ≠ 2 →
      let f := plainFrame g
      (s.rd (F.CAN_STATUS_EFF_MODE n) = 1 ∨ s.rd (F.CAN_STATUS_EFF_MODE n) = 2 ∨ s.rd (F.CAN_STATUS_EFF_MODE n) = 3) →
      ((f.fdf = false ∨ s.on (F.CAN_CTRL_FD_EN n) = true) → (f.xlf = false ∨ s.on (F.CAN_CTRL_XL_EN n) = true) →
        let u := ((s.inc (C.CAN_RX_FRAMES n)).recGood n).ttSee n ago f
        exec (.canFrameReceived n ago g) s = .next (settle
          ((((u.canFilter n ago f).mirrorRetire n f).wr (F.CAN_STATUS_BUS_IDLE n) 1).canKaRx n g))) ∧
      ((f.fdf = true ∧ s.on (F.CAN_CTRL_FD_EN n) = false) ∨ (f.xlf = true ∧ s.on (F.CAN_CTRL_XL_EN n) = false) →
        (s.on (F.CAN_CTRL_PEX_EN n) = false → exec (.canFrameReceived n ago g) s = .next (settle ((s.recError n 1).canKaRx n g))) ∧
        (s.on (F.CAN_CTRL_PEX_EN n) = true → exec (.canFrameReceived n ago g) s = .next (settle
          ((((s.canWait n 1).inc (C.CAN_PEX n)).raiseOnce 0x0A06 n).canKaRx n g))))) ∧
    (∀ (f : CanFrame), (s.pairFor n f = none ↔ ∀ i, i < 32 → pairMatches (s.entry 9 (n * 32 + i)) f = false) ∧
      ∀ i w, s.pairFor n f = some (i, w) → i < 32 ∧ w = s.tw 9 (n * 32 + i) 3 ∧ pairMatches (s.entry 9 (n * 32 + i)) f = true ∧
        ∀ j, j < i → pairMatches (s.entry 9 (n * 32 + j)) f = false) ∧
    ((s.canC n).win = none → s.ttRuns n = false → s.canBusy n = false → s.mayTransmit n = true →
      let u := ((s.wr (F.CAN_STATUS_BUS_IDLE n) 1).modCan n (fun c => { c with win := none, colsCyc := none })).setRegN
        (R.CAN_TT_STATUS n) 0
      (s.arbWinner n [0, 1, 2] = none → exec (.canFrameStart n) s = .next (settle u)) ∧
      (∀ k a t, s.arbWinner n [0, 1, 2] = some (k, a) → s.canTb n k = some t →
        exec (.canFrameStart n) s = .next (settle
          (((u.setTb n k (some { t with sof := some (s.wtSubNs, s.wtSec % 2 ^ 32) })).wr (F.CAN_TB_STATUS_STARTED n k) 1).wr
            (F.CAN_STATUS_BUS_IDLE n) 0)) ∧
        (∀ j, j < 3 → ∀ x, s.canTb n j = some x → a ≤ arbitration (elemFrame x.elem)))) ∧
    ((s.canC n).win = none → s.ttRuns n = false → (s.mayTransmit n = false ∨ s.canBusy n = true) →
      exec (.canFrameStart n) s = .next (settle
        (((s.wr (F.CAN_STATUS_BUS_IDLE n) 1).modCan n (fun c => { c with win := none, colsCyc := none })).setRegN (R.CAN_TT_STATUS n) 0))) ∧
    (s.canBusy n = false → exec (.canFrameSent n) s = .next (settle s)) ∧
    (∀ k t, [0, 1, 2].find? (fun k => s.on (F.CAN_TB_STATUS_STARTED n k)) = some k → s.canTb n k = some t →
      s.rd (F.CAN_STATUS_EFF_MODE n) ≠ 4 →
      let a := if s.rd (F.CAN_TB_STATUS_CANCEL_RESULT n k) = 2 then s.wr (F.CAN_TB_STATUS_CANCEL_RESULT n k) 3 else s
      let b := (a.retire n k 0).inc (C.CAN_TX_FRAMES n)
      let u := (if t.resent then b.inc (C.CAN_TAKEOVER_RESENT n) else b).wr (F.CAN_STATUS_BUS_IDLE n) 1
      exec (.canFrameSent n) s = .next (settle
        (if s.counts n then (u.wr (F.CAN_STATUS_TEC n) (s.rd (F.CAN_STATUS_TEC n) - 1)).confine n else u))) ∧
    (s.canBusy n = false → exec (.arbitrationLost n) s = .next (settle s)) ∧
    (s.on (F.CAN_TB_STATUS_STARTED n 0) = true → s.on (F.CAN_TB_STATUS_STARTED n 1) = false → s.on (F.CAN_TB_STATUS_STARTED n 2) = false →
      s.rd (F.CAN_TB_STATUS_CANCEL_RESULT n 0) ≠ 2 → s.on (F.CAN_CTRL_ONE_SHOT n) = true →
      exec (.arbitrationLost n) s = .next (settle ((s.inc (C.CAN_ARB_LOST n)).retire n 0 3))) ∧
    (s.on (F.CAN_TB_STATUS_STARTED n 0) = true → s.on (F.CAN_TB_STATUS_STARTED n 1) = false → s.on (F.CAN_TB_STATUS_STARTED n 2) = false →
      s.rd (F.CAN_TB_STATUS_CANCEL_RESULT n 0) ≠ 2 → s.on (F.CAN_CTRL_ONE_SHOT n) = false →
      exec (.arbitrationLost n) s = .next (settle ((s.inc (C.CAN_ARB_LOST n)).wr (F.CAN_TB_STATUS_STARTED n 0) 0)) ∧
      (∀ step, s.rd (F.CAN_STATUS_EFF_MODE n) = 1 → s.rd (F.CAN_STATUS_STATE n) ≠ 2 → 255 < s.rd (F.CAN_STATUS_TEC n) + step →
        exec (.canError n (.transmit step)) s = .next (settle
          (((s.inc (C.CAN_TX_ERRORS n)).wr (F.CAN_TB_STATUS_STARTED n 0) 0).busOff n)))) ∧
    (let u := ((((s.wr (F.CAN_STATUS_STATE n) 2).wr (F.CAN_STATUS_TEC n) 255).inc (C.CAN_BUS_OFFS n)).raise 0x0A01 n).detect 9 n
     s.busOff n = if u.on (F.CAN_CTRL_AUTO_RECOVER n) then u.recoveryStart n else u) ∧
    (∀ v : Word, s.writable (R.CAN_RECOVER n) →
      (v.toNat.testBit 0 = true → s.rd (F.CAN_STATUS_STATE n) = 2 → (s.canC n).recovering = false →
        exec (.canRecover n v) s = .next (settle (s.recoveryStart n))) ∧
      (v.toNat.testBit 0 = false ∨ s.rd (F.CAN_STATUS_STATE n) ≠ 2 ∨ (s.canC n).recovering = true →
        exec (.canRecover n v) s = .next (settle s))) ∧
    ((s.recoveryStart n).canC n = { s.canC n with recovering := true, readyAt := s.clk.now + (128 * 11 * s.arbBit n * 25 + 3) / 4 } ∧
      (s.recoveryStart n).regs = s.regs ∧ (s.recoveryStart n).mem = s.mem) ∧
    (s.rd (F.CAN_STATUS_STATE n) ≠ 2 ∨ (s.canC n).recovering = false ∨ s.clk.now < (s.canC n).readyAt →
      exec (.busOffRecovery n) s = .next (settle s)) ∧
    (s.rd (F.CAN_STATUS_STATE n) = 2 → (s.canC n).recovering = true → (s.canC n).readyAt ≤ s.clk.now → ∃ u : State, exec (.busOffRecovery n) s = .next (settle u) ∧
      u.rd (F.CAN_STATUS_STATE n) = 0 ∧ u.rd (F.CAN_STATUS_TEC n) = 0 ∧ u.rd (F.CAN_STATUS_REC n) = 0 ∧
      (u.canC n).recovering = false ∧ (u.canC n).tbs = (s.canC n).tbs ∧ u.mem = s.mem) ∧
    (∀ (k : Fin 3), s.canTb n k = none ∨ s.on (F.CAN_CTRL_TX_ROLE n) = false ∨ s.duty = true ∨ s.rd (F.CAN_CTRL_MIRROR_AGE n) = 0 →
      exec (.mirrorExpired n k) s = .next (settle s)) ∧
    (∀ (k : Fin 3) t, s.canTb n k = some t → s.on (F.CAN_CTRL_TX_ROLE n) = true → s.duty = false →
      s.rd (F.CAN_CTRL_MIRROR_AGE n) ≠ 0 → t.at_ + s.rd (F.CAN_CTRL_MIRROR_AGE n) * 1000000 ≤ s.clk.now →
      exec (.mirrorExpired n k) s = .next (settle ((s.retire n k 3).inc (C.CAN_MIRROR_EXPIRED n))))

/-- Queues, buffers, modes and times of a CAN controller: TB_LOAD puts the whole element at the head of an enabled feed queue into
its empty TB, and discards an invalid one with status 2; a loaded TB or an empty or disabled queue stays as it is. A firmware
write of FQk_PUT to a queue that firmware owns takes the bytes, where they are a multiple of 8 and fit; another owner, a unit
that may not append, too many bytes or a PUT outside the queue only count. A flush leaves an empty TB's queue empty. A cancel
of a TB that has not started retires it with status 1, counts, and loads the next element; of one that has started it waits as
result 2; of an empty one it does nothing. Bit timing is written in OFF alone, and elsewhere is a configuration error with
0x0A08. With no trellis a column instant shows the bus idle or not, and a trellis write takes its fields and places the trellis
anew. The mode that should be in force takes effect when no frame is on the bus, and OFF at once, but for a winding controller.
CANn_STB is high before step 12, then by STB_MODE and the mode in force, and in SLEEP the detector's for CAN0 to CAN3 and high
for the others. (R418, R420, R424, R425, R430, R432, R433, R434, R435, R437, R442, R446) -/
def Obligations.CanQueuesAndTimes : Prop :=
  ∀ (n : Fin 16) (s : State),
    (∀ (k : Fin 3) e r, s.alive = true → s.canTb n k = none → s.ringSize n k ≠ 0 →
      s.ringElems n k 1 (s.regN (ringGet n k)) (s.ringFill n k) = e :: r →
      (s.elemInvalid n e = false → exec (.tbLoad n k) s = .next (settle (s.setTb n k (some ⟨e, none, s.clk.now, false⟩)))) ∧
      (s.elemInvalid n e = true → exec (.tbLoad n k) s = .next (settle
        (((s.fqPop n k).inc (C.CAN_TX_INVALID n)).txEvent n k 2 (bits (elemWord e 3) 16 16) none)))) ∧
    (∀ k : Fin 3, s.alive = true → ((s.canTb n k).isSome = true ∨ s.ringSize n k = 0 ∨ s.ringFill n k < 24) →
      exec (.tbLoad n k) s = .next (settle s)) ∧
    (∀ (k : Fin 3) (v : Word), s.writable (R.CAN_FQ_PUT n k) → s.canRefused n = true →
      exec (.fqPut n k v) s = .next (settle (s.inc (C.CAN_FQ_NOT_DUTY n)))) ∧
    (∀ (k : Fin 3) (v : Word), s.writable (R.CAN_FQ_PUT n k) → s.canRefused n = false →
      let new := bits v.toNat 0 14
      let len := (new + s.ringSize n k - s.regN (ringPut n k)) % max 1 (s.ringSize n k)
      (s.fqOwner n k ≠ 0 → exec (.fqPut n k v) s = .next (settle (s.inc (C.CAN_FQ_OWNER n)))) ∧
      (s.fqOwner n k = 0 → (s.ringSize n k ≤ new ∨ new % 8 ≠ 0 ∨ s.ringSize n k < s.ringFill n k + len) → exec (.fqPut n k v) s = .next (settle (s.inc (C.CAN_FQ_FULL n)))) ∧
      (s.fqOwner n k = 0 → new < s.ringSize n k → new % 8 = 0 → s.ringFill n k + len ≤ s.ringSize n k → s.canMirrors n = false →
        exec (.fqPut n k v) s = .next (settle ((s.setRegN (ringPut n k) new).setFill n k (s.ringFill n k + len))))) ∧
    (∀ k : Fin 3, s.writable (R.CAN_FQ_CFG n k) → s.canRefused n = false → s.canMirrors n = false → s.canTb n k = none →
      ∃ u : State, exec (.fqFlush n k) s = .next (settle u) ∧ u.ringFill n k = 0 ∧ u.mem = s.mem ∧
        u.regN (ringPut n k) = s.regN (ringGet n k) % max 1 (s.ringSize n k) ∧ u.regN (ringGet n k) = s.regN (ringGet n k)) ∧
    (∀ t, s.writable (R.CAN_TB_CANCEL n) → s.canTb n 0 = some t → s.on (F.CAN_TB_STATUS_STARTED n 0) = false → s.canMirrors n = false →
      exec (.tbCancel n 1) s = .next (settle
        ((((s.retire n 0 1).wr (F.CAN_TB_STATUS_CANCEL_RESULT n 0) 1).inc (C.CAN_CANCELLED n)).tbLoad n 0))) ∧
    (s.writable (R.CAN_TB_CANCEL n) → (s.canTb n 0).isSome = true → s.on (F.CAN_TB_STATUS_STARTED n 0) = true →
      exec (.tbCancel n 1) s = .next (settle (s.wr (F.CAN_TB_STATUS_CANCEL_RESULT n 0) 2))) ∧
    (s.writable (R.CAN_TB_CANCEL n) → s.canTb n 0 = none → exec (.tbCancel n 1) s = .next (settle s)) ∧
    (∀ idle, s.alive = true → (s.canC n).win = none → s.ttRuns n = false →
      exec (.trellisColumn n idle) s = .next (settle
        (((s.modCan n (fun c => { c with win := none, colsCyc := none })).setRegN (R.CAN_TT_STATUS n) 0).wr (F.CAN_STATUS_BUS_IDLE n)
          (b2n (idle && !s.canBusy n))))) ∧
    (∀ v : Word, s.writable (R.CAN_TT_CYCLE n) → ∃ u : State, exec (.trellisWrite n 1 v) s = .next (settle u) ∧
      u.ttCycle n = v.toNat ∧ (v.toNat = 0 → (u.canC n).win = none ∧ u.regN (R.CAN_TT_STATUS n) = 0) ∧ u.mem = s.mem) ∧
    (∀ m, s.alive = true → s.modeTarget n = m → m ≠ s.rd (F.CAN_STATUS_EFF_MODE n) →
      ((m = 0 ∧ s.winding = false) ∨ s.canBusy n = false → exec (.modeChange n) s = .next (settle (s.enterMode n m))) ∧
      ((m ≠ 0 ∨ s.winding = true) → s.canBusy n = true → exec (.modeChange n) s = .next (settle s))) ∧
    (s.alive = true → s.modeTarget n = s.rd (F.CAN_STATUS_EFF_MODE n) → exec (.modeChange n) s = .next (settle s)) ∧
    (∀ v : Word, s.writable (R.CAN_NBT n) →
      (s.rd (F.CAN_CTRL_MODE n) = 0 ∨ 5 ≤ s.rd (F.CAN_CTRL_MODE n) →
        let u := s.writeFields (R.CAN_NBT n) v.toNat
        exec (.bitTimingWrite n 0 v) s = .next (settle (if u.rateBad n then u.cfgError n else u.wr (F.CAN_STATUS_CFG_ERR n) 0))) ∧
      (1 ≤ s.rd (F.CAN_CTRL_MODE n) → s.rd (F.CAN_CTRL_MODE n) ≤ 4 →
        exec (.bitTimingWrite n 0 v) s = .next (settle (s.cfgError n)))) ∧
    (s.power < 3 →
      (s.boot.step < 12 → s.ballCanStb n = .high) ∧
      (s.boot.step = 12 → s.ballCanStb n = match s.rd (F.CAN_CTRL_STB_MODE n) with
        | 1 => .high
        | 2 => .low
        | _ => if s.rd (F.CAN_STATUS_EFF_MODE n) = 0 then .high else .low)) ∧
    (3 ≤ s.power → s.ballCanStb n =
      if n.val < 4 ∧ s.wak.armed.testBit (16 + n) = true ∧ s.rd (F.WAK_C_CTRL_MODE n) ≠ 0 then .low else .high) ∧
    s.cfgError n = (s.wr (F.CAN_STATUS_CFG_ERR n) 1).raise 0x0A08 n

/-- A CAN element gives its frame back: The element of every frame of the formats the controllers know (a base or extended
identifier, classical, FD or XL, with the data its length code says, an acceptance field and remote flag where the format has
one) reads as that frame, the fields that its format does not have read 0, whatever its TAG, its filter and its time, and it is
as long as its header says. (R431, Table 10-3 of 10_can_channels.md) -/
def Obligations.CanElementsHoldTheirFrames : Prop :=
  ∀ (g : CanFrame) (gap : Bool) (filter tag ns sec : Nat),
    let f := plainFrame g
    f.data.length = dataLen f.fdf f.xlf f.rtr f.dlc.toNat → filter < 256 → tag < 65536 →
    let e := frameElem g gap filter tag ns sec
    elemFrame e = f ∧ elemLen (elemWord e 1) = e.length ∧ bits (elemWord e 3) 16 16 = tag ∧ (elemWord e 1).testBit 11 = gap ∧
      f.data = g.data ∧ f.fdf = g.fdf ∧ f.xlf = g.xlf ∧
      (g.ide = true → g.xlf = false → f.ide = true ∧ f.ident = g.ident) ∧
      (g.ide = false ∨ g.xlf = true → f.ide = false ∧ f.ident.toNat = g.ident.toNat % 2 ^ 11)

/-- Characters, messages and transmission of a serial channel: A character of a running channel that does not suppress its echo is
appended to the open message, or opens one with the time of its start, its parity and framing errors counted, reported and
kept; a channel that does not run takes none, and an echo only moves the line. An idle line of GAP_BITS or MAX_LEN bytes
(OVERLONG) closes the open message, a break (BREAKS) at once; unless it is empty or in error with DROP_ERR, the message counts
and goes to the targets its channel names. The head element of the transmit ring starts after TX_GAP idle bits with BUSY and
DE, and an element of length 0 or above 1024 is discarded and counted; after DE_LEAD, its characters and DE_LAG BUSY and DE
clear, the message and its bytes count, and the element is freed. A firmware write of TXQ_PUT to a ring that firmware owns adds
its bytes where they fit and are whole words, and otherwise adds nothing; another owner, or a unit that may not append, is
counted. A DIV up to 853 sets CFG_ERR, ends what the channel sends and receives, and raises 0x0B03, one above clears it. In a
unit without duty a mirrored element older than MIRROR_AGE is retired. (R472, R473, R474, R475, R476, R477, R478, R480, Table
11-1 of 11_serial_channels_and_glove_frames.md) -/
def Obligations.SerialChannelsRun : Prop :=
  ∀ (n : Fin 8) (s : State),
    (∀ (v : Byte) (pe fe : Bool), s.alive = true → s.serRuns n = false → exec (.serialCharacter n v pe fe) s = .next (settle s)) ∧
    (∀ (v : Byte) (pe fe : Bool), s.serRuns n = true → (s.serC n).open_ = none → s.on (F.SER_STATUS_DE n) = true →
      s.on (F.SER_CTRL_ECHO_SUPPRESS n) = true → exec (.serialCharacter n v pe fe) s = .next (settle
        ((s.modSer n (fun c => { c with lineAt := s.clk.now })).wr (F.SER_STATUS_LINE n) 1))) ∧
    (∀ (v : Byte) (pe fe : Bool), s.serRuns n = true → s.on (F.SER_STATUS_DE n) = false ∨ s.on (F.SER_CTRL_ECHO_SUPPRESS n) = false →
      (∀ m, (s.serC n).open_ = some m → s.lineIdle n (s.rd (F.SER_FRAME_GAP_BITS n)) (s.clk.now - s.charNs n) = false) →
      let pe' := pe && (s.rd (F.SER_CTRL_PARITY n) == 1 || s.rd (F.SER_CTRL_PARITY n) == 2)
      let t := s.wtNs - s.charNs n
      let b : Byte := BitVec.ofNat 8 (if s.on (F.SER_CTRL_DATA7 n) then v.toNat % 128 else v.toNat)
      let m : SerMsg := match (s.serC n).open_ with
        | some m => { m with bytes := m.bytes ++ [b], err := m.err || (pe' || fe) }
        | none => ⟨[b], pe' || fe, (t % 1000000000).toNat, (t / 1000000000).toNat % 2 ^ 32⟩
      let u := (s.modSer n (fun c => { c with lineAt := s.clk.now })).wr (F.SER_STATUS_LINE n) 1
      let u := if pe' then u.inc (C.SER_PARITY_ERR n) else u
      let u := if fe then u.inc (C.SER_FRAMING_ERR n) else u
      let u := if pe' || fe then u.raiseOnce 0x0B01 n else u
      m.bytes.length < s.serMax n → s.rd (F.SER_FRAME_GAP_BITS n) ≠ 0 →
      exec (.serialCharacter n v pe fe) s = .next (settle
        ((u.modSer n (fun c => { c with open_ := some m })).wr (F.SER_STATUS_RX_BUSY n) 1))) ∧
    (s.alive = true →
      exec (.messageClose n .gap) s = .next (settle (if s.serFull n then (s.inc (C.SER_OVERLONG n)).serClose n false
        else if s.lineIdle n (s.rd (F.SER_FRAME_GAP_BITS n)) s.clk.now then s.serClose n false else s)) ∧
      exec (.messageClose n .maxLen) s = .next (settle (if s.serFull n then (s.inc (C.SER_OVERLONG n)).serClose n false else s)) ∧
      (s.serRuns n = false → exec (.messageClose n .brk) s = .next (settle s)) ∧
      (s.serRuns n = true → s.serFull n = false → exec (.messageClose n .brk) s = .next (settle
        ((((s.modSer n (fun c => { c with lineAt := s.clk.now })).wr (F.SER_STATUS_LINE n) 0).inc (C.SER_BREAKS n)).serClose n true)))) ∧
    (∀ brk : Bool, ((s.serC n).open_ = none → s.serClose n brk = s) ∧ ∀ m, (s.serC n).open_ = some m →
      let u := (s.modSer n (fun c => { c with open_ := none })).wr (F.SER_STATUS_RX_BUSY n) 0
      let a := (u.inc (C.SER_RX_MSGS n)).add (C.SER_RX_BYTES n) m.bytes.length
      let b := if s.on (F.SER_CTRL_RX_FW n) then a.serRxStore n m brk else a
      let d := if s.on (F.SER_CTRL_RX_GLOVE n) then b.toGlv (16 + n) none m.bytes s.wtNs else b
      (m.bytes = [] ∨ (m.err = true ∧ s.on (F.SER_CTRL_DROP_ERR n) = true) → s.serClose n brk = u) ∧
      (m.bytes ≠ [] → m.err = false ∨ s.on (F.SER_CTRL_DROP_ERR n) = false →
        s.serClose n brk = d.serMirrorRetire n m.bytes)) ∧
    (s.serRuns n = false ∨ s.on (F.SER_STATUS_TX_BUSY n) = true ∨ (s.serC n).txFill = 0 →
      exec (.serialTxStart n) s = .next (settle s)) ∧
    (s.serRuns n = true → s.on (F.SER_STATUS_TX_BUSY n) = false → (s.serC n).txFill ≠ 0 →
      let len := bits (leNat (s.serBytes (serTx n) (s.regN (R.SER_TXQ_GET n)) 4)) 0 11
      let time := s.bitTimes n (s.rd (F.SER_DE_DE_LEAD n) + len * s.charBits n + s.rd (F.SER_DE_DE_LAG n))
      (len = 0 ∨ 1024 < len → exec (.serialTxStart n) s = .next (settle ((s.serPop n).inc (C.SER_TX_INVALID n)))) ∧
      (len ≠ 0 → len ≤ 1024 → s.serMaySend n = false ∨ s.lineIdle n (s.rd (F.SER_FRAME_TX_GAP n)) s.clk.now = false ∨ s.serHead n = none →
        exec (.serialTxStart n) s = .next (settle s)) ∧
      (len ≠ 0 → len ≤ 1024 → s.lineIdle n (s.rd (F.SER_FRAME_TX_GAP n)) s.clk.now = true → s.serMaySend n = true → (s.serHead n).isSome = true →
        exec (.serialTxStart n) s = .next (settle
          (((s.modSer n (fun c => { c with doneAt := s.clk.now + time })).wr
            (F.SER_STATUS_TX_BUSY n) 1).wr (F.SER_STATUS_DE n) 1)))) ∧
    (s.on (F.SER_STATUS_TX_BUSY n) = false ∨ s.clk.now < (s.serC n).doneAt → exec (.serialTxEnd n) s = .next (settle s)) ∧
    (s.alive = true → s.on (F.SER_STATUS_TX_BUSY n) = true → (s.serC n).doneAt ≤ s.clk.now →
      let len := bits (leNat (s.serBytes (serTx n) (s.regN (R.SER_TXQ_GET n)) 4)) 0 11
      let u := (s.inc (C.SER_TX_MSGS n)).add (C.SER_TX_BYTES n) len
      let u := if (s.serC n).resent then u.inc (C.SER_TAKEOVER_RESENT n) else u
      exec (.serialTxEnd n) s = .next (settle (((u.wr (F.SER_STATUS_TX_BUSY n) 0).wr (F.SER_STATUS_DE n) 0).serPop n))) ∧
    (∀ v : Word, s.writable (R.SER_TXQ_PUT n) → (s.serMirrors n = true ∧ s.duty = false) ∨ (s.on (F.SER_CTRL_TX_ROLE n) = true ∧ s.giving = true) →
      exec (.serTxqPut n v) s = .next (settle (s.inc (C.SER_TXQ_NOT_DUTY n)))) ∧
    (∀ v : Word, s.writable (R.SER_TXQ_PUT n) → s.on (F.SER_CTRL_TX_ROLE n) = false →
      let new := bits v.toNat 0 11
      let len := (new + 2048 - s.regN (R.SER_TXQ_PUT n)) % 2048
      (s.serOwner n = 1 → exec (.serTxqPut n v) s = .next (settle (s.inc (C.SER_TXQ_OWNER n)))) ∧
      (s.serOwner n = 0 → new % 4 ≠ 0 ∨ 2048 < (s.serC n).txFill + len → exec (.serTxqPut n v) s = .next (settle s)) ∧
      (s.serOwner n = 0 → new % 4 = 0 → (s.serC n).txFill + len ≤ 2048 → exec (.serTxqPut n v) s = .next (settle
        ((s.setRegN (R.SER_TXQ_PUT n) new).serFilled n len)) ∧
        (((s.setRegN (R.SER_TXQ_PUT n) new).serFilled n len).serC n).txFill = (s.serC n).txFill + len)) ∧
    (∀ v : Word, s.writable (R.SER_BAUD n) →
      let u := s.writeFields (R.SER_BAUD n) v.toNat
      (853 < u.rd (F.SER_BAUD_DIV n) → exec (.serBaudWrite n v) s = .next (settle (u.wr (F.SER_STATUS_CFG_ERR n) 0))) ∧
      (u.rd (F.SER_BAUD_DIV n) ≤ 853 → ∃ t : State, exec (.serBaudWrite n v) s = .next (settle (t.raise 0x0B03 n)) ∧
        t.on (F.SER_STATUS_CFG_ERR n) = true ∧ t.on (F.SER_STATUS_DE n) = false ∧ t.on (F.SER_STATUS_TX_BUSY n) = false ∧ (t.serC n).open_ = none ∧ t.serRuns n = false ∧ t.mem = s.mem)) ∧
    (s.on (F.SER_CTRL_TX_ROLE n) = false ∨ s.duty = true ∨ s.rd (F.SER_DE_MIRROR_AGE n) = 0 ∨ s.serHead n = none →
      exec (.serMirrorExpired n) s = .next (settle s)) ∧
    (s.alive = true → s.on (F.SER_CTRL_TX_ROLE n) = true → s.duty = false → s.rd (F.SER_DE_MIRROR_AGE n) ≠ 0 →
      (s.serHead n).isSome = true → (s.serC n).headAt + s.rd (F.SER_DE_MIRROR_AGE n) * 1000000 ≤ s.clk.now →
      exec (.serMirrorExpired n) s = .next (settle ((s.serPop n).inc (C.SER_MIRROR_EXPIRED n))))

/-- Bundling, keep-alives and decapsulation: The first item that GLV holds goes to its channel: one of a channel that does not
encapsulate is counted NOT_DUTY and gone; one of a channel without NTSCF and seal enters its bundle; one that is to be sealed
waits for its turn in the cipher engine. An open bundle older than CLOSE_US closes; a channel without a frame for KEEPALIVE_MS
and without an open bundle sends one frame more and counts it; else nothing happens. A closed bundle's number is the channel's
SEQ, the next frame's is one more modulo 65536 without RESTART. A frame at P26 that is no glove frame counts FORMAT_ERR, one
that no entry takes NO_DECAP; without a seal the first entry that takes it checks its number and delivers its items. A frame
with the number last seen is STALE; the number of an accepted frame becomes LAST_SEQ. RESYNC_MS without a frame clears SYNCED.
A commit writes an encapsulation or decapsulation entry, and other indices are ignored. (R481, R482, R484, R485, R488, R489,
R490, R491, R245, Tables 11-4 and 11-5 of 11_serial_channels_and_glove_frames.md) -/
def Obligations.GloveEngineRuns : Prop :=
  ∀ (s : State),
    (∀ i r, s.alive = true → s.glv.inq = i :: r → s.encapsulating i.chan = false →
      exec .gloveItem s = .next (settle
        ((s.inc (C.GLV_C_NOT_DUTY i.chan)).setGlv { s.glv with inq := r }))) ∧
    (s.alive = true → s.glv.inq = [] → exec .gloveItem s = .next (settle s)) ∧
    (∀ i r, s.alive = true → s.glv.inq = i :: r → s.encapsulating i.chan = true → s.encNtscf i.chan = false → s.sealing i.chan = false →
      let u := s.bundle i.chan (match i.can with | some f => canBody f | none => i.data) i.rxUs
      exec .gloveItem s = .next (settle (u.setGlv { u.glv with inq := r }))) ∧
    (∀ i, s.alive = true → s.glv.inq = [i] → s.encapsulating i.chan = true → s.sealing i.chan = true → s.sealStalls i.chan = false →
      s.isDue i.chan = false → exec .gloveItem s = .next (settle s)) ∧
    (∀ c : Fin 24, s.alive = true →
      ((s.enc c).isOpen = true → (s.enc c).tOpen + bits (s.encW c 2) 0 16 ≤ s.lcUs →
        exec (.bundleClose c) s = .next (settle (s.closeBundle c))) ∧
      ((s.enc c).isOpen = false ∨ s.lcUs < (s.enc c).tOpen + bits (s.encW c 2) 0 16 → exec (.bundleClose c) s = .next (settle s)) ∧
      (s.encapsulating c = false ∨ (s.enc c).isOpen = true ∨ bits (s.encW c 3) 0 16 = 0 ∨ s.lcMs < (s.enc c).lastMs + bits (s.encW c 3) 0 16 →
        exec (.gloveKeepalive c) s = .next (settle s)) ∧
      (s.encapsulating c = true → (s.enc c).isOpen = false → bits (s.encW c 3) 0 16 ≠ 0 →
        (s.enc c).lastMs + bits (s.encW c 3) 0 16 ≤ s.lcMs →
        exec (.gloveKeepalive c) s = .next (settle ((s.closeBundle c).inc (C.GLV_C_KEEPALIVES_SENT c)))) ∧
      ((s.closeBundle c).enc c).seq = ((s.enc c).seq + 1) % 65536 ∧ ((s.closeBundle c).enc c).restart = false ∧
      ((s.closeBundle c).enc c).items = [] ∧
      (∃ f, ((s.closeBundle c).port 26).inq = (s.port 26).inq ++ [f] ∧ f.bytes = s.gloveOctets c (s.enc c)) ∧
      (∀ k, k ≠ c.val → (s.closeBundle c).enc k = s.enc k)) ∧
    (s.out26 = [] ∨ (s.queueReady 24 = true ∧ s.isDue 24 = false) → exec .decapsulate s = .next (settle s)) ∧
    (∀ pk r, s.alive = true → s.out26 = pk :: r → s.queueReady 24 = false ∨ s.isDue 24 = true →
      let u := { (if s.queueReady 24 then s.served 24 else s) with out26 := r }
      let takes (h d : Nat) (g : Glove) : Bool :=
        (s.decW d 0).testBit 31 && decide (bits (s.decW d 0) 0 9 = h) && (s.decW d 0).testBit 21 == g.ntscf &&
          (g.ntscf || decide (bits (s.decW d 0) 16 5 = g.chan))
      (parseGlove pk.data = none → exec .decapsulate s = .next (settle ((u.inc C.GLV_FORMAT_ERR).raiseOnce 0x0C02 0))) ∧
      (∀ g, parseGlove pk.data = some g →
        (pk.sc = none ∨ (∃ h, pk.sc = some h ∧ ∀ d, d < 64 → takes h d g = false) →
          exec .decapsulate s = .next (settle (u.inc C.GLV_NO_DECAP))) ∧
        (∀ h d, pk.sc = some h → d < 64 → takes h d g = true → (∀ j, j < d → takes h j g = false) → s.scf h 6 12 2 ≠ 2 →
          let q := u.seqCheck d g
          let items := gloveItems g.count g.rest
          exec .decapsulate s = .next (settle (if q.2 then q.1.deliverAll d g items.1 items.2 else q.1))))) ∧
    (∀ (d : Fin 64) (g : Glove), g.seq < 65536 → g.ntscf = false →
      ((s.seqCheck d g).2 = true → (s.seqCheck d g).1.rd (F.GLV_DSTATE_LAST_SEQ d) = g.seq ∧
        (s.seqCheck d g).1.on (F.GLV_DSTATE_SYNCED d) = true) ∧
      (s.on (F.GLV_DSTATE_SYNCED d) = true → g.restart = false → g.seq = s.rd (F.GLV_DSTATE_LAST_SEQ d) →
        s.seqCheck d g = (s.inc (C.GLV_D_STALE d), false))) ∧
    (∀ d : Fin 64, bits (s.decW d 2) 0 16 = 0 ∨ s.on (F.GLV_DSTATE_SYNCED d) = false ∨
      s.lcMs < sget 0 s.glv.tLast d + bits (s.decW d 2) 0 16 → exec (.resync d) s = .next (settle s)) ∧
    (∀ d : Fin 64, s.alive = true → bits (s.decW d 2) 0 16 ≠ 0 → s.on (F.GLV_DSTATE_SYNCED d) = true →
      sget 0 s.glv.tLast d + bits (s.decW d 2) 0 16 ≤ s.lcMs →
      exec (.resync d) s = .next (settle (s.wr (F.GLV_DSTATE_SYNCED d) 0))) ∧
    (∀ v : Word, s.writable R.GLV_COMMIT →
      let i := bits v.toNat 0 7
      (i < 24 → exec (.glvCommit v) s = .next (settle ((s.setEntry 0xB i (s.staged R.GLV_STAGE0 6)).glvRefresh))) ∧
      (32 ≤ i → i < 96 → exec (.glvCommit v) s = .next (settle (s.setEntry 0xB i (s.staged R.GLV_STAGE0 3)))) ∧
      ((24 ≤ i ∧ i < 32) ∨ 96 ≤ i → exec (.glvCommit v) s = .next (settle s)))

/-- A glove frame gives its items back: Whatever the entry of the channel holds, the frame that a channel without NTSCF sends for a
bundle of at most 65535 items of at most 65535 octets parses as a glove frame of that channel, with the channel's number and
RESTART, and yields exactly the bundle's items in order, none cut, whatever padding follows it. The body of a CAN item reads as
its frame. (R481, R484, R491, Tables 11-2 and 11-3 of 11_serial_channels_and_glove_frames.md) -/
def Obligations.GloveFramesGiveTheirItemsBack : Prop :=
  (∀ (s : State) (c : Fin 24) (e : Enc) (pad : List Byte), s.encNtscf c = false → e.items.length < 65536 → e.seq < 65536 →
    (∀ i ∈ e.items, i.1.length < 65536) →
    ∃ g, parseGlove (s.gloveOctets c e ++ pad) = some g ∧ g.ntscf = false ∧ g.chan = c ∧ g.subtype = subtypeOf c ∧ g.seq = e.seq ∧
      g.restart = e.restart ∧ g.count = e.items.length ∧ gloveItems g.count g.rest = (e.items.map (·.1), false)) ∧
  (∀ f : CanFrame, (f.xlf = false → f.af = 0 ∧ f.vcid = 0) → f.data.length = dataLen f.fdf f.xlf f.rtr f.dlc.toNat →
    bodyFrame (canBody f) = f)

/-- Jobs of the rings are dispatched, compared and ended: A write of a ring's PUT stores it and leaves memory as it is. A dispatch
serves the first ready queue after the one served last. The next descriptor of a ring whose turn it is and whose OP is the
command's is dispatched on a pair in service, bound to the slot and its generation of that moment, and queued behind the jobs
in flight, a bad address counted and reported; a command for another OP, out of turn, without a descriptor or without a pair
changes nothing. A job whose status is not OK writes no byte and no key; an unknown OP ends with KEY_MODE, an empty slot with
KEY_EMPTY unless its lengths end it first, and a NOP with OK. A job whose cores agree becomes ready; one whose cores differ
runs again on another pair, and a second difference, or no other pair, ends it with COMPARE_FAULT and nothing written. ABORT of
a ring with jobs in flight waits for them, and otherwise clears EN. (R494, R495, R498, R501, R502, R503, R504, R506, R509,
Tables 12-3 and 12-4 of 12_cipher_and_keys.md) -/
def Obligations.CipherJobsRun : Prop :=
  ∀ (e : Fin 8) (s : State),
    (∀ v : Word, s.writable (R.CPH_RING_PUT e) →
      exec (.ringPut e v) s = .next (settle (s.writeFields (R.CPH_RING_PUT e) v.toNat)) ∧
      (s.writeFields (R.CPH_RING_PUT e) v.toNat).rd (F.CPH_RING_PUT_PUT e) = v.toNat % 1024 ∧
      (s.writeFields (R.CPH_RING_PUT e) v.toNat).mem = s.mem) ∧
    (∀ q, s.isDue q = true ↔ ∃ i, i < 33 ∧ q = (s.cph.turn + 1 + i) % 33 ∧ s.queueReady q = true ∧
      ∀ j, j < i → s.queueReady ((s.cph.turn + 1 + j) % 33) = false) ∧
    (s.isDue (25 + e) = false ∨ s.nextJob e = none ∨ s.pairsOn = [] →
      exec (.nop e) s = .next (settle s) ∧ exec (.gcmEnc e) s = .next (settle s) ∧ exec (.gcmDec e) s = .next (settle s) ∧
      exec (.cmacGen e) s = .next (settle s) ∧ exec (.cmacVer e) s = .next (settle s) ∧ exec (.wrap e) s = .next (settle s) ∧
      exec (.unwrap e) s = .next (settle s) ∧ exec (.derive e) s = .next (settle s)) ∧
    (∀ i c, s.nextJob e = some i → s.isDue (25 + e) = true → (s.pickPair none).2 = some c →
      let op := bits (s.jobWord e i 0) 0 4
      let slot := bits (s.jobWord e i 0) 8 8
      let r := s.runJob e i
      let u := (s.pickPair none).1
      let u := if r.badAddr then (u.inc C.CPH_RING_ERRORS).raiseOnce 0x0D07 e else u
      let t := (u.setCph { u.cph with jobs := u.cph.jobs ++
        [⟨e, i, slot, (s.key slot).gen, c, false, false, r.status, r.outs, r.keyW⟩] }).served (25 + e)
      c ∈ s.pairsOn ∧
      (op = 0 ∨ 8 ≤ op → exec (.nop e) s = .next (settle t)) ∧ (op = 1 → exec (.gcmEnc e) s = .next (settle t)) ∧
      (op = 2 → exec (.gcmDec e) s = .next (settle t)) ∧ (op = 3 → exec (.cmacGen e) s = .next (settle t)) ∧
      (op = 4 → exec (.cmacVer e) s = .next (settle t)) ∧ (op = 5 → exec (.wrap e) s = .next (settle t)) ∧
      (op = 6 → exec (.unwrap e) s = .next (settle t)) ∧ (op = 7 → exec (.derive e) s = .next (settle t)) ∧
      (op ≠ 1 → exec (.gcmEnc e) s = .next (settle s)) ∧ (op ≠ 6 → exec (.unwrap e) s = .next (settle s))) ∧
    (∀ i,
      let op := bits (s.jobWord e i 0) 0 4
      let slot := bits (s.jobWord e i 0) 8 8
      let r := s.runJob e i
      r.status ∈ [0, 1, 2, 3, 6] ∧ (r.status ≠ 0 → r.outs = [] ∧ r.keyW = none) ∧ (op = 0 → r.status = 0) ∧
      (8 ≤ op → r.status = 3) ∧
      (1 ≤ op → op ≤ 7 → (s.key slot).loaded = false → r.status = 2 ∨ r.status = 6) ∧
      (1 ≤ op → op ≤ 7 → s.slotServes op slot = false → r.status = 2 ∨ r.status = 3 ∨ r.status = 6)) ∧
    (∀ d, (s.ringJobs e).find? (fun j => !j.ready) = none → exec (.jobComplete e d) s = .next (settle s)) ∧
    (∀ j, s.alive = true → (s.ringJobs e).find? (fun j => !j.ready) = some j →
      exec (.jobComplete e false) s = .next (settle (s.setJob j { j with ready := true }).settleRings.noPair) ∧
      (j.rerun = true → exec (.jobComplete e true) s = .next (settle
        ((s.setJob j { j with ready := true, status := 5, outs := [], keyW := none }).pairDiffers j.pair).settleRings.noPair)) ∧
      (j.rerun = false → (s.pickPair (some j.pair)).2 = none → exec (.jobComplete e true) s = .next (settle
        ((s.setJob j { j with ready := true, status := 5, outs := [], keyW := none }).pairDiffers j.pair).settleRings.noPair)) ∧
      (∀ d, j.rerun = false → (s.pickPair (some j.pair)).2 = some d → d ≠ j.pair ∧
        exec (.jobComplete e true) s = .next (settle
          (((s.pickPair (some j.pair)).1.setJob j { j with pair := d, rerun := true }).pairDiffers j.pair).settleRings.noPair))) ∧
    (s.writable (R.CPH_RING_CTRL e) → s.cph.aborting = [] →
      (s.ringJobs e ≠ [] → exec (.ringAbort e) s = .next (settle (s.setCph { s.cph with aborting := [e.val] }))) ∧
      (s.ringJobs e = [] → ∃ t : State, exec (.ringAbort e) s = .next (settle t) ∧ t.on (F.CPH_RING_CTRL_EN e) = false ∧
        t.cph = s.cph ∧ t.flash = s.flash ∧ t.tables = s.tables))

/-- The key store erases, shows its slots and never its keys, and pairs leave service: A write of KS_ERASE with START erases its
slot: the slot is empty, its generation one more modulo 2^16, every other slot and every job as before, and its old material is
destroyed and counted at once when no job is bound to it, and kept for the jobs bound to it otherwise; a write without START
does nothing. A key written into a slot is the slot's new key with the next generation. Old material is destroyed only once no
job is bound to it. KS_SEL shows GEN, MODE and LOADED of its slot. When firmware takes the last pair out of service while no
job runs, the unit goes fail-silent. A write of TX_AN moves the association. What any engine reads from any register does not
depend on the key store's contents. (R495, R507, R509, R510, R511, R512, R513, R526, Table 12-5 of 12_cipher_and_keys.md) -/
def Obligations.KeysStayInside : Prop :=
  ∀ s : State,
    (∀ v : Word, s.writable R.CPH_KS_ERASE →
      (v.toNat.testBit 31 = true → exec (.keyErase v) s = .next (settle (s.eraseKey (v.toNat % 256)))) ∧
      (v.toNat.testBit 31 = false → exec (.keyErase v) s = .next (settle s))) ∧
    (∀ k,
      (s.eraseKey k).key k = ⟨false, 0, [], ((s.key k).gen + 1) % 65536⟩ ∧
      (∀ mode b, (s.writeKey k mode b).key k = ⟨true, mode, b, ((s.key k).gen + 1) % 65536⟩ ∧ (s.writeKey k mode b).cph.jobs = s.cph.jobs) ∧
      (∀ n, n ≠ k → (s.eraseKey k).key n = s.key n) ∧ (s.eraseKey k).cph.jobs = s.cph.jobs ∧ (s.eraseKey k).mem = s.mem ∧
      ((s.key k).loaded = true → s.bound k (s.key k).gen = false →
        (s.eraseKey k).cph.old = s.cph.old ∧ (s.eraseKey k).regs = (s.inc C.CPH_KEY_DESTROYED).regs) ∧
      ((s.key k).loaded = true → s.bound k (s.key k).gen = true →
        (s.eraseKey k).cph.old = s.cph.old ++ [⟨k, (s.key k).gen, (s.key k).bytes, false⟩] ∧ (s.eraseKey k).regs = s.regs)) ∧
    (∀ k : Byte,
      let gone := s.cph.old.filter (fun o => o.slot == k.toNat && !s.bound o.slot o.gen)
      let u := s.setCph { s.cph with old := s.cph.old.filter (fun o => !gone.contains o) }
      (gone = [] → exec (.keyDestroyed k) s = .next (settle s)) ∧
      (gone ≠ [] → exec (.keyDestroyed k) s = .next (settle (u.add C.CPH_KEY_DESTROYED gone.length).settleRings)) ∧
      (∀ o ∈ s.cph.old, s.bound o.slot o.gen = true → o ∈ u.cph.old) ∧
      (∀ o ∈ u.cph.old, o.slot = k.toNat → s.bound o.slot o.gen = true)) ∧
    (∀ v : Word, s.writable R.CPH_KS_SEL →
      let k := s.key (v.toNat % 256)
      exec (.cphKsSel v) s = .next (settle (s.cphKsSel v.toNat)) ∧
      (k.gen < 65536 → k.mode < 256 →
        (s.cphKsSel v.toNat).rd F.CPH_KS_STATE_GEN = k.gen ∧ (s.cphKsSel v.toNat).rd F.CPH_KS_STATE_MODE = k.mode ∧
        (s.cphKsSel v.toNat).on F.CPH_KS_STATE_LOADED = k.loaded)) ∧
    (∀ v : Word, s.writable R.CPH_CTRL →
      exec (.pairEnWrite v) s = .next (settle ((s.writeFields R.CPH_CTRL v.toNat).refreshPairs).noPair) ∧
      (v.toNat % 16 = 0 → s.cph.jobs = [] → ((s.writeFields R.CPH_CTRL v.toNat).refreshPairs).noPair.flt.silent = true) ∧
      (v.toNat % 16 ≠ 0 → (((s.writeFields R.CPH_CTRL v.toNat).refreshPairs).noPair.flt = s.flt))) ∧
    (∀ (p : Fin 16) (a : Fin 4), s.writable (R.CPH_MS_CTRL p) →
      exec (.txAnWrite p a) s = .next (settle (s.txAnWrite p a)) ∧
      (s.txAnWrite p a).rd (F.CPH_MS_CTRL_TX_AN p) = a ∧
      (s.rd (F.CPH_MS_CTRL_TX_AN p) = a → s.txReady p a = false → exec (.txAnWrite p a) s = .next (settle s))) ∧
    (∀ (e a : Nat) (ks : Sparse Key), { s with cph := { s.cph with keys := ks } }.readReg e a = s.readReg e a)

/-- The Quosor link is established, kept and lost: Aligned lanes of an enabled link set their bits, and, where the link is
protected, draw the next link epoch, which is kept in the persistent store, or refuse the link for want of its key. A received
epoch derives the session key from the slot's key and both epochs, once per link. Epoch frames leave, unprotected, every 2
microseconds until the link is up, and heartbeats every HB_PERIOD, only from a unit past step 12 over a keyed link; every such
frame carries its header, is counted and, where protected, is a job of the cipher engine. A frame discarded for its tag or CRC
is counted and answered by a NAK, one out of sequence is answered, a reserved one is counted; a NAK leaves at most once per 2
microseconds. A NAK sends every held frame from its number on again, and 10 microseconds without progress all of them, each
counted. The link stays while a good frame came within LINK_TIMEOUT; otherwise it goes down, the session key is gone, mirroring
has ended, no bridge request stays open. A pair probe leaves on the probe ports every 50 microseconds while the link is down.
(R539, R541, R549, R555, R556, R557, R558, R559, R561, R563, Tables 13-4 and 13-5 of 13_the_pair.md) -/
def Obligations.PairLinkRuns : Prop :=
  ∀ s : State,
    (let u := (s.setRegN R.QLB_LANES 7).setQlb { s.qlb with
       peerEpoch := none, key := none, hb := none, hbSent := none, hbTxAt := none, epochAt := none, goodAt := s.clk.now, txCount := 0,
       txSeq := 0, rxSeq := 0, held := [] }
     let n := (s.pers.epoch + 1) % 2 ^ 32
     s.alive = true → s.on F.QLB_CTRL_EN = true →
      (s.on F.QLB_LANES_ALIGNED = true → exec .lanesAligned s = .next (settle s)) ∧
      (s.on F.QLB_LANES_ALIGNED = false → s.on F.CPH_QLINK_EN = false → exec .lanesAligned s = .next (settle u)) ∧
      (s.on F.QLB_LANES_ALIGNED = false → s.on F.CPH_QLINK_EN = true → s.keyFor (s.rd F.CPH_QLINK_SLOT) 6 = false →
        exec .lanesAligned s = .next (settle (u.raise 0x0D08 0))) ∧
      (s.on F.QLB_LANES_ALIGNED = false → s.on F.CPH_QLINK_EN = true → s.keyFor (s.rd F.CPH_QLINK_SLOT) 6 = true →
        exec .lanesAligned s = .next (settle (({ u with pers := { u.pers with epoch := n } }).setRegN R.CPH_QLINK_EPOCH n)))) ∧
    (s.on F.QLB_CTRL_EN = false → exec .lanesAligned s = .next (settle s)) ∧
    (∀ v : Word, let u := (s.inc C.QLB_LF_RX).setQlb { s.qlb with peerEpoch := some v.toNat, goodAt := s.clk.now }
      (s.linkHears = false → exec (.epoch v) s = .next (settle s)) ∧
      (s.linkHears = true → s.on F.CPH_QLINK_EN = false ∨ s.qlb.key.isSome = true ∨ s.keyFor (s.rd F.CPH_QLINK_SLOT) 6 = false →
        exec (.epoch v) s = .next (settle u)) ∧
      (s.linkHears = true → s.on F.CPH_QLINK_EN = true → s.qlb.key = none → s.keyFor (s.rd F.CPH_QLINK_SLOT) 6 = true →
        exec (.epoch v) s = .next (settle ((u.setQlb { u.qlb with
          key := some (kdf (s.key (s.rd F.CPH_QLINK_SLOT)).bytes (beBytes 4 0x514C4E4B ++ zeros 1 ++ s.epochs s.pers.epoch v.toNat) 32),
          txCount := 0 }).wr F.CPH_QLINK_PROTECTED 1)))) ∧
    (∀ (prot : Bool) (b : List Byte), s.sendVc4 prot b =
      let h := linkHeader 4 b.length 0 ((s.qlb.rxSeq + 65535) % 65536) (s.qlb.txCount % 2 ^ 32) s.linkIsUp []
      let u := s.setQlb { s.qlb with wire := linkFrame (if prot then s.qlb.key else none) s.unitB s.qlb.txCount h b,
                                     txCount := if prot then s.qlb.txCount + 1 else s.qlb.txCount }
      (if prot then u.linkJob else u).inc C.QLB_LF_TX) ∧
    (let due := match s.qlb.epochAt with | some t => decide (t + 2000 ≤ s.clk.now) | none => true
     (s.linkHears = true → s.linkIsUp = false → due = true →
       exec .epochSend s = .next (settle ((s.setQlb { s.qlb with epochAt := some s.clk.now }).sendVc4 false (beBytes 4 s.pers.epoch)))) ∧
     (s.linkHears = false ∨ s.linkIsUp = true ∨ due = false → exec .epochSend s = .next (settle s))) ∧
    (let due := match s.qlb.hbTxAt with | some t => decide (t + s.hbPeriod ≤ s.clk.now) | none => true
     (s.forwarding = false ∨ s.linkHears = false ∨ s.linkKeyed = false ∨ due = false → exec .heartbeatTx s = .next (settle s)) ∧
     (s.forwarding = true → s.linkHears = true → s.linkKeyed = true → due = true →
       let u := s.sendVc4 (s.on F.CPH_QLINK_PROTECTED) (heartbeatOctets s.heartbeatNow)
       exec .heartbeatTx s = .next (settle (u.setQlb { u.qlb with
         hbSent := some s.heartbeatNow, hbTxAt := some s.clk.now, hbSeq := (s.qlb.hbSeq + 1) % 2 ^ 32 }).linkComes))) ∧
    (s.linkHears = false → ∀ why, exec (.linkFrameDiscarded why) s = .next (settle s)) ∧
    (s.linkHears = true →
      (s.on F.CPH_QLINK_PROTECTED = true →
        exec (.linkFrameDiscarded .tag) s = .next (settle (s.inc C.CPH_QLINK_TAG_FAIL).sendNak) ∧
        exec (.linkFrameDiscarded .crc) s = .next (settle s)) ∧
      (s.on F.CPH_QLINK_PROTECTED = false →
        exec (.linkFrameDiscarded .tag) s = .next (settle s) ∧
        exec (.linkFrameDiscarded .crc) s = .next (settle (s.inc C.QLB_LF_CRC_FAIL).sendNak)) ∧
      exec (.linkFrameDiscarded .seq) s = .next (settle (s.setQlb { s.qlb with goodAt := s.clk.now }).sendNak) ∧
      exec (.linkFrameDiscarded .reserved) s = .next (settle ((s.inc C.QLB_LF_BAD).setQlb { s.qlb with goodAt := s.clk.now }))) ∧
    (let u := ((s.setQlb { s.qlb with nakAt := some s.clk.now }).sendVc4 (s.on F.CPH_QLINK_PROTECTED) (beBytes 2 s.qlb.rxSeq)).inc C.QLB_NAKS_SENT
     (s.linkIsUp = false → s.sendNak = s) ∧
     (∀ t, s.qlb.nakAt = some t → s.clk.now < t + 2000 → s.sendNak = s) ∧
     (∀ t, s.linkIsUp = true → s.qlb.nakAt = some t → t + 2000 ≤ s.clk.now → s.sendNak = u) ∧
     (s.linkIsUp = true → s.qlb.nakAt = none → s.sendNak = u)) ∧
    (∀ n, s.resend n =
      let u := (s.add C.QLB_RETRANSMITS n).add C.QLB_LF_TX n
      (if s.on F.CPH_QLINK_PROTECTED then u.add64 C.CPH_JOBS_LO n else u).setQlb
        { s.qlb with ackAt := s.clk.now, txCount := if s.qlb.key.isSome then s.qlb.txCount + n else s.qlb.txCount }) ∧
    (s.linkIsUp = false → ∀ n, exec (.nak n) s = .next (settle s)) ∧
    (∀ n : BitVec 16, s.alive = true → s.linkIsUp = true →
      exec (.nak n) s = .next (settle ((((s.inc C.QLB_LF_RX).linkJob).setQlb { s.qlb with goodAt := s.clk.now }).resend
        (s.qlb.held.filter (fun f => decide ((f.seq + 65536 - n.toNat) % 65536 < 32768))).length))) ∧
    (s.alive = true →
      (s.linkIsUp = true → s.qlb.held ≠ [] → s.qlb.ackAt + 10000 ≤ s.clk.now →
        exec .retransmit s = .next (settle (s.resend s.qlb.held.length))) ∧
      (s.linkIsUp = false ∨ s.qlb.held = [] ∨ s.clk.now < s.qlb.ackAt + 10000 → exec .retransmit s = .next (settle s))) ∧
    (s.alive = true → s.on F.QLB_LANES_ALIGNED = true →
      (s.on F.QLB_CTRL_EN = true → s.clk.now < s.qlb.goodAt + s.linkTimeout → exec .quosorLinkDown s = .next (settle s)) ∧
      (s.on F.QLB_CTRL_EN = false ∨ s.qlb.goodAt + s.linkTimeout ≤ s.clk.now → ∃ t : State,
        exec .quosorLinkDown s = .next (settle t) ∧ t.linkIsUp = false ∧ t.on F.QLB_LANES_ALIGNED = false ∧ t.qlb.key = none ∧
        (s.linkIsUp = true → t.mirroring = false ∧ t.qlb.open_ = [] ∧ t.qlb.handover = none))) ∧
    (let ports := s.rd F.QLB_PROBE_PROBE_PORTS
     s.forwarding = true →
      (s.linkIsUp = true ∨ s.qlb.downAt = 0 ∨ ports = 0 ∨ s.clk.now < s.qlb.probeAt → exec .pairProbe s = .next (settle s)) ∧
      (s.linkIsUp = false → s.qlb.downAt ≠ 0 → ports ≠ 0 → s.qlb.probeAt ≤ s.clk.now →
        let u := (s.sendKa true 0 ports).inc C.QLB_PROBES_SENT
        exec .pairProbe s = .next (settle (u.setQlb { u.qlb with probeAt := s.clk.now + 50000 }))))

/-- Roles, duty, restart requests and the hand-over: A change of role or duty shows both, and no change does nothing. A heartbeat
is counted and kept, and with both units past step 12 it moves the role: where the vintages agree, a forming STANDBY leaves
FORMING and stays STANDBY if the partner has duty or it is unit B, or becomes ACTIVE in unit A, a SOLO unit becomes ACTIVE, and
a DEGRADED one with the link up ACTIVE or STANDBY by its duty; where they differ, every unit is DEGRADED and keeps its duty, a
forming one having it in unit A where the partner has none. Unit B gives up a duty that both hold. A lost partner makes the
unit SOLO with duty; FORM_WAIT without a partner does too, and with one it leaves duty to unit A. Only the right key asks the
partner for a restart; a unit without duty, or with a mirroring STANDBY partner, accepts it and a reset of its own is due; a
refusal raises 0x0E09. A hand-over starts only in an ACTIVE unit that mirrors, a STANDBY takes an offer, DUTY_TAKEN gives it
duty, and ends the hand-over in the unit that gave it, with the warm restart it may have been for. (R543, R545, R546, R547,
R561, R562, R564, R582, R583, R584, Tables 13-1 and 13-9 of 13_the_pair.md) -/
def Obligations.RolesAndDutyMove : Prop :=
  ∀ s : State,
    (∀ role duty, role < 4 →
      (role = s.role → duty = s.duty → s.setRole role duty = s) ∧ (s.setRole role duty).role = role ∧ (s.setRole role duty).duty = duty ∧
      (s.setRole role duty).clk = s.clk) ∧
    (∀ h : Heartbeat,
      (s.alive = true → s.linkHears = false ∨ s.linkKeyed = false ∨ s.qlb.peerEpoch = none → exec (.heartbeat h) s = .next (settle s)) ∧
      (s.linkHears = true → s.linkKeyed = true → s.qlb.peerEpoch.isSome = true →
        let u := ((s.inc C.QLB_LF_RX).linkJob).inc C.QLB_HB_RX
        let u := u.setQlb { u.qlb with goodAt := s.clk.now, hbAt := some s.clk.now, hb := some h }
        let u := u.setPair R.QLB_PARTNER_MAC_LO R.QLB_PARTNER_MAC_HI h.mac.toNat
        let u := u.wr F.QLB_STATUS_PARTNER_ROLE (b2n h.duty * 8 + h.role)
        let u := (u.censusReport h.mac.toNat h.number.toNat h.fingerprint.toNat true).noteMismatch
        let u := u.linkComes.acked h.ack.toNat
        (u.forwarding = false → exec (.heartbeat h) s = .next (settle u)) ∧
        (u.forwarding = true →
          exec (.heartbeat h) s = .next (settle (((u.dutyConflict h).roleOnHeartbeat h).takeReverted h).syncMirror))) ∧
      (s.duty = true → h.duty = true → s.unitB = true → (s.dutyConflict h).duty = false) ∧
      (s.duty = false ∨ h.duty = false ∨ s.unitB = false → s.dutyConflict h = s) ∧
      (s.role = 1 → s.forming = true →
        let u := s.wr F.QLB_STATUS_FORMING 0
        (s.hbAgrees h = true → h.duty = true ∨ s.unitB = true → s.roleOnHeartbeat h = u) ∧
        (s.hbAgrees h = true → h.duty = false → s.unitB = false → s.roleOnHeartbeat h = u.setRole 0 true) ∧
        (s.hbAgrees h = false → s.roleOnHeartbeat h = u.setRole 3 (!s.unitB && !h.duty))) ∧
      (s.role = 0 ∨ (s.role = 1 ∧ s.forming = false) → s.roleOnHeartbeat h = if s.hbAgrees h then s else s.setRole 3 s.duty) ∧
      (s.role = 2 → s.roleOnHeartbeat h = s.setRole (if s.hbAgrees h then 0 else 3) s.duty) ∧
      (s.role = 3 → s.roleOnHeartbeat h =
        if s.hbAgrees h = true ∧ s.linkIsUp = true then s.setRole (if s.duty then 0 else 1) s.duty else s)) ∧
    (s.forwarding = true → s.linkIsUp = false → s.qlb.lost = false → s.forming = false → s.role ≠ 2 → s.qlb.kaAt = none →
      (s.clk.now < s.qlb.downAt + s.probeWait → exec .partnerLost s = .next (settle s)) ∧
      (s.qlb.downAt + s.probeWait ≤ s.clk.now → ∃ t : State, exec .partnerLost s = .next (settle t) ∧ t.role = 2 ∧ t.duty = true ∧
        t.on F.QLB_STATUS_LINK_ONLY = false ∧ t.qlb.lost = true ∧ t.qlb.handover = none)) ∧
    (∀ at_, s.boot.forwardAt = some at_ → s.forwarding = true → s.forming = true →
      (s.clk.now < at_ + s.formWaitNs → exec .formWait s = .next (settle s)) ∧
      (at_ + s.formWaitNs ≤ s.clk.now → s.partnerPresent = false → exec .formWait s = .next (settle (s.wr F.QLB_STATUS_FORMING 0).takeOver)) ∧
      (at_ + s.formWaitNs ≤ s.clk.now → s.partnerPresent = true → ∃ t : State, exec .formWait s = .next (settle t) ∧
        t.role = 3 ∧ t.duty = !s.unitB ∧ t.forming = false)) ∧
    (∀ v : Word, s.writable R.QLB_RESTART →
      (v.toNat % 65536 = 0xA55A → exec (.qlbRestart v) s = .next (settle (s.linkSend 3 .restartReq))) ∧
      (v.toNat % 65536 ≠ 0xA55A → exec (.qlbRestart v) s = .next (settle s))) ∧
    (let u := s.linkTaken 3
     s.alive = true →
      (s.linkIsUp = false → exec .restartReq s = .next (settle s) ∧ (∀ b, exec (.restartRsp b) s = .next (settle s)) ∧
        exec .dutyTaken s = .next (settle s)) ∧
      (s.linkIsUp = true →
        (u.on F.QLB_CTRL_ACCEPT_RESTART = true →
            u.duty = false ∨ (u.mirroring = true ∧ ∃ h, u.qlb.hb = some h ∧ h.role = 1) → exec .restartReq s = .next (settle
          { u.linkSend 3 (.restartRsp true) with flt := { (u.linkSend 3 (.restartRsp true)).flt with due := 2 } })) ∧
        (u.on F.QLB_CTRL_ACCEPT_RESTART = false ∨
            (u.duty = true ∧ (u.mirroring = false ∨ ∀ h, u.qlb.hb = some h → h.role ≠ 1)) → exec .restartReq s = .next (settle (u.linkSend 3 (.restartRsp false)))) ∧
        exec (.restartRsp true) s = .next (settle u) ∧ exec (.restartRsp false) s = .next (settle (u.raise 0x0E09 0)) ∧
        (∀ e, (u.mirroring = true → u.role = 1 →
            exec (.dutyOffer e) s = .next (settle (u.setQlb { u.qlb with handover := some ⟨e, false, false, false⟩ }))) ∧
          (u.mirroring = false ∨ u.role ≠ 1 → exec (.dutyOffer e) s = .next (settle u))) ∧
        (u.qlb.handover = none → exec .dutyTaken s = .next (settle u)) ∧
        (∀ h, u.qlb.handover = some h →
          let w := u.setQlb { u.qlb with handover := none }
          (h.giver = false → exec .dutyTaken s = .next (settle ((w.setRole 0 true).linkSend 3 .dutyTaken))) ∧
          (h.giver = true → h.restart = false ∨ s.duty = true → exec .dutyTaken s = .next (settle w)) ∧
          (h.giver = true → h.restart = true → s.duty = false →
            exec .dutyTaken s = .next (settle { w with flt := { w.flt with due := 1 } }))))) ∧
    (∀ v : Word, s.writable R.QLB_HANDOVER →
      (v.toNat.testBit 0 = false ∨ s.role ≠ 0 ∨ s.qlb.handover.isSome = true ∨ s.mirroring = false → exec (.qlbHandover v) s = .next (settle s)) ∧
      (v.toNat.testBit 0 = true → s.role = 0 → s.qlb.handover = none → s.mirroring = true →
        exec (.qlbHandover v) s = .next (settle
          ((s.setQlb { s.qlb with handover := some ⟨s.clk.esi + 96, true, false, false⟩ }).linkSend 3 (.dutyOffer (s.clk.esi + 96))))))

/-- Messages of the partner apply while the pair mirrors: With the link down no message of the partner has an effect. With the link
up each is counted as a taken frame, and a lease message always applies, a comparison report never does more. While the pair
mirrors the audio, CAN, serial, sleep and synchronisation messages apply; otherwise only the elements, changes and sets of a
mirror sync do, in the unit without duty whose partner's vintage agrees, after that unit has discarded its own. A frame enters
the receive side of P27 with its metadata. A mirrored CAN or serial element goes behind what its ring holds, or is counted
where firmware's partner owns the ring. A message that has waited more than 100 microseconds is discarded, counted and
reported. (R25, R144, R407, R434, R437, R480, R531, R553, R566, R567, R568, Table 13-6 of 13_the_pair.md) -/
def Obligations.MirrorMessagesApply : Prop :=
  ∀ s : State, s.alive = true →
    (s.linkIsUp = false →
      (∀ c, exec (.audChange c) s = .next (settle s)) ∧ (∀ p k l, exec (.liFrame p k l) s = .next (settle s)) ∧
      (∀ t b c, exec (.twinDigest t b c) s = .next (settle s)) ∧ (∀ p k, exec (.tdmCmp p k) s = .next (settle s)) ∧
      (∀ n k e, exec (.canAppend n k e) s = .next (settle s)) ∧ (∀ n k, exec (.canFlush n k) s = .next (settle s)) ∧
      (∀ n k t i, exec (.canCancel n k t i) s = .next (settle s)) ∧ (∀ n e, exec (.serAppend n e) s = .next (settle s)) ∧
      (∀ n, exec (.serFlush n) s = .next (settle s)) ∧ (∀ i m, exec (.lease i m) s = .next (settle s)) ∧
      (∀ m, exec (.wakState m) s = .next (settle s)) ∧ (∀ a, exec (.audSync a) s = .next (settle s)) ∧
      (∀ f, exec (.frame f) s = .next (settle s))) ∧
    (s.linkIsUp = true →
      let u := s.linkTaken 3
      (∀ p k, exec (.tdmCmp p k) s = .next (settle u)) ∧ (∀ i m, exec (.lease i m) s = .next (settle (u.leaseMsg i m))) ∧
      (∀ f : PairFrame, ∃ (t : State) (r : RxFrame), exec (.frame f) s = .next (settle t) ∧
        (t.port 27).inq = (s.port 27).inq ++ [r] ∧ r.bytes = f.bytes ∧ r.vid = f.vid ∧ r.pcp = f.pcp ∧ r.colour = f.colour ∧ r.sc = f.sc ∧
        (∀ p, p ≠ 27 → t.port p = s.port p) ∧ t.mem = s.mem ∧ t.tables = s.tables) ∧
      (u.mirroring = true →
        (∀ c, exec (.audChange c) s = .next (settle (u.audChange c))) ∧
        (∀ p k l, exec (.liFrame p k l) s = .next (settle (u.liFrame p k l))) ∧
        (∀ t b c, exec (.twinDigest t b c) s = .next (settle (u.twinDigest t b c.toNat))) ∧
        (∀ n k e, exec (.canAppend n k e) s = .next (settle (u.canAppend n k e))) ∧
        (∀ n k, exec (.canFlush n k) s = .next (settle (u.flushRing n k))) ∧
        (∀ n k t i, exec (.canCancel n k t i) s = .next (settle (u.canCancel n k t.toNat i.toNat))) ∧
        (∀ n e, exec (.serAppend n e) s = .next (settle (u.serAppend n e))) ∧
        (∀ n, exec (.serFlush n) s = .next (settle (u.serFlush n))) ∧
        (∀ m, exec (.wakState m) s = .next (settle (u.wakMessage m))) ∧
        (∀ a, exec (.audSync a) s = .next (settle ((u.audSync a).wr F.QLB_STATUS_MIRRORING 1)))) ∧
      (u.mirroring = false →
        (∀ p k l, exec (.liFrame p k l) s = .next (settle u)) ∧ (∀ t b c, exec (.twinDigest t b c) s = .next (settle u)) ∧
        (∀ n k, exec (.canFlush n k) s = .next (settle u)) ∧ (∀ n k t i, exec (.canCancel n k t i) s = .next (settle u)) ∧
        (∀ n, exec (.serFlush n) s = .next (settle u)) ∧ (∀ m, exec (.wakState m) s = .next (settle u)) ∧
        (u.duty = true ∨ u.qlb.hb = none ∨ (∃ h, u.qlb.hb = some h ∧ u.hbAgrees h = false) →
          (∀ c, exec (.audChange c) s = .next (settle u)) ∧ (∀ n k e, exec (.canAppend n k e) s = .next (settle u)) ∧
          (∀ n e, exec (.serAppend n e) s = .next (settle u)) ∧ (∀ a, exec (.audSync a) s = .next (settle u))) ∧
        (∀ h, u.duty = false → u.qlb.hb = some h → u.hbAgrees h = true →
          let w := u.clearForSync
          (∀ c, exec (.audChange c) s = .next (settle (w.audChange c))) ∧
          (∀ n k e, exec (.canAppend n k e) s = .next (settle (w.canAppend n k e))) ∧
          (∀ n e, exec (.serAppend n e) s = .next (settle (w.serAppend n e))) ∧
          (∀ a, exec (.audSync a) s = .next (settle ((w.audSync a).wr F.QLB_STATUS_MIRRORING 1))) ∧
          (s.qlb.mirrorSync = false → w.aud.queue = [] ∧ w.qlb.mirrorSync = true)))) ∧
    (∀ (n : Fin 16) (k : Fin 3) (e : List Byte),
      (s.fqOwner n k ≠ 0 → s.canAppend n k e = s.inc (C.CAN_FQ_OWNER n)) ∧
      (s.fqOwner n k = 0 → s.ringSize n k < s.ringFill n k + e.length → s.canAppend n k e = s.inc (C.CAN_FQ_FULL n)) ∧
      (s.fqOwner n k = 0 → s.ringFill n k + e.length ≤ s.ringSize n k →
        (s.canAppend n k e).ringFill n k = s.ringFill n k + e.length) ∧
      (s.canTb n k = none → (s.flushRing n k).ringFill n k = 0)) ∧
    (∀ (n : Fin 8) (e : List Byte), s.serOwner n = 0 → (s.serC n).txFill + e.length ≤ 2048 →
      ((s.serAppend n e).serC n).txFill = (s.serC n).txFill + e.length) ∧
    (∀ (i : Fin 48) (g : Nat), (s.isHome = false → s.leaseMsg i .request = s) ∧ s.leaseMsg i (.ceiling g) = s.setCeil i g) ∧
    (let late := s.qlb.waiting.filter (fun w => w.vc == 3 && decide (w.since + 100000 < s.clk.now))
     (late = [] → exec .mirrorLost s = .next (settle s)) ∧
     exec .mirrorLost s = .next (settle (late.foldl (fun s _ => (s.inc C.QLB_MIRROR_LOST).raise 0x0E07 0)
       (s.setQlb { s.qlb with waiting := s.qlb.waiting.filter (fun w => !(w.vc == 3 && decide (w.since + 100000 < s.clk.now))) }))))

/-- Bridge requests, answers, and the accesses of an engine: A unit that hears the partner reads its system SRAM and its AON SRAM
for it and writes its system SRAM, and answers every other address DENIED and counts it; a malformed size is answered 2, and a
unit before step 12 answers 1. Unit A grants a free semaphore to unit B, answers a held one BUSY, and takes back what unit B
releases. An answer that matches an open request completes it: a good read gives its engine the data (and its reservation), a
failed one a bus error, a failed write a far error; a BUSY request waits to be sent again after 1 microsecond, and an open
request that is older than BRIDGE_TIMEOUT fails; an answer that matches none changes nothing more. An engine that does not run
or waits does nothing. Engine loads and stores act at once in system SRAM, end with a bus error where there is neither memory
nor register, and become requests in the partner window; with the link down a partner load is a bus error and a store a far
error. A fence read returns and clears the count of failed writes once none is open. LR reserves a word, SC writes only while
the reservation stands and drops it, AMO returns the old word, and an unaligned atomic access is a bus error. (R56, R569, R570,
R571, R572, R573, R574, R577, R578, R579, R631, R633) -/
def Obligations.BridgeServesBothUnits : Prop :=
  ∀ s : State,
    (∀ (tag : Fin 32) (size : Byte) (addr : Word), let u := s.linkTaken 0
      (s.alive = true → s.bridgeHears = false → exec (.bridgeRead tag size addr) s = .next (settle s)) ∧
      (s.bridgeHears = true →
        (s.forwarding = false → exec (.bridgeRead tag size addr) s = .next (settle (u.respond 0x81 tag 1 0))) ∧
        (s.forwarding = true → sizeOk size.toNat = false → exec (.bridgeRead tag size addr) s = .next (settle (u.respond 0x81 tag 2 0))) ∧
        (s.forwarding = true → sizeOk size.toNat = true →
          (inSram addr.toNat size.toNat = true → exec (.bridgeRead tag size addr) s = .next (settle
            (u.respond 0x81 tag 0 (leNat (getBytes s.byte addr.toNat size.toNat))))) ∧
          (0x18000000 ≤ addr.toNat → addr.toNat + size.toNat ≤ 0x18020000 → exec (.bridgeRead tag size addr) s = .next (settle
            (u.respond 0x81 tag 0 (leNat (getBytes s.byte addr.toNat size.toNat))))) ∧
          (inSram addr.toNat size.toNat = false → addr.toNat < 0x18000000 ∨ 0x18020000 < addr.toNat + size.toNat →
            exec (.bridgeRead tag size addr) s = .next (settle ((u.inc C.QLB_DENIED_IN).respond 0x81 tag 3 0)))))) ∧
    (∀ (tag : Fin 64) (size : Byte) (addr data : Word), let u := s.linkTaken 0
      (s.bridgeHears = false → exec (.bridgeWrite tag size addr data) s = .next (settle s)) ∧
      (s.bridgeHears = true → s.forwarding = false → exec (.bridgeWrite tag size addr data) s = .next (settle (u.respond 0x82 tag 1 0))) ∧
      (s.bridgeHears = true → s.forwarding = true → sizeOk size.toNat = false →
        exec (.bridgeWrite tag size addr data) s = .next (settle (u.respond 0x82 tag 2 0))) ∧
      (s.bridgeHears = true → s.forwarding = true → sizeOk size.toNat = true →
        (inSram addr.toNat size.toNat = true → exec (.bridgeWrite tag size addr data) s = .next (settle
          ((u.store addr.toNat (leBytes size.toNat data.toNat)).respond 0x82 tag 0 0)) ∧
          (∀ a, a < addr.toNat ∨ addr.toNat + size.toNat ≤ a →
            ((u.store addr.toNat (leBytes size.toNat data.toNat)).respond 0x82 tag 0 0).byte a = s.byte a)) ∧
        (inSram addr.toNat size.toNat = false → ∃ t : State, exec (.bridgeWrite tag size addr data) s = .next (settle t) ∧ t.mem = s.mem ∧
          t = (u.inc C.QLB_DENIED_IN).respond 0x82 tag 3 0))) ∧
    (∀ tag sem : Fin 32, let u := s.linkTaken 0
      (s.bridgeHears = false ∨ s.unitB = true →
        exec (.semAcq tag sem) s = .next (settle s) ∧ exec (.semRel tag sem) s = .next (settle s)) ∧
      (s.bridgeHears = true → s.unitB = false → s.forwarding = false →
        exec (.semAcq tag sem) s = .next (settle (u.respond 0x83 tag 1 0)) ∧ exec (.semRel tag sem) s = .next (settle (u.respond 0x83 tag 1 0))) ∧
      (s.bridgeHears = true → s.unitB = false → s.forwarding = true →
        ((u.regN R.QLB_SEM_HELD).testBit sem = true → exec (.semAcq tag sem) s = .next (settle (u.respond 0x83 tag 4 0))) ∧
        ((u.regN R.QLB_SEM_HELD).testBit sem = false → exec (.semAcq tag sem) s = .next (settle
          (((u.setHeld sem true).setQlb { u.qlb with semPartner := u.qlb.semPartner ++ [sem.val] }).respond 0x83 tag 0 0))) ∧
        (u.qlb.semPartner.contains sem.val = true → exec (.semRel tag sem) s = .next (settle
          ((((u.setHeld sem false).setQlb { u.qlb with semPartner := u.qlb.semPartner.filter (fun x => x != sem.val) }).respond
            0x83 tag 0 0).takeSems 16))) ∧
        (u.qlb.semPartner.contains sem.val = false →
          exec (.semRel tag sem) s = .next (settle ((u.respond 0x83 tag 0 0).takeSems 16))))) ∧
    (∀ (tag : Fin 32) (status : Fin 5) (data : Word), let u := s.linkTaken 1
      s.alive = true →
        (s.linkIsUp = false → exec (.readRsp tag status data) s = .next (settle s) ∧ exec (.semRsp tag status) s = .next (settle s)) ∧
        (s.linkIsUp = true →
          (u.qlb.open_.find? (fun r => r.tag == tag.val && r.kind == 1) = none → exec (.readRsp tag status data) s = .next (settle u)) ∧
          (∀ r, u.qlb.open_.find? (fun r => r.tag == tag.val && r.kind == 1) = some r → r.guarded = false →
            (status = 0 → r.reserve = false → exec (.readRsp tag status data) s = .next (settle
              ((u.dropReq r).setRdata r.engine (data.toNat % 2 ^ (8 * r.size))).bridgeGoesOn)) ∧
            (status = 0 → r.reserve = true →
              let w := (u.dropReq r).setRdata r.engine (data.toNat % 2 ^ (8 * r.size))
              exec (.readRsp tag status data) s = .next (settle
                (w.setQlb { w.qlb with guardLr := sput none r.engine (some (0x40000000 + r.addr, data.toNat)) w.qlb.guardLr }).bridgeGoesOn)) ∧
            (status ≠ 0 → exec (.readRsp tag status data) s = .next (settle
              ((u.dropReq r).readFails r.engine r.addr status).bridgeGoesOn))) ∧
          (u.qlb.open_.find? (fun r => r.tag == tag.val && decide (3 ≤ r.kind)) = none → exec (.semRsp tag status) s = .next (settle u)) ∧
          (∀ r g, u.qlb.open_.find? (fun r => r.tag == tag.val && decide (3 ≤ r.kind)) = some r → u.guardOf r.engine = some g →
            (r.kind = 4 → exec (.semRsp tag status) s = .next (settle ((u.dropReq r).guardEnds r.engine g).bridgeGoesOn)) ∧
            (r.kind = 3 → status ≠ 0 → status ≠ 4 →
              exec (.semRsp tag status) s = .next (settle ((u.dropReq r).guardFails r.engine g status).bridgeGoesOn)) ∧
            (r.kind = 3 → status = 0 →
              let x := (u.dropReq r).guardGranted r.engine g
              exec (.semRsp tag status) s = .next (settle
                (match x.2 with | none => x.1 | some g' => x.1.guardRelease r.engine g').bridgeGoesOn))) ∧
          (∀ r, u.qlb.open_.find? (fun r => r.tag == tag.val && decide (3 ≤ r.kind)) = some r → r.kind = 3 → status = 4 →
            exec (.semRsp tag status) s = .next (settle ((u.dropReq r).setQlb
              { (u.dropReq r).qlb with open_ := (u.dropReq r).qlb.open_ ++ [{ r with since := s.clk.now, data := 1 }] }))))) ∧
    (∀ (tag : Fin 64) (status : Fin 5), s.linkIsUp = false → exec (.writeAck tag status) s = .next (settle s)) ∧
    (∀ (tag : Fin 64) (status : Fin 5), let u := s.linkTaken 1
      s.alive = true → s.linkIsUp = true → u.qlb.open_.find? (fun r => r.tag == tag.val && r.kind == 2) = none →
        exec (.writeAck tag status) s = .next (settle u)) ∧
    (∀ (tag : Fin 64) (status : Fin 5) r, let u := s.linkTaken 1
      s.alive = true → s.linkIsUp = true → u.qlb.open_.find? (fun r => r.tag == tag.val && r.kind == 2) = some r → r.guarded = false →
        (status = 0 → exec (.writeAck tag status) s = .next (settle (u.dropReq r).bridgeGoesOn)) ∧
        (status ≠ 0 → exec (.writeAck tag status) s = .next (settle
          ((u.dropReq r).farError r.engine r.addr status false).bridgeGoesOn))) ∧
    (∀ tag : Fin 32, s.qlb.open_.find? (fun r => r.tag == tag.val && r.kind == 3 && r.data == 1) = none →
      exec (.semRetry tag) s = .next (settle s)) ∧
    (∀ tag : Fin 64, s.qlb.open_.find? (fun r => r.tag == tag.val) = none → exec (.bridgeTimeout tag) s = .next (settle s)) ∧
    (∀ (tag : Fin 32) r, s.alive = true → s.qlb.open_.find? (fun r => r.tag == tag.val && r.kind == 3 && r.data == 1) = some r →
      (s.linkIsUp = true → r.since + 1000 ≤ s.clk.now →
        exec (.semRetry tag) s = .next (settle (((s.dropReq r).issue { r with data := 0 }).inc C.QLB_SEM_RETRIES))) ∧
      (s.clk.now < r.since + 1000 → exec (.semRetry tag) s = .next (settle s))) ∧
    (∀ (tag : Fin 64) r, s.alive = true → s.qlb.open_.find? (fun r => r.tag == tag.val) = some r → r.guarded = false →
      let ns := (if s.rd F.QLB_BRIDGE_BRIDGE_TIMEOUT = 0 then 100 else s.rd F.QLB_BRIDGE_BRIDGE_TIMEOUT) * 1000
      (s.clk.now < r.since + ns → exec (.bridgeTimeout tag) s = .next (settle s)) ∧
      (r.since + ns ≤ s.clk.now → r.kind = 1 → exec (.bridgeTimeout tag) s = .next (settle
        ((s.dropReq r).readFails r.engine r.addr 6).bridgeGoesOn)) ∧
      (r.since + ns ≤ s.clk.now → r.kind = 2 → exec (.bridgeTimeout tag) s = .next (settle
        ((s.dropReq r).farError r.engine r.addr 6 false).bridgeGoesOn))) ∧
    (∀ (e f : Fin 8) (op : AmoOp) (size : Byte) (addr data : Word),
      (s.engineActs e = false →
        exec (.partnerWindowLoad e addr size) s = .next (settle s) ∧ exec (.partnerWindowStore e addr data size) s = .next (settle s) ∧
        exec (.qlbFence e f) s = .next (settle s) ∧ exec (.lr e addr) s = .next (settle s) ∧ exec (.sc e addr data) s = .next (settle s) ∧
        exec (.amo e op addr data) s = .next (settle s)) ∧
      (s.engineActs e = true →
        (sizeOk size.toNat = true → span addr.toNat size.toNat = .sram →
          exec (.partnerWindowLoad e addr size) s = .next (settle (s.setRdata e (leNat (getBytes s.byte addr.toNat size.toNat)))) ∧
          exec (.partnerWindowStore e addr data size) s = .next (settle (s.store addr.toNat (leBytes size.toNat data.toNat)))) ∧
        (sizeOk size.toNat = true → span addr.toNat size.toNat = .partner → s.linkIsUp = false →
          exec (.partnerWindowLoad e addr size) s = .next (settle (s.readFails e (addr.toNat - 0x40000000) 5)) ∧
          exec (.partnerWindowStore e addr data size) s = .next (settle (s.farError e (addr.toNat - 0x40000000) 5 false))) ∧
        (sizeOk size.toNat = false →
          exec (.partnerWindowLoad e addr size) s = .next (settle s) ∧ exec (.partnerWindowStore e addr data size) s = .next (settle s)) ∧
        (sizeOk size.toNat = true → span addr.toNat size.toNat = .none →
          exec (.partnerWindowLoad e addr size) s = .next (settle (s.busError e addr.toNat false 1)) ∧
          exec (.partnerWindowStore e addr data size) s = .next (settle (s.busError e addr.toNat true 1))) ∧
        (sizeOk size.toNat = true → span addr.toNat size.toNat = .partner → s.linkIsUp = true →
          exec (.partnerWindowLoad e addr size) s = .next (settle
            (s.request ⟨0, 1, e, size.toNat, addr.toNat - 0x40000000, 0, 0, false, false⟩)) ∧
          exec (.partnerWindowStore e addr data size) s = .next (settle
            (s.request ⟨0, 2, e, size.toNat, addr.toNat - 0x40000000, data.toNat % 2 ^ (8 * size.toNat), 0, false, false⟩))) ∧
        (e ≠ f → exec (.qlbFence e f) s = .next (settle (s.setRdata e (s.regN (R.QLB_FENCE f))))) ∧
        (s.writesOpen e = true → exec (.qlbFence e e) s = .next (settle (s.setQlb { s.qlb with fencing := s.qlb.fencing ++ [e.val] }))) ∧
        (s.writesOpen e = false → exec (.qlbFence e e) s = .next (settle (s.fenceDone e))) ∧
        (addr.toNat % 4 ≠ 0 →
          exec (.lr e addr) s = .next (settle (s.busError e addr.toNat false 5)) ∧
          exec (.sc e addr data) s = .next (settle (s.busError e addr.toNat true 5)) ∧
          exec (.amo e op addr data) s = .next (settle (s.busError e addr.toNat true 5))) ∧
        (addr.toNat % 4 = 0 → region addr.toNat = .sram → s.ownShared addr.toNat = false →
          exec (.amo e op addr data) s = .next (settle
            ((s.storeWord addr.toNat (amoValue op (s.word addr.toNat) data.toNat)).setRdata e (s.word addr.toNat))) ∧
          (∃ t : State, exec (.lr e addr) s = .next (settle t) ∧ sget none t.eng.resv e = some addr.toNat ∧
            sget 0 t.eng.rdata e = BitVec.ofNat 32 (s.word addr.toNat) ∧ t.mem = s.mem) ∧
          (let u := { s with eng := { s.eng with resv := sput none e none s.eng.resv } }
           (sget none s.eng.resv e = some addr.toNat →
             exec (.sc e addr data) s = .next (settle ((u.storeWord addr.toNat data.toNat).setRdata e 0))) ∧
           (sget none s.eng.resv e ≠ some addr.toNat → exec (.sc e addr data) s = .next (settle (u.setRdata e 1)))))))

/-- Keep-alives, the sleep agreement, wake sources, false wakes and the throttle: A keep-alive leaves when its period has passed in
a forwarding unit. Of the received ones a wrong version is counted bad, any other feeds the census and the peers' need, and the
partner's COMMIT commits a unit without duty that does not mirror; a need not renewed leaves. NEED takes its value, and a
change is announced. A unit without need is READY after MIN_AWAKE, with duty enters PREPARE after READY_HOLD, and commits after
PREPARE_TIME; the shutdown ends, once nothing is bottled, in SLEEP with PWR_REQ low and what CAN, serial and Ethernet still
held lost. An event of an unarmed source does nothing; an armed one ends a PREPARE, is latched during the shutdown, in SLEEP
decides the wake after the dwell or waits for its end, the first to ask deciding, with its source and PWR_REQ high; an event
shorter than its filter is none. A supply good for 1 millisecond is the wake reset, one that fails for 100 returns the unit to
SLEEP; an UNBOOTABLE unit with a fail-safe time sleeps and will try again. A wake without need within WAKE_CONFIRM counts
false, and QUAR_LIMIT of them quarantine their source; a quarantine ends after QUAR_HOLD or by firmware. The throttle is
entered, timed and left after 1 millisecond at the least, more than 10 milliseconds of it ask for bottling once per 10 seconds,
and a brown-out below 675 mV makes the unit fail-silent. The crystal is judged once a second: lost at a bad second, found again
after ten good ones in a row. (R602, R603, R605, R606, R608, R609, R610, R612, R613, R621, R623, Tables 14-4 to 14-6 of
14_sleep_and_wake.md) -/
def Obligations.SleepAndWake : Prop :=
  ∀ s : State,
    (s.alive = true →
      (s.forwarding = false ∨ s.winding = true ∨ s.rd F.WAK_KA_KA_PERIOD = 0 → exec .keepAliveTx s = .next (settle s)) ∧
      (s.forwarding = true → s.winding = false → s.rd F.WAK_KA_KA_PERIOD ≠ 0 → s.on F.WAK_CTRL_CAN_KA_EN = false →
        s.wak.kaAt + s.rd F.WAK_KA_KA_PERIOD * 1000000 ≤ s.clk.now → exec .keepAliveTx s = .next (settle
          ((s.setWak { s.wak with kaAt := s.clk.now, changeDue := false }).sendKa false (s.rd F.WAK_KA_KA_PERIOD)
            (s.rd F.WAK_KA_PORTS_PORTS)))) ∧
      (s.kaq = [] → exec .keepAliveRx s = .next (settle s)) ∧
      (∀ k r, s.kaq = k :: r →
        let u := { s with kaq := r }
        let w := (u.inc C.WAK_KA_RX).censusReport (saOf k.2) (fld k.2 20 2) (fld k.2 22 8) false
        let v := if saOf k.2 = s.otp.mac then w else w.peerHeard (saOf k.2) (fld k.2 18 2)
        (fld k.2 15 1 ≠ 1 → exec .keepAliveRx s = .next (settle (u.inc C.WAK_KA_BAD))) ∧
        let commits := saOf k.2 = v.pair R.QLB_PARTNER_MAC_LO R.QLB_PARTNER_MAC_HI ∧ v.mirroring = false ∧ v.duty = false ∧
          (fld k.2 16 1).testBit 3 = true ∧ v.networkNeed = 0 ∧ (v.agreement = 1 ∨ v.agreement = 2)
        (fld k.2 15 1 = 1 → ¬ commits → exec .keepAliveRx s = .next (settle v)) ∧
        (fld k.2 15 1 = 1 → commits → exec .keepAliveRx s = .next (settle (if v.agreement = 1 then v.arming else v).commitSleep))) ∧
      (∀ key need, (s.peerHeard key need).wak.peers = s.wak.peers.filter (fun p => p.1 != key) ++ [(key, need, s.clk.now)]) ∧
      (∀ p : BitVec 48, exec (.peerNeedExpiry p) s = .next (settle (s.setWak { s.wak with
        peers := s.wak.peers.filter (fun x => !(x.1 == p.toNat && decide (x.2.2 + s.needHold < s.clk.now))) })))) ∧
    (∀ v : Word, s.writable R.WAK_NEED →
      let u := s.wr F.WAK_NEED_NEED v.toNat
      u.rd F.WAK_NEED_NEED = v.toNat % 65536 ∧
      (v.toNat % 65536 = s.rd F.WAK_NEED_NEED → exec (.needWrite v) s = .next (settle u)) ∧
      (v.toNat % 65536 ≠ s.rd F.WAK_NEED_NEED →
        exec (.needWrite v) s = .next (settle (u.setWak { u.wak with changeDue := true })))) ∧
    (∀ at_, s.boot.forwardAt = some at_ → s.alive = true → s.agreement = 0 → s.on F.WAK_CTRL_EN = true → s.networkNeed = 0 →
      (at_ + s.rd F.WAK_CONFIRM_MIN_AWAKE * secondNs ≤ s.clk.now → exec .minAwake s = .next (settle
        (if s.rd F.WAK_HOLD_READY_HOLD = 0 then (s.toAgreement 1).readyHold else s.toAgreement 1))) ∧
      (s.clk.now < at_ + s.rd F.WAK_CONFIRM_MIN_AWAKE * secondNs → exec .minAwake s = .next (settle s))) ∧
    (s.agreement ≠ 0 ∨ s.on F.WAK_CTRL_EN = false ∨ s.networkNeed ≠ 0 ∨ s.boot.forwardAt = none → exec .minAwake s = .next (settle s)) ∧
    (s.duty = false ∨ s.networkNeed ≠ 0 ∨ s.agreement ≠ 1 → exec .readyHold s = .next (settle s)) ∧
    (∀ a, a < 4 → (s.toAgreement a).agreement = a ∧ (s.toAgreement a).mem = s.mem) ∧
    (s.alive = true → s.duty = true → s.networkNeed = 0 →
      (s.agreement = 1 → s.wak.stateAt + s.rd F.WAK_HOLD_READY_HOLD * 1000000 ≤ s.clk.now →
        exec .readyHold s = .next (settle s.enterPrepare)) ∧
      (s.clk.now < s.wak.stateAt + s.rd F.WAK_HOLD_READY_HOLD * 1000000 → exec .readyHold s = .next (settle s)) ∧
      (s.agreement = 2 → s.wak.stateAt + s.rd F.WAK_HOLD_PREPARE_TIME * 1000000 ≤ s.clk.now →
        exec .sleepCommit s = .next (settle s.commitSleep)) ∧
      (s.agreement ≠ 2 → exec .sleepCommit s = .next (settle s))) ∧
    (s.commitSleep.agreement = 3 ∧ s.commitSleep.power = 2) ∧
    (s.alive = true →
      (s.power = 2 → s.flt.bottling = none → ∃ t : State, exec .sleepEntry s = .next (settle t) ∧ t.power = 3 ∧ t.boot.step = 0 ∧
        t.wak.pwrReq = false ∧ t.wak.sleepAt = s.clk.now ∧ t.on F.WAK_CAUSE_FAILSAFE = false ∧ t.mem = s.mem ∧
        t.mac = [] ∧ t.can = [] ∧ t.ser = []) ∧
      (s.power ≠ 2 ∨ s.flt.bottling ≠ none → exec .sleepEntry s = .next (settle s))) ∧
    (∀ c, c < 32 →
      (s.wak.armed.testBit c = false → s.wakeEvent c = s) ∧
      (s.wak.armed.testBit c = true →
        (s.agreement = 2 → s.wakeEvent c = (s.noteCause c).abortSleep true) ∧
        (s.agreement ≠ 2 → s.power = 2 → s.wakeEvent c = (s.noteCause c).latchWake c) ∧
        (s.agreement ≠ 2 → s.power = 3 → s.wakeEvent c =
          if s.dwellOver = true ∧ s.wak.want = none then (s.noteCause c).decideWake c
          else (s.noteCause c).setWak { s.wak with want := match s.wak.want with | some x => some x | none => some c }) ∧
        (s.agreement ≠ 2 → s.power ≠ 2 → s.power ≠ 3 → s.wakeEvent c = s.noteCause c)) ∧
      (s.on F.WAK_CAUSE_LATCHED = true → s.latchWake c = s) ∧
      (s.on F.WAK_CAUSE_LATCHED = false → (s.latchWake c).wak.want = some c ∧ (s.latchWake c).rd F.WAK_CAUSE_CAUSE = c ∧
        (s.latchWake c).on F.WAK_CAUSE_LATCHED = true) ∧
      (s.decideWake c).power = 4 ∧ (s.decideWake c).rd F.WAK_CAUSE_CAUSE = c ∧ (s.decideWake c).wak.pwrReq = true) ∧
    (s.flt.silent = false →
      (∀ us, (max 1 (s.rd F.WAK_PINS_WAKEN_FILTER) ≤ us → exec (.wakeN us) s = .next (settle (s.wakeEvent 1))) ∧
        (us < max 1 (s.rd F.WAK_PINS_WAKEN_FILTER) → exec (.wakeN us) s = .next (settle s))) ∧
      (∀ (p : Fin 4) us, (max 1 (s.rd F.WAK_PINS_SD_MIN) ≤ us → exec (.signalDetect p us) s = .next (settle (s.wakeEvent (4 + p)))) ∧
        (us < max 1 (s.rd F.WAK_PINS_SD_MIN) → exec (.signalDetect p us) s = .next (settle s))) ∧
      (∀ c : Fin 4,
        (∀ ev, s.wak.armed.testBit (16 + c) = false → exec (.canWake c ev) s = .next (settle s)) ∧
        (∀ us, s.wak.armed.testBit (16 + c) = true → s.rd (F.WAK_C_CTRL_MODE c) = 0 → max 1 (s.rd (F.WAK_C_CTRL_WUP_MIN c)) ≤ us →
          exec (.canWake c (.dominant us)) s = .next (settle (s.wakeEvent (16 + c)))) ∧
        (∀ f, s.wak.armed.testBit (16 + c) = true → s.rd (F.WAK_C_CTRL_MODE c) = 1 → f.fdf = false → f.xlf = false →
          exec (.canWake c (.frame f)) s = .next (settle ((s.setErrs c 0).wakeEvent (16 + c)))) ∧
        (∀ f, s.wak.armed.testBit (16 + c) = true → s.rd (F.WAK_C_CTRL_MODE c) ≠ 0 → s.rd (F.WAK_C_CTRL_MODE c) ≠ 1 → f.fdf = false →
          f.xlf = false → exec (.canWake c (.frame f)) s = .next (settle
            (if (s.setErrs c 0).canMatches c f then (s.setErrs c 0).wakeEvent (16 + c) else s.setErrs c 0))) ∧
        (s.wak.armed.testBit (16 + c) = true → s.rd (F.WAK_C_CTRL_MODE c) ≠ 0 →
          let n := sget 0 s.wak.errs c + 1
          exec (.canWake c .decodeError) s = .next (settle
            (if s.rd (F.WAK_C_CTRL_ERR_LIMIT c) ≠ 0 ∧ s.rd (F.WAK_C_CTRL_ERR_LIMIT c) ≤ n then (s.setErrs c n).wakeEvent (16 + c)
             else s.setErrs c n))) ∧
        (∀ f, f.fdf = true ∨ f.xlf = true → exec (.canWake c (.frame f)) s = .next (settle s))) ∧
      (∀ n : Fin 8,
        (∀ us, s.rd (F.WAK_T_CTRL_MODE n) = 0 → max 1 (s.rd (F.WAK_T_CTRL_ACT_MIN n)) ≤ us →
          exec (.t1sWake n (.carrier us)) s = .next (settle (s.wakeEvent (8 + n)))) ∧
        (∀ b, fcsOk b = false → exec (.t1sWake n (.frame b)) s = .next (settle s)) ∧
        (∀ b, fcsOk b = true → 2 ≤ s.rd (F.WAK_T_CTRL_MODE n) → exec (.t1sWake n (.frame b)) s = .next (settle
          (if s.t1sMatches n (dropFcs b) then s.wakeEvent (8 + n) else s))) ∧
        (∀ b, fcsOk b = true → s.rd (F.WAK_T_CTRL_MODE n) = 1 → exec (.t1sWake n (.frame b)) s = .next (settle (s.wakeEvent (8 + n))))) ∧
      (s.power ≠ 3 → exec .wakeTimer s = .next (settle s) ∧ exec .dwellEnd s = .next (settle s)) ∧
      (s.power = 3 → s.wak.oneOff = none → s.rd F.WAK_TIMER_WAKE_TIMER ≠ 0 →
        s.wak.sleepAt + s.rd F.WAK_TIMER_WAKE_TIMER * secondNs ≤ s.clk.now → exec .wakeTimer s = .next (settle (s.wakeEvent 2))) ∧
      (∀ t, s.power = 3 → s.wak.oneOff = some t → t ≤ s.clk.now →
        exec .wakeTimer s = .next (settle (((s.setWak { s.wak with oneOff := none }).noteCause 20).askWake 20))) ∧
      (s.power = 3 → s.dwellOver = true →
        (∀ c, s.wak.want = some c → exec .dwellEnd s = .next (settle (s.decideWake c))) ∧
        (s.wak.want = none → exec .dwellEnd s = .next (settle s))) ∧
      (s.power = 3 → s.dwellOver = false → exec .dwellEnd s = .next (settle s)) ∧
      (s.power = 4 → s.wak.pwrAt + 1000000 ≤ s.clk.now → exec .wakeSupplyGood s = .next (settle (s.afterReset 4 s.boot.pairId))) ∧
      (s.power = 4 → s.clk.now < s.wak.pwrAt + 1000000 → exec .wakeSupplyGood s = .next (settle s)) ∧
      (s.power = 4 → s.clk.now < s.wak.pwrAt + 100000000 → exec .supplyFail s = .next (settle s)) ∧
      (s.power ≠ 4 → exec .wakeSupplyGood s = .next (settle s) ∧ exec .supplyFail s = .next (settle s)) ∧
      (s.power = 4 → s.wak.pwrAt + 100000000 ≤ s.clk.now → ∃ t : State, exec .supplyFail s = .next (settle t) ∧ t.power = 3 ∧
        t.wak.pwrReq = false ∧ t.wak.supplyFailed = true) ∧
      (s.rd F.WAK_FAILSAFE_FAILSAFE_TIME = 0 → exec .failsafeSleep s = .next (settle s)) ∧
      (s.rd F.WAK_FAILSAFE_FAILSAFE_TIME ≠ 0 → s.boot.step ≠ 0 → s.rd F.CFG_STATUS_STATE = 6 → ∃ t : State,
        exec .failsafeSleep s = .next (settle t) ∧ t.power = 3 ∧ t.agreement = 3 ∧ t.boot.step = 0 ∧ t.on F.WAK_CAUSE_FAILSAFE = true ∧
        t.wak.oneOff = some (s.clk.now + s.rd F.WAK_FAILSAFE_FAILSAFE_TIME * secondNs)) ∧
      (∀ c : Fin 32, let hold := s.rd F.WAK_QUAR_QUAR_HOLD
        (hold = 0 ∨ (s.regN R.WAK_QUAR_STATUS).testBit c = false → exec (.quarantineEnd c) s = .next (settle s)) ∧
        (hold ≠ 0 → (s.regN R.WAK_QUAR_STATUS).testBit c = true → sget 0 s.wak.quarAt c + hold * 3600 ≤ s.aonSeconds →
          exec (.quarantineEnd c) s = .next (settle (s.unquarantine (2 ^ c.val))))) ∧
      (s.on F.WAK_BO_THROTTLE = true ∨ 3 ≤ s.power ∨ s.boot.step = 0 → exec .throttleEnter s = .next (settle s)) ∧
      (s.on F.WAK_BO_THROTTLE = false → s.power < 3 → s.boot.step ≠ 0 → ∃ t : State, exec .throttleEnter s = .next (settle t) ∧
        t.on F.WAK_BO_THROTTLE = true ∧ t.power = (if s.power = 0 then 1 else s.power) ∧
        t.wak.throttleAt = s.clk.now ∧ t.wak.throttles = s.clk.now :: s.recentThrottles) ∧
      (s.on F.WAK_BO_THROTTLE = false ∨ s.clk.now < s.wak.throttleAt + 1000000 → exec .throttleExit s = .next (settle s)) ∧
      (s.on F.WAK_BO_THROTTLE = true → s.wak.throttleAt + 1000000 ≤ s.clk.now → ∃ t : State,
        exec .throttleExit s = .next (settle t) ∧ t.on F.WAK_BO_THROTTLE = false ∧ t.power = (if s.power = 1 then 0 else s.power) ∧
        t.rd F.WAK_BO_LONGEST = max (s.rd F.WAK_BO_LONGEST) (min ((s.clk.now - s.wak.throttleAt) / 1000) 65535))) ∧
    (∀ v : Word, s.writable R.WAK_QUAR_CLEAR → exec (.quarClear v) s = .next (settle (s.unquarantine v.toNat))) ∧
    (∀ at_, s.alive = true → s.boot.forwardAt = some at_ →
      (s.wak.judged = true ∨ s.rd F.DEV_RESET_CAUSE_CAUSE ≠ 4 ∨ s.rd F.WAK_CONFIRM_WAKE_CONFIRM = 0 ∨
          s.clk.now < at_ + s.rd F.WAK_CONFIRM_WAKE_CONFIRM * secondNs →
        exec .falseWake s = .next (settle s)) ∧
      (let c := s.rd F.WAK_CAUSE_CAUSE
       let u := s.setWak { s.wak with judged := true }
       s.wak.judged = false → s.rd F.DEV_RESET_CAUSE_CAUSE = 4 → s.rd F.WAK_CONFIRM_WAKE_CONFIRM ≠ 0 →
          at_ + s.rd F.WAK_CONFIRM_WAKE_CONFIRM * secondNs ≤ s.clk.now →
        (c = 2 ∨ c = 20 → exec .falseWake s = .next (settle u)) ∧
        (c ≠ 2 → c ≠ 20 → s.rd F.WAK_QUAR_QUAR_LIMIT = 0 → exec .falseWake s = .next (settle
          (((u.incSat (F.WAK_FW_FW_COUNT c)).incSat (F.WAK_FW_RUN c)).raise 0x0F04 0))) ∧
        (c ≠ 2 → c ≠ 20 → s.rd F.WAK_QUAR_QUAR_LIMIT ≠ 0 →
          let w := ((u.incSat (F.WAK_FW_FW_COUNT c)).incSat (F.WAK_FW_RUN c)).raise 0x0F04 0
          let q := (w.setRegN R.WAK_QUAR_STATUS (w.regN R.WAK_QUAR_STATUS + 2 ^ c)).raise 0x0F05 0
          exec .falseWake s = .next (settle
            (if w.rd F.WAK_QUAR_QUAR_LIMIT ≤ w.rd (F.WAK_FW_RUN c) ∧ (w.regN R.WAK_QUAR_STATUS).testBit c = false then
              q.setWak { q.wak with quarAt := sput 0 c q.aonSeconds q.wak.quarAt } else w)))) ∧
      (∀ m, let l := (List.range 32).filter (fun c => m.testBit c && (s.regN R.WAK_QUAR_STATUS).testBit c)
        (s.agreement < 2 → s.unquarantine m =
          s.setRegN R.WAK_QUAR_STATUS (l.foldl (fun m c => m - 2 ^ c) (s.regN R.WAK_QUAR_STATUS))))) ∧
    (s.alive = true → s.on F.WAK_BO_THROTTLE = true → s.wak.bottleAsked = false →
      (s.clk.now ≤ s.wak.throttleAt + 10000000 → exec .throttleBottling s = .next (settle s)) ∧
      (∀ t, s.wak.throttleAt + 10000000 < s.clk.now → s.flt.throttleBottleAt = some t → s.clk.now < t + 10 * secondNs →
        exec .throttleBottling s = .next (settle ((s.setWak { s.wak with bottleAsked := true }).inc C.FLT_BOTTLES_SKIPPED))) ∧
      (s.wak.throttleAt + 10000000 < s.clk.now → s.flt.throttleBottleAt = none →
        let u := s.setWak { s.wak with bottleAsked := true }
        exec .throttleBottling s = .next (settle (({ u with flt := { u.flt with throttleBottleAt := some s.clk.now } }).beginBottling 3)))) ∧
    (∀ mv, (675 ≤ mv → exec (.brownOut mv) s = .next (settle s)) ∧
      (mv < 675 → s.boot.step ≠ 0 → ∃ t : State, exec (.brownOut mv) s = .next (settle t) ∧ t.flt.silent = true)) ∧
    (s.clk.now < s.flt.crystalAt + 1000000000 → ∀ b, exec (.crystalCheck b) s = .next (settle s)) ∧
    (let u := { s with flt := { s.flt with crystalAt := s.clk.now } }
     s.flt.crystalAt + 1000000000 ≤ s.clk.now →
      exec (.crystalCheck false) s = .next (settle u.crystalLost) ∧
      (s.on F.FLT_STATUS_CRYSTAL_LOST = false → exec (.crystalCheck true) s = .next (settle u)) ∧
      (s.on F.FLT_STATUS_CRYSTAL_LOST = true → s.flt.crystalGood < 9 → exec (.crystalCheck true) s = .next (settle
        { u with flt := { u.flt with crystalGood := s.flt.crystalGood + 1 } })) ∧
      (s.on F.FLT_STATUS_CRYSTAL_LOST = true → 9 ≤ s.flt.crystalGood → exec (.crystalCheck true) s = .next (settle
        (({ u with flt := { u.flt with crystalGood := 0 } }.wr F.FLT_STATUS_CRYSTAL_LOST 0).setRegN R.FLT_MON
          (s.regN R.FLT_MON &&& 0x1F1F)))))

/-- Watchdogs, timers, mailboxes, the event router, the P24 rings and register accesses: Only 0x5A5A restarts a watchdog, and an
expired one raises 0x1001 and makes the unit fail-silent. The timer interrupt follows MTIME and MTIMECMP; a read of a LO half
returns it and latches the HI half. A message enters a mailbox with room whole, the software interrupt of its engine pending
where ENG_IRQ_EN.MB is set, and RESULT says FULL otherwise; a read takes the oldest. The oldest event, and among those of one
instant the one with the least code, goes to the queues of the engines of its route. The rings of P24 are served in turn while
the buffer gives credit: a descriptor with a bad length ends LENGTH, one whose data lies outside the SRAM BUS_ERROR, another
hands its frame to P24; a received frame goes to its ring or is counted. A flash read waits before step 10 and otherwise
returns the bytes of the window, up to its end, or late in the shutdown a bus error of some cause. A write outside the
registers is a store, one to an unmapped register a bus error, and one to a register that the scrub set holds locked only the
bus error of an engine that runs (the writing one where the command names it, else any: log entry 2) and 0x0208; a unit in
which no firmware runs ignores register commands. (R23, R64, R632, R634, R636, R639, R641, R644, R647, R649, R651, R699) -/
def Obligations.EnginesReachTheDevice : Prop :=
  ∀ s : State,
    (∀ (e : Fin 8) (v : Word),
      (s.scrubLocked (R.ENG_WD_KICK e) = false → s.engineActs e = true →
        (v.toNat % 65536 = 0x5A5A → exec (.wdKick e v) s = .next (settle
          { s with eng := { s.eng with wdAt := sput 0 e s.clk.now s.eng.wdAt } })) ∧
        (v.toNat % 65536 ≠ 0x5A5A → exec (.wdKick e v) s = .next (settle s))) ∧
      (s.clk.now < sget 0 s.eng.wdAt e + s.wdPeriod e → exec (.watchdog e) s = .next (settle s)) ∧
      (s.alive = true → 10 ≤ s.boot.step → s.engineRuns e = true → sget 0 s.eng.wdAt e + s.wdPeriod e ≤ s.clk.now →
        exec (.watchdog e) s = .next (settle (((s.inc (C.ENG_WD_EXPIRED e)).raise 0x1001 e).failSilent 7 e)) ∧
        (((s.inc (C.ENG_WD_EXPIRED e)).raise 0x1001 e).failSilent 7 e).flt.silent = true) ∧
      (s.alive = true → ∃ t : State, exec (.machineTimer e) s = .next (settle t) ∧
        sget false t.eng.mtip e = decide (s.mtimecmp e ≤ s.mtime) ∧ t.regs = s.regs ∧ t.mem = s.mem) ∧
      (s.engineActs e = true → exec (.mtimeLoRead e) s = .next (settle
        ((s.latchHi e 255 (s.mtime / 2 ^ 32)).setRdata e (s.mtime % 2 ^ 32)))) ∧
      (s.scrubLocked (R.ENG_MB_SEND e) = false → s.engineActs e = true →
        let d := v.toNat % 8
        let q := sget [] s.eng.mailbox d
        let m := [BitVec.ofNat 32 e, s.reg (R.ENG_MB_TXD0 e), s.reg (R.ENG_MB_TXD1 e), s.reg (R.ENG_MB_TXD2 e), s.reg (R.ENG_MB_TXD3 e)]
        (q.length < 16 → ∃ t : State, exec (.mbSend e v) s = .next (settle t) ∧ sget [] t.eng.mailbox d = q ++ [m] ∧
          (∀ k, k ≠ d → sget [] t.eng.mailbox k = sget [] s.eng.mailbox k) ∧ t.rd (F.ENG_MB_STATUS_RESULT e) = 0 ∧
          t.softwareInterrupt d = (s.rd (F.ENG_IRQ_EN_EN d)).testBit 1) ∧
        (16 ≤ q.length → exec (.mbSend e v) s = .next (settle
          ((s.wr (F.ENG_MB_STATUS_RESULT e) 1).inc (C.ENG_MB_FULL e))))) ∧
      (∀ m r, s.engineActs e = true → sget [] s.eng.mailbox e = m :: r → ∃ t : State, exec (.mailboxRead e) s = .next (settle t) ∧
        sget [] t.eng.mailbox e = r ∧ t.mem = s.mem) ∧
      (s.writable (R.ENG_TXR_PUT e) → exec (.txrPut e v) s = .next (settle (s.wr (F.ENG_TXR_PUT_PUT e) v.toNat))) ∧
      (s.alive = true → s.txrNext ≠ some e.val ∨ s.creditHeld 24 = true → exec (.txDescriptor e) s = .next (settle s)) ∧
      (s.alive = true → s.txrNext = some e.val → s.creditHeld 24 = false →
        let a := s.regN (R.ENG_TXR_BASE e) + (s.rd (F.ENG_TXR_GET_GET e) % s.txrLen e) * 64
        let len := bits (s.descWord a 1) 0 14
        (len < 14 ∨ 9212 < len → exec (.txDescriptor e) s = .next (settle (s.txrEnd e a 1))) ∧
        (14 ≤ len → len ≤ 9212 → inSram (s.descWord a 0) len = false → exec (.txDescriptor e) s = .next (settle (s.txrEnd e a 2))) ∧
        (14 ≤ len → len ≤ 9212 → inSram (s.descWord a 0) len = true → exec (.txDescriptor e) s = .next (settle
          ((s.modPort 24 (fun m => { m with inq := m.inq ++
            [{ s.descFrame a len with stpid := s.rd F.MAC_S_TPID_TPID }] })).txrEnd e a 0)))) ∧
      (s.txrNext = some e.val ↔ ∃ i, i < 8 ∧ e.val = (s.eng.turn + i) % 8 ∧ s.txrWaits e = true ∧
        ∀ j, j < i → s.txrWaits ((s.eng.turn + j) % 8) = false) ∧
      (∀ (addr : Word) (size : Byte),
        (s.boot.step < 10 ∨ s.engineActs e = false ∨ sizeOk size.toNat = false ∨ region addr.toNat ≠ .flash →
          exec (.flashWindowRead e addr size) s = .next (settle s)) ∧
        (s.engineActs e = true → sizeOk size.toNat = true → region addr.toNat = .flash →
          (s.power ≠ 2 ∨ s.clk.now < s.wak.stateAt + 180000000 →
            (addr.toNat + size.toNat ≤ 0x34000000 → exec (.flashWindowRead e addr size) s = .next (settle
              (s.setRdata e (leNat (getBytes s.windowByte (addr.toNat - 0x30000000) size.toNat))))) ∧
            (0x34000000 < addr.toNat + size.toNat → exec (.flashWindowRead e addr size) s = .next (settle (s.busError e addr.toNat false 1)))) ∧
          (s.power = 2 → s.wak.stateAt + 180000000 ≤ s.clk.now →
            exec (.flashWindowRead e addr size) s = .next (settle (s.drawFree.2.busError e addr.toNat false (s.drawFree.1 % 8)))))) ∧
      (∀ o, o < 0x03090000 ∨ 0x030D0000 ≤ o → s.windowByte o = sget 0xFF s.flash o) ∧
      (∀ addr : Word, s.engineActs e = true →
        (chainedLo addr.toNat = false → exec (.counterLoRead e addr) s = .next (settle s)) ∧
        (chainedLo addr.toNat = true → ∃ t : State, exec (.counterLoRead e addr) s = .next (settle t) ∧
          sget 0 t.eng.rdata e = s.reg addr.toNat ∧
          sget 0 t.eng.latch (e * 256 + addr.toNat / 0x100000 % 256) = s.reg (addr.toNat + 4) ∧ t.regs = s.regs)) ∧
      (∀ addr : Word, s.engineActs e = true → region addr.toNat ≠ .regs →
        exec (.registerWrite e addr v) s = .next (settle (s.engineStore e addr.toNat v.toNat 4))) ∧
      (∀ addr : Word, s.engineActs e = true → region addr.toNat = .regs →
        (mapped e addr.toNat = false → exec (.registerWrite e addr v) s = .next (settle (s.busError e addr.toNat true 1))) ∧
        (mapped e addr.toNat = true → s.scrubLocked addr.toNat = true →
          exec (.registerWrite e addr v) s = .next (settle ((s.busError e addr.toNat true 3).raise 0x0208 addr.toNat))) ∧
        (mapped e addr.toNat = true → s.scrubLocked addr.toNat = false →
          exec (.registerWrite e addr v) s = .next (settle (s.regEffect e addr.toNat v.toNat)))) ∧
      (∀ addr : Word, s.engineActs e = false → exec (.registerWrite e addr v) s = .next (settle s))) ∧
    (s.alive = true →
      (s.evq = [] → exec .eventRoute s = .next (settle s)) ∧
      (∀ ev, routedNext s.evq = some ev → exec .eventRoute s = .next (settle
        ((List.range 8).foldl (fun u e => if (s.rd (F.ENG_ROUTE_ENGINES (routeEntry ev.code))).testBit e then u.queueEvent ev e else u)
          { s with evq := s.evq.erase ev }))) ∧
      (∀ v r, s.evq = v :: r → ∃ w, routedNext s.evq = some w ∧ w ∈ s.evq ∧ w.ns = v.ns ∧ w.sec = v.sec ∧
        ∀ x ∈ s.evq, x.ns = v.ns → x.sec = v.sec → w.code ≤ x.code) ∧
      (s.out24 = [] → exec .rxrFrame s = .next (settle s)) ∧
      (∀ p rest, s.out24 = p :: rest →
        let u := { s with out24 := rest }
        let q := s.rd (F.ENG_P24_STEER_RING p.cls)
        let a := s.regN (R.ENG_RXR_BASE q) + s.rd (F.ENG_RXR_GET_GET q) % s.rxrLen q * 32
        (s.rxrLen q = 0 ∨ s.rd (F.ENG_RXR_GET_GET q) % s.rxrLen q = s.rd (F.ENG_RXR_PUT_PUT q) % s.rxrLen q → exec .rxrFrame s = .next (settle ((u.inc (C.ENG_RXR_NO_DESC q)).raiseOnce 0x1002 0))) ∧
        (s.rxrLen q ≠ 0 → s.rd (F.ENG_RXR_GET_GET q) % s.rxrLen q ≠ s.rd (F.ENG_RXR_PUT_PUT q) % s.rxrLen q →
          (bits (s.descWord a 1) 0 14 < p.data.length ∨ inSram (s.word a) p.data.length = false → exec .rxrFrame s = .next (settle (u.inc (C.ENG_RXR_TOOBIG q)))) ∧
          (p.data.length ≤ bits (s.descWord a 1) 0 14 → inSram (s.word a) p.data.length = true →
            exec .rxrFrame s = .next (settle (u.rxrStore q a p)))))) ∧
    (∀ v : Word,
      (let d := s.drawFree
       let e := nth 0 s.runningEngines (d.1 % s.runningEngines.length)
       s.firmwareRuns = true →
        (s.scrubLocked R.WAK_NEED = true → exec (.needWrite v) s = .next (settle (d.2.scrubDenied e R.WAK_NEED))) ∧
        (s.scrubLocked R.CPH_CTRL = true → exec (.pairEnWrite v) s = .next (settle (d.2.scrubDenied e R.CPH_CTRL))) ∧
        (s.scrubLocked R.CNT_HARVEST = true → exec (.harvestPeriodWrite v) s = .next (settle (d.2.scrubDenied e R.CNT_HARVEST)) ∧
          exec (.harvestStart v) s = .next (settle (d.2.scrubDenied e R.CNT_HARVEST))) ∧
        (∀ n : Fin 8, s.scrubLocked (R.SER_BAUD n) = true →
          exec (.serBaudWrite n v) s = .next (settle (d.2.scrubDenied e (R.SER_BAUD n)))) ∧ s.engineRuns e = true) ∧
      (∀ e a, s.scrubDenied e a = (s.busError e a true 3).raise 0x0208 a) ∧
      (s.firmwareRuns = false → exec (.needWrite v) s = .next (settle s) ∧ exec (.keyErase v) s = .next (settle s) ∧
        exec (.qlbRestart v) s = .next (settle s) ∧ exec (.harvestStart v) s = .next (settle s)))

/-- Fail-silence, restarts, the cellar, debug, the temperature, the harvest and the slot counters: A lockstep difference of a
running engine, an uncorrectable word elsewhere, and a clock or rail out of range make the unit fail-silent with their cause; a
further detection leaves the cause as it is. A silent unit restarts unless it is halted or was opened, after a brown-out once 1
millisecond has passed, else once its bottling has ended or 200 milliseconds have. A record is written at NEXT, which then
advances modulo 4096, for every event that must be or is selected, and not twice within 1 ms for the lesser classes. A bottling
ends with its bottle programmed, or with the flash as it was. Debug opens only with its code, unlocked and allowed, silences
the unit and erases every key. The temperature, read once a millisecond, keeps its greatest value. A write of CNT_HARVEST sets
PERIOD, and with START starts a sweep when none runs; a due period starts one too; a sweep ends with its number in SWEEP and
SWEEP_END. Each FABRIC cycle of a sweep captures its next group. A FABRIC cycle without a decision counts at once as FRONT, or
as BACK where a header waits for the buffer; one in which a decision starts counts 28 cycles later as RETIRED or WASTED; TOTAL
stays the sum of the four, and a snapshot holds all five. (R629, R662, R667, R668, R676, R678, R679, R683, R690, R703, R714,
R717) -/
def Obligations.FaultsCountersAndHarvest : Prop :=
  ∀ s : State,
    (∀ e : Fin 8, (s.alive = true → s.engineRuns e = true ∨ (e = 0 ∧ s.boot.step < 11) → exec (.lockstepMismatch e) s = .next (settle (s.failSilent 1 e))) ∧
      (s.alive = false → exec (.lockstepMismatch e) s = .next (settle s))) ∧
    (∀ cause data, cause < 16 → (s.failSilent cause data).flt.silent = true ∧
      (s.flt.silent = false → (s.failSilent cause data).rd F.FLT_STATUS_LAST_FS_CAUSE = cause) ∧
      (s.flt.silent = true → (s.failSilent cause data).rd F.FLT_STATUS_LAST_FS_CAUSE = s.rd F.FLT_STATUS_LAST_FS_CAUSE ∧
        (s.failSilent cause data).regN R.FLT_FS_DATA = s.regN R.FLT_FS_DATA ∧ (s.failSilent cause data).mac = s.mac)) ∧
    (s.alive = true →
      (∀ c, exec (.backgroundScrub none c) s = .next (settle (s.inc C.FLT_SCRUB_PASSES))) ∧
      (∀ p, exec (.backgroundScrub (some p) true) s = .next (settle ((s.inc C.FLT_ECC_CORRECTED).detect 0 (eccBlock p)))) ∧
      (∀ b w, exec (.backgroundScrub (some (.other b w)) false) s = .next (settle (s.eccFatal b.toNat w.toNat)))) ∧
    (s.boot.step ≠ 0 →
      exec (.supplyMonitor 0 false) s = .next (settle s.throttleEnter) ∧
      (∀ (rail : Fin 5) (h : Bool), ¬ (rail = 0 ∧ h = false) → ¬ (rail = 4 ∧ h = false) → exec (.supplyMonitor rail h) s = .next (settle
        ((s.setRegN R.FLT_MON (s.regN R.FLT_MON ||| 2 ^ (8 + rail.val))).failSilent 3 rail)))) ∧
    exec (.supplyMonitor 4 false) s = .next (settle (s.coldReset s.boot.pairId s.boot.testEn)) ∧
    (∀ c : Fin 6, c ≠ 5 → 3 ≤ s.boot.step →
      exec (.clockMonitor c) s = .next (settle ((s.setRegN R.FLT_MON (s.regN R.FLT_MON ||| 2 ^ c.val)).failSilent 2 c))) ∧
    exec (.clockMonitor 5) s = .next (settle (s.setRegN R.FLT_MON (s.regN R.FLT_MON ||| 32)).crystalLost) ∧
    (∀ b, (s.flt.silent = false ∨ s.flt.halted = true ∨ s.rd F.FLT_STATUS_LAST_FS_CAUSE = 10 ∨ s.flt.dbgStage ≠ 0 →
        exec (.faultRestart b) s = .next (settle s)) ∧
      (s.flt.silent = true → s.flt.halted = false → s.rd F.FLT_STATUS_LAST_FS_CAUSE ≠ 10 → s.flt.dbgStage = 0 →
        (if s.rd F.FLT_STATUS_LAST_FS_CAUSE = 11 then s.clk.now < s.flt.silentAt + 1000000
          else s.flt.bottling.isSome = true ∧ s.clk.now < s.flt.silentAt + 200000000) → exec (.faultRestart b) s = .next (settle s)) ∧
      (s.flt.silent = true → s.flt.halted = false → s.rd F.FLT_STATUS_LAST_FS_CAUSE ≠ 10 → s.flt.dbgStage = 0 →
        (if s.rd F.FLT_STATUS_LAST_FS_CAUSE = 11 then s.flt.silentAt + 1000000 ≤ s.clk.now
          else s.flt.bottling = none ∨ s.flt.silentAt + 200000000 ≤ s.clk.now) →
        exec (.faultRestart b) s = .next (settle
          (({ s with flt := { s.flt with restarts := s.aonSeconds :: s.flt.restarts } }).afterReset 3 b)))) ∧
    (s.fltq = [] → exec .cellarRecord s = .next (settle s)) ∧
    (∀ ev r, s.fltq = ev :: r →
      let u := { s with fltq := r }
      (s.recorded ev = false → exec .cellarRecord s = .next (settle u)) ∧
      (s.recorded ev = true → ev.cls < 2 → s.recentRecord ev.code = true →
        exec .cellarRecord s = .next (settle (u.inc C.FLT_CELLAR_SUPPRESSED))) ∧
      (s.recorded ev = true → 2 ≤ ev.cls ∨ s.recentRecord ev.code = false → exec .cellarRecord s = .next (settle (u.writeRecord ev)) ∧
        (u.writeRecord ev).rd F.FLT_CELLAR_HEAD_NEXT = (s.rd F.FLT_CELLAR_HEAD_NEXT + 1) % 4096 ∧
        (∀ a, a < 0x18000000 + s.rd F.FLT_CELLAR_HEAD_NEXT * 32 ∨ 0x18000000 + s.rd F.FLT_CELLAR_HEAD_NEXT * 32 + 32 ≤ a →
          (u.writeRecord ev).byte a = s.byte a))) ∧
    (∀ (e : Fin 8) (v : Word), s.engineActs e = true → s.scrubLocked R.FLT_LOG_CMD = false →
      (v.toNat % 65536 < 0x1080 ∨ 0x10FF < v.toNat % 65536 → exec (.fltLogCmd e v) s = .next (settle s)) ∧
      (0x1080 ≤ v.toNat % 65536 → v.toNat % 65536 ≤ 0x10FF → exec (.fltLogCmd e v) s = .next (settle { s with fltq := s.fltq ++
        [s.event (v.toNat % 65536) (s.regN (R.FLT_LOG_DATA0 e)) 0 (s.regN (R.FLT_LOG_DATA1 e)) (s.regN (R.FLT_LOG_DATA2 e)) true] }))) ∧
    (∀ ok, s.flt.bottling = none → exec (.bottled ok) s = .next (settle s)) ∧
    (∀ b, s.flt.bottling = some b →
      let u := ({ s with flt := { s.flt with bottling := none } }.wr F.FLT_STATUS_BOTTLING 0).keepThrottles
      (∃ t : State, exec (.bottled true) s = .next (settle t) ∧ t.flt.bottling = none ∧
        t.flash = (u.program (bottleBase b.bottle) (u.bottleBytes b)).flash ∧ t.mem = s.mem) ∧
      (∃ t : State, exec (.bottled false) s = .next (settle t) ∧ t.flt.bottling = none ∧ t.flash = s.flash ∧ t.mem = s.mem)) ∧
    (∀ code : BitVec 16, let n := code.toNat
      (n ≠ 0x0DB6 → exec (.debugOpen code) s = .next (settle s)) ∧
      (n = 0x0DB6 → s.flt.dbgStage = 0 → 3 ≤ s.boot.step →
        (s.otp.debugLock = true ∨ s.on F.FLT_DBG_CTRL_ALLOW_OPEN = false → exec (.debugOpen code) s = .next (settle ((s.inc C.FLT_DEBUG_REFUSED).raiseMust 0x1107 0 0 0 0))) ∧
        (s.otp.debugLock = false → s.on F.FLT_DBG_CTRL_ALLOW_OPEN = true → ∃ t : State, exec (.debugOpen code) s = .next (settle t) ∧
          t.flt.silent = true ∧ t.flt.dbgStage = 1 ∧ t.qlb.key = none ∧ t.cph.jobs = [] ∧ (∀ k, k < 256 → (t.key k).loaded = false)))) ∧
    (∀ ok, s.flt.dbgStage ≠ 1 → exec (.zeroisationDone ok) s = .next (settle s)) ∧
    (s.flt.dbgStage = 1 → ∃ t : State, exec (.zeroisationDone true) s = .next (settle t) ∧ t.flt.dbgStage = 2 ∧
      t.on F.FLT_STATUS_DBG_OPEN = true) ∧
    (s.flt.dbgStage = 1 → ∃ t : State, exec (.zeroisationDone false) s = .next (settle t) ∧ t.flt.dbgStage = 3 ∧
      t.on F.FLT_STATUS_DBG_OPEN = s.on F.FLT_STATUS_DBG_OPEN) ∧
    (∀ (t : BitVec 16) at_, s.alive = true → s.boot.tempAt = some at_ → s.clk.now < at_ + 1000000 →
      exec (.devTempUpdate t) s = .next (settle s)) ∧
    (∀ t : BitVec 16, s.alive = true → (∀ at_, s.boot.tempAt = some at_ → at_ + 1000000 ≤ s.clk.now) → ∃ u : State, exec (.devTempUpdate t) s = .next (settle u) ∧ u.rd F.DEV_TEMP_TEMP = t.toNat ∧
      (s.rd F.DEV_TEMP_MAX = 0x8000 ∨ sgn 16 (s.rd F.DEV_TEMP_MAX) < sgn 16 t.toNat → u.rd F.DEV_TEMP_MAX = t.toNat) ∧
      (s.rd F.DEV_TEMP_MAX ≠ 0x8000 → sgn 16 t.toNat ≤ sgn 16 (s.rd F.DEV_TEMP_MAX) → u.rd F.DEV_TEMP_MAX = s.rd F.DEV_TEMP_MAX)) ∧
    (s.alive = true →
      (s.forwarding = false ∨ s.rd F.CNT_HARVEST_PERIOD = 0 ∨ s.clk.now < s.cnt.nextAt ∨ s.cnt.run.isSome = true → exec .harvestSweep s = .next (settle s)) ∧
      (s.forwarding = true → s.rd F.CNT_HARVEST_PERIOD ≠ 0 → s.cnt.nextAt ≤ s.clk.now → s.cnt.run = none →
        exec .harvestSweep s = .next (settle
          ((s.setCnt { s.cnt with nextAt := s.cnt.nextAt + s.rd F.CNT_HARVEST_PERIOD * 1000000 }).startSweep false)))) ∧
    (∀ v : Word, s.writable R.CNT_HARVEST →
      let w := s.wr F.CNT_HARVEST_PERIOD (v.toNat % 65536)
      let u := w.setCnt { w.cnt with nextAt := s.clk.now + v.toNat % 65536 * 1000000 }
      let t := if v.toNat.testBit 31 = true ∧ s.cnt.run = none then u.startSweep true else u
      exec (.harvestStart v) s = .next (settle t) ∧ exec (.harvestPeriodWrite v) s = .next (settle t) ∧
        u.rd F.CNT_HARVEST_PERIOD = v.toNat % 65536) ∧
    (∀ m, (sweepBase (s.regN R.CNT_HARVEST_BASE) = true →
        ∃ r, (s.startSweep m).cnt.run = some r ∧ r.manual = m ∧ r.n = s.cnt.count ∧ r.groups = 1) ∧
      (sweepBase (s.regN R.CNT_HARVEST_BASE) = false → (s.startSweep m).cnt.run = s.cnt.run ∧ (s.startSweep m).mem = s.mem ∧
        (s.startSweep m).on F.CNT_HARVEST_STATUS_BASE_ERR = true)) ∧
    (∀ r, s.cnt.run = some r → s.sweepCycle = s.setCnt { s.cnt with run := some (s.captureSlots r ((harvestGroups.drop r.groups).take 1)) }) ∧
    (s.alive = true → s.cnt.run = none → exec .sweepComplete s = .next (settle s)) ∧
    (∀ r, s.alive = true → s.cnt.run = some r → r.n < 2 ^ 32 → ∃ t : State, exec .sweepComplete s = .next (settle t) ∧ t.cnt.run = none ∧
      t.regN R.CNT_HARVEST_SWEEP = r.n ∧ t.rd F.CNT_HARVEST_STATUS_LAST_BANK = r.n % 2 ∧ t.word (sweepBank r + 0xADF8) = r.n) ∧
    (∀ e : Fin 8, s.engineActs e = true → ∃ t : State, exec (.tdSnap e) s = .next (settle t) ∧
      t.regN R.CNT_TD_RETIRED_LO = s.cnt.retired % 2 ^ 32 ∧ t.regN (R.CNT_TD_RETIRED_LO + 32) = s.cnt.total % 2 ^ 32 ∧
      sget 0 t.eng.rdata e = 0 ∧ t.cnt = s.cnt) ∧
    (let due := s.cnt.fates.filter (fun x => x.1 ≤ 1)
     let w := (due.filter (fun x => x.2)).length
     let late := (s.cnt.fates.filter (fun x => 1 < x.1)).map (fun x => (x.1 - 1, x.2))
     let u := s.slotCycle.cnt
     let busy := s.headerHeld = true ∧ (s.freeCells = 0 ∨ s.freePkts = 0 ∨ s.freeCopies = 0)
     u.retired = (s.cnt.retired + (due.length - w)) % 2 ^ 64 ∧ u.wasted = (s.cnt.wasted + w) % 2 ^ 64 ∧
      (s.cnt.decided ≠ 0 → u.fates = late ++ [(28, false)] ∧ u.front = s.cnt.front ∧ u.back = s.cnt.back ∧
        u.total = (s.cnt.total + due.length) % 2 ^ 64) ∧
      (s.cnt.decided = 0 → s.cnt.discarded ≠ 0 → u.fates = late ++ [(28, true)] ∧ u.front = s.cnt.front ∧ u.back = s.cnt.back ∧
        u.total = (s.cnt.total + due.length) % 2 ^ 64) ∧
      (s.cnt.decided = 0 → s.cnt.discarded = 0 → busy → u.fates = late ∧ u.back = (s.cnt.back + 1) % 2 ^ 64 ∧ u.front = s.cnt.front) ∧
      (s.cnt.decided = 0 → s.cnt.discarded = 0 → ¬ busy → u.fates = late ∧ u.front = (s.cnt.front + 1) % 2 ^ 64 ∧ u.back = s.cnt.back) ∧
      ((s.cnt.retired + s.cnt.wasted + s.cnt.front + s.cnt.back) % 2 ^ 64 = s.cnt.total →
        (u.retired + u.wasted + u.front + u.back) % 2 ^ 64 = u.total))
end

