-- ==== Sys2Proof/Laws/Sparse.lean ====
section
/-! SUPPORT. What a sparse table reads after a write, and that a write keeps the canonical form. -/

namespace Sys2Proof.Machine

variable {α : Type}

@[simp] theorem sget_nil (d : α) (k : Nat) : sget d [] k = d := rfl

/-- A key that no entry has reads as unlisted. -/
theorem sget_of_absent (d : α) (k : Nat) : ∀ m : Sparse α, (∀ e ∈ m, e.1 ≠ k) → sget d m k = d
  | [], _ => rfl
  | (k', v) :: r, h => by
    have hk : k' ≠ k := h (k', v) (List.mem_cons_self ..)
    simp only [sget, if_neg hk]
    exact sget_of_absent d k r (fun e he => h e (List.mem_cons_of_mem _ he))

variable [DecidableEq α]

/-- A write of the default removes the key. -/
theorem sput_default_absent (d : α) (k : Nat) : ∀ m : Sparse α, ∀ e ∈ sput d k d m, e.1 ≠ k
  | [], e, he => by simp [sput] at he
  | (k', v) :: r, e, he => by
    by_cases hk : k' = k
    · simp only [sput, if_pos hk, if_true] at he
      exact sput_default_absent d k r e he
    · simp only [sput, if_neg hk, ne_eq, not_true_eq_false, and_false, if_false, List.mem_cons] at he
      rcases he with rfl | he
      · exact hk
      · exact sput_default_absent d k r e he

/-- A key reads as what was last written to it. -/
@[simp] theorem sget_sput_same (d : α) (k : Nat) (v : α) (m : Sparse α) : sget d (sput d k v m) k = v := by
  by_cases hv : v = d
  · subst hv
    exact sget_of_absent v k _ (sput_default_absent v k m)
  · induction m with
    | nil => simp [sput, hv, sget]
    | cons e r ih =>
      obtain ⟨k', v'⟩ := e
      by_cases hk : k' = k
      · simp [sput, hk, hv, sget]
      · by_cases hl : k < k'
        · simp [sput, hk, hv, hl, sget]
        · simp [sput, hk, hl, sget, ih]

/-- A write leaves every other key as it is. -/
theorem sget_sput_ne (d d' : α) {k k' : Nat} (h : k' ≠ k) (v : α) (m : Sparse α) : sget d' (sput d k v m) k' = sget d' m k' := by
  induction m with
  | nil => by_cases hv : v = d <;> simp [sput, hv, sget, Ne.symm h]
  | cons e r ih =>
    obtain ⟨k₁, v₁⟩ := e
    by_cases hk : k₁ = k
    · subst hk
      by_cases hv : v = d
      · subst hv; simp [sput, sget, Ne.symm h, ih]
      · simp [sput, hv, sget, Ne.symm h]
    · by_cases hc : k < k₁ ∧ v ≠ d
      · simp [sput, hk, hc, sget, Ne.symm h]
      · simp only [sput, if_neg hk, if_neg hc, sget, ih]

theorem sget_sput (d : α) (k k' : Nat) (v : α) (m : Sparse α) :
    sget d (sput d k v m) k' = if k' = k then v else sget d m k' := by
  by_cases h : k' = k
  · subst h; simp
  · rw [if_neg h, sget_sput_ne d d h]

omit [DecidableEq α] in
/-- A lower bound below a rising table stays one. -/
theorem srising_below {lo lo' : Nat} (h : lo ≤ lo') : ∀ m : Sparse α, srising (some lo') m = true → srising (some lo) m = true
  | [], _ => rfl
  | (k, v) :: r, hm => by
    simp only [srising, Bool.and_eq_true, decide_eq_true_eq] at hm ⊢
    exact ⟨by omega, hm.2⟩

/-- A write of a value of its own key keeps the rising order above a bound below the key. -/
theorem srising_sput (d : α) (k : Nat) (v : α) : ∀ (m : Sparse α) (lo : Nat), lo < k → srising (some lo) m = true →
    srising (some lo) (sput d k v m) = true
  | [], lo, hl, _ => by by_cases hv : v = d <;> simp [sput, hv, srising, hl]
  | (k', v') :: r, lo, hl, hm => by
    simp only [srising, Bool.and_eq_true, decide_eq_true_eq] at hm
    by_cases hk : k' = k
    · subst hk
      by_cases hv : v = d
      · subst hv
        simp only [sput, if_true]
        exact srising_sput v k' v r lo hl (srising_below (by omega) r hm.2)
      · simp [sput, hv, srising, hl, hm.2]
    · by_cases hc : k < k' ∧ v ≠ d
      · simp [sput, hk, hc, srising, hl, hm.2]
      · by_cases hv : v = d
        · subst hv
          simp only [sput, if_neg hk, if_neg hc, srising, Bool.and_eq_true, decide_eq_true_eq]
          refine ⟨hm.1, ?_⟩
          by_cases hkk : k' < k
          · exact srising_sput v k v r k' hkk hm.2
          · exact srising_sput_above v k r k' (by omega) hm.2
        · have hkk : k' < k := by
            rcases Nat.lt_trichotomy k' k with h | h | h
            · exact h
            · exact absurd h hk
            · exact absurd ⟨h, hv⟩ hc
          simp only [sput, if_neg hk, if_neg hc, srising, Bool.and_eq_true, decide_eq_true_eq]
          exact ⟨hm.1, srising_sput d k v r k' hkk hm.2⟩
where
  /-- Removing a key below the bound changes nothing. -/
  srising_sput_above (d : α) (k : Nat) : ∀ (m : Sparse α) (lo : Nat), k ≤ lo → srising (some lo) m = true →
      srising (some lo) (sput d k d m) = true
    | [], _, _, _ => by simp [sput, srising]
    | (k', v') :: r, lo, hl, hm => by
      simp only [srising, Bool.and_eq_true, decide_eq_true_eq] at hm
      have hk : k' ≠ k := by omega
      simp only [sput, if_neg hk, ne_eq, not_true_eq_false, and_false, if_false, srising, Bool.and_eq_true, decide_eq_true_eq]
      exact ⟨hm.1, srising_sput_above d k r k' (by omega) hm.2⟩

/-- What a write leaves in the table: entries that were there, and the new one unless it is the default. -/
theorem mem_sput (d : α) (k : Nat) (v : α) : ∀ (m : Sparse α) (e : Nat × α), e ∈ sput d k v m → e ∈ m ∨ (e = (k, v) ∧ v ≠ d)
  | [], e, he => by
    by_cases hv : v = d
    · simp [sput, hv] at he
    · simp only [sput, if_neg hv, List.mem_singleton] at he
      exact Or.inr ⟨he, hv⟩
  | (k', v') :: r, e, he => by
    by_cases hk : k' = k
    · by_cases hv : v = d
      · simp only [sput, if_pos hk, if_pos hv] at he
        rcases mem_sput d k v r e he with h | h
        · exact Or.inl (List.mem_cons_of_mem _ h)
        · exact Or.inr h
      · simp only [sput, if_pos hk, if_neg hv, List.mem_cons] at he
        rcases he with rfl | he
        · exact Or.inr ⟨rfl, hv⟩
        · exact Or.inl (List.mem_cons_of_mem _ he)
    · by_cases hc : k < k' ∧ v ≠ d
      · simp only [sput, if_neg hk, if_pos hc, List.mem_cons] at he
        rcases he with rfl | he
        · exact Or.inr ⟨rfl, hc.2⟩
        · exact Or.inl (List.mem_cons.mpr he)
      · simp only [sput, if_neg hk, if_neg hc, List.mem_cons] at he
        rcases he with rfl | he
        · exact Or.inl (List.mem_cons_self ..)
        · rcases mem_sput d k v r e he with h | h
          · exact Or.inl (List.mem_cons_of_mem _ h)
          · exact Or.inr h

/-- A write keeps the order from the start of the table. -/
theorem srising_none_sput (d : α) (k : Nat) (v : α) (m : Sparse α) (h : srising none m = true) : srising none (sput d k v m) = true := by
  have up : ∀ m : Sparse α, srising none (m.map (fun e => (e.1 + 1, e.2))) = srising none m := by
    intro m
    cases m with
    | nil => rfl
    | cons e r =>
      simp only [List.map_cons, srising, Bool.true_and]
      generalize e.1 = b
      induction r generalizing b with
      | nil => rfl
      | cons x r ih => simp [srising, ih x.1]
  have low : ∀ m : Sparse α, srising none m = true → srising (some 0) (m.map (fun e => (e.1 + 1, e.2))) = true := by
    intro m hm
    rw [← up] at hm
    cases m with
    | nil => rfl
    | cons e r => simpa [srising] using hm
  have shift : ∀ m : Sparse α, (sput d k v m).map (fun e => (e.1 + 1, e.2)) = sput d (k + 1) v (m.map (fun e => (e.1 + 1, e.2))) := by
    intro m
    induction m with
    | nil => by_cases hv : v = d <;> simp [sput, hv]
    | cons e r ih =>
      obtain ⟨k', v'⟩ := e
      by_cases hk : k' = k
      · by_cases hv : v = d
        · subst hv; subst hk; simpa [sput] using ih
        · simp [sput, hk, hv]
      · by_cases hc : k < k' ∧ v ≠ d
        · simp [sput, hk, hc]
        · simp only [List.map_cons, sput, if_neg hk, if_neg hc, add_left_inj, add_lt_add_iff_right, ih]
  have hs := srising_sput d (k + 1) v _ 0 (by omega) (low m h)
  rw [← shift] at hs
  rw [← up]
  cases hsm : sput d k v m with
  | nil => rfl
  | cons e r =>
    rw [hsm] at hs
    simp only [List.map_cons, srising, Bool.and_eq_true] at hs ⊢
    exact ⟨trivial, hs.2⟩

/-- A write keeps the canonical form. -/
theorem swf_sput (dflt : Nat → α) (k : Nat) (v : α) (m : Sparse α) (h : swf dflt m = true) : swf dflt (sput (dflt k) k v m) = true := by
  simp only [swf, Bool.and_eq_true, List.all_eq_true, decide_eq_true_eq] at h ⊢
  refine ⟨srising_none_sput _ k v m h.1, fun e he => ?_⟩
  rcases mem_sput (dflt k) k v m e he with hm | ⟨rfl, hv⟩
  · exact h.2 e hm
  · exact hv

omit [DecidableEq α] in
/-- A part of a rising table rises. -/
theorem srising_filter (p : Nat × α → Bool) : ∀ (m : Sparse α) (lo : Nat), srising (some lo) m = true → srising (some lo) (m.filter p) = true
  | [], _, _ => rfl
  | (k, v) :: r, lo, h => by
    simp only [srising, Bool.and_eq_true, decide_eq_true_eq] at h
    by_cases hp : p (k, v) = true
    · simp only [List.filter_cons, if_pos hp, srising, Bool.and_eq_true, decide_eq_true_eq]
      exact ⟨h.1, srising_filter p r k h.2⟩
    · simp only [List.filter_cons, if_neg hp]
      exact srising_below (by omega) _ (srising_filter p r k h.2)

/-- A part of a canonical table is canonical. -/
theorem swf_filter (dflt : Nat → α) (p : Nat × α → Bool) (m : Sparse α) (h : swf dflt m = true) : swf dflt (m.filter p) = true := by
  simp only [swf, Bool.and_eq_true, List.all_eq_true, decide_eq_true_eq] at h ⊢
  refine ⟨?_, fun e he => h.2 e (List.mem_filter.mp he).1⟩
  have go : ∀ m : Sparse α, srising none m = true → srising none (m.filter p) = true := by
    intro m
    induction m with
    | nil => exact id
    | cons e r ih =>
      intro hr
      obtain ⟨k, v⟩ := e
      have hr' : srising (some k) r = true := by simpa [srising] using hr
      by_cases hp : p (k, v) = true
      · simp only [List.filter_cons, if_pos hp, srising, Bool.true_and]
        exact srising_filter p r k hr'
      · simp only [List.filter_cons, if_neg hp]
        apply ih
        cases r with
        | nil => rfl
        | cons x r => simpa [srising] using (by simpa [srising] using hr' : _ ∧ _).2
  exact go m h.1

@[simp] theorem swf_nil (dflt : Nat → α) : swf dflt [] = true := rfl

end Sys2Proof.Machine
end

