-- ==== Sys2Proof/Laws/Ops.lean ====
section
/-! SUPPORT. What the operations over registers, their fields, memories and tables read after a write. -/

namespace Sys2Proof.Machine

-- fields of numbers

theorem bits_lt (v lo w : Nat) : bits v lo w < 2 ^ w := Nat.mod_lt _ (Nat.two_pow_pos w)

theorem testBit_bits (v lo w i : Nat) : (bits v lo w).testBit i = (decide (i < w) && v.testBit (lo + i)) := by
  simp [bits, Nat.testBit_mod_two_pow, Nat.testBit_shiftRight]

/-- A number with a field replaced: what lies above, the field, what lies below. -/
theorem insertField_eq (old lo w v : Nat) :
    insertField old lo w v = 2 ^ (lo + w) * (old / 2 ^ (lo + w)) + (2 ^ lo * (v % 2 ^ w) + old % 2 ^ lo) := by
  have h1 : old = 2 ^ (lo + w) * (old / 2 ^ (lo + w)) + (2 ^ lo * bits old lo w + old % 2 ^ lo) := by
    have e : bits old lo w = old / 2 ^ lo % 2 ^ w := by simp [bits, Nat.shiftRight_eq_div_pow]
    rw [e, pow_add, ← Nat.div_div_eq_div_mul, mul_assoc]
    have a := Nat.div_add_mod (old / 2 ^ lo) (2 ^ w)
    have b := Nat.div_add_mod old (2 ^ lo)
    calc old = 2 ^ lo * (old / 2 ^ lo) + old % 2 ^ lo := b.symm
      _ = 2 ^ lo * (2 ^ w * (old / 2 ^ lo / 2 ^ w) + old / 2 ^ lo % 2 ^ w) + old % 2 ^ lo := by rw [a]
      _ = _ := by ring
  have h2 : bits old lo w * 2 ^ lo ≤ old := by
    conv_rhs => rw [h1]
    rw [mul_comm]; omega
  unfold insertField
  have : old - bits old lo w * 2 ^ lo = 2 ^ (lo + w) * (old / 2 ^ (lo + w)) + old % 2 ^ lo := by
    rw [Nat.sub_eq_iff_eq_add h2]
    conv_lhs => rw [h1]
    ring
  rw [this]; ring

/-- The bits of a number with a field replaced. -/
theorem testBit_insertField (old lo w v i : Nat) :
    (insertField old lo w v).testBit i = if lo ≤ i ∧ i < lo + w then v.testBit (i - lo) else old.testBit i := by
  have hlow : old % 2 ^ lo < 2 ^ lo := Nat.mod_lt _ (Nat.two_pow_pos lo)
  have hfld : v % 2 ^ w < 2 ^ w := Nat.mod_lt _ (Nat.two_pow_pos w)
  have hsum : 2 ^ lo * (v % 2 ^ w) + old % 2 ^ lo < 2 ^ (lo + w) := by
    rw [pow_add]
    calc 2 ^ lo * (v % 2 ^ w) + old % 2 ^ lo < 2 ^ lo * (v % 2 ^ w) + 2 ^ lo := by omega
      _ = 2 ^ lo * (v % 2 ^ w + 1) := by ring
      _ ≤ 2 ^ lo * 2 ^ w := Nat.mul_le_mul_left _ hfld
  rw [insertField_eq, Nat.testBit_two_pow_mul_add _ hsum]
  by_cases h1 : i < lo + w
  · rw [if_pos h1, Nat.testBit_two_pow_mul_add _ hlow]
    by_cases h2 : i < lo
    · rw [if_pos h2, if_neg (by omega), Nat.testBit_mod_two_pow]; simp [h2]
    · rw [if_neg h2, if_pos ⟨by omega, h1⟩, Nat.testBit_mod_two_pow]
      have : i - lo < w := by omega
      simp [this]
  · rw [if_neg h1, if_neg (by omega), ← Nat.shiftRight_eq_div_pow, Nat.testBit_shiftRight]
    congr 1; omega

theorem bits_insertField_same (old lo w v : Nat) : bits (insertField old lo w v) lo w = v % 2 ^ w := by
  apply Nat.eq_of_testBit_eq
  intro i
  rw [testBit_bits, testBit_insertField, Nat.testBit_mod_two_pow]
  by_cases h : i < w
  · rw [if_pos ⟨by omega, by omega⟩, Nat.add_sub_cancel_left]
  · simp [h]

theorem bits_insertField_other {lo w lo' w' : Nat} (old v : Nat) (h : lo + w ≤ lo' ∨ lo' + w' ≤ lo) :
    bits (insertField old lo w v) lo' w' = bits old lo' w' := by
  apply Nat.eq_of_testBit_eq
  intro i
  rw [testBit_bits, testBit_bits, testBit_insertField]
  by_cases hi : i < w'
  · rw [if_neg (by omega)]
  · simp [hi]

theorem bits_mod {lo w n : Nat} (h : lo + w ≤ n) (v : Nat) : bits (v % 2 ^ n) lo w = bits v lo w := by
  apply Nat.eq_of_testBit_eq
  intro i
  rw [testBit_bits, testBit_bits, Nat.testBit_mod_two_pow]
  by_cases hi : i < w
  · have : lo + i < n := by omega
    simp [this]
  · simp [hi]

-- registers

@[simp] theorem reg_setReg_same (s : State) (a : Nat) (v : Word) : (s.setReg a v).reg a = v := sget_sput_same ..

theorem reg_setReg_ne (s : State) {a b : Nat} (h : b ≠ a) (v : Word) : (s.setReg a v).reg b = s.reg b := sget_sput_ne _ _ h ..

@[simp] theorem regN_setRegN_same (s : State) (a v : Nat) : (s.setRegN a v).regN a = v % 2 ^ 32 := by
  simp [State.setRegN, State.regN]

theorem regN_setRegN_ne (s : State) {a b : Nat} (h : b ≠ a) (v : Nat) : (s.setRegN a v).regN b = s.regN b := by
  simp [State.setRegN, State.regN, reg_setReg_ne s h]

theorem rd_setRegN_ne (s : State) {a : Nat} {f : Fld} (h : f.addr ≠ a) (v : Nat) : (s.setRegN a v).rd f = s.rd f := by
  simp [State.rd, regN_setRegN_ne s h]

/-- A field reads as what was last written to it, in its width. -/
theorem rd_wr_same (s : State) (f : Fld) (hf : f.lo + f.w ≤ 32) (v : Nat) : (s.wr f v).rd f = v % 2 ^ f.w := by
  simp only [State.rd, State.wr, regN_setRegN_same]
  rw [bits_mod hf, bits_insertField_same]

/-- A write to a field leaves the fields of other registers and the other fields of its own as they are. -/
theorem rd_wr_other (s : State) (f g : Fld) (hg : g.lo + g.w ≤ 32) (v : Nat)
    (h : g.addr ≠ f.addr ∨ f.lo + f.w ≤ g.lo ∨ g.lo + g.w ≤ f.lo) : (s.wr f v).rd g = s.rd g := by
  by_cases ha : g.addr = f.addr
  · simp only [State.rd, State.wr, ha, regN_setRegN_same]
    rw [bits_mod hg, bits_insertField_other _ _ (by tauto)]
  · simp only [State.rd, State.wr, regN_setRegN_ne s ha]

theorem regN_wr_ne (s : State) (f : Fld) {a : Nat} (h : a ≠ f.addr) (v : Nat) : (s.wr f v).regN a = s.regN a :=
  regN_setRegN_ne s h _

theorem reg_wr_ne (s : State) (f : Fld) {a : Nat} (h : a ≠ f.addr) (v : Nat) : (s.wr f v).reg a = s.reg a := reg_setReg_ne s h _

/-- A counter after one event. -/
theorem regN_inc_same (s : State) (c : Nat) : (s.inc c).regN c = (s.regN c + 1) % 2 ^ 32 := by simp [State.inc, State.add]

theorem regN_inc_ne (s : State) {a c : Nat} (h : a ≠ c) : (s.inc c).regN a = s.regN a := regN_setRegN_ne s h _

theorem rd_inc_ne (s : State) {c : Nat} {f : Fld} (h : f.addr ≠ c) : (s.inc c).rd f = s.rd f := rd_setRegN_ne s h _

theorem rd_add_ne (s : State) {c : Nat} {f : Fld} (h : f.addr ≠ c) (n : Nat) : (s.add c n).rd f = s.rd f := rd_setRegN_ne s h _

theorem on_wr_same (s : State) (f : Fld) (hf : f.lo + f.w ≤ 32) (hw : f.w = 1) (v : Nat) : (s.wr f v).on f = decide (v % 2 = 1) := by
  simp [State.on, rd_wr_same s f hf, hw, beq_eq_decide]

theorem on_wr_other (s : State) (f g : Fld) (hg : g.lo + g.w ≤ 32) (v : Nat)
    (h : g.addr ≠ f.addr ∨ f.lo + f.w ≤ g.lo ∨ g.lo + g.w ≤ f.lo) : (s.wr f v).on g = s.on g := by
  simp [State.on, rd_wr_other s f g hg v h]

theorem on_inc_ne (s : State) {c : Nat} {f : Fld} (h : f.addr ≠ c) : (s.inc c).on f = s.on f := by simp [State.on, rd_inc_ne s h]

-- memory

/-- A byte inside or outside what was put into a byte table. -/
theorem sget_putBytes (d : Byte) : ∀ (l : List Byte) (a : Nat) (m : Sparse Byte) (x : Nat),
    sget d (putBytes d a l m) x = if a ≤ x ∧ x < a + l.length then nth 0 l (x - a) else sget d m x
  | [], a, m, x => by simp [putBytes]
  | b :: r, a, m, x => by
    rw [putBytes, sget_putBytes d r (a + 1), sget_sput]
    by_cases h1 : x = a
    · subst h1; simp [nth]
    · by_cases h2 : a + 1 ≤ x ∧ x < a + 1 + r.length
      · have h3 : a ≤ x ∧ x < a + (b :: r).length := by simp only [List.length_cons]; omega
        rw [if_pos h2, if_pos h3]
        obtain ⟨n, rfl⟩ : ∃ n, x = a + 1 + n := ⟨x - (a + 1), by omega⟩
        have e1 : a + 1 + n - (a + 1) = n := by omega
        have e2 : a + 1 + n - a = n + 1 := by omega
        rw [e1, e2, nth]
      · rw [if_neg h2, if_neg h1, if_neg (by simp only [List.length_cons]; omega)]

theorem swf_putBytes (d : Byte) : ∀ (l : List Byte) (a : Nat) (m : Sparse Byte), swf (fun _ => d) m = true →
    swf (fun _ => d) (putBytes d a l m) = true
  | [], _, _, h => h
  | b :: r, a, m, h => swf_putBytes d r (a + 1) _ (swf_sput (fun _ => d) a b m h)

/-- A stored byte reads back; every other byte is as before. -/
theorem byte_store (s : State) (a : Nat) (l : List Byte) (x : Nat) :
    (s.store a l).byte x = if a ≤ x ∧ x < a + l.length then nth 0 l (x - a) else s.byte x := sget_putBytes 0 l a s.mem x

theorem byte_store_outside (s : State) (a : Nat) (l : List Byte) {x : Nat} (h : x < a ∨ a + l.length ≤ x) :
    (s.store a l).byte x = s.byte x := by rw [byte_store, if_neg (by omega)]

@[simp] theorem length_leBytes : ∀ n v, (leBytes n v).length = n
  | 0, _ => rfl
  | n + 1, v => by simp [leBytes, length_leBytes n]

@[simp] theorem length_getBytes (f : Nat → Byte) : ∀ a n, (getBytes f a n).length = n
  | _, 0 => rfl
  | a, n + 1 => by simp [getBytes, length_getBytes f (a + 1) n]

theorem leNat_leBytes : ∀ n v, leNat (leBytes n v) = v % 2 ^ (8 * n)
  | 0, v => by simp [leBytes, leNat, Nat.mod_one]
  | n + 1, v => by
    rw [leBytes, leNat, leNat_leBytes n, show 8 * (n + 1) = 8 + 8 * n by ring, pow_add, Nat.mod_mul]
    simp

theorem getBytes_congr {f g : Nat → Byte} : ∀ (n a : Nat), (∀ x, a ≤ x → x < a + n → f x = g x) → getBytes f a n = getBytes g a n
  | 0, _, _ => rfl
  | n + 1, a, h => by
    rw [getBytes, getBytes, h a (by omega) (by omega), getBytes_congr n (a + 1) (fun x h1 h2 => h x (by omega) (by omega))]

theorem getBytes_nth : ∀ (l : List Byte) (f : Nat → Byte) (a : Nat), (∀ i, i < l.length → f (a + i) = nth 0 l i) →
    getBytes f a l.length = l
  | [], _, _, _ => rfl
  | b :: r, f, a, h => by
    have h0 := h 0 (by simp)
    rw [List.length_cons, getBytes, getBytes_nth r f (a + 1) (fun i hi => ?_)]
    · simp only [Nat.add_zero, nth] at h0; rw [h0]
    · have := h (i + 1) (by simpa using hi)
      rw [show a + 1 + i = a + (i + 1) by ring, this, nth]

/-- What was stored reads back whole. -/
theorem getBytes_store (s : State) (a : Nat) (l : List Byte) : getBytes (s.store a l).byte a l.length = l := by
  apply getBytes_nth
  intro i hi
  rw [byte_store, if_pos (by omega), Nat.add_sub_cancel_left]

theorem word_storeWord_same (s : State) (a v : Nat) : (s.storeWord a v).word a = v % 2 ^ 32 := by
  have h := getBytes_store s a (leBytes 4 v)
  rw [length_leBytes] at h
  rw [State.word, State.storeWord, h, leNat_leBytes]

theorem word_storeWord_ne (s : State) {a b : Nat} (h : b + 4 ≤ a ∨ a + 4 ≤ b) (v : Nat) : (s.storeWord a v).word b = s.word b := by
  unfold State.word State.storeWord
  rw [getBytes_congr]
  intro x h1 h2
  exact byte_store_outside s a _ (by rw [length_leBytes]; omega)

/-- A store keeps the canonical form of memory. -/
theorem store_mem_wf (s : State) (a : Nat) (l : List Byte) (h : swf (fun _ => (0 : Byte)) s.mem = true) :
    swf (fun _ => (0 : Byte)) (s.store a l).mem = true := swf_putBytes 0 l a s.mem h

/-- Programming keeps the canonical form of the flash. -/
theorem program_flash_wf (s : State) (o : Nat) (l : List Byte) (h : swf (fun _ => (0xFF : Byte)) s.flash = true) :
    swf (fun _ => (0xFF : Byte)) (s.program o l).flash = true := swf_putBytes 0xFF l o s.flash h

/-- Erasing keeps the canonical form of the flash. -/
theorem erase_flash_wf (s : State) (o n : Nat) (h : swf (fun _ => (0xFF : Byte)) s.flash = true) :
    swf (fun _ => (0xFF : Byte)) (s.erase o n).flash = true := swf_filter _ _ _ h

-- tables and indexed parts

@[simp] theorem entry_setEntry_same (s : State) (t i : Nat) (w : List Word) : (s.setEntry t i w).entry t i = w := sget_sput_same ..

theorem entry_setEntry_ne (s : State) {t i t' i' : Nat} (h : t' * 0x10000 + i' ≠ t * 0x10000 + i) (w : List Word) :
    (s.setEntry t i w).entry t' i' = s.entry t' i' := sget_sput_ne _ _ h ..

@[simp] theorem port_modPort_same (s : State) (p : Nat) (f : MacPort → MacPort) : (s.modPort p f).port p = f (s.port p) := sget_sput_same ..

theorem port_modPort_ne (s : State) {p q : Nat} (h : q ≠ p) (f : MacPort → MacPort) : (s.modPort p f).port q = s.port q :=
  sget_sput_ne _ _ h ..

end Sys2Proof.Machine
end

