-- ==== Sys2Proof/Laws/State.lean ====
section
/-! SUPPORT. One lemma for each field of the state and each named update: the fields that an update leaves as they are, true by the
update's definition. -/

namespace Sys2Proof.Machine

@[simp] theorem setReg_mem (s : State) (a : Nat) (v : Word) : (s.setReg a v).mem = s.mem := rfl
@[simp] theorem setReg_flash (s : State) (a : Nat) (v : Word) : (s.setReg a v).flash = s.flash := rfl
@[simp] theorem setReg_tables (s : State) (a : Nat) (v : Word) : (s.setReg a v).tables = s.tables := rfl
@[simp] theorem setReg_otp (s : State) (a : Nat) (v : Word) : (s.setReg a v).otp = s.otp := rfl
@[simp] theorem setReg_boot (s : State) (a : Nat) (v : Word) : (s.setReg a v).boot = s.boot := rfl
@[simp] theorem setReg_clk (s : State) (a : Nat) (v : Word) : (s.setReg a v).clk = s.clk := rfl
@[simp] theorem setReg_iq (s : State) (a : Nat) (v : Word) : (s.setReg a v).iq = s.iq := rfl
@[simp] theorem setReg_eq (s : State) (a : Nat) (v : Word) : (s.setReg a v).eq = s.eq := rfl
@[simp] theorem setReg_skew (s : State) (a : Nat) (v : Word) : (s.setReg a v).skew = s.skew := rfl
@[simp] theorem setReg_cap (s : State) (a : Nat) (v : Word) : (s.setReg a v).cap = s.cap := rfl
@[simp] theorem setReg_pls (s : State) (a : Nat) (v : Word) : (s.setReg a v).pls = s.pls := rfl
@[simp] theorem setReg_mac (s : State) (a : Nat) (v : Word) : (s.setReg a v).mac = s.mac := rfl
@[simp] theorem setReg_fwd (s : State) (a : Nat) (v : Word) : (s.setReg a v).fwd = s.fwd := rfl
@[simp] theorem setReg_sct (s : State) (a : Nat) (v : Word) : (s.setReg a v).sct = s.sct := rfl
@[simp] theorem setReg_latAt (s : State) (a : Nat) (v : Word) : (s.setReg a v).latAt = s.latAt := rfl
@[simp] theorem setReg_buf (s : State) (a : Nat) (v : Word) : (s.setReg a v).buf = s.buf := rfl
@[simp] theorem setReg_lists (s : State) (a : Nat) (v : Word) : (s.setReg a v).lists = s.lists := rfl
@[simp] theorem setReg_credit (s : State) (a : Nat) (v : Word) : (s.setReg a v).credit = s.credit := rfl
@[simp] theorem setReg_eng (s : State) (a : Nat) (v : Word) : (s.setReg a v).eng = s.eng := rfl
@[simp] theorem setReg_flt (s : State) (a : Nat) (v : Word) : (s.setReg a v).flt = s.flt := rfl
@[simp] theorem setReg_evq (s : State) (a : Nat) (v : Word) : (s.setReg a v).evq = s.evq := rfl
@[simp] theorem setReg_fltq (s : State) (a : Nat) (v : Word) : (s.setReg a v).fltq = s.fltq := rfl
@[simp] theorem setReg_out24 (s : State) (a : Nat) (v : Word) : (s.setReg a v).out24 = s.out24 := rfl
@[simp] theorem setReg_out25 (s : State) (a : Nat) (v : Word) : (s.setReg a v).out25 = s.out25 := rfl
@[simp] theorem setReg_out26 (s : State) (a : Nat) (v : Word) : (s.setReg a v).out26 = s.out26 := rfl
@[simp] theorem setReg_kaq (s : State) (a : Nat) (v : Word) : (s.setReg a v).kaq = s.kaq := rfl
@[simp] theorem setReg_egsLast (s : State) (a : Nat) (v : Word) : (s.setReg a v).egsLast = s.egsLast := rfl
@[simp] theorem setReg_cph (s : State) (a : Nat) (v : Word) : (s.setReg a v).cph = s.cph := rfl
@[simp] theorem setReg_leases (s : State) (a : Nat) (v : Word) : (s.setReg a v).leases = s.leases := rfl
@[simp] theorem setReg_pers (s : State) (a : Nat) (v : Word) : (s.setReg a v).pers = s.pers := rfl
@[simp] theorem setReg_qlb (s : State) (a : Nat) (v : Word) : (s.setReg a v).qlb = s.qlb := rfl
@[simp] theorem setReg_aud (s : State) (a : Nat) (v : Word) : (s.setReg a v).aud = s.aud := rfl
@[simp] theorem setReg_can (s : State) (a : Nat) (v : Word) : (s.setReg a v).can = s.can := rfl
@[simp] theorem setReg_ser (s : State) (a : Nat) (v : Word) : (s.setReg a v).ser = s.ser := rfl
@[simp] theorem setReg_glv (s : State) (a : Nat) (v : Word) : (s.setReg a v).glv = s.glv := rfl
@[simp] theorem setReg_wak (s : State) (a : Nat) (v : Word) : (s.setReg a v).wak = s.wak := rfl
@[simp] theorem setReg_cnt (s : State) (a : Nat) (v : Word) : (s.setReg a v).cnt = s.cnt := rfl
@[simp] theorem setReg_free (s : State) (a : Nat) (v : Word) : (s.setReg a v).free = s.free := rfl
@[simp] theorem setReg_pending (s : State) (a : Nat) (v : Word) : (s.setReg a v).pending = s.pending := rfl

@[simp] theorem setRegN_mem (s : State) (a v : Nat) : (s.setRegN a v).mem = s.mem := rfl
@[simp] theorem setRegN_flash (s : State) (a v : Nat) : (s.setRegN a v).flash = s.flash := rfl
@[simp] theorem setRegN_tables (s : State) (a v : Nat) : (s.setRegN a v).tables = s.tables := rfl
@[simp] theorem setRegN_otp (s : State) (a v : Nat) : (s.setRegN a v).otp = s.otp := rfl
@[simp] theorem setRegN_boot (s : State) (a v : Nat) : (s.setRegN a v).boot = s.boot := rfl
@[simp] theorem setRegN_clk (s : State) (a v : Nat) : (s.setRegN a v).clk = s.clk := rfl
@[simp] theorem setRegN_iq (s : State) (a v : Nat) : (s.setRegN a v).iq = s.iq := rfl
@[simp] theorem setRegN_eq (s : State) (a v : Nat) : (s.setRegN a v).eq = s.eq := rfl
@[simp] theorem setRegN_skew (s : State) (a v : Nat) : (s.setRegN a v).skew = s.skew := rfl
@[simp] theorem setRegN_cap (s : State) (a v : Nat) : (s.setRegN a v).cap = s.cap := rfl
@[simp] theorem setRegN_pls (s : State) (a v : Nat) : (s.setRegN a v).pls = s.pls := rfl
@[simp] theorem setRegN_mac (s : State) (a v : Nat) : (s.setRegN a v).mac = s.mac := rfl
@[simp] theorem setRegN_fwd (s : State) (a v : Nat) : (s.setRegN a v).fwd = s.fwd := rfl
@[simp] theorem setRegN_sct (s : State) (a v : Nat) : (s.setRegN a v).sct = s.sct := rfl
@[simp] theorem setRegN_latAt (s : State) (a v : Nat) : (s.setRegN a v).latAt = s.latAt := rfl
@[simp] theorem setRegN_buf (s : State) (a v : Nat) : (s.setRegN a v).buf = s.buf := rfl
@[simp] theorem setRegN_lists (s : State) (a v : Nat) : (s.setRegN a v).lists = s.lists := rfl
@[simp] theorem setRegN_credit (s : State) (a v : Nat) : (s.setRegN a v).credit = s.credit := rfl
@[simp] theorem setRegN_eng (s : State) (a v : Nat) : (s.setRegN a v).eng = s.eng := rfl
@[simp] theorem setRegN_flt (s : State) (a v : Nat) : (s.setRegN a v).flt = s.flt := rfl
@[simp] theorem setRegN_evq (s : State) (a v : Nat) : (s.setRegN a v).evq = s.evq := rfl
@[simp] theorem setRegN_fltq (s : State) (a v : Nat) : (s.setRegN a v).fltq = s.fltq := rfl
@[simp] theorem setRegN_out24 (s : State) (a v : Nat) : (s.setRegN a v).out24 = s.out24 := rfl
@[simp] theorem setRegN_out25 (s : State) (a v : Nat) : (s.setRegN a v).out25 = s.out25 := rfl
@[simp] theorem setRegN_out26 (s : State) (a v : Nat) : (s.setRegN a v).out26 = s.out26 := rfl
@[simp] theorem setRegN_kaq (s : State) (a v : Nat) : (s.setRegN a v).kaq = s.kaq := rfl
@[simp] theorem setRegN_egsLast (s : State) (a v : Nat) : (s.setRegN a v).egsLast = s.egsLast := rfl
@[simp] theorem setRegN_cph (s : State) (a v : Nat) : (s.setRegN a v).cph = s.cph := rfl
@[simp] theorem setRegN_leases (s : State) (a v : Nat) : (s.setRegN a v).leases = s.leases := rfl
@[simp] theorem setRegN_pers (s : State) (a v : Nat) : (s.setRegN a v).pers = s.pers := rfl
@[simp] theorem setRegN_qlb (s : State) (a v : Nat) : (s.setRegN a v).qlb = s.qlb := rfl
@[simp] theorem setRegN_aud (s : State) (a v : Nat) : (s.setRegN a v).aud = s.aud := rfl
@[simp] theorem setRegN_can (s : State) (a v : Nat) : (s.setRegN a v).can = s.can := rfl
@[simp] theorem setRegN_ser (s : State) (a v : Nat) : (s.setRegN a v).ser = s.ser := rfl
@[simp] theorem setRegN_glv (s : State) (a v : Nat) : (s.setRegN a v).glv = s.glv := rfl
@[simp] theorem setRegN_wak (s : State) (a v : Nat) : (s.setRegN a v).wak = s.wak := rfl
@[simp] theorem setRegN_cnt (s : State) (a v : Nat) : (s.setRegN a v).cnt = s.cnt := rfl
@[simp] theorem setRegN_free (s : State) (a v : Nat) : (s.setRegN a v).free = s.free := rfl
@[simp] theorem setRegN_pending (s : State) (a v : Nat) : (s.setRegN a v).pending = s.pending := rfl

@[simp] theorem wr_mem (s : State) (f : Fld) (v : Nat) : (s.wr f v).mem = s.mem := rfl
@[simp] theorem wr_flash (s : State) (f : Fld) (v : Nat) : (s.wr f v).flash = s.flash := rfl
@[simp] theorem wr_tables (s : State) (f : Fld) (v : Nat) : (s.wr f v).tables = s.tables := rfl
@[simp] theorem wr_otp (s : State) (f : Fld) (v : Nat) : (s.wr f v).otp = s.otp := rfl
@[simp] theorem wr_boot (s : State) (f : Fld) (v : Nat) : (s.wr f v).boot = s.boot := rfl
@[simp] theorem wr_clk (s : State) (f : Fld) (v : Nat) : (s.wr f v).clk = s.clk := rfl
@[simp] theorem wr_iq (s : State) (f : Fld) (v : Nat) : (s.wr f v).iq = s.iq := rfl
@[simp] theorem wr_eq (s : State) (f : Fld) (v : Nat) : (s.wr f v).eq = s.eq := rfl
@[simp] theorem wr_skew (s : State) (f : Fld) (v : Nat) : (s.wr f v).skew = s.skew := rfl
@[simp] theorem wr_cap (s : State) (f : Fld) (v : Nat) : (s.wr f v).cap = s.cap := rfl
@[simp] theorem wr_pls (s : State) (f : Fld) (v : Nat) : (s.wr f v).pls = s.pls := rfl
@[simp] theorem wr_mac (s : State) (f : Fld) (v : Nat) : (s.wr f v).mac = s.mac := rfl
@[simp] theorem wr_fwd (s : State) (f : Fld) (v : Nat) : (s.wr f v).fwd = s.fwd := rfl
@[simp] theorem wr_sct (s : State) (f : Fld) (v : Nat) : (s.wr f v).sct = s.sct := rfl
@[simp] theorem wr_latAt (s : State) (f : Fld) (v : Nat) : (s.wr f v).latAt = s.latAt := rfl
@[simp] theorem wr_buf (s : State) (f : Fld) (v : Nat) : (s.wr f v).buf = s.buf := rfl
@[simp] theorem wr_lists (s : State) (f : Fld) (v : Nat) : (s.wr f v).lists = s.lists := rfl
@[simp] theorem wr_credit (s : State) (f : Fld) (v : Nat) : (s.wr f v).credit = s.credit := rfl
@[simp] theorem wr_eng (s : State) (f : Fld) (v : Nat) : (s.wr f v).eng = s.eng := rfl
@[simp] theorem wr_flt (s : State) (f : Fld) (v : Nat) : (s.wr f v).flt = s.flt := rfl
@[simp] theorem wr_evq (s : State) (f : Fld) (v : Nat) : (s.wr f v).evq = s.evq := rfl
@[simp] theorem wr_fltq (s : State) (f : Fld) (v : Nat) : (s.wr f v).fltq = s.fltq := rfl
@[simp] theorem wr_out24 (s : State) (f : Fld) (v : Nat) : (s.wr f v).out24 = s.out24 := rfl
@[simp] theorem wr_out25 (s : State) (f : Fld) (v : Nat) : (s.wr f v).out25 = s.out25 := rfl
@[simp] theorem wr_out26 (s : State) (f : Fld) (v : Nat) : (s.wr f v).out26 = s.out26 := rfl
@[simp] theorem wr_kaq (s : State) (f : Fld) (v : Nat) : (s.wr f v).kaq = s.kaq := rfl
@[simp] theorem wr_egsLast (s : State) (f : Fld) (v : Nat) : (s.wr f v).egsLast = s.egsLast := rfl
@[simp] theorem wr_cph (s : State) (f : Fld) (v : Nat) : (s.wr f v).cph = s.cph := rfl
@[simp] theorem wr_leases (s : State) (f : Fld) (v : Nat) : (s.wr f v).leases = s.leases := rfl
@[simp] theorem wr_pers (s : State) (f : Fld) (v : Nat) : (s.wr f v).pers = s.pers := rfl
@[simp] theorem wr_qlb (s : State) (f : Fld) (v : Nat) : (s.wr f v).qlb = s.qlb := rfl
@[simp] theorem wr_aud (s : State) (f : Fld) (v : Nat) : (s.wr f v).aud = s.aud := rfl
@[simp] theorem wr_can (s : State) (f : Fld) (v : Nat) : (s.wr f v).can = s.can := rfl
@[simp] theorem wr_ser (s : State) (f : Fld) (v : Nat) : (s.wr f v).ser = s.ser := rfl
@[simp] theorem wr_glv (s : State) (f : Fld) (v : Nat) : (s.wr f v).glv = s.glv := rfl
@[simp] theorem wr_wak (s : State) (f : Fld) (v : Nat) : (s.wr f v).wak = s.wak := rfl
@[simp] theorem wr_cnt (s : State) (f : Fld) (v : Nat) : (s.wr f v).cnt = s.cnt := rfl
@[simp] theorem wr_free (s : State) (f : Fld) (v : Nat) : (s.wr f v).free = s.free := rfl
@[simp] theorem wr_pending (s : State) (f : Fld) (v : Nat) : (s.wr f v).pending = s.pending := rfl

@[simp] theorem setPair_mem (s : State) (lo hi v : Nat) : (s.setPair lo hi v).mem = s.mem := rfl
@[simp] theorem setPair_flash (s : State) (lo hi v : Nat) : (s.setPair lo hi v).flash = s.flash := rfl
@[simp] theorem setPair_tables (s : State) (lo hi v : Nat) : (s.setPair lo hi v).tables = s.tables := rfl
@[simp] theorem setPair_otp (s : State) (lo hi v : Nat) : (s.setPair lo hi v).otp = s.otp := rfl
@[simp] theorem setPair_boot (s : State) (lo hi v : Nat) : (s.setPair lo hi v).boot = s.boot := rfl
@[simp] theorem setPair_clk (s : State) (lo hi v : Nat) : (s.setPair lo hi v).clk = s.clk := rfl
@[simp] theorem setPair_iq (s : State) (lo hi v : Nat) : (s.setPair lo hi v).iq = s.iq := rfl
@[simp] theorem setPair_eq (s : State) (lo hi v : Nat) : (s.setPair lo hi v).eq = s.eq := rfl
@[simp] theorem setPair_skew (s : State) (lo hi v : Nat) : (s.setPair lo hi v).skew = s.skew := rfl
@[simp] theorem setPair_cap (s : State) (lo hi v : Nat) : (s.setPair lo hi v).cap = s.cap := rfl
@[simp] theorem setPair_pls (s : State) (lo hi v : Nat) : (s.setPair lo hi v).pls = s.pls := rfl
@[simp] theorem setPair_mac (s : State) (lo hi v : Nat) : (s.setPair lo hi v).mac = s.mac := rfl
@[simp] theorem setPair_fwd (s : State) (lo hi v : Nat) : (s.setPair lo hi v).fwd = s.fwd := rfl
@[simp] theorem setPair_sct (s : State) (lo hi v : Nat) : (s.setPair lo hi v).sct = s.sct := rfl
@[simp] theorem setPair_latAt (s : State) (lo hi v : Nat) : (s.setPair lo hi v).latAt = s.latAt := rfl
@[simp] theorem setPair_buf (s : State) (lo hi v : Nat) : (s.setPair lo hi v).buf = s.buf := rfl
@[simp] theorem setPair_lists (s : State) (lo hi v : Nat) : (s.setPair lo hi v).lists = s.lists := rfl
@[simp] theorem setPair_credit (s : State) (lo hi v : Nat) : (s.setPair lo hi v).credit = s.credit := rfl
@[simp] theorem setPair_eng (s : State) (lo hi v : Nat) : (s.setPair lo hi v).eng = s.eng := rfl
@[simp] theorem setPair_flt (s : State) (lo hi v : Nat) : (s.setPair lo hi v).flt = s.flt := rfl
@[simp] theorem setPair_evq (s : State) (lo hi v : Nat) : (s.setPair lo hi v).evq = s.evq := rfl
@[simp] theorem setPair_fltq (s : State) (lo hi v : Nat) : (s.setPair lo hi v).fltq = s.fltq := rfl
@[simp] theorem setPair_out24 (s : State) (lo hi v : Nat) : (s.setPair lo hi v).out24 = s.out24 := rfl
@[simp] theorem setPair_out25 (s : State) (lo hi v : Nat) : (s.setPair lo hi v).out25 = s.out25 := rfl
@[simp] theorem setPair_out26 (s : State) (lo hi v : Nat) : (s.setPair lo hi v).out26 = s.out26 := rfl
@[simp] theorem setPair_kaq (s : State) (lo hi v : Nat) : (s.setPair lo hi v).kaq = s.kaq := rfl
@[simp] theorem setPair_egsLast (s : State) (lo hi v : Nat) : (s.setPair lo hi v).egsLast = s.egsLast := rfl
@[simp] theorem setPair_cph (s : State) (lo hi v : Nat) : (s.setPair lo hi v).cph = s.cph := rfl
@[simp] theorem setPair_leases (s : State) (lo hi v : Nat) : (s.setPair lo hi v).leases = s.leases := rfl
@[simp] theorem setPair_pers (s : State) (lo hi v : Nat) : (s.setPair lo hi v).pers = s.pers := rfl
@[simp] theorem setPair_qlb (s : State) (lo hi v : Nat) : (s.setPair lo hi v).qlb = s.qlb := rfl
@[simp] theorem setPair_aud (s : State) (lo hi v : Nat) : (s.setPair lo hi v).aud = s.aud := rfl
@[simp] theorem setPair_can (s : State) (lo hi v : Nat) : (s.setPair lo hi v).can = s.can := rfl
@[simp] theorem setPair_ser (s : State) (lo hi v : Nat) : (s.setPair lo hi v).ser = s.ser := rfl
@[simp] theorem setPair_glv (s : State) (lo hi v : Nat) : (s.setPair lo hi v).glv = s.glv := rfl
@[simp] theorem setPair_wak (s : State) (lo hi v : Nat) : (s.setPair lo hi v).wak = s.wak := rfl
@[simp] theorem setPair_cnt (s : State) (lo hi v : Nat) : (s.setPair lo hi v).cnt = s.cnt := rfl
@[simp] theorem setPair_free (s : State) (lo hi v : Nat) : (s.setPair lo hi v).free = s.free := rfl
@[simp] theorem setPair_pending (s : State) (lo hi v : Nat) : (s.setPair lo hi v).pending = s.pending := rfl

@[simp] theorem add_mem (s : State) (c n : Nat) : (s.add c n).mem = s.mem := rfl
@[simp] theorem add_flash (s : State) (c n : Nat) : (s.add c n).flash = s.flash := rfl
@[simp] theorem add_tables (s : State) (c n : Nat) : (s.add c n).tables = s.tables := rfl
@[simp] theorem add_otp (s : State) (c n : Nat) : (s.add c n).otp = s.otp := rfl
@[simp] theorem add_boot (s : State) (c n : Nat) : (s.add c n).boot = s.boot := rfl
@[simp] theorem add_clk (s : State) (c n : Nat) : (s.add c n).clk = s.clk := rfl
@[simp] theorem add_iq (s : State) (c n : Nat) : (s.add c n).iq = s.iq := rfl
@[simp] theorem add_eq (s : State) (c n : Nat) : (s.add c n).eq = s.eq := rfl
@[simp] theorem add_skew (s : State) (c n : Nat) : (s.add c n).skew = s.skew := rfl
@[simp] theorem add_cap (s : State) (c n : Nat) : (s.add c n).cap = s.cap := rfl
@[simp] theorem add_pls (s : State) (c n : Nat) : (s.add c n).pls = s.pls := rfl
@[simp] theorem add_mac (s : State) (c n : Nat) : (s.add c n).mac = s.mac := rfl
@[simp] theorem add_fwd (s : State) (c n : Nat) : (s.add c n).fwd = s.fwd := rfl
@[simp] theorem add_sct (s : State) (c n : Nat) : (s.add c n).sct = s.sct := rfl
@[simp] theorem add_latAt (s : State) (c n : Nat) : (s.add c n).latAt = s.latAt := rfl
@[simp] theorem add_buf (s : State) (c n : Nat) : (s.add c n).buf = s.buf := rfl
@[simp] theorem add_lists (s : State) (c n : Nat) : (s.add c n).lists = s.lists := rfl
@[simp] theorem add_credit (s : State) (c n : Nat) : (s.add c n).credit = s.credit := rfl
@[simp] theorem add_eng (s : State) (c n : Nat) : (s.add c n).eng = s.eng := rfl
@[simp] theorem add_flt (s : State) (c n : Nat) : (s.add c n).flt = s.flt := rfl
@[simp] theorem add_evq (s : State) (c n : Nat) : (s.add c n).evq = s.evq := rfl
@[simp] theorem add_fltq (s : State) (c n : Nat) : (s.add c n).fltq = s.fltq := rfl
@[simp] theorem add_out24 (s : State) (c n : Nat) : (s.add c n).out24 = s.out24 := rfl
@[simp] theorem add_out25 (s : State) (c n : Nat) : (s.add c n).out25 = s.out25 := rfl
@[simp] theorem add_out26 (s : State) (c n : Nat) : (s.add c n).out26 = s.out26 := rfl
@[simp] theorem add_kaq (s : State) (c n : Nat) : (s.add c n).kaq = s.kaq := rfl
@[simp] theorem add_egsLast (s : State) (c n : Nat) : (s.add c n).egsLast = s.egsLast := rfl
@[simp] theorem add_cph (s : State) (c n : Nat) : (s.add c n).cph = s.cph := rfl
@[simp] theorem add_leases (s : State) (c n : Nat) : (s.add c n).leases = s.leases := rfl
@[simp] theorem add_pers (s : State) (c n : Nat) : (s.add c n).pers = s.pers := rfl
@[simp] theorem add_qlb (s : State) (c n : Nat) : (s.add c n).qlb = s.qlb := rfl
@[simp] theorem add_aud (s : State) (c n : Nat) : (s.add c n).aud = s.aud := rfl
@[simp] theorem add_can (s : State) (c n : Nat) : (s.add c n).can = s.can := rfl
@[simp] theorem add_ser (s : State) (c n : Nat) : (s.add c n).ser = s.ser := rfl
@[simp] theorem add_glv (s : State) (c n : Nat) : (s.add c n).glv = s.glv := rfl
@[simp] theorem add_wak (s : State) (c n : Nat) : (s.add c n).wak = s.wak := rfl
@[simp] theorem add_cnt (s : State) (c n : Nat) : (s.add c n).cnt = s.cnt := rfl
@[simp] theorem add_free (s : State) (c n : Nat) : (s.add c n).free = s.free := rfl
@[simp] theorem add_pending (s : State) (c n : Nat) : (s.add c n).pending = s.pending := rfl

@[simp] theorem inc_mem (s : State) (c : Nat) : (s.inc c).mem = s.mem := rfl
@[simp] theorem inc_flash (s : State) (c : Nat) : (s.inc c).flash = s.flash := rfl
@[simp] theorem inc_tables (s : State) (c : Nat) : (s.inc c).tables = s.tables := rfl
@[simp] theorem inc_otp (s : State) (c : Nat) : (s.inc c).otp = s.otp := rfl
@[simp] theorem inc_boot (s : State) (c : Nat) : (s.inc c).boot = s.boot := rfl
@[simp] theorem inc_clk (s : State) (c : Nat) : (s.inc c).clk = s.clk := rfl
@[simp] theorem inc_iq (s : State) (c : Nat) : (s.inc c).iq = s.iq := rfl
@[simp] theorem inc_eq (s : State) (c : Nat) : (s.inc c).eq = s.eq := rfl
@[simp] theorem inc_skew (s : State) (c : Nat) : (s.inc c).skew = s.skew := rfl
@[simp] theorem inc_cap (s : State) (c : Nat) : (s.inc c).cap = s.cap := rfl
@[simp] theorem inc_pls (s : State) (c : Nat) : (s.inc c).pls = s.pls := rfl
@[simp] theorem inc_mac (s : State) (c : Nat) : (s.inc c).mac = s.mac := rfl
@[simp] theorem inc_fwd (s : State) (c : Nat) : (s.inc c).fwd = s.fwd := rfl
@[simp] theorem inc_sct (s : State) (c : Nat) : (s.inc c).sct = s.sct := rfl
@[simp] theorem inc_latAt (s : State) (c : Nat) : (s.inc c).latAt = s.latAt := rfl
@[simp] theorem inc_buf (s : State) (c : Nat) : (s.inc c).buf = s.buf := rfl
@[simp] theorem inc_lists (s : State) (c : Nat) : (s.inc c).lists = s.lists := rfl
@[simp] theorem inc_credit (s : State) (c : Nat) : (s.inc c).credit = s.credit := rfl
@[simp] theorem inc_eng (s : State) (c : Nat) : (s.inc c).eng = s.eng := rfl
@[simp] theorem inc_flt (s : State) (c : Nat) : (s.inc c).flt = s.flt := rfl
@[simp] theorem inc_evq (s : State) (c : Nat) : (s.inc c).evq = s.evq := rfl
@[simp] theorem inc_fltq (s : State) (c : Nat) : (s.inc c).fltq = s.fltq := rfl
@[simp] theorem inc_out24 (s : State) (c : Nat) : (s.inc c).out24 = s.out24 := rfl
@[simp] theorem inc_out25 (s : State) (c : Nat) : (s.inc c).out25 = s.out25 := rfl
@[simp] theorem inc_out26 (s : State) (c : Nat) : (s.inc c).out26 = s.out26 := rfl
@[simp] theorem inc_kaq (s : State) (c : Nat) : (s.inc c).kaq = s.kaq := rfl
@[simp] theorem inc_egsLast (s : State) (c : Nat) : (s.inc c).egsLast = s.egsLast := rfl
@[simp] theorem inc_cph (s : State) (c : Nat) : (s.inc c).cph = s.cph := rfl
@[simp] theorem inc_leases (s : State) (c : Nat) : (s.inc c).leases = s.leases := rfl
@[simp] theorem inc_pers (s : State) (c : Nat) : (s.inc c).pers = s.pers := rfl
@[simp] theorem inc_qlb (s : State) (c : Nat) : (s.inc c).qlb = s.qlb := rfl
@[simp] theorem inc_aud (s : State) (c : Nat) : (s.inc c).aud = s.aud := rfl
@[simp] theorem inc_can (s : State) (c : Nat) : (s.inc c).can = s.can := rfl
@[simp] theorem inc_ser (s : State) (c : Nat) : (s.inc c).ser = s.ser := rfl
@[simp] theorem inc_glv (s : State) (c : Nat) : (s.inc c).glv = s.glv := rfl
@[simp] theorem inc_wak (s : State) (c : Nat) : (s.inc c).wak = s.wak := rfl
@[simp] theorem inc_cnt (s : State) (c : Nat) : (s.inc c).cnt = s.cnt := rfl
@[simp] theorem inc_free (s : State) (c : Nat) : (s.inc c).free = s.free := rfl
@[simp] theorem inc_pending (s : State) (c : Nat) : (s.inc c).pending = s.pending := rfl

@[simp] theorem incSat_mem (s : State) (f : Fld) : (s.incSat f).mem = s.mem := rfl
@[simp] theorem incSat_flash (s : State) (f : Fld) : (s.incSat f).flash = s.flash := rfl
@[simp] theorem incSat_tables (s : State) (f : Fld) : (s.incSat f).tables = s.tables := rfl
@[simp] theorem incSat_otp (s : State) (f : Fld) : (s.incSat f).otp = s.otp := rfl
@[simp] theorem incSat_boot (s : State) (f : Fld) : (s.incSat f).boot = s.boot := rfl
@[simp] theorem incSat_clk (s : State) (f : Fld) : (s.incSat f).clk = s.clk := rfl
@[simp] theorem incSat_iq (s : State) (f : Fld) : (s.incSat f).iq = s.iq := rfl
@[simp] theorem incSat_eq (s : State) (f : Fld) : (s.incSat f).eq = s.eq := rfl
@[simp] theorem incSat_skew (s : State) (f : Fld) : (s.incSat f).skew = s.skew := rfl
@[simp] theorem incSat_cap (s : State) (f : Fld) : (s.incSat f).cap = s.cap := rfl
@[simp] theorem incSat_pls (s : State) (f : Fld) : (s.incSat f).pls = s.pls := rfl
@[simp] theorem incSat_mac (s : State) (f : Fld) : (s.incSat f).mac = s.mac := rfl
@[simp] theorem incSat_fwd (s : State) (f : Fld) : (s.incSat f).fwd = s.fwd := rfl
@[simp] theorem incSat_sct (s : State) (f : Fld) : (s.incSat f).sct = s.sct := rfl
@[simp] theorem incSat_latAt (s : State) (f : Fld) : (s.incSat f).latAt = s.latAt := rfl
@[simp] theorem incSat_buf (s : State) (f : Fld) : (s.incSat f).buf = s.buf := rfl
@[simp] theorem incSat_lists (s : State) (f : Fld) : (s.incSat f).lists = s.lists := rfl
@[simp] theorem incSat_credit (s : State) (f : Fld) : (s.incSat f).credit = s.credit := rfl
@[simp] theorem incSat_eng (s : State) (f : Fld) : (s.incSat f).eng = s.eng := rfl
@[simp] theorem incSat_flt (s : State) (f : Fld) : (s.incSat f).flt = s.flt := rfl
@[simp] theorem incSat_evq (s : State) (f : Fld) : (s.incSat f).evq = s.evq := rfl
@[simp] theorem incSat_fltq (s : State) (f : Fld) : (s.incSat f).fltq = s.fltq := rfl
@[simp] theorem incSat_out24 (s : State) (f : Fld) : (s.incSat f).out24 = s.out24 := rfl
@[simp] theorem incSat_out25 (s : State) (f : Fld) : (s.incSat f).out25 = s.out25 := rfl
@[simp] theorem incSat_out26 (s : State) (f : Fld) : (s.incSat f).out26 = s.out26 := rfl
@[simp] theorem incSat_kaq (s : State) (f : Fld) : (s.incSat f).kaq = s.kaq := rfl
@[simp] theorem incSat_egsLast (s : State) (f : Fld) : (s.incSat f).egsLast = s.egsLast := rfl
@[simp] theorem incSat_cph (s : State) (f : Fld) : (s.incSat f).cph = s.cph := rfl
@[simp] theorem incSat_leases (s : State) (f : Fld) : (s.incSat f).leases = s.leases := rfl
@[simp] theorem incSat_pers (s : State) (f : Fld) : (s.incSat f).pers = s.pers := rfl
@[simp] theorem incSat_qlb (s : State) (f : Fld) : (s.incSat f).qlb = s.qlb := rfl
@[simp] theorem incSat_aud (s : State) (f : Fld) : (s.incSat f).aud = s.aud := rfl
@[simp] theorem incSat_can (s : State) (f : Fld) : (s.incSat f).can = s.can := rfl
@[simp] theorem incSat_ser (s : State) (f : Fld) : (s.incSat f).ser = s.ser := rfl
@[simp] theorem incSat_glv (s : State) (f : Fld) : (s.incSat f).glv = s.glv := rfl
@[simp] theorem incSat_wak (s : State) (f : Fld) : (s.incSat f).wak = s.wak := rfl
@[simp] theorem incSat_cnt (s : State) (f : Fld) : (s.incSat f).cnt = s.cnt := rfl
@[simp] theorem incSat_free (s : State) (f : Fld) : (s.incSat f).free = s.free := rfl
@[simp] theorem incSat_pending (s : State) (f : Fld) : (s.incSat f).pending = s.pending := rfl

@[simp] theorem add64_mem (s : State) (lo n : Nat) : (s.add64 lo n).mem = s.mem := rfl
@[simp] theorem add64_flash (s : State) (lo n : Nat) : (s.add64 lo n).flash = s.flash := rfl
@[simp] theorem add64_tables (s : State) (lo n : Nat) : (s.add64 lo n).tables = s.tables := rfl
@[simp] theorem add64_otp (s : State) (lo n : Nat) : (s.add64 lo n).otp = s.otp := rfl
@[simp] theorem add64_boot (s : State) (lo n : Nat) : (s.add64 lo n).boot = s.boot := rfl
@[simp] theorem add64_clk (s : State) (lo n : Nat) : (s.add64 lo n).clk = s.clk := rfl
@[simp] theorem add64_iq (s : State) (lo n : Nat) : (s.add64 lo n).iq = s.iq := rfl
@[simp] theorem add64_eq (s : State) (lo n : Nat) : (s.add64 lo n).eq = s.eq := rfl
@[simp] theorem add64_skew (s : State) (lo n : Nat) : (s.add64 lo n).skew = s.skew := rfl
@[simp] theorem add64_cap (s : State) (lo n : Nat) : (s.add64 lo n).cap = s.cap := rfl
@[simp] theorem add64_pls (s : State) (lo n : Nat) : (s.add64 lo n).pls = s.pls := rfl
@[simp] theorem add64_mac (s : State) (lo n : Nat) : (s.add64 lo n).mac = s.mac := rfl
@[simp] theorem add64_fwd (s : State) (lo n : Nat) : (s.add64 lo n).fwd = s.fwd := rfl
@[simp] theorem add64_sct (s : State) (lo n : Nat) : (s.add64 lo n).sct = s.sct := rfl
@[simp] theorem add64_latAt (s : State) (lo n : Nat) : (s.add64 lo n).latAt = s.latAt := rfl
@[simp] theorem add64_buf (s : State) (lo n : Nat) : (s.add64 lo n).buf = s.buf := rfl
@[simp] theorem add64_lists (s : State) (lo n : Nat) : (s.add64 lo n).lists = s.lists := rfl
@[simp] theorem add64_credit (s : State) (lo n : Nat) : (s.add64 lo n).credit = s.credit := rfl
@[simp] theorem add64_eng (s : State) (lo n : Nat) : (s.add64 lo n).eng = s.eng := rfl
@[simp] theorem add64_flt (s : State) (lo n : Nat) : (s.add64 lo n).flt = s.flt := rfl
@[simp] theorem add64_evq (s : State) (lo n : Nat) : (s.add64 lo n).evq = s.evq := rfl
@[simp] theorem add64_fltq (s : State) (lo n : Nat) : (s.add64 lo n).fltq = s.fltq := rfl
@[simp] theorem add64_out24 (s : State) (lo n : Nat) : (s.add64 lo n).out24 = s.out24 := rfl
@[simp] theorem add64_out25 (s : State) (lo n : Nat) : (s.add64 lo n).out25 = s.out25 := rfl
@[simp] theorem add64_out26 (s : State) (lo n : Nat) : (s.add64 lo n).out26 = s.out26 := rfl
@[simp] theorem add64_kaq (s : State) (lo n : Nat) : (s.add64 lo n).kaq = s.kaq := rfl
@[simp] theorem add64_egsLast (s : State) (lo n : Nat) : (s.add64 lo n).egsLast = s.egsLast := rfl
@[simp] theorem add64_cph (s : State) (lo n : Nat) : (s.add64 lo n).cph = s.cph := rfl
@[simp] theorem add64_leases (s : State) (lo n : Nat) : (s.add64 lo n).leases = s.leases := rfl
@[simp] theorem add64_pers (s : State) (lo n : Nat) : (s.add64 lo n).pers = s.pers := rfl
@[simp] theorem add64_qlb (s : State) (lo n : Nat) : (s.add64 lo n).qlb = s.qlb := rfl
@[simp] theorem add64_aud (s : State) (lo n : Nat) : (s.add64 lo n).aud = s.aud := rfl
@[simp] theorem add64_can (s : State) (lo n : Nat) : (s.add64 lo n).can = s.can := rfl
@[simp] theorem add64_ser (s : State) (lo n : Nat) : (s.add64 lo n).ser = s.ser := rfl
@[simp] theorem add64_glv (s : State) (lo n : Nat) : (s.add64 lo n).glv = s.glv := rfl
@[simp] theorem add64_wak (s : State) (lo n : Nat) : (s.add64 lo n).wak = s.wak := rfl
@[simp] theorem add64_cnt (s : State) (lo n : Nat) : (s.add64 lo n).cnt = s.cnt := rfl
@[simp] theorem add64_free (s : State) (lo n : Nat) : (s.add64 lo n).free = s.free := rfl
@[simp] theorem add64_pending (s : State) (lo n : Nat) : (s.add64 lo n).pending = s.pending := rfl

@[simp] theorem store_regs (s : State) (a : Nat) (l : List Byte) : (s.store a l).regs = s.regs := rfl
@[simp] theorem store_flash (s : State) (a : Nat) (l : List Byte) : (s.store a l).flash = s.flash := rfl
@[simp] theorem store_tables (s : State) (a : Nat) (l : List Byte) : (s.store a l).tables = s.tables := rfl
@[simp] theorem store_otp (s : State) (a : Nat) (l : List Byte) : (s.store a l).otp = s.otp := rfl
@[simp] theorem store_boot (s : State) (a : Nat) (l : List Byte) : (s.store a l).boot = s.boot := rfl
@[simp] theorem store_clk (s : State) (a : Nat) (l : List Byte) : (s.store a l).clk = s.clk := rfl
@[simp] theorem store_iq (s : State) (a : Nat) (l : List Byte) : (s.store a l).iq = s.iq := rfl
@[simp] theorem store_eq (s : State) (a : Nat) (l : List Byte) : (s.store a l).eq = s.eq := rfl
@[simp] theorem store_skew (s : State) (a : Nat) (l : List Byte) : (s.store a l).skew = s.skew := rfl
@[simp] theorem store_cap (s : State) (a : Nat) (l : List Byte) : (s.store a l).cap = s.cap := rfl
@[simp] theorem store_pls (s : State) (a : Nat) (l : List Byte) : (s.store a l).pls = s.pls := rfl
@[simp] theorem store_mac (s : State) (a : Nat) (l : List Byte) : (s.store a l).mac = s.mac := rfl
@[simp] theorem store_fwd (s : State) (a : Nat) (l : List Byte) : (s.store a l).fwd = s.fwd := rfl
@[simp] theorem store_sct (s : State) (a : Nat) (l : List Byte) : (s.store a l).sct = s.sct := rfl
@[simp] theorem store_latAt (s : State) (a : Nat) (l : List Byte) : (s.store a l).latAt = s.latAt := rfl
@[simp] theorem store_buf (s : State) (a : Nat) (l : List Byte) : (s.store a l).buf = s.buf := rfl
@[simp] theorem store_lists (s : State) (a : Nat) (l : List Byte) : (s.store a l).lists = s.lists := rfl
@[simp] theorem store_credit (s : State) (a : Nat) (l : List Byte) : (s.store a l).credit = s.credit := rfl
@[simp] theorem store_flt (s : State) (a : Nat) (l : List Byte) : (s.store a l).flt = s.flt := rfl
@[simp] theorem store_evq (s : State) (a : Nat) (l : List Byte) : (s.store a l).evq = s.evq := rfl
@[simp] theorem store_fltq (s : State) (a : Nat) (l : List Byte) : (s.store a l).fltq = s.fltq := rfl
@[simp] theorem store_out24 (s : State) (a : Nat) (l : List Byte) : (s.store a l).out24 = s.out24 := rfl
@[simp] theorem store_out25 (s : State) (a : Nat) (l : List Byte) : (s.store a l).out25 = s.out25 := rfl
@[simp] theorem store_out26 (s : State) (a : Nat) (l : List Byte) : (s.store a l).out26 = s.out26 := rfl
@[simp] theorem store_kaq (s : State) (a : Nat) (l : List Byte) : (s.store a l).kaq = s.kaq := rfl
@[simp] theorem store_egsLast (s : State) (a : Nat) (l : List Byte) : (s.store a l).egsLast = s.egsLast := rfl
@[simp] theorem store_cph (s : State) (a : Nat) (l : List Byte) : (s.store a l).cph = s.cph := rfl
@[simp] theorem store_leases (s : State) (a : Nat) (l : List Byte) : (s.store a l).leases = s.leases := rfl
@[simp] theorem store_pers (s : State) (a : Nat) (l : List Byte) : (s.store a l).pers = s.pers := rfl
@[simp] theorem store_qlb (s : State) (a : Nat) (l : List Byte) : (s.store a l).qlb = s.qlb := rfl
@[simp] theorem store_aud (s : State) (a : Nat) (l : List Byte) : (s.store a l).aud = s.aud := rfl
@[simp] theorem store_can (s : State) (a : Nat) (l : List Byte) : (s.store a l).can = s.can := rfl
@[simp] theorem store_ser (s : State) (a : Nat) (l : List Byte) : (s.store a l).ser = s.ser := rfl
@[simp] theorem store_glv (s : State) (a : Nat) (l : List Byte) : (s.store a l).glv = s.glv := rfl
@[simp] theorem store_wak (s : State) (a : Nat) (l : List Byte) : (s.store a l).wak = s.wak := rfl
@[simp] theorem store_cnt (s : State) (a : Nat) (l : List Byte) : (s.store a l).cnt = s.cnt := rfl
@[simp] theorem store_free (s : State) (a : Nat) (l : List Byte) : (s.store a l).free = s.free := rfl
@[simp] theorem store_pending (s : State) (a : Nat) (l : List Byte) : (s.store a l).pending = s.pending := rfl

@[simp] theorem storeWord_regs (s : State) (a v : Nat) : (s.storeWord a v).regs = s.regs := rfl
@[simp] theorem storeWord_flash (s : State) (a v : Nat) : (s.storeWord a v).flash = s.flash := rfl
@[simp] theorem storeWord_tables (s : State) (a v : Nat) : (s.storeWord a v).tables = s.tables := rfl
@[simp] theorem storeWord_otp (s : State) (a v : Nat) : (s.storeWord a v).otp = s.otp := rfl
@[simp] theorem storeWord_boot (s : State) (a v : Nat) : (s.storeWord a v).boot = s.boot := rfl
@[simp] theorem storeWord_clk (s : State) (a v : Nat) : (s.storeWord a v).clk = s.clk := rfl
@[simp] theorem storeWord_iq (s : State) (a v : Nat) : (s.storeWord a v).iq = s.iq := rfl
@[simp] theorem storeWord_eq (s : State) (a v : Nat) : (s.storeWord a v).eq = s.eq := rfl
@[simp] theorem storeWord_skew (s : State) (a v : Nat) : (s.storeWord a v).skew = s.skew := rfl
@[simp] theorem storeWord_cap (s : State) (a v : Nat) : (s.storeWord a v).cap = s.cap := rfl
@[simp] theorem storeWord_pls (s : State) (a v : Nat) : (s.storeWord a v).pls = s.pls := rfl
@[simp] theorem storeWord_mac (s : State) (a v : Nat) : (s.storeWord a v).mac = s.mac := rfl
@[simp] theorem storeWord_fwd (s : State) (a v : Nat) : (s.storeWord a v).fwd = s.fwd := rfl
@[simp] theorem storeWord_sct (s : State) (a v : Nat) : (s.storeWord a v).sct = s.sct := rfl
@[simp] theorem storeWord_latAt (s : State) (a v : Nat) : (s.storeWord a v).latAt = s.latAt := rfl
@[simp] theorem storeWord_buf (s : State) (a v : Nat) : (s.storeWord a v).buf = s.buf := rfl
@[simp] theorem storeWord_lists (s : State) (a v : Nat) : (s.storeWord a v).lists = s.lists := rfl
@[simp] theorem storeWord_credit (s : State) (a v : Nat) : (s.storeWord a v).credit = s.credit := rfl
@[simp] theorem storeWord_flt (s : State) (a v : Nat) : (s.storeWord a v).flt = s.flt := rfl
@[simp] theorem storeWord_evq (s : State) (a v : Nat) : (s.storeWord a v).evq = s.evq := rfl
@[simp] theorem storeWord_fltq (s : State) (a v : Nat) : (s.storeWord a v).fltq = s.fltq := rfl
@[simp] theorem storeWord_out24 (s : State) (a v : Nat) : (s.storeWord a v).out24 = s.out24 := rfl
@[simp] theorem storeWord_out25 (s : State) (a v : Nat) : (s.storeWord a v).out25 = s.out25 := rfl
@[simp] theorem storeWord_out26 (s : State) (a v : Nat) : (s.storeWord a v).out26 = s.out26 := rfl
@[simp] theorem storeWord_kaq (s : State) (a v : Nat) : (s.storeWord a v).kaq = s.kaq := rfl
@[simp] theorem storeWord_egsLast (s : State) (a v : Nat) : (s.storeWord a v).egsLast = s.egsLast := rfl
@[simp] theorem storeWord_cph (s : State) (a v : Nat) : (s.storeWord a v).cph = s.cph := rfl
@[simp] theorem storeWord_leases (s : State) (a v : Nat) : (s.storeWord a v).leases = s.leases := rfl
@[simp] theorem storeWord_pers (s : State) (a v : Nat) : (s.storeWord a v).pers = s.pers := rfl
@[simp] theorem storeWord_qlb (s : State) (a v : Nat) : (s.storeWord a v).qlb = s.qlb := rfl
@[simp] theorem storeWord_aud (s : State) (a v : Nat) : (s.storeWord a v).aud = s.aud := rfl
@[simp] theorem storeWord_can (s : State) (a v : Nat) : (s.storeWord a v).can = s.can := rfl
@[simp] theorem storeWord_ser (s : State) (a v : Nat) : (s.storeWord a v).ser = s.ser := rfl
@[simp] theorem storeWord_glv (s : State) (a v : Nat) : (s.storeWord a v).glv = s.glv := rfl
@[simp] theorem storeWord_wak (s : State) (a v : Nat) : (s.storeWord a v).wak = s.wak := rfl
@[simp] theorem storeWord_cnt (s : State) (a v : Nat) : (s.storeWord a v).cnt = s.cnt := rfl
@[simp] theorem storeWord_free (s : State) (a v : Nat) : (s.storeWord a v).free = s.free := rfl
@[simp] theorem storeWord_pending (s : State) (a v : Nat) : (s.storeWord a v).pending = s.pending := rfl

@[simp] theorem program_regs (s : State) (o : Nat) (l : List Byte) : (s.program o l).regs = s.regs := rfl
@[simp] theorem program_mem (s : State) (o : Nat) (l : List Byte) : (s.program o l).mem = s.mem := rfl
@[simp] theorem program_tables (s : State) (o : Nat) (l : List Byte) : (s.program o l).tables = s.tables := rfl
@[simp] theorem program_otp (s : State) (o : Nat) (l : List Byte) : (s.program o l).otp = s.otp := rfl
@[simp] theorem program_boot (s : State) (o : Nat) (l : List Byte) : (s.program o l).boot = s.boot := rfl
@[simp] theorem program_clk (s : State) (o : Nat) (l : List Byte) : (s.program o l).clk = s.clk := rfl
@[simp] theorem program_iq (s : State) (o : Nat) (l : List Byte) : (s.program o l).iq = s.iq := rfl
@[simp] theorem program_eq (s : State) (o : Nat) (l : List Byte) : (s.program o l).eq = s.eq := rfl
@[simp] theorem program_skew (s : State) (o : Nat) (l : List Byte) : (s.program o l).skew = s.skew := rfl
@[simp] theorem program_cap (s : State) (o : Nat) (l : List Byte) : (s.program o l).cap = s.cap := rfl
@[simp] theorem program_pls (s : State) (o : Nat) (l : List Byte) : (s.program o l).pls = s.pls := rfl
@[simp] theorem program_mac (s : State) (o : Nat) (l : List Byte) : (s.program o l).mac = s.mac := rfl
@[simp] theorem program_fwd (s : State) (o : Nat) (l : List Byte) : (s.program o l).fwd = s.fwd := rfl
@[simp] theorem program_sct (s : State) (o : Nat) (l : List Byte) : (s.program o l).sct = s.sct := rfl
@[simp] theorem program_latAt (s : State) (o : Nat) (l : List Byte) : (s.program o l).latAt = s.latAt := rfl
@[simp] theorem program_buf (s : State) (o : Nat) (l : List Byte) : (s.program o l).buf = s.buf := rfl
@[simp] theorem program_lists (s : State) (o : Nat) (l : List Byte) : (s.program o l).lists = s.lists := rfl
@[simp] theorem program_credit (s : State) (o : Nat) (l : List Byte) : (s.program o l).credit = s.credit := rfl
@[simp] theorem program_eng (s : State) (o : Nat) (l : List Byte) : (s.program o l).eng = s.eng := rfl
@[simp] theorem program_flt (s : State) (o : Nat) (l : List Byte) : (s.program o l).flt = s.flt := rfl
@[simp] theorem program_evq (s : State) (o : Nat) (l : List Byte) : (s.program o l).evq = s.evq := rfl
@[simp] theorem program_fltq (s : State) (o : Nat) (l : List Byte) : (s.program o l).fltq = s.fltq := rfl
@[simp] theorem program_out24 (s : State) (o : Nat) (l : List Byte) : (s.program o l).out24 = s.out24 := rfl
@[simp] theorem program_out25 (s : State) (o : Nat) (l : List Byte) : (s.program o l).out25 = s.out25 := rfl
@[simp] theorem program_out26 (s : State) (o : Nat) (l : List Byte) : (s.program o l).out26 = s.out26 := rfl
@[simp] theorem program_kaq (s : State) (o : Nat) (l : List Byte) : (s.program o l).kaq = s.kaq := rfl
@[simp] theorem program_egsLast (s : State) (o : Nat) (l : List Byte) : (s.program o l).egsLast = s.egsLast := rfl
@[simp] theorem program_cph (s : State) (o : Nat) (l : List Byte) : (s.program o l).cph = s.cph := rfl
@[simp] theorem program_leases (s : State) (o : Nat) (l : List Byte) : (s.program o l).leases = s.leases := rfl
@[simp] theorem program_pers (s : State) (o : Nat) (l : List Byte) : (s.program o l).pers = s.pers := rfl
@[simp] theorem program_qlb (s : State) (o : Nat) (l : List Byte) : (s.program o l).qlb = s.qlb := rfl
@[simp] theorem program_aud (s : State) (o : Nat) (l : List Byte) : (s.program o l).aud = s.aud := rfl
@[simp] theorem program_can (s : State) (o : Nat) (l : List Byte) : (s.program o l).can = s.can := rfl
@[simp] theorem program_ser (s : State) (o : Nat) (l : List Byte) : (s.program o l).ser = s.ser := rfl
@[simp] theorem program_glv (s : State) (o : Nat) (l : List Byte) : (s.program o l).glv = s.glv := rfl
@[simp] theorem program_wak (s : State) (o : Nat) (l : List Byte) : (s.program o l).wak = s.wak := rfl
@[simp] theorem program_cnt (s : State) (o : Nat) (l : List Byte) : (s.program o l).cnt = s.cnt := rfl
@[simp] theorem program_free (s : State) (o : Nat) (l : List Byte) : (s.program o l).free = s.free := rfl
@[simp] theorem program_pending (s : State) (o : Nat) (l : List Byte) : (s.program o l).pending = s.pending := rfl

@[simp] theorem erase_regs (s : State) (o n : Nat) : (s.erase o n).regs = s.regs := rfl
@[simp] theorem erase_mem (s : State) (o n : Nat) : (s.erase o n).mem = s.mem := rfl
@[simp] theorem erase_tables (s : State) (o n : Nat) : (s.erase o n).tables = s.tables := rfl
@[simp] theorem erase_otp (s : State) (o n : Nat) : (s.erase o n).otp = s.otp := rfl
@[simp] theorem erase_boot (s : State) (o n : Nat) : (s.erase o n).boot = s.boot := rfl
@[simp] theorem erase_clk (s : State) (o n : Nat) : (s.erase o n).clk = s.clk := rfl
@[simp] theorem erase_iq (s : State) (o n : Nat) : (s.erase o n).iq = s.iq := rfl
@[simp] theorem erase_eq (s : State) (o n : Nat) : (s.erase o n).eq = s.eq := rfl
@[simp] theorem erase_skew (s : State) (o n : Nat) : (s.erase o n).skew = s.skew := rfl
@[simp] theorem erase_cap (s : State) (o n : Nat) : (s.erase o n).cap = s.cap := rfl
@[simp] theorem erase_pls (s : State) (o n : Nat) : (s.erase o n).pls = s.pls := rfl
@[simp] theorem erase_mac (s : State) (o n : Nat) : (s.erase o n).mac = s.mac := rfl
@[simp] theorem erase_fwd (s : State) (o n : Nat) : (s.erase o n).fwd = s.fwd := rfl
@[simp] theorem erase_sct (s : State) (o n : Nat) : (s.erase o n).sct = s.sct := rfl
@[simp] theorem erase_latAt (s : State) (o n : Nat) : (s.erase o n).latAt = s.latAt := rfl
@[simp] theorem erase_buf (s : State) (o n : Nat) : (s.erase o n).buf = s.buf := rfl
@[simp] theorem erase_lists (s : State) (o n : Nat) : (s.erase o n).lists = s.lists := rfl
@[simp] theorem erase_credit (s : State) (o n : Nat) : (s.erase o n).credit = s.credit := rfl
@[simp] theorem erase_eng (s : State) (o n : Nat) : (s.erase o n).eng = s.eng := rfl
@[simp] theorem erase_flt (s : State) (o n : Nat) : (s.erase o n).flt = s.flt := rfl
@[simp] theorem erase_evq (s : State) (o n : Nat) : (s.erase o n).evq = s.evq := rfl
@[simp] theorem erase_fltq (s : State) (o n : Nat) : (s.erase o n).fltq = s.fltq := rfl
@[simp] theorem erase_out24 (s : State) (o n : Nat) : (s.erase o n).out24 = s.out24 := rfl
@[simp] theorem erase_out25 (s : State) (o n : Nat) : (s.erase o n).out25 = s.out25 := rfl
@[simp] theorem erase_out26 (s : State) (o n : Nat) : (s.erase o n).out26 = s.out26 := rfl
@[simp] theorem erase_kaq (s : State) (o n : Nat) : (s.erase o n).kaq = s.kaq := rfl
@[simp] theorem erase_egsLast (s : State) (o n : Nat) : (s.erase o n).egsLast = s.egsLast := rfl
@[simp] theorem erase_cph (s : State) (o n : Nat) : (s.erase o n).cph = s.cph := rfl
@[simp] theorem erase_leases (s : State) (o n : Nat) : (s.erase o n).leases = s.leases := rfl
@[simp] theorem erase_pers (s : State) (o n : Nat) : (s.erase o n).pers = s.pers := rfl
@[simp] theorem erase_qlb (s : State) (o n : Nat) : (s.erase o n).qlb = s.qlb := rfl
@[simp] theorem erase_aud (s : State) (o n : Nat) : (s.erase o n).aud = s.aud := rfl
@[simp] theorem erase_can (s : State) (o n : Nat) : (s.erase o n).can = s.can := rfl
@[simp] theorem erase_ser (s : State) (o n : Nat) : (s.erase o n).ser = s.ser := rfl
@[simp] theorem erase_glv (s : State) (o n : Nat) : (s.erase o n).glv = s.glv := rfl
@[simp] theorem erase_wak (s : State) (o n : Nat) : (s.erase o n).wak = s.wak := rfl
@[simp] theorem erase_cnt (s : State) (o n : Nat) : (s.erase o n).cnt = s.cnt := rfl
@[simp] theorem erase_free (s : State) (o n : Nat) : (s.erase o n).free = s.free := rfl
@[simp] theorem erase_pending (s : State) (o n : Nat) : (s.erase o n).pending = s.pending := rfl

@[simp] theorem setEntry_regs (s : State) (t i : Nat) (w : List Word) : (s.setEntry t i w).regs = s.regs := rfl
@[simp] theorem setEntry_mem (s : State) (t i : Nat) (w : List Word) : (s.setEntry t i w).mem = s.mem := rfl
@[simp] theorem setEntry_flash (s : State) (t i : Nat) (w : List Word) : (s.setEntry t i w).flash = s.flash := rfl
@[simp] theorem setEntry_otp (s : State) (t i : Nat) (w : List Word) : (s.setEntry t i w).otp = s.otp := rfl
@[simp] theorem setEntry_boot (s : State) (t i : Nat) (w : List Word) : (s.setEntry t i w).boot = s.boot := rfl
@[simp] theorem setEntry_clk (s : State) (t i : Nat) (w : List Word) : (s.setEntry t i w).clk = s.clk := rfl
@[simp] theorem setEntry_iq (s : State) (t i : Nat) (w : List Word) : (s.setEntry t i w).iq = s.iq := rfl
@[simp] theorem setEntry_eq (s : State) (t i : Nat) (w : List Word) : (s.setEntry t i w).eq = s.eq := rfl
@[simp] theorem setEntry_skew (s : State) (t i : Nat) (w : List Word) : (s.setEntry t i w).skew = s.skew := rfl
@[simp] theorem setEntry_cap (s : State) (t i : Nat) (w : List Word) : (s.setEntry t i w).cap = s.cap := rfl
@[simp] theorem setEntry_pls (s : State) (t i : Nat) (w : List Word) : (s.setEntry t i w).pls = s.pls := rfl
@[simp] theorem setEntry_mac (s : State) (t i : Nat) (w : List Word) : (s.setEntry t i w).mac = s.mac := rfl
@[simp] theorem setEntry_fwd (s : State) (t i : Nat) (w : List Word) : (s.setEntry t i w).fwd = s.fwd := rfl
@[simp] theorem setEntry_sct (s : State) (t i : Nat) (w : List Word) : (s.setEntry t i w).sct = s.sct := rfl
@[simp] theorem setEntry_latAt (s : State) (t i : Nat) (w : List Word) : (s.setEntry t i w).latAt = s.latAt := rfl
@[simp] theorem setEntry_buf (s : State) (t i : Nat) (w : List Word) : (s.setEntry t i w).buf = s.buf := rfl
@[simp] theorem setEntry_lists (s : State) (t i : Nat) (w : List Word) : (s.setEntry t i w).lists = s.lists := rfl
@[simp] theorem setEntry_credit (s : State) (t i : Nat) (w : List Word) : (s.setEntry t i w).credit = s.credit := rfl
@[simp] theorem setEntry_eng (s : State) (t i : Nat) (w : List Word) : (s.setEntry t i w).eng = s.eng := rfl
@[simp] theorem setEntry_flt (s : State) (t i : Nat) (w : List Word) : (s.setEntry t i w).flt = s.flt := rfl
@[simp] theorem setEntry_evq (s : State) (t i : Nat) (w : List Word) : (s.setEntry t i w).evq = s.evq := rfl
@[simp] theorem setEntry_fltq (s : State) (t i : Nat) (w : List Word) : (s.setEntry t i w).fltq = s.fltq := rfl
@[simp] theorem setEntry_out24 (s : State) (t i : Nat) (w : List Word) : (s.setEntry t i w).out24 = s.out24 := rfl
@[simp] theorem setEntry_out25 (s : State) (t i : Nat) (w : List Word) : (s.setEntry t i w).out25 = s.out25 := rfl
@[simp] theorem setEntry_out26 (s : State) (t i : Nat) (w : List Word) : (s.setEntry t i w).out26 = s.out26 := rfl
@[simp] theorem setEntry_kaq (s : State) (t i : Nat) (w : List Word) : (s.setEntry t i w).kaq = s.kaq := rfl
@[simp] theorem setEntry_egsLast (s : State) (t i : Nat) (w : List Word) : (s.setEntry t i w).egsLast = s.egsLast := rfl
@[simp] theorem setEntry_cph (s : State) (t i : Nat) (w : List Word) : (s.setEntry t i w).cph = s.cph := rfl
@[simp] theorem setEntry_leases (s : State) (t i : Nat) (w : List Word) : (s.setEntry t i w).leases = s.leases := rfl
@[simp] theorem setEntry_pers (s : State) (t i : Nat) (w : List Word) : (s.setEntry t i w).pers = s.pers := rfl
@[simp] theorem setEntry_qlb (s : State) (t i : Nat) (w : List Word) : (s.setEntry t i w).qlb = s.qlb := rfl
@[simp] theorem setEntry_aud (s : State) (t i : Nat) (w : List Word) : (s.setEntry t i w).aud = s.aud := rfl
@[simp] theorem setEntry_can (s : State) (t i : Nat) (w : List Word) : (s.setEntry t i w).can = s.can := rfl
@[simp] theorem setEntry_ser (s : State) (t i : Nat) (w : List Word) : (s.setEntry t i w).ser = s.ser := rfl
@[simp] theorem setEntry_glv (s : State) (t i : Nat) (w : List Word) : (s.setEntry t i w).glv = s.glv := rfl
@[simp] theorem setEntry_wak (s : State) (t i : Nat) (w : List Word) : (s.setEntry t i w).wak = s.wak := rfl
@[simp] theorem setEntry_cnt (s : State) (t i : Nat) (w : List Word) : (s.setEntry t i w).cnt = s.cnt := rfl
@[simp] theorem setEntry_free (s : State) (t i : Nat) (w : List Word) : (s.setEntry t i w).free = s.free := rfl
@[simp] theorem setEntry_pending (s : State) (t i : Nat) (w : List Word) : (s.setEntry t i w).pending = s.pending := rfl

@[simp] theorem setPort_regs (s : State) (p : Nat) (m : MacPort) : (s.setPort p m).regs = s.regs := rfl
@[simp] theorem setPort_mem (s : State) (p : Nat) (m : MacPort) : (s.setPort p m).mem = s.mem := rfl
@[simp] theorem setPort_flash (s : State) (p : Nat) (m : MacPort) : (s.setPort p m).flash = s.flash := rfl
@[simp] theorem setPort_tables (s : State) (p : Nat) (m : MacPort) : (s.setPort p m).tables = s.tables := rfl
@[simp] theorem setPort_otp (s : State) (p : Nat) (m : MacPort) : (s.setPort p m).otp = s.otp := rfl
@[simp] theorem setPort_boot (s : State) (p : Nat) (m : MacPort) : (s.setPort p m).boot = s.boot := rfl
@[simp] theorem setPort_clk (s : State) (p : Nat) (m : MacPort) : (s.setPort p m).clk = s.clk := rfl
@[simp] theorem setPort_iq (s : State) (p : Nat) (m : MacPort) : (s.setPort p m).iq = s.iq := rfl
@[simp] theorem setPort_eq (s : State) (p : Nat) (m : MacPort) : (s.setPort p m).eq = s.eq := rfl
@[simp] theorem setPort_skew (s : State) (p : Nat) (m : MacPort) : (s.setPort p m).skew = s.skew := rfl
@[simp] theorem setPort_cap (s : State) (p : Nat) (m : MacPort) : (s.setPort p m).cap = s.cap := rfl
@[simp] theorem setPort_pls (s : State) (p : Nat) (m : MacPort) : (s.setPort p m).pls = s.pls := rfl
@[simp] theorem setPort_fwd (s : State) (p : Nat) (m : MacPort) : (s.setPort p m).fwd = s.fwd := rfl
@[simp] theorem setPort_sct (s : State) (p : Nat) (m : MacPort) : (s.setPort p m).sct = s.sct := rfl
@[simp] theorem setPort_latAt (s : State) (p : Nat) (m : MacPort) : (s.setPort p m).latAt = s.latAt := rfl
@[simp] theorem setPort_buf (s : State) (p : Nat) (m : MacPort) : (s.setPort p m).buf = s.buf := rfl
@[simp] theorem setPort_lists (s : State) (p : Nat) (m : MacPort) : (s.setPort p m).lists = s.lists := rfl
@[simp] theorem setPort_credit (s : State) (p : Nat) (m : MacPort) : (s.setPort p m).credit = s.credit := rfl
@[simp] theorem setPort_eng (s : State) (p : Nat) (m : MacPort) : (s.setPort p m).eng = s.eng := rfl
@[simp] theorem setPort_flt (s : State) (p : Nat) (m : MacPort) : (s.setPort p m).flt = s.flt := rfl
@[simp] theorem setPort_evq (s : State) (p : Nat) (m : MacPort) : (s.setPort p m).evq = s.evq := rfl
@[simp] theorem setPort_fltq (s : State) (p : Nat) (m : MacPort) : (s.setPort p m).fltq = s.fltq := rfl
@[simp] theorem setPort_out24 (s : State) (p : Nat) (m : MacPort) : (s.setPort p m).out24 = s.out24 := rfl
@[simp] theorem setPort_out25 (s : State) (p : Nat) (m : MacPort) : (s.setPort p m).out25 = s.out25 := rfl
@[simp] theorem setPort_out26 (s : State) (p : Nat) (m : MacPort) : (s.setPort p m).out26 = s.out26 := rfl
@[simp] theorem setPort_kaq (s : State) (p : Nat) (m : MacPort) : (s.setPort p m).kaq = s.kaq := rfl
@[simp] theorem setPort_egsLast (s : State) (p : Nat) (m : MacPort) : (s.setPort p m).egsLast = s.egsLast := rfl
@[simp] theorem setPort_cph (s : State) (p : Nat) (m : MacPort) : (s.setPort p m).cph = s.cph := rfl
@[simp] theorem setPort_leases (s : State) (p : Nat) (m : MacPort) : (s.setPort p m).leases = s.leases := rfl
@[simp] theorem setPort_pers (s : State) (p : Nat) (m : MacPort) : (s.setPort p m).pers = s.pers := rfl
@[simp] theorem setPort_qlb (s : State) (p : Nat) (m : MacPort) : (s.setPort p m).qlb = s.qlb := rfl
@[simp] theorem setPort_aud (s : State) (p : Nat) (m : MacPort) : (s.setPort p m).aud = s.aud := rfl
@[simp] theorem setPort_can (s : State) (p : Nat) (m : MacPort) : (s.setPort p m).can = s.can := rfl
@[simp] theorem setPort_ser (s : State) (p : Nat) (m : MacPort) : (s.setPort p m).ser = s.ser := rfl
@[simp] theorem setPort_glv (s : State) (p : Nat) (m : MacPort) : (s.setPort p m).glv = s.glv := rfl
@[simp] theorem setPort_wak (s : State) (p : Nat) (m : MacPort) : (s.setPort p m).wak = s.wak := rfl
@[simp] theorem setPort_cnt (s : State) (p : Nat) (m : MacPort) : (s.setPort p m).cnt = s.cnt := rfl
@[simp] theorem setPort_free (s : State) (p : Nat) (m : MacPort) : (s.setPort p m).free = s.free := rfl
@[simp] theorem setPort_pending (s : State) (p : Nat) (m : MacPort) : (s.setPort p m).pending = s.pending := rfl

@[simp] theorem modPort_regs (s : State) (p : Nat) (f : MacPort → MacPort) : (s.modPort p f).regs = s.regs := rfl
@[simp] theorem modPort_mem (s : State) (p : Nat) (f : MacPort → MacPort) : (s.modPort p f).mem = s.mem := rfl
@[simp] theorem modPort_flash (s : State) (p : Nat) (f : MacPort → MacPort) : (s.modPort p f).flash = s.flash := rfl
@[simp] theorem modPort_tables (s : State) (p : Nat) (f : MacPort → MacPort) : (s.modPort p f).tables = s.tables := rfl
@[simp] theorem modPort_otp (s : State) (p : Nat) (f : MacPort → MacPort) : (s.modPort p f).otp = s.otp := rfl
@[simp] theorem modPort_boot (s : State) (p : Nat) (f : MacPort → MacPort) : (s.modPort p f).boot = s.boot := rfl
@[simp] theorem modPort_clk (s : State) (p : Nat) (f : MacPort → MacPort) : (s.modPort p f).clk = s.clk := rfl
@[simp] theorem modPort_iq (s : State) (p : Nat) (f : MacPort → MacPort) : (s.modPort p f).iq = s.iq := rfl
@[simp] theorem modPort_eq (s : State) (p : Nat) (f : MacPort → MacPort) : (s.modPort p f).eq = s.eq := rfl
@[simp] theorem modPort_skew (s : State) (p : Nat) (f : MacPort → MacPort) : (s.modPort p f).skew = s.skew := rfl
@[simp] theorem modPort_cap (s : State) (p : Nat) (f : MacPort → MacPort) : (s.modPort p f).cap = s.cap := rfl
@[simp] theorem modPort_pls (s : State) (p : Nat) (f : MacPort → MacPort) : (s.modPort p f).pls = s.pls := rfl
@[simp] theorem modPort_fwd (s : State) (p : Nat) (f : MacPort → MacPort) : (s.modPort p f).fwd = s.fwd := rfl
@[simp] theorem modPort_sct (s : State) (p : Nat) (f : MacPort → MacPort) : (s.modPort p f).sct = s.sct := rfl
@[simp] theorem modPort_latAt (s : State) (p : Nat) (f : MacPort → MacPort) : (s.modPort p f).latAt = s.latAt := rfl
@[simp] theorem modPort_buf (s : State) (p : Nat) (f : MacPort → MacPort) : (s.modPort p f).buf = s.buf := rfl
@[simp] theorem modPort_lists (s : State) (p : Nat) (f : MacPort → MacPort) : (s.modPort p f).lists = s.lists := rfl
@[simp] theorem modPort_credit (s : State) (p : Nat) (f : MacPort → MacPort) : (s.modPort p f).credit = s.credit := rfl
@[simp] theorem modPort_eng (s : State) (p : Nat) (f : MacPort → MacPort) : (s.modPort p f).eng = s.eng := rfl
@[simp] theorem modPort_flt (s : State) (p : Nat) (f : MacPort → MacPort) : (s.modPort p f).flt = s.flt := rfl
@[simp] theorem modPort_evq (s : State) (p : Nat) (f : MacPort → MacPort) : (s.modPort p f).evq = s.evq := rfl
@[simp] theorem modPort_fltq (s : State) (p : Nat) (f : MacPort → MacPort) : (s.modPort p f).fltq = s.fltq := rfl
@[simp] theorem modPort_out24 (s : State) (p : Nat) (f : MacPort → MacPort) : (s.modPort p f).out24 = s.out24 := rfl
@[simp] theorem modPort_out25 (s : State) (p : Nat) (f : MacPort → MacPort) : (s.modPort p f).out25 = s.out25 := rfl
@[simp] theorem modPort_out26 (s : State) (p : Nat) (f : MacPort → MacPort) : (s.modPort p f).out26 = s.out26 := rfl
@[simp] theorem modPort_kaq (s : State) (p : Nat) (f : MacPort → MacPort) : (s.modPort p f).kaq = s.kaq := rfl
@[simp] theorem modPort_egsLast (s : State) (p : Nat) (f : MacPort → MacPort) : (s.modPort p f).egsLast = s.egsLast := rfl
@[simp] theorem modPort_cph (s : State) (p : Nat) (f : MacPort → MacPort) : (s.modPort p f).cph = s.cph := rfl
@[simp] theorem modPort_leases (s : State) (p : Nat) (f : MacPort → MacPort) : (s.modPort p f).leases = s.leases := rfl
@[simp] theorem modPort_pers (s : State) (p : Nat) (f : MacPort → MacPort) : (s.modPort p f).pers = s.pers := rfl
@[simp] theorem modPort_qlb (s : State) (p : Nat) (f : MacPort → MacPort) : (s.modPort p f).qlb = s.qlb := rfl
@[simp] theorem modPort_aud (s : State) (p : Nat) (f : MacPort → MacPort) : (s.modPort p f).aud = s.aud := rfl
@[simp] theorem modPort_can (s : State) (p : Nat) (f : MacPort → MacPort) : (s.modPort p f).can = s.can := rfl
@[simp] theorem modPort_ser (s : State) (p : Nat) (f : MacPort → MacPort) : (s.modPort p f).ser = s.ser := rfl
@[simp] theorem modPort_glv (s : State) (p : Nat) (f : MacPort → MacPort) : (s.modPort p f).glv = s.glv := rfl
@[simp] theorem modPort_wak (s : State) (p : Nat) (f : MacPort → MacPort) : (s.modPort p f).wak = s.wak := rfl
@[simp] theorem modPort_cnt (s : State) (p : Nat) (f : MacPort → MacPort) : (s.modPort p f).cnt = s.cnt := rfl
@[simp] theorem modPort_free (s : State) (p : Nat) (f : MacPort → MacPort) : (s.modPort p f).free = s.free := rfl
@[simp] theorem modPort_pending (s : State) (p : Nat) (f : MacPort → MacPort) : (s.modPort p f).pending = s.pending := rfl

@[simp] theorem setQueue_regs (s : State) (q : Nat) (l : List Copy) : (s.setQueue q l).regs = s.regs := rfl
@[simp] theorem setQueue_mem (s : State) (q : Nat) (l : List Copy) : (s.setQueue q l).mem = s.mem := rfl
@[simp] theorem setQueue_flash (s : State) (q : Nat) (l : List Copy) : (s.setQueue q l).flash = s.flash := rfl
@[simp] theorem setQueue_tables (s : State) (q : Nat) (l : List Copy) : (s.setQueue q l).tables = s.tables := rfl
@[simp] theorem setQueue_otp (s : State) (q : Nat) (l : List Copy) : (s.setQueue q l).otp = s.otp := rfl
@[simp] theorem setQueue_boot (s : State) (q : Nat) (l : List Copy) : (s.setQueue q l).boot = s.boot := rfl
@[simp] theorem setQueue_clk (s : State) (q : Nat) (l : List Copy) : (s.setQueue q l).clk = s.clk := rfl
@[simp] theorem setQueue_iq (s : State) (q : Nat) (l : List Copy) : (s.setQueue q l).iq = s.iq := rfl
@[simp] theorem setQueue_eq (s : State) (q : Nat) (l : List Copy) : (s.setQueue q l).eq = s.eq := rfl
@[simp] theorem setQueue_skew (s : State) (q : Nat) (l : List Copy) : (s.setQueue q l).skew = s.skew := rfl
@[simp] theorem setQueue_cap (s : State) (q : Nat) (l : List Copy) : (s.setQueue q l).cap = s.cap := rfl
@[simp] theorem setQueue_pls (s : State) (q : Nat) (l : List Copy) : (s.setQueue q l).pls = s.pls := rfl
@[simp] theorem setQueue_mac (s : State) (q : Nat) (l : List Copy) : (s.setQueue q l).mac = s.mac := rfl
@[simp] theorem setQueue_fwd (s : State) (q : Nat) (l : List Copy) : (s.setQueue q l).fwd = s.fwd := rfl
@[simp] theorem setQueue_sct (s : State) (q : Nat) (l : List Copy) : (s.setQueue q l).sct = s.sct := rfl
@[simp] theorem setQueue_latAt (s : State) (q : Nat) (l : List Copy) : (s.setQueue q l).latAt = s.latAt := rfl
@[simp] theorem setQueue_lists (s : State) (q : Nat) (l : List Copy) : (s.setQueue q l).lists = s.lists := rfl
@[simp] theorem setQueue_credit (s : State) (q : Nat) (l : List Copy) : (s.setQueue q l).credit = s.credit := rfl
@[simp] theorem setQueue_eng (s : State) (q : Nat) (l : List Copy) : (s.setQueue q l).eng = s.eng := rfl
@[simp] theorem setQueue_flt (s : State) (q : Nat) (l : List Copy) : (s.setQueue q l).flt = s.flt := rfl
@[simp] theorem setQueue_evq (s : State) (q : Nat) (l : List Copy) : (s.setQueue q l).evq = s.evq := rfl
@[simp] theorem setQueue_fltq (s : State) (q : Nat) (l : List Copy) : (s.setQueue q l).fltq = s.fltq := rfl
@[simp] theorem setQueue_out24 (s : State) (q : Nat) (l : List Copy) : (s.setQueue q l).out24 = s.out24 := rfl
@[simp] theorem setQueue_out25 (s : State) (q : Nat) (l : List Copy) : (s.setQueue q l).out25 = s.out25 := rfl
@[simp] theorem setQueue_out26 (s : State) (q : Nat) (l : List Copy) : (s.setQueue q l).out26 = s.out26 := rfl
@[simp] theorem setQueue_kaq (s : State) (q : Nat) (l : List Copy) : (s.setQueue q l).kaq = s.kaq := rfl
@[simp] theorem setQueue_egsLast (s : State) (q : Nat) (l : List Copy) : (s.setQueue q l).egsLast = s.egsLast := rfl
@[simp] theorem setQueue_cph (s : State) (q : Nat) (l : List Copy) : (s.setQueue q l).cph = s.cph := rfl
@[simp] theorem setQueue_leases (s : State) (q : Nat) (l : List Copy) : (s.setQueue q l).leases = s.leases := rfl
@[simp] theorem setQueue_pers (s : State) (q : Nat) (l : List Copy) : (s.setQueue q l).pers = s.pers := rfl
@[simp] theorem setQueue_qlb (s : State) (q : Nat) (l : List Copy) : (s.setQueue q l).qlb = s.qlb := rfl
@[simp] theorem setQueue_aud (s : State) (q : Nat) (l : List Copy) : (s.setQueue q l).aud = s.aud := rfl
@[simp] theorem setQueue_can (s : State) (q : Nat) (l : List Copy) : (s.setQueue q l).can = s.can := rfl
@[simp] theorem setQueue_ser (s : State) (q : Nat) (l : List Copy) : (s.setQueue q l).ser = s.ser := rfl
@[simp] theorem setQueue_glv (s : State) (q : Nat) (l : List Copy) : (s.setQueue q l).glv = s.glv := rfl
@[simp] theorem setQueue_wak (s : State) (q : Nat) (l : List Copy) : (s.setQueue q l).wak = s.wak := rfl
@[simp] theorem setQueue_cnt (s : State) (q : Nat) (l : List Copy) : (s.setQueue q l).cnt = s.cnt := rfl
@[simp] theorem setQueue_free (s : State) (q : Nat) (l : List Copy) : (s.setQueue q l).free = s.free := rfl
@[simp] theorem setQueue_pending (s : State) (q : Nat) (l : List Copy) : (s.setQueue q l).pending = s.pending := rfl

@[simp] theorem setDyn_regs (s : State) (h : Nat) (d : ScDyn) : (s.setDyn h d).regs = s.regs := rfl
@[simp] theorem setDyn_mem (s : State) (h : Nat) (d : ScDyn) : (s.setDyn h d).mem = s.mem := rfl
@[simp] theorem setDyn_flash (s : State) (h : Nat) (d : ScDyn) : (s.setDyn h d).flash = s.flash := rfl
@[simp] theorem setDyn_tables (s : State) (h : Nat) (d : ScDyn) : (s.setDyn h d).tables = s.tables := rfl
@[simp] theorem setDyn_otp (s : State) (h : Nat) (d : ScDyn) : (s.setDyn h d).otp = s.otp := rfl
@[simp] theorem setDyn_boot (s : State) (h : Nat) (d : ScDyn) : (s.setDyn h d).boot = s.boot := rfl
@[simp] theorem setDyn_clk (s : State) (h : Nat) (d : ScDyn) : (s.setDyn h d).clk = s.clk := rfl
@[simp] theorem setDyn_iq (s : State) (h : Nat) (d : ScDyn) : (s.setDyn h d).iq = s.iq := rfl
@[simp] theorem setDyn_eq (s : State) (h : Nat) (d : ScDyn) : (s.setDyn h d).eq = s.eq := rfl
@[simp] theorem setDyn_skew (s : State) (h : Nat) (d : ScDyn) : (s.setDyn h d).skew = s.skew := rfl
@[simp] theorem setDyn_cap (s : State) (h : Nat) (d : ScDyn) : (s.setDyn h d).cap = s.cap := rfl
@[simp] theorem setDyn_pls (s : State) (h : Nat) (d : ScDyn) : (s.setDyn h d).pls = s.pls := rfl
@[simp] theorem setDyn_mac (s : State) (h : Nat) (d : ScDyn) : (s.setDyn h d).mac = s.mac := rfl
@[simp] theorem setDyn_fwd (s : State) (h : Nat) (d : ScDyn) : (s.setDyn h d).fwd = s.fwd := rfl
@[simp] theorem setDyn_latAt (s : State) (h : Nat) (d : ScDyn) : (s.setDyn h d).latAt = s.latAt := rfl
@[simp] theorem setDyn_buf (s : State) (h : Nat) (d : ScDyn) : (s.setDyn h d).buf = s.buf := rfl
@[simp] theorem setDyn_lists (s : State) (h : Nat) (d : ScDyn) : (s.setDyn h d).lists = s.lists := rfl
@[simp] theorem setDyn_credit (s : State) (h : Nat) (d : ScDyn) : (s.setDyn h d).credit = s.credit := rfl
@[simp] theorem setDyn_eng (s : State) (h : Nat) (d : ScDyn) : (s.setDyn h d).eng = s.eng := rfl
@[simp] theorem setDyn_flt (s : State) (h : Nat) (d : ScDyn) : (s.setDyn h d).flt = s.flt := rfl
@[simp] theorem setDyn_evq (s : State) (h : Nat) (d : ScDyn) : (s.setDyn h d).evq = s.evq := rfl
@[simp] theorem setDyn_fltq (s : State) (h : Nat) (d : ScDyn) : (s.setDyn h d).fltq = s.fltq := rfl
@[simp] theorem setDyn_out24 (s : State) (h : Nat) (d : ScDyn) : (s.setDyn h d).out24 = s.out24 := rfl
@[simp] theorem setDyn_out25 (s : State) (h : Nat) (d : ScDyn) : (s.setDyn h d).out25 = s.out25 := rfl
@[simp] theorem setDyn_out26 (s : State) (h : Nat) (d : ScDyn) : (s.setDyn h d).out26 = s.out26 := rfl
@[simp] theorem setDyn_kaq (s : State) (h : Nat) (d : ScDyn) : (s.setDyn h d).kaq = s.kaq := rfl
@[simp] theorem setDyn_egsLast (s : State) (h : Nat) (d : ScDyn) : (s.setDyn h d).egsLast = s.egsLast := rfl
@[simp] theorem setDyn_cph (s : State) (h : Nat) (d : ScDyn) : (s.setDyn h d).cph = s.cph := rfl
@[simp] theorem setDyn_leases (s : State) (h : Nat) (d : ScDyn) : (s.setDyn h d).leases = s.leases := rfl
@[simp] theorem setDyn_pers (s : State) (h : Nat) (d : ScDyn) : (s.setDyn h d).pers = s.pers := rfl
@[simp] theorem setDyn_qlb (s : State) (h : Nat) (d : ScDyn) : (s.setDyn h d).qlb = s.qlb := rfl
@[simp] theorem setDyn_aud (s : State) (h : Nat) (d : ScDyn) : (s.setDyn h d).aud = s.aud := rfl
@[simp] theorem setDyn_can (s : State) (h : Nat) (d : ScDyn) : (s.setDyn h d).can = s.can := rfl
@[simp] theorem setDyn_ser (s : State) (h : Nat) (d : ScDyn) : (s.setDyn h d).ser = s.ser := rfl
@[simp] theorem setDyn_glv (s : State) (h : Nat) (d : ScDyn) : (s.setDyn h d).glv = s.glv := rfl
@[simp] theorem setDyn_wak (s : State) (h : Nat) (d : ScDyn) : (s.setDyn h d).wak = s.wak := rfl
@[simp] theorem setDyn_cnt (s : State) (h : Nat) (d : ScDyn) : (s.setDyn h d).cnt = s.cnt := rfl
@[simp] theorem setDyn_free (s : State) (h : Nat) (d : ScDyn) : (s.setDyn h d).free = s.free := rfl
@[simp] theorem setDyn_pending (s : State) (h : Nat) (d : ScDyn) : (s.setDyn h d).pending = s.pending := rfl

@[simp] theorem setGlist_regs (s : State) (n : Nat) (l : GList) : (s.setGlist n l).regs = s.regs := rfl
@[simp] theorem setGlist_mem (s : State) (n : Nat) (l : GList) : (s.setGlist n l).mem = s.mem := rfl
@[simp] theorem setGlist_flash (s : State) (n : Nat) (l : GList) : (s.setGlist n l).flash = s.flash := rfl
@[simp] theorem setGlist_tables (s : State) (n : Nat) (l : GList) : (s.setGlist n l).tables = s.tables := rfl
@[simp] theorem setGlist_otp (s : State) (n : Nat) (l : GList) : (s.setGlist n l).otp = s.otp := rfl
@[simp] theorem setGlist_boot (s : State) (n : Nat) (l : GList) : (s.setGlist n l).boot = s.boot := rfl
@[simp] theorem setGlist_clk (s : State) (n : Nat) (l : GList) : (s.setGlist n l).clk = s.clk := rfl
@[simp] theorem setGlist_iq (s : State) (n : Nat) (l : GList) : (s.setGlist n l).iq = s.iq := rfl
@[simp] theorem setGlist_eq (s : State) (n : Nat) (l : GList) : (s.setGlist n l).eq = s.eq := rfl
@[simp] theorem setGlist_skew (s : State) (n : Nat) (l : GList) : (s.setGlist n l).skew = s.skew := rfl
@[simp] theorem setGlist_cap (s : State) (n : Nat) (l : GList) : (s.setGlist n l).cap = s.cap := rfl
@[simp] theorem setGlist_pls (s : State) (n : Nat) (l : GList) : (s.setGlist n l).pls = s.pls := rfl
@[simp] theorem setGlist_mac (s : State) (n : Nat) (l : GList) : (s.setGlist n l).mac = s.mac := rfl
@[simp] theorem setGlist_fwd (s : State) (n : Nat) (l : GList) : (s.setGlist n l).fwd = s.fwd := rfl
@[simp] theorem setGlist_sct (s : State) (n : Nat) (l : GList) : (s.setGlist n l).sct = s.sct := rfl
@[simp] theorem setGlist_latAt (s : State) (n : Nat) (l : GList) : (s.setGlist n l).latAt = s.latAt := rfl
@[simp] theorem setGlist_buf (s : State) (n : Nat) (l : GList) : (s.setGlist n l).buf = s.buf := rfl
@[simp] theorem setGlist_credit (s : State) (n : Nat) (l : GList) : (s.setGlist n l).credit = s.credit := rfl
@[simp] theorem setGlist_eng (s : State) (n : Nat) (l : GList) : (s.setGlist n l).eng = s.eng := rfl
@[simp] theorem setGlist_flt (s : State) (n : Nat) (l : GList) : (s.setGlist n l).flt = s.flt := rfl
@[simp] theorem setGlist_evq (s : State) (n : Nat) (l : GList) : (s.setGlist n l).evq = s.evq := rfl
@[simp] theorem setGlist_fltq (s : State) (n : Nat) (l : GList) : (s.setGlist n l).fltq = s.fltq := rfl
@[simp] theorem setGlist_out24 (s : State) (n : Nat) (l : GList) : (s.setGlist n l).out24 = s.out24 := rfl
@[simp] theorem setGlist_out25 (s : State) (n : Nat) (l : GList) : (s.setGlist n l).out25 = s.out25 := rfl
@[simp] theorem setGlist_out26 (s : State) (n : Nat) (l : GList) : (s.setGlist n l).out26 = s.out26 := rfl
@[simp] theorem setGlist_kaq (s : State) (n : Nat) (l : GList) : (s.setGlist n l).kaq = s.kaq := rfl
@[simp] theorem setGlist_egsLast (s : State) (n : Nat) (l : GList) : (s.setGlist n l).egsLast = s.egsLast := rfl
@[simp] theorem setGlist_cph (s : State) (n : Nat) (l : GList) : (s.setGlist n l).cph = s.cph := rfl
@[simp] theorem setGlist_leases (s : State) (n : Nat) (l : GList) : (s.setGlist n l).leases = s.leases := rfl
@[simp] theorem setGlist_pers (s : State) (n : Nat) (l : GList) : (s.setGlist n l).pers = s.pers := rfl
@[simp] theorem setGlist_qlb (s : State) (n : Nat) (l : GList) : (s.setGlist n l).qlb = s.qlb := rfl
@[simp] theorem setGlist_aud (s : State) (n : Nat) (l : GList) : (s.setGlist n l).aud = s.aud := rfl
@[simp] theorem setGlist_can (s : State) (n : Nat) (l : GList) : (s.setGlist n l).can = s.can := rfl
@[simp] theorem setGlist_ser (s : State) (n : Nat) (l : GList) : (s.setGlist n l).ser = s.ser := rfl
@[simp] theorem setGlist_glv (s : State) (n : Nat) (l : GList) : (s.setGlist n l).glv = s.glv := rfl
@[simp] theorem setGlist_wak (s : State) (n : Nat) (l : GList) : (s.setGlist n l).wak = s.wak := rfl
@[simp] theorem setGlist_cnt (s : State) (n : Nat) (l : GList) : (s.setGlist n l).cnt = s.cnt := rfl
@[simp] theorem setGlist_free (s : State) (n : Nat) (l : GList) : (s.setGlist n l).free = s.free := rfl
@[simp] theorem setGlist_pending (s : State) (n : Nat) (l : GList) : (s.setGlist n l).pending = s.pending := rfl

@[simp] theorem setBuf_regs (s : State) (b : Buf) : (s.setBuf b).regs = s.regs := rfl
@[simp] theorem setBuf_mem (s : State) (b : Buf) : (s.setBuf b).mem = s.mem := rfl
@[simp] theorem setBuf_flash (s : State) (b : Buf) : (s.setBuf b).flash = s.flash := rfl
@[simp] theorem setBuf_tables (s : State) (b : Buf) : (s.setBuf b).tables = s.tables := rfl
@[simp] theorem setBuf_otp (s : State) (b : Buf) : (s.setBuf b).otp = s.otp := rfl
@[simp] theorem setBuf_boot (s : State) (b : Buf) : (s.setBuf b).boot = s.boot := rfl
@[simp] theorem setBuf_clk (s : State) (b : Buf) : (s.setBuf b).clk = s.clk := rfl
@[simp] theorem setBuf_iq (s : State) (b : Buf) : (s.setBuf b).iq = s.iq := rfl
@[simp] theorem setBuf_eq (s : State) (b : Buf) : (s.setBuf b).eq = s.eq := rfl
@[simp] theorem setBuf_skew (s : State) (b : Buf) : (s.setBuf b).skew = s.skew := rfl
@[simp] theorem setBuf_cap (s : State) (b : Buf) : (s.setBuf b).cap = s.cap := rfl
@[simp] theorem setBuf_pls (s : State) (b : Buf) : (s.setBuf b).pls = s.pls := rfl
@[simp] theorem setBuf_mac (s : State) (b : Buf) : (s.setBuf b).mac = s.mac := rfl
@[simp] theorem setBuf_fwd (s : State) (b : Buf) : (s.setBuf b).fwd = s.fwd := rfl
@[simp] theorem setBuf_sct (s : State) (b : Buf) : (s.setBuf b).sct = s.sct := rfl
@[simp] theorem setBuf_latAt (s : State) (b : Buf) : (s.setBuf b).latAt = s.latAt := rfl
@[simp] theorem setBuf_lists (s : State) (b : Buf) : (s.setBuf b).lists = s.lists := rfl
@[simp] theorem setBuf_credit (s : State) (b : Buf) : (s.setBuf b).credit = s.credit := rfl
@[simp] theorem setBuf_eng (s : State) (b : Buf) : (s.setBuf b).eng = s.eng := rfl
@[simp] theorem setBuf_flt (s : State) (b : Buf) : (s.setBuf b).flt = s.flt := rfl
@[simp] theorem setBuf_evq (s : State) (b : Buf) : (s.setBuf b).evq = s.evq := rfl
@[simp] theorem setBuf_fltq (s : State) (b : Buf) : (s.setBuf b).fltq = s.fltq := rfl
@[simp] theorem setBuf_out24 (s : State) (b : Buf) : (s.setBuf b).out24 = s.out24 := rfl
@[simp] theorem setBuf_out25 (s : State) (b : Buf) : (s.setBuf b).out25 = s.out25 := rfl
@[simp] theorem setBuf_out26 (s : State) (b : Buf) : (s.setBuf b).out26 = s.out26 := rfl
@[simp] theorem setBuf_kaq (s : State) (b : Buf) : (s.setBuf b).kaq = s.kaq := rfl
@[simp] theorem setBuf_egsLast (s : State) (b : Buf) : (s.setBuf b).egsLast = s.egsLast := rfl
@[simp] theorem setBuf_cph (s : State) (b : Buf) : (s.setBuf b).cph = s.cph := rfl
@[simp] theorem setBuf_leases (s : State) (b : Buf) : (s.setBuf b).leases = s.leases := rfl
@[simp] theorem setBuf_pers (s : State) (b : Buf) : (s.setBuf b).pers = s.pers := rfl
@[simp] theorem setBuf_qlb (s : State) (b : Buf) : (s.setBuf b).qlb = s.qlb := rfl
@[simp] theorem setBuf_aud (s : State) (b : Buf) : (s.setBuf b).aud = s.aud := rfl
@[simp] theorem setBuf_can (s : State) (b : Buf) : (s.setBuf b).can = s.can := rfl
@[simp] theorem setBuf_ser (s : State) (b : Buf) : (s.setBuf b).ser = s.ser := rfl
@[simp] theorem setBuf_glv (s : State) (b : Buf) : (s.setBuf b).glv = s.glv := rfl
@[simp] theorem setBuf_wak (s : State) (b : Buf) : (s.setBuf b).wak = s.wak := rfl
@[simp] theorem setBuf_cnt (s : State) (b : Buf) : (s.setBuf b).cnt = s.cnt := rfl
@[simp] theorem setBuf_free (s : State) (b : Buf) : (s.setBuf b).free = s.free := rfl
@[simp] theorem setBuf_pending (s : State) (b : Buf) : (s.setBuf b).pending = s.pending := rfl
@[simp] theorem setBuf_buf (s : State) (b : Buf) : (s.setBuf b).buf = b := rfl

@[simp] theorem setPkt_regs (s : State) (n : Nat) (p : Pkt) : (s.setPkt n p).regs = s.regs := rfl
@[simp] theorem setPkt_mem (s : State) (n : Nat) (p : Pkt) : (s.setPkt n p).mem = s.mem := rfl
@[simp] theorem setPkt_flash (s : State) (n : Nat) (p : Pkt) : (s.setPkt n p).flash = s.flash := rfl
@[simp] theorem setPkt_tables (s : State) (n : Nat) (p : Pkt) : (s.setPkt n p).tables = s.tables := rfl
@[simp] theorem setPkt_otp (s : State) (n : Nat) (p : Pkt) : (s.setPkt n p).otp = s.otp := rfl
@[simp] theorem setPkt_boot (s : State) (n : Nat) (p : Pkt) : (s.setPkt n p).boot = s.boot := rfl
@[simp] theorem setPkt_clk (s : State) (n : Nat) (p : Pkt) : (s.setPkt n p).clk = s.clk := rfl
@[simp] theorem setPkt_iq (s : State) (n : Nat) (p : Pkt) : (s.setPkt n p).iq = s.iq := rfl
@[simp] theorem setPkt_eq (s : State) (n : Nat) (p : Pkt) : (s.setPkt n p).eq = s.eq := rfl
@[simp] theorem setPkt_skew (s : State) (n : Nat) (p : Pkt) : (s.setPkt n p).skew = s.skew := rfl
@[simp] theorem setPkt_cap (s : State) (n : Nat) (p : Pkt) : (s.setPkt n p).cap = s.cap := rfl
@[simp] theorem setPkt_pls (s : State) (n : Nat) (p : Pkt) : (s.setPkt n p).pls = s.pls := rfl
@[simp] theorem setPkt_mac (s : State) (n : Nat) (p : Pkt) : (s.setPkt n p).mac = s.mac := rfl
@[simp] theorem setPkt_fwd (s : State) (n : Nat) (p : Pkt) : (s.setPkt n p).fwd = s.fwd := rfl
@[simp] theorem setPkt_sct (s : State) (n : Nat) (p : Pkt) : (s.setPkt n p).sct = s.sct := rfl
@[simp] theorem setPkt_latAt (s : State) (n : Nat) (p : Pkt) : (s.setPkt n p).latAt = s.latAt := rfl
@[simp] theorem setPkt_lists (s : State) (n : Nat) (p : Pkt) : (s.setPkt n p).lists = s.lists := rfl
@[simp] theorem setPkt_credit (s : State) (n : Nat) (p : Pkt) : (s.setPkt n p).credit = s.credit := rfl
@[simp] theorem setPkt_eng (s : State) (n : Nat) (p : Pkt) : (s.setPkt n p).eng = s.eng := rfl
@[simp] theorem setPkt_flt (s : State) (n : Nat) (p : Pkt) : (s.setPkt n p).flt = s.flt := rfl
@[simp] theorem setPkt_evq (s : State) (n : Nat) (p : Pkt) : (s.setPkt n p).evq = s.evq := rfl
@[simp] theorem setPkt_fltq (s : State) (n : Nat) (p : Pkt) : (s.setPkt n p).fltq = s.fltq := rfl
@[simp] theorem setPkt_out24 (s : State) (n : Nat) (p : Pkt) : (s.setPkt n p).out24 = s.out24 := rfl
@[simp] theorem setPkt_out25 (s : State) (n : Nat) (p : Pkt) : (s.setPkt n p).out25 = s.out25 := rfl
@[simp] theorem setPkt_out26 (s : State) (n : Nat) (p : Pkt) : (s.setPkt n p).out26 = s.out26 := rfl
@[simp] theorem setPkt_kaq (s : State) (n : Nat) (p : Pkt) : (s.setPkt n p).kaq = s.kaq := rfl
@[simp] theorem setPkt_egsLast (s : State) (n : Nat) (p : Pkt) : (s.setPkt n p).egsLast = s.egsLast := rfl
@[simp] theorem setPkt_cph (s : State) (n : Nat) (p : Pkt) : (s.setPkt n p).cph = s.cph := rfl
@[simp] theorem setPkt_leases (s : State) (n : Nat) (p : Pkt) : (s.setPkt n p).leases = s.leases := rfl
@[simp] theorem setPkt_pers (s : State) (n : Nat) (p : Pkt) : (s.setPkt n p).pers = s.pers := rfl
@[simp] theorem setPkt_qlb (s : State) (n : Nat) (p : Pkt) : (s.setPkt n p).qlb = s.qlb := rfl
@[simp] theorem setPkt_aud (s : State) (n : Nat) (p : Pkt) : (s.setPkt n p).aud = s.aud := rfl
@[simp] theorem setPkt_can (s : State) (n : Nat) (p : Pkt) : (s.setPkt n p).can = s.can := rfl
@[simp] theorem setPkt_ser (s : State) (n : Nat) (p : Pkt) : (s.setPkt n p).ser = s.ser := rfl
@[simp] theorem setPkt_glv (s : State) (n : Nat) (p : Pkt) : (s.setPkt n p).glv = s.glv := rfl
@[simp] theorem setPkt_wak (s : State) (n : Nat) (p : Pkt) : (s.setPkt n p).wak = s.wak := rfl
@[simp] theorem setPkt_cnt (s : State) (n : Nat) (p : Pkt) : (s.setPkt n p).cnt = s.cnt := rfl
@[simp] theorem setPkt_free (s : State) (n : Nat) (p : Pkt) : (s.setPkt n p).free = s.free := rfl
@[simp] theorem setPkt_pending (s : State) (n : Nat) (p : Pkt) : (s.setPkt n p).pending = s.pending := rfl

@[simp] theorem setQlb_regs (s : State) (q : Qlb) : (s.setQlb q).regs = s.regs := rfl
@[simp] theorem setQlb_mem (s : State) (q : Qlb) : (s.setQlb q).mem = s.mem := rfl
@[simp] theorem setQlb_flash (s : State) (q : Qlb) : (s.setQlb q).flash = s.flash := rfl
@[simp] theorem setQlb_tables (s : State) (q : Qlb) : (s.setQlb q).tables = s.tables := rfl
@[simp] theorem setQlb_otp (s : State) (q : Qlb) : (s.setQlb q).otp = s.otp := rfl
@[simp] theorem setQlb_boot (s : State) (q : Qlb) : (s.setQlb q).boot = s.boot := rfl
@[simp] theorem setQlb_clk (s : State) (q : Qlb) : (s.setQlb q).clk = s.clk := rfl
@[simp] theorem setQlb_iq (s : State) (q : Qlb) : (s.setQlb q).iq = s.iq := rfl
@[simp] theorem setQlb_eq (s : State) (q : Qlb) : (s.setQlb q).eq = s.eq := rfl
@[simp] theorem setQlb_skew (s : State) (q : Qlb) : (s.setQlb q).skew = s.skew := rfl
@[simp] theorem setQlb_cap (s : State) (q : Qlb) : (s.setQlb q).cap = s.cap := rfl
@[simp] theorem setQlb_pls (s : State) (q : Qlb) : (s.setQlb q).pls = s.pls := rfl
@[simp] theorem setQlb_mac (s : State) (q : Qlb) : (s.setQlb q).mac = s.mac := rfl
@[simp] theorem setQlb_fwd (s : State) (q : Qlb) : (s.setQlb q).fwd = s.fwd := rfl
@[simp] theorem setQlb_sct (s : State) (q : Qlb) : (s.setQlb q).sct = s.sct := rfl
@[simp] theorem setQlb_latAt (s : State) (q : Qlb) : (s.setQlb q).latAt = s.latAt := rfl
@[simp] theorem setQlb_buf (s : State) (q : Qlb) : (s.setQlb q).buf = s.buf := rfl
@[simp] theorem setQlb_lists (s : State) (q : Qlb) : (s.setQlb q).lists = s.lists := rfl
@[simp] theorem setQlb_credit (s : State) (q : Qlb) : (s.setQlb q).credit = s.credit := rfl
@[simp] theorem setQlb_eng (s : State) (q : Qlb) : (s.setQlb q).eng = s.eng := rfl
@[simp] theorem setQlb_flt (s : State) (q : Qlb) : (s.setQlb q).flt = s.flt := rfl
@[simp] theorem setQlb_evq (s : State) (q : Qlb) : (s.setQlb q).evq = s.evq := rfl
@[simp] theorem setQlb_fltq (s : State) (q : Qlb) : (s.setQlb q).fltq = s.fltq := rfl
@[simp] theorem setQlb_out24 (s : State) (q : Qlb) : (s.setQlb q).out24 = s.out24 := rfl
@[simp] theorem setQlb_out25 (s : State) (q : Qlb) : (s.setQlb q).out25 = s.out25 := rfl
@[simp] theorem setQlb_out26 (s : State) (q : Qlb) : (s.setQlb q).out26 = s.out26 := rfl
@[simp] theorem setQlb_kaq (s : State) (q : Qlb) : (s.setQlb q).kaq = s.kaq := rfl
@[simp] theorem setQlb_egsLast (s : State) (q : Qlb) : (s.setQlb q).egsLast = s.egsLast := rfl
@[simp] theorem setQlb_cph (s : State) (q : Qlb) : (s.setQlb q).cph = s.cph := rfl
@[simp] theorem setQlb_leases (s : State) (q : Qlb) : (s.setQlb q).leases = s.leases := rfl
@[simp] theorem setQlb_pers (s : State) (q : Qlb) : (s.setQlb q).pers = s.pers := rfl
@[simp] theorem setQlb_aud (s : State) (q : Qlb) : (s.setQlb q).aud = s.aud := rfl
@[simp] theorem setQlb_can (s : State) (q : Qlb) : (s.setQlb q).can = s.can := rfl
@[simp] theorem setQlb_ser (s : State) (q : Qlb) : (s.setQlb q).ser = s.ser := rfl
@[simp] theorem setQlb_glv (s : State) (q : Qlb) : (s.setQlb q).glv = s.glv := rfl
@[simp] theorem setQlb_wak (s : State) (q : Qlb) : (s.setQlb q).wak = s.wak := rfl
@[simp] theorem setQlb_cnt (s : State) (q : Qlb) : (s.setQlb q).cnt = s.cnt := rfl
@[simp] theorem setQlb_free (s : State) (q : Qlb) : (s.setQlb q).free = s.free := rfl
@[simp] theorem setQlb_pending (s : State) (q : Qlb) : (s.setQlb q).pending = s.pending := rfl
@[simp] theorem setQlb_qlb (s : State) (q : Qlb) : (s.setQlb q).qlb = q := rfl

@[simp] theorem setCph_regs (s : State) (c : Cph) : (s.setCph c).regs = s.regs := rfl
@[simp] theorem setCph_mem (s : State) (c : Cph) : (s.setCph c).mem = s.mem := rfl
@[simp] theorem setCph_flash (s : State) (c : Cph) : (s.setCph c).flash = s.flash := rfl
@[simp] theorem setCph_tables (s : State) (c : Cph) : (s.setCph c).tables = s.tables := rfl
@[simp] theorem setCph_otp (s : State) (c : Cph) : (s.setCph c).otp = s.otp := rfl
@[simp] theorem setCph_boot (s : State) (c : Cph) : (s.setCph c).boot = s.boot := rfl
@[simp] theorem setCph_clk (s : State) (c : Cph) : (s.setCph c).clk = s.clk := rfl
@[simp] theorem setCph_iq (s : State) (c : Cph) : (s.setCph c).iq = s.iq := rfl
@[simp] theorem setCph_eq (s : State) (c : Cph) : (s.setCph c).eq = s.eq := rfl
@[simp] theorem setCph_skew (s : State) (c : Cph) : (s.setCph c).skew = s.skew := rfl
@[simp] theorem setCph_cap (s : State) (c : Cph) : (s.setCph c).cap = s.cap := rfl
@[simp] theorem setCph_pls (s : State) (c : Cph) : (s.setCph c).pls = s.pls := rfl
@[simp] theorem setCph_mac (s : State) (c : Cph) : (s.setCph c).mac = s.mac := rfl
@[simp] theorem setCph_fwd (s : State) (c : Cph) : (s.setCph c).fwd = s.fwd := rfl
@[simp] theorem setCph_sct (s : State) (c : Cph) : (s.setCph c).sct = s.sct := rfl
@[simp] theorem setCph_latAt (s : State) (c : Cph) : (s.setCph c).latAt = s.latAt := rfl
@[simp] theorem setCph_buf (s : State) (c : Cph) : (s.setCph c).buf = s.buf := rfl
@[simp] theorem setCph_lists (s : State) (c : Cph) : (s.setCph c).lists = s.lists := rfl
@[simp] theorem setCph_credit (s : State) (c : Cph) : (s.setCph c).credit = s.credit := rfl
@[simp] theorem setCph_eng (s : State) (c : Cph) : (s.setCph c).eng = s.eng := rfl
@[simp] theorem setCph_flt (s : State) (c : Cph) : (s.setCph c).flt = s.flt := rfl
@[simp] theorem setCph_evq (s : State) (c : Cph) : (s.setCph c).evq = s.evq := rfl
@[simp] theorem setCph_fltq (s : State) (c : Cph) : (s.setCph c).fltq = s.fltq := rfl
@[simp] theorem setCph_out24 (s : State) (c : Cph) : (s.setCph c).out24 = s.out24 := rfl
@[simp] theorem setCph_out25 (s : State) (c : Cph) : (s.setCph c).out25 = s.out25 := rfl
@[simp] theorem setCph_out26 (s : State) (c : Cph) : (s.setCph c).out26 = s.out26 := rfl
@[simp] theorem setCph_kaq (s : State) (c : Cph) : (s.setCph c).kaq = s.kaq := rfl
@[simp] theorem setCph_egsLast (s : State) (c : Cph) : (s.setCph c).egsLast = s.egsLast := rfl
@[simp] theorem setCph_leases (s : State) (c : Cph) : (s.setCph c).leases = s.leases := rfl
@[simp] theorem setCph_pers (s : State) (c : Cph) : (s.setCph c).pers = s.pers := rfl
@[simp] theorem setCph_qlb (s : State) (c : Cph) : (s.setCph c).qlb = s.qlb := rfl
@[simp] theorem setCph_aud (s : State) (c : Cph) : (s.setCph c).aud = s.aud := rfl
@[simp] theorem setCph_can (s : State) (c : Cph) : (s.setCph c).can = s.can := rfl
@[simp] theorem setCph_ser (s : State) (c : Cph) : (s.setCph c).ser = s.ser := rfl
@[simp] theorem setCph_glv (s : State) (c : Cph) : (s.setCph c).glv = s.glv := rfl
@[simp] theorem setCph_wak (s : State) (c : Cph) : (s.setCph c).wak = s.wak := rfl
@[simp] theorem setCph_cnt (s : State) (c : Cph) : (s.setCph c).cnt = s.cnt := rfl
@[simp] theorem setCph_free (s : State) (c : Cph) : (s.setCph c).free = s.free := rfl
@[simp] theorem setCph_pending (s : State) (c : Cph) : (s.setCph c).pending = s.pending := rfl
@[simp] theorem setCph_cph (s : State) (c : Cph) : (s.setCph c).cph = c := rfl

@[simp] theorem setKey_regs (s : State) (n : Nat) (k : Key) : (s.setKey n k).regs = s.regs := rfl
@[simp] theorem setKey_mem (s : State) (n : Nat) (k : Key) : (s.setKey n k).mem = s.mem := rfl
@[simp] theorem setKey_flash (s : State) (n : Nat) (k : Key) : (s.setKey n k).flash = s.flash := rfl
@[simp] theorem setKey_tables (s : State) (n : Nat) (k : Key) : (s.setKey n k).tables = s.tables := rfl
@[simp] theorem setKey_otp (s : State) (n : Nat) (k : Key) : (s.setKey n k).otp = s.otp := rfl
@[simp] theorem setKey_boot (s : State) (n : Nat) (k : Key) : (s.setKey n k).boot = s.boot := rfl
@[simp] theorem setKey_clk (s : State) (n : Nat) (k : Key) : (s.setKey n k).clk = s.clk := rfl
@[simp] theorem setKey_iq (s : State) (n : Nat) (k : Key) : (s.setKey n k).iq = s.iq := rfl
@[simp] theorem setKey_eq (s : State) (n : Nat) (k : Key) : (s.setKey n k).eq = s.eq := rfl
@[simp] theorem setKey_skew (s : State) (n : Nat) (k : Key) : (s.setKey n k).skew = s.skew := rfl
@[simp] theorem setKey_cap (s : State) (n : Nat) (k : Key) : (s.setKey n k).cap = s.cap := rfl
@[simp] theorem setKey_pls (s : State) (n : Nat) (k : Key) : (s.setKey n k).pls = s.pls := rfl
@[simp] theorem setKey_mac (s : State) (n : Nat) (k : Key) : (s.setKey n k).mac = s.mac := rfl
@[simp] theorem setKey_fwd (s : State) (n : Nat) (k : Key) : (s.setKey n k).fwd = s.fwd := rfl
@[simp] theorem setKey_sct (s : State) (n : Nat) (k : Key) : (s.setKey n k).sct = s.sct := rfl
@[simp] theorem setKey_latAt (s : State) (n : Nat) (k : Key) : (s.setKey n k).latAt = s.latAt := rfl
@[simp] theorem setKey_buf (s : State) (n : Nat) (k : Key) : (s.setKey n k).buf = s.buf := rfl
@[simp] theorem setKey_lists (s : State) (n : Nat) (k : Key) : (s.setKey n k).lists = s.lists := rfl
@[simp] theorem setKey_credit (s : State) (n : Nat) (k : Key) : (s.setKey n k).credit = s.credit := rfl
@[simp] theorem setKey_eng (s : State) (n : Nat) (k : Key) : (s.setKey n k).eng = s.eng := rfl
@[simp] theorem setKey_flt (s : State) (n : Nat) (k : Key) : (s.setKey n k).flt = s.flt := rfl
@[simp] theorem setKey_evq (s : State) (n : Nat) (k : Key) : (s.setKey n k).evq = s.evq := rfl
@[simp] theorem setKey_fltq (s : State) (n : Nat) (k : Key) : (s.setKey n k).fltq = s.fltq := rfl
@[simp] theorem setKey_out24 (s : State) (n : Nat) (k : Key) : (s.setKey n k).out24 = s.out24 := rfl
@[simp] theorem setKey_out25 (s : State) (n : Nat) (k : Key) : (s.setKey n k).out25 = s.out25 := rfl
@[simp] theorem setKey_out26 (s : State) (n : Nat) (k : Key) : (s.setKey n k).out26 = s.out26 := rfl
@[simp] theorem setKey_kaq (s : State) (n : Nat) (k : Key) : (s.setKey n k).kaq = s.kaq := rfl
@[simp] theorem setKey_egsLast (s : State) (n : Nat) (k : Key) : (s.setKey n k).egsLast = s.egsLast := rfl
@[simp] theorem setKey_leases (s : State) (n : Nat) (k : Key) : (s.setKey n k).leases = s.leases := rfl
@[simp] theorem setKey_pers (s : State) (n : Nat) (k : Key) : (s.setKey n k).pers = s.pers := rfl
@[simp] theorem setKey_qlb (s : State) (n : Nat) (k : Key) : (s.setKey n k).qlb = s.qlb := rfl
@[simp] theorem setKey_aud (s : State) (n : Nat) (k : Key) : (s.setKey n k).aud = s.aud := rfl
@[simp] theorem setKey_can (s : State) (n : Nat) (k : Key) : (s.setKey n k).can = s.can := rfl
@[simp] theorem setKey_ser (s : State) (n : Nat) (k : Key) : (s.setKey n k).ser = s.ser := rfl
@[simp] theorem setKey_glv (s : State) (n : Nat) (k : Key) : (s.setKey n k).glv = s.glv := rfl
@[simp] theorem setKey_wak (s : State) (n : Nat) (k : Key) : (s.setKey n k).wak = s.wak := rfl
@[simp] theorem setKey_cnt (s : State) (n : Nat) (k : Key) : (s.setKey n k).cnt = s.cnt := rfl
@[simp] theorem setKey_free (s : State) (n : Nat) (k : Key) : (s.setKey n k).free = s.free := rfl
@[simp] theorem setKey_pending (s : State) (n : Nat) (k : Key) : (s.setKey n k).pending = s.pending := rfl

@[simp] theorem setLease_regs (s : State) (i : Nat) (l : Lease) : (s.setLease i l).regs = s.regs := rfl
@[simp] theorem setLease_mem (s : State) (i : Nat) (l : Lease) : (s.setLease i l).mem = s.mem := rfl
@[simp] theorem setLease_flash (s : State) (i : Nat) (l : Lease) : (s.setLease i l).flash = s.flash := rfl
@[simp] theorem setLease_tables (s : State) (i : Nat) (l : Lease) : (s.setLease i l).tables = s.tables := rfl
@[simp] theorem setLease_otp (s : State) (i : Nat) (l : Lease) : (s.setLease i l).otp = s.otp := rfl
@[simp] theorem setLease_boot (s : State) (i : Nat) (l : Lease) : (s.setLease i l).boot = s.boot := rfl
@[simp] theorem setLease_clk (s : State) (i : Nat) (l : Lease) : (s.setLease i l).clk = s.clk := rfl
@[simp] theorem setLease_iq (s : State) (i : Nat) (l : Lease) : (s.setLease i l).iq = s.iq := rfl
@[simp] theorem setLease_eq (s : State) (i : Nat) (l : Lease) : (s.setLease i l).eq = s.eq := rfl
@[simp] theorem setLease_skew (s : State) (i : Nat) (l : Lease) : (s.setLease i l).skew = s.skew := rfl
@[simp] theorem setLease_cap (s : State) (i : Nat) (l : Lease) : (s.setLease i l).cap = s.cap := rfl
@[simp] theorem setLease_pls (s : State) (i : Nat) (l : Lease) : (s.setLease i l).pls = s.pls := rfl
@[simp] theorem setLease_mac (s : State) (i : Nat) (l : Lease) : (s.setLease i l).mac = s.mac := rfl
@[simp] theorem setLease_fwd (s : State) (i : Nat) (l : Lease) : (s.setLease i l).fwd = s.fwd := rfl
@[simp] theorem setLease_sct (s : State) (i : Nat) (l : Lease) : (s.setLease i l).sct = s.sct := rfl
@[simp] theorem setLease_latAt (s : State) (i : Nat) (l : Lease) : (s.setLease i l).latAt = s.latAt := rfl
@[simp] theorem setLease_buf (s : State) (i : Nat) (l : Lease) : (s.setLease i l).buf = s.buf := rfl
@[simp] theorem setLease_lists (s : State) (i : Nat) (l : Lease) : (s.setLease i l).lists = s.lists := rfl
@[simp] theorem setLease_credit (s : State) (i : Nat) (l : Lease) : (s.setLease i l).credit = s.credit := rfl
@[simp] theorem setLease_eng (s : State) (i : Nat) (l : Lease) : (s.setLease i l).eng = s.eng := rfl
@[simp] theorem setLease_flt (s : State) (i : Nat) (l : Lease) : (s.setLease i l).flt = s.flt := rfl
@[simp] theorem setLease_evq (s : State) (i : Nat) (l : Lease) : (s.setLease i l).evq = s.evq := rfl
@[simp] theorem setLease_fltq (s : State) (i : Nat) (l : Lease) : (s.setLease i l).fltq = s.fltq := rfl
@[simp] theorem setLease_out24 (s : State) (i : Nat) (l : Lease) : (s.setLease i l).out24 = s.out24 := rfl
@[simp] theorem setLease_out25 (s : State) (i : Nat) (l : Lease) : (s.setLease i l).out25 = s.out25 := rfl
@[simp] theorem setLease_out26 (s : State) (i : Nat) (l : Lease) : (s.setLease i l).out26 = s.out26 := rfl
@[simp] theorem setLease_kaq (s : State) (i : Nat) (l : Lease) : (s.setLease i l).kaq = s.kaq := rfl
@[simp] theorem setLease_egsLast (s : State) (i : Nat) (l : Lease) : (s.setLease i l).egsLast = s.egsLast := rfl
@[simp] theorem setLease_cph (s : State) (i : Nat) (l : Lease) : (s.setLease i l).cph = s.cph := rfl
@[simp] theorem setLease_pers (s : State) (i : Nat) (l : Lease) : (s.setLease i l).pers = s.pers := rfl
@[simp] theorem setLease_qlb (s : State) (i : Nat) (l : Lease) : (s.setLease i l).qlb = s.qlb := rfl
@[simp] theorem setLease_aud (s : State) (i : Nat) (l : Lease) : (s.setLease i l).aud = s.aud := rfl
@[simp] theorem setLease_can (s : State) (i : Nat) (l : Lease) : (s.setLease i l).can = s.can := rfl
@[simp] theorem setLease_ser (s : State) (i : Nat) (l : Lease) : (s.setLease i l).ser = s.ser := rfl
@[simp] theorem setLease_glv (s : State) (i : Nat) (l : Lease) : (s.setLease i l).glv = s.glv := rfl
@[simp] theorem setLease_wak (s : State) (i : Nat) (l : Lease) : (s.setLease i l).wak = s.wak := rfl
@[simp] theorem setLease_cnt (s : State) (i : Nat) (l : Lease) : (s.setLease i l).cnt = s.cnt := rfl
@[simp] theorem setLease_free (s : State) (i : Nat) (l : Lease) : (s.setLease i l).free = s.free := rfl
@[simp] theorem setLease_pending (s : State) (i : Nat) (l : Lease) : (s.setLease i l).pending = s.pending := rfl

@[simp] theorem setAud_regs (s : State) (a : Aud) : (s.setAud a).regs = s.regs := rfl
@[simp] theorem setAud_mem (s : State) (a : Aud) : (s.setAud a).mem = s.mem := rfl
@[simp] theorem setAud_flash (s : State) (a : Aud) : (s.setAud a).flash = s.flash := rfl
@[simp] theorem setAud_tables (s : State) (a : Aud) : (s.setAud a).tables = s.tables := rfl
@[simp] theorem setAud_otp (s : State) (a : Aud) : (s.setAud a).otp = s.otp := rfl
@[simp] theorem setAud_boot (s : State) (a : Aud) : (s.setAud a).boot = s.boot := rfl
@[simp] theorem setAud_clk (s : State) (a : Aud) : (s.setAud a).clk = s.clk := rfl
@[simp] theorem setAud_iq (s : State) (a : Aud) : (s.setAud a).iq = s.iq := rfl
@[simp] theorem setAud_eq (s : State) (a : Aud) : (s.setAud a).eq = s.eq := rfl
@[simp] theorem setAud_skew (s : State) (a : Aud) : (s.setAud a).skew = s.skew := rfl
@[simp] theorem setAud_cap (s : State) (a : Aud) : (s.setAud a).cap = s.cap := rfl
@[simp] theorem setAud_pls (s : State) (a : Aud) : (s.setAud a).pls = s.pls := rfl
@[simp] theorem setAud_mac (s : State) (a : Aud) : (s.setAud a).mac = s.mac := rfl
@[simp] theorem setAud_fwd (s : State) (a : Aud) : (s.setAud a).fwd = s.fwd := rfl
@[simp] theorem setAud_sct (s : State) (a : Aud) : (s.setAud a).sct = s.sct := rfl
@[simp] theorem setAud_latAt (s : State) (a : Aud) : (s.setAud a).latAt = s.latAt := rfl
@[simp] theorem setAud_buf (s : State) (a : Aud) : (s.setAud a).buf = s.buf := rfl
@[simp] theorem setAud_lists (s : State) (a : Aud) : (s.setAud a).lists = s.lists := rfl
@[simp] theorem setAud_credit (s : State) (a : Aud) : (s.setAud a).credit = s.credit := rfl
@[simp] theorem setAud_eng (s : State) (a : Aud) : (s.setAud a).eng = s.eng := rfl
@[simp] theorem setAud_flt (s : State) (a : Aud) : (s.setAud a).flt = s.flt := rfl
@[simp] theorem setAud_evq (s : State) (a : Aud) : (s.setAud a).evq = s.evq := rfl
@[simp] theorem setAud_fltq (s : State) (a : Aud) : (s.setAud a).fltq = s.fltq := rfl
@[simp] theorem setAud_out24 (s : State) (a : Aud) : (s.setAud a).out24 = s.out24 := rfl
@[simp] theorem setAud_out25 (s : State) (a : Aud) : (s.setAud a).out25 = s.out25 := rfl
@[simp] theorem setAud_out26 (s : State) (a : Aud) : (s.setAud a).out26 = s.out26 := rfl
@[simp] theorem setAud_kaq (s : State) (a : Aud) : (s.setAud a).kaq = s.kaq := rfl
@[simp] theorem setAud_egsLast (s : State) (a : Aud) : (s.setAud a).egsLast = s.egsLast := rfl
@[simp] theorem setAud_cph (s : State) (a : Aud) : (s.setAud a).cph = s.cph := rfl
@[simp] theorem setAud_leases (s : State) (a : Aud) : (s.setAud a).leases = s.leases := rfl
@[simp] theorem setAud_pers (s : State) (a : Aud) : (s.setAud a).pers = s.pers := rfl
@[simp] theorem setAud_qlb (s : State) (a : Aud) : (s.setAud a).qlb = s.qlb := rfl
@[simp] theorem setAud_can (s : State) (a : Aud) : (s.setAud a).can = s.can := rfl
@[simp] theorem setAud_ser (s : State) (a : Aud) : (s.setAud a).ser = s.ser := rfl
@[simp] theorem setAud_glv (s : State) (a : Aud) : (s.setAud a).glv = s.glv := rfl
@[simp] theorem setAud_wak (s : State) (a : Aud) : (s.setAud a).wak = s.wak := rfl
@[simp] theorem setAud_cnt (s : State) (a : Aud) : (s.setAud a).cnt = s.cnt := rfl
@[simp] theorem setAud_free (s : State) (a : Aud) : (s.setAud a).free = s.free := rfl
@[simp] theorem setAud_pending (s : State) (a : Aud) : (s.setAud a).pending = s.pending := rfl
@[simp] theorem setAud_aud (s : State) (a : Aud) : (s.setAud a).aud = a := rfl

@[simp] theorem setCan_regs (s : State) (n : Nat) (c : CanC) : (s.setCan n c).regs = s.regs := rfl
@[simp] theorem setCan_mem (s : State) (n : Nat) (c : CanC) : (s.setCan n c).mem = s.mem := rfl
@[simp] theorem setCan_flash (s : State) (n : Nat) (c : CanC) : (s.setCan n c).flash = s.flash := rfl
@[simp] theorem setCan_tables (s : State) (n : Nat) (c : CanC) : (s.setCan n c).tables = s.tables := rfl
@[simp] theorem setCan_otp (s : State) (n : Nat) (c : CanC) : (s.setCan n c).otp = s.otp := rfl
@[simp] theorem setCan_boot (s : State) (n : Nat) (c : CanC) : (s.setCan n c).boot = s.boot := rfl
@[simp] theorem setCan_clk (s : State) (n : Nat) (c : CanC) : (s.setCan n c).clk = s.clk := rfl
@[simp] theorem setCan_iq (s : State) (n : Nat) (c : CanC) : (s.setCan n c).iq = s.iq := rfl
@[simp] theorem setCan_eq (s : State) (n : Nat) (c : CanC) : (s.setCan n c).eq = s.eq := rfl
@[simp] theorem setCan_skew (s : State) (n : Nat) (c : CanC) : (s.setCan n c).skew = s.skew := rfl
@[simp] theorem setCan_cap (s : State) (n : Nat) (c : CanC) : (s.setCan n c).cap = s.cap := rfl
@[simp] theorem setCan_pls (s : State) (n : Nat) (c : CanC) : (s.setCan n c).pls = s.pls := rfl
@[simp] theorem setCan_mac (s : State) (n : Nat) (c : CanC) : (s.setCan n c).mac = s.mac := rfl
@[simp] theorem setCan_fwd (s : State) (n : Nat) (c : CanC) : (s.setCan n c).fwd = s.fwd := rfl
@[simp] theorem setCan_sct (s : State) (n : Nat) (c : CanC) : (s.setCan n c).sct = s.sct := rfl
@[simp] theorem setCan_latAt (s : State) (n : Nat) (c : CanC) : (s.setCan n c).latAt = s.latAt := rfl
@[simp] theorem setCan_buf (s : State) (n : Nat) (c : CanC) : (s.setCan n c).buf = s.buf := rfl
@[simp] theorem setCan_lists (s : State) (n : Nat) (c : CanC) : (s.setCan n c).lists = s.lists := rfl
@[simp] theorem setCan_credit (s : State) (n : Nat) (c : CanC) : (s.setCan n c).credit = s.credit := rfl
@[simp] theorem setCan_eng (s : State) (n : Nat) (c : CanC) : (s.setCan n c).eng = s.eng := rfl
@[simp] theorem setCan_flt (s : State) (n : Nat) (c : CanC) : (s.setCan n c).flt = s.flt := rfl
@[simp] theorem setCan_evq (s : State) (n : Nat) (c : CanC) : (s.setCan n c).evq = s.evq := rfl
@[simp] theorem setCan_fltq (s : State) (n : Nat) (c : CanC) : (s.setCan n c).fltq = s.fltq := rfl
@[simp] theorem setCan_out24 (s : State) (n : Nat) (c : CanC) : (s.setCan n c).out24 = s.out24 := rfl
@[simp] theorem setCan_out25 (s : State) (n : Nat) (c : CanC) : (s.setCan n c).out25 = s.out25 := rfl
@[simp] theorem setCan_out26 (s : State) (n : Nat) (c : CanC) : (s.setCan n c).out26 = s.out26 := rfl
@[simp] theorem setCan_kaq (s : State) (n : Nat) (c : CanC) : (s.setCan n c).kaq = s.kaq := rfl
@[simp] theorem setCan_egsLast (s : State) (n : Nat) (c : CanC) : (s.setCan n c).egsLast = s.egsLast := rfl
@[simp] theorem setCan_cph (s : State) (n : Nat) (c : CanC) : (s.setCan n c).cph = s.cph := rfl
@[simp] theorem setCan_leases (s : State) (n : Nat) (c : CanC) : (s.setCan n c).leases = s.leases := rfl
@[simp] theorem setCan_pers (s : State) (n : Nat) (c : CanC) : (s.setCan n c).pers = s.pers := rfl
@[simp] theorem setCan_qlb (s : State) (n : Nat) (c : CanC) : (s.setCan n c).qlb = s.qlb := rfl
@[simp] theorem setCan_aud (s : State) (n : Nat) (c : CanC) : (s.setCan n c).aud = s.aud := rfl
@[simp] theorem setCan_ser (s : State) (n : Nat) (c : CanC) : (s.setCan n c).ser = s.ser := rfl
@[simp] theorem setCan_glv (s : State) (n : Nat) (c : CanC) : (s.setCan n c).glv = s.glv := rfl
@[simp] theorem setCan_wak (s : State) (n : Nat) (c : CanC) : (s.setCan n c).wak = s.wak := rfl
@[simp] theorem setCan_cnt (s : State) (n : Nat) (c : CanC) : (s.setCan n c).cnt = s.cnt := rfl
@[simp] theorem setCan_free (s : State) (n : Nat) (c : CanC) : (s.setCan n c).free = s.free := rfl
@[simp] theorem setCan_pending (s : State) (n : Nat) (c : CanC) : (s.setCan n c).pending = s.pending := rfl

@[simp] theorem modCan_regs (s : State) (n : Nat) (f : CanC → CanC) : (s.modCan n f).regs = s.regs := rfl
@[simp] theorem modCan_mem (s : State) (n : Nat) (f : CanC → CanC) : (s.modCan n f).mem = s.mem := rfl
@[simp] theorem modCan_flash (s : State) (n : Nat) (f : CanC → CanC) : (s.modCan n f).flash = s.flash := rfl
@[simp] theorem modCan_tables (s : State) (n : Nat) (f : CanC → CanC) : (s.modCan n f).tables = s.tables := rfl
@[simp] theorem modCan_otp (s : State) (n : Nat) (f : CanC → CanC) : (s.modCan n f).otp = s.otp := rfl
@[simp] theorem modCan_boot (s : State) (n : Nat) (f : CanC → CanC) : (s.modCan n f).boot = s.boot := rfl
@[simp] theorem modCan_clk (s : State) (n : Nat) (f : CanC → CanC) : (s.modCan n f).clk = s.clk := rfl
@[simp] theorem modCan_iq (s : State) (n : Nat) (f : CanC → CanC) : (s.modCan n f).iq = s.iq := rfl
@[simp] theorem modCan_eq (s : State) (n : Nat) (f : CanC → CanC) : (s.modCan n f).eq = s.eq := rfl
@[simp] theorem modCan_skew (s : State) (n : Nat) (f : CanC → CanC) : (s.modCan n f).skew = s.skew := rfl
@[simp] theorem modCan_cap (s : State) (n : Nat) (f : CanC → CanC) : (s.modCan n f).cap = s.cap := rfl
@[simp] theorem modCan_pls (s : State) (n : Nat) (f : CanC → CanC) : (s.modCan n f).pls = s.pls := rfl
@[simp] theorem modCan_mac (s : State) (n : Nat) (f : CanC → CanC) : (s.modCan n f).mac = s.mac := rfl
@[simp] theorem modCan_fwd (s : State) (n : Nat) (f : CanC → CanC) : (s.modCan n f).fwd = s.fwd := rfl
@[simp] theorem modCan_sct (s : State) (n : Nat) (f : CanC → CanC) : (s.modCan n f).sct = s.sct := rfl
@[simp] theorem modCan_latAt (s : State) (n : Nat) (f : CanC → CanC) : (s.modCan n f).latAt = s.latAt := rfl
@[simp] theorem modCan_buf (s : State) (n : Nat) (f : CanC → CanC) : (s.modCan n f).buf = s.buf := rfl
@[simp] theorem modCan_lists (s : State) (n : Nat) (f : CanC → CanC) : (s.modCan n f).lists = s.lists := rfl
@[simp] theorem modCan_credit (s : State) (n : Nat) (f : CanC → CanC) : (s.modCan n f).credit = s.credit := rfl
@[simp] theorem modCan_eng (s : State) (n : Nat) (f : CanC → CanC) : (s.modCan n f).eng = s.eng := rfl
@[simp] theorem modCan_flt (s : State) (n : Nat) (f : CanC → CanC) : (s.modCan n f).flt = s.flt := rfl
@[simp] theorem modCan_evq (s : State) (n : Nat) (f : CanC → CanC) : (s.modCan n f).evq = s.evq := rfl
@[simp] theorem modCan_fltq (s : State) (n : Nat) (f : CanC → CanC) : (s.modCan n f).fltq = s.fltq := rfl
@[simp] theorem modCan_out24 (s : State) (n : Nat) (f : CanC → CanC) : (s.modCan n f).out24 = s.out24 := rfl
@[simp] theorem modCan_out25 (s : State) (n : Nat) (f : CanC → CanC) : (s.modCan n f).out25 = s.out25 := rfl
@[simp] theorem modCan_out26 (s : State) (n : Nat) (f : CanC → CanC) : (s.modCan n f).out26 = s.out26 := rfl
@[simp] theorem modCan_kaq (s : State) (n : Nat) (f : CanC → CanC) : (s.modCan n f).kaq = s.kaq := rfl
@[simp] theorem modCan_egsLast (s : State) (n : Nat) (f : CanC → CanC) : (s.modCan n f).egsLast = s.egsLast := rfl
@[simp] theorem modCan_cph (s : State) (n : Nat) (f : CanC → CanC) : (s.modCan n f).cph = s.cph := rfl
@[simp] theorem modCan_leases (s : State) (n : Nat) (f : CanC → CanC) : (s.modCan n f).leases = s.leases := rfl
@[simp] theorem modCan_pers (s : State) (n : Nat) (f : CanC → CanC) : (s.modCan n f).pers = s.pers := rfl
@[simp] theorem modCan_qlb (s : State) (n : Nat) (f : CanC → CanC) : (s.modCan n f).qlb = s.qlb := rfl
@[simp] theorem modCan_aud (s : State) (n : Nat) (f : CanC → CanC) : (s.modCan n f).aud = s.aud := rfl
@[simp] theorem modCan_ser (s : State) (n : Nat) (f : CanC → CanC) : (s.modCan n f).ser = s.ser := rfl
@[simp] theorem modCan_glv (s : State) (n : Nat) (f : CanC → CanC) : (s.modCan n f).glv = s.glv := rfl
@[simp] theorem modCan_wak (s : State) (n : Nat) (f : CanC → CanC) : (s.modCan n f).wak = s.wak := rfl
@[simp] theorem modCan_cnt (s : State) (n : Nat) (f : CanC → CanC) : (s.modCan n f).cnt = s.cnt := rfl
@[simp] theorem modCan_free (s : State) (n : Nat) (f : CanC → CanC) : (s.modCan n f).free = s.free := rfl
@[simp] theorem modCan_pending (s : State) (n : Nat) (f : CanC → CanC) : (s.modCan n f).pending = s.pending := rfl

@[simp] theorem setSer_regs (s : State) (n : Nat) (c : SerC) : (s.setSer n c).regs = s.regs := rfl
@[simp] theorem setSer_mem (s : State) (n : Nat) (c : SerC) : (s.setSer n c).mem = s.mem := rfl
@[simp] theorem setSer_flash (s : State) (n : Nat) (c : SerC) : (s.setSer n c).flash = s.flash := rfl
@[simp] theorem setSer_tables (s : State) (n : Nat) (c : SerC) : (s.setSer n c).tables = s.tables := rfl
@[simp] theorem setSer_otp (s : State) (n : Nat) (c : SerC) : (s.setSer n c).otp = s.otp := rfl
@[simp] theorem setSer_boot (s : State) (n : Nat) (c : SerC) : (s.setSer n c).boot = s.boot := rfl
@[simp] theorem setSer_clk (s : State) (n : Nat) (c : SerC) : (s.setSer n c).clk = s.clk := rfl
@[simp] theorem setSer_iq (s : State) (n : Nat) (c : SerC) : (s.setSer n c).iq = s.iq := rfl
@[simp] theorem setSer_eq (s : State) (n : Nat) (c : SerC) : (s.setSer n c).eq = s.eq := rfl
@[simp] theorem setSer_skew (s : State) (n : Nat) (c : SerC) : (s.setSer n c).skew = s.skew := rfl
@[simp] theorem setSer_cap (s : State) (n : Nat) (c : SerC) : (s.setSer n c).cap = s.cap := rfl
@[simp] theorem setSer_pls (s : State) (n : Nat) (c : SerC) : (s.setSer n c).pls = s.pls := rfl
@[simp] theorem setSer_mac (s : State) (n : Nat) (c : SerC) : (s.setSer n c).mac = s.mac := rfl
@[simp] theorem setSer_fwd (s : State) (n : Nat) (c : SerC) : (s.setSer n c).fwd = s.fwd := rfl
@[simp] theorem setSer_sct (s : State) (n : Nat) (c : SerC) : (s.setSer n c).sct = s.sct := rfl
@[simp] theorem setSer_latAt (s : State) (n : Nat) (c : SerC) : (s.setSer n c).latAt = s.latAt := rfl
@[simp] theorem setSer_buf (s : State) (n : Nat) (c : SerC) : (s.setSer n c).buf = s.buf := rfl
@[simp] theorem setSer_lists (s : State) (n : Nat) (c : SerC) : (s.setSer n c).lists = s.lists := rfl
@[simp] theorem setSer_credit (s : State) (n : Nat) (c : SerC) : (s.setSer n c).credit = s.credit := rfl
@[simp] theorem setSer_eng (s : State) (n : Nat) (c : SerC) : (s.setSer n c).eng = s.eng := rfl
@[simp] theorem setSer_flt (s : State) (n : Nat) (c : SerC) : (s.setSer n c).flt = s.flt := rfl
@[simp] theorem setSer_evq (s : State) (n : Nat) (c : SerC) : (s.setSer n c).evq = s.evq := rfl
@[simp] theorem setSer_fltq (s : State) (n : Nat) (c : SerC) : (s.setSer n c).fltq = s.fltq := rfl
@[simp] theorem setSer_out24 (s : State) (n : Nat) (c : SerC) : (s.setSer n c).out24 = s.out24 := rfl
@[simp] theorem setSer_out25 (s : State) (n : Nat) (c : SerC) : (s.setSer n c).out25 = s.out25 := rfl
@[simp] theorem setSer_out26 (s : State) (n : Nat) (c : SerC) : (s.setSer n c).out26 = s.out26 := rfl
@[simp] theorem setSer_kaq (s : State) (n : Nat) (c : SerC) : (s.setSer n c).kaq = s.kaq := rfl
@[simp] theorem setSer_egsLast (s : State) (n : Nat) (c : SerC) : (s.setSer n c).egsLast = s.egsLast := rfl
@[simp] theorem setSer_cph (s : State) (n : Nat) (c : SerC) : (s.setSer n c).cph = s.cph := rfl
@[simp] theorem setSer_leases (s : State) (n : Nat) (c : SerC) : (s.setSer n c).leases = s.leases := rfl
@[simp] theorem setSer_pers (s : State) (n : Nat) (c : SerC) : (s.setSer n c).pers = s.pers := rfl
@[simp] theorem setSer_qlb (s : State) (n : Nat) (c : SerC) : (s.setSer n c).qlb = s.qlb := rfl
@[simp] theorem setSer_aud (s : State) (n : Nat) (c : SerC) : (s.setSer n c).aud = s.aud := rfl
@[simp] theorem setSer_can (s : State) (n : Nat) (c : SerC) : (s.setSer n c).can = s.can := rfl
@[simp] theorem setSer_glv (s : State) (n : Nat) (c : SerC) : (s.setSer n c).glv = s.glv := rfl
@[simp] theorem setSer_wak (s : State) (n : Nat) (c : SerC) : (s.setSer n c).wak = s.wak := rfl
@[simp] theorem setSer_cnt (s : State) (n : Nat) (c : SerC) : (s.setSer n c).cnt = s.cnt := rfl
@[simp] theorem setSer_free (s : State) (n : Nat) (c : SerC) : (s.setSer n c).free = s.free := rfl
@[simp] theorem setSer_pending (s : State) (n : Nat) (c : SerC) : (s.setSer n c).pending = s.pending := rfl

@[simp] theorem modSer_regs (s : State) (n : Nat) (f : SerC → SerC) : (s.modSer n f).regs = s.regs := rfl
@[simp] theorem modSer_mem (s : State) (n : Nat) (f : SerC → SerC) : (s.modSer n f).mem = s.mem := rfl
@[simp] theorem modSer_flash (s : State) (n : Nat) (f : SerC → SerC) : (s.modSer n f).flash = s.flash := rfl
@[simp] theorem modSer_tables (s : State) (n : Nat) (f : SerC → SerC) : (s.modSer n f).tables = s.tables := rfl
@[simp] theorem modSer_otp (s : State) (n : Nat) (f : SerC → SerC) : (s.modSer n f).otp = s.otp := rfl
@[simp] theorem modSer_boot (s : State) (n : Nat) (f : SerC → SerC) : (s.modSer n f).boot = s.boot := rfl
@[simp] theorem modSer_clk (s : State) (n : Nat) (f : SerC → SerC) : (s.modSer n f).clk = s.clk := rfl
@[simp] theorem modSer_iq (s : State) (n : Nat) (f : SerC → SerC) : (s.modSer n f).iq = s.iq := rfl
@[simp] theorem modSer_eq (s : State) (n : Nat) (f : SerC → SerC) : (s.modSer n f).eq = s.eq := rfl
@[simp] theorem modSer_skew (s : State) (n : Nat) (f : SerC → SerC) : (s.modSer n f).skew = s.skew := rfl
@[simp] theorem modSer_cap (s : State) (n : Nat) (f : SerC → SerC) : (s.modSer n f).cap = s.cap := rfl
@[simp] theorem modSer_pls (s : State) (n : Nat) (f : SerC → SerC) : (s.modSer n f).pls = s.pls := rfl
@[simp] theorem modSer_mac (s : State) (n : Nat) (f : SerC → SerC) : (s.modSer n f).mac = s.mac := rfl
@[simp] theorem modSer_fwd (s : State) (n : Nat) (f : SerC → SerC) : (s.modSer n f).fwd = s.fwd := rfl
@[simp] theorem modSer_sct (s : State) (n : Nat) (f : SerC → SerC) : (s.modSer n f).sct = s.sct := rfl
@[simp] theorem modSer_latAt (s : State) (n : Nat) (f : SerC → SerC) : (s.modSer n f).latAt = s.latAt := rfl
@[simp] theorem modSer_buf (s : State) (n : Nat) (f : SerC → SerC) : (s.modSer n f).buf = s.buf := rfl
@[simp] theorem modSer_lists (s : State) (n : Nat) (f : SerC → SerC) : (s.modSer n f).lists = s.lists := rfl
@[simp] theorem modSer_credit (s : State) (n : Nat) (f : SerC → SerC) : (s.modSer n f).credit = s.credit := rfl
@[simp] theorem modSer_eng (s : State) (n : Nat) (f : SerC → SerC) : (s.modSer n f).eng = s.eng := rfl
@[simp] theorem modSer_flt (s : State) (n : Nat) (f : SerC → SerC) : (s.modSer n f).flt = s.flt := rfl
@[simp] theorem modSer_evq (s : State) (n : Nat) (f : SerC → SerC) : (s.modSer n f).evq = s.evq := rfl
@[simp] theorem modSer_fltq (s : State) (n : Nat) (f : SerC → SerC) : (s.modSer n f).fltq = s.fltq := rfl
@[simp] theorem modSer_out24 (s : State) (n : Nat) (f : SerC → SerC) : (s.modSer n f).out24 = s.out24 := rfl
@[simp] theorem modSer_out25 (s : State) (n : Nat) (f : SerC → SerC) : (s.modSer n f).out25 = s.out25 := rfl
@[simp] theorem modSer_out26 (s : State) (n : Nat) (f : SerC → SerC) : (s.modSer n f).out26 = s.out26 := rfl
@[simp] theorem modSer_kaq (s : State) (n : Nat) (f : SerC → SerC) : (s.modSer n f).kaq = s.kaq := rfl
@[simp] theorem modSer_egsLast (s : State) (n : Nat) (f : SerC → SerC) : (s.modSer n f).egsLast = s.egsLast := rfl
@[simp] theorem modSer_cph (s : State) (n : Nat) (f : SerC → SerC) : (s.modSer n f).cph = s.cph := rfl
@[simp] theorem modSer_leases (s : State) (n : Nat) (f : SerC → SerC) : (s.modSer n f).leases = s.leases := rfl
@[simp] theorem modSer_pers (s : State) (n : Nat) (f : SerC → SerC) : (s.modSer n f).pers = s.pers := rfl
@[simp] theorem modSer_qlb (s : State) (n : Nat) (f : SerC → SerC) : (s.modSer n f).qlb = s.qlb := rfl
@[simp] theorem modSer_aud (s : State) (n : Nat) (f : SerC → SerC) : (s.modSer n f).aud = s.aud := rfl
@[simp] theorem modSer_can (s : State) (n : Nat) (f : SerC → SerC) : (s.modSer n f).can = s.can := rfl
@[simp] theorem modSer_glv (s : State) (n : Nat) (f : SerC → SerC) : (s.modSer n f).glv = s.glv := rfl
@[simp] theorem modSer_wak (s : State) (n : Nat) (f : SerC → SerC) : (s.modSer n f).wak = s.wak := rfl
@[simp] theorem modSer_cnt (s : State) (n : Nat) (f : SerC → SerC) : (s.modSer n f).cnt = s.cnt := rfl
@[simp] theorem modSer_free (s : State) (n : Nat) (f : SerC → SerC) : (s.modSer n f).free = s.free := rfl
@[simp] theorem modSer_pending (s : State) (n : Nat) (f : SerC → SerC) : (s.modSer n f).pending = s.pending := rfl

@[simp] theorem setGlv_regs (s : State) (g : Glv) : (s.setGlv g).regs = s.regs := rfl
@[simp] theorem setGlv_mem (s : State) (g : Glv) : (s.setGlv g).mem = s.mem := rfl
@[simp] theorem setGlv_flash (s : State) (g : Glv) : (s.setGlv g).flash = s.flash := rfl
@[simp] theorem setGlv_tables (s : State) (g : Glv) : (s.setGlv g).tables = s.tables := rfl
@[simp] theorem setGlv_otp (s : State) (g : Glv) : (s.setGlv g).otp = s.otp := rfl
@[simp] theorem setGlv_boot (s : State) (g : Glv) : (s.setGlv g).boot = s.boot := rfl
@[simp] theorem setGlv_clk (s : State) (g : Glv) : (s.setGlv g).clk = s.clk := rfl
@[simp] theorem setGlv_iq (s : State) (g : Glv) : (s.setGlv g).iq = s.iq := rfl
@[simp] theorem setGlv_eq (s : State) (g : Glv) : (s.setGlv g).eq = s.eq := rfl
@[simp] theorem setGlv_skew (s : State) (g : Glv) : (s.setGlv g).skew = s.skew := rfl
@[simp] theorem setGlv_cap (s : State) (g : Glv) : (s.setGlv g).cap = s.cap := rfl
@[simp] theorem setGlv_pls (s : State) (g : Glv) : (s.setGlv g).pls = s.pls := rfl
@[simp] theorem setGlv_mac (s : State) (g : Glv) : (s.setGlv g).mac = s.mac := rfl
@[simp] theorem setGlv_fwd (s : State) (g : Glv) : (s.setGlv g).fwd = s.fwd := rfl
@[simp] theorem setGlv_sct (s : State) (g : Glv) : (s.setGlv g).sct = s.sct := rfl
@[simp] theorem setGlv_latAt (s : State) (g : Glv) : (s.setGlv g).latAt = s.latAt := rfl
@[simp] theorem setGlv_buf (s : State) (g : Glv) : (s.setGlv g).buf = s.buf := rfl
@[simp] theorem setGlv_lists (s : State) (g : Glv) : (s.setGlv g).lists = s.lists := rfl
@[simp] theorem setGlv_credit (s : State) (g : Glv) : (s.setGlv g).credit = s.credit := rfl
@[simp] theorem setGlv_eng (s : State) (g : Glv) : (s.setGlv g).eng = s.eng := rfl
@[simp] theorem setGlv_flt (s : State) (g : Glv) : (s.setGlv g).flt = s.flt := rfl
@[simp] theorem setGlv_evq (s : State) (g : Glv) : (s.setGlv g).evq = s.evq := rfl
@[simp] theorem setGlv_fltq (s : State) (g : Glv) : (s.setGlv g).fltq = s.fltq := rfl
@[simp] theorem setGlv_out24 (s : State) (g : Glv) : (s.setGlv g).out24 = s.out24 := rfl
@[simp] theorem setGlv_out25 (s : State) (g : Glv) : (s.setGlv g).out25 = s.out25 := rfl
@[simp] theorem setGlv_out26 (s : State) (g : Glv) : (s.setGlv g).out26 = s.out26 := rfl
@[simp] theorem setGlv_kaq (s : State) (g : Glv) : (s.setGlv g).kaq = s.kaq := rfl
@[simp] theorem setGlv_egsLast (s : State) (g : Glv) : (s.setGlv g).egsLast = s.egsLast := rfl
@[simp] theorem setGlv_cph (s : State) (g : Glv) : (s.setGlv g).cph = s.cph := rfl
@[simp] theorem setGlv_leases (s : State) (g : Glv) : (s.setGlv g).leases = s.leases := rfl
@[simp] theorem setGlv_pers (s : State) (g : Glv) : (s.setGlv g).pers = s.pers := rfl
@[simp] theorem setGlv_qlb (s : State) (g : Glv) : (s.setGlv g).qlb = s.qlb := rfl
@[simp] theorem setGlv_aud (s : State) (g : Glv) : (s.setGlv g).aud = s.aud := rfl
@[simp] theorem setGlv_can (s : State) (g : Glv) : (s.setGlv g).can = s.can := rfl
@[simp] theorem setGlv_ser (s : State) (g : Glv) : (s.setGlv g).ser = s.ser := rfl
@[simp] theorem setGlv_wak (s : State) (g : Glv) : (s.setGlv g).wak = s.wak := rfl
@[simp] theorem setGlv_cnt (s : State) (g : Glv) : (s.setGlv g).cnt = s.cnt := rfl
@[simp] theorem setGlv_free (s : State) (g : Glv) : (s.setGlv g).free = s.free := rfl
@[simp] theorem setGlv_pending (s : State) (g : Glv) : (s.setGlv g).pending = s.pending := rfl
@[simp] theorem setGlv_glv (s : State) (g : Glv) : (s.setGlv g).glv = g := rfl

@[simp] theorem setEnc_regs (s : State) (c : Nat) (e : Enc) : (s.setEnc c e).regs = s.regs := rfl
@[simp] theorem setEnc_mem (s : State) (c : Nat) (e : Enc) : (s.setEnc c e).mem = s.mem := rfl
@[simp] theorem setEnc_flash (s : State) (c : Nat) (e : Enc) : (s.setEnc c e).flash = s.flash := rfl
@[simp] theorem setEnc_tables (s : State) (c : Nat) (e : Enc) : (s.setEnc c e).tables = s.tables := rfl
@[simp] theorem setEnc_otp (s : State) (c : Nat) (e : Enc) : (s.setEnc c e).otp = s.otp := rfl
@[simp] theorem setEnc_boot (s : State) (c : Nat) (e : Enc) : (s.setEnc c e).boot = s.boot := rfl
@[simp] theorem setEnc_clk (s : State) (c : Nat) (e : Enc) : (s.setEnc c e).clk = s.clk := rfl
@[simp] theorem setEnc_iq (s : State) (c : Nat) (e : Enc) : (s.setEnc c e).iq = s.iq := rfl
@[simp] theorem setEnc_eq (s : State) (c : Nat) (e : Enc) : (s.setEnc c e).eq = s.eq := rfl
@[simp] theorem setEnc_skew (s : State) (c : Nat) (e : Enc) : (s.setEnc c e).skew = s.skew := rfl
@[simp] theorem setEnc_cap (s : State) (c : Nat) (e : Enc) : (s.setEnc c e).cap = s.cap := rfl
@[simp] theorem setEnc_pls (s : State) (c : Nat) (e : Enc) : (s.setEnc c e).pls = s.pls := rfl
@[simp] theorem setEnc_mac (s : State) (c : Nat) (e : Enc) : (s.setEnc c e).mac = s.mac := rfl
@[simp] theorem setEnc_fwd (s : State) (c : Nat) (e : Enc) : (s.setEnc c e).fwd = s.fwd := rfl
@[simp] theorem setEnc_sct (s : State) (c : Nat) (e : Enc) : (s.setEnc c e).sct = s.sct := rfl
@[simp] theorem setEnc_latAt (s : State) (c : Nat) (e : Enc) : (s.setEnc c e).latAt = s.latAt := rfl
@[simp] theorem setEnc_buf (s : State) (c : Nat) (e : Enc) : (s.setEnc c e).buf = s.buf := rfl
@[simp] theorem setEnc_lists (s : State) (c : Nat) (e : Enc) : (s.setEnc c e).lists = s.lists := rfl
@[simp] theorem setEnc_credit (s : State) (c : Nat) (e : Enc) : (s.setEnc c e).credit = s.credit := rfl
@[simp] theorem setEnc_eng (s : State) (c : Nat) (e : Enc) : (s.setEnc c e).eng = s.eng := rfl
@[simp] theorem setEnc_flt (s : State) (c : Nat) (e : Enc) : (s.setEnc c e).flt = s.flt := rfl
@[simp] theorem setEnc_evq (s : State) (c : Nat) (e : Enc) : (s.setEnc c e).evq = s.evq := rfl
@[simp] theorem setEnc_fltq (s : State) (c : Nat) (e : Enc) : (s.setEnc c e).fltq = s.fltq := rfl
@[simp] theorem setEnc_out24 (s : State) (c : Nat) (e : Enc) : (s.setEnc c e).out24 = s.out24 := rfl
@[simp] theorem setEnc_out25 (s : State) (c : Nat) (e : Enc) : (s.setEnc c e).out25 = s.out25 := rfl
@[simp] theorem setEnc_out26 (s : State) (c : Nat) (e : Enc) : (s.setEnc c e).out26 = s.out26 := rfl
@[simp] theorem setEnc_kaq (s : State) (c : Nat) (e : Enc) : (s.setEnc c e).kaq = s.kaq := rfl
@[simp] theorem setEnc_egsLast (s : State) (c : Nat) (e : Enc) : (s.setEnc c e).egsLast = s.egsLast := rfl
@[simp] theorem setEnc_cph (s : State) (c : Nat) (e : Enc) : (s.setEnc c e).cph = s.cph := rfl
@[simp] theorem setEnc_leases (s : State) (c : Nat) (e : Enc) : (s.setEnc c e).leases = s.leases := rfl
@[simp] theorem setEnc_pers (s : State) (c : Nat) (e : Enc) : (s.setEnc c e).pers = s.pers := rfl
@[simp] theorem setEnc_qlb (s : State) (c : Nat) (e : Enc) : (s.setEnc c e).qlb = s.qlb := rfl
@[simp] theorem setEnc_aud (s : State) (c : Nat) (e : Enc) : (s.setEnc c e).aud = s.aud := rfl
@[simp] theorem setEnc_can (s : State) (c : Nat) (e : Enc) : (s.setEnc c e).can = s.can := rfl
@[simp] theorem setEnc_ser (s : State) (c : Nat) (e : Enc) : (s.setEnc c e).ser = s.ser := rfl
@[simp] theorem setEnc_wak (s : State) (c : Nat) (e : Enc) : (s.setEnc c e).wak = s.wak := rfl
@[simp] theorem setEnc_cnt (s : State) (c : Nat) (e : Enc) : (s.setEnc c e).cnt = s.cnt := rfl
@[simp] theorem setEnc_free (s : State) (c : Nat) (e : Enc) : (s.setEnc c e).free = s.free := rfl
@[simp] theorem setEnc_pending (s : State) (c : Nat) (e : Enc) : (s.setEnc c e).pending = s.pending := rfl

@[simp] theorem setWak_regs (s : State) (w : Wak) : (s.setWak w).regs = s.regs := rfl
@[simp] theorem setWak_mem (s : State) (w : Wak) : (s.setWak w).mem = s.mem := rfl
@[simp] theorem setWak_flash (s : State) (w : Wak) : (s.setWak w).flash = s.flash := rfl
@[simp] theorem setWak_tables (s : State) (w : Wak) : (s.setWak w).tables = s.tables := rfl
@[simp] theorem setWak_otp (s : State) (w : Wak) : (s.setWak w).otp = s.otp := rfl
@[simp] theorem setWak_boot (s : State) (w : Wak) : (s.setWak w).boot = s.boot := rfl
@[simp] theorem setWak_clk (s : State) (w : Wak) : (s.setWak w).clk = s.clk := rfl
@[simp] theorem setWak_iq (s : State) (w : Wak) : (s.setWak w).iq = s.iq := rfl
@[simp] theorem setWak_eq (s : State) (w : Wak) : (s.setWak w).eq = s.eq := rfl
@[simp] theorem setWak_skew (s : State) (w : Wak) : (s.setWak w).skew = s.skew := rfl
@[simp] theorem setWak_cap (s : State) (w : Wak) : (s.setWak w).cap = s.cap := rfl
@[simp] theorem setWak_pls (s : State) (w : Wak) : (s.setWak w).pls = s.pls := rfl
@[simp] theorem setWak_mac (s : State) (w : Wak) : (s.setWak w).mac = s.mac := rfl
@[simp] theorem setWak_fwd (s : State) (w : Wak) : (s.setWak w).fwd = s.fwd := rfl
@[simp] theorem setWak_sct (s : State) (w : Wak) : (s.setWak w).sct = s.sct := rfl
@[simp] theorem setWak_latAt (s : State) (w : Wak) : (s.setWak w).latAt = s.latAt := rfl
@[simp] theorem setWak_buf (s : State) (w : Wak) : (s.setWak w).buf = s.buf := rfl
@[simp] theorem setWak_lists (s : State) (w : Wak) : (s.setWak w).lists = s.lists := rfl
@[simp] theorem setWak_credit (s : State) (w : Wak) : (s.setWak w).credit = s.credit := rfl
@[simp] theorem setWak_eng (s : State) (w : Wak) : (s.setWak w).eng = s.eng := rfl
@[simp] theorem setWak_flt (s : State) (w : Wak) : (s.setWak w).flt = s.flt := rfl
@[simp] theorem setWak_evq (s : State) (w : Wak) : (s.setWak w).evq = s.evq := rfl
@[simp] theorem setWak_fltq (s : State) (w : Wak) : (s.setWak w).fltq = s.fltq := rfl
@[simp] theorem setWak_out24 (s : State) (w : Wak) : (s.setWak w).out24 = s.out24 := rfl
@[simp] theorem setWak_out25 (s : State) (w : Wak) : (s.setWak w).out25 = s.out25 := rfl
@[simp] theorem setWak_out26 (s : State) (w : Wak) : (s.setWak w).out26 = s.out26 := rfl
@[simp] theorem setWak_kaq (s : State) (w : Wak) : (s.setWak w).kaq = s.kaq := rfl
@[simp] theorem setWak_egsLast (s : State) (w : Wak) : (s.setWak w).egsLast = s.egsLast := rfl
@[simp] theorem setWak_cph (s : State) (w : Wak) : (s.setWak w).cph = s.cph := rfl
@[simp] theorem setWak_leases (s : State) (w : Wak) : (s.setWak w).leases = s.leases := rfl
@[simp] theorem setWak_pers (s : State) (w : Wak) : (s.setWak w).pers = s.pers := rfl
@[simp] theorem setWak_qlb (s : State) (w : Wak) : (s.setWak w).qlb = s.qlb := rfl
@[simp] theorem setWak_aud (s : State) (w : Wak) : (s.setWak w).aud = s.aud := rfl
@[simp] theorem setWak_can (s : State) (w : Wak) : (s.setWak w).can = s.can := rfl
@[simp] theorem setWak_ser (s : State) (w : Wak) : (s.setWak w).ser = s.ser := rfl
@[simp] theorem setWak_glv (s : State) (w : Wak) : (s.setWak w).glv = s.glv := rfl
@[simp] theorem setWak_cnt (s : State) (w : Wak) : (s.setWak w).cnt = s.cnt := rfl
@[simp] theorem setWak_free (s : State) (w : Wak) : (s.setWak w).free = s.free := rfl
@[simp] theorem setWak_pending (s : State) (w : Wak) : (s.setWak w).pending = s.pending := rfl
@[simp] theorem setWak_wak (s : State) (w : Wak) : (s.setWak w).wak = w := rfl

@[simp] theorem setPower_mem (s : State) (p : Nat) : (s.setPower p).mem = s.mem := rfl
@[simp] theorem setPower_flash (s : State) (p : Nat) : (s.setPower p).flash = s.flash := rfl
@[simp] theorem setPower_tables (s : State) (p : Nat) : (s.setPower p).tables = s.tables := rfl
@[simp] theorem setPower_otp (s : State) (p : Nat) : (s.setPower p).otp = s.otp := rfl
@[simp] theorem setPower_boot (s : State) (p : Nat) : (s.setPower p).boot = s.boot := rfl
@[simp] theorem setPower_clk (s : State) (p : Nat) : (s.setPower p).clk = s.clk := rfl
@[simp] theorem setPower_iq (s : State) (p : Nat) : (s.setPower p).iq = s.iq := rfl
@[simp] theorem setPower_eq (s : State) (p : Nat) : (s.setPower p).eq = s.eq := rfl
@[simp] theorem setPower_skew (s : State) (p : Nat) : (s.setPower p).skew = s.skew := rfl
@[simp] theorem setPower_cap (s : State) (p : Nat) : (s.setPower p).cap = s.cap := rfl
@[simp] theorem setPower_pls (s : State) (p : Nat) : (s.setPower p).pls = s.pls := rfl
@[simp] theorem setPower_mac (s : State) (p : Nat) : (s.setPower p).mac = s.mac := rfl
@[simp] theorem setPower_fwd (s : State) (p : Nat) : (s.setPower p).fwd = s.fwd := rfl
@[simp] theorem setPower_sct (s : State) (p : Nat) : (s.setPower p).sct = s.sct := rfl
@[simp] theorem setPower_latAt (s : State) (p : Nat) : (s.setPower p).latAt = s.latAt := rfl
@[simp] theorem setPower_buf (s : State) (p : Nat) : (s.setPower p).buf = s.buf := rfl
@[simp] theorem setPower_lists (s : State) (p : Nat) : (s.setPower p).lists = s.lists := rfl
@[simp] theorem setPower_credit (s : State) (p : Nat) : (s.setPower p).credit = s.credit := rfl
@[simp] theorem setPower_eng (s : State) (p : Nat) : (s.setPower p).eng = s.eng := rfl
@[simp] theorem setPower_flt (s : State) (p : Nat) : (s.setPower p).flt = s.flt := rfl
@[simp] theorem setPower_evq (s : State) (p : Nat) : (s.setPower p).evq = s.evq := rfl
@[simp] theorem setPower_fltq (s : State) (p : Nat) : (s.setPower p).fltq = s.fltq := rfl
@[simp] theorem setPower_out24 (s : State) (p : Nat) : (s.setPower p).out24 = s.out24 := rfl
@[simp] theorem setPower_out25 (s : State) (p : Nat) : (s.setPower p).out25 = s.out25 := rfl
@[simp] theorem setPower_out26 (s : State) (p : Nat) : (s.setPower p).out26 = s.out26 := rfl
@[simp] theorem setPower_kaq (s : State) (p : Nat) : (s.setPower p).kaq = s.kaq := rfl
@[simp] theorem setPower_egsLast (s : State) (p : Nat) : (s.setPower p).egsLast = s.egsLast := rfl
@[simp] theorem setPower_cph (s : State) (p : Nat) : (s.setPower p).cph = s.cph := rfl
@[simp] theorem setPower_leases (s : State) (p : Nat) : (s.setPower p).leases = s.leases := rfl
@[simp] theorem setPower_pers (s : State) (p : Nat) : (s.setPower p).pers = s.pers := rfl
@[simp] theorem setPower_qlb (s : State) (p : Nat) : (s.setPower p).qlb = s.qlb := rfl
@[simp] theorem setPower_aud (s : State) (p : Nat) : (s.setPower p).aud = s.aud := rfl
@[simp] theorem setPower_can (s : State) (p : Nat) : (s.setPower p).can = s.can := rfl
@[simp] theorem setPower_ser (s : State) (p : Nat) : (s.setPower p).ser = s.ser := rfl
@[simp] theorem setPower_glv (s : State) (p : Nat) : (s.setPower p).glv = s.glv := rfl
@[simp] theorem setPower_wak (s : State) (p : Nat) : (s.setPower p).wak = s.wak := rfl
@[simp] theorem setPower_cnt (s : State) (p : Nat) : (s.setPower p).cnt = s.cnt := rfl
@[simp] theorem setPower_free (s : State) (p : Nat) : (s.setPower p).free = s.free := rfl
@[simp] theorem setPower_pending (s : State) (p : Nat) : (s.setPower p).pending = s.pending := rfl

@[simp] theorem setCnt_regs (s : State) (c : Cnt) : (s.setCnt c).regs = s.regs := rfl
@[simp] theorem setCnt_mem (s : State) (c : Cnt) : (s.setCnt c).mem = s.mem := rfl
@[simp] theorem setCnt_flash (s : State) (c : Cnt) : (s.setCnt c).flash = s.flash := rfl
@[simp] theorem setCnt_tables (s : State) (c : Cnt) : (s.setCnt c).tables = s.tables := rfl
@[simp] theorem setCnt_otp (s : State) (c : Cnt) : (s.setCnt c).otp = s.otp := rfl
@[simp] theorem setCnt_boot (s : State) (c : Cnt) : (s.setCnt c).boot = s.boot := rfl
@[simp] theorem setCnt_clk (s : State) (c : Cnt) : (s.setCnt c).clk = s.clk := rfl
@[simp] theorem setCnt_iq (s : State) (c : Cnt) : (s.setCnt c).iq = s.iq := rfl
@[simp] theorem setCnt_eq (s : State) (c : Cnt) : (s.setCnt c).eq = s.eq := rfl
@[simp] theorem setCnt_skew (s : State) (c : Cnt) : (s.setCnt c).skew = s.skew := rfl
@[simp] theorem setCnt_cap (s : State) (c : Cnt) : (s.setCnt c).cap = s.cap := rfl
@[simp] theorem setCnt_pls (s : State) (c : Cnt) : (s.setCnt c).pls = s.pls := rfl
@[simp] theorem setCnt_mac (s : State) (c : Cnt) : (s.setCnt c).mac = s.mac := rfl
@[simp] theorem setCnt_fwd (s : State) (c : Cnt) : (s.setCnt c).fwd = s.fwd := rfl
@[simp] theorem setCnt_sct (s : State) (c : Cnt) : (s.setCnt c).sct = s.sct := rfl
@[simp] theorem setCnt_latAt (s : State) (c : Cnt) : (s.setCnt c).latAt = s.latAt := rfl
@[simp] theorem setCnt_buf (s : State) (c : Cnt) : (s.setCnt c).buf = s.buf := rfl
@[simp] theorem setCnt_lists (s : State) (c : Cnt) : (s.setCnt c).lists = s.lists := rfl
@[simp] theorem setCnt_credit (s : State) (c : Cnt) : (s.setCnt c).credit = s.credit := rfl
@[simp] theorem setCnt_eng (s : State) (c : Cnt) : (s.setCnt c).eng = s.eng := rfl
@[simp] theorem setCnt_flt (s : State) (c : Cnt) : (s.setCnt c).flt = s.flt := rfl
@[simp] theorem setCnt_evq (s : State) (c : Cnt) : (s.setCnt c).evq = s.evq := rfl
@[simp] theorem setCnt_fltq (s : State) (c : Cnt) : (s.setCnt c).fltq = s.fltq := rfl
@[simp] theorem setCnt_out24 (s : State) (c : Cnt) : (s.setCnt c).out24 = s.out24 := rfl
@[simp] theorem setCnt_out25 (s : State) (c : Cnt) : (s.setCnt c).out25 = s.out25 := rfl
@[simp] theorem setCnt_out26 (s : State) (c : Cnt) : (s.setCnt c).out26 = s.out26 := rfl
@[simp] theorem setCnt_kaq (s : State) (c : Cnt) : (s.setCnt c).kaq = s.kaq := rfl
@[simp] theorem setCnt_egsLast (s : State) (c : Cnt) : (s.setCnt c).egsLast = s.egsLast := rfl
@[simp] theorem setCnt_cph (s : State) (c : Cnt) : (s.setCnt c).cph = s.cph := rfl
@[simp] theorem setCnt_leases (s : State) (c : Cnt) : (s.setCnt c).leases = s.leases := rfl
@[simp] theorem setCnt_pers (s : State) (c : Cnt) : (s.setCnt c).pers = s.pers := rfl
@[simp] theorem setCnt_qlb (s : State) (c : Cnt) : (s.setCnt c).qlb = s.qlb := rfl
@[simp] theorem setCnt_aud (s : State) (c : Cnt) : (s.setCnt c).aud = s.aud := rfl
@[simp] theorem setCnt_can (s : State) (c : Cnt) : (s.setCnt c).can = s.can := rfl
@[simp] theorem setCnt_ser (s : State) (c : Cnt) : (s.setCnt c).ser = s.ser := rfl
@[simp] theorem setCnt_glv (s : State) (c : Cnt) : (s.setCnt c).glv = s.glv := rfl
@[simp] theorem setCnt_wak (s : State) (c : Cnt) : (s.setCnt c).wak = s.wak := rfl
@[simp] theorem setCnt_free (s : State) (c : Cnt) : (s.setCnt c).free = s.free := rfl
@[simp] theorem setCnt_pending (s : State) (c : Cnt) : (s.setCnt c).pending = s.pending := rfl
@[simp] theorem setCnt_cnt (s : State) (c : Cnt) : (s.setCnt c).cnt = c := rfl

@[simp] theorem setRdata_regs (s : State) (e v : Nat) : (s.setRdata e v).regs = s.regs := rfl
@[simp] theorem setRdata_mem (s : State) (e v : Nat) : (s.setRdata e v).mem = s.mem := rfl
@[simp] theorem setRdata_flash (s : State) (e v : Nat) : (s.setRdata e v).flash = s.flash := rfl
@[simp] theorem setRdata_tables (s : State) (e v : Nat) : (s.setRdata e v).tables = s.tables := rfl
@[simp] theorem setRdata_otp (s : State) (e v : Nat) : (s.setRdata e v).otp = s.otp := rfl
@[simp] theorem setRdata_boot (s : State) (e v : Nat) : (s.setRdata e v).boot = s.boot := rfl
@[simp] theorem setRdata_clk (s : State) (e v : Nat) : (s.setRdata e v).clk = s.clk := rfl
@[simp] theorem setRdata_iq (s : State) (e v : Nat) : (s.setRdata e v).iq = s.iq := rfl
@[simp] theorem setRdata_eq (s : State) (e v : Nat) : (s.setRdata e v).eq = s.eq := rfl
@[simp] theorem setRdata_skew (s : State) (e v : Nat) : (s.setRdata e v).skew = s.skew := rfl
@[simp] theorem setRdata_cap (s : State) (e v : Nat) : (s.setRdata e v).cap = s.cap := rfl
@[simp] theorem setRdata_pls (s : State) (e v : Nat) : (s.setRdata e v).pls = s.pls := rfl
@[simp] theorem setRdata_mac (s : State) (e v : Nat) : (s.setRdata e v).mac = s.mac := rfl
@[simp] theorem setRdata_fwd (s : State) (e v : Nat) : (s.setRdata e v).fwd = s.fwd := rfl
@[simp] theorem setRdata_sct (s : State) (e v : Nat) : (s.setRdata e v).sct = s.sct := rfl
@[simp] theorem setRdata_latAt (s : State) (e v : Nat) : (s.setRdata e v).latAt = s.latAt := rfl
@[simp] theorem setRdata_buf (s : State) (e v : Nat) : (s.setRdata e v).buf = s.buf := rfl
@[simp] theorem setRdata_lists (s : State) (e v : Nat) : (s.setRdata e v).lists = s.lists := rfl
@[simp] theorem setRdata_credit (s : State) (e v : Nat) : (s.setRdata e v).credit = s.credit := rfl
@[simp] theorem setRdata_flt (s : State) (e v : Nat) : (s.setRdata e v).flt = s.flt := rfl
@[simp] theorem setRdata_evq (s : State) (e v : Nat) : (s.setRdata e v).evq = s.evq := rfl
@[simp] theorem setRdata_fltq (s : State) (e v : Nat) : (s.setRdata e v).fltq = s.fltq := rfl
@[simp] theorem setRdata_out24 (s : State) (e v : Nat) : (s.setRdata e v).out24 = s.out24 := rfl
@[simp] theorem setRdata_out25 (s : State) (e v : Nat) : (s.setRdata e v).out25 = s.out25 := rfl
@[simp] theorem setRdata_out26 (s : State) (e v : Nat) : (s.setRdata e v).out26 = s.out26 := rfl
@[simp] theorem setRdata_kaq (s : State) (e v : Nat) : (s.setRdata e v).kaq = s.kaq := rfl
@[simp] theorem setRdata_egsLast (s : State) (e v : Nat) : (s.setRdata e v).egsLast = s.egsLast := rfl
@[simp] theorem setRdata_cph (s : State) (e v : Nat) : (s.setRdata e v).cph = s.cph := rfl
@[simp] theorem setRdata_leases (s : State) (e v : Nat) : (s.setRdata e v).leases = s.leases := rfl
@[simp] theorem setRdata_pers (s : State) (e v : Nat) : (s.setRdata e v).pers = s.pers := rfl
@[simp] theorem setRdata_qlb (s : State) (e v : Nat) : (s.setRdata e v).qlb = s.qlb := rfl
@[simp] theorem setRdata_aud (s : State) (e v : Nat) : (s.setRdata e v).aud = s.aud := rfl
@[simp] theorem setRdata_can (s : State) (e v : Nat) : (s.setRdata e v).can = s.can := rfl
@[simp] theorem setRdata_ser (s : State) (e v : Nat) : (s.setRdata e v).ser = s.ser := rfl
@[simp] theorem setRdata_glv (s : State) (e v : Nat) : (s.setRdata e v).glv = s.glv := rfl
@[simp] theorem setRdata_wak (s : State) (e v : Nat) : (s.setRdata e v).wak = s.wak := rfl
@[simp] theorem setRdata_cnt (s : State) (e v : Nat) : (s.setRdata e v).cnt = s.cnt := rfl
@[simp] theorem setRdata_free (s : State) (e v : Nat) : (s.setRdata e v).free = s.free := rfl
@[simp] theorem setRdata_pending (s : State) (e v : Nat) : (s.setRdata e v).pending = s.pending := rfl

end Sys2Proof.Machine
end

