-- ==== Sys2Proof/Laws/Commands.lean ====
section
/-! SUPPORT. What raising an event changes, and what the gates of a command (a live unit, an unlocked register) come to. -/

namespace Sys2Proof.Machine

-- events change their register, the two event queues and nothing else

@[simp] theorem raiseFull_mem (s : State) (i c p k d0 d1 : Nat) (m : Bool) : (s.raiseFull i c p k d0 d1 m).mem = s.mem := by
  unfold State.raiseFull; dsimp only; split <;> rfl
@[simp] theorem raise_mem (s : State) (c p : Nat) : (s.raise c p).mem = s.mem := raiseFull_mem ..
@[simp] theorem raiseAt_mem (s : State) (i c p : Nat) : (s.raiseAt i c p).mem = s.mem := raiseFull_mem ..
@[simp] theorem raiseMust_mem (s : State) (c p k d0 d1 : Nat) : (s.raiseMust c p k d0 d1).mem = s.mem := raiseFull_mem ..
@[simp] theorem raiseOnce_mem (s : State) (c p : Nat) : (s.raiseOnce c p).mem = s.mem := by
  unfold State.raiseOnce; split
  · split
    · rfl
    · exact raise_mem ..
  · exact raise_mem ..
@[simp] theorem raiseFull_flash (s : State) (i c p k d0 d1 : Nat) (m : Bool) : (s.raiseFull i c p k d0 d1 m).flash = s.flash := by
  unfold State.raiseFull; dsimp only; split <;> rfl
@[simp] theorem raise_flash (s : State) (c p : Nat) : (s.raise c p).flash = s.flash := raiseFull_flash ..
@[simp] theorem raiseAt_flash (s : State) (i c p : Nat) : (s.raiseAt i c p).flash = s.flash := raiseFull_flash ..
@[simp] theorem raiseMust_flash (s : State) (c p k d0 d1 : Nat) : (s.raiseMust c p k d0 d1).flash = s.flash := raiseFull_flash ..
@[simp] theorem raiseOnce_flash (s : State) (c p : Nat) : (s.raiseOnce c p).flash = s.flash := by
  unfold State.raiseOnce; split
  · split
    · rfl
    · exact raise_flash ..
  · exact raise_flash ..
@[simp] theorem raiseFull_tables (s : State) (i c p k d0 d1 : Nat) (m : Bool) : (s.raiseFull i c p k d0 d1 m).tables = s.tables := by
  unfold State.raiseFull; dsimp only; split <;> rfl
@[simp] theorem raise_tables (s : State) (c p : Nat) : (s.raise c p).tables = s.tables := raiseFull_tables ..
@[simp] theorem raiseAt_tables (s : State) (i c p : Nat) : (s.raiseAt i c p).tables = s.tables := raiseFull_tables ..
@[simp] theorem raiseMust_tables (s : State) (c p k d0 d1 : Nat) : (s.raiseMust c p k d0 d1).tables = s.tables := raiseFull_tables ..
@[simp] theorem raiseOnce_tables (s : State) (c p : Nat) : (s.raiseOnce c p).tables = s.tables := by
  unfold State.raiseOnce; split
  · split
    · rfl
    · exact raise_tables ..
  · exact raise_tables ..
@[simp] theorem raiseFull_otp (s : State) (i c p k d0 d1 : Nat) (m : Bool) : (s.raiseFull i c p k d0 d1 m).otp = s.otp := by
  unfold State.raiseFull; dsimp only; split <;> rfl
@[simp] theorem raise_otp (s : State) (c p : Nat) : (s.raise c p).otp = s.otp := raiseFull_otp ..
@[simp] theorem raiseAt_otp (s : State) (i c p : Nat) : (s.raiseAt i c p).otp = s.otp := raiseFull_otp ..
@[simp] theorem raiseMust_otp (s : State) (c p k d0 d1 : Nat) : (s.raiseMust c p k d0 d1).otp = s.otp := raiseFull_otp ..
@[simp] theorem raiseOnce_otp (s : State) (c p : Nat) : (s.raiseOnce c p).otp = s.otp := by
  unfold State.raiseOnce; split
  · split
    · rfl
    · exact raise_otp ..
  · exact raise_otp ..
@[simp] theorem raiseFull_boot (s : State) (i c p k d0 d1 : Nat) (m : Bool) : (s.raiseFull i c p k d0 d1 m).boot = s.boot := by
  unfold State.raiseFull; dsimp only; split <;> rfl
@[simp] theorem raise_boot (s : State) (c p : Nat) : (s.raise c p).boot = s.boot := raiseFull_boot ..
@[simp] theorem raiseAt_boot (s : State) (i c p : Nat) : (s.raiseAt i c p).boot = s.boot := raiseFull_boot ..
@[simp] theorem raiseMust_boot (s : State) (c p k d0 d1 : Nat) : (s.raiseMust c p k d0 d1).boot = s.boot := raiseFull_boot ..
@[simp] theorem raiseOnce_boot (s : State) (c p : Nat) : (s.raiseOnce c p).boot = s.boot := by
  unfold State.raiseOnce; split
  · split
    · rfl
    · exact raise_boot ..
  · exact raise_boot ..
@[simp] theorem raiseFull_clk (s : State) (i c p k d0 d1 : Nat) (m : Bool) : (s.raiseFull i c p k d0 d1 m).clk = s.clk := by
  unfold State.raiseFull; dsimp only; split <;> rfl
@[simp] theorem raise_clk (s : State) (c p : Nat) : (s.raise c p).clk = s.clk := raiseFull_clk ..
@[simp] theorem raiseAt_clk (s : State) (i c p : Nat) : (s.raiseAt i c p).clk = s.clk := raiseFull_clk ..
@[simp] theorem raiseMust_clk (s : State) (c p k d0 d1 : Nat) : (s.raiseMust c p k d0 d1).clk = s.clk := raiseFull_clk ..
@[simp] theorem raiseOnce_clk (s : State) (c p : Nat) : (s.raiseOnce c p).clk = s.clk := by
  unfold State.raiseOnce; split
  · split
    · rfl
    · exact raise_clk ..
  · exact raise_clk ..
@[simp] theorem raiseFull_iq (s : State) (i c p k d0 d1 : Nat) (m : Bool) : (s.raiseFull i c p k d0 d1 m).iq = s.iq := by
  unfold State.raiseFull; dsimp only; split <;> rfl
@[simp] theorem raise_iq (s : State) (c p : Nat) : (s.raise c p).iq = s.iq := raiseFull_iq ..
@[simp] theorem raiseAt_iq (s : State) (i c p : Nat) : (s.raiseAt i c p).iq = s.iq := raiseFull_iq ..
@[simp] theorem raiseMust_iq (s : State) (c p k d0 d1 : Nat) : (s.raiseMust c p k d0 d1).iq = s.iq := raiseFull_iq ..
@[simp] theorem raiseOnce_iq (s : State) (c p : Nat) : (s.raiseOnce c p).iq = s.iq := by
  unfold State.raiseOnce; split
  · split
    · rfl
    · exact raise_iq ..
  · exact raise_iq ..
@[simp] theorem raiseFull_eq (s : State) (i c p k d0 d1 : Nat) (m : Bool) : (s.raiseFull i c p k d0 d1 m).eq = s.eq := by
  unfold State.raiseFull; dsimp only; split <;> rfl
@[simp] theorem raise_eq (s : State) (c p : Nat) : (s.raise c p).eq = s.eq := raiseFull_eq ..
@[simp] theorem raiseAt_eq (s : State) (i c p : Nat) : (s.raiseAt i c p).eq = s.eq := raiseFull_eq ..
@[simp] theorem raiseMust_eq (s : State) (c p k d0 d1 : Nat) : (s.raiseMust c p k d0 d1).eq = s.eq := raiseFull_eq ..
@[simp] theorem raiseOnce_eq (s : State) (c p : Nat) : (s.raiseOnce c p).eq = s.eq := by
  unfold State.raiseOnce; split
  · split
    · rfl
    · exact raise_eq ..
  · exact raise_eq ..
@[simp] theorem raiseFull_skew (s : State) (i c p k d0 d1 : Nat) (m : Bool) : (s.raiseFull i c p k d0 d1 m).skew = s.skew := by
  unfold State.raiseFull; dsimp only; split <;> rfl
@[simp] theorem raise_skew (s : State) (c p : Nat) : (s.raise c p).skew = s.skew := raiseFull_skew ..
@[simp] theorem raiseAt_skew (s : State) (i c p : Nat) : (s.raiseAt i c p).skew = s.skew := raiseFull_skew ..
@[simp] theorem raiseMust_skew (s : State) (c p k d0 d1 : Nat) : (s.raiseMust c p k d0 d1).skew = s.skew := raiseFull_skew ..
@[simp] theorem raiseOnce_skew (s : State) (c p : Nat) : (s.raiseOnce c p).skew = s.skew := by
  unfold State.raiseOnce; split
  · split
    · rfl
    · exact raise_skew ..
  · exact raise_skew ..
@[simp] theorem raiseFull_cap (s : State) (i c p k d0 d1 : Nat) (m : Bool) : (s.raiseFull i c p k d0 d1 m).cap = s.cap := by
  unfold State.raiseFull; dsimp only; split <;> rfl
@[simp] theorem raise_cap (s : State) (c p : Nat) : (s.raise c p).cap = s.cap := raiseFull_cap ..
@[simp] theorem raiseAt_cap (s : State) (i c p : Nat) : (s.raiseAt i c p).cap = s.cap := raiseFull_cap ..
@[simp] theorem raiseMust_cap (s : State) (c p k d0 d1 : Nat) : (s.raiseMust c p k d0 d1).cap = s.cap := raiseFull_cap ..
@[simp] theorem raiseOnce_cap (s : State) (c p : Nat) : (s.raiseOnce c p).cap = s.cap := by
  unfold State.raiseOnce; split
  · split
    · rfl
    · exact raise_cap ..
  · exact raise_cap ..
@[simp] theorem raiseFull_pls (s : State) (i c p k d0 d1 : Nat) (m : Bool) : (s.raiseFull i c p k d0 d1 m).pls = s.pls := by
  unfold State.raiseFull; dsimp only; split <;> rfl
@[simp] theorem raise_pls (s : State) (c p : Nat) : (s.raise c p).pls = s.pls := raiseFull_pls ..
@[simp] theorem raiseAt_pls (s : State) (i c p : Nat) : (s.raiseAt i c p).pls = s.pls := raiseFull_pls ..
@[simp] theorem raiseMust_pls (s : State) (c p k d0 d1 : Nat) : (s.raiseMust c p k d0 d1).pls = s.pls := raiseFull_pls ..
@[simp] theorem raiseOnce_pls (s : State) (c p : Nat) : (s.raiseOnce c p).pls = s.pls := by
  unfold State.raiseOnce; split
  · split
    · rfl
    · exact raise_pls ..
  · exact raise_pls ..
@[simp] theorem raiseFull_mac (s : State) (i c p k d0 d1 : Nat) (m : Bool) : (s.raiseFull i c p k d0 d1 m).mac = s.mac := by
  unfold State.raiseFull; dsimp only; split <;> rfl
@[simp] theorem raise_mac (s : State) (c p : Nat) : (s.raise c p).mac = s.mac := raiseFull_mac ..
@[simp] theorem raiseAt_mac (s : State) (i c p : Nat) : (s.raiseAt i c p).mac = s.mac := raiseFull_mac ..
@[simp] theorem raiseMust_mac (s : State) (c p k d0 d1 : Nat) : (s.raiseMust c p k d0 d1).mac = s.mac := raiseFull_mac ..
@[simp] theorem raiseOnce_mac (s : State) (c p : Nat) : (s.raiseOnce c p).mac = s.mac := by
  unfold State.raiseOnce; split
  · split
    · rfl
    · exact raise_mac ..
  · exact raise_mac ..
@[simp] theorem raiseFull_fwd (s : State) (i c p k d0 d1 : Nat) (m : Bool) : (s.raiseFull i c p k d0 d1 m).fwd = s.fwd := by
  unfold State.raiseFull; dsimp only; split <;> rfl
@[simp] theorem raise_fwd (s : State) (c p : Nat) : (s.raise c p).fwd = s.fwd := raiseFull_fwd ..
@[simp] theorem raiseAt_fwd (s : State) (i c p : Nat) : (s.raiseAt i c p).fwd = s.fwd := raiseFull_fwd ..
@[simp] theorem raiseMust_fwd (s : State) (c p k d0 d1 : Nat) : (s.raiseMust c p k d0 d1).fwd = s.fwd := raiseFull_fwd ..
@[simp] theorem raiseOnce_fwd (s : State) (c p : Nat) : (s.raiseOnce c p).fwd = s.fwd := by
  unfold State.raiseOnce; split
  · split
    · rfl
    · exact raise_fwd ..
  · exact raise_fwd ..
@[simp] theorem raiseFull_sct (s : State) (i c p k d0 d1 : Nat) (m : Bool) : (s.raiseFull i c p k d0 d1 m).sct = s.sct := by
  unfold State.raiseFull; dsimp only; split <;> rfl
@[simp] theorem raise_sct (s : State) (c p : Nat) : (s.raise c p).sct = s.sct := raiseFull_sct ..
@[simp] theorem raiseAt_sct (s : State) (i c p : Nat) : (s.raiseAt i c p).sct = s.sct := raiseFull_sct ..
@[simp] theorem raiseMust_sct (s : State) (c p k d0 d1 : Nat) : (s.raiseMust c p k d0 d1).sct = s.sct := raiseFull_sct ..
@[simp] theorem raiseOnce_sct (s : State) (c p : Nat) : (s.raiseOnce c p).sct = s.sct := by
  unfold State.raiseOnce; split
  · split
    · rfl
    · exact raise_sct ..
  · exact raise_sct ..
@[simp] theorem raiseFull_latAt (s : State) (i c p k d0 d1 : Nat) (m : Bool) : (s.raiseFull i c p k d0 d1 m).latAt = s.latAt := by
  unfold State.raiseFull; dsimp only; split <;> rfl
@[simp] theorem raise_latAt (s : State) (c p : Nat) : (s.raise c p).latAt = s.latAt := raiseFull_latAt ..
@[simp] theorem raiseAt_latAt (s : State) (i c p : Nat) : (s.raiseAt i c p).latAt = s.latAt := raiseFull_latAt ..
@[simp] theorem raiseMust_latAt (s : State) (c p k d0 d1 : Nat) : (s.raiseMust c p k d0 d1).latAt = s.latAt := raiseFull_latAt ..
@[simp] theorem raiseOnce_latAt (s : State) (c p : Nat) : (s.raiseOnce c p).latAt = s.latAt := by
  unfold State.raiseOnce; split
  · split
    · rfl
    · exact raise_latAt ..
  · exact raise_latAt ..
@[simp] theorem raiseFull_buf (s : State) (i c p k d0 d1 : Nat) (m : Bool) : (s.raiseFull i c p k d0 d1 m).buf = s.buf := by
  unfold State.raiseFull; dsimp only; split <;> rfl
@[simp] theorem raise_buf (s : State) (c p : Nat) : (s.raise c p).buf = s.buf := raiseFull_buf ..
@[simp] theorem raiseAt_buf (s : State) (i c p : Nat) : (s.raiseAt i c p).buf = s.buf := raiseFull_buf ..
@[simp] theorem raiseMust_buf (s : State) (c p k d0 d1 : Nat) : (s.raiseMust c p k d0 d1).buf = s.buf := raiseFull_buf ..
@[simp] theorem raiseOnce_buf (s : State) (c p : Nat) : (s.raiseOnce c p).buf = s.buf := by
  unfold State.raiseOnce; split
  · split
    · rfl
    · exact raise_buf ..
  · exact raise_buf ..
@[simp] theorem raiseFull_lists (s : State) (i c p k d0 d1 : Nat) (m : Bool) : (s.raiseFull i c p k d0 d1 m).lists = s.lists := by
  unfold State.raiseFull; dsimp only; split <;> rfl
@[simp] theorem raise_lists (s : State) (c p : Nat) : (s.raise c p).lists = s.lists := raiseFull_lists ..
@[simp] theorem raiseAt_lists (s : State) (i c p : Nat) : (s.raiseAt i c p).lists = s.lists := raiseFull_lists ..
@[simp] theorem raiseMust_lists (s : State) (c p k d0 d1 : Nat) : (s.raiseMust c p k d0 d1).lists = s.lists := raiseFull_lists ..
@[simp] theorem raiseOnce_lists (s : State) (c p : Nat) : (s.raiseOnce c p).lists = s.lists := by
  unfold State.raiseOnce; split
  · split
    · rfl
    · exact raise_lists ..
  · exact raise_lists ..
@[simp] theorem raiseFull_credit (s : State) (i c p k d0 d1 : Nat) (m : Bool) : (s.raiseFull i c p k d0 d1 m).credit = s.credit := by
  unfold State.raiseFull; dsimp only; split <;> rfl
@[simp] theorem raise_credit (s : State) (c p : Nat) : (s.raise c p).credit = s.credit := raiseFull_credit ..
@[simp] theorem raiseAt_credit (s : State) (i c p : Nat) : (s.raiseAt i c p).credit = s.credit := raiseFull_credit ..
@[simp] theorem raiseMust_credit (s : State) (c p k d0 d1 : Nat) : (s.raiseMust c p k d0 d1).credit = s.credit := raiseFull_credit ..
@[simp] theorem raiseOnce_credit (s : State) (c p : Nat) : (s.raiseOnce c p).credit = s.credit := by
  unfold State.raiseOnce; split
  · split
    · rfl
    · exact raise_credit ..
  · exact raise_credit ..
@[simp] theorem raiseFull_eng (s : State) (i c p k d0 d1 : Nat) (m : Bool) : (s.raiseFull i c p k d0 d1 m).eng = s.eng := by
  unfold State.raiseFull; dsimp only; split <;> rfl
@[simp] theorem raise_eng (s : State) (c p : Nat) : (s.raise c p).eng = s.eng := raiseFull_eng ..
@[simp] theorem raiseAt_eng (s : State) (i c p : Nat) : (s.raiseAt i c p).eng = s.eng := raiseFull_eng ..
@[simp] theorem raiseMust_eng (s : State) (c p k d0 d1 : Nat) : (s.raiseMust c p k d0 d1).eng = s.eng := raiseFull_eng ..
@[simp] theorem raiseOnce_eng (s : State) (c p : Nat) : (s.raiseOnce c p).eng = s.eng := by
  unfold State.raiseOnce; split
  · split
    · rfl
    · exact raise_eng ..
  · exact raise_eng ..
@[simp] theorem raiseFull_flt (s : State) (i c p k d0 d1 : Nat) (m : Bool) : (s.raiseFull i c p k d0 d1 m).flt = s.flt := by
  unfold State.raiseFull; dsimp only; split <;> rfl
@[simp] theorem raise_flt (s : State) (c p : Nat) : (s.raise c p).flt = s.flt := raiseFull_flt ..
@[simp] theorem raiseAt_flt (s : State) (i c p : Nat) : (s.raiseAt i c p).flt = s.flt := raiseFull_flt ..
@[simp] theorem raiseMust_flt (s : State) (c p k d0 d1 : Nat) : (s.raiseMust c p k d0 d1).flt = s.flt := raiseFull_flt ..
@[simp] theorem raiseOnce_flt (s : State) (c p : Nat) : (s.raiseOnce c p).flt = s.flt := by
  unfold State.raiseOnce; split
  · split
    · rfl
    · exact raise_flt ..
  · exact raise_flt ..
@[simp] theorem raiseFull_out24 (s : State) (i c p k d0 d1 : Nat) (m : Bool) : (s.raiseFull i c p k d0 d1 m).out24 = s.out24 := by
  unfold State.raiseFull; dsimp only; split <;> rfl
@[simp] theorem raise_out24 (s : State) (c p : Nat) : (s.raise c p).out24 = s.out24 := raiseFull_out24 ..
@[simp] theorem raiseAt_out24 (s : State) (i c p : Nat) : (s.raiseAt i c p).out24 = s.out24 := raiseFull_out24 ..
@[simp] theorem raiseMust_out24 (s : State) (c p k d0 d1 : Nat) : (s.raiseMust c p k d0 d1).out24 = s.out24 := raiseFull_out24 ..
@[simp] theorem raiseOnce_out24 (s : State) (c p : Nat) : (s.raiseOnce c p).out24 = s.out24 := by
  unfold State.raiseOnce; split
  · split
    · rfl
    · exact raise_out24 ..
  · exact raise_out24 ..
@[simp] theorem raiseFull_out25 (s : State) (i c p k d0 d1 : Nat) (m : Bool) : (s.raiseFull i c p k d0 d1 m).out25 = s.out25 := by
  unfold State.raiseFull; dsimp only; split <;> rfl
@[simp] theorem raise_out25 (s : State) (c p : Nat) : (s.raise c p).out25 = s.out25 := raiseFull_out25 ..
@[simp] theorem raiseAt_out25 (s : State) (i c p : Nat) : (s.raiseAt i c p).out25 = s.out25 := raiseFull_out25 ..
@[simp] theorem raiseMust_out25 (s : State) (c p k d0 d1 : Nat) : (s.raiseMust c p k d0 d1).out25 = s.out25 := raiseFull_out25 ..
@[simp] theorem raiseOnce_out25 (s : State) (c p : Nat) : (s.raiseOnce c p).out25 = s.out25 := by
  unfold State.raiseOnce; split
  · split
    · rfl
    · exact raise_out25 ..
  · exact raise_out25 ..
@[simp] theorem raiseFull_out26 (s : State) (i c p k d0 d1 : Nat) (m : Bool) : (s.raiseFull i c p k d0 d1 m).out26 = s.out26 := by
  unfold State.raiseFull; dsimp only; split <;> rfl
@[simp] theorem raise_out26 (s : State) (c p : Nat) : (s.raise c p).out26 = s.out26 := raiseFull_out26 ..
@[simp] theorem raiseAt_out26 (s : State) (i c p : Nat) : (s.raiseAt i c p).out26 = s.out26 := raiseFull_out26 ..
@[simp] theorem raiseMust_out26 (s : State) (c p k d0 d1 : Nat) : (s.raiseMust c p k d0 d1).out26 = s.out26 := raiseFull_out26 ..
@[simp] theorem raiseOnce_out26 (s : State) (c p : Nat) : (s.raiseOnce c p).out26 = s.out26 := by
  unfold State.raiseOnce; split
  · split
    · rfl
    · exact raise_out26 ..
  · exact raise_out26 ..
@[simp] theorem raiseFull_kaq (s : State) (i c p k d0 d1 : Nat) (m : Bool) : (s.raiseFull i c p k d0 d1 m).kaq = s.kaq := by
  unfold State.raiseFull; dsimp only; split <;> rfl
@[simp] theorem raise_kaq (s : State) (c p : Nat) : (s.raise c p).kaq = s.kaq := raiseFull_kaq ..
@[simp] theorem raiseAt_kaq (s : State) (i c p : Nat) : (s.raiseAt i c p).kaq = s.kaq := raiseFull_kaq ..
@[simp] theorem raiseMust_kaq (s : State) (c p k d0 d1 : Nat) : (s.raiseMust c p k d0 d1).kaq = s.kaq := raiseFull_kaq ..
@[simp] theorem raiseOnce_kaq (s : State) (c p : Nat) : (s.raiseOnce c p).kaq = s.kaq := by
  unfold State.raiseOnce; split
  · split
    · rfl
    · exact raise_kaq ..
  · exact raise_kaq ..
@[simp] theorem raiseFull_egsLast (s : State) (i c p k d0 d1 : Nat) (m : Bool) : (s.raiseFull i c p k d0 d1 m).egsLast = s.egsLast := by
  unfold State.raiseFull; dsimp only; split <;> rfl
@[simp] theorem raise_egsLast (s : State) (c p : Nat) : (s.raise c p).egsLast = s.egsLast := raiseFull_egsLast ..
@[simp] theorem raiseAt_egsLast (s : State) (i c p : Nat) : (s.raiseAt i c p).egsLast = s.egsLast := raiseFull_egsLast ..
@[simp] theorem raiseMust_egsLast (s : State) (c p k d0 d1 : Nat) : (s.raiseMust c p k d0 d1).egsLast = s.egsLast := raiseFull_egsLast ..
@[simp] theorem raiseOnce_egsLast (s : State) (c p : Nat) : (s.raiseOnce c p).egsLast = s.egsLast := by
  unfold State.raiseOnce; split
  · split
    · rfl
    · exact raise_egsLast ..
  · exact raise_egsLast ..
@[simp] theorem raiseFull_cph (s : State) (i c p k d0 d1 : Nat) (m : Bool) : (s.raiseFull i c p k d0 d1 m).cph = s.cph := by
  unfold State.raiseFull; dsimp only; split <;> rfl
@[simp] theorem raise_cph (s : State) (c p : Nat) : (s.raise c p).cph = s.cph := raiseFull_cph ..
@[simp] theorem raiseAt_cph (s : State) (i c p : Nat) : (s.raiseAt i c p).cph = s.cph := raiseFull_cph ..
@[simp] theorem raiseMust_cph (s : State) (c p k d0 d1 : Nat) : (s.raiseMust c p k d0 d1).cph = s.cph := raiseFull_cph ..
@[simp] theorem raiseOnce_cph (s : State) (c p : Nat) : (s.raiseOnce c p).cph = s.cph := by
  unfold State.raiseOnce; split
  · split
    · rfl
    · exact raise_cph ..
  · exact raise_cph ..
@[simp] theorem raiseFull_leases (s : State) (i c p k d0 d1 : Nat) (m : Bool) : (s.raiseFull i c p k d0 d1 m).leases = s.leases := by
  unfold State.raiseFull; dsimp only; split <;> rfl
@[simp] theorem raise_leases (s : State) (c p : Nat) : (s.raise c p).leases = s.leases := raiseFull_leases ..
@[simp] theorem raiseAt_leases (s : State) (i c p : Nat) : (s.raiseAt i c p).leases = s.leases := raiseFull_leases ..
@[simp] theorem raiseMust_leases (s : State) (c p k d0 d1 : Nat) : (s.raiseMust c p k d0 d1).leases = s.leases := raiseFull_leases ..
@[simp] theorem raiseOnce_leases (s : State) (c p : Nat) : (s.raiseOnce c p).leases = s.leases := by
  unfold State.raiseOnce; split
  · split
    · rfl
    · exact raise_leases ..
  · exact raise_leases ..
@[simp] theorem raiseFull_pers (s : State) (i c p k d0 d1 : Nat) (m : Bool) : (s.raiseFull i c p k d0 d1 m).pers = s.pers := by
  unfold State.raiseFull; dsimp only; split <;> rfl
@[simp] theorem raise_pers (s : State) (c p : Nat) : (s.raise c p).pers = s.pers := raiseFull_pers ..
@[simp] theorem raiseAt_pers (s : State) (i c p : Nat) : (s.raiseAt i c p).pers = s.pers := raiseFull_pers ..
@[simp] theorem raiseMust_pers (s : State) (c p k d0 d1 : Nat) : (s.raiseMust c p k d0 d1).pers = s.pers := raiseFull_pers ..
@[simp] theorem raiseOnce_pers (s : State) (c p : Nat) : (s.raiseOnce c p).pers = s.pers := by
  unfold State.raiseOnce; split
  · split
    · rfl
    · exact raise_pers ..
  · exact raise_pers ..
@[simp] theorem raiseFull_qlb (s : State) (i c p k d0 d1 : Nat) (m : Bool) : (s.raiseFull i c p k d0 d1 m).qlb = s.qlb := by
  unfold State.raiseFull; dsimp only; split <;> rfl
@[simp] theorem raise_qlb (s : State) (c p : Nat) : (s.raise c p).qlb = s.qlb := raiseFull_qlb ..
@[simp] theorem raiseAt_qlb (s : State) (i c p : Nat) : (s.raiseAt i c p).qlb = s.qlb := raiseFull_qlb ..
@[simp] theorem raiseMust_qlb (s : State) (c p k d0 d1 : Nat) : (s.raiseMust c p k d0 d1).qlb = s.qlb := raiseFull_qlb ..
@[simp] theorem raiseOnce_qlb (s : State) (c p : Nat) : (s.raiseOnce c p).qlb = s.qlb := by
  unfold State.raiseOnce; split
  · split
    · rfl
    · exact raise_qlb ..
  · exact raise_qlb ..
@[simp] theorem raiseFull_aud (s : State) (i c p k d0 d1 : Nat) (m : Bool) : (s.raiseFull i c p k d0 d1 m).aud = s.aud := by
  unfold State.raiseFull; dsimp only; split <;> rfl
@[simp] theorem raise_aud (s : State) (c p : Nat) : (s.raise c p).aud = s.aud := raiseFull_aud ..
@[simp] theorem raiseAt_aud (s : State) (i c p : Nat) : (s.raiseAt i c p).aud = s.aud := raiseFull_aud ..
@[simp] theorem raiseMust_aud (s : State) (c p k d0 d1 : Nat) : (s.raiseMust c p k d0 d1).aud = s.aud := raiseFull_aud ..
@[simp] theorem raiseOnce_aud (s : State) (c p : Nat) : (s.raiseOnce c p).aud = s.aud := by
  unfold State.raiseOnce; split
  · split
    · rfl
    · exact raise_aud ..
  · exact raise_aud ..
@[simp] theorem raiseFull_can (s : State) (i c p k d0 d1 : Nat) (m : Bool) : (s.raiseFull i c p k d0 d1 m).can = s.can := by
  unfold State.raiseFull; dsimp only; split <;> rfl
@[simp] theorem raise_can (s : State) (c p : Nat) : (s.raise c p).can = s.can := raiseFull_can ..
@[simp] theorem raiseAt_can (s : State) (i c p : Nat) : (s.raiseAt i c p).can = s.can := raiseFull_can ..
@[simp] theorem raiseMust_can (s : State) (c p k d0 d1 : Nat) : (s.raiseMust c p k d0 d1).can = s.can := raiseFull_can ..
@[simp] theorem raiseOnce_can (s : State) (c p : Nat) : (s.raiseOnce c p).can = s.can := by
  unfold State.raiseOnce; split
  · split
    · rfl
    · exact raise_can ..
  · exact raise_can ..
@[simp] theorem raiseFull_ser (s : State) (i c p k d0 d1 : Nat) (m : Bool) : (s.raiseFull i c p k d0 d1 m).ser = s.ser := by
  unfold State.raiseFull; dsimp only; split <;> rfl
@[simp] theorem raise_ser (s : State) (c p : Nat) : (s.raise c p).ser = s.ser := raiseFull_ser ..
@[simp] theorem raiseAt_ser (s : State) (i c p : Nat) : (s.raiseAt i c p).ser = s.ser := raiseFull_ser ..
@[simp] theorem raiseMust_ser (s : State) (c p k d0 d1 : Nat) : (s.raiseMust c p k d0 d1).ser = s.ser := raiseFull_ser ..
@[simp] theorem raiseOnce_ser (s : State) (c p : Nat) : (s.raiseOnce c p).ser = s.ser := by
  unfold State.raiseOnce; split
  · split
    · rfl
    · exact raise_ser ..
  · exact raise_ser ..
@[simp] theorem raiseFull_glv (s : State) (i c p k d0 d1 : Nat) (m : Bool) : (s.raiseFull i c p k d0 d1 m).glv = s.glv := by
  unfold State.raiseFull; dsimp only; split <;> rfl
@[simp] theorem raise_glv (s : State) (c p : Nat) : (s.raise c p).glv = s.glv := raiseFull_glv ..
@[simp] theorem raiseAt_glv (s : State) (i c p : Nat) : (s.raiseAt i c p).glv = s.glv := raiseFull_glv ..
@[simp] theorem raiseMust_glv (s : State) (c p k d0 d1 : Nat) : (s.raiseMust c p k d0 d1).glv = s.glv := raiseFull_glv ..
@[simp] theorem raiseOnce_glv (s : State) (c p : Nat) : (s.raiseOnce c p).glv = s.glv := by
  unfold State.raiseOnce; split
  · split
    · rfl
    · exact raise_glv ..
  · exact raise_glv ..
@[simp] theorem raiseFull_wak (s : State) (i c p k d0 d1 : Nat) (m : Bool) : (s.raiseFull i c p k d0 d1 m).wak = s.wak := by
  unfold State.raiseFull; dsimp only; split <;> rfl
@[simp] theorem raise_wak (s : State) (c p : Nat) : (s.raise c p).wak = s.wak := raiseFull_wak ..
@[simp] theorem raiseAt_wak (s : State) (i c p : Nat) : (s.raiseAt i c p).wak = s.wak := raiseFull_wak ..
@[simp] theorem raiseMust_wak (s : State) (c p k d0 d1 : Nat) : (s.raiseMust c p k d0 d1).wak = s.wak := raiseFull_wak ..
@[simp] theorem raiseOnce_wak (s : State) (c p : Nat) : (s.raiseOnce c p).wak = s.wak := by
  unfold State.raiseOnce; split
  · split
    · rfl
    · exact raise_wak ..
  · exact raise_wak ..
@[simp] theorem raiseFull_cnt (s : State) (i c p k d0 d1 : Nat) (m : Bool) : (s.raiseFull i c p k d0 d1 m).cnt = s.cnt := by
  unfold State.raiseFull; dsimp only; split <;> rfl
@[simp] theorem raise_cnt (s : State) (c p : Nat) : (s.raise c p).cnt = s.cnt := raiseFull_cnt ..
@[simp] theorem raiseAt_cnt (s : State) (i c p : Nat) : (s.raiseAt i c p).cnt = s.cnt := raiseFull_cnt ..
@[simp] theorem raiseMust_cnt (s : State) (c p k d0 d1 : Nat) : (s.raiseMust c p k d0 d1).cnt = s.cnt := raiseFull_cnt ..
@[simp] theorem raiseOnce_cnt (s : State) (c p : Nat) : (s.raiseOnce c p).cnt = s.cnt := by
  unfold State.raiseOnce; split
  · split
    · rfl
    · exact raise_cnt ..
  · exact raise_cnt ..
@[simp] theorem raiseFull_free (s : State) (i c p k d0 d1 : Nat) (m : Bool) : (s.raiseFull i c p k d0 d1 m).free = s.free := by
  unfold State.raiseFull; dsimp only; split <;> rfl
@[simp] theorem raise_free (s : State) (c p : Nat) : (s.raise c p).free = s.free := raiseFull_free ..
@[simp] theorem raiseAt_free (s : State) (i c p : Nat) : (s.raiseAt i c p).free = s.free := raiseFull_free ..
@[simp] theorem raiseMust_free (s : State) (c p k d0 d1 : Nat) : (s.raiseMust c p k d0 d1).free = s.free := raiseFull_free ..
@[simp] theorem raiseOnce_free (s : State) (c p : Nat) : (s.raiseOnce c p).free = s.free := by
  unfold State.raiseOnce; split
  · split
    · rfl
    · exact raise_free ..
  · exact raise_free ..
@[simp] theorem raiseFull_pending (s : State) (i c p k d0 d1 : Nat) (m : Bool) : (s.raiseFull i c p k d0 d1 m).pending = s.pending := by
  unfold State.raiseFull; dsimp only; split <;> rfl
@[simp] theorem raise_pending (s : State) (c p : Nat) : (s.raise c p).pending = s.pending := raiseFull_pending ..
@[simp] theorem raiseAt_pending (s : State) (i c p : Nat) : (s.raiseAt i c p).pending = s.pending := raiseFull_pending ..
@[simp] theorem raiseMust_pending (s : State) (c p k d0 d1 : Nat) : (s.raiseMust c p k d0 d1).pending = s.pending := raiseFull_pending ..
@[simp] theorem raiseOnce_pending (s : State) (c p : Nat) : (s.raiseOnce c p).pending = s.pending := by
  unfold State.raiseOnce; split
  · split
    · rfl
    · exact raise_pending ..
  · exact raise_pending ..

/-- A register that is not the event's keeps its value. -/
theorem regN_raiseFull_ne (s : State) (i c p k d0 d1 : Nat) (m : Bool) {a : Nat} (h : ∀ f, evBit c i = some f → a ≠ f.addr) :
    (s.raiseFull i c p k d0 d1 m).regN a = s.regN a := by
  unfold State.raiseFull
  dsimp only
  split
  · rename_i f hf
    exact regN_wr_ne s f (h f hf) 1
  · rfl

theorem rd_raise_ne (s : State) (c p : Nat) {f : Fld} (h : ∀ g, evBit c p = some g → f.addr ≠ g.addr) : (s.raise c p).rd f = s.rd f := by
  unfold State.rd State.raise
  rw [regN_raiseFull_ne s p c p 0 0 0 false h]

/-- An event goes to the router and to FLT. -/
theorem raise_evq (s : State) (c p : Nat) : (s.raise c p).evq = s.evq ++ [s.event c p 0 0 0 false] := by
  unfold State.raise State.raiseFull; dsimp only; split <;> rfl

theorem raise_fltq (s : State) (c p : Nat) : (s.raise c p).fltq = s.fltq ++ [s.event c p 0 0 0 false] := by
  unfold State.raise State.raiseFull; dsimp only; split <;> rfl

-- the gates of commands

theorem finish_eq (s : State) : finish s = .next (settle s) := rfl

theorem live_of_alive {s : State} (h : s.alive = true) (f : State → State) : s.live f = f s := by simp [State.live, h]

theorem live_of_not_alive {s : State} (h : s.alive = false) (f : State → State) : s.live f = s := by simp [State.live, h]

theorem unsilent_of_not_silent {s : State} (h : s.flt.silent = false) (f : State → State) : s.unsilent f = f s := by simp [State.unsilent, h]

theorem unsilent_of_silent {s : State} (h : s.flt.silent = true) (f : State → State) : s.unsilent f = s := by simp [State.unsilent, h]

theorem guarded_of_unlocked {s : State} {a : Nat} (h : s.scrubLocked a = false) (e : Nat) (f : State → State) :
    s.guarded e a f = f s := by
  simp [State.guarded, h]

theorem guardedAny_of_unlocked {s : State} {a : Nat} (h : s.scrubLocked a = false) (f : State → State) : s.guardedAny a f = f s := by
  simp [State.guardedAny, h]

theorem regLive_of_writable {s : State} {a : Nat} (h : s.writable a) (f : State → State) : s.regLive a f = f s := by
  simp [State.regLive, h.1, guardedAny_of_unlocked h.2]

/-- A write to a locked register is denied to one of the engines that run (02, R64). -/
theorem regLive_of_locked {s : State} {a : Nat} (hr : s.firmwareRuns = true) (h : s.scrubLocked a = true) (f : State → State) :
    s.regLive a f = s.drawFree.2.scrubDenied (nth 0 s.runningEngines (s.drawFree.1 % s.runningEngines.length)) a := by
  simp [State.regLive, State.guardedAny, hr, h]

theorem regLive_of_not_runs {s : State} {a : Nat} (h : s.firmwareRuns = false) (f : State → State) : s.regLive a f = s := by
  simp [State.regLive, h]

theorem regEng_of_acts {s : State} {e a : Nat} (h : s.engineActs e = true) (hl : s.scrubLocked a = false) (f : State → State) :
    s.regEng e a f = f s := by simp [State.regEng, h, guarded_of_unlocked hl]

theorem regEng_of_locked {s : State} {e a : Nat} (h : s.engineActs e = true) (hl : s.scrubLocked a = true) (f : State → State) :
    s.regEng e a f = s.scrubDenied e a := by simp [State.regEng, State.guarded, h, hl]

theorem regEng_of_idle {s : State} {e a : Nat} (h : s.engineActs e = false) (f : State → State) : s.regEng e a f = s := by
  simp [State.regEng, h]

/-- Firmware runs only in a unit that is alive. -/
theorem alive_of_firmwareRuns {s : State} (h : s.firmwareRuns = true) : s.alive = true := by
  simp only [State.firmwareRuns, State.released, State.alive, Bool.and_eq_true, decide_eq_true_eq] at h ⊢
  exact ⟨h.1.1, by omega⟩

/-- An engine that acts runs in a unit that is alive. -/
theorem alive_of_engineActs {s : State} {e : Nat} (h : s.engineActs e = true) : s.alive = true := by
  simp only [State.engineActs, State.released, State.alive, Bool.and_eq_true, decide_eq_true_eq] at h ⊢
  exact ⟨h.1.1.1, by omega⟩

/-- Firmware runs where an engine acts. -/
theorem firmwareRuns_of_engineActs {s : State} {e : Nat} (he : e < 8) (h : s.engineActs e = true) : s.firmwareRuns = true := by
  simp only [State.engineActs, Bool.and_eq_true] at h
  have hm : e ∈ s.runningEngines := by
    simp only [State.runningEngines, List.mem_filter, List.mem_range]
    exact ⟨he, h.1.2⟩
  have hn : s.runningEngines ≠ [] := List.ne_nil_of_mem hm
  simp [State.firmwareRuns, h.1.1, hn]

/-- A unit past step 12 is alive. -/
theorem alive_of_forwarding {s : State} (h : s.forwarding = true) : s.alive = true := by
  simp only [State.forwarding, State.alive, Bool.and_eq_true, decide_eq_true_eq] at h ⊢
  exact ⟨h.1, by omega⟩

end Sys2Proof.Machine
end

