-- ==== Sys2Proof/WellFormed.lean ====
section
/-! DEFINITION. What a well-formed command is: the ranges that the spec gives what comes with it. -/

namespace Sys2Proof

/-- An access size in bytes. -/
def sizeOk (n : Nat) : Bool := n == 1 || n == 2 || n == 4

/-- A command whose data lie in the ranges that the spec gives them. -/
def Instr.wf : Instr → Bool
  | .linkUp _ speed _ => decide (speed ≤ 5)
  | .bridgeRead _ size _ => sizeOk size.toNat
  | .bridgeWrite _ size _ _ => sizeOk size.toNat
  | .partnerWindowLoad _ addr size => sizeOk size.toNat && decide (addr.toNat / 2 ^ 30 = 1)
  | .partnerWindowStore _ addr _ size => sizeOk size.toNat && decide (addr.toNat / 2 ^ 30 = 1)
  | .flashWindowRead _ _ size => sizeOk size.toNat
  | _ => true

end Sys2Proof
end

