-- ==== Sys2Proof/Tests/Slice0.lean ====
section
/-! SUPPORT. The model's own tests: ill-formed commands that the check refuses, values that the spec's examples and the standards
give, and for each statement with hypotheses a state that meets them. -/

namespace Sys2Proof.Tests

open Sys2Proof Sys2Proof.Machine

set_option maxRecDepth 100000

set_option Elab.async false

-- states that the tests start from

/-- A running unit past bring-up step 12: its clocks run, every engine runs, no wake is to be judged. -/
def upState : State :=
  ({ State.reset with
      boot := { boot0 with step := 12 }, clk := { clk0 with on := true, nextK := 5 },
      wak := { wak0 with judged := true } }).setRegN R.ENG_RUN 0xFF

/-- A running unit with a maintenance key in slot 9 and a window opened by a CHALLENGE for it. -/
def maintState : State :=
  { upState with
    cph := { upState.cph with keys := sput key0 9 ⟨true, 128, List.replicate 16 0, 1⟩ [] },
    eng := { upState.eng with challenged := true, winEnd := sput 0 9 1024 [] } }

/-- A request with a valid CMAC for slot 9. -/
def maintReq (cmd : Nat) (args : List Byte) (counter : BitVec 64) : MaintReq :=
  { inPort := 1, src := 2, router := 3, vid := 5, version := 1, slot := 9, counter := counter, reqStatus := 0, reserved := 0,
    args := args, tag := cmacBytes (List.replicate 16 0) (maintHead 0x20 1 9 cmd counter.toNat 0 0 args) }

/-- A request with a valid CMAC is accepted where the key, the runtime and the window allow it. -/
theorem maintReq_accepted (s : State) (cmd : Nat) (args : List Byte) (counter : BitVec 64) (hr : s.runtimeActs = true)
    (hk : s.keyFor 9 7 = true) (hb : (s.key 9).bytes = List.replicate 16 0)
    (hc : (s.job 0).counterFits (maintReq cmd args counter) = true) : s.accepts (maintReq cmd args counter) cmd := by
  refine ⟨hr, rfl, ?_, hc⟩
  have h9 : (maintReq cmd args counter).slot.toNat = 9 := rfl
  have ht : (maintReq cmd args counter).tag = cmacBytes (s.key 9).bytes (maintHead 0x20 (maintReq cmd args counter).version.toNat 9
      cmd (maintReq cmd args counter).counter.toNat (maintReq cmd args counter).reqStatus.toNat
      (maintReq cmd args counter).reserved.toNat (maintReq cmd args counter).args) := by
    rw [hb]; rfl
  unfold State.maintVerify
  rw [h9, if_neg (by simp [hk]), if_pos ht]

/-- A running unit whose P1 is enabled with its link up and a calibration under way. -/
def linkState : State :=
  (((upState.wr (F.MAC_CTRL_ENABLE 1) 1).wr (F.MAC_STATUS_SPEED_ACT 1) 5).setLink 1 true).modPort 1 (fun m => { m with calWait := true })

/-- A running unit with a 128-bit key of every MODE in slot 5, whose ring `e` runs over two descriptors at the end of the SRAM:
OP `op` on slot 5 with no data, its result at the start of the SRAM. -/
def ringState (e op : Nat) : State :=
  let s := { upState with cph := { upState.cph with keys := sput key0 5 ⟨true, 0x7F, List.replicate 16 0, 1⟩ [] } }
  let s := (((s.wr (F.CPH_RING_CTRL_EN e) 1).wr (F.CPH_RING_SIZE_SIZE e) 2).wr (F.CPH_RING_PUT_PUT e) 1).setRegN (R.CPH_RING_BASE e) 0x101FFF80
  (((s.storeWord 0x101FFF80 (op + 5 * 256 + 6 * 65536)).storeWord 0x101FFF90 0x10000000).storeWord 0x101FFF94 0x10000000).storeWord 0x101FFF98 0x10000000

/-- Engine 7 with a transmit descriptor at the end of the SRAM: `len` octets at `data`. -/
def txState (len data : Nat) : State :=
  let s := ((upState.wr (F.ENG_TXR_SIZE_SIZE 7) 2).wr (F.ENG_TXR_PUT_PUT 7) 1).setRegN (R.ENG_TXR_BASE 7) 0x101FFF80
  (s.storeWord 0x101FFF80 data).storeWord 0x101FFF84 len

/-- A unit in bring-up at a step whose slot 0 holds the least image: VINTAGE 6, one empty register-write section, the signature
(z, z) for its digest z under the key R - G, where R is a point with first coordinate z; the fused hash is that of the key. -/
def imageState (step : Nat) : State :=
  let z := beBytes 32 0xBE3482A96FF96DAC7CA0FFBC65D41E8FC561EF0C4C6C66BAFE502E2E650C633C
  let head := beBytes 4 0x4C51494D ++ beBytes 2 1 ++ beBytes 2 6 ++ z.take 8 ++ beBytes 4 48 ++ beBytes 2 1 ++ zeros 10 ++ [1] ++ zeros 15
  let key := beBytes 32 0xF3C95FB6B820D56C659BE962AE64886918B8856A70A4D31FE6099E5705A286FD ++
    beBytes 32 0xDCB85844A2799CD1C67DD3D7D4D961F2C7452AEB9115B3F5580C52D0129D8EF0
  ({ State.reset with
      boot := { boot0 with step := step, pollEnd := some 0 },
      otp := { State.reset.otp with keyHash := 0xF80E8498BE7FB23F2D16326DFC3BE325A4679AAF76978B9B01340EFAD708186A }
    }).program 0x10000 (head ++ key ++ z ++ z)

-- ill-formed commands: one for each check of Instr.wf

theorem test_wf_link_speed : (Instr.linkUp 3 6 true).wf = false ∧ (Instr.linkUp 3 5 true).wf = true := by decide
theorem test_wf_bridge_read_size : (Instr.bridgeRead 0 3 0).wf = false ∧ (Instr.bridgeRead 0 4 0).wf = true := by decide
theorem test_wf_bridge_write_size : (Instr.bridgeWrite 0 8 0 0).wf = false ∧ (Instr.bridgeWrite 0 2 0 0).wf = true := by decide
theorem test_wf_window_load : (Instr.partnerWindowLoad 0 0x40000000 0).wf = false ∧ (Instr.partnerWindowLoad 0 0x3FFFFFFF 4).wf = false ∧
    (Instr.partnerWindowLoad 0 0x7FFFFFFF 1).wf = true := by decide
theorem test_wf_window_store : (Instr.partnerWindowStore 0 0x80000000 0 4).wf = false ∧ (Instr.partnerWindowStore 0 0x40000000 0 3).wf = false ∧
    (Instr.partnerWindowStore 0 0x40000000 0 4).wf = true := by decide
theorem test_wf_flash_size : (Instr.flashWindowRead 0 0x30000000 16).wf = false ∧ (Instr.flashWindowRead 0 0x30000000 1).wf = true := by decide

-- no word spells a command: the table gives its rows no bits

theorem test_no_word_decodes : decodeTableWord 0 0 = none ∧ decodeTableWord 32 0xFFFFFFFF = none ∧
    (State.reset.withFetchWord 8 255) = State.reset := by decide +kernel

-- 00_scope, the example after R18: 1 800 000 000 s 500 000 000 ns

theorem test_ts64_of_the_reference_coach :
    let s := { State.reset with clk := { clk0 with wt := 1800000000500000000 * 2 ^ 39 } }
    s.wtTs64 = 0x6B49D2001DCD6500 ∧ esiOf 1800000000500000000 = 86400000024000 := by decide +kernel

-- 02, the example of vintage 19

theorem test_vintage_bytes :
    ((upState.wr F.CFG_VINTAGE_NUMBER 19).setPair R.CFG_FP_LO R.CFG_FP_HI 0x3A7C19E05B22D4F1).vintageBytes =
      [0x00, 0x13, 0x3A, 0x7C, 0x19, 0xE0, 0x5B, 0x22, 0xD4, 0xF1] := by decide +kernel

-- 04, the example of the group filter: 91-E0-F0-00-01-0A has h = 138, bit 10 of GHASH4

theorem test_group_filter_of_SC10 :
    let d : List Byte := [0x91, 0xE0, 0xF0, 0x00, 0x01, 0x0A]
    let s := upState.wr (F.MAC_CTRL_GFILTER_EN 0) 1
    daHash d = 138 ∧ s.gfilter 0 d = true ∧ (s.setRegN (R.MAC_GHASH0 0 + 16) 0x400).gfilter 0 d = false := by decide +kernel

-- 04, the example of the pause watchdog: 65 535 quanta at 10 Gb/s are 3 355 392 ns

theorem test_pause_quanta :
    ((upState.wr (F.MAC_STATUS_SPEED_ACT 2) 5).setLink 2 true).quantaNs 2 0xFFFF = 3355392 := by decide +kernel

-- 07, the example of the profiles: at 1280 cells a green frame is admitted, and a yellow one may be dropped

theorem test_profile_of_queue_16 :
    let s := ((upState.wr (F.BUF_Q_PROF_PROFILE 16) 2).setEntry 7 2 [0x10000800, 0x08000200, 0, 0x8020]).wr (F.BUF_Q_AVG_AVG 16) (1280 * 256)
    (s.redTest 16 0 false).2 = .pass ∧ (s.redTest 16 2 false).2 = .drop ∧
      128 * (1280 * 256 - 512 * 256) / ((2048 - 512) * 256) = 64 := by decide +kernel

-- 11, the example of a glove frame: SEQ 0x0417, COUNT 3, and its first item

theorem test_glove_header_and_item :
    let f : CanFrame := ⟨0x181, false, false, false, false, false, false, false, false, 8, 0, 0, 0, [1, 2, 3, 4, 5, 6, 7, 8]⟩
    let s := (upState.setEntry 0xB 0 [0, 0, 1000 + 2 ^ 30, 0, 0, 0])
    let s := { s with clk := { s.clk with lc := 1000000 * 2 ^ 39 } }
    let e : Enc := { enc0 with items := [(canBody f, 0), (canBody f, 232), (canBody f, 470)], seq := 0x0417 }
    let d := s.gloveOctets 0 { e with restart := false }
    (d.drop 14).take 8 = [0x01, 0x01, 0x01, 0x00, 0x04, 0x17, 0x00, 0x03] ∧ d.length = 14 + 8 + 8 + 84 ∧
      (d.drop 30).take 12 = [0x00, 0x18, 0x03, 0xE8, 0x00, 0x00, 0x01, 0x81, 0x00, 0x00, 0x00, 0x08] := by decide +kernel

-- 14, the example of the parked coach: request 0x1A3 with bit 0 of byte 0 set wakes, 0x1A8 or a clear bit does not

theorem test_can_wake_match :
    let s := ((((upState.setRegN (R.WAK_C_ID_MATCH 0) 0x1A0).setRegN (R.WAK_C_ID_MASK 0) 0x1FFFFFF8).wr (F.WAK_C_CTRL_DLC_MIN 0) 1).setRegN
      (R.WAK_C_DATA_MATCH_LO 0) 1).setRegN (R.WAK_C_DATA_MASK_LO 0) 1
    let f (i : BitVec 29) (b : Byte) : CanFrame := ⟨i, false, false, false, false, false, false, false, false, 1, 0, 0, 0, [b]⟩
    s.canMatches 0 (f 0x1A3 0x81) = true ∧ s.canMatches 0 (f 0x1A3 0x80) = false ∧ s.canMatches 0 (f 0x1A8 0x81) = false := by
  decide +kernel

-- 17, Table 17-1: the regions before CNT fill slots 0 to 11 091

theorem test_harvest_slots : harvestRegions.map (fun r => (r.map List.length).sum) =
    [54, 768, 32, 5222, 1598, 924, 982, 400, 120, 612, 272, 22, 10, 64, 12, 10] ∧
    (54 + 768 + 32 + 5222 + 1598 + 924 + 982 + 400 + 120 + 612 + 272 + 22 + 10 + 64 + 12 = 11092) := by decide +kernel

-- check values of the standards that the spec names: IEEE 802.3 CRC-32, FIPS 180-4, SP 800-38B (log entry 7)

theorem test_crc32_check_value : crc32 [0x31, 0x32, 0x33, 0x34, 0x35, 0x36, 0x37, 0x38, 0x39] = 0xCBF43926 := by decide +kernel
theorem test_sha256_abc :
    sha256 [0x61, 0x62, 0x63] = 0xBA7816BF8F01CFEA414140DE5DAE2223B00361A396177A9CB410FF61F20015AD := by decide +kernel
theorem test_cmac_of_nothing :
    cmacBytes [0x2B, 0x7E, 0x15, 0x16, 0x28, 0xAE, 0xD2, 0xA6, 0xAB, 0xF7, 0x15, 0x88, 0x09, 0xCF, 0x4F, 0x3C] [] =
      [0xBB, 0x1D, 0x69, 0x29, 0xE9, 0x59, 0x37, 0x28, 0x7F, 0xA3, 0x7D, 0x12, 0x9B, 0x75, 0x67, 0x46] := by decide +kernel

-- one step on a small state

theorem test_an_idle_step_is_one_time_cycle :
    (match step { State.reset with pending := [] } with | .next t => t.clk.now | _ => 0) = 4 := by decide +kernel
theorem test_a_locked_register_stays :
    let s := { upState with boot := { upState.boot with locked := true, scrub := [R.WAK_NEED] } }
    (s.engineWrite 3 R.WAK_NEED 1).rd F.WAK_NEED_NEED = 0 ∧ (s.engineWrite 3 R.WAK_NEED 1).regN (R.ENG_BUSERR_INFO 3) = 256 + 3 := by decide +kernel
theorem test_store_conditional_after_a_store :
    let s := upState.loadReserved 3 0x10000000
    let t := s.store 0x10000003 [1]
    sget none s.eng.resv 3 = some 0x10000000 ∧ sget none t.eng.resv 3 = none := by decide +kernel

-- the balls and the interrupts that follow from the state

theorem test_can_standby_by_mode :
    (upState.wr (F.CAN_CTRL_STB_MODE 5) 1).ballCanStb 5 = .high ∧ (upState.wr (F.CAN_CTRL_STB_MODE 5) 2).ballCanStb 5 = .low ∧
      (upState.wr (F.CAN_STATUS_EFF_MODE 5) 3).ballCanStb 5 = .low ∧ State.reset.ballCanStb 5 = .high := by decide +kernel
theorem test_software_interrupt :
    let s := { upState with eng := { upState.eng with mailbox := sput [] 6 [[0, 0, 0, 0, 0]] [] } }
    (s.wr (F.ENG_IRQ_EN_EN 6) 2).softwareInterrupt 6 = true ∧ (s.wr (F.ENG_IRQ_EN_EN 6) 0x1D).softwareInterrupt 6 = false := by
  decide +kernel
theorem test_crc16_check_value : crc16 [0x31, 0x32, 0x33, 0x34, 0x35, 0x36, 0x37, 0x38, 0x39] = 0x29B1 := by decide +kernel

-- what the statements suppose is met

theorem wit_StepTakesTheFront : (State.reset.push .forceStep).pending = Instr.forceStep :: [] := by decide +kernel

theorem wit_IdleStepsTick : State.reset.pending = [] ∧ State.reset.clk.on = false ∧ State.reset.calm := by
  unfold State.calm; decide +kernel

theorem wit_DownDrivesNothing : State.reset.downQuiet ∧ State.reset.sweepCut := by
  constructor <;> (intro h; exact absurd h (by decide))

theorem wit_DueResetsAreTaken : State.reset.resetTaken := by
  unfold State.resetTaken; decide +kernel

theorem wit_NeedEndsTheAgreement : State.reset.needHeeded := by
  intro h; exact absurd h (by decide)

theorem wit_MemoriesStayCanonical : State.reset.memWf := by unfold State.memWf; decide +kernel

theorem wit_WarmResetLeaves : State.reset.fltq = [] := by decide +kernel

theorem wit_BringUpReachesItsSteps :
    State.reset.flt.silent = false ∧ State.reset.boot.step = 1 ∧ (imageState 2).boot.step = 2 ∧
      (imageState 2).rd F.DEV_RESET_CAUSE_CAUSE = 0 ∧ (imageState 8).boot.step = 8 ∧ (imageState 8).boot.pollEnd = some 0 ∧
      0 ≤ (imageState 8).clk.now ∧ (imageState 11).boot.step = 11 ∧ (imageState 5).boot.slot = 0 := by decide +kernel

theorem wit_BringUpReachesItsSteps_image :
    (imageState 5).imgOk 0 = true ∧ (imageState 5).keyHashOk 0 = true ∧ (imageState 5).recordOk 0 = true ∧
      (imageState 5).sections 0 = [⟨1, 0, 0, 0, 0, 0⟩] := by decide +kernel

theorem wit_BringUpReachesItsSteps_digest : (imageState 6).printOk 0 = true ∧ (imageState 6).signatureOk 0 = true := by decide +kernel

theorem wit_CensusAgeing :
    let s := { upState with clk := { upState.clk with now := 5000000000 } }
    let s := s.setRegN (R.CFG_CENSUS_E_MAC_HI 3) 0x10000
    let s := s.wr F.CFG_CENSUS_CFG_AGE 5
    s.alive = true ∧ s.rd F.CFG_CENSUS_CFG_AGE ≠ 0 ∧ s.censusValid 3 = true ∧
      sget 0 s.boot.seenAt 3 + s.rd F.CFG_CENSUS_CFG_AGE * 1000000000 ≤ s.clk.now := by decide +kernel

theorem wit_CensusJudgement :
    let s := { upState with boot := { upState.boot with forwardAt := some 7, censusDirty := true } }
    let s := { s with clk := { s.clk with now := 1000000007 } }
    (s.wr F.CFG_CENSUS_HOLD_SETTLE 1).alive = true ∧ (s.wr F.CFG_CENSUS_HOLD_SETTLE 1).boot.settled = false ∧
      (7 + (s.wr F.CFG_CENSUS_HOLD_SETTLE 1).rd F.CFG_CENSUS_HOLD_SETTLE * 1000000000 ≤ s.clk.now) ∧ s.boot.censusDirty = true ∧
      s.clk.now < 7 + (s.wr F.CFG_CENSUS_HOLD_SETTLE 2).rd F.CFG_CENSUS_HOLD_SETTLE * 1000000000 := by decide +kernel

theorem wit_ScrubAndTrialRun :
    let s := { upState with boot := { upState.boot with locked := true, scrub := [0x20100000], baseline := [0], forwardAt := some 0 },
                            clk := { upState.clk with now := 70000000000 } }
    s.alive = true ∧ s.boot.locked = true ∧ s.boot.scrubAt + 100000000 ≤ s.clk.now ∧ s.scrubGroups = [[0x20100000]] ∧
      s.groupDigest [0x20100000] ≠ 0 ∧ 0 + s.rd F.CFG_CENSUS_HOLD_TRIAL_HOLD * 1000000000 ≤ s.clk.now := by decide +kernel

theorem wit_ScrubAndTrialRun_record :
    ((State.reset.writeBootRec ⟨0, 0, 1, 2, 0, 0, 5, 0, 9⟩).bootRec.map (·.2.trial)) = some 2 := by decide +kernel

theorem wit_StagingRuns :
    (maintState.accepts (maintReq 0x10 [] 5) 0x10 ∧ (maintState.accepted (maintReq 0x10 [] 5)).stageState = 0 ∧
      (maintState.accepted (maintReq 0x10 [] 5)).on F.CFG_STATUS_TRIAL = false) ∧
    (maintState.setStage 3).accepts (maintReq 0x13 [] 1024) 0x13 ∧ (maintState.setStage 5).accepts (maintReq 0x14 [] 1) 0x14 ∧
    (maintState.setStage 1).accepts (maintReq 0x12 [] 1) 0x12 ∧ maintState.accepts (maintReq 0x15 [] 1) 0x15 ∧
    (maintState.setStage 1).accepts (maintReq 0x11 [0, 0, 0, 0, 7] 1) 0x11 ∧
    ((maintState.setStage 1).accepted (maintReq 0x11 [0, 0, 0, 0, 7] 1)).rd F.CFG_STAGE_STATUS_BYTES = beNat [0, 0, 0, 0] := by
  refine ⟨⟨?_, ?_, ?_⟩, ?_, ?_, ?_, ?_, ?_, ?_⟩ <;>
    first
      | decide +kernel
      | exact maintReq_accepted _ _ _ _ (by decide +kernel) (by decide +kernel) (by decide +kernel) (by decide +kernel)

theorem wit_StagingRefusals :
    ((maintState.setStage 2).accepts (maintReq 0x10 [] 1) 0x10 ∧ ((maintState.setStage 2).accepted (maintReq 0x10 [] 1)).stageState ≠ 0) ∧
    ((maintState.setStage 4).accepts (maintReq 0x11 [0, 0, 0, 0, 7] 1) 0x11) ∧
    upState.maintVerify (maintReq 0x10 [] 1) 0x10 ≠ 0 ∧ maintState.runtimeActs = true := by
  refine ⟨⟨?_, ?_⟩, ?_, ?_, ?_⟩ <;>
    first
      | decide +kernel
      | exact maintReq_accepted _ _ _ _ (by decide +kernel) (by decide +kernel) (by decide +kernel) (by decide +kernel)

theorem wit_MaintenanceAccess :
    maintState.accepts (maintReq 0x01 [0x10, 0, 0, 0, 1, 0] 1) 1 ∧ readAllowed 0x10000000 = true ∧
    maintState.accepts (maintReq 0x02 [3, 0, 0, 0, 0, 4, 0] 1) 2 ∧ maintState.accepts (maintReq 0x20 [0] 1) 0x20 ∧
    maintState.keyFor 9 7 = true ∧ (maintState.wr (F.CPH_LEASE_STATE_HELD 24) 1).leaseHeld 24 = true ∧ maintState.eng.chalWait = none ∧
    readAllowed 0x21000068 = false := by
  refine ⟨?_, ?_, ?_, ?_, ?_, ?_, ?_, ?_⟩ <;>
    first
      | decide +kernel
      | exact maintReq_accepted _ _ _ _ (by decide +kernel) (by decide +kernel) (by decide +kernel) (by decide +kernel)

theorem wit_DomainClocksStep :
    upState.writable (R.TSU_DC_RATE 1) ∧ upState.writable (R.TSU_DC_STEP_NS 0) ∧ upState.clk.on = true ∧ upState.wtState = 0 ∧
    (upState.setWtState 1).wtState = 1 ∧ (upState.setWtState 1).writable (R.TSU_DC_STEP_NS 0) ∧ (upState.setWtState 3).wtState = 3 ∧
    (upState.setWtState 2).wtState = 2 ∧ (upState.setWtState 2).wtSrc = 0 := by
  unfold State.writable; decide +kernel

theorem wit_DomainLossIsRaised :
    let s := { (upState.wr (F.TSU_DC_CTRL_USABLE 1) 1).wr (F.TSU_DC_CTRL_SYNC_TIMEOUT 1) 3 with
                 clk := { upState.clk with now := 9000000 } }
    s.alive = true ∧ s.usable 1 = true ∧ s.rd (F.TSU_DC_CTRL_SYNC_TIMEOUT 1) ≠ 0 ∧
      max s.clk.usableAt1 0 + s.rd (F.TSU_DC_CTRL_SYNC_TIMEOUT 1) * 1000000 ≤ s.clk.now := by decide +kernel

theorem wit_WorkingTimeMoves :
    upState.writable (R.TSU_DC_CTRL 0) ∧ upState.usable 0 = false ∧ upState.wtState = 0 ∧ upState.wtSrc = 0 ∧ upState.writable R.TSU_CTRL ∧
    (upState.wr (F.TSU_DC_CTRL_USABLE 0) 1).usable 0 = true ∧ (upState.setWtState 1).wtState ≠ 0 ∧ (1 : Nat) ≠ (upState.setWtState 1).wtSrc ∧
    (let s := { (upState.setWtState 1).wr F.TSU_CTRL_PAIR_GRACE 1 with
        clk := { upState.clk with now := 9000000, mismatchAt := some 0 },
        qlb := { upState.qlb with hb := some ⟨false, false, false, false, false, 0, 0, 0, false, 3, 0, 0, 0, 0, 0, 0, 0⟩ } }
     s.alive = true ∧ s.wtMismatch = true ∧ s.rd F.TSU_CTRL_PAIR_GRACE ≠ 0 ∧
       0 + s.rd F.TSU_CTRL_PAIR_GRACE * 1000000 < s.clk.now ∧ s.on F.TSU_WT_STATUS_PARTNER_MISMATCH = false) := by
  unfold State.writable; decide +kernel

theorem wit_SlewStaysBounded :
    let s := { upState.setWtState 2 with clk := { upState.clk with now := 5000, wt := 2 ^ 50 } }
    s.alive = true ∧ s.wtState = 2 ∧ s.clk.slewAt + 1000 ≤ s.clk.now ∧ 2 ^ 39 < (s.clk.wt - s.dc s.wtSrc).natAbs ∧
      s.clk.slewOff.natAbs ≤ max 100 (s.rd F.TSU_WT_SLEW_MAX) * 1000 ∧ s.rd F.TSU_WT_SLEW_RAMP ≠ 0 := by decide +kernel

theorem wit_HeadReadsPopQueues : upState.engineActs 3 = true := by decide +kernel

theorem wit_PulsesCapturesAndStrobes :
    upState.writable (R.TSU_PLS_CTRL 7) ∧
    (let s := upState.setPulse 0 { pls0 with ctrl := 1, edge := some 0 }
     s.alive = true ∧ (s.pulse 0).edge = some 0 ∧ (s.pulse 0).fall = none ∧ 0 ≤ s.plsNow (s.pulse 0) ∧ (s.pulse 0).reload = false ∧
       plsMode (s.pulse 0) = 1) ∧
    (let s := upState.setPulse 0 { pls0 with ctrl := 1, width := 8, edge := some 0, fall := some 0 }
     plsWidth (s.pulse 0) ≠ 0 ∧ (s.pulse 0).fall = some 0) ∧
    (let s := { upState with clk := { upState.clk with wt := 2 ^ 60 } }
     s.strobeDue 0 = true ∧ s.clk.on = true) ∧
    (let s := upState.wr (F.TSU_CAP_CTRL_EDGE 3) 1
     s.alive = true ∧ s.clk.on = true ∧ (s.rd (F.TSU_CAP_CTRL_EDGE 3)).testBit 0 = true ∧ s.rd (F.TSU_CAP_CTRL_FILTER 3) * 4 ≤ 0 ∧
       (sget hq0 s.cap 3).q.length < 8) ∧
    upState.flt.silent = false ∧
    (linkState.linkUp 1 = true ∧ (linkState.port 1).calWait = true ∧ linkState.portLive 1 = true ∧
      linkState.on (F.TSU_P_CTRL_CAL_LOOP 1) = false) := by
  unfold State.writable; decide +kernel

theorem wit_LinksComeAndGo :
    let s := upState.wr (F.MAC_CTRL_ENABLE 1) 1
    let s := { s with clk := { s.clk with now := 1000000 } }
    s.alive = true ∧ s.portsOn = true ∧ s.on (F.MAC_CTRL_ENABLE 1) = true ∧ s.linkUp 1 = false ∧
    modeOk 1 (s.rd (F.MAC_CTRL_MODE 1)) = true ∧ (s.port 1).linkAt + 1000000 ≤ s.clk.now ∧ s.duplexSignalled 1 = false ∧
    (let k := (s.wr (F.MAC_CTRL_MODE 5) 7).wr (F.MAC_CTRL_AN_EN 5) 1
     modeOk 5 (k.rd (F.MAC_CTRL_MODE 5)) = true ∧ k.duplexSignalled 5 = true) ∧
    (linkState.linkUp 1 = true ∧ (linkState.port 1).cur = none) ∧
    (let k := (s.wr (F.MAC_CTRL_MODE 1) 1).wr (F.MAC_STATUS_KR_STATE 1) 1
     k.rd (F.MAC_CTRL_MODE 1) = 1 ∧ k.rd (F.MAC_STATUS_KR_STATE 1) = 1 ∧ k.clk.now ≤ (k.port 1).krAt + 500000000) ∧
    (let k := { (s.wr (F.MAC_CTRL_MODE 1) 1).wr (F.MAC_STATUS_KR_STATE 1) 3 with clk := { s.clk with now := 100000000 } }
     k.rd (F.MAC_CTRL_MODE 1) = 1 ∧ k.rd (F.MAC_STATUS_KR_STATE 1) = 3 ∧ (k.port 1).krAt + 100000000 ≤ k.clk.now) ∧
    (let k := { (s.wr (F.MAC_STATUS_VERIFY_STATE 1) 1).wr (F.MAC_STATUS_TX_ON 1) 1 with clk := { s.clk with now := 10000000 } }
     k.rd (F.MAC_STATUS_VERIFY_STATE 1) = 1 ∧ k.on (F.MAC_STATUS_TX_ON 1) = true ∧ (k.port 1).verifyAt + 10000000 ≤ k.clk.now ∧
       (k.port 1).verifySent < 3) ∧
    (let k := (s.setLink 16 true).wr (F.MAC_PLCA_PLCA_EN 16) 1
     k.linkUp 16 = true ∧ k.on (F.MAC_PLCA_PLCA_EN 16) = true ∧ k.on (F.MAC_STATUS_PLCA_COORD 16) = false ∧
       (k.port 16).beaconLost = false ∧ (k.port 16).beaconAt + 400000 ≤ k.clk.now) ∧
    (s.wr (F.MAC_PLCA_PLCA_EN 20) 0).csma 20 = true := by
  decide +kernel

theorem wit_LinksComeAndGo_queue :
    let s := ({ upState with buf := { upState.buf with q := sput [] 9 [⟨0, 0, false, false, 0, false⟩] [] } })
    s.linkUp 1 = false ∧ (s.port 1).discardAt ≤ s.clk.now ∧
      ((List.range 8).map (fun t => 1 * 8 + (7 - t))).find? (fun q => !(s.queue q).isEmpty) = some 9 := by decide +kernel

theorem wit_PortControls :
    upState.writable (R.MAC_CTRL 23) ∧ upState.on (F.MAC_CTRL_ENABLE 23) = false ∧ upState.linkUp 23 = false ∧
    modeOk 12 ((upState.writeFields (R.MAC_CTRL 12) (1 - (1 &&& macCtrlReserved 12))).rd (F.MAC_CTRL_MODE 12)) = false ∧
    upState.writable R.MAC_MDIO_CMD ∧ upState.on F.MAC_MDIO_CMD_BUSY = false ∧
    (upState.wr F.MAC_MDIO_CMD_BUSY 1).on F.MAC_MDIO_CMD_BUSY = true ∧ (upState.wr F.MAC_MDIO_CMD_BUSY 1).writable R.MAC_MDIO_CMD := by
  unfold State.writable; decide +kernel

theorem wit_PauseRuns :
    let s := ((upState.wr (F.MAC_STATUS_PAUSED 2) 255).wr (F.MAC_PAUSE_WD_LIMIT 2) 1).wr (F.MAC_PAUSE_WD_HOLD 2) 7
    let s := { s with clk := { s.clk with now := 100000000 } }
    s.alive = true ∧ sget 0 (s.port 2).pauseEnd 7 ≤ s.clk.now ∧ s.rd (F.MAC_PAUSE_WD_HOLD 2) ≠ 0 ∧
      s.rd (F.MAC_PAUSE_WD_LIMIT 2) * 1000 < (s.clk.now - (s.port 2).pausedAt) / 1000 ∧
    (let t := (s.modPort 2 (fun m => { m with pauseReq := 0x100 })).wr (F.BUF_PORT_XOFF_XOFF 2) 1
     let t := { t with buf := { t.buf with pkt := sput pkt0 0 { pkt0 with inPort := 2, cells := [0] } [] } }
     (t.updatePause 2).port 2 = t.port 2 ∧ (t.port 2).pauseReq ≠ 0 ∧
       (t.port 2).refreshAt + t.quantaNs 2 (t.rd (F.MAC_PAUSE_REFRESH 2)) ≤ t.clk.now) := by decide +kernel

theorem wit_PauseWatchdogOfZero :
    let s := (((upState.wr (F.MAC_STATUS_PAUSED 2) 255).wr (F.MAC_PAUSE_WD_LIMIT 2) 1).wr (F.MAC_PAUSE_WD_HOLD 2) 0)
    let s := { s with clk := { s.clk with now := 1001000 } }
    s.alive = true ∧ s.rd (F.MAC_PAUSE_WD_LIMIT 2) ≠ 0 ∧ s.rd (F.MAC_STATUS_PAUSED 2) ≠ 0 ∧
      s.rd (F.MAC_PAUSE_WD_LIMIT 2) * 1000 < (s.clk.now - (s.port 2).pausedAt) / 1000 ∧ s.rd (F.MAC_PAUSE_WD_HOLD 2) = 0 ∧
      (upState.wr (F.MAC_PAUSE_WD_LIMIT 2) 0).rd (F.MAC_PAUSE_WD_LIMIT 2) = 0 := by decide +kernel

theorem wit_GroupFilterRule :
    let s := upState.wr (F.MAC_CTRL_GFILTER_EN 5) 1
    s.forwarding = true ∧ s.gfilter 5 (dropFcs ([0x01, 0, 0x5E, 0, 0, 1] ++ List.replicate 58 0)) = true ∧
      (s.classify 5 0x8100 (dropFcs ([0x01, 0, 0x5E, 0, 0, 1] ++ List.replicate 58 0))).isSome = true ∧
      s.gfilter 5 (dropFcs ([0x01, 0x80, 0xC2, 0, 0, 0x0F] ++ List.replicate 58 0)) = false := by decide +kernel

theorem wit_ReceiveChecksInOrder :
    let s := linkState.startFrame 1 0 (List.replicate 64 2) false
    s.alive = true ∧ (s.port 1).cur.map (fun f => (f.bytes, f.tpid, f.dead, f.decided)) = some (List.replicate 64 2, 0x8100, false, false) ∧
      s.on (F.CPH_MS_CTRL_RX_EN 1) = false ∧ s.forwarding = true ∧
      s.classify 1 0x8100 (List.replicate 60 2) = some (List.replicate 60 2, 1, 0, 0) ∧
      s.gfilter 1 (List.replicate 60 2) = false ∧ s.maxFrame 1 ≥ 64 ∧ fcsOk (List.replicate 64 2) = false ∧
      fcsOk (List.replicate 60 2 ++ fcs (List.replicate 60 2)) = true := by decide +kernel

theorem wit_ForwardingDecides :
    let s := upState.modPort 1 (fun m => { m with inq := [{ rxFrame0 (List.replicate 60 2) with ended := true, vid := 1 }] })
    s.forwarding = true ∧ (s.port 1).inq = [{ rxFrame0 (List.replicate 60 2) with ended := true, vid := 1 }] ∧
      (s.port 2).inq = [] ∧ (s.port 2).cur = none ∧ (s.tw 1 1 2).testBit 8 = false ∧
      ((s.setEntry 1 1 [2, 0, 0x500]).tw 1 1 2).testBit 10 = true ∧ (s.setEntry 1 1 [2, 0, 0x500]).member 1 5 = false ∧
      ((s.setEntry 1 1 [2, 0, 0x100]).tw 1 1 2).testBit 10 = false ∧ isGroup (saOf (List.replicate 60 3)) = true ∧
      s.creditHeld 1 = false ∧
      (let c := linkState.startFrame 1 0 (List.replicate 64 2) false
       let c := { c with clk := { c.clk with now := 1000000 } }
       (c.port 1).inq = [] ∧ (c.port 1).cur.map (fun f => (f.dead, f.decided, f.cells)) = some (false, false, []) ∧
         (c.port 1).cur.map (fun f => decide (headerNeed (dropFcs f.bytes) ≤ c.arrived 1 f)) = some true ∧
         c.earlyChecks 1 0x8100 (dropFcs (List.replicate 64 2)) = .pass (List.replicate 60 2) 1 0 0) := by decide +kernel

theorem wit_InsertedAddressIsFound :
    let s := (upState.setRegN R.FWD_STAGE0 0x12345678).setRegN R.FWD_STAGE1 0x00420002
    let e := macStaged (s.staged R.FWD_STAGE0 4)
    let k := macKey e
    s.writable R.FWD_COMMIT ∧ s.migState = 0 ∧ macValid e = true ∧ s.macFind k.1 k.2 = none ∧
      (s.freeSlot (s.bucketSlots s.fwd.curSet 0 k.1 k.2 ++ s.bucketSlots s.fwd.curSet 1 k.1 k.2)).isSome = true := by
  unfold State.writable; decide +kernel

theorem wit_InsertedAddressIsFound_lookup :
    let s := (upState.setRegN R.FWD_STAGE0 0x12345678).setRegN R.FWD_STAGE1 0x00420002
    let t := s.setEntry 2 32770 [0x12345678, 0x00420002, 7, 0]
    t.writable R.FWD_COMMIT ∧ t.macFind (macKey (t.staged R.FWD_STAGE0 4)).1 (macKey (t.staged R.FWD_STAGE0 4)).2 = some 32770 := by
  unfold State.writable; decide +kernel

theorem wit_MacTableKeepsHouse :
    upState.alive = true ∧ upState.writable (R.FWD_SEED_CUR0 + 4 * 1) ∧ upState.macSlots = [] ∧
      (upState.setEntry 2 5 [1, 0x00400000, 0, 0]).macSlots ≠ [] ∧ upState.writable R.FWD_MIGRATE ∧ upState.migState = 0 ∧
      (upState.wr F.FWD_MIGRATE_STATE 1).migState = 1 ∧ upState.fwd.walk < 32768 ∧ upState.rd F.FWD_AGE_AGE_TIME ≠ 0 ∧
      (∀ i ∈ (upState.setEntry 2 5 [1, 0x00C00000, 0, 0]).macSlots,
        macStatic ((upState.setEntry 2 5 [1, 0x00C00000, 0, 0]).entry 2 i) = true) ∧
      (upState.setEntry 2 5 [1, 0x30400000, 0, 0]).macSlots.count 5 = 1 ∧
      macStatic ((upState.setEntry 2 5 [1, 0x30400000, 0, 0]).entry 2 5) = false ∧
      macAge ((upState.setEntry 2 5 [1, 0x30400000, 0, 0]).entry 2 5) = 3 ∧
      upState.writable R.FWD_FLUSH ∧ upState.on F.FWD_FLUSH_BUSY = false := by
  unfold State.writable; decide +kernel

theorem wit_NextHopMembership :
    let s := (upState.setEntry 4 7 [0x11, 0x10030000, 5]).setEntry 5 9 [3, 0, 0, 0, 0, 0, 0, 7]
    let v4 : List Byte := List.replicate 12 2 ++ [8, 0, 0x45, 0, 0, 20] ++ List.replicate 4 0 ++ [64, 17, 0x7A, 0xDA] ++ List.replicate 8 0
    s.member 5 3 = false ∧ bits (s.tw 4 7 1) 16 5 = 3 ∧ bits (s.tw 4 7 2) 0 12 = 5 ∧ s.scf 9 0 1 3 = 1 ∧ s.scf 9 7 0 10 = 7 ∧
      isV4 (List.replicate 60 2) = false ∧ isV6 (List.replicate 60 2) = false ∧ s.routeCheck v4 = none ∧
      (let m := s.setEntry 1 5 [8, 0, 0x100]
       (m.tw 4 7 1).testBit 28 = true ∧ m.member 5 3 = true) ∧
      (s.setEntry 3 4094 [0, 0, 0x1000, 0, 0, 0xF000, 7]).tcamFind s.flowSlices 4096 [(1, fld v4 30 4)] = some 4094 := by decide +kernel

theorem wit_TablesAndScrub :
    upState.writable R.FWD_COMMIT ∧ bits (0x10000FFF : Word).toNat 28 4 = 1 ∧ bits (0x10000FFF : Word).toNat 26 2 = 0 ∧
      upState.alive = true ∧ sget 0 upState.fwd.tcamBad 4095 = 0 ∧
      sget 0 ({ upState with fwd := { upState.fwd with tcamBad := sput 0 4095 1 [] } }).fwd.tcamBad 4095 ≠ 0 := by
  unfold State.writable; decide +kernel

theorem wit_ChannelsAndMonitors :
    let s := { upState.setRegN R.SCT_STAGE0 1 with clk := { upState.clk with now := 9000000 } }
    let t := (s.setEntry 5 3 [1, 0, 0, 0, 0, 0x2004, 0, 0]).setDyn 3 { s.dyn 3 with takeAny := false, acceptAt := 0 }
    s.writable R.SCT_COMMIT ∧ (s.setEntry 5 511 (s.staged R.SCT_STAGE0 8)).scf 511 0 0 1 = 1 ∧ s.scf 511 0 0 1 ≠ 1 ∧
      s.writable R.SCT_STATE_SEL ∧ s.writable (R.SCT_LAT_THRESH 15) ∧
      (s.alive = true ∧ t.scf 3 0 0 1 = 1 ∧ t.scf 3 5 2 2 = 1 ∧ t.scf 3 5 12 12 ≠ 0 ∧ (t.dyn 3).takeAny = false ∧
        (t.dyn 3).acceptAt + t.scf 3 5 12 12 * 1000000 ≤ t.clk.now) := by
  unfold State.writable; decide +kernel

theorem wit_DuplicatesAreEliminated :
    let s := upState.setEntry 5 3 [1, 0, 0, 0, 0, 0x404, 0, 0]
    (s.scf 3 5 2 2 = 1 ∨ s.scf 3 5 2 2 = 2) ∧ (s.dyn 3).recov < 65536 ∧ (s.recover 3 65535).2 = .accept ∧
      rtagOf (List.replicate 60 2) = none := by decide +kernel

theorem wit_LatencySamples :
    let s := upState.wr (F.SCT_LAT_THRESH_THRESH 15) 9
    (7 : Nat) < 2 ^ 32 ∧ (s.rd (F.SCT_LAT_THRESH_THRESH 15) ≠ 0 ∧ s.rd (F.SCT_LAT_THRESH_THRESH 15) < 10) ∧
      sget 0 s.latAt 15 = 0 := by decide +kernel

theorem wit_StreamStepsInOrder :
    let s := upState.setEntry 5 3 [0x10009, 0, 0, 0, 0, 1, 0x51000, 0]
    upState.scf 3 0 0 1 = 0 ∧ s.scf 3 6 12 2 = 1 ∧ s.scf 3 0 16 14 ≠ 0 ∧ s.scf 3 0 16 14 < scLen [] ∧ 4 ≤ s.scf 3 0 1 3 ∧
      s.scf 3 5 0 2 = 1 ∧ upState.scf 3 6 12 2 = 0 ∧ s.scf 3 0 0 1 = 1 ∧ s.scf 3 0 5 1 = 0 := by decide +kernel

theorem wit_BufferCommands :
    let s := { upState with clk := { upState.clk with now := 9000000000 } }
    let s := { s with buf := { s.buf with q := [(215, [⟨0, 0, false, false, 0, false⟩])] } }
    s.writable R.BUF_COMMIT ∧ s.rd F.BUF_AUDIT_PERIOD ≠ 0 ∧ s.buf.walking = false ∧
      s.buf.auditAt + s.rd F.BUF_AUDIT_PERIOD * 1000000 ≤ s.clk.now ∧ s.on F.BUF_AUDIT_RECLAIM = true ∧
      (s.queue 215 = [⟨0, 0, false, false, 0, false⟩] ∧ s.inTx 215 ⟨0, 0, false, false, 0, false⟩ = false ∧ s.blocked 215 = false ∧
        s.rd F.BUF_STUCK_STUCK_TIME ≠ 0 ∧ sget 0 s.buf.headSince 215 + s.rd F.BUF_STUCK_STUCK_TIME * 1000000 < s.clk.now) ∧
      s.writable R.BUF_QFLUSH ∧ s.on F.BUF_QFLUSH_BUSY = false ∧ bits (0x800000DF : Word).toNat 0 8 < 224 ∧
      (s.wr F.BUF_QFLUSH_BUSY 1).on F.BUF_QFLUSH_BUSY = true ∧ s.buf.heldBack = [] ∧
      ({ s with buf := { s.buf with walking := true, leaked := [9], suspects := [9] } }).buf.walking = true := by
  unfold State.writable; decide +kernel

theorem wit_AdmissionRules :
    let s := (upState.wr (F.BUF_Q_CFG_MIN 223) 1).wr (F.BUF_Q_AVG_AVG 223) 0x1234
    s.freeCopies ≠ 0 ∧ s.depth 223 + (s.getPkt 0).charge ≤ s.rd (F.BUF_Q_CFG_MIN 223) ∧
      upState.rd (F.BUF_Q_CFG_MIN 223) < upState.depth 223 + 1 ∧ s.rd (F.BUF_Q_AVG_AVG 223) < bits (s.tw 7 0 2) 0 16 * 256 ∧
      (let t := s.setEntry 7 0 [0x00FF0001, 0, 0, 0]
       bits (t.tw 7 0 0) 0 16 * 256 ≤ t.rd (F.BUF_Q_AVG_AVG 223) ∧
        t.rd (F.BUF_Q_AVG_AVG 223) < max (bits (t.tw 7 0 0) 16 16) (bits (t.tw 7 0 0) 0 16) * 256) := by decide +kernel

theorem wit_FramesAreFreedOnce :
    let s := { upState with buf := { upState.buf with pkt := [(9, { pkt0 with copies := 2 })] } }
    1 < (s.getPkt 9).copies ∧ (s.getPkt 8).copies ≤ 1 := by decide +kernel

theorem wit_GateListsRun :
    let s := ((upState.setRegN R.EGS_STAGE2 0x80000000).setRegN R.EGS_STAGE3 1000)
    let w := s.staged R.EGS_STAGE0 6
    s.writable R.EGS_COMMIT ∧ hdrRejected w = false ∧ hdrValid w = true ∧ (s.glist 255).running = false ∧
      hdrRejected ((s.setRegN R.EGS_STAGE5 0x1FFF000).staged R.EGS_STAGE0 6) = true ∧
      (let l : GList := { glist0 with running := true, next := some 0, cyc := 1000, words := w }
       let t := s.setGlist 255 l
       (t.glist 255).running = true ∧ (t.glist 255).next = some 0 ∧ 0 ≤ t.wtNs ∧ (t.glist 255).pending = none ∧
        (let k := s.setGlist 255 { l with pending := some w, changeT := 0 }
         (k.glist 255).running = true ∧ (k.glist 255).pending.isSome = true ∧ (k.glist 255).changeT ≤ k.wtNs)) ∧
      s.writable R.EGS_LIST_SEL := by
  unfold State.writable; decide +kernel

theorem wit_PortsTransmit :
    let s := (linkState.wr (F.MAC_STATUS_TX_ON 1) 1)
    let b := { s.buf with pkt := [(5, { pkt0 with data := List.replicate 60 2, vid := 1, copies := 1 })] }
    let q := { s with buf := { b with q := [(15, [⟨3, 5, false, false, 0, false⟩])] } }
    s.alive = true ∧ s.portLive 1 = true ∧ s.on (F.MAC_STATUS_TX_ON 1) = true ∧ s.on (F.TSU_P_CTRL_CAL_LOOP 1) = false ∧ s.listens 1 = false ∧
      s.macStopped = false ∧ (s.port 1).tx = none ∧ (s.port 1).gapEnd ≤ s.clk.now ∧ (s.port 1).ctrl = [] ∧ (s.port 1).mpkts = [] ∧
      (s.port 1).rest = none ∧
      (s.select 1 classesDown).2 = none ∧ (q.select 1 classesDown).2 = some (15, ⟨3, 5, false, false, 0, false⟩) ∧
      q.msTx 1 = false ∧ (q.getPkt 5).complete = true ∧
      (q.egressBytes 1 (q.getPkt 5) false).length + 4 ≤ q.maxFrame 1 ∧ q.badCell (q.getPkt 5) = none ∧ s.portLive 2 = false ∧
      ((q.beginTx 1 15 ⟨3, 5, false, false, 0, false⟩).port 1).tx.isSome = true ∧ (s.port 27).tx = none := by decide +kernel

theorem wit_PortsTransmit_hold :
    let x : TxFrame := ⟨15, ⟨3, 5, false, false, 0, false⟩, [], false, 0, 0, 0, false, 0, none, none, false, false, none⟩
    let l : GList := { glist0 with running := true, next := some 5, cyc := 1000, words := [], entry := [1000, 0] }
    let s := ((linkState.modPort 1 (fun m => { m with tx := some x })).wr (F.EGS_P_GATE_EN 1) 1).setGlist 0 l
    s.alive = true ∧ (s.port 1).tx = some x ∧ s.window 1 7 s.wtNs = some 0 ∧ (0 : Int) ≤ (octetNs 64 (s.portKbps 1) : Int) := by
  decide +kernel

theorem wit_EgressMonitors :
    let s := (upState.wr (F.EGS_HM_CFG_EN 7) 1).wr (F.EGS_HM_CFG_DEPTH_PERIOD 7) 3
    let s := { s with clk := { s.clk with now := 3000 } }
    s.writable (R.EGS_Q_BURST 223) ∧ s.writable (R.EGS_Q_SHAPER 223) ∧ s.writable R.EGS_MAXDLY_CLEAR ∧ s.writable (R.EGS_HM_CFG 7) ∧
      s.on (F.EGS_HM_CFG_EN 7) = true ∧ s.rd (F.EGS_HM_CFG_QUEUE 7) < 224 ∧ s.rd (F.EGS_HM_CFG_DEPTH_PERIOD 7) ≠ 0 ∧
      sget 0 s.buf.depthAt 7 + s.rd (F.EGS_HM_CFG_DEPTH_PERIOD 7) * 1000 ≤ s.clk.now := by
  unfold State.writable; decide +kernel

theorem wit_AudioCommands :
    let d : List Byte := List.replicate 12 2 ++ [0x22, 0xF0, 0x02, 0x81] ++ List.replicate 14 0 ++ [2, 0x50, 2] ++ List.replicate 40 0
    let s := (upState.setEntry 5 9 [5, 0, 0, 0, 0, 0, 0, 0]).wr (F.AUD_L_CFG_CH 3) 2
    let t := { s with out25 := [{ pkt0 with data := d, sc := some 9, listener := 3 }] }
    s.writable R.AUD_CHG_CMD ∧ s.writable R.AUD_COMMIT ∧ s.writable (R.AUD_EP_WR_ESI_HI 7) ∧ s.writable (R.AUD_L_CFG 63) ∧
      changeValid ⟨4, 0, 96, 120, 0⟩ = true ∧ s.clk.esi + 96 ≤ 96 ∧ (s.aud.queue.filter (·.own)).length < 192 ∧
      t.scf 9 0 1 3 = 2 ∧ s.listenerCh 0 = none ∧ s.listenerCh 3 = some 2 ∧ s.wtState = 0 ∧ (s.setWtState 1).wtState ≠ 0 ∧
      s.aafCheck 3 2 [] = none := by
  unfold State.writable; decide +kernel

theorem wit_ChangesKeepOneOrder :
    let a : AudEntry := ⟨⟨0, 1, 100, 0, 0⟩, false, true, 0, none, false⟩
    let b : AudEntry := ⟨⟨0, 1, 100, 7, 0⟩, true, false, 1, none, false⟩
    entryBefore a b = true ∧ ([a, b] : List AudEntry).Pairwise (fun x y => entryBefore y x = false) := by decide

theorem wit_MixesAreBoundedAndSilent : State.reset.tables = [] ∧ tapSource (State.reset.tw 8 2623 0) = 0x3FF ∧
    rampNow (State.reset.tapGain 2623) = 0 := by decide +kernel

theorem wit_CanFramesOnTheBus :
    let f : CanFrame := ⟨5, false, false, false, false, false, false, false, false, 0, 0, 0, 0, []⟩
    let s := { upState.wr (F.CAN_STATUS_EFF_MODE 15) 1 with clk := { upState.clk with now := 100000000000 } }
    let t := s.setTb 15 0 (some ⟨frameElem f false 0 0 0 0, none, 0, false⟩)
    s.alive = true ∧ s.rd (F.CAN_STATUS_STATE 15) ≠ 2 ∧ s.rd (F.CAN_STATUS_EFF_MODE 15) = 1 ∧ s.on (F.CAN_CTRL_FD_EN 15) = false ∧
      (s.wr (F.CAN_CTRL_PEX_EN 15) 0).on (F.CAN_CTRL_PEX_EN 15) = false ∧ (s.canC 15).win = none ∧ s.ttRuns 15 = false ∧ s.canBusy 15 = false ∧ s.mayTransmit 15 = true ∧
      s.arbWinner 15 [0, 1, 2] = none ∧ (t.arbWinner 15 [0, 1, 2]).isSome = true ∧ t.mayTransmit 15 = true ∧ t.canBusy 15 = false ∧
      (let u := t.wr (F.CAN_TB_STATUS_STARTED 15 0) 1
       u.on (F.CAN_TB_STATUS_STARTED 15 0) = true ∧ u.on (F.CAN_TB_STATUS_STARTED 15 1) = false ∧ (u.canTb 15 0).isSome = true ∧
        u.rd (F.CAN_TB_STATUS_CANCEL_RESULT 15 0) ≠ 2 ∧ u.on (F.CAN_CTRL_ONE_SHOT 15) = false ∧
        255 < (u.wr (F.CAN_STATUS_TEC 15) 250).rd (F.CAN_STATUS_TEC 15) + 8 ∧ (upState.counts 15) = false) ∧
      plainFrame f = f ∧ s.pairFor 15 f = none ∧ [0, 1, 2].find? (fun k => (t.wr (F.CAN_TB_STATUS_STARTED 15 0) 1).on (F.CAN_TB_STATUS_STARTED 15 k)) = some 0 ∧
      (let u := (s.wr (F.CAN_STATUS_STATE 15) 2).modCan 15 (fun c => { c with recovering := true })
       u.rd (F.CAN_STATUS_STATE 15) = 2 ∧ (u.canC 15).recovering = true ∧ (u.canC 15).readyAt ≤ u.clk.now ∧ u.writable (R.CAN_RECOVER 15)) ∧
      (let u := t.wr (F.CAN_CTRL_TX_ROLE 15) 1
       u.on (F.CAN_CTRL_TX_ROLE 15) = true ∧ s.rd (F.CAN_CTRL_MIRROR_AGE 15) ≠ 0 ∧
        0 + s.rd (F.CAN_CTRL_MIRROR_AGE 15) * 1000000 ≤ s.clk.now) := by
  unfold State.writable; decide +kernel

theorem wit_CanQueuesAndTimes :
    let f : CanFrame := ⟨5, false, false, false, false, false, false, false, false, 0, 0, 0, 0, []⟩
    let s := ((upState.setRegN (ringCfg 15 2) 0x110).ringAppend 15 2 (frameElem f false 0 0 0 0))
    let t := s.setTb 15 0 (some ⟨frameElem f false 0 0 0 0, none, 0, false⟩)
    s.alive = true ∧ s.canTb 15 2 = none ∧ s.ringSize 15 2 ≠ 0 ∧
      s.ringElems 15 2 1 (s.regN (ringGet 15 2)) (s.ringFill 15 2) = [frameElem f false 0 0 0 0] ∧
      s.elemInvalid 15 (frameElem f false 0 0 0 0) = false ∧ s.elemInvalid 15 (frameElem { f with fdf := true } false 0 0 0 0) = true ∧
      s.writable (R.CAN_FQ_PUT 15 2) ∧ s.canRefused 15 = false ∧ s.fqOwner 15 2 = 0 ∧ s.canMirrors 15 = false ∧
      bits (48 : Word).toNat 0 14 < s.ringSize 15 2 ∧ s.ringFill 15 2 + (48 + s.ringSize 15 2 - s.regN (ringPut 15 2)) % 64 ≤ 64 ∧
      s.writable (R.CAN_FQ_CFG 15 2) ∧ s.writable (R.CAN_TB_CANCEL 15) ∧ (t.canTb 15 0).isSome = true ∧
      t.on (F.CAN_TB_STATUS_STARTED 15 0) = false ∧ (s.canC 15).win = none ∧ s.ttRuns 15 = false ∧ s.writable (R.CAN_TT_CYCLE 15) ∧
      (let u := (s.wr (F.CAN_CTRL_MODE 15) 3).wr (F.CAN_NBT_NTSEG1 15) 255
       u.modeTarget 15 = 3 ∧ 3 ≠ u.rd (F.CAN_STATUS_EFF_MODE 15) ∧ u.canBusy 15 = false ∧ 1 ≤ u.rd (F.CAN_CTRL_MODE 15)) ∧
      s.writable (R.CAN_NBT 15) ∧ s.rd (F.CAN_CTRL_MODE 15) = 0 := by
  unfold State.writable; decide +kernel

theorem wit_CanElementsHoldTheirFrames :
    let f : CanFrame := ⟨0x1FFFFFFF, true, true, false, true, false, false, false, false, 13, 0, 0, 0, List.replicate 32 0xA5⟩
    plainFrame f = f ∧ f.af = 0 ∧ f.data.length = dataLen f.fdf f.xlf f.rtr f.dlc.toNat ∧
      elemFrame (frameElem f true 255 65535 1 2) = f := by decide +kernel

theorem wit_SerialChannelsRun :
    let s := { (upState.wr (F.SER_CTRL_EN 7) 1).wr (F.SER_FRAME_GAP_BITS 7) 20 with clk := { upState.clk with now := 100000000000 } }
    let m := s.modSer 7 (fun c => { c with open_ := some ⟨[1], false, 0, 0⟩ })
    let t := (s.wr (F.SER_CTRL_TX_ROLE 7) 0).serAppendRing 7 (serElem [1, 2, 3] false false false 0 0)
    upState.serRuns 7 = false ∧ s.serRuns 7 = true ∧ s.on (F.SER_STATUS_DE 7) = false ∧ (m.serC 7).open_ = some ⟨[1], false, 0, 0⟩ ∧
      1 < m.serMax 7 ∧ s.on (F.SER_CTRL_DATA7 7) = false ∧ s.rd (F.SER_FRAME_GAP_BITS 7) ≠ 0 ∧ s.on (F.SER_CTRL_DROP_ERR 7) = false ∧
      t.serMaySend 7 = true ∧ t.lineIdle 7 (t.rd (F.SER_FRAME_TX_GAP 7)) t.clk.now = true ∧ m.serFull 7 = false ∧
      (m.modSer 7 (fun c => { c with lineAt := m.clk.now })).lineIdle 7 (m.rd (F.SER_FRAME_GAP_BITS 7)) (m.clk.now - m.charNs 7) = false ∧
      (t.serC 7).doneAt ≤ t.clk.now ∧ (t.serC 7).txFill ≠ 0 ∧ (t.serHead 7).isSome = true ∧
      bits (leNat (t.serBytes (serTx 7) (t.regN (R.SER_TXQ_GET 7)) 4)) 0 11 = 3 ∧
      (t.wr (F.SER_STATUS_TX_BUSY 7) 1).on (F.SER_STATUS_TX_BUSY 7) = true ∧ (t.serC 7).resent = false ∧
      s.writable (R.SER_TXQ_PUT 7) ∧ t.on (F.SER_CTRL_TX_ROLE 7) = false ∧ s.serOwner 7 = 0 ∧
      (s.wr (F.SER_CTRL_TX_OWNER 7) 1).serOwner 7 = 1 ∧ s.writable (R.SER_BAUD 7) ∧
      853 < (s.writeFields (R.SER_BAUD 7) 854).rd (F.SER_BAUD_DIV 7) ∧ (s.writeFields (R.SER_BAUD 7) 853).rd (F.SER_BAUD_DIV 7) ≤ 853 ∧
      (s.wr (F.SER_DE_MIRROR_AGE 7) 9).rd (F.SER_DE_MIRROR_AGE 7) ≠ 0 ∧ (t.serC 7).headAt + 9 * 1000000 ≤ t.clk.now + 9000000 := by
  unfold State.writable; decide +kernel

theorem wit_GloveEngineRuns :
    let s := (upState.setEntry 0xB 23 [0, 0x80000000, 0, 1, 0, 0]).setEntry 0xB 95 [0, 0, 1]
    let s := { s with clk := { s.clk with lc := 5000000 * 2 ^ 39 } }
    s.alive = true ∧ s.encapsulating 0 = false ∧ s.encapsulating 23 = true ∧ (s.enc 23).isOpen = false ∧ bits (s.encW 23 3) 0 16 ≠ 0 ∧
      (s.enc 23).lastMs + bits (s.encW 23 3) 0 16 ≤ s.lcMs ∧
      ((s.setEnc 23 { s.enc 23 with isOpen := true }).enc 23).tOpen + bits (s.encW 23 2) 0 16 ≤ s.lcUs ∧
      (parseGlove (List.replicate 60 0)).isNone = true ∧ s.encNtscf 23 = false ∧ s.sealing 23 = false ∧ s.queueReady 24 = false ∧
      (s.setEntry 0xB 23 [0, 0x80000000, 0, 0x1000001, 0, 0]).sealing 23 = true ∧
      (let t := (s.setEntry 0xB 23 [0, 0x80000000, 0, 0x1000001, 0, 0]).setGlv { s.glv with inq := [⟨23, none, [1], 0, 0⟩] }
       t.encapsulating 23 = true ∧ t.sealStalls 23 = false ∧ t.isDue 23 = true ∧
        (let v := { (t.setEntry 5 9 [0, 0, 0, 0, 0, 0, 0x2000, 0]).served 23 with out26 := [{ pkt0 with sc := some 9 }] }
         v.isDue 23 = false ∧ v.isDue 24 = true ∧ v.sealStalls 23 = false)) ∧
      (s.setEntry 0xB 95 [0x80000000, 0, 1]).decW 63 0 = 0x80000000 ∧ s.scf 0 6 12 2 ≠ 2 ∧
      (parseGlove (List.replicate 12 2 ++ [0x88, 0xB5, 1, 1] ++ List.replicate 60 0)).isSome = true ∧
      bits (s.decW 63 2) 0 16 ≠ 0 ∧ (s.wr (F.GLV_DSTATE_SYNCED 63) 1).on (F.GLV_DSTATE_SYNCED 63) = true ∧
      sget 0 s.glv.tLast 63 + bits (s.decW 63 2) 0 16 ≤ s.lcMs ∧ s.writable R.GLV_COMMIT := by
  unfold State.writable; decide +kernel

theorem wit_GloveFramesGiveTheirItemsBack :
    let e : Enc := { enc0 with items := [([1, 2, 3], 0), ([], 0)], seq := 65535, restart := true }
    upState.encNtscf 23 = false ∧ e.items.length < 65536 ∧ (∀ i ∈ e.items, i.1.length < 65536) ∧
      (parseGlove (upState.gloveOctets 23 e ++ [0, 0])).isSome = true := by decide +kernel

theorem wit_CipherJobsRun :
    (ringState 7 0).writable (R.CPH_RING_PUT 7) ∧ (ringState 7 0).writable (R.CPH_RING_CTRL 7) ∧
      (∀ op ∈ [0, 1, 2, 3, 4, 5, 6, 7, 15], (ringState 7 op).nextJob 7 = some 0 ∧ bits ((ringState 7 op).jobWord 7 0 0) 0 4 = op ∧
        ((ringState 7 op).pickPair none).2.isSome = true ∧ (ringState 7 op).isDue 32 = true) ∧
      ((ringState 7 15).runJob 7 0).badAddr = false ∧ ((ringState 7 6).runJob 7 0).status = 6 ∧
      ((ringState 7 5).runJob 7 0).status = 2 ∧ ((ringState 7 0).eraseKey 5 |>.key 5).loaded = false ∧
      (let j : Job := ⟨7, 0, 5, 1, 3, false, false, 0, [], none⟩
       let s := (ringState 7 0).setCph { (ringState 7 0).cph with jobs := [j] }
       let t := (ringState 7 0).setCph { (ringState 7 0).cph with jobs := [{ j with rerun := true }] }
       s.alive = true ∧ s.cph.aborting = [] ∧ s.ringJobs 7 ≠ [] ∧ (ringState 7 0).ringJobs 7 = [] ∧
       (s.ringJobs 7).find? (fun j => !j.ready) = some j ∧ (s.pickPair (some j.pair)).2.isSome = true ∧
       (t.ringJobs 7).find? (fun j => !j.ready) = some { j with rerun := true }) := by
  unfold State.writable; decide +kernel

theorem wit_KeysStayInside :
    let s := (ringState 7 0).dispatchJob 7 [0]
    let t := s.eraseKey 5
    s.writable R.CPH_KS_ERASE ∧ s.writable R.CPH_KS_SEL ∧ s.writable R.CPH_CTRL ∧ s.writable (R.CPH_MS_CTRL 15) ∧
      (s.key 5).loaded = true ∧ s.bound 5 (s.key 5).gen = true ∧ (upState.eraseKey 5).bound 5 1 = false ∧ (ringState 7 0).bound 5 1 = false ∧
      t.cph.old ≠ [] ∧ (∀ o ∈ t.cph.old, t.bound o.slot o.gen = true) ∧
      t.cph.old.filter (fun o : OldKey => o.slot == 5 && !(t.setCph { t.cph with jobs := [] }).bound o.slot o.gen) ≠ [] ∧
      (s.key 5).gen < 65536 ∧ (s.key 5).mode < 256 ∧ (ringState 7 0).cph.jobs = [] ∧
      s.rd (F.CPH_MS_CTRL_TX_AN 15) = 0 ∧ s.txReady 15 0 = false := by
  unfold State.writable; decide +kernel

theorem wit_PairLinkRuns :
    let k := { upState with cph := { upState.cph with keys := sput key0 0 ⟨true, 0x7F, List.replicate 16 0, 1⟩ [] },
                            clk := { upState.clk with now := 200000 } }
    let e := k.wr F.QLB_CTRL_EN 1
    let o := e.wr F.CPH_QLINK_EN 0
    let a := e.wr F.QLB_LANES_ALIGNED 1
    let b := o.wr F.QLB_LANES_ALIGNED 1
    let d := b.wr F.QLB_STATUS_LINK_UP 1
    let h := d.setQlb { d.qlb with held := [⟨65535, 3, .restartReq⟩], ackAt := 190000, goodAt := 100000 }
    e.alive = true ∧ e.on F.QLB_CTRL_EN = true ∧ e.on F.QLB_LANES_ALIGNED = false ∧ e.on F.CPH_QLINK_EN = true ∧
      e.rd F.CPH_QLINK_SLOT = 0 ∧ e.keyFor 0 6 = true ∧ (e.eraseKey 0).keyFor 0 6 = false ∧ o.on F.CPH_QLINK_EN = false ∧
      a.linkHears = true ∧ a.qlb.key = none ∧ e.linkHears = false ∧ a.linkIsUp = false ∧ a.linkKeyed = false ∧ b.forwarding = true ∧
      b.linkHears = true ∧ b.linkKeyed = true ∧ d.linkIsUp = true ∧ d.qlb.nakAt = none ∧ h.qlb.held ≠ [] ∧
      h.qlb.ackAt + 10000 ≤ h.clk.now ∧ h.qlb.goodAt + h.linkTimeout ≤ h.clk.now ∧
      (d.setQlb { d.qlb with goodAt := 100001 }).clk.now < 100001 + d.linkTimeout ∧
      (b.wr F.QLB_PROBE_PROBE_PORTS 1).rd F.QLB_PROBE_PROBE_PORTS ≠ 0 ∧ (b.wr F.CPH_QLINK_PROTECTED 1).on F.CPH_QLINK_PROTECTED = true ∧
      b.on F.CPH_QLINK_PROTECTED = false := by decide +kernel

theorem wit_RolesAndDutyMove :
    let k := { upState with clk := { upState.clk with now := 100000000 }, boot := { upState.boot with forwardAt := some 0 } }
    let e := ((k.wr F.QLB_CTRL_EN 1).wr F.QLB_LANES_ALIGNED 1).wr F.CPH_QLINK_EN 0
    let h : Heartbeat := ⟨false, true, false, false, false, 1, 0, 0, false, 0, 0, 0, 0, 0, 0, 0, 0⟩
    let d := e.setQlb { e.qlb with peerEpoch := some 0 }
    let f := (d.wr F.QLB_STATUS_ROLE 1).wr F.QLB_STATUS_FORMING 1
    let u := ((e.wr F.QLB_STATUS_LINK_UP 1).wr F.QLB_STATUS_MIRRORING 1).wr F.QLB_STATUS_ROLE 0
    let l := e.wr F.QLB_STATUS_ROLE 1
    e.alive = true ∧ d.linkHears = true ∧ d.linkKeyed = true ∧ e.qlb.peerEpoch = none ∧ d.qlb.peerEpoch.isSome = true ∧
      ((d.wr F.QLB_STATUS_DUTY 1).wr F.QLB_STATUS_UNIT 1).duty = true ∧ (d.wr F.QLB_STATUS_UNIT 1).unitB = true ∧ h.duty = true ∧
      (d.setQlb { d.qlb with hbTxAt := none }).forwarding = true ∧ f.role = 1 ∧ f.forming = true ∧ f.hbAgrees h = true ∧ f.unitB = false ∧ (f.wr F.QLB_STATUS_ROLE 2).role = 2 ∧
      (f.wr F.QLB_STATUS_ROLE 0).role = 0 ∧ l.forwarding = true ∧ l.linkIsUp = false ∧ l.qlb.lost = false ∧ l.forming = false ∧
      l.role ≠ 2 ∧ l.qlb.kaAt = none ∧ l.qlb.downAt + l.probeWait ≤ l.clk.now ∧ f.boot.forwardAt = some 0 ∧
      0 + f.formWaitNs ≤ f.clk.now ∧ f.partnerPresent = false ∧
      (f.setQlb { f.qlb with hbAt := some 100000000 }).partnerPresent = true ∧
      f.writable R.QLB_RESTART ∧ f.writable R.QLB_HANDOVER ∧
      (u.linkTaken 3).on F.QLB_CTRL_ACCEPT_RESTART = true ∧ (u.linkTaken 3).duty = false ∧ (u.linkTaken 3).mirroring = true ∧
      ((u.wr F.QLB_STATUS_ROLE 1).linkTaken 3).role = 1 ∧ u.role = 0 ∧ u.qlb.handover = none ∧ u.mirroring = true ∧
      ((u.setQlb { u.qlb with handover := some ⟨96, false, false, false⟩ }).linkTaken 3).qlb.handover = some ⟨96, false, false, false⟩ ∧
      ((u.wr F.QLB_CTRL_ACCEPT_RESTART 0).linkTaken 3).on F.QLB_CTRL_ACCEPT_RESTART = false := by
  unfold State.writable; decide +kernel

theorem wit_MirrorMessagesApply :
    let s := upState.wr F.QLB_STATUS_LINK_UP 1
    let m := s.wr F.QLB_STATUS_MIRRORING 1
    let h : Heartbeat := ⟨false, true, false, false, false, 1, 0, 0, false, 0, 0, 0, 0, 0, 0, 0, 0⟩
    let v := (s.setQlb { s.qlb with hb := some h }).linkTaken 3
    let r := upState.setRegN (R.CAN_FQ_CFG 15 2) 0x4000
    s.alive = true ∧ upState.linkIsUp = false ∧ s.linkIsUp = true ∧ (m.linkTaken 3).mirroring = true ∧ (s.linkTaken 3).mirroring = false ∧
      (s.linkTaken 3).qlb.hb = none ∧ ((s.wr F.QLB_STATUS_DUTY 1).linkTaken 3).duty = true ∧ v.duty = false ∧ v.qlb.hb = some h ∧
      v.hbAgrees h = true ∧ s.qlb.mirrorSync = false ∧ r.fqOwner 15 2 = 0 ∧
      s.ringSize 15 2 < s.ringFill 15 2 + 0x10000 ∧ s.canTb 15 2 = none ∧ s.serOwner 7 = 0 ∧ (s.serC 7).txFill + 2048 ≤ 2048 ∧
      (s.wr F.CPH_LEASE_HOME 0).isHome = false ∧
      s.qlb.waiting.filter (fun w => w.vc == 3 && decide (w.since + 100000 < s.clk.now)) = [] := by decide +kernel

theorem wit_BridgeServesBothUnits :
    let s := ((upState.wr F.QLB_CTRL_EN 1).wr F.QLB_LANES_ALIGNED 1).wr F.QLB_STATUS_LINK_UP 1
    let q (tag kind data : Nat) : State := s.setQlb { s.qlb with open_ := [⟨tag, kind, 7, 4, 0, data, 0, false, false⟩] }
    let l (t : State) : State := { t with clk := { t.clk with now := 100000 } }
    let n := { s with boot := { s.boot with step := 11 } }
    upState.alive = true ∧ upState.bridgeHears = false ∧ s.bridgeHears = true ∧ s.forwarding = true ∧ n.bridgeHears = true ∧
      n.forwarding = false ∧ sizeOk 3 = false ∧ sizeOk 4 = true ∧ inSram 0x101FFFFC 4 = true ∧ inSram 0x101FFFFD 4 = false ∧
      s.unitB = false ∧ ((s.linkTaken 0).regN R.QLB_SEM_HELD).testBit 31 = false ∧
      (((s.setHeld 31 true).linkTaken 0).regN R.QLB_SEM_HELD).testBit 31 = true ∧ (s.linkTaken 0).qlb.semPartner.contains 31 = false ∧
      upState.linkIsUp = false ∧ s.linkIsUp = true ∧
      (s.linkTaken 1).qlb.open_.find? (fun r => r.tag == 31 && r.kind == 1) = none ∧
      ((q 31 1 0).linkTaken 1).qlb.open_.find? (fun r => r.tag == 31 && r.kind == 1) = some ⟨31, 1, 7, 4, 0, 0, 0, false, false⟩ ∧
      ((q 31 3 0).linkTaken 1).qlb.open_.find? (fun r => r.tag == 31 && decide (3 ≤ r.kind)) = some ⟨31, 3, 7, 4, 0, 0, 0, false, false⟩ ∧
      ((q 63 2 0).linkTaken 1).qlb.open_.find? (fun r => r.tag == 63 && r.kind == 2) = some ⟨63, 2, 7, 4, 0, 0, 0, false, false⟩ ∧
      (q 31 3 1).qlb.open_.find? (fun r => r.tag == 31 && r.kind == 3 && r.data == 1) = some ⟨31, 3, 7, 4, 0, 1, 0, false, false⟩ ∧
      (q 31 3 1).clk.now < 0 + 1000 ∧ 0 + 1000 ≤ (l (q 31 3 1)).clk.now ∧
      (l (q 31 1 0)).rd F.QLB_BRIDGE_BRIDGE_TIMEOUT = 100 ∧ 0 + 100 * 1000 ≤ (l (q 31 1 0)).clk.now ∧
      s.engineActs 7 = true ∧ span 0x21300000 4 = .none ∧ (q 31 1 0).engineActs 7 = false ∧ region 0x101FFFFC = .sram ∧ span 0x101FFFFC 4 = .sram ∧ span 0x7FFFFFFC 4 = .partner ∧
      s.writesOpen 7 = false ∧ (q 63 2 0).writesOpen 7 = true ∧ (q 63 2 0).engineActs 7 = true ∧ s.ownShared 0x101FFFFC = false ∧
      sget none ({ s with eng := { s.eng with resv := sput none 7 (some 0x101FFFFC) s.eng.resv } }).eng.resv 7 = some 0x101FFFFC := by
  decide +kernel

theorem wit_SleepAndWake :
    let b := ({ upState with clk := { upState.clk with now := 100000000000000 }, boot := { upState.boot with forwardAt := some 0 } })
    let s := ((b.wr F.WAK_CTRL_EN 1).wr F.WAK_CTRL_CAN_KA_EN 0).wr F.QLB_STATUS_DUTY 1
    let k (v : Nat) : List Byte := List.replicate 12 2 ++ [0x88, 0xB5, 0x10, BitVec.ofNat 8 v] ++ List.replicate 44 0
    s.alive = true ∧ s.forwarding = true ∧ s.winding = false ∧ s.rd F.WAK_KA_KA_PERIOD ≠ 0 ∧ s.on F.WAK_CTRL_CAN_KA_EN = false ∧
      s.wak.kaAt + s.rd F.WAK_KA_KA_PERIOD * 1000000 ≤ s.clk.now ∧ s.kaq = [] ∧ fld (k 2) 15 1 ≠ 1 ∧ fld (k 1) 15 1 = 1 ∧
      ((s.wr F.QLB_STATUS_MIRRORING 1).hearPeer 5 1).mirroring = true ∧ s.writable R.WAK_NEED ∧ s.writable R.WAK_QUAR_CLEAR ∧
      s.agreement = 0 ∧ s.on F.WAK_CTRL_EN = true ∧ s.networkNeed = 0 ∧ s.rd F.WAK_HOLD_READY_HOLD ≠ 0 ∧ s.boot.forwardAt = some 0 ∧
      0 + s.rd F.WAK_CONFIRM_MIN_AWAKE * secondNs ≤ s.clk.now ∧ s.duty = true ∧ (s.wr F.WAK_STATUS_STATE 1).agreement = 1 ∧
      s.wak.stateAt + s.rd F.WAK_HOLD_READY_HOLD * 1000000 ≤ s.clk.now ∧ (s.wr F.WAK_STATUS_STATE 2).agreement = 2 ∧
      s.wak.stateAt + s.rd F.WAK_HOLD_PREPARE_TIME * 1000000 ≤ s.clk.now ∧ (s.setPower 2).power = 2 ∧ s.flt.bottling = none := by
  unfold State.writable; decide +kernel

theorem wit_SleepAndWake_sleep :
    let b := ({ upState with clk := { upState.clk with now := 100000000000000 }, boot := { upState.boot with forwardAt := some 0 } })
    let s := ((b.wr F.WAK_CTRL_EN 1).wr F.WAK_CTRL_CAN_KA_EN 0).wr F.QLB_STATUS_DUTY 1
    let z := { s with boot := { s.boot with step := 0 }, wak := { s.wak with armed := 2 ^ 19 + 2, sleepAt := 0 } }.setPower 3
    z.wak.armed.testBit 19 = true ∧ z.power = 3 ∧ z.dwellOver = true ∧ z.wak.want = none ∧ z.on F.WAK_CAUSE_LATCHED = false ∧
      z.agreement ≠ 2 ∧ z.flt.silent = false ∧ z.rd (F.WAK_C_CTRL_MODE 3) = 0 ∧ (z.wr (F.WAK_C_CTRL_MODE 3) 1).rd (F.WAK_C_CTRL_MODE 3) = 1 ∧
      (z.setWak { z.wak with oneOff := some 5 }).wak.oneOff = some 5 ∧ (z.setWak { z.wak with want := some 19 }).wak.want = some 19 ∧
      (z.setWak { z.wak with sleepAt := z.clk.now }).dwellOver = false ∧ z.wak.pwrAt + 1000000 ≤ z.clk.now ∧ z.wak.throttleAt + 1000000 ≤ z.clk.now ∧
      z.flt.crystalAt + 1000000000 ≤ z.clk.now ∧ z.wak.oneOff = none ∧ (z.wr F.WAK_TIMER_WAKE_TIMER 1).rd F.WAK_TIMER_WAKE_TIMER ≠ 0 ∧ z.rd (F.WAK_T_CTRL_MODE 7) = 0 ∧
      (z.wr (F.WAK_T_CTRL_MODE 7) 1).rd (F.WAK_T_CTRL_MODE 7) = 1 ∧ fcsOk [1, 2, 3] = false ∧ fcsOk ([1, 2, 3] ++ fcs [1, 2, 3]) = true ∧
      z.wak.sleepAt + 1 * secondNs ≤ z.clk.now ∧ (z.setPower 4).power = 4 ∧ z.wak.pwrAt + 100000000 ≤ z.clk.now ∧
      (s.wr F.WAK_FAILSAFE_FAILSAFE_TIME 1).rd F.WAK_FAILSAFE_FAILSAFE_TIME ≠ 0 ∧ s.boot.step ≠ 0 ∧
      (s.wr F.CFG_STATUS_STATE 6).rd F.CFG_STATUS_STATE = 6 ∧ (s.wr F.WAK_QUAR_QUAR_HOLD 1).rd F.WAK_QUAR_QUAR_HOLD ≠ 0 ∧
      (((s.setRegN R.WAK_QUAR_STATUS 0x80000000).regN R.WAK_QUAR_STATUS).testBit 31) = true ∧
      sget 0 s.wak.quarAt 31 + 1 * 3600 ≤ s.aonSeconds ∧ s.power = 0 ∧ s.on F.WAK_BO_THROTTLE = false ∧
      (s.wr F.WAK_BO_THROTTLE 1).on F.WAK_BO_THROTTLE = true ∧ (s.wr F.DEV_RESET_CAUSE_CAUSE 4).rd F.DEV_RESET_CAUSE_CAUSE = 4 ∧
      0 + s.rd F.WAK_CONFIRM_WAKE_CONFIRM * secondNs ≤ s.clk.now ∧ s.rd F.WAK_CAUSE_CAUSE ≠ 2 ∧
      (s.wr F.WAK_QUAR_QUAR_LIMIT 0).rd F.WAK_QUAR_QUAR_LIMIT = 0 ∧ s.wak.bottleAsked = false ∧
      s.wak.throttleAt + 10000000 < s.clk.now ∧ s.flt.throttleBottleAt = none ∧ s.on F.FLT_STATUS_CRYSTAL_LOST = false := by
  decide +kernel

theorem wit_EnginesReachTheDevice :
    let s := { upState with clk := { upState.clk with now := 10000000 } }
    let m := { s with eng := { s.eng with mailbox := sput [] 7 (List.replicate 16 [0, 0, 0, 0, 0]) [] } }
    let i := { s with boot := { s.boot with step := 9 } }
    let k := { s with boot := { s.boot with locked := true, scrub := [R.WAK_NEED, R.CPH_CTRL, R.CNT_HARVEST, R.SER_BAUD 7] } }
    s.writable (R.ENG_WD_KICK 7) ∧ s.engineActs 7 = true ∧ s.alive = true ∧ s.engineRuns 7 = true ∧
      sget 0 s.eng.wdAt 7 + s.wdPeriod 7 ≤ s.clk.now ∧ upState.clk.now < sget 0 upState.eng.wdAt 7 + upState.wdPeriod 7 ∧
      s.writable (R.ENG_MB_SEND 7) ∧ (sget [] s.eng.mailbox 7).length < 16 ∧ 16 ≤ (sget [] m.eng.mailbox 7).length ∧
      m.engineActs 7 = true ∧ (sget [] m.eng.mailbox 7).head? = some [0, 0, 0, 0, 0] ∧ s.writable (R.ENG_TXR_PUT 7) ∧
      (txState 14 0x10000000).txrNext = some 7 ∧ s.txrNext ≠ some 7 ∧ bits ((txState 13 0).descWord 0x101FFF80 1) 0 14 = 13 ∧
      inSram ((txState 14 0x101FFFF3).descWord 0x101FFF80 0) 14 = false ∧ inSram ((txState 14 0x10000000).descWord 0x101FFF80 0) 14 = true ∧
      i.engineActs 7 = false ∧ i.boot.step < 10 ∧ k.firmwareRuns = true ∧ i.firmwareRuns = false ∧ s.creditHeld 24 = false ∧ s.power ≠ 2 ∧ sizeOk 4 = true ∧ region 0x33FFFFFC = .flash ∧
      chainedLo 0 = false ∧ chainedLo C.FWD_DECISIONS_LO = true ∧ region R.WAK_NEED = .regs ∧ mapped 7 R.WAK_NEED = true ∧
      k.alive = true ∧ k.scrubLocked R.WAK_NEED = true ∧ k.scrubLocked R.CPH_CTRL = true ∧ k.scrubLocked R.CNT_HARVEST = true ∧ k.scrubLocked (R.SER_BAUD 7) = true ∧ mapped 7 0x212FFFFC = false ∧ region 0x212FFFFC = .regs ∧ s.scrubLocked R.WAK_NEED = false := by
  unfold State.writable; decide +kernel

theorem wit_FaultsCountersAndHarvest :
    let s := upState
    let q := { s with flt := { s.flt with silent := true } }
    let ev : Ev := s.event 0x0502 0 0 0 0 true
    let c := { s with fltq := [ev] }
    let r : Sweep := ⟨4294967295, true, 0, 0, 0, 0, 0, 0, 0, false, false, 0x10000000, [], 0, []⟩
    s.alive = true ∧ s.engineRuns 7 = true ∧ s.boot.step ≠ 0 ∧ 3 ≤ s.boot.step ∧ q.flt.silent = true ∧ q.flt.halted = false ∧
      q.alive = false ∧ q.rd F.FLT_STATUS_LAST_FS_CAUSE ≠ 10 ∧ q.flt.bottling = none ∧ q.flt.dbgStage = 0 ∧ c.fltq = [ev] ∧ c.recorded ev = true ∧
      c.recentRecord ev.code = false ∧ ev.cls < 2 ∧ s.engineActs 7 = true ∧ s.scrubLocked R.FLT_LOG_CMD = false ∧
      (s.beginBottling 2).flt.bottling.isSome = true ∧ s.flt.dbgStage = 0 ∧ s.otp.debugLock = false ∧
      (s.wr F.FLT_DBG_CTRL_ALLOW_OPEN 1).on F.FLT_DBG_CTRL_ALLOW_OPEN = true ∧
      (s.wr F.DEV_TEMP_MAX 0x8000).rd F.DEV_TEMP_MAX = 0x8000 ∧ s.forwarding = true ∧ s.rd F.CNT_HARVEST_PERIOD ≠ 0 ∧
      s.cnt.nextAt ≤ s.clk.now ∧ s.cnt.run = none ∧ s.writable R.CNT_HARVEST ∧ sweepBase 0x10000000 = true ∧
      sweepBase 0x101FFFC0 = false ∧ (s.setCnt { s.cnt with run := some r }).cnt.run = some r ∧ r.n < 2 ^ 32 ∧
      (s.cnt.retired + s.cnt.wasted + s.cnt.front + s.cnt.back) % 2 ^ 64 = s.cnt.total := by
  unfold State.writable; decide +kernel

end Sys2Proof.Tests
end

section
/-! SUPPORT. What a command's gate answers once its condition holds: the effect, and what follows from it. -/

namespace Sys2Proof.Machine

/-- A register write by firmware, with the register unlocked, has its effect. -/
theorem finish_regLive {s : State} {a : Nat} (h : s.writable a) (f : State → State) :
    finish (s.regLive a f) = .next (settle (f s)) := by
  rw [regLive_of_writable h, finish_eq]

/-- An effect of the core takes place in a unit that is alive. -/
theorem finish_live {s : State} (h : s.alive = true) (f : State → State) : finish (s.live f) = .next (settle (f s)) := by
  rw [live_of_alive h, finish_eq]

/-- A register write by an engine that acts, with the register unlocked, has its effect. -/
theorem finish_regEng {s : State} {e a : Nat} (h : s.engineActs e = true) (hl : s.scrubLocked a = false) (f : State → State) :
    finish (s.regEng e a f) = .next (settle (f s)) := by
  rw [regEng_of_acts h hl, finish_eq]

end Sys2Proof.Machine
end

section
/-! PROOF. Table writes by FWD_COMMIT, and the scrub of the TCAM. -/

namespace Sys2Proof.Machine

theorem exec_tableWrite {s : State} (h : s.writable R.FWD_COMMIT) (v : Word) :
    exec (.tableWrite v) s = .next (settle (s.fwdTableWrite v.toNat)) := finish_regLive h _

theorem exec_tcamScrub {s : State} (h : s.alive = true) (i : Fin 4096) (upset bad : Bool) :
    exec (.tcamScrub i upset bad) s = .next (settle (s.tcamScrub i upset bad)) := finish_live h _

/-- A shadow that cannot be corrected makes the unit fail-silent, whatever the slice holds. -/
theorem tcamScrub_uncorrectable (s : State) (i : Nat) (upset : Bool) : s.tcamScrub i upset true = s.failSilent 5 i := rfl

/-- A slice that equals its shadow stays. -/
theorem tcamScrub_clean {s : State} {i : Nat} (h : sget 0 s.fwd.tcamBad i = 0) : s.tcamScrub i false false = s := by
  simp [State.tcamScrub, h]

/-- A slice that differs from its shadow is restored, counted and reported. -/
theorem tcamScrub_upset {s : State} {i : Nat} {upset : Bool} (h : upset = true ∨ sget 0 s.fwd.tcamBad i ≠ 0) :
    s.tcamScrub i upset false =
      ((({ s with fwd := { s.fwd with tcamBad := sput 0 i 0 s.fwd.tcamBad } }).inc C.FWD_TCAM_FIX).raise 0x0505 0).detect 4
        (i / 256) := by
  have hn : ¬(sget 0 s.fwd.tcamBad i = 0 ∧ ¬ upset = true) := by tauto
  simp only [State.tcamScrub, Bool.false_eq_true, if_false, if_neg hn]

/-- A slice whose array does not differ from its shadow reads as its entry's words. -/
theorem slice_of_clean {s : State} {i : Nat} (h : sget 0 s.fwd.tcamBad i = 0) :
    s.slice i = (s.tw 3 i 0 + s.tw 3 i 1 * 2 ^ 32 + (s.tw 3 i 2 % 65536) * 2 ^ 64,
      s.tw 3 i 3 + s.tw 3 i 4 * 2 ^ 32 + (s.tw 3 i 5 % 65536) * 2 ^ 64, s.tw 3 i 6) := by
  simp [State.slice, h]

/-- An OP other than 0 is none of TABLE_WRITE's. -/
theorem fwdTableWrite_op {s : State} {v : Nat} (h : bits v 26 2 ≠ 0) : s.fwdTableWrite v = s := by
  simp [State.fwdTableWrite, h]

section
variable {v : Nat} (s : State) (hop : bits v 26 2 = 0)
include hop

/-- TABLE 1 names the VLAN table. -/
theorem fwdTableWrite_vlan (ht : bits v 28 4 = 1) :
    s.fwdTableWrite v = (s.setEntry 1 (bits v 0 12) (s.staged R.FWD_STAGE0 3)).setRegN R.FWD_COMMIT_STATUS 0 := by
  simp [State.fwdTableWrite, hop, ht]

/-- TABLE 3 names the TCAM, whose slice then equals its shadow. -/
theorem fwdTableWrite_tcam (ht : bits v 28 4 = 3) :
    s.fwdTableWrite v = (({ s with fwd := { s.fwd with tcamBad := sput 0 (bits v 0 12) 0 s.fwd.tcamBad } }).setEntry 3 (bits v 0 12)
      (s.staged R.FWD_STAGE0 7)).setRegN R.FWD_COMMIT_STATUS 0 := by
  dsimp only [State.fwdTableWrite]
  rw [if_neg (not_not.mpr hop), if_neg (by omega), if_pos ht]
  rfl

/-- TABLE 4 names the next hops, of which there are 1024. -/
theorem fwdTableWrite_nextHop (ht : bits v 28 4 = 4) :
    s.fwdTableWrite v = (s.setEntry 4 (bits v 0 12 % 1024) (s.staged R.FWD_STAGE0 5)).setRegN R.FWD_COMMIT_STATUS 0 := by
  simp [State.fwdTableWrite, hop, ht]

omit hop in
/-- No other TABLE is one of TABLE_WRITE's. -/
theorem fwdTableWrite_other (h1 : bits v 28 4 ≠ 1) (h3 : bits v 28 4 ≠ 3) (h4 : bits v 28 4 ≠ 4) : s.fwdTableWrite v = s := by
  simp [State.fwdTableWrite, h1, h3, h4]

end

/-- Settles O32, by the case of TABLE and OP, and by whether the slice differs from its shadow. -/
theorem tablesAndScrub : Obligations.TablesAndScrub := by
  intro s
  refine ⟨fun v hw => ?_, fun t i j w hi hj hij => entry_setEntry_ne s (by omega) w, fun ha i => ?_⟩
  · simp only [exec_tableWrite hw]
    refine ⟨fun ht hop => ?_, fun ht hop => ?_, fun ht hop => ?_, fun h => ?_⟩
    · rw [fwdTableWrite_vlan s hop ht]
    · rw [fwdTableWrite_tcam s hop ht]
    · rw [fwdTableWrite_nextHop s hop ht]
    · rcases h with ⟨h1, h3, h4⟩ | hop
      · rw [fwdTableWrite_other s h1 h3 h4]
      · rw [fwdTableWrite_op hop]
  · simp only [exec_tcamScrub ha]
    refine ⟨fun h => by rw [tcamScrub_clean h], fun upset h => ?_, fun upset => by rw [tcamScrub_uncorrectable]⟩
    exact ⟨by rw [tcamScrub_upset h], slice_of_clean (sget_sput_same ..)⟩

end Sys2Proof.Machine
end

section
/-! PROOF. The commands of stream channels: commits, captures, the reset of the recovery and the latency monitors. -/

namespace Sys2Proof.Machine

theorem exec_sctCommit {s : State} (h : s.writable R.SCT_COMMIT) (v : Word) :
    exec (.sctCommit v) s = .next (settle (s.sctCommit v.toNat)) := finish_regLive h _

theorem exec_sctStateSel {s : State} (h : s.writable R.SCT_STATE_SEL) (v : Word) :
    exec (.sctStateSel v) s = .next (settle (s.sctStateSel v.toNat)) := finish_regLive h _

theorem exec_rcvReset {s : State} (ha : s.alive = true) (h : Fin 512) :
    exec (.rcvReset h) s = .next (settle (s.rcvReset h)) := finish_live ha _

theorem exec_latencyClear {s : State} {m : Fin 16} (h : s.writable (R.SCT_LAT_THRESH m)) (v : Word) :
    exec (.latencyClear m v) s = .next (settle (s.latencyClear m v.toNat)) := finish_regLive h _

@[simp] theorem dyn_setDyn_same (s : State) (h : Nat) (d : ScDyn) : (s.setDyn h d).dyn h = d := sget_sput_same ..

/-- The entry that a commit to channel `h` leaves. -/
def State.sctEntered (s : State) (h : Nat) : State := s.setEntry 5 h (s.staged R.SCT_STAGE0 8)

/-- A channel that becomes valid, or a valid one committed with RESET_STATE, starts anew (R242). -/
theorem sctCommit_init {s : State} {v : Nat} (hv : (s.sctEntered (bits v 0 9)).scf (bits v 0 9) 0 0 1 = 1)
    (h : s.scf (bits v 0 9) 0 0 1 ≠ 1 ∨ v.testBit 31 = true) :
    s.sctCommit v = (s.sctEntered (bits v 0 9)).dynInit (bits v 0 9) := by
  refine if_pos ⟨hv, ?_⟩
  simpa using h

/-- Any other commit leaves the channel's dynamic state as it is. -/
theorem sctCommit_keep {s : State} {v : Nat}
    (h : (s.sctEntered (bits v 0 9)).scf (bits v 0 9) 0 0 1 ≠ 1 ∨ (s.scf (bits v 0 9) 0 0 1 = 1 ∧ v.testBit 31 = false)) :
    s.sctCommit v = s.sctEntered (bits v 0 9) := by
  refine if_neg fun ⟨hv, hn⟩ => ?_
  rcases h with h | ⟨hw, hb⟩
  · exact h hv
  · simp [hw, hb] at hn

/-- A channel without an accepted frame for RESET_MS forgets its history (R263). -/
theorem rcvReset_due {s : State} {h : Nat} (hv : s.scf h 0 0 1 = 1) (hr : s.scf h 5 2 2 = 1 ∨ s.scf h 5 2 2 = 2)
    (hm : s.scf h 5 12 12 ≠ 0) (ht : (s.dyn h).takeAny = false)
    (hn : (s.dyn h).acceptAt + s.scf h 5 12 12 * 1000000 ≤ s.clk.now) :
    s.rcvReset h = ((s.setDyn h { s.dyn h with takeAny := true, hist := 0 }).inc C.SCT_RCV_RESETS).raise 0x0602 h :=
  if_pos ⟨hv, hr, hm, by simp [ht], hn⟩

/-- Without a cause to reset the recovery stays. -/
theorem rcvReset_none {s : State} {h : Nat} (hc : s.scf h 0 0 1 ≠ 1 ∨ s.scf h 5 12 12 = 0 ∨ (s.dyn h).takeAny = true ∨
    s.clk.now < (s.dyn h).acceptAt + s.scf h 5 12 12 * 1000000) : s.rcvReset h = s := by
  refine if_neg fun ⟨hv, _, hm, ht, hn⟩ => ?_
  rcases hc with hc | hc | hc | hc
  · exact hc hv
  · exact hm hc
  · exact ht hc
  · omega

theorem latencyClear_threshold {s : State} {m v : Nat} (h : v.testBit 31 = false) :
    s.latencyClear m v = s.wr (F.SCT_LAT_THRESH_THRESH m) v := by
  simp [State.latencyClear, h]

/-- The monitor's registers after CLEAR, and what it leaves. -/
theorem latencyClear_clear {s : State} {m v : Nat} (h : v.testBit 31 = true) :
    let u := s.latencyClear m v
    u.regN (R.SCT_LAT_MIN m) = 0xFFFFFFFF ∧ u.regN (R.SCT_LAT_MAX m) = 0 ∧
      u.pair (R.SCT_LAT_SUM_LO m) (R.SCT_LAT_SUM_HI m) = 0 ∧ u.regN (R.SCT_LAT_COUNT m) = 0 ∧
      u.regN (R.SCT_LAT_OVER m) = 0 ∧ u.tables = s.tables ∧ u.mem = s.mem := by
  simp [State.latencyClear, h, State.pair, State.setPair, regN_setRegN_ne]

/-- Settles O33, by the cases of each command. -/
theorem channelsAndMonitors : Obligations.ChannelsAndMonitors := by
  intro s
  refine ⟨fun v hw => ?_, fun v hw => ?_, fun h ha hv hr hm ht hn => ?_, fun h ha hc => ?_, fun m v hw => ?_⟩
  · rw [exec_sctCommit hw]
    refine ⟨fun hv h => ⟨by rw [sctCommit_init hv h]; rfl, ?_⟩, fun h => ⟨by rw [sctCommit_keep h]; rfl, rfl⟩⟩
    simp [State.dynInit]
  · rw [exec_sctStateSel hw]; rfl
  · rw [exec_rcvReset ha, rcvReset_due hv hr hm ht hn]
  · rw [exec_rcvReset ha, rcvReset_none hc]
  · rw [exec_latencyClear hw]
    exact ⟨fun h => by rw [latencyClear_threshold h], fun h => ⟨_, rfl, latencyClear_clear h⟩⟩

end Sys2Proof.Machine
end

section
/-! PROOF. Gate control lists: commits of headers and entries, the events of a list, its change instant and its state as shown. -/

namespace Sys2Proof.Machine

theorem exec_listHeaderCommit {s : State} (h : s.writable R.EGS_COMMIT) (n : Fin 256) :
    exec (.listHeaderCommit n) s = .next (settle (s.listHeaderCommit n)) := finish_regLive h _

theorem exec_gateEntryCommit {s : State} (h : s.writable R.EGS_COMMIT) (i : Fin 4096) :
    exec (.gateEntryCommit i) s = .next (settle (s.gateEntryCommit i)) := finish_regLive h _

theorem exec_egsListSel {s : State} (h : s.writable R.EGS_LIST_SEL) (v : Word) :
    exec (.egsListSel v) s = .next (settle (s.egsListSel v.toNat)) := finish_regLive h _

theorem exec_gateEvent {s : State} (h : s.alive = true) (n : Fin 256) :
    exec (.gateEvent n) s = .next (settle (s.gateEvent n)) := finish_live h _

theorem exec_changeInstant {s : State} (h : s.alive = true) (n : Fin 256) :
    exec (.changeInstant n) s = .next (settle (s.changeInstant n)) := finish_live h _

@[simp] theorem glist_setGlist_same (s : State) (n : Nat) (l : GList) : (s.setGlist n l).glist n = l := sget_sput_same ..

@[simp] theorem glist_wr (s : State) (f : Fld) (v n : Nat) : (s.wr f v).glist n = s.glist n := rfl

-- what sets a list's next event leaves the rest of it

theorem setNext_eq (s : State) (l : GList) : ∃ e, s.setNext l = { l with next := e } := ⟨_, rfl⟩

theorem setNextOf_eq (s : State) (l : GList) : ∃ e, s.setNextOf l = { l with next := e } := by
  unfold State.setNextOf
  split
  · exact setNext_eq s l
  · split
    · exact ⟨_, rfl⟩
    · exact ⟨l.next, rfl⟩

theorem entryCommitted_eq (s : State) (l : GList) : ∃ e, s.entryCommitted l = { l with next := e } := by
  unfold State.entryCommitted
  split
  · exact setNext_eq s l
  · exact ⟨l.next, rfl⟩

-- commits of headers

/-- The state in which an accepted header acts: its words are in the table. -/
def State.headerEntered (s : State) (n : Nat) : State := { s.setEntry 6 n (s.staged R.EGS_STAGE0 6) with egsLast := none }

/-- A running list with an accepted header waiting for its change instant (R334). -/
def State.changePending (s : State) (n : Nat) : GList :=
  let w := s.staged R.EGS_STAGE0 6
  let u := s.headerEntered n
  u.setNextOf { s.glist n with
    pending := some w, cycNew := u.cycleTime w, changeT := firstAt (hdrBase w) (u.cycleTime w) (s.wtNs + 1000) }

/-- A header that Table 8-1 rejects is only reported. -/
theorem listHeaderCommit_rejected {s : State} (n : Nat) (h : hdrRejected (s.staged R.EGS_STAGE0 6) = true) :
    s.listHeaderCommit n = { (s.wr F.EGS_COMMIT_STATUS_RESULT 2).raise 0x0802 n with egsLast := none } := if_pos h

section
variable {s : State} (n : Nat) (hr : hdrRejected (s.staged R.EGS_STAGE0 6) = false)
include hr

/-- A header with VALID 0 stops its list at once (R337). -/
theorem listHeaderCommit_stop (hv : hdrValid (s.staged R.EGS_STAGE0 6) = false) :
    s.listHeaderCommit n = ((s.headerEntered n).setGlist n glist0).wr F.EGS_COMMIT_STATUS_RESULT 0 := by
  dsimp only [State.listHeaderCommit]
  rw [if_neg (by simp [hr])]
  exact if_pos (by simp [hv])

/-- A header of a list that does not run starts it where it is named (R329). -/
theorem listHeaderCommit_start (hv : hdrValid (s.staged R.EGS_STAGE0 6) = true) (hl : (s.glist n).running = false) :
    s.listHeaderCommit n = ((s.headerEntered n).refreshList n).wr F.EGS_COMMIT_STATUS_RESULT 0 := by
  dsimp only [State.listHeaderCommit]
  rw [if_neg (by simp [hr]), if_neg (by simp [hv])]
  have hn : ¬ (s.glist n).running = true := by simp [hl]
  exact if_neg hn

/-- A header of a running list waits (R334). -/
theorem listHeaderCommit_wait (hv : hdrValid (s.staged R.EGS_STAGE0 6) = true) (hl : (s.glist n).running = true) :
    s.listHeaderCommit n =
      { ((s.headerEntered n).setGlist n (s.changePending n)).wr F.EGS_COMMIT_STATUS_RESULT 1 with egsLast := some n } := by
  dsimp only [State.listHeaderCommit]
  rw [if_neg (by simp [hr]), if_neg (by simp [hv])]
  exact if_pos hl

end

-- events of a list

/-- The change instant apart, a list goes on to a new cycle or to its next entry (R331). -/
theorem advanceList_eq {s : State} {l : GList} {t : Int} (h : l.pending = none ∨ t ≠ l.changeT) :
    s.advanceList l t = if l.init = true ∨ t = cycleEnd l then s.startCycle l t else s.nextEntry l t := by
  have hc : ¬(l.pending.isSome = true ∧ t = l.changeT) := by
    rcases h with h | h
    · simp [h]
    · exact fun hc => h hc.2
  rw [State.advanceList, if_neg hc]
  by_cases hi : l.init = true
  · simp [hi]
  · simp [hi]

/-- An event at or before WT, ahead of any change, advances the list. -/
theorem gateEvent_due {s : State} {n : Nat} {t : Int} (hr : (s.glist n).running = true) (hn : (s.glist n).next = some t)
    (ht : t ≤ s.wtNs) (hp : (s.glist n).pending = none ∨ t < (s.glist n).changeT) :
    s.gateEvent n = s.setGlist n (s.advanceList (s.glist n) t) := by
  have hc : ¬((s.glist n).pending.isSome = true ∧ (s.glist n).changeT ≤ t) := by
    rcases hp with hp | hp
    · simp [hp]
    · exact fun hc => by omega
  simp [State.gateEvent, hn, hr, ht, hc]

/-- A change instant that has come puts the new list in force (R334). -/
theorem changeInstant_due {s : State} {n : Nat} (hr : (s.glist n).running = true) (hp : (s.glist n).pending.isSome = true)
    (ht : (s.glist n).changeT ≤ s.wtNs) :
    s.changeInstant n = (s.setGlist n (s.changeList (s.glist n))).listChanged n := if_pos ⟨hr, hp, ht⟩

/-- The earliest instant of a schedule at or after `t` lies on its grid, and no earlier instant of the grid does (R334). -/
theorem firstAt_spec (base : Int) (c : Nat) (t : Int) :
    t ≤ firstAt base c t ∧ base ≤ firstAt base c t ∧
      (0 < c → ∃ k : Nat, firstAt base c t = base + k * c ∧ (0 < k → base + ((k : Int) - 1) * c < t)) := by
  by_cases hb : t ≤ base
  · rw [firstAt, if_pos hb]
    exact ⟨hb, le_refl _, fun _ => ⟨0, by simp, fun h => absurd h (lt_irrefl 0)⟩⟩
  by_cases hc : c = 0
  · rw [firstAt, if_neg hb, if_pos hc]
    exact ⟨le_refl _, by omega, fun h => absurd hc (by omega)⟩
  rw [firstAt, if_neg hb, if_neg hc]
  have hpos : (0 : Int) < c := by omega
  have hdiv := Int.emod_add_mul_ediv (t - base + c - 1) c
  have hlo := Int.emod_nonneg (t - base + c - 1) (by omega : (c : Int) ≠ 0)
  have hhi := Int.emod_lt_of_pos (t - base + c - 1) hpos
  have hq : 0 ≤ (t - base + c - 1) / (c : Int) := Int.ediv_nonneg (by omega) (by omega)
  obtain ⟨k, hk⟩ := Int.eq_ofNat_of_zero_le hq
  rw [hk] at hdiv ⊢
  have hmul : (c : Int) * k = k * c := mul_comm _ _
  have hnn : (0 : Int) ≤ k * c := by positivity
  refine ⟨by omega, by omega, fun _ => ⟨k, rfl, fun _ => ?_⟩⟩
  rw [sub_mul]
  omega

-- the state of a list as EGS_LIST_SEL shows it

theorem b2n_le_one (b : Bool) : b2n b ≤ 1 := by cases b <;> decide

theorem decide_b2n_eq_one (b : Bool) : decide (b2n b = 1) = b := by cases b <;> rfl

theorem gatesOf_lt (l : GList) : gatesOf l < 256 := by
  unfold gatesOf
  split
  · decide
  · split
    · exact bits_lt _ 16 8
    · split
      · decide
      · exact bits_lt _ 0 8

/-- The word of EGS_LIST_STATUS for a list. -/
def listStatus (l : GList) : Nat :=
  b2n l.running * 2 ^ 31 + b2n l.pending.isSome * 2 ^ 30 + gatesOf l * 2 ^ 16 + b2n (l.running && l.init) * 2 ^ 12 +
    (if l.running ∧ ¬ l.init then l.pos else 0)

/-- The fields of the status word do not run into RUNNING and PENDING. -/
theorem listStatus_below (l : GList) (h : l.pos < 4096) :
    ∃ low < 2 ^ 30, listStatus l = b2n l.running * 2 ^ 31 + b2n l.pending.isSome * 2 ^ 30 + low := by
  have hg := gatesOf_lt l
  have hi := b2n_le_one (l.running && l.init)
  refine ⟨gatesOf l * 2 ^ 16 + b2n (l.running && l.init) * 2 ^ 12 + (if l.running ∧ ¬ l.init then l.pos else 0), ?_, ?_⟩
  · split <;> omega
  · simp only [listStatus]; omega

theorem testBit_listStatus (l : GList) (h : l.pos < 4096) :
    (listStatus l % 2 ^ 32).testBit 31 = l.running ∧ (listStatus l % 2 ^ 32).testBit 30 = l.pending.isSome := by
  obtain ⟨low, hlow, he⟩ := listStatus_below l h
  have hr := b2n_le_one l.running
  have hp := b2n_le_one l.pending.isSome
  have h31 : listStatus l % 2 ^ 32 / 2 ^ 31 % 2 = b2n l.running := by omega
  have h30 : listStatus l % 2 ^ 32 / 2 ^ 30 % 2 = b2n l.pending.isSome := by omega
  rw [Nat.testBit_eq_decide_div_mod_eq, Nat.testBit_eq_decide_div_mod_eq, h31, h30, decide_b2n_eq_one, decide_b2n_eq_one]
  exact ⟨rfl, rfl⟩

/-- The change instant that EGS_LIST_CHANGE shows: 0 while nothing is pending. -/
def shownChange (l : GList) : Int := if l.pending.isSome then l.changeT else 0

theorem egsListSel_eq (s : State) (v : Nat) :
    s.egsListSel v =
      (((s.wr F.EGS_LIST_SEL_LIST (bits v 0 8)).setRegN R.EGS_LIST_STATUS (listStatus (s.glist (bits v 0 8)))).setRegN
        R.EGS_LIST_CHANGE_NS ((shownChange (s.glist (bits v 0 8)) % 1000000000).toNat)).setRegN R.EGS_LIST_CHANGE_S
          ((shownChange (s.glist (bits v 0 8)) / 1000000000).toNat) := rfl

/-- EGS_LIST_SEL shows the list that it names and changes none. -/
theorem egsListSel_shows (s : State) (v : Nat) (hpos : (s.glist (bits v 0 8)).pos < 4096) :
    let u := s.egsListSel v
    let l := s.glist (bits v 0 8)
    u.lists = s.lists ∧ u.rd F.EGS_LIST_SEL_LIST = bits v 0 8 ∧ (u.regN R.EGS_LIST_STATUS).testBit 31 = l.running ∧
      (u.regN R.EGS_LIST_STATUS).testBit 30 = l.pending.isSome ∧
      (l.pending = none → u.regN R.EGS_LIST_CHANGE_NS = 0 ∧ u.regN R.EGS_LIST_CHANGE_S = 0) := by
  dsimp only
  have hstatus : (s.egsListSel v).regN R.EGS_LIST_STATUS = listStatus (s.glist (bits v 0 8)) % 2 ^ 32 := by
    rw [egsListSel_eq, regN_setRegN_ne _ (by decide), regN_setRegN_ne _ (by decide), regN_setRegN_same]
  have hsel : (s.egsListSel v).rd F.EGS_LIST_SEL_LIST = bits v 0 8 := by
    rw [egsListSel_eq, rd_setRegN_ne _ (by decide), rd_setRegN_ne _ (by decide), rd_setRegN_ne _ (by decide),
      rd_wr_same _ _ (by decide), Nat.mod_eq_of_lt (bits_lt v 0 8)]
  obtain ⟨hrun, hpend⟩ := testBit_listStatus _ hpos
  rw [hstatus]
  refine ⟨rfl, hsel, hrun, hpend, fun hn => ?_⟩
  simp [egsListSel_eq, shownChange, hn, regN_setRegN_ne]

/-- Settles O40, by the case of each command: what Table 8-1 and VALID say of a header and whether its list runs, and whether an event
or a change is due. -/
theorem gateListsRun : Obligations.GateListsRun := by
  intro s
  refine ⟨fun n hw => ?_, fun i hw => ?_, fun l t h => advanceList_eq h, fun v hw hpos => ?_, fun n t ha hr hn ht hp => ?_,
    fun n ha hr hp ht => ?_, firstAt_spec⟩
  · rw [exec_listHeaderCommit hw]
    refine ⟨fun hr => ⟨by rw [listHeaderCommit_rejected _ hr], by simp⟩, fun hr hv => ⟨by rw [listHeaderCommit_stop _ hr hv]; rfl, ?_⟩,
      fun hr hv hl => by rw [listHeaderCommit_start _ hr hv hl]; rfl, fun hr hv hl => ?_⟩
    · rw [glist_wr, glist_setGlist_same]; rfl
    · refine ⟨s.changePending n, by rw [listHeaderCommit_wait _ hr hv hl]; rfl, ?_⟩
      obtain ⟨e, he⟩ := setNextOf_eq (s.headerEntered n) _
      rw [State.changePending, he]
      exact ⟨rfl, rfl, rfl, hl, rfl, rfl, rfl⟩
  · refine ⟨by rw [exec_gateEntryCommit hw]; rfl, fun w l => ?_⟩
    obtain ⟨e, he⟩ := entryCommitted_eq w l
    rw [he]
  · exact ⟨_, exec_egsListSel hw v, egsListSel_shows s v.toNat hpos⟩
  · rw [exec_gateEvent ha, gateEvent_due hr hn ht hp]
  · rw [exec_changeInstant ha, changeInstant_due hr hp ht]

end Sys2Proof.Machine
end

section
/-! PROOF. What a fail-silence leaves silent, through the halt, the stop of the outputs and the start of a bottling. -/

namespace Sys2Proof.Machine

/-- A fold of steps that leave a part as it is leaves it. -/
theorem foldl_frame {α β γ : Type} (g : α → γ) {f : α → β → α} (hf : ∀ a b, g (f a b) = g a) (l : List β) (a : α) :
    g (l.foldl f a) = g a :=
  List.foldlRecOn (motive := fun x => g x = g a) l f rfl fun x h b _ => (hf x b).trans h

@[simp] theorem haltEngines_flt (s : State) : s.haltEngines.flt = s.flt := rfl

@[simp] theorem setTxOn_flt (s : State) (v : Nat) : (s.setTxOn v).flt = s.flt := by
  unfold State.setTxOn
  refine foldl_frame State.flt (fun _ _ => ?_) _ _
  exact wr_flt ..

@[simp] theorem stopMacs_flt (s : State) : s.stopMacs.flt = s.flt := by
  unfold State.stopMacs
  dsimp only
  rw [setTxOn_flt]

@[simp] theorem stopPulses_flt (s : State) : s.stopPulses.flt = s.flt := rfl

@[simp] theorem stopChannels_flt (s : State) : s.stopChannels.flt = s.flt := by
  unfold State.stopChannels
  refine (foldl_frame State.flt (fun _ _ => ?_) _ _).trans
    ((foldl_frame State.flt (fun _ _ => ?_) _ _).trans (foldl_frame State.flt (fun _ _ => ?_) _ _))
  · rw [wr_flt, wr_flt]
  · rw [wr_flt, wr_flt]
  · exact setRegN_flt ..

@[simp] theorem silenced_flt (s : State) : s.silenced.flt = s.flt := by
  rw [State.silenced, stopChannels_flt, stopPulses_flt, stopMacs_flt, haltEngines_flt]

/-- A record for the cellar leaves a unit silent or not. -/
theorem cellarRecord_silent (s : State) : s.cellarRecord.flt.silent = s.flt.silent := by
  unfold State.cellarRecord
  split
  · rfl
  · dsimp only
    split
    · rfl
    · split <;> rfl

theorem flushCellar_silent (s : State) : s.flushCellar.flt.silent = s.flt.silent :=
  foldl_frame (fun s => s.flt.silent) (fun s _ => cellarRecord_silent s) _ s

/-- A bottling that begins leaves a unit silent or not. -/
theorem beginBottling_silent (s : State) (reason : Nat) : (s.beginBottling reason).flt.silent = s.flt.silent := by
  unfold State.beginBottling
  split
  · split <;> rfl
  · dsimp only
    rw [wr_flt, erase_flt]
    exact flushCellar_silent s

/-- After a fail-silence the unit is silent (R664). -/
theorem failSilent_silent (s : State) (cause data : Nat) : (s.failSilent cause data).flt.silent = true := by
  unfold State.failSilent
  by_cases h : s.flt.silent = true
  · rw [if_pos h, raiseFull_flt, h]
  · rw [if_neg h]
    dsimp only
    split
    · rw [raiseFull_flt, inc_flt, silenced_flt, setRegN_flt, wr_flt]
    · rw [beginBottling_silent, raiseFull_flt, inc_flt, silenced_flt, setRegN_flt, wr_flt]

end Sys2Proof.Machine
end

section
/-! PROOF. The commands of the engines: watchdogs, timers, mailboxes, the rings of P24, the windows that an engine reads and its writes
to registers. -/

namespace Sys2Proof.Machine

-- watchdogs and timers

theorem exec_wdKick {s : State} {e : Fin 8} (ha : s.engineActs e = true) (hl : s.scrubLocked (R.ENG_WD_KICK e) = false) (v : Word) :
    exec (.wdKick e v) s = .next (settle (s.wdKick e v.toNat)) := finish_regEng ha hl _

theorem exec_watchdog (s : State) (e : Fin 8) : exec (.watchdog e) s = .next (settle (s.watchdog e)) := rfl

theorem exec_machineTimer {s : State} (ha : s.alive = true) (e : Fin 8) :
    exec (.machineTimer e) s = .next (settle (s.machineTimer e)) := finish_live ha _

theorem exec_mtimeLoRead (s : State) (e : Fin 8) : exec (.mtimeLoRead e) s = .next (settle (s.mtimeLoRead e)) := rfl

/-- The word 0x5A5A restarts the watchdog of an engine that acts (R639). -/
theorem wdKick_restart {s : State} {e v : Nat} (ha : s.engineActs e = true) (hv : v % 65536 = 0x5A5A) :
    s.wdKick e v = { s with eng := { s.eng with wdAt := sput 0 e s.clk.now s.eng.wdAt } } := if_pos ⟨ha, hv⟩

theorem wdKick_other {s : State} {e v : Nat} (hv : v % 65536 ≠ 0x5A5A) : s.wdKick e v = s := if_neg fun h => hv h.2

theorem watchdog_early {s : State} {e : Nat} (h : s.clk.now < sget 0 s.eng.wdAt e + s.wdPeriod e) : s.watchdog e = s :=
  if_neg fun ⟨_, _, _, hn⟩ => absurd hn (not_le.mpr h)

/-- The watchdog of an engine that runs expires once its period has passed. -/
theorem watchdog_due {s : State} {e : Nat} (ha : s.alive = true) (hb : 10 ≤ s.boot.step) (hr : s.engineRuns e = true)
    (hn : sget 0 s.eng.wdAt e + s.wdPeriod e ≤ s.clk.now) :
    s.watchdog e = ((s.inc (C.ENG_WD_EXPIRED e)).raise 0x1001 e).failSilent 7 e := if_pos ⟨ha, hb, hr, hn⟩

/-- The timer interrupt is pending from MTIMECMP on (R641). -/
theorem machineTimer_mtip (s : State) (e : Nat) : sget false (s.machineTimer e).eng.mtip e = decide (s.mtimecmp e ≤ s.mtime) :=
  sget_sput_same ..

theorem mtimeLoRead_acts {s : State} {e : Nat} (ha : s.engineActs e = true) :
    s.mtimeLoRead e = (s.latchHi e 255 (s.mtime / 2 ^ 32)).setRdata e (s.mtime % 2 ^ 32) := if_pos ha

-- mailboxes

theorem exec_mbSend {s : State} {e : Fin 8} (ha : s.engineActs e = true) (hl : s.scrubLocked (R.ENG_MB_SEND e) = false) (v : Word) :
    exec (.mbSend e v) s = .next (settle (s.mbSend e v.toNat)) := finish_regEng ha hl _

theorem exec_mailboxRead (s : State) (e : Fin 8) : exec (.mailboxRead e) s = .next (settle (s.mailboxRead e)) := rfl

/-- The message that engine `e` sends: its number and its four TXD words. -/
def State.mbMessage (s : State) (e : Nat) : List Word :=
  [BitVec.ofNat 32 e, s.reg (R.ENG_MB_TXD0 e), s.reg (R.ENG_MB_TXD1 e), s.reg (R.ENG_MB_TXD2 e), s.reg (R.ENG_MB_TXD3 e)]

/-- A message enters a mailbox that has room (R647). -/
theorem mbSend_room {s : State} {e v : Nat} (ha : s.engineActs e = true) (hq : (sget [] s.eng.mailbox (v % 8)).length < 16) :
    s.mbSend e v = { s with eng := { s.eng with
      mailbox := sput [] (v % 8) (sget [] s.eng.mailbox (v % 8) ++ [s.mbMessage e]) s.eng.mailbox } }.wr
        (F.ENG_MB_STATUS_RESULT e) 0 := by
  dsimp only [State.mbSend]
  rw [if_neg (not_not.mpr ha), if_pos hq]
  rfl

/-- A full mailbox turns the message away (R648). -/
theorem mbSend_full {s : State} {e v : Nat} (ha : s.engineActs e = true) (hq : 16 ≤ (sget [] s.eng.mailbox (v % 8)).length) :
    s.mbSend e v = (s.wr (F.ENG_MB_STATUS_RESULT e) 1).inc (C.ENG_MB_FULL e) := by
  dsimp only [State.mbSend]
  rw [if_neg (not_not.mpr ha), if_neg (not_lt.mpr hq)]

/-- ENG_IRQ_EN of an engine is not ENG_MB_STATUS of any. -/
theorem irqEn_ne_mbStatus (d e : Nat) : R.ENG_IRQ_EN d ≠ R.ENG_MB_STATUS e := by
  show 0x121000008 + d * 0x100000000 ≠ 0x121000064 + e * 0x100000000
  omega

/-- What a message that has entered shows to the sender and to the engine that it goes to. -/
theorem mbSend_room_spec {s : State} {e v : Nat} (ha : s.engineActs e = true) (hq : (sget [] s.eng.mailbox (v % 8)).length < 16) :
    let t := s.mbSend e v
    sget [] t.eng.mailbox (v % 8) = sget [] s.eng.mailbox (v % 8) ++ [s.mbMessage e] ∧
      (∀ k, k ≠ v % 8 → sget [] t.eng.mailbox k = sget [] s.eng.mailbox k) ∧ t.rd (F.ENG_MB_STATUS_RESULT e) = 0 ∧
      t.softwareInterrupt (v % 8) = (s.rd (F.ENG_IRQ_EN_EN (v % 8))).testBit 1 := by
  dsimp only
  rw [mbSend_room ha hq]
  have hbox : sget [] (sput [] (v % 8) (sget [] s.eng.mailbox (v % 8) ++ [s.mbMessage e]) s.eng.mailbox) (v % 8) =
    sget [] s.eng.mailbox (v % 8) ++ [s.mbMessage e] := sget_sput_same ..
  have hen : ∀ u : State, (u.wr (F.ENG_MB_STATUS_RESULT e) 0).rd (F.ENG_IRQ_EN_EN (v % 8)) = u.rd (F.ENG_IRQ_EN_EN (v % 8)) :=
    fun u => rd_setRegN_ne u (irqEn_ne_mbStatus (v % 8) e) _
  refine ⟨hbox, fun k hk => sget_sput_ne _ _ hk .., rd_wr_same _ (F.ENG_MB_STATUS_RESULT e) (show 0 + 1 ≤ 32 by decide) 0, ?_⟩
  have hne : (sget [] s.eng.mailbox (v % 8) ++ [s.mbMessage e]).isEmpty = false := by simp
  rw [State.softwareInterrupt, wr_eng, hen, hbox, hne]
  rfl

/-- Latching a queue's head writes registers only. -/
@[simp] theorem latchHead_eng (s : State) (head n : Nat) (e : Option (List Word)) : (s.latchHead head n e).eng = s.eng := by
  unfold State.latchHead
  refine foldl_frame State.eng (fun _ _ => ?_) _ _
  exact setReg_eng ..

@[simp] theorem latchHead_mem (s : State) (head n : Nat) (e : Option (List Word)) : (s.latchHead head n e).mem = s.mem := by
  unfold State.latchHead
  refine foldl_frame State.mem (fun _ _ => ?_) _ _
  exact setReg_mem ..

@[simp] theorem setRdata_mailbox (s : State) (e v : Nat) : (s.setRdata e v).eng.mailbox = s.eng.mailbox := rfl

/-- A read takes the oldest message (R649). -/
theorem mailboxRead_takes {s : State} {e : Nat} {m : List Word} {r : List (List Word)} (ha : s.engineActs e = true)
    (hq : sget [] s.eng.mailbox e = m :: r) :
    sget [] (s.mailboxRead e).eng.mailbox e = r ∧ (s.mailboxRead e).mem = s.mem := by
  dsimp only [State.mailboxRead]
  rw [if_neg (not_not.mpr ha), hq]
  dsimp only
  rw [setRdata_mailbox, setRdata_mem, latchHead_eng, latchHead_mem]
  exact ⟨sget_sput_same .., rfl⟩

-- the rings of P24

theorem exec_txrPut {s : State} {e : Fin 8} (h : s.writable (R.ENG_TXR_PUT e)) (v : Word) :
    exec (.txrPut e v) s = .next (settle (s.wr (F.ENG_TXR_PUT_PUT e) v.toNat)) := finish_regLive h _

theorem exec_txDescriptor {s : State} (ha : s.alive = true) (e : Fin 8) :
    exec (.txDescriptor e) s = .next (settle (s.txDescriptor e)) := finish_live ha _

theorem exec_rxrFrame {s : State} (ha : s.alive = true) : exec .rxrFrame s = .next (settle s.rxrFrame) := finish_live ha _

/-- The descriptor that a transmit ring serves next, and the length of its frame. -/
def State.txrAt (s : State) (e : Nat) : Nat := s.regN (R.ENG_TXR_BASE e) + (s.rd (F.ENG_TXR_GET_GET e) % s.txrLen e) * 64
def State.descLen (s : State) (a : Nat) : Nat := bits (s.descWord a 1) 0 14

/-- A ring whose turn has not come, or without credit from the buffer, waits. -/
theorem txDescriptor_waits {s : State} {e : Nat} (h : s.txrNext ≠ some e ∨ s.creditHeld 24 = true) : s.txDescriptor e = s :=
  if_pos (Or.inr h)

section
variable {s : State} {e : Nat} (ha : s.alive = true) (hn : s.txrNext = some e) (hc : s.creditHeld 24 = false)
include ha hn hc

/-- On its turn a descriptor ends by its length and by where its data lies (R651). -/
theorem txDescriptor_turn :
    s.txDescriptor e =
      if s.descLen (s.txrAt e) < 14 ∨ 9212 < s.descLen (s.txrAt e) then s.txrEnd e (s.txrAt e) 1
      else if ¬ inSram (s.descWord (s.txrAt e) 0) (s.descLen (s.txrAt e)) then s.txrEnd e (s.txrAt e) 2
      else (s.feed 24 (s.descFrame (s.txrAt e) (s.descLen (s.txrAt e)))).txrEnd e (s.txrAt e) 0 := by
  have hg : ¬(¬ s.alive = true ∨ s.txrNext ≠ some e ∨ s.creditHeld 24 = true) := by simp [ha, hn, hc]
  exact if_neg hg

theorem txDescriptor_badLength (hl : s.descLen (s.txrAt e) < 14 ∨ 9212 < s.descLen (s.txrAt e)) :
    s.txDescriptor e = s.txrEnd e (s.txrAt e) 1 := by
  rw [txDescriptor_turn ha hn hc, if_pos hl]

theorem txDescriptor_outside (h1 : 14 ≤ s.descLen (s.txrAt e)) (h2 : s.descLen (s.txrAt e) ≤ 9212)
    (hd : inSram (s.descWord (s.txrAt e) 0) (s.descLen (s.txrAt e)) = false) :
    s.txDescriptor e = s.txrEnd e (s.txrAt e) 2 := by
  rw [txDescriptor_turn ha hn hc, if_neg (by omega), if_pos (by simp [hd])]

theorem txDescriptor_sent (h1 : 14 ≤ s.descLen (s.txrAt e)) (h2 : s.descLen (s.txrAt e) ≤ 9212)
    (hd : inSram (s.descWord (s.txrAt e) 0) (s.descLen (s.txrAt e)) = true) :
    s.txDescriptor e = (s.feed 24 (s.descFrame (s.txrAt e) (s.descLen (s.txrAt e)))).txrEnd e (s.txrAt e) 0 := by
  rw [txDescriptor_turn ha hn hc, if_neg (by omega), if_neg (by simp [hd])]

end

/-- The ring served next is the first that waits, from the turn on (R651). -/
theorem txrNext_eq_some_iff (s : State) (e : Nat) :
    s.txrNext = some e ↔ ∃ i, i < 8 ∧ e = (s.eng.turn + i) % 8 ∧ s.txrWaits e = true ∧
      ∀ j, j < i → s.txrWaits ((s.eng.turn + j) % 8) = false := by
  rw [State.txrNext, List.find?_map, Option.map_eq_some_iff]
  constructor
  · rintro ⟨i, hi, rfl⟩
    obtain ⟨hw, hm, hlt⟩ := List.find?_range_eq_some.mp hi
    exact ⟨i, List.mem_range.mp hm, rfl, hw, fun j hj => by simpa using hlt j hj⟩
  · rintro ⟨i, hi, rfl, hw, hlt⟩
    exact ⟨i, List.find?_range_eq_some.mpr ⟨hw, List.mem_range.mpr hi, fun j hj => by simpa using hlt j hj⟩, rfl⟩

/-- The ring of P24 to which a frame's class steers it, and the descriptor at its GET. -/
def State.rxrOf (s : State) (p : Pkt) : Nat := s.rd (F.ENG_P24_STEER_RING p.cls)
def State.rxrAt (s : State) (q : Nat) : Nat := s.regN (R.ENG_RXR_BASE q) + s.rd (F.ENG_RXR_GET_GET q) % s.rxrLen q * 32

/-- A receive ring offers no descriptor. -/
def State.rxrEmpty (s : State) (q : Nat) : Prop :=
  s.rxrLen q = 0 ∨ s.rd (F.ENG_RXR_GET_GET q) % s.rxrLen q = s.rd (F.ENG_RXR_PUT_PUT q) % s.rxrLen q

theorem rxrFrame_none {s : State} (h : s.out24 = []) : s.rxrFrame = s := by simp only [State.rxrFrame, h]

section
variable {s : State} {p : Pkt} {rest : List Pkt} (ha : s.alive = true) (hp : s.out24 = p :: rest)
include ha hp

/-- A received frame goes by its ring's descriptors and by the buffer at GET (R652, R653). -/
theorem rxrFrame_cases :
    let u := { s with out24 := rest }
    let q := s.rxrOf p
    let a := s.rxrAt q
    (s.rxrEmpty q → s.rxrFrame = (u.inc (C.ENG_RXR_NO_DESC q)).raiseOnce 0x1002 0) ∧
      (¬ s.rxrEmpty q → s.descLen a < p.data.length ∨ inSram (s.word a) p.data.length = false →
        s.rxrFrame = u.inc (C.ENG_RXR_TOOBIG q)) ∧
      (¬ s.rxrEmpty q → p.data.length ≤ s.descLen a → inSram (s.word a) p.data.length = true →
        s.rxrFrame = u.rxrStore q a p) := by
  simp only [State.rxrFrame, hp]
  rw [if_neg (not_not.mpr ha)]
  refine ⟨fun hr => if_pos hr, fun hr hb => (if_neg hr).trans (if_pos ?_), fun hr hl hb => (if_neg hr).trans (if_neg ?_)⟩
  · exact hb.imp_right ne_true_of_eq_false
  · rintro (h | h)
    · exact absurd h (not_lt.mpr hl)
    · exact h hb

end

end Sys2Proof.Machine
end

section
/-! PROOF. The accesses of an engine: the flash window, the chained counters and its writes to registers; the event router; and register
commands where the register is locked or no firmware runs. -/

namespace Sys2Proof.Machine

-- windows and counters

theorem exec_flashWindowRead (s : State) (e : Fin 8) (addr : Word) (size : Byte) :
    exec (.flashWindowRead e addr size) s = .next (settle (s.flashWindowRead e addr.toNat size.toNat)) := rfl

theorem exec_counterLoRead (s : State) (e : Fin 8) (addr : Word) :
    exec (.counterLoRead e addr) s = .next (settle (s.counterLoRead e addr.toNat)) := rfl

/-- An engine acts from step 10 on. -/
theorem released_of_engineActs {s : State} {e : Nat} (h : s.engineActs e = true) : 10 ≤ s.boot.step := by
  simp only [State.engineActs, State.released, Bool.and_eq_true, decide_eq_true_eq] at h
  exact h.1.1.2

/-- A load that waits, or is none of the flash window's, changes nothing. -/
theorem flashWindowRead_idle {s : State} {e addr size : Nat}
    (h : s.boot.step < 10 ∨ s.engineActs e = false ∨ sizeOk size = false ∨ region addr ≠ .flash) :
    s.flashWindowRead e addr size = s := by
  refine if_pos ?_
  rcases h with h | h | h | h
  · exact Or.inr (Or.inr (Or.inr h))
  · exact Or.inl (ne_true_of_eq_false h)
  · exact Or.inr (Or.inl (ne_true_of_eq_false h))
  · exact Or.inr (Or.inr (Or.inl h))

section
variable {s : State} {e addr size : Nat} (ha : s.engineActs e = true) (hs : sizeOk size = true) (hf : region addr = .flash)
include ha hs hf

/-- A load of an engine that acts answers by the shutdown, and by the end of the window (R636). -/
theorem flashWindowRead_acts :
    s.flashWindowRead e addr size =
      if s.power = 2 ∧ s.wak.stateAt + 180000000 ≤ s.clk.now then s.drawFree.2.busError e addr false (s.drawFree.1 % 8)
      else if 0x34000000 < addr + size then s.busError e addr false 1
      else s.setRdata e (leNat (getBytes s.windowByte (addr - 0x30000000) size)) := by
  refine if_neg ?_
  rintro (h | h | h | h)
  · exact h ha
  · exact h hs
  · exact h hf
  · exact absurd (released_of_engineActs ha) (not_le.mpr h)

theorem flashWindowRead_late (hp : s.power = 2) (ht : s.wak.stateAt + 180000000 ≤ s.clk.now) :
    s.flashWindowRead e addr size = s.drawFree.2.busError e addr false (s.drawFree.1 % 8) := by
  rw [flashWindowRead_acts ha hs hf, if_pos ⟨hp, ht⟩]

theorem flashWindowRead_beyond (hp : s.power ≠ 2 ∨ s.clk.now < s.wak.stateAt + 180000000) (hb : 0x34000000 < addr + size) :
    s.flashWindowRead e addr size = s.busError e addr false 1 := by
  rw [flashWindowRead_acts ha hs hf, if_neg (by omega), if_pos hb]

theorem flashWindowRead_bytes (hp : s.power ≠ 2 ∨ s.clk.now < s.wak.stateAt + 180000000) (hb : addr + size ≤ 0x34000000) :
    s.flashWindowRead e addr size = s.setRdata e (leNat (getBytes s.windowByte (addr - 0x30000000) size)) := by
  rw [flashWindowRead_acts ha hs hf, if_neg (by omega), if_neg (by omega)]

end

/-- Outside the persistent store the window shows the flash. -/
theorem windowByte_outside {s : State} {o : Nat} (h : o < 0x03090000 ∨ 0x030D0000 ≤ o) : s.windowByte o = sget 0xFF s.flash o :=
  if_neg (by omega)

/-- What a read of the LO half of a chained counter returns and latches (R699). -/
theorem counterLoRead_chained {s : State} {e a : Nat} (ha : s.engineActs e = true) (hc : chainedLo a = true) :
    let t := s.counterLoRead e a
    sget 0 t.eng.rdata e = s.reg a ∧ sget 0 t.eng.latch (e * 256 + a / 0x100000 % 256) = s.reg (a + 4) ∧ t.regs = s.regs := by
  have ht : s.counterLoRead e a = s.loRead e a := if_pos ⟨ha, hc⟩
  dsimp only
  rw [ht]
  exact ⟨(sget_sput_same ..).trans (BitVec.ofNat_toNat ..), (sget_sput_same ..).trans (BitVec.ofNat_toNat ..), rfl⟩

theorem counterLoRead_other {s : State} {e a : Nat} (hc : chainedLo a = false) : s.counterLoRead e a = s :=
  if_neg fun h => by simp [hc] at h

-- writes of an engine to registers

theorem exec_registerWrite (s : State) (e : Fin 8) (addr v : Word) :
    exec (.registerWrite e addr v) s = .next (settle (s.engineWrite e addr.toNat v.toNat)) := rfl

theorem engineWrite_idle {s : State} {e a v : Nat} (ha : s.engineActs e = false) : s.engineWrite e a v = s :=
  if_pos (ne_true_of_eq_false ha)

section
variable {s : State} {e a v : Nat} (ha : s.engineActs e = true)
include ha

/-- Outside the registers a write is a store. -/
theorem engineWrite_store (hr : region a ≠ .regs) : s.engineWrite e a v = s.engineStore e a v 4 := by
  rw [State.engineWrite, if_neg (not_not.mpr ha), if_pos hr]

/-- A write where the map has no register ends in a bus error (R632). -/
theorem engineWrite_unmapped (hr : region a = .regs) (hm : mapped e a = false) : s.engineWrite e a v = s.busError e a true 1 := by
  rw [State.engineWrite, if_neg (not_not.mpr ha), if_neg (not_not.mpr hr), if_pos (ne_true_of_eq_false hm)]

/-- A register that the scrub set holds locked denies the write (R64). -/
theorem engineWrite_locked (hr : region a = .regs) (hm : mapped e a = true) (hl : s.scrubLocked a = true) :
    s.engineWrite e a v = s.scrubDenied e a := by
  rw [State.engineWrite, if_neg (not_not.mpr ha), if_neg (not_not.mpr hr), if_neg (not_not.mpr hm), if_pos hl]

theorem engineWrite_effect (hr : region a = .regs) (hm : mapped e a = true) (hl : s.scrubLocked a = false) :
    s.engineWrite e a v = s.regEffect e a v := by
  rw [State.engineWrite, if_neg (not_not.mpr ha), if_neg (not_not.mpr hr), if_neg (not_not.mpr hm),
    if_neg (ne_true_of_eq_false hl)]

end

-- the event router

theorem exec_eventRoute {s : State} (ha : s.alive = true) : exec .eventRoute s = .next (settle s.eventRoute) := finish_live ha _

/-- A unit that is alive is past bring-up step 2. -/
theorem three_le_of_alive {s : State} (h : s.alive = true) : 3 ≤ s.boot.step := by
  simp only [State.alive, Bool.and_eq_true, decide_eq_true_eq] at h
  exact h.2

theorem eventRoute_none {s : State} (h : s.evq = []) : s.eventRoute = s := by simp only [State.eventRoute, h, routedNext]

/-- The next event goes to the queues of the engines of its route (R644). -/
theorem eventRoute_some {s : State} {v : Ev} (ha : s.alive = true) (h : routedNext s.evq = some v) :
    s.eventRoute = (List.range 8).foldl
      (fun u e => if (s.rd (F.ENG_ROUTE_ENGINES (routeEntry v.code))).testBit e then u.queueEvent v e else u)
      { s with evq := s.evq.erase v } := by
  simp only [State.eventRoute, h]
  exact if_neg (not_lt.mpr (three_le_of_alive ha))

/-- The least code that a fold keeps belongs to one of the events it has seen, and none of them has a lesser one. -/
theorem foldl_least (l : List Ev) (v : Ev) :
    let w := l.foldl (fun m x => if x.code < m.code then x else m) v
    w ∈ v :: l ∧ ∀ x ∈ v :: l, w.code ≤ x.code := by
  induction l generalizing v with
  | nil => simp
  | cons y r ih =>
    obtain ⟨hm, hle⟩ := ih (if y.code < v.code then y else v)
    simp only [List.foldl_cons]
    simp only [List.mem_cons, forall_eq_or_imp] at hm hle ⊢
    obtain ⟨hhead, htail⟩ := hle
    by_cases hc : y.code < v.code
    · rw [if_pos hc] at hm hhead htail ⊢
      exact ⟨Or.inr hm, by omega, hhead, htail⟩
    · rw [if_neg hc] at hm hhead htail ⊢
      exact ⟨hm.imp_right Or.inr, hhead, by omega, htail⟩

/-- The event routed next is of the oldest instant, and has the least code of that instant (R645). -/
theorem routedNext_least (v : Ev) (r : List Ev) :
    ∃ w, routedNext (v :: r) = some w ∧ w ∈ v :: r ∧ w.ns = v.ns ∧ w.sec = v.sec ∧
      ∀ x ∈ v :: r, x.ns = v.ns → x.sec = v.sec → w.code ≤ x.code := by
  obtain ⟨hm, hle⟩ := foldl_least (r.filter (fun x => x.ns == v.ns && x.sec == v.sec)) v
  have hsame : ∀ x ∈ v :: r, x.ns = v.ns → x.sec = v.sec → x ∈ v :: r.filter (fun x => x.ns == v.ns && x.sec == v.sec) := by
    intro x hx hns hsec
    simpa [hns, hsec] using hx
  refine ⟨_, rfl, ?_, ?_, ?_, fun x hx hns hsec => hle x (hsame x hx hns hsec)⟩
  all_goals
    rcases List.mem_cons.mp hm with h | h
    · simp [h]
    · simp only [List.mem_filter, Bool.and_eq_true, beq_iff_eq] at h
      simp [h]

-- register commands that name no engine

/-- The engine that is denied a write of a command that names none: some engine that runs (log entry 2). -/
def State.deniedEngine (s : State) : Nat := nth 0 s.runningEngines (s.drawFree.1 % s.runningEngines.length)

theorem nth_mem {α : Type} (d : α) : ∀ (l : List α) (i : Nat), i < l.length → nth d l i ∈ l
  | _ :: _, 0, _ => List.mem_cons_self ..
  | _ :: r, i + 1, h => List.mem_cons_of_mem _ (nth_mem d r i (by simpa using h))

/-- That engine runs. -/
theorem engineRuns_deniedEngine {s : State} (h : s.firmwareRuns = true) : s.engineRuns s.deniedEngine = true := by
  simp only [State.firmwareRuns, Bool.and_eq_true, Bool.not_eq_true', List.isEmpty_eq_false_iff] at h
  have hpos : 0 < s.runningEngines.length := List.length_pos_iff.mpr h.2
  have hm : s.deniedEngine ∈ s.runningEngines := nth_mem 0 _ _ (Nat.mod_lt _ hpos)
  simp only [State.runningEngines, List.mem_filter] at hm
  exact hm.2

/-- A locked register denies the write of any register command. -/
theorem finish_regLive_locked {s : State} {a : Nat} (hr : s.firmwareRuns = true) (hl : s.scrubLocked a = true) (f : State → State) :
    finish (s.regLive a f) = .next (settle (s.drawFree.2.scrubDenied s.deniedEngine a)) := by
  rw [regLive_of_locked hr hl, finish_eq]; rfl

/-- Without firmware a register command changes nothing. -/
theorem finish_regLive_idle {s : State} {a : Nat} (hr : s.firmwareRuns = false) (f : State → State) :
    finish (s.regLive a f) = .next (settle s) := by
  rw [regLive_of_not_runs hr, finish_eq]

end Sys2Proof.Machine
end

section
/-! PROOF. O59: what each command of the engines does, from the lemmas above. -/

namespace Sys2Proof.Machine

/-- Settles O59, command by command: an engine's own accesses, the router and the received frames, and the register commands that
name no engine. -/
theorem enginesReachTheDevice : Obligations.EnginesReachTheDevice := by
  intro s
  refine ⟨fun e v => ⟨fun hl ha => ?kick, fun h => ?early, fun ha hb hr hn => ?expired, fun ha => ?timer, fun ha => ?mtime,
      fun hl ha => ?send, fun m r ha hq => ?take, fun hw => exec_txrPut hw v, fun ha h => ?waits, fun ha hn hc => ?turn,
      txrNext_eq_some_iff s e, fun addr size => ?flash, fun o ho => windowByte_outside ho, fun addr ha => ?counter,
      fun addr ha hr => ?store, fun addr ha hr => ?register, fun addr ha => ?idle⟩,
    fun ha => ⟨fun h => ?routeNone, fun ev h => ?routeSome, fun w r h => h ▸ routedNext_least w r, fun h => ?frameNone,
      fun p rest hp => ?frame⟩,
    fun v => ⟨fun hr => ?locked, fun _ _ => rfl, fun hr => ?noFirmware⟩⟩
  case kick =>
    rw [exec_wdKick ha hl]
    exact ⟨fun hv => by rw [wdKick_restart ha hv], fun hv => by rw [wdKick_other hv]⟩
  case early => rw [exec_watchdog, watchdog_early h]
  case expired => exact ⟨by rw [exec_watchdog, watchdog_due ha hb hr hn], failSilent_silent ..⟩
  case timer => exact ⟨_, exec_machineTimer ha e, machineTimer_mtip s e, rfl, rfl⟩
  case mtime => rw [exec_mtimeLoRead, mtimeLoRead_acts ha]
  case send =>
    rw [exec_mbSend ha hl]
    exact ⟨fun hq => ⟨_, rfl, mbSend_room_spec ha hq⟩, fun hq => by rw [mbSend_full ha hq]⟩
  case take => exact ⟨_, exec_mailboxRead s e, mailboxRead_takes ha hq⟩
  case waits => rw [exec_txDescriptor ha, txDescriptor_waits h]
  case turn =>
    rw [exec_txDescriptor ha]
    exact ⟨fun hl => by rw [txDescriptor_badLength ha hn hc hl]; rfl, fun h1 h2 hd => by rw [txDescriptor_outside ha hn hc h1 h2 hd]; rfl,
      fun h1 h2 hd => by rw [txDescriptor_sent ha hn hc h1 h2 hd]; rfl⟩
  case flash =>
    rw [exec_flashWindowRead]
    refine ⟨fun h => by rw [flashWindowRead_idle h], fun ha hs hf => ⟨fun hp => ⟨fun hb => ?_, fun hb => ?_⟩, fun hp ht => ?_⟩⟩
    · rw [flashWindowRead_bytes ha hs hf hp hb]
    · rw [flashWindowRead_beyond ha hs hf hp hb]
    · rw [flashWindowRead_late ha hs hf hp ht]
  case counter =>
    exact ⟨fun hc => by rw [exec_counterLoRead, counterLoRead_other hc],
      fun hc => ⟨_, exec_counterLoRead s e addr, counterLoRead_chained ha hc⟩⟩
  case store => rw [exec_registerWrite, engineWrite_store ha hr]
  case register =>
    rw [exec_registerWrite]
    exact ⟨fun hm => by rw [engineWrite_unmapped ha hr hm], fun hm hl => by rw [engineWrite_locked ha hr hm hl]; rfl,
      fun hm hl => by rw [engineWrite_effect ha hr hm hl]⟩
  case idle => rw [exec_registerWrite, engineWrite_idle ha]
  case routeNone => rw [exec_eventRoute ha, eventRoute_none h]
  case routeSome => rw [exec_eventRoute ha, eventRoute_some ha h]
  case frameNone => rw [exec_rxrFrame ha, rxrFrame_none h]
  case frame =>
    rw [exec_rxrFrame ha]
    obtain ⟨hempty, hbig, hstored⟩ := rxrFrame_cases ha hp
    exact ⟨fun h => by rw [hempty h]; rfl, fun hl hg => ⟨fun hb => by rw [hbig (not_or.mpr ⟨hl, hg⟩) hb]; rfl,
      fun h1 h2 => by rw [hstored (not_or.mpr ⟨hl, hg⟩) h1 h2]; rfl⟩⟩
  case locked =>
    exact ⟨fun hl => finish_regLive_locked hr hl _, fun hl => finish_regLive_locked hr hl _,
      fun hl => ⟨finish_regLive_locked hr hl _, finish_regLive_locked hr hl _⟩, fun n hl => finish_regLive_locked hr hl _,
      engineRuns_deniedEngine hr⟩
  case noFirmware =>
    exact ⟨finish_regLive_idle hr _, finish_regLive_idle hr _, finish_regLive_idle hr _, finish_regLive_idle hr _⟩

end Sys2Proof.Machine
end

section
/-! PROOF. The messages of the partner: what the gates of the link and of mirroring let through, and what a taken frame changes. -/

namespace Sys2Proof.Machine

-- the link

theorem onLink_down {s : State} (h : s.linkIsUp = false) (f : State → State) : s.onLink f = s := if_neg (by simp [h])

theorem onLink_up {s : State} (h : s.linkIsUp = true) (f : State → State) : s.onLink f = f (s.linkTaken 3) := if_pos h

/-- A frame of the link counts a job of the cipher engine at most. -/
theorem linkJob_changes (s : State) : ∃ r, s.linkJob = { s with regs := r } := by
  unfold State.linkJob
  split
  · exact ⟨_, rfl⟩
  · exact ⟨_, rfl⟩

/-- A taken frame changes registers, the instant of the last good frame and the expected SEQ, and nothing else. -/
theorem linkTaken_changes (s : State) (vc : Nat) :
    ∃ r, s.linkTaken vc =
      { s with regs := r, qlb := { s.qlb with goodAt := s.clk.now, rxSeq := (s.qlb.rxSeq + 1) % 65536 } } := by
  obtain ⟨r, hr⟩ := linkJob_changes (s.inc C.QLB_LF_RX)
  unfold State.linkTaken
  rw [hr]
  dsimp only
  split
  · exact ⟨_, rfl⟩
  · exact ⟨_, rfl⟩

-- mirroring (R25, R567)

theorem onMirror_down {s : State} (h : s.linkIsUp = false) (f : State → State) : s.onMirror f = s := onLink_down h _

theorem onMirror_mirroring {s : State} (h : s.linkIsUp = true) (hm : (s.linkTaken 3).mirroring = true) (f : State → State) :
    s.onMirror f = f (s.linkTaken 3) := (onLink_up h _).trans (if_pos hm)

theorem onMirror_alone {s : State} (h : s.linkIsUp = true) (hm : (s.linkTaken 3).mirroring = false) (f : State → State) :
    s.onMirror f = s.linkTaken 3 := (onLink_up h _).trans (if_neg (by simp [hm]))

theorem onSync_down {s : State} (h : s.linkIsUp = false) (f : State → State) : s.onSync f = s := onLink_down h _

theorem onSync_mirroring {s : State} (h : s.linkIsUp = true) (hm : (s.linkTaken 3).mirroring = true) (f : State → State) :
    s.onSync f = f (s.linkTaken 3) := (onLink_up h _).trans (if_pos hm)

/-- No sync takes place in the unit with duty, nor with a partner that is not known to hold the same vintage. -/
theorem onSync_refused {s : State} (h : s.linkIsUp = true) (hm : (s.linkTaken 3).mirroring = false)
    (hr : (s.linkTaken 3).duty = true ∨ (s.linkTaken 3).qlb.hb = none ∨
      ∃ b, (s.linkTaken 3).qlb.hb = some b ∧ (s.linkTaken 3).hbAgrees b = false) (f : State → State) :
    s.onSync f = s.linkTaken 3 := by
  rw [State.onSync, onLink_up h]
  dsimp only
  rw [if_neg (by simp [hm]), if_pos]
  rcases hr with hd | hn | ⟨b, hb, hb'⟩
  · exact .inl hd
  · exact .inr (by simp [hn])
  · exact .inr (by simp [hb, hb'])

theorem onSync_syncing {s : State} {b : Heartbeat} (h : s.linkIsUp = true) (hm : (s.linkTaken 3).mirroring = false)
    (hd : (s.linkTaken 3).duty = false) (hb : (s.linkTaken 3).qlb.hb = some b) (hg : (s.linkTaken 3).hbAgrees b = true)
    (f : State → State) : s.onSync f = f (s.linkTaken 3).clearForSync := by
  rw [State.onSync, onLink_up h]
  dsimp only
  rw [if_neg (by simp [hm]), if_neg (by simp [hd, hb, hg])]

/-- A sync that begins leaves no change of the unit queued, and is noted as begun (R567). -/
theorem clearForSync_begins {s : State} (h : s.qlb.mirrorSync = false) :
    s.clearForSync.aud.queue = [] ∧ s.clearForSync.qlb.mirrorSync = true := by
  rw [State.clearForSync, if_neg (by simp [h])]
  exact ⟨rfl, rfl⟩

-- which gate each message meets (Table 13-6)

section
variable {s : State} (ha : s.alive = true)
include ha

theorem exec_audChange (c : AudChange) : exec (.audChange c) s = .next (settle (s.onSync (fun s => s.audChange c))) := finish_live ha _

theorem exec_liFrame (p : Fin 4) (k : Nat) (l : List Word) :
    exec (.liFrame p k l) s = .next (settle (s.onMirror (fun s => s.liFrame p k l))) := finish_live ha _

theorem exec_twinDigest (t : Fin 64) (b : Nat) (c : Word) :
    exec (.twinDigest t b c) s = .next (settle (s.onMirror (fun s => s.twinDigest t b c.toNat))) := finish_live ha _

theorem exec_tdmCmp (p : Fin 4) (k : Nat) : exec (.tdmCmp p k) s = .next (settle (s.onLink id)) := finish_live ha _

theorem exec_canAppend (n : Fin 16) (k : Fin 3) (e : List Byte) :
    exec (.canAppend n k e) s = .next (settle (s.onSync (fun s => s.canAppend n k e))) := finish_live ha _

theorem exec_canFlush (n : Fin 16) (k : Fin 3) :
    exec (.canFlush n k) s = .next (settle (s.onMirror (fun s => s.flushRing n k))) := finish_live ha _

theorem exec_canCancel (n : Fin 16) (k : Fin 3) (t : BitVec 16) (i : BitVec 29) :
    exec (.canCancel n k t i) s = .next (settle (s.onMirror (fun s => s.canCancel n k t.toNat i.toNat))) := finish_live ha _

theorem exec_serAppend (n : Fin 8) (e : List Byte) :
    exec (.serAppend n e) s = .next (settle (s.onSync (fun s => s.serAppend n e))) := finish_live ha _

theorem exec_serFlush (n : Fin 8) : exec (.serFlush n) s = .next (settle (s.onMirror (fun s => s.serFlush n))) := finish_live ha _

theorem exec_lease (i : Fin 48) (m : LeaseMsg) :
    exec (.lease i m) s = .next (settle (s.onLink (fun s => s.leaseMsg i m))) := finish_live ha _

theorem exec_wakState (m : WakMsg) : exec (.wakState m) s = .next (settle (s.onMirror (fun s => s.wakMessage m))) := finish_live ha _

theorem exec_audSync (a : AudSync) : exec (.audSync a) s = .next (settle (s.onSync (fun s => s.syncReceived a))) := finish_live ha _

theorem exec_frame (f : PairFrame) : exec (.frame f) s = .next (settle (s.pairFrame f)) := finish_live ha _

theorem exec_mirrorLost : exec .mirrorLost s = .next (settle s.mirrorLost) := finish_live ha _

end

end Sys2Proof.Machine
end

section
/-! PROOF. What the messages of the partner do: frames for P27, mirrored CAN and serial elements, and messages that waited too long. -/

namespace Sys2Proof.Machine

-- frames (R144, R553)

theorem pairFrame_down {s : State} (h : s.linkIsUp = false) (f : PairFrame) : s.pairFrame f = s := if_pos (by simp [h])

/-- What a frame of the partner is on the receive side of P27: its octets, its metadata, and the instant of its reception. -/
def State.pairRx (s : State) (f : PairFrame) : RxFrame :=
  { rxFrame0 f.bytes with ended := true, vid := f.vid, pcp := f.pcp, dei := b2n f.dei, colour := f.colour, sc := f.sc,
                          lc := s.clk.lc, wt := s.clk.wt }

theorem pairFrame_up {s : State} (h : s.linkIsUp = true) (f : PairFrame) :
    s.pairFrame f = (s.linkTaken 2).feed 27 ((s.linkTaken 2).pairRx f) := if_neg (by simp [h])

/-- A frame that enters a port stands behind those that wait there, with the port's TPID; other ports do not change. -/
theorem feed_inq (s : State) (p : Nat) (f : RxFrame) :
    ((s.feed p f).port p).inq = (s.port p).inq ++ [{ f with stpid := s.rd F.MAC_S_TPID_TPID }] := by
  rw [State.feed, port_modPort_same]

theorem feed_port_ne (s : State) {p q : Nat} (h : q ≠ p) (f : RxFrame) : (s.feed p f).port q = s.port q := port_modPort_ne s h _

/-- A taken frame leaves the ports, memory and the tables as they are. -/
theorem linkTaken_frame (s : State) (vc : Nat) :
    (s.linkTaken vc).mac = s.mac ∧ (s.linkTaken vc).mem = s.mem ∧ (s.linkTaken vc).tables = s.tables := by
  obtain ⟨r, hr⟩ := linkTaken_changes s vc
  rw [hr]
  exact ⟨rfl, rfl, rfl⟩

theorem linkTaken_port (s : State) (vc p : Nat) : (s.linkTaken vc).port p = s.port p :=
  congrArg (sget macPort0 · p) (linkTaken_frame s vc).1

theorem linkTaken_mirrorSync (s : State) (vc : Nat) : (s.linkTaken vc).qlb.mirrorSync = s.qlb.mirrorSync := by
  obtain ⟨r, hr⟩ := linkTaken_changes s vc
  rw [hr]

-- mirrored elements of the CAN and serial rings (R434, R436, R437, R480)

theorem ringFill_setFill (s : State) (n r v : Nat) : (s.setFill n r v).ringFill n r = v := by
  simp [State.ringFill, State.setFill, State.modCan, State.setCan, State.canC]

theorem ringStore_can (n r : Nat) : ∀ (l : List Byte) (s : State) (o : Nat), (s.ringStore n r o l).can = s.can
  | [], _, _ => rfl
  | b :: l, s, o => by rw [State.ringStore, ringStore_can n r l, store_can]

theorem ringAppend_fill (s : State) (n r : Nat) (e : List Byte) : (s.ringAppend n r e).ringFill n r = s.ringFill n r + e.length := by
  have hfill : ∀ p, (s.ringStore n r p e).ringFill n r = s.ringFill n r := fun p => by
    rw [State.ringFill, State.canC, ringStore_can]; rfl
  rw [State.ringAppend, ringFill_setFill, hfill]

theorem canAppend_owned {s : State} {n k : Nat} (h : s.fqOwner n k ≠ 0) (e : List Byte) :
    s.canAppend n k e = s.inc (C.CAN_FQ_OWNER n) := if_pos h

theorem canAppend_full {s : State} {n k : Nat} {e : List Byte} (h : s.fqOwner n k = 0)
    (hf : s.ringSize n k < s.ringFill n k + e.length) : s.canAppend n k e = s.inc (C.CAN_FQ_FULL n) :=
  (if_neg (not_not.mpr h)).trans (if_pos hf)

theorem canAppend_room {s : State} {n k : Nat} {e : List Byte} (h : s.fqOwner n k = 0)
    (hf : s.ringFill n k + e.length ≤ s.ringSize n k) : s.canAppend n k e = s.ringAppend n k e :=
  (if_neg (not_not.mpr h)).trans (if_neg hf.not_gt)

/-- A flush leaves nothing in a ring whose transmit buffer is empty. -/
theorem flushRing_fill {s : State} {n k : Nat} (h : s.canTb n k = none) : (s.flushRing n k).ringFill n k = 0 := by
  rw [State.flushRing, ringFill_setFill, h]

theorem serStore_ser (base : Nat) : ∀ (l : List Byte) (s : State) (o : Nat), (s.serStore base o l).ser = s.ser
  | [], _, _ => rfl
  | b :: l, s, o => by rw [State.serStore, serStore_ser base l, store_ser]

theorem serC_modSer (s : State) (n : Nat) (f : SerC → SerC) : (s.modSer n f).serC n = f (s.serC n) := sget_sput_same ..

theorem serAppendRing_fill (s : State) (n : Nat) (e : List Byte) :
    ((s.serAppendRing n e).serC n).txFill = (s.serC n).txFill + e.length := by
  rw [State.serAppendRing, State.serFilled, serC_modSer, State.serC, setRegN_ser, serStore_ser]
  rfl

theorem serAppend_room {s : State} {n : Nat} {e : List Byte} (h : s.serOwner n = 0) (hf : (s.serC n).txFill + e.length ≤ 2048) :
    s.serAppend n e = s.serAppendRing n e := (if_neg (not_not.mpr h)).trans (if_neg hf.not_gt)

-- messages that waited too long (R568)

/-- A mirror message that has waited more than 100 µs at an instant. -/
def mirrorLate (now : Nat) (w : LinkWait) : Bool := w.vc == 3 && decide (w.since + 100000 < now)

theorem filter_not_contains_filter {α : Type} [DecidableEq α] (p : α → Bool) (l : List α) :
    l.filter (fun w => !(l.filter p).contains w) = l.filter (fun w => !p w) := by
  refine List.filter_congr fun w hw => ?_
  rw [List.contains_eq_mem, Bool.decide_congr (List.mem_filter.trans (and_iff_right hw)), Bool.decide_eq_true]

/-- The late messages leave the queue, and each is counted and reported. -/
theorem mirrorLost_eq (s : State) : s.mirrorLost =
    (s.qlb.waiting.filter (mirrorLate s.clk.now)).foldl (fun s _ => (s.inc C.QLB_MIRROR_LOST).raise 0x0E07 0)
      (s.setQlb { s.qlb with waiting := s.qlb.waiting.filter (fun w => !mirrorLate s.clk.now w) }) := by
  rw [← filter_not_contains_filter]
  rfl

theorem mirrorLost_none {s : State} (h : s.qlb.waiting.filter (mirrorLate s.clk.now) = []) : s.mirrorLost = s := by
  have hkeep : s.qlb.waiting.filter (fun w => !mirrorLate s.clk.now w) = s.qlb.waiting :=
    List.filter_eq_self.mpr fun w hw => by simpa using List.filter_eq_nil_iff.mp h w hw
  rw [mirrorLost_eq, h, hkeep]
  rfl

end Sys2Proof.Machine
end

section
/-! PROOF. O56: which messages of the partner apply with the link down, while the pair mirrors, and in a mirror sync. -/

namespace Sys2Proof.Machine

/-- A frame of the partner enters the receive side of P27 with its metadata, and touches no other port, memory or table. -/
theorem pairFrame_enters {s : State} (h : s.linkIsUp = true) (f : PairFrame) : ∃ r : RxFrame,
    ((s.pairFrame f).port 27).inq = (s.port 27).inq ++ [r] ∧ r.bytes = f.bytes ∧ r.vid = f.vid ∧ r.pcp = f.pcp ∧
      r.colour = f.colour ∧ r.sc = f.sc ∧ (∀ p, p ≠ 27 → (s.pairFrame f).port p = s.port p) ∧
      (s.pairFrame f).mem = s.mem ∧ (s.pairFrame f).tables = s.tables := by
  obtain ⟨-, hmem, htables⟩ := linkTaken_frame s 2
  rw [pairFrame_up h]
  refine ⟨_, (feed_inq ..).trans (by rw [linkTaken_port]), rfl, rfl, rfl, rfl, rfl, fun p hp => ?_, hmem, htables⟩
  rw [feed_port_ne _ hp, linkTaken_port]

/-- Settles O56, gate by gate: the link, mirroring, and a mirror sync; then what the messages do that pass. -/
theorem mirrorMessagesApply : Obligations.MirrorMessagesApply := by
  intro s ha
  refine ⟨fun hdown => ?down, fun hup => ⟨fun p k => ?compare, fun i m => ?leaseMsg, fun f => ?frame, fun hm => ?mirroring,
      fun hm => ?alone⟩,
    fun n k e => ?can, fun n e ho hf => ?serial, fun i g => ?lease, fun hnone => ?notLate, ?late⟩
  case down =>
    exact ⟨fun c => by rw [exec_audChange ha, onSync_down hdown], fun p k l => by rw [exec_liFrame ha, onMirror_down hdown],
      fun t b c => by rw [exec_twinDigest ha, onMirror_down hdown], fun p k => by rw [exec_tdmCmp ha, onLink_down hdown],
      fun n k e => by rw [exec_canAppend ha, onSync_down hdown], fun n k => by rw [exec_canFlush ha, onMirror_down hdown],
      fun n k t i => by rw [exec_canCancel ha, onMirror_down hdown], fun n e => by rw [exec_serAppend ha, onSync_down hdown],
      fun n => by rw [exec_serFlush ha, onMirror_down hdown], fun i m => by rw [exec_lease ha, onLink_down hdown],
      fun m => by rw [exec_wakState ha, onMirror_down hdown], fun a => by rw [exec_audSync ha, onSync_down hdown],
      fun f => by rw [exec_frame ha, pairFrame_down hdown]⟩
  case compare => rw [exec_tdmCmp ha, onLink_up hup]; rfl
  case leaseMsg => rw [exec_lease ha, onLink_up hup]
  case frame =>
    obtain ⟨r, hr⟩ := pairFrame_enters hup f
    exact ⟨_, r, exec_frame ha f, hr⟩
  case mirroring =>
    exact ⟨fun c => by rw [exec_audChange ha, onSync_mirroring hup hm], fun p k l => by rw [exec_liFrame ha, onMirror_mirroring hup hm],
      fun t b c => by rw [exec_twinDigest ha, onMirror_mirroring hup hm],
      fun n k e => by rw [exec_canAppend ha, onSync_mirroring hup hm], fun n k => by rw [exec_canFlush ha, onMirror_mirroring hup hm],
      fun n k t i => by rw [exec_canCancel ha, onMirror_mirroring hup hm], fun n e => by rw [exec_serAppend ha, onSync_mirroring hup hm],
      fun n => by rw [exec_serFlush ha, onMirror_mirroring hup hm], fun m => by rw [exec_wakState ha, onMirror_mirroring hup hm],
      fun a => by rw [exec_audSync ha, onSync_mirroring hup hm]; rfl⟩
  case alone =>
    refine ⟨fun p k l => by rw [exec_liFrame ha, onMirror_alone hup hm], fun t b c => by rw [exec_twinDigest ha, onMirror_alone hup hm],
      fun n k => by rw [exec_canFlush ha, onMirror_alone hup hm], fun n k t i => by rw [exec_canCancel ha, onMirror_alone hup hm],
      fun n => by rw [exec_serFlush ha, onMirror_alone hup hm], fun m => by rw [exec_wakState ha, onMirror_alone hup hm],
      fun hr => ?refused, fun h hd hb hg => ?syncing⟩
    case refused =>
      exact ⟨fun c => by rw [exec_audChange ha, onSync_refused hup hm hr], fun n k e => by rw [exec_canAppend ha, onSync_refused hup hm hr],
        fun n e => by rw [exec_serAppend ha, onSync_refused hup hm hr], fun a => by rw [exec_audSync ha, onSync_refused hup hm hr]⟩
    case syncing =>
      have hsync := onSync_syncing hup hm hd hb hg
      exact ⟨fun c => by rw [exec_audChange ha, hsync], fun n k e => by rw [exec_canAppend ha, hsync],
        fun n e => by rw [exec_serAppend ha, hsync], fun a => by rw [exec_audSync ha, hsync]; rfl,
        fun h0 => clearForSync_begins ((linkTaken_mirrorSync s 3).trans h0)⟩
  case can =>
    exact ⟨fun ho => canAppend_owned ho e, fun ho hf => canAppend_full ho hf,
      fun ho hf => by rw [canAppend_room ho hf, ringAppend_fill], flushRing_fill⟩
  case serial => rw [serAppend_room ho hf, serAppendRing_fill]
  case lease => exact ⟨fun hh => if_neg (by simp [hh]), rfl⟩
  case notLate => rw [exec_mirrorLost ha, mirrorLost_none hnone]
  case late => exact (exec_mirrorLost ha).trans (by rw [mirrorLost_eq]; rfl)

end Sys2Proof.Machine
end

section
/-! PROOF. Resets: which registers a reset leaves at their reset values, what an AON-keeping reset keeps, and that nothing follows by
itself from a unit at bring-up step 1. -/

namespace Sys2Proof.Machine

/-- A table with some keys removed reads at each of the others as before. -/
theorem sget_filter_key {α : Type} (d : α) (p : Nat → Bool) (k : Nat) (m : Sparse α) :
    sget d (m.filter (fun e => p e.1)) k = if p k = true then sget d m k else d := by
  induction m with
  | nil => simp
  | cons e r ih =>
    obtain ⟨k', v⟩ := e
    by_cases hk : k' = k
    · subst hk
      by_cases hp : p k' = true
      · simp [hp, sget]
      · simpa [hp] using ih
    · by_cases hp : p k' = true
      · simpa [hp, sget, hk] using ih
      · simpa [hp, sget, hk] using ih

/-- Nothing follows by itself from a unit that is at step 1 with neither a fail-silence nor a poll nor a reset waiting. -/
theorem settle_of_starting {s : State} (hstep : s.boot.step = 1) (hpoll : s.boot.pollEnd = none) (hsilent : s.flt.silent = false)
    (hdue : s.flt.due = 0) : settle s = s := by
  have halive : s.alive = false := by simp [State.alive, hstep]
  have hdown : s.down = false := by simp [State.down, hsilent, hstep]
  have hp : s.pollGoesOn = s := by simp only [State.pollGoesOn, hpoll]
  have hg : s.giveUp = s := if_neg (by simp [hdown])
  have hd : s.dueReset = s := by simp only [State.dueReset, hdue]
  simp only [settle, halive, Bool.false_eq_true, if_false, hp, hg, hd]

-- the start of bring-up (Table 2-11, R721)

section
variable (s : State) (cause : Nat) (pairId testEn : Bool)

/-- The registers that show a reset: its cause, the strap and the unit. -/
def State.resetShown : State :=
  ((s.wr F.DEV_RESET_CAUSE_CAUSE cause).setRegN R.DEV_STRAP (b2n pairId + b2n testEn * 2)).wr F.QLB_STATUS_UNIT (b2n pairId)

theorem reg_startBringUp_shown (a : Nat) :
    (s.startBringUp cause pairId testEn).reg a = (s.resetShown cause pairId testEn).reg a := rfl

theorem rd_startBringUp_shown (f : Fld) :
    (s.startBringUp cause pairId testEn).rd f = (s.resetShown cause pairId testEn).rd f := rfl

theorem reg_startBringUp {a : Nat} (hc : a ≠ R.DEV_RESET_CAUSE) (hs : a ≠ R.DEV_STRAP) (hq : a ≠ R.QLB_STATUS) :
    (s.startBringUp cause pairId testEn).reg a = s.reg a := by
  rw [reg_startBringUp_shown, State.resetShown, reg_wr_ne _ _ hq, State.setRegN, reg_setReg_ne _ hs, reg_wr_ne _ _ hc]

theorem startBringUp_cause : (s.startBringUp cause pairId testEn).rd F.DEV_RESET_CAUSE_CAUSE = cause % 8 := by
  rw [rd_startBringUp_shown, State.resetShown, rd_wr_other _ _ _ (by decide) _ (by decide), rd_setRegN_ne _ (by decide),
    rd_wr_same _ _ (by decide)]
  rfl

theorem startBringUp_strap : (s.startBringUp cause pairId testEn).regN R.DEV_STRAP = b2n pairId + b2n testEn * 2 := by
  rw [State.regN, reg_startBringUp_shown, ← State.regN, State.resetShown, regN_wr_ne _ _ (by decide), regN_setRegN_same]
  cases pairId <;> cases testEn <;> rfl

theorem startBringUp_unit : (s.startBringUp cause pairId testEn).rd F.QLB_STATUS_UNIT = b2n pairId := by
  rw [rd_startBringUp_shown, State.resetShown, rd_wr_same _ _ (by decide)]
  cases pairId <;> rfl

end

-- the cold reset (R60, R720)

theorem exec_coldReset (s : State) (pairId testEn : Bool) :
    exec (.coldReset pairId testEn) s = .next (s.coldReset pairId testEn) :=
  congrArg Host.Outcome.next (settle_of_starting rfl rfl rfl rfl)

theorem reg_coldReset (s : State) (pairId testEn : Bool) {a : Nat} (hc : a ≠ R.DEV_RESET_CAUSE) (hs : a ≠ R.DEV_STRAP)
    (hq : a ≠ R.QLB_STATUS) : (s.coldReset pairId testEn).reg a = regReset a := by
  rw [State.coldReset, reg_startBringUp _ _ _ _ hc hs hq]
  rfl

/-- Settles O9: what the start of bring-up shows, over the state that a cold reset begins from. -/
theorem coldResetLeaves : Obligations.ColdResetLeaves := by
  intro pairId testEn s
  exact ⟨_, exec_coldReset s pairId testEn, fun a hc hs hq => reg_coldReset s pairId testEn hc hs hq, startBringUp_cause ..,
    startBringUp_strap .., startBringUp_unit .., rfl, rfl, rfl, rfl, rfl, rfl, rfl, rfl, rfl, rfl, rfl, rfl, rfl, rfl, rfl, rfl, rfl⟩

-- the cellar before a reset (R681)

/-- The parts of the state that records of the cellar do not touch. -/
def State.beyondCellar (s : State) : Sparse Byte × Otp × Pers × Clk × List Instr := (s.flash, s.otp, s.pers, s.clk, s.pending)

theorem inc_beyondCellar (s : State) (c : Nat) : (s.inc c).beyondCellar = s.beyondCellar := rfl

theorem writeRecord_beyondCellar (s : State) (e : Ev) : (s.writeRecord e).beyondCellar = s.beyondCellar := by
  dsimp only [State.writeRecord, State.beyondCellar]
  rw [inc_flash, inc_otp, inc_pers, inc_clk, inc_pending, wr_flash, wr_otp, wr_pers, wr_clk, wr_pending, store_flash, store_otp,
    store_pers, store_clk, store_pending]

theorem cellarRecord_beyondCellar (s : State) : s.cellarRecord.beyondCellar = s.beyondCellar := by
  unfold State.cellarRecord
  split
  · rfl
  · dsimp only
    split
    · rfl
    · split
      · rw [inc_beyondCellar]; rfl
      · rw [writeRecord_beyondCellar]; rfl

theorem flushCellar_beyondCellar (s : State) : s.flushCellar.beyondCellar = s.beyondCellar :=
  foldl_frame State.beyondCellar (fun s _ => cellarRecord_beyondCellar s) _ s

theorem flushCellar_none {s : State} (h : s.fltq = []) : s.flushCellar = s := by
  rw [State.flushCellar, h]
  rfl

-- every other reset (R60, R590, R669)

section
variable (s : State) (cause : Nat) (pairId : Bool)

/-- Outside WAK, and what FLT and the start of bring-up show, a reset leaves every register at its reset value. -/
theorem reg_afterReset {a : Nat} (hw : wakReg a = false) (hc : a ≠ R.DEV_RESET_CAUSE) (hs : a ≠ R.DEV_STRAP)
    (hq : a ≠ R.QLB_STATUS) (hf : a ≠ R.FLT_STATUS) (hm : a ≠ R.FLT_MON) (hd : a ≠ R.FLT_FS_DATA) (hh : a ≠ R.FLT_CELLAR_HEAD) :
    (s.afterReset cause pairId).reg a = regReset a := by
  have hp : a ≠ R.WAK_STATUS := by rintro rfl; exact absurd hw (by decide)
  have hbase : ∀ u : State, u.regs = s.flushCellar.regs.filter (fun e => wakReg e.1) → u.reg a = regReset a := by
    intro u hu
    rw [State.reg, hu, sget_filter_key (regReset a) wakReg, hw]
    rfl
  have hsetWak : ∀ (u : State) (w : Wak), (u.setWak w).reg a = u.reg a := fun _ _ => rfl
  unfold State.afterReset
  dsimp only
  rw [reg_startBringUp _ _ _ _ hc hs hq]
  split
  · rw [hsetWak, State.setPower, reg_wr_ne _ _ hp, reg_setReg_ne _ hh, reg_setReg_ne _ hd, State.setRegN, reg_setReg_ne _ hm,
      reg_wr_ne _ _ hf, reg_wr_ne _ _ hf]
    exact hbase _ rfl
  · rw [hsetWak, reg_wr_ne _ _ hp, State.setPower, reg_wr_ne _ _ hp, reg_setReg_ne _ hh, reg_setReg_ne _ hd, State.setRegN,
      reg_setReg_ne _ hm, reg_wr_ne _ _ hf, reg_wr_ne _ _ hf]
    exact hbase _ rfl

/-- Of memory a reset keeps the always-on SRAM, as the records on their way have left it. -/
theorem byte_afterReset (a : Nat) : (s.afterReset cause pairId).byte a = if aonByte a then s.flushCellar.byte a else 0 := by
  have hmem : (s.afterReset cause pairId).mem = s.flushCellar.mem.filter (fun e => aonByte e.1) := by
    unfold State.afterReset
    dsimp only
    split <;> rfl
  rw [State.byte, hmem, sget_filter_key (0 : Byte) aonByte]
  rfl

end

theorem exec_warmReset (s : State) (pairId : Bool) : exec (.warmReset pairId) s = .next (s.warmReset pairId) :=
  congrArg Host.Outcome.next (settle_of_starting rfl rfl rfl rfl)

/-- Settles O10: the start of bring-up, over a state whose AON is as the records on their way have left it. -/
theorem warmResetLeaves : Obligations.WarmResetLeaves := by
  intro pairId s
  obtain ⟨hflash, hotp, hpers, hclk, hpending⟩ : s.flushCellar.flash = s.flash ∧ s.flushCellar.otp = s.otp ∧
      s.flushCellar.pers = s.pers ∧ s.flushCellar.clk = s.clk ∧ s.flushCellar.pending = s.pending := by
    simpa [State.beyondCellar] using flushCellar_beyondCellar s
  exact ⟨_, exec_warmReset s pairId, byte_afterReset s 1 pairId, flushCellar_none,
    fun a hw hc hs hq hf hm hd hh => reg_afterReset s 1 pairId hw hc hs hq hf hm hd hh, startBringUp_cause ..,
    startBringUp_unit .., rfl, rfl, hflash, hotp, hpers, by rw [← hclk]; rfl, rfl, rfl, hpending⟩

end Sys2Proof.Machine
end

section
/-! PROOF. The census: an entry that ages out, the counts of the table, and the judgement. -/

namespace Sys2Proof.Machine

section
variable {s : State} (ha : s.alive = true)
include ha

theorem exec_censusAge (i : Fin 64) : exec (.censusAge i) s = .next (settle (s.censusAge i)) := finish_live ha _

theorem exec_censusSettle : exec .censusSettle s = .next (settle s.censusSettle) := finish_live ha _

theorem exec_censusEvaluate : exec .censusEvaluate s = .next (settle s.censusEvaluate) := finish_live ha _

end

-- ageing (R70)

/-- The entry's six registers read 0 in the state with the first `n` of them cleared, and every other register as before. -/
theorem reg_clearWords (s : State) (b n a : Nat) :
    ((List.range n).foldl (fun s k => s.setRegN (b + 4 * k) 0) s).reg a = if ∃ k < n, a = b + 4 * k then 0 else s.reg a := by
  induction n with
  | zero => simp
  | succ n ih =>
    rw [List.range_succ, List.foldl_append, List.foldl_cons, List.foldl_nil]
    by_cases h : a = b + 4 * n
    · subst h
      rw [if_pos ⟨n, by omega, rfl⟩]
      exact reg_setReg_same ..
    · rw [State.setRegN, reg_setReg_ne _ h, ih]
      refine if_congr ⟨?_, ?_⟩ rfl rfl
      · rintro ⟨k, hk, hak⟩
        exact ⟨k, by omega, hak⟩
      · rintro ⟨k, hk, rfl⟩
        exact ⟨k, by omega, rfl⟩

/-- The registers of an entry that leaves the table, with OVERFLOW (R70). -/
def State.entryCleared (s : State) (i : Nat) : State :=
  ((List.range 6).foldl (fun s k => s.setRegN (R.CFG_CENSUS_E_MAC_LO i + 4 * k) 0) s).wr F.CFG_CENSUS_STATUS_OVERFLOW 0

/-- What the census keeps beside its registers, once an entry has left. -/
def State.entryForgotten (s : State) (i : Nat) : State :=
  { s with boot := { s.boot with seenAt := sput 0 i 0 s.boot.seenAt, overflowEpisode := false, censusDirty := true } }

@[simp] theorem reg_entryForgotten (s : State) (i a : Nat) : (s.entryForgotten i).reg a = s.reg a := rfl

@[simp] theorem rd_entryForgotten (s : State) (i : Nat) (f : Fld) : (s.entryForgotten i).rd f = s.rd f := rfl

@[simp] theorem censusValid_entryForgotten (s : State) (i j : Nat) : (s.entryForgotten i).censusValid j = s.censusValid j := rfl

@[simp] theorem entryForgotten_mem (s : State) (i : Nat) : (s.entryForgotten i).mem = s.mem := rfl

@[simp] theorem entryForgotten_flash (s : State) (i : Nat) : (s.entryForgotten i).flash = s.flash := rfl

theorem censusAge_due {s : State} {i : Nat} (h0 : s.rd F.CFG_CENSUS_CFG_AGE ≠ 0) (hv : s.censusValid i = true)
    (ht : sget 0 s.boot.seenAt i + s.rd F.CFG_CENSUS_CFG_AGE * 1000000000 ≤ s.clk.now) :
    s.censusAge i = (s.entryCleared i).entryForgotten i := by
  refine if_neg ?_
  rintro (h | h | h)
  · exact h0 h
  · exact h hv
  · exact absurd h (not_lt.mpr ht)

theorem censusAge_stays {s : State} {i : Nat} (h : s.rd F.CFG_CENSUS_CFG_AGE = 0 ∨ s.censusValid i = false ∨
    s.clk.now < sget 0 s.boot.seenAt i + s.rd F.CFG_CENSUS_CFG_AGE * 1000000000) : s.censusAge i = s :=
  if_pos (h.imp_right (Or.imp_left ne_true_of_eq_false))

theorem censusEntry_ne_status (i k : Nat) : R.CFG_CENSUS_E_MAC_LO i + 4 * k ≠ R.CFG_CENSUS_STATUS := by
  show 0x20201000 + i * 0x20 + 4 * k ≠ 0x20200034
  omega

theorem reg_entryCleared_own (s : State) (i : Nat) {k : Nat} (hk : k < 6) :
    (s.entryCleared i).reg (R.CFG_CENSUS_E_MAC_LO i + 4 * k) = 0 := by
  rw [State.entryCleared, reg_wr_ne _ _ (censusEntry_ne_status i k), reg_clearWords, if_pos ⟨k, hk, rfl⟩]

theorem reg_entryCleared_other (s : State) (i : Nat) {a : Nat} (hs : a ≠ R.CFG_CENSUS_STATUS)
    (hk : ∀ k, k < 6 → a ≠ R.CFG_CENSUS_E_MAC_LO i + 4 * k) : (s.entryCleared i).reg a = s.reg a := by
  rw [State.entryCleared, reg_wr_ne _ _ hs, reg_clearWords, if_neg]
  rintro ⟨k, hlt, h⟩
  exact hk k hlt h

theorem entryCleared_overflow (s : State) (i : Nat) : (s.entryCleared i).rd F.CFG_CENSUS_STATUS_OVERFLOW = 0 :=
  (rd_wr_same _ _ (by decide) 0).trans rfl

/-- VALID is a bit of the second of the entry's words. -/
theorem entryCleared_invalid (s : State) (i : Nat) : (s.entryCleared i).censusValid i = false := by
  have h : (s.entryCleared i).reg (R.CFG_CENSUS_E_MAC_HI i) = 0 := by
    have he : R.CFG_CENSUS_E_MAC_HI i = R.CFG_CENSUS_E_MAC_LO i + 4 * 1 := by
      show 0x20201004 + i * 0x20 = 0x20201000 + i * 0x20 + 4 * 1
      omega
    rw [he, reg_entryCleared_own s i (by decide)]
  simp only [State.censusValid, State.on, State.rd, State.regN, h]
  rfl

/-- A fold of register writes leaves memory and the flash. -/
theorem entryCleared_mem (s : State) (i : Nat) : (s.entryCleared i).mem = s.mem :=
  (wr_mem ..).trans (foldl_frame State.mem (fun _ _ => setRegN_mem ..) _ s)

theorem entryCleared_flash (s : State) (i : Nat) : (s.entryCleared i).flash = s.flash :=
  (wr_flash ..).trans (foldl_frame State.flash (fun _ _ => setRegN_flash ..) _ s)

/-- Settles O12: the entry's six words and OVERFLOW are cleared, and what the words of the entry show. -/
theorem censusAgeing : Obligations.CensusAgeing := by
  intro s i ha
  refine ⟨fun h0 hv ht => ?_, fun h => by rw [exec_censusAge ha, censusAge_stays h]⟩
  rw [exec_censusAge ha, censusAge_due h0 hv ht]
  refine ⟨_, rfl, fun k hk => ?_, ?_, ?_, rfl, fun a hs hk => ?_, ?_, ?_⟩
  · rw [reg_entryForgotten, reg_entryCleared_own s i hk]
  · rw [censusValid_entryForgotten, entryCleared_invalid]
  · rw [rd_entryForgotten, entryCleared_overflow]
  · rw [reg_entryForgotten, reg_entryCleared_other s i hs hk]
  · rw [entryForgotten_mem, entryCleared_mem]
  · rw [entryForgotten_flash, entryCleared_flash]

-- the judgement (R71 to R73)

theorem censusSettle_early {s : State} {t : Nat} (hf : s.boot.forwardAt = some t)
    (h : s.clk.now < t + s.rd F.CFG_CENSUS_HOLD_SETTLE * 1000000000) : s.censusSettle = s := by
  simp only [State.censusSettle, hf]
  exact if_pos (.inr (.inr h))

theorem censusSettle_due {s : State} {t : Nat} (ha : s.alive = true) (hf : s.boot.forwardAt = some t) (hs : s.boot.settled = false)
    (h : t + s.rd F.CFG_CENSUS_HOLD_SETTLE * 1000000000 ≤ s.clk.now) :
    s.censusSettle =
      ({ s with boot := { s.boot with settled := true, censusDirty := false } }).censusCount.censusJudge true := by
  simp only [State.censusSettle, hf]
  exact if_neg (by simp [ha, hs, h])

theorem censusEvaluate_dirty {s : State} (h : s.boot.censusDirty = true) :
    s.censusEvaluate =
      if ¬ s.boot.settled then ({ s with boot := { s.boot with censusDirty := false } }).censusCount
      else ({ s with boot := { s.boot with censusDirty := false } }).censusCount.censusJudge false := by
  rw [State.censusEvaluate, if_neg (not_not.mpr h), ite_not]
  rfl

/-- The first judgement raises 0x0201 whenever the census is not in order. -/
theorem censusJudge_first (s : State) :
    s.censusJudge true =
      let v := s.wr F.CFG_CENSUS_STATUS_CENSUS_OK (b2n s.censusOk)
      if s.censusOk then (if s.on F.CFG_CENSUS_STATUS_CENSUS_OK then v else v.raise 0x0202 0) else v.raise 0x0201 0 := by
  dsimp only [State.censusJudge]
  by_cases hok : s.censusOk = true <;> by_cases hwas : s.on F.CFG_CENSUS_STATUS_CENSUS_OK = true <;> simp [hok, hwas]

/-- A later judgement raises an event at a change only. -/
theorem censusJudge_later (s : State) :
    s.censusJudge false =
      let v := s.wr F.CFG_CENSUS_STATUS_CENSUS_OK (b2n s.censusOk)
      if s.censusOk ∧ ¬ s.on F.CFG_CENSUS_STATUS_CENSUS_OK then v.raise 0x0202 0
      else if ¬ s.censusOk ∧ s.on F.CFG_CENSUS_STATUS_CENSUS_OK then v.raise 0x0201 0
      else v := by
  dsimp only [State.censusJudge]
  simp only [Bool.false_eq_true, or_false]

-- the counts (R71)

/-- The entries that hold a peer, and those of them whose vintage agrees. -/
def State.censusEntries (s : State) : List Nat := (List.range 64).filter s.censusValid
def State.censusAgreeing (s : State) : List Nat :=
  (List.range 64).filter (fun i => s.censusValid i && s.on (F.CFG_CENSUS_E_NUMBER_AGREE i))

theorem censusCount_eq (s : State) :
    s.censusCount =
      ((s.wr F.CFG_CENSUS_STATUS_SEEN s.censusEntries.length).wr F.CFG_CENSUS_STATUS_AGREE s.censusAgreeing.length).wr
        F.CFG_CENSUS_STATUS_DISAGREE (s.censusEntries.length - s.censusAgreeing.length) := by
  have h : s.censusEntries.filter (fun i => s.on (F.CFG_CENSUS_E_NUMBER_AGREE i)) = s.censusAgreeing := by
    rw [State.censusEntries, List.filter_filter]
    exact List.filter_congr fun i _ => Bool.and_comm ..
  rw [← h]
  rfl

theorem length_filter_range_le (n : Nat) (p : Nat → Bool) : ((List.range n).filter p).length ≤ n :=
  (List.length_filter_le ..).trans (List.length_range ..).le

theorem censusCount_seen (s : State) : s.censusCount.rd F.CFG_CENSUS_STATUS_SEEN = s.censusEntries.length := by
  have h : s.censusEntries.length < 2 ^ 7 := (length_filter_range_le 64 _).trans_lt (by decide)
  rw [censusCount_eq, rd_wr_other _ _ _ (by decide) _ (by decide), rd_wr_other _ _ _ (by decide) _ (by decide),
    rd_wr_same _ _ (by decide)]
  exact Nat.mod_eq_of_lt h

theorem censusCount_agree (s : State) : s.censusCount.rd F.CFG_CENSUS_STATUS_AGREE = s.censusAgreeing.length := by
  have h : s.censusAgreeing.length < 2 ^ 7 := (length_filter_range_le 64 _).trans_lt (by decide)
  rw [censusCount_eq, rd_wr_other _ _ _ (by decide) _ (by decide), rd_wr_same _ _ (by decide)]
  exact Nat.mod_eq_of_lt h

theorem censusCount_disagree (s : State) :
    s.censusCount.rd F.CFG_CENSUS_STATUS_DISAGREE = s.censusEntries.length - s.censusAgreeing.length := by
  have h : s.censusEntries.length < 2 ^ 7 := (length_filter_range_le 64 _).trans_lt (by decide)
  rw [censusCount_eq, rd_wr_same _ _ (by decide)]
  exact Nat.mod_eq_of_lt ((Nat.sub_le ..).trans_lt h)

/-- The census is in order by R72. -/
theorem censusOk_iff (s : State) :
    s.censusOk = true ↔ s.rd F.CFG_CENSUS_STATUS_SEEN = s.rd F.CFG_CENSUS_CFG_EXP_PEERS ∧
      s.rd F.CFG_CENSUS_STATUS_DISAGREE = 0 ∧ s.rd F.CFG_VINTAGE_NUMBER = s.rd F.CFG_VINTAGE_EXP_VINTAGE ∧
      s.on F.CFG_CENSUS_STATUS_OVERFLOW = false := by
  simp only [State.censusOk, Bool.and_eq_true, decide_eq_true_eq, beq_iff_eq, Bool.not_eq_true', and_assoc]

/-- Settles O13, by whether SETTLE has passed and whether the census has been judged before. -/
theorem censusJudgement : Obligations.CensusJudgement := by
  intro s ha
  refine ⟨fun t hf h => by rw [exec_censusSettle ha, censusSettle_early hf h], fun t hf hs h => ?first, fun hd => ⟨?later, ?counts⟩⟩
  case first =>
    rw [exec_censusSettle ha, censusSettle_due ha hf hs h, censusJudge_first]
  case later =>
    rw [exec_censusEvaluate ha, censusEvaluate_dirty hd, censusJudge_later]
  case counts =>
    refine ⟨censusCount_seen _, censusCount_agree _, ?_, censusOk_iff _⟩
    rw [censusCount_disagree, censusCount_seen, censusCount_agree]

end Sys2Proof.Machine
end

section
/-! PROOF. The configuration scrub and the confirmation of a trial. -/

namespace Sys2Proof.Machine

-- the scrub (R65)

theorem exec_configurationScrub (s : State) (d : List Byte) :
    exec (.configurationScrub d) s = .next (settle (s.configurationScrub (d.map (·.toNat)))) := rfl

/-- A group with its baseline and both readings. -/
abbrev ScrubItem := Nat × List Nat × Nat

/-- A group is in order: it has its baseline, and no upset disturbs its first reading. -/
def State.groupInOrder (s : State) (d : List Nat) (x : ScrubItem) : Prop :=
  s.groupDigest x.2.1 = x.2.2 ∧ d.contains x.1 = false

/-- One group of a scrub; a unit that the scrub has made fail-silent goes no further. -/
def State.scrubItem (d : List Nat) (s : State) (x : ScrubItem) : State :=
  if s.flt.silent then s else s.scrubGroup (d.contains x.1) x.1 x.2.1 x.2.2

theorem scrubItem_inOrder {s : State} {d : List Nat} {x : ScrubItem} (h : s.flt.silent = true ∨ s.groupInOrder d x) :
    s.scrubItem d x = s := by
  rcases h with hs | ⟨hd, hc⟩
  · exact if_pos hs
  · unfold State.scrubItem
    split
    · rfl
    · exact if_pos ⟨by simp [hd], ne_true_of_eq_false hc⟩

/-- Groups in order, and all groups once the unit is silent, leave the state as it is. -/
theorem scrubItems_inOrder {s : State} {d : List Nat} : ∀ {l : List ScrubItem},
    (∀ x ∈ l, s.flt.silent = true ∨ s.groupInOrder d x) → l.foldl (State.scrubItem d) s = s
  | [], _ => rfl
  | x :: l, h => by
    rw [List.foldl_cons, scrubItem_inOrder (h x (List.mem_cons_self ..))]
    exact scrubItems_inOrder fun y hy => h y (List.mem_cons_of_mem _ hy)

/-- A group without its baseline makes the unit fail-silent. -/
theorem scrubItem_lasting {s : State} {d : List Nat} {x : ScrubItem} (hs : s.flt.silent = false) (hx : s.groupDigest x.2.1 ≠ x.2.2) :
    s.scrubItem d x = ((s.wr F.CFG_SCRUB_STATUS_LAST_GROUP x.1).raise 0x0203 x.1).failSilent 6 x.1 := by
  simp [State.scrubItem, State.scrubGroup, hs, hx]

/-- A disturbed reading that its repetition does not bear out is counted. -/
theorem scrubItem_transient {s : State} {d : List Nat} {x : ScrubItem} (hs : s.flt.silent = false) (hx : s.groupDigest x.2.1 = x.2.2)
    (hd : d.contains x.1 = true) :
    s.scrubItem d x =
      ((s.wr F.CFG_SCRUB_STATUS_LAST_GROUP x.1).incSat F.CFG_SCRUB_STATUS_TRANSIENTS).detect 5 0 := by
  simp only [State.scrubItem, State.scrubGroup, hs, hx, hd]
  simp

/-- The scrub notes its time. -/
def State.scrubNoted (s : State) : State := { s with boot := { s.boot with scrubAt := s.clk.now } }

theorem groupInOrder_scrubNoted (s : State) (d : List Nat) (x : ScrubItem) : s.scrubNoted.groupInOrder d x ↔ s.groupInOrder d x :=
  Iff.rfl

theorem not_silent_of_alive {s : State} (ha : s.alive = true) : s.flt.silent = false := by
  simp only [State.alive, Bool.and_eq_true, Bool.not_eq_true'] at ha
  exact ha.1

theorem configurationScrub_idle {s : State} {d : List Nat} (h : s.boot.locked = false ∨ s.clk.now < s.boot.scrubAt + 100000000) :
    s.configurationScrub d = s :=
  if_pos (.inr (h.imp_left ne_true_of_eq_false))

section
variable {s : State} (ha : s.alive = true) (hl : s.boot.locked = true) (ht : s.boot.scrubAt + 100000000 ≤ s.clk.now)
include ha hl ht

/-- The groups that a scrub goes through, with their baselines. -/
theorem configurationScrub_due (d : List Nat) :
    s.configurationScrub d =
      (List.zip (List.range 256) (List.zip s.scrubGroups s.boot.baseline)).foldl (State.scrubItem d) s.scrubNoted :=
  if_neg (by simp [ha, hl, ht])

theorem configurationScrub_inOrder {d : List Nat}
    (h : ∀ y ∈ List.zip (List.range 256) (List.zip s.scrubGroups s.boot.baseline), s.groupInOrder d y) :
    s.configurationScrub d = s.scrubNoted := by
  rw [configurationScrub_due ha hl ht]
  exact scrubItems_inOrder fun y hy => .inr ((groupInOrder_scrubNoted s d y).mpr (h y hy))

section
variable {d : List Nat} {l r : List ScrubItem} {x : ScrubItem}
  (hz : List.zip (List.range 256) (List.zip s.scrubGroups s.boot.baseline) = l ++ x :: r) (h : ∀ y ∈ l, s.groupInOrder d y)
include hz h

/-- The scrub goes on from the first group that is not in order. -/
theorem configurationScrub_at : s.configurationScrub d = r.foldl (State.scrubItem d) (s.scrubNoted.scrubItem d x) := by
  have hl' : l.foldl (State.scrubItem d) s.scrubNoted = s.scrubNoted :=
    scrubItems_inOrder fun y hy => .inr ((groupInOrder_scrubNoted s d y).mpr (h y hy))
  rw [configurationScrub_due ha hl ht, hz, List.foldl_append, hl', List.foldl_cons]

theorem configurationScrub_lasting (hx : s.groupDigest x.2.1 ≠ x.2.2) :
    s.configurationScrub d = ((s.scrubNoted.wr F.CFG_SCRUB_STATUS_LAST_GROUP x.1).raise 0x0203 x.1).failSilent 6 x.1 := by
  have hitem := scrubItem_lasting (s := s.scrubNoted) (d := d) (not_silent_of_alive ha) hx
  rw [configurationScrub_at ha hl ht hz h, hitem]
  exact scrubItems_inOrder fun y _ => .inl (failSilent_silent ..)

/-- A transient, where the groups behind it are in order or the count has made the unit fail-silent. -/
theorem configurationScrub_transient (hx : s.groupDigest x.2.1 = x.2.2) (hd : d.contains x.1 = true) {v : State}
    (hv : v = ((s.scrubNoted.wr F.CFG_SCRUB_STATUS_LAST_GROUP x.1).incSat F.CFG_SCRUB_STATUS_TRANSIENTS).detect 5 0)
    (hr : ∀ y ∈ r, v.flt.silent = true ∨ v.groupInOrder d y) : s.configurationScrub d = v := by
  have hitem := scrubItem_transient (s := s.scrubNoted) (d := d) (not_silent_of_alive ha) hx hd
  rw [configurationScrub_at ha hl ht hz h, hitem, ← hv]
  exact scrubItems_inOrder hr

end

end

-- the trial (R79)

theorem exec_trialConfirm {s : State} (ha : s.alive = true) : exec .trialConfirm s = .next (settle s.trialConfirm) := finish_live ha _

theorem trialConfirm_early {s : State} {t : Nat} (hf : s.boot.forwardAt = some t)
    (h : s.clk.now < t + s.rd F.CFG_CENSUS_HOLD_TRIAL_HOLD * 1000000000) : s.trialConfirm = s := by
  simp only [State.trialConfirm, hf]
  exact if_neg fun hc => absurd hc.2 (not_le.mpr h)

theorem trialConfirm_due {s : State} {t : Nat} (ha : s.alive = true) (hf : s.boot.forwardAt = some t)
    (h : t + s.rd F.CFG_CENSUS_HOLD_TRIAL_HOLD * 1000000000 ≤ s.clk.now) : s.trialConfirm = s.confirmTrial := by
  simp only [State.trialConfirm, hf]
  exact if_pos ⟨ha, h⟩

theorem confirmTrial_running {s : State} {c : Nat} {r : BootRec} (hb : s.bootRec = some (c, r)) (ht : s.on F.CFG_STATUS_TRIAL = true)
    (hr : r.trial = 2) :
    s.confirmTrial =
      (s.writeBootRec { r with active := r.armed, activeV := r.armedV, activeFp := r.armedFp, armed := 0xFF, armedV := 0,
                               armedFp := 0, trial := 0, outcome := 1 }).wr F.CFG_STATUS_TRIAL 0 := by
  simp only [State.confirmTrial, hb]
  exact if_pos ⟨ht, hr⟩

/-- Settles O14: the scrub by its first group that is not in order, and the trial by TRIAL_HOLD. -/
theorem scrubAndTrialRun : Obligations.ScrubAndTrialRun := by
  intro s ha
  refine ⟨fun hl ht d => ?scrub, fun d h => by rw [exec_configurationScrub, configurationScrub_idle h],
    fun t hf => ⟨fun c r h hb ht hr => ?due, fun h => by rw [exec_trialConfirm ha, trialConfirm_early hf h]⟩⟩
  case scrub =>
    rw [exec_configurationScrub]
    exact ⟨fun h => by rw [configurationScrub_inOrder ha hl ht h]; rfl, fun l x r hz h =>
      ⟨fun hx => by rw [configurationScrub_lasting ha hl ht hz h hx]; rfl,
        fun hx hd hr => by rw [configurationScrub_transient ha hl ht hz h hx hd rfl hr]; rfl⟩⟩
  case due => rw [exec_trialConfirm ha, trialConfirm_due ha hf h, confirmTrial_running hb ht hr]

end Sys2Proof.Machine
end

section
/-! PROOF. Staging: what an accepted request acts on, when one waits for a bottling, and each command in the state of Table 2-13 that
takes it. -/

namespace Sys2Proof.Machine

-- accepted requests (R655)

/-- An accepted request acts in the state that has counted its CMAC job and taken its COUNTER. -/
theorem finish_maint {s : State} {r : MaintReq} {cmd : Nat} (h : s.accepts r cmd) (act : State → State) :
    finish (s.maint r cmd act) = .next (settle (act (s.accepted r))) := by
  obtain ⟨hruns, hversion, hcmac, hfits⟩ := h
  rw [State.maint, if_neg (by simp [hruns, hversion])]
  dsimp only
  rw [hcmac, if_pos ⟨rfl, hfits⟩]
  rfl

/-- Accepting a request neither ends a bottling nor makes a request wait. -/
theorem stageFree_accepted (s : State) (r : MaintReq) : (s.accepted r).stageFree ↔ s.stageFree := Iff.rfl

-- waiting for a bottling (R76)

theorem stageHolds_free {u : State} {cmd : Nat} (r : MaintReq) (h : u.stageFree) (hc : cmd ≠ 0x11) : u.stageHolds cmd r = false := by
  rcases h with h | h <;> simp [State.stageHolds, h, hc]

theorem stageHolds_idle {u : State} (cmd : Nat) (r : MaintReq) (h : u.flt.bottling = none) : u.stageHolds cmd r = false := by
  simp [State.stageHolds, h]

theorem stageHolds_write {u : State} {r : MaintReq} (h5 : 5 ≤ r.args.length) (h1028 : r.args.length ≤ 1028)
    (hb : u.flt.bottling.isSome = true)
    (h : u.boot.stageWait ≠ [] ∨ u.stageTakes (beNat (r.args.take 4)) (r.args.length - 4) = true) : u.stageHolds 0x11 r = true := by
  rcases h with h | h <;> simp [State.stageHolds, hb, h5, h1028, h]

/-- A request without arguments, with none waiting for a bottling, is carried out and answered with its status. -/
theorem finish_stageCommand {s : State} {r : MaintReq} {cmd : Nat} (h : s.accepts r cmd) (hf : s.stageFree) (hc : cmd ≠ 0x11)
    (hargs : r.args = []) {t : State} {status : Nat}
    (ht : (s.accepted r).stageNow cmd r = (s.accepted r).maintStatus r cmd (t, status)) :
    finish (s.maint r cmd (fun s => s.stageCommand cmd r)) = .next (settle (t.maintRespond r cmd status [])) := by
  have hfree : (s.accepted r).stageHolds cmd r = false := stageHolds_free r ((stageFree_accepted s r).mpr hf) hc
  rw [finish_maint h, State.stageCommand, if_neg (by simp [hfree]), ht, State.maintStatus, if_pos hargs]

section
variable {s : State} {r : MaintReq} {t : State} (hf : s.stageFree) (hargs : r.args = [])
include hf hargs

theorem exec_stageBegin (h : s.accepts r 0x10) (ht : (s.accepted r).stageBegin = (t, 0)) :
    exec (.stageBegin r) s = .next (settle (t.maintRespond r 0x10 0 [])) :=
  finish_stageCommand h hf (by decide) hargs (congrArg (State.maintStatus _ r 0x10) ht)

theorem exec_stageVerify (h : s.accepts r 0x12) (ht : (s.accepted r).stageVerify = (t, 0)) :
    exec (.stageVerify r) s = .next (settle (t.maintRespond r 0x12 0 [])) :=
  finish_stageCommand h hf (by decide) hargs (congrArg (State.maintStatus _ r 0x12) ht)

theorem exec_arm (h : s.accepts r 0x13) (ht : (s.accepted r).arm = (t, 0)) :
    exec (.arm r) s = .next (settle (t.maintRespond r 0x13 0 [])) :=
  finish_stageCommand h hf (by decide) hargs (congrArg (State.maintStatus _ r 0x13) ht)

theorem exec_disarm (h : s.accepts r 0x14) (ht : (s.accepted r).disarm = (t, 0)) :
    exec (.disarm r) s = .next (settle (t.maintRespond r 0x14 0 [])) :=
  finish_stageCommand h hf (by decide) hargs (congrArg (State.maintStatus _ r 0x14) ht)

theorem exec_stageAbort (h : s.accepts r 0x15) (ht : (s.accepted r).stageAbort = (t, 0)) :
    exec (.stageAbort r) s = .next (settle (t.maintRespond r 0x15 0 [])) :=
  finish_stageCommand h hf (by decide) hargs (congrArg (State.maintStatus _ r 0x15) ht)

end

theorem exec_stageCheckDone {s : State} (ha : s.alive = true) :
    exec .stageCheckDone s = .next (settle s.stageCheckDone) := finish_live ha _

section
variable {s : State} {r : MaintReq} (h : s.accepts r 0x11) (h5 : 5 ≤ r.args.length) (h1028 : r.args.length ≤ 1028)
include h h5 h1028

/-- A STAGE_WRITE of a legal length, with no bottling, is carried out and answered with its status. -/
theorem exec_stageWrite_now {t : State} (hb : (s.accepted r).flt.bottling = none)
    (ht : (s.accepted r).stageWrite (beNat (r.args.take 4)) (r.args.drop 4) = (t, 0)) :
    exec (.stageWrite r) s = .next (settle (t.maintRespond r 0x11 0 [])) := by
  have hholds := stageHolds_idle 0x11 r hb
  have hnow : (s.accepted r).stageNow 0x11 r = t.maintRespond r 0x11 0 [] := by
    refine (if_neg (by omega)).trans ?_
    rw [State.stageWriteNow, ht]
  show finish (s.maint r 0x11 (fun s => s.stageCommand 0x11 r)) = _
  rw [finish_maint h, State.stageCommand, if_neg (by simp [hholds]), hnow]

theorem exec_stageWrite_waits (hb : (s.accepted r).flt.bottling.isSome = true)
    (hw : (s.accepted r).boot.stageWait ≠ [] ∨
      (s.accepted r).stageTakes (beNat (r.args.take 4)) (r.args.length - 4) = true) :
    exec (.stageWrite r) s = .next (settle { s.accepted r with
      boot := { (s.accepted r).boot with stageWait := (s.accepted r).boot.stageWait ++ [(0x11, r)] } }) :=
  (finish_maint h _).trans (congrArg (Host.Outcome.next ∘ settle) (if_pos (stageHolds_write h5 h1028 hb hw)))

end

-- the commands in the states that take them (Table 2-13)

theorem stageBegin_idle {u : State} (hs : u.stageState = 0) (ht : u.on F.CFG_STATUS_TRIAL = false) :
    u.stageBegin =
      ((((u.erase (slotAt (1 - u.rd F.CFG_STATUS_BOOT_SLOT)) slotBytes).wr F.CFG_STAGE_STATUS_BYTES 0).wr F.CFG_STAGE_STATUS_SLOT
        (1 - u.rd F.CFG_STATUS_BOOT_SLOT)).setStage 1, 0) := by
  rw [State.stageBegin, if_neg (not_not.mpr hs), if_neg (by simp [ht])]

theorem stageWrite_writing {u : State} {o : Nat} {b : List Byte} (hs : u.stageState = 1) (ho : o = u.rd F.CFG_STAGE_STATUS_BYTES)
    (hfit : o + b.length ≤ slotBytes) :
    u.stageWrite o b =
      ((u.program (slotAt (u.rd F.CFG_STAGE_STATUS_SLOT) + o) b).wr F.CFG_STAGE_STATUS_BYTES (o + b.length), 0) := by
  simp only [State.stageWrite, hs]
  rw [if_neg (not_not.mpr ho), if_neg (not_lt.mpr hfit)]

theorem stageVerify_writing {u : State} (hs : u.stageState = 1) : u.stageVerify = (u.setStage 2, 0) := by
  simp only [State.stageVerify, hs]

/-- The check's end shows its cause, and the staged image when there is none. -/
theorem stageCheckDone_verifying {s : State} (hs : s.stageState = 2) :
    s.stageCheckDone =
      let v := s.wr F.CFG_STAGE_VINTAGE_CAUSE (s.imgCause (s.rd F.CFG_STAGE_STATUS_SLOT))
      if s.imgCause (s.rd F.CFG_STAGE_STATUS_SLOT) = 0 then
        ((v.wr F.CFG_STAGE_VINTAGE_NUMBER (v.imgVintage (s.rd F.CFG_STAGE_STATUS_SLOT))).setPair R.CFG_STAGE_FP_LO R.CFG_STAGE_FP_HI
          (v.imgPrint (s.rd F.CFG_STAGE_STATUS_SLOT))).setStage 3
      else v.setStage 4 := if_neg (not_not.mpr hs)

theorem arm_verified {u : State} (hs : u.stageState = 3) :
    u.arm =
      ((u.writeBootRec { u.bootRecNow with
          armed := u.rd F.CFG_STAGE_STATUS_SLOT, armedV := u.rd F.CFG_STAGE_VINTAGE_NUMBER,
          armedFp := u.pair R.CFG_STAGE_FP_LO R.CFG_STAGE_FP_HI, trial := 1 }).setStage 5, 0) := if_neg (not_not.mpr hs)

theorem disarm_armed {u : State} (hs : u.stageState = 5) :
    u.disarm = ((u.writeBootRec (u.bootRecNow.unarm u.bootRecNow.outcome)).setStage 3, 0) := if_neg (not_not.mpr hs)

theorem stageAbort_eq (u : State) :
    u.stageAbort =
      (if u.stageState = 0 then u
        else if u.stageState = 5 then (u.writeBootRec (u.bootRecNow.unarm u.bootRecNow.outcome)).setStage 0
        else (u.setStage 0).wr F.CFG_STAGE_VINTAGE_CAUSE 0, 0) := by
  unfold State.stageAbort
  split
  next h0 => rw [if_pos h0]
  next h5 => rw [h5, if_neg (by decide), if_pos rfl]
  next h0 h5 => rw [if_neg h0, if_neg h5]

/-- Settles O15, command by command, each in the state of Table 2-13 that takes it. -/
theorem stagingRuns : Obligations.StagingRuns := by
  intro s r
  exact ⟨fun h hf hargs hs ht => exec_stageBegin hf hargs h (stageBegin_idle hs ht),
    fun h h5 h1028 hb hs ho hfit => exec_stageWrite_now h h5 h1028 hb (stageWrite_writing hs ho hfit),
    fun h h5 h1028 hb hw => exec_stageWrite_waits h h5 h1028 hb hw,
    fun h hf hargs hs => exec_stageVerify hf hargs h (stageVerify_writing hs),
    fun ha hs => by rw [exec_stageCheckDone ha, stageCheckDone_verifying hs],
    fun h hf hargs hs => exec_arm hf hargs h (arm_verified hs),
    fun h hf hargs hs => exec_disarm hf hargs h (disarm_armed hs),
    fun h hf hargs => exec_stageAbort hf hargs h (stageAbort_eq _)⟩

end Sys2Proof.Machine
end

section
/-! PROOF. Requests of the partner on the bridge, and the answers to the unit's own requests. -/

namespace Sys2Proof.Machine

-- the gates

theorem alive_of_bridgeHears {s : State} (h : s.bridgeHears = true) : s.alive = true := by
  simp only [State.bridgeHears, Bool.and_eq_true] at h
  exact h.1.1

/-- An effect that changes nothing takes place in no unit. -/
theorem finish_live_id {s : State} {f : State → State} (h : f s = s) : finish (s.live f) = .next (settle s) := by
  rw [State.live, h, ite_self, finish_eq]

/-- A taken frame leaves memory, the bring-up step and the fail-silence as they are. -/
theorem forwarding_linkTaken (s : State) (vc : Nat) : (s.linkTaken vc).forwarding = s.forwarding := by
  obtain ⟨r, hr⟩ := linkTaken_changes s vc
  rw [hr]
  rfl

theorem byte_linkTaken (s : State) (vc : Nat) : (s.linkTaken vc).byte = s.byte := by
  funext a
  rw [State.byte, (linkTaken_frame s vc).2.1, State.byte]

theorem linkTaken_clk (s : State) (vc : Nat) : (s.linkTaken vc).clk = s.clk := by
  obtain ⟨r, hr⟩ := linkTaken_changes s vc
  rw [hr]

-- a response leaves memory as it is

@[simp] theorem linkJob_mem (s : State) : s.linkJob.mem = s.mem := by
  obtain ⟨r, hr⟩ := linkJob_changes s
  rw [hr]

@[simp] theorem emit_mem (s : State) (vc : Nat) (m : LinkMsg) : (s.emit vc m).mem = s.mem := by
  unfold State.emit
  dsimp only
  split
  · rw [inc_mem, linkJob_mem, inc_mem, setQlb_mem]
  · rw [linkJob_mem, inc_mem, setQlb_mem]

@[simp] theorem linkSend_mem (s : State) (vc : Nat) (m : LinkMsg) : (s.linkSend vc m).mem = s.mem := by
  unfold State.linkSend
  split
  · rfl
  · split
    · exact emit_mem ..
    · exact setQlb_mem ..

@[simp] theorem respond_mem (s : State) (kind tag status data : Nat) : (s.respond kind tag status data).mem = s.mem := by
  unfold State.respond
  split
  · exact linkSend_mem ..
  · exact emit_mem ..

theorem byte_respond (s : State) (kind tag status data a : Nat) : (s.respond kind tag status data).byte a = s.byte a := by
  rw [State.byte, respond_mem, State.byte]

-- reads and writes of the partner (R569, R571)

theorem bridgeRead_unheard {s : State} (h : s.bridgeHears = false) (tag size addr : Nat) : s.bridgeRead tag size addr = s :=
  if_pos (ne_true_of_eq_false h)

theorem bridgeWrite_unheard {s : State} (h : s.bridgeHears = false) (tag size addr data : Nat) :
    s.bridgeWrite tag size addr data = s := if_pos (ne_true_of_eq_false h)

section
variable {s : State} (h : s.bridgeHears = true)
include h

theorem exec_bridgeRead (tag : Fin 32) (size : Byte) (addr : Word) :
    exec (.bridgeRead tag size addr) s = .next (settle (s.bridgeRead tag size.toNat addr.toNat)) := finish_live (alive_of_bridgeHears h) _

theorem exec_bridgeWrite (tag : Fin 64) (size : Byte) (addr data : Word) :
    exec (.bridgeWrite tag size addr data) s = .next (settle (s.bridgeWrite tag size.toNat addr.toNat data.toNat)) :=
  finish_live (alive_of_bridgeHears h) _

theorem exec_semAcq (tag sem : Fin 32) : exec (.semAcq tag sem) s = .next (settle (s.semAcq tag sem)) :=
  finish_live (alive_of_bridgeHears h) _

theorem exec_semRel (tag sem : Fin 32) : exec (.semRel tag sem) s = .next (settle (s.semRel tag sem)) :=
  finish_live (alive_of_bridgeHears h) _

/-- A read that is heard is answered by the unit's step, its size and its address. -/
theorem bridgeRead_heard (tag size addr : Nat) :
    s.bridgeRead tag size addr =
      let u := s.linkTaken 0
      if ¬ s.forwarding then u.respond 0x81 tag 1 0
      else if ¬ sizeOk size then u.respond 0x81 tag 2 0
      else if inSram addr size ∨ (0x18000000 ≤ addr ∧ addr + size ≤ 0x18020000) then
        u.respond 0x81 tag 0 (leNat (getBytes s.byte addr size))
      else (u.inc C.QLB_DENIED_IN).respond 0x81 tag 3 0 := by
  rw [State.bridgeRead, if_neg (not_not.mpr h)]
  dsimp only
  rw [forwarding_linkTaken, byte_linkTaken]

theorem bridgeWrite_heard (tag size addr data : Nat) :
    s.bridgeWrite tag size addr data =
      let u := s.linkTaken 0
      if ¬ s.forwarding then u.respond 0x82 tag 1 0
      else if ¬ sizeOk size then u.respond 0x82 tag 2 0
      else if inSram addr size then (u.store addr (leBytes size data)).respond 0x82 tag 0 0
      else (u.inc C.QLB_DENIED_IN).respond 0x82 tag 3 0 := by
  rw [State.bridgeWrite, if_neg (not_not.mpr h)]
  dsimp only
  rw [forwarding_linkTaken]

end

/-- Neither system SRAM nor the always-on SRAM holds the octets of a denied read. -/
theorem bridgeRead_denied_range {addr size : Nat} (hs : inSram addr size = false) (ha : addr < 0x18000000 ∨ 0x18020000 < addr + size) :
    ¬(inSram addr size = true ∨ (0x18000000 ≤ addr ∧ addr + size ≤ 0x18020000)) := by
  simp only [hs, Bool.false_eq_true, false_or]
  omega

/-- A write of the partner changes the bytes that it names alone. -/
theorem byte_bridgeStore (s : State) {addr size data kind tag a : Nat} (ha : a < addr ∨ addr + size ≤ a) :
    (((s.linkTaken 0).store addr (leBytes size data)).respond kind tag 0 0).byte a = s.byte a := by
  rw [byte_respond, byte_store_outside _ _ _ (by rwa [length_leBytes]), byte_linkTaken]

-- the semaphores of unit A (R577)

theorem semAcq_unheard {s : State} (h : s.bridgeHears = false ∨ s.unitB = true) (tag sem : Nat) : s.semAcq tag sem = s :=
  if_pos (h.imp_left ne_true_of_eq_false)

theorem semRel_unheard {s : State} (h : s.bridgeHears = false ∨ s.unitB = true) (tag sem : Nat) : s.semRel tag sem = s :=
  if_pos (h.imp_left ne_true_of_eq_false)

section
variable {s : State} (h : s.bridgeHears = true) (hb : s.unitB = false)
include h hb

theorem semAcq_heard (tag sem : Nat) :
    s.semAcq tag sem =
      let u := s.linkTaken 0
      if ¬ s.forwarding then u.respond 0x83 tag 1 0
      else if (u.regN R.QLB_SEM_HELD).testBit sem then u.respond 0x83 tag 4 0
      else ((u.setHeld sem true).setQlb { u.qlb with semPartner := u.qlb.semPartner ++ [sem] }).respond 0x83 tag 0 0 := by
  rw [State.semAcq, if_neg (by simp [h, hb])]
  dsimp only
  rw [forwarding_linkTaken]
  rfl

theorem semRel_heard (tag sem : Nat) :
    s.semRel tag sem =
      let u := s.linkTaken 0
      if ¬ s.forwarding then u.respond 0x83 tag 1 0
      else
        ((if u.qlb.semPartner.contains sem then
            (u.setHeld sem false).setQlb { u.qlb with semPartner := u.qlb.semPartner.filter (fun x => x != sem) }
          else u).respond 0x83 tag 0 0).takeSems 16 := by
  rw [State.semRel, if_neg (by simp [h, hb])]
  dsimp only
  rw [forwarding_linkTaken]
  rfl

end

end Sys2Proof.Machine
end

section
/-! PROOF. The answers of the partner to the unit's own requests, and the requests that wait too long. -/

namespace Sys2Proof.Machine

-- answers (R572, R573, R577)

section
variable {s : State} (ha : s.alive = true)
include ha

theorem exec_readRsp (tag : Fin 32) (status : Fin 5) (data : Word) :
    exec (.readRsp tag status data) s = .next (settle (s.readRsp tag status data.toNat)) := finish_live ha _

theorem exec_semRsp (tag : Fin 32) (status : Fin 5) : exec (.semRsp tag status) s = .next (settle (s.semRsp tag status)) :=
  finish_live ha _

theorem exec_writeAck (tag : Fin 64) (status : Fin 5) : exec (.writeAck tag status) s = .next (settle (s.writeAck tag status)) :=
  finish_live ha _

theorem exec_semRetry (tag : Fin 32) : exec (.semRetry tag) s = .next (settle (s.semRetry tag)) := finish_live ha _

theorem exec_bridgeTimeout (tag : Fin 64) : exec (.bridgeTimeout tag) s = .next (settle (s.bridgeTimeout tag)) := finish_live ha _

end

theorem readRsp_down {s : State} (h : s.linkIsUp = false) (tag status data : Nat) : s.readRsp tag status data = s :=
  if_pos (ne_true_of_eq_false h)

theorem writeAck_down {s : State} (h : s.linkIsUp = false) (tag status : Nat) : s.writeAck tag status = s :=
  if_pos (ne_true_of_eq_false h)

theorem semRsp_down {s : State} (h : s.linkIsUp = false) (tag status : Nat) : s.semRsp tag status = s :=
  if_pos (ne_true_of_eq_false h)

section
variable {s : State} (hup : s.linkIsUp = true) {tag status : Nat}
include hup

theorem readRsp_none {data : Nat}
    (h : (s.linkTaken 1).qlb.open_.find? (fun r => r.tag == tag && r.kind == 1) = none) : s.readRsp tag status data = s.linkTaken 1 := by
  rw [State.readRsp, if_neg (not_not.mpr hup)]
  simp only [h]

/-- The answer to a read that no guarded operation made gives its engine the data or a bus error. -/
theorem readRsp_plain {data : Nat} {r : OpenReq}
    (h : (s.linkTaken 1).qlb.open_.find? (fun r => r.tag == tag && r.kind == 1) = some r) (hg : r.guarded = false) :
    s.readRsp tag status data =
      let v := (s.linkTaken 1).dropReq r
      let w := v.setRdata r.engine (data % 2 ^ (8 * r.size))
      (if status ≠ 0 then v.readFails r.engine r.addr status
        else if r.reserve then
          w.setQlb { w.qlb with guardLr := sput none r.engine (some (0x40000000 + r.addr, data)) w.qlb.guardLr }
        else w).bridgeGoesOn := by
  rw [State.readRsp, if_neg (not_not.mpr hup)]
  simp only [h, hg, Bool.false_eq_true, if_false]

theorem writeAck_none (h : (s.linkTaken 1).qlb.open_.find? (fun r => r.tag == tag && r.kind == 2) = none) :
    s.writeAck tag status = s.linkTaken 1 := by
  rw [State.writeAck, if_neg (not_not.mpr hup)]
  simp only [h]

theorem writeAck_plain {r : OpenReq}
    (h : (s.linkTaken 1).qlb.open_.find? (fun r => r.tag == tag && r.kind == 2) = some r) (hg : r.guarded = false) :
    s.writeAck tag status =
      (if status ≠ 0 then ((s.linkTaken 1).dropReq r).farError r.engine r.addr status false
        else (s.linkTaken 1).dropReq r).bridgeGoesOn := by
  rw [State.writeAck, if_neg (not_not.mpr hup)]
  simp only [h, hg, Bool.false_eq_true, if_false]

theorem semRsp_none (h : (s.linkTaken 1).qlb.open_.find? (fun r => r.tag == tag && decide (3 ≤ r.kind)) = none) :
    s.semRsp tag status = s.linkTaken 1 := by
  rw [State.semRsp, if_neg (not_not.mpr hup)]
  simp only [h]

section
variable {r : OpenReq} (h : (s.linkTaken 1).qlb.open_.find? (fun r => r.tag == tag && decide (3 ≤ r.kind)) = some r)
include h

/-- A semaphore that is held asks for another try (R577). -/
theorem semRsp_busy (hk : r.kind = 3) (hs : status = 4) :
    s.semRsp tag status =
      ((s.linkTaken 1).dropReq r).setQlb { ((s.linkTaken 1).dropReq r).qlb with
        open_ := ((s.linkTaken 1).dropReq r).qlb.open_ ++ [{ r with since := s.clk.now, data := 1 }] } := by
  rw [State.semRsp, if_neg (not_not.mpr hup)]
  simp only [h]
  rw [if_pos ⟨hk, hs⟩, linkTaken_clk]

/-- With its semaphore, a guarded operation goes on at its word, or ends but for the release (R578). -/
def State.guardResumes (s : State) (e : Nat) (g : Guard) : State :=
  match (s.guardGranted e g).2 with
  | none => (s.guardGranted e g).1
  | some g' => (s.guardGranted e g).1.guardRelease e g'

/-- Any other answer takes the guarded operation of its engine further. -/
theorem semRsp_guard {g : Guard} (hg : (s.linkTaken 1).guardOf r.engine = some g) (hb : ¬(r.kind = 3 ∧ status = 4)) :
    s.semRsp tag status =
      let v := (s.linkTaken 1).dropReq r
      (if r.kind = 4 then v.guardEnds r.engine g
        else if status ≠ 0 then v.guardFails r.engine g status
        else v.guardResumes r.engine g).bridgeGoesOn := by
  have hg' : ((s.linkTaken 1).dropReq r).guardOf r.engine = some g := hg
  rw [State.semRsp, if_neg (not_not.mpr hup)]
  simp only [h]
  rw [if_neg hb]
  simp only [hg']
  rfl

end

end

-- retries and timeouts (R572, R573, R577)

theorem semRetry_none {s : State} {tag : Nat}
    (h : s.qlb.open_.find? (fun r => r.tag == tag && r.kind == 3 && r.data == 1) = none) : s.semRetry tag = s := by
  simp only [State.semRetry, h]

section
variable {s : State} {tag : Nat} {r : OpenReq}
  (h : s.qlb.open_.find? (fun r => r.tag == tag && r.kind == 3 && r.data == 1) = some r)
include h

theorem semRetry_due (hup : s.linkIsUp = true) (ht : r.since + 1000 ≤ s.clk.now) :
    s.semRetry tag = ((s.dropReq r).issue { r with data := 0 }).inc C.QLB_SEM_RETRIES := by
  simp only [State.semRetry, h]
  exact if_pos ⟨hup, ht⟩

theorem semRetry_early (ht : s.clk.now < r.since + 1000) : s.semRetry tag = s := by
  simp only [State.semRetry, h]
  exact if_neg fun hc => absurd hc.2 (not_le.mpr ht)

end

theorem bridgeTimeout_none {s : State} {tag : Nat} (h : s.qlb.open_.find? (fun r => r.tag == tag) = none) : s.bridgeTimeout tag = s := by
  simp only [State.bridgeTimeout, h]

/-- BRIDGE_TIMEOUT in nanoseconds. -/
def State.bridgeTimeoutNs (s : State) : Nat :=
  (if s.rd F.QLB_BRIDGE_BRIDGE_TIMEOUT = 0 then 100 else s.rd F.QLB_BRIDGE_BRIDGE_TIMEOUT) * 1000

section
variable {s : State} {tag : Nat} {r : OpenReq} (h : s.qlb.open_.find? (fun r => r.tag == tag) = some r)
include h

theorem bridgeTimeout_early (ht : s.clk.now < r.since + s.bridgeTimeoutNs) : s.bridgeTimeout tag = s := by
  simp only [State.bridgeTimeout, h]
  exact if_pos ht

/-- A request that no guarded operation made fails when its time has passed. -/
theorem bridgeTimeout_plain (ht : r.since + s.bridgeTimeoutNs ≤ s.clk.now) (hg : r.guarded = false) :
    s.bridgeTimeout tag =
      (if r.kind = 2 then (s.dropReq r).farError r.engine r.addr 6 false
        else if r.kind = 1 then (s.dropReq r).readFails r.engine r.addr 6
        else s.dropReq r).bridgeGoesOn := by
  simp only [State.bridgeTimeout, h, hg, Bool.false_eq_true, if_false]
  exact if_neg (not_lt.mpr ht)

end

end Sys2Proof.Machine
end

section
/-! PROOF. The accesses of an engine: loads and stores by the region that holds them, fences, and atomic accesses. -/

namespace Sys2Proof.Machine

-- loads and stores (R571 to R573, R630 to R632)

theorem exec_partnerWindowLoad (s : State) (e : Fin 8) (addr : Word) (size : Byte) :
    exec (.partnerWindowLoad e addr size) s = .next (settle (s.engineRead e addr.toNat size.toNat)) := rfl

theorem exec_partnerWindowStore (s : State) (e : Fin 8) (addr data : Word) (size : Byte) :
    exec (.partnerWindowStore e addr data size) s = .next (settle (s.engineWriteAny e addr.toNat data.toNat size.toNat)) := rfl

/-- An engine that does not act, or an access of no size, loads nothing. -/
theorem engineRead_idle {s : State} {e addr size : Nat} (h : s.engineActs e = false ∨ sizeOk size = false) :
    s.engineRead e addr size = s := if_pos (h.imp ne_true_of_eq_false ne_true_of_eq_false)

theorem engineStore_idle {s : State} {e addr data size : Nat} (h : s.engineActs e = false ∨ sizeOk size = false) :
    s.engineStore e addr data size = s := if_pos (h.imp ne_true_of_eq_false ne_true_of_eq_false)

/-- A store outside the registers, and one that has no effect, goes the way of all stores. -/
theorem engineWriteAny_store {s : State} {e addr data size : Nat}
    (h : span addr size ≠ .regs ∨ s.engineActs e = false ∨ sizeOk size = false) :
    s.engineWriteAny e addr data size = s.engineStore e addr data size := by
  refine if_neg ?_
  rintro ⟨hr, ha, hs⟩
  rcases h with h | h | h
  · exact h hr
  · simp [h] at ha
  · simp [h] at hs

theorem engineWriteAny_idle {s : State} {e addr data size : Nat} (h : s.engineActs e = false ∨ sizeOk size = false) :
    s.engineWriteAny e addr data size = s := (engineWriteAny_store (.inr h)).trans (engineStore_idle h)

section
variable {s : State} {e addr size : Nat} (ha : s.engineActs e = true) (hs : sizeOk size = true)
include ha hs

theorem engineRead_sram (h : span addr size = .sram) : s.engineRead e addr size = s.setRdata e (leNat (getBytes s.byte addr size)) := by
  simp [State.engineRead, State.engineLoad, ha, hs, h]

/-- A load where there is neither memory nor register ends with a bus error (R23). -/
theorem engineRead_none (h : span addr size = .none) : s.engineRead e addr size = s.busError e addr false 1 := by
  simp [State.engineRead, State.engineLoad, ha, hs, h]

theorem engineRead_partner (h : span addr size = .partner) :
    s.engineRead e addr size =
      if ¬ s.linkIsUp then s.readFails e (addr - 0x40000000) 5
      else s.request ⟨0, 1, e, size, addr - 0x40000000, 0, 0, false, false⟩ := by
  simp [State.engineRead, State.engineLoad, ha, hs, h]

variable {data : Nat}

theorem engineWriteAny_sram (h : span addr size = .sram) : s.engineWriteAny e addr data size = s.store addr (leBytes size data) := by
  rw [engineWriteAny_store (.inl (by simp [h]))]
  simp [State.engineStore, ha, hs, h]

theorem engineWriteAny_none (h : span addr size = .none) : s.engineWriteAny e addr data size = s.busError e addr true 1 := by
  rw [engineWriteAny_store (.inl (by simp [h]))]
  simp [State.engineStore, ha, hs, h]

theorem engineWriteAny_partner (h : span addr size = .partner) :
    s.engineWriteAny e addr data size =
      if ¬ s.linkIsUp then s.farError e (addr - 0x40000000) 5 false
      else s.request ⟨0, 2, e, size, addr - 0x40000000, data % 2 ^ (8 * size), 0, false, false⟩ := by
  rw [engineWriteAny_store (.inl (by simp [h]))]
  simp [State.engineStore, ha, hs, h]

end

-- fences (R574)

theorem exec_qlbFence (s : State) (e f : Fin 8) : exec (.qlbFence e f) s = .next (settle (s.fenceRead e f)) := rfl

theorem fenceRead_idle {s : State} {e : Nat} (h : s.engineActs e = false) (f : Nat) : s.fenceRead e f = s :=
  if_pos (ne_true_of_eq_false h)

section
variable {s : State} {e : Nat} (ha : s.engineActs e = true)
include ha

theorem fenceRead_other {f : Nat} (h : e ≠ f) : s.fenceRead e f = s.setRdata e (s.regN (R.QLB_FENCE f)) := by
  rw [State.fenceRead, if_neg (not_not.mpr ha), if_pos h]

theorem fenceRead_own :
    s.fenceRead e e = if s.writesOpen e then s.setQlb { s.qlb with fencing := s.qlb.fencing ++ [e] } else s.fenceDone e := by
  rw [State.fenceRead, if_neg (not_not.mpr ha), if_neg (not_not.mpr rfl)]

end

-- atomic accesses (R578, R579, R633)

theorem exec_lr (s : State) (e : Fin 8) (addr : Word) : exec (.lr e addr) s = .next (settle (s.loadReserved e addr.toNat)) := rfl

theorem exec_sc (s : State) (e : Fin 8) (addr data : Word) :
    exec (.sc e addr data) s = .next (settle (s.storeConditional e addr.toNat data.toNat)) := rfl

theorem exec_amo (s : State) (e : Fin 8) (op : AmoOp) (addr data : Word) :
    exec (.amo e op addr data) s = .next (settle (s.amo e op addr.toNat data.toNat)) := rfl

/-- An engine that does not act makes no atomic access. -/
theorem atomic_idle {s : State} {e : Nat} (h : s.engineActs e = false) (op : AmoOp) (addr data : Nat) :
    s.loadReserved e addr = s ∧ s.storeConditional e addr data = s ∧ s.amo e op addr data = s :=
  ⟨if_pos (ne_true_of_eq_false h), if_pos (ne_true_of_eq_false h), if_pos (ne_true_of_eq_false h)⟩

section
variable {s : State} {e addr : Nat} (ha : s.engineActs e = true)
include ha

theorem atomic_unaligned (h : addr % 4 ≠ 0) (op : AmoOp) (data : Nat) :
    s.loadReserved e addr = s.busError e addr false 5 ∧ s.storeConditional e addr data = s.busError e addr true 5 ∧
      s.amo e op addr data = s.busError e addr true 5 :=
  ⟨(if_neg (not_not.mpr ha)).trans (if_pos h), (if_neg (not_not.mpr ha)).trans (if_pos h),
    (if_neg (not_not.mpr ha)).trans (if_pos h)⟩

variable (h4 : addr % 4 = 0) (hr : region addr = .sram) (ho : s.ownShared addr = false)
include h4 hr ho

theorem loadReserved_sram :
    s.loadReserved e addr =
      { s.setRdata e (s.word addr) with
        eng := { (s.setRdata e (s.word addr)).eng with
          resv := sput none e (some addr) (s.setRdata e (s.word addr)).eng.resv } } := by
  simp [State.loadReserved, ha, h4, hr, ho]

/-- An SC drops the reservation, and writes only where it stood on its word (R633). -/
theorem storeConditional_sram (data : Nat) :
    s.storeConditional e addr data =
      let u := { s with eng := { s.eng with resv := sput none e none s.eng.resv } }
      if sget none s.eng.resv e = some addr then (u.storeWord addr data).setRdata e 0 else u.setRdata e 1 := by
  simp [State.storeConditional, ha, h4, hr, ho]

theorem amo_sram (op : AmoOp) (data : Nat) :
    s.amo e op addr data = (s.storeWord addr (amoValue op (s.word addr) data)).setRdata e (s.word addr) := by
  simp [State.amo, ha, h4, hr, ho]

end

end Sys2Proof.Machine
end

section
/-! PROOF. O57: what the bridge does, from the lemmas above. -/

namespace Sys2Proof.Machine

theorem status_ne_zero {status : Fin 5} (h : status ≠ 0) : (status : Nat) ≠ 0 := fun hv => h (Fin.ext hv)

/-- Settles O57: what the partner asks of the unit; the answers to the unit's own requests, their retries and their time; and the
accesses of an engine. -/
theorem bridgeServesBothUnits : Obligations.BridgeServesBothUnits := by
  intro s
  refine ⟨fun tag size addr => ⟨fun _ h => finish_live_id (bridgeRead_unheard h ..), fun h => ?read⟩,
    fun tag size addr data => ⟨fun h => finish_live_id (bridgeWrite_unheard h ..), ?write⟩,
    fun tag sem => ⟨fun h => ⟨finish_live_id (semAcq_unheard h ..), finish_live_id (semRel_unheard h ..)⟩, ?semaphores⟩,
    fun tag status data ha => ⟨fun hdown => ?down, fun hup =>
      ⟨fun h => ?readNone, fun r h hg => ?readSome, fun h => ?semNone, fun r g h hg => ?semSome, fun r h hk hs => ?semBusy⟩⟩,
    fun tag status h => finish_live_id (writeAck_down h ..),
    fun tag status ha hup h => ?ackNone, fun tag status r ha hup h hg => ?ackSome,
    fun tag h => finish_live_id (semRetry_none h), fun tag h => finish_live_id (bridgeTimeout_none h),
    fun tag r ha h => ?retry, fun tag r ha h hg => ?timeout,
    fun e f op size addr data => ⟨fun h => ?idle, fun ha =>
      ⟨fun hs h => ?sram, fun hs h hdown => ?partnerDown, fun hs => ?noSize, fun hs h => ?nothing, fun hs h hup => ?partnerUp,
        fun h => ?fenceOther, fun h => ?fenceOpen, fun h => ?fenceDone, fun h => ?unaligned, fun h4 hr ho => ?atomic⟩⟩⟩
  case read =>
    rw [exec_bridgeRead h, bridgeRead_heard h]
    refine ⟨fun hf => ?_, fun hf hs => ?_, fun hf hs => ⟨fun ha => ?_, fun h1 h2 => ?_, fun hn ha => ?_⟩⟩
    · simp [hf]
    · simp [hf, hs]
    · simp [hf, hs, ha]
    · simp [hf, hs, h1, h2]
    · simp only [hf, hs, not_true_eq_false, if_false, if_neg (bridgeRead_denied_range hn ha)]
  case write =>
    refine ⟨fun h hf => ?_, fun h hf hs => ?_, fun h hf hs => ⟨fun hin => ⟨?_, fun a ha => byte_bridgeStore s ha⟩,
      fun hout => ⟨_, ?_, ?_, rfl⟩⟩⟩
    · rw [exec_bridgeWrite h, bridgeWrite_heard h]
      simp [hf]
    · rw [exec_bridgeWrite h, bridgeWrite_heard h]
      simp [hf, hs]
    · rw [exec_bridgeWrite h, bridgeWrite_heard h]
      simp [hf, hs, hin]
    · rw [exec_bridgeWrite h, bridgeWrite_heard h]
      simp [hf, hs, hout]
    · rw [respond_mem, inc_mem, (linkTaken_frame s 0).2.1]
  case semaphores =>
    refine ⟨fun h hb hf => ⟨?_, ?_⟩, fun h hb hf => ⟨fun hh => ?_, fun hh => ?_, fun hc => ?_, fun hc => ?_⟩⟩
    · rw [exec_semAcq h, semAcq_heard h hb]
      simp [hf]
    · rw [exec_semRel h, semRel_heard h hb]
      simp [hf]
    · rw [exec_semAcq h, semAcq_heard h hb]
      simp [hf, hh]
    · rw [exec_semAcq h, semAcq_heard h hb]
      simp [hf, hh]
    · rw [exec_semRel h, semRel_heard h hb]
      simp only [hf, hc, not_true_eq_false, if_false, if_true]
    · rw [exec_semRel h, semRel_heard h hb]
      simp only [hf, hc, not_true_eq_false, if_false, Bool.false_eq_true]
  case down => exact ⟨by rw [exec_readRsp ha, readRsp_down hdown], by rw [exec_semRsp ha, semRsp_down hdown]⟩
  case readNone => rw [exec_readRsp ha, readRsp_none hup h]
  case readSome =>
    rw [exec_readRsp ha, readRsp_plain hup h hg]
    refine ⟨fun hs hr => ?_, fun hs hr => ?_, fun hs => ?_⟩
    · simp [hs, hr]
    · simp [hs, hr]
    · dsimp only
      rw [if_pos (status_ne_zero hs)]
  case semNone => rw [exec_semRsp ha, semRsp_none hup h]
  case semSome =>
    rw [exec_semRsp ha]
    refine ⟨fun hk => ?_, fun hk hs h4 => ?_, fun hk hs => ?_⟩
    · rw [semRsp_guard hup h hg (fun hb => by omega)]
      simp only [hk, if_true]
    · rw [semRsp_guard hup h hg (fun hb => h4 (Fin.ext hb.2))]
      dsimp only
      rw [if_neg (by omega), if_pos (status_ne_zero hs)]
    · have h0 : (status : Nat) = 0 := congrArg Fin.val hs
      rw [semRsp_guard hup h hg (fun hb => by omega)]
      dsimp only
      rw [if_neg (by omega), if_neg (not_not.mpr h0)]
      rfl
  case semBusy => rw [exec_semRsp ha, semRsp_busy hup h hk (congrArg Fin.val hs)]
  case ackNone => rw [exec_writeAck ha, writeAck_none hup h]
  case ackSome =>
    rw [exec_writeAck ha, writeAck_plain hup h hg]
    refine ⟨fun hs => ?_, fun hs => ?_⟩
    · simp [hs]
    · rw [if_pos (status_ne_zero hs)]
  case retry =>
    rw [exec_semRetry ha]
    exact ⟨fun hup ht => by rw [semRetry_due h hup ht], fun ht => by rw [semRetry_early h ht]⟩
  case timeout =>
    rw [exec_bridgeTimeout ha]
    refine ⟨fun ht => by rw [bridgeTimeout_early h ht], fun ht hk => ?_, fun ht hk => ?_⟩
    · rw [bridgeTimeout_plain h ht hg, if_neg (by omega), if_pos hk]
    · rw [bridgeTimeout_plain h ht hg, if_pos hk]
  case idle =>
    obtain ⟨hlr, hsc, hamo⟩ := atomic_idle h op addr.toNat data.toNat
    exact ⟨by rw [exec_partnerWindowLoad, engineRead_idle (.inl h)], by rw [exec_partnerWindowStore, engineWriteAny_idle (.inl h)],
      by rw [exec_qlbFence, fenceRead_idle h], by rw [exec_lr, hlr], by rw [exec_sc, hsc], by rw [exec_amo, hamo]⟩
  case sram =>
    exact ⟨by rw [exec_partnerWindowLoad, engineRead_sram ha hs h], by rw [exec_partnerWindowStore, engineWriteAny_sram ha hs h]⟩
  case partnerDown =>
    have hl : ¬ s.linkIsUp = true := ne_true_of_eq_false hdown
    exact ⟨by rw [exec_partnerWindowLoad, engineRead_partner ha hs h, if_pos hl],
      by rw [exec_partnerWindowStore, engineWriteAny_partner ha hs h, if_pos hl]⟩
  case noSize =>
    exact ⟨by rw [exec_partnerWindowLoad, engineRead_idle (.inr hs)], by rw [exec_partnerWindowStore, engineWriteAny_idle (.inr hs)]⟩
  case nothing =>
    exact ⟨by rw [exec_partnerWindowLoad, engineRead_none ha hs h], by rw [exec_partnerWindowStore, engineWriteAny_none ha hs h]⟩
  case partnerUp =>
    exact ⟨by rw [exec_partnerWindowLoad, engineRead_partner ha hs h, if_neg (not_not.mpr hup)],
      by rw [exec_partnerWindowStore, engineWriteAny_partner ha hs h, if_neg (not_not.mpr hup)]⟩
  case fenceOther => rw [exec_qlbFence, fenceRead_other ha (fun hv => h (Fin.ext hv))]
  case fenceOpen => rw [exec_qlbFence, fenceRead_own ha, if_pos h]
  case fenceDone => rw [exec_qlbFence, fenceRead_own ha, if_neg (ne_true_of_eq_false h)]
  case unaligned =>
    obtain ⟨hlr, hsc, hamo⟩ := atomic_unaligned ha h op data.toNat
    exact ⟨by rw [exec_lr, hlr], by rw [exec_sc, hsc], by rw [exec_amo, hamo]⟩
  case atomic =>
    refine ⟨by rw [exec_amo, amo_sram ha h4 hr ho], ?_, fun h => ?_, fun h => ?_⟩
    · rw [exec_lr, loadReserved_sram ha h4 hr ho]
      exact ⟨_, rfl, sget_sput_same .., sget_sput_same .., rfl⟩
    · rw [exec_sc, storeConditional_sram ha h4 hr ho]
      simp only [if_pos h]
    · rw [exec_sc, storeConditional_sram ha h4 hr ho]
      simp only [if_neg h]

end Sys2Proof.Machine
end

section
/-! PROOF. A calm state stands: none of what follows by itself has a cause in it. -/

namespace Sys2Proof.Machine

/-- Without a lasting fault there is no reaction (R672). -/
theorem react_idle {s : State} (hr : s.flt.react = 0) (hg : s.flt.reacting = false) : s.react = s := by
  have hflt : { s.flt with react := 0, reacting := false } = s.flt :=
    calc { s.flt with react := 0, reacting := false }
        = { s.flt with react := s.flt.react, reacting := s.flt.reacting } := by rw [hr, hg]
      _ = s.flt := rfl
  unfold State.react
  dsimp only
  rw [hflt, if_pos hr, ite_self]

theorem releaseDuty_none {s : State} (h : s.qlb.handover = none) : s.releaseDuty = s := by simp only [State.releaseDuty, h]

theorem challengeGoesOn_none {s : State} (h : s.eng.chalWait = none) : s.challengeGoesOn = s := by simp only [State.challengeGoesOn, h]

theorem stageGoesOn_none {s : State} (h : s.boot.stageWait = []) : s.stageGoesOn = s := if_pos (.inr (.inl h))

theorem pollGoesOn_none {s : State} (h : s.boot.pollEnd = none) : s.pollGoesOn = s := by simp only [State.pollGoesOn, h]

theorem giveUp_up {s : State} (h : s.down = false) : s.giveUp = s := if_neg (by simp [h])

theorem dueReset_none {s : State} (h : s.flt.due = 0) : s.dueReset = s := by simp only [State.dueReset, h]

/-- A wake already judged, or no forwarding yet, leaves nothing to confirm (R621). -/
theorem confirmWake_judged {s : State} (h : s.boot.forwardAt = none ∨ s.wak.judged = true) : s.confirmWake = s := by
  unfold State.confirmWake
  split
  · rfl
  · next t ht =>
    have hj : s.wak.judged = true := h.resolve_left (by simp [ht])
    exact if_pos (.inl hj)

/-- Need ends READY and PREPARE only (Table 14-4). -/
theorem wakEvaluate_idle {s : State} (h : s.boot.forwardAt = none ∨ s.wak.judged = true) (hready : s.agreement ≠ 1)
    (hprepare : s.agreement ≠ 2) : s.wakEvaluate = s := by
  unfold State.wakEvaluate
  rw [confirmWake_judged h]
  dsimp only
  split
  · contradiction
  · contradiction
  · rfl

/-- Each thing that could follow by itself lacks its cause in a calm state. -/
theorem settle_of_calm {s : State} (h : s.calm) : settle s = s := by
  obtain ⟨hdown, hreact, hreacting, hdue, hhand, hchal, hstage, hpoll, hwake, hready, hprepare⟩ := h
  simp only [settle, react_idle hreact hreacting, releaseDuty_none hhand, challengeGoesOn_none hchal, stageGoesOn_none hstage,
    ite_self, pollGoesOn_none hpoll, giveUp_up hdown, wakEvaluate_idle hwake hready hprepare, dueReset_none hdue]

/-- While the clocks stand a TIME cycle advances the time since the cold reset alone (log entry 6). -/
theorem tick_clocksOff {s : State} (h : s.clk.on = false) : tick s = settle s.tickNow := by
  have hon : ¬ s.tickNow.clk.on = true := ne_true_of_eq_false h
  rw [tick, if_neg hon]

theorem step_empty {s : State} (h : s.pending = []) : step s = .next (tick s) := by simp only [step, h]

/-- Settles O3: nothing has a cause in a calm state, and the time since the cold reset is no cause. -/
theorem idleStepsTick : Obligations.IdleStepsTick := by
  refine ⟨fun s => settle_of_calm, fun s hempty hoff hcalm => ?_⟩
  have hlater : s.tickNow.calm := hcalm
  rw [step_empty hempty, tick_clocksOff hoff, settle_of_calm hlater]
  rfl

end Sys2Proof.Machine
end

section
/-! PROOF. The steps of bring-up: what each command does at its step. -/

namespace Sys2Proof.Machine

theorem exec_aonReady {s : State} (hs : s.flt.silent = false) : exec .aonReady s = .next (settle s.aonReady) :=
  congrArg finish (unsilent_of_not_silent hs _)

theorem exec_pllLock {s : State} (hs : s.flt.silent = false) : exec .pllLock s = .next (settle s.pllLock) :=
  congrArg finish (unsilent_of_not_silent hs _)

theorem exec_imageStreamed (s : State) : exec .imageStreamed s = .next (settle s.imageStreamed) := rfl

theorem exec_signatureVerified (s : State) : exec .signatureVerified s = .next (settle s.signatureVerified) := rfl

theorem exec_pollTimeout (s : State) : exec .pollTimeout s = .next (settle s.pollTimeout) := rfl

theorem exec_forwarding (s : State) : exec .forwarding s = .next (settle s.reachForwarding) := rfl

/-- Step 1 leads to step 2 (Table 2-9). -/
theorem aonReady_starting {s : State} (h : s.boot.step = 1) : s.aonReady = { s with boot := { s.boot with step := 2 } } := if_pos h

/-- The state in which the clocks have started (R80, R83, R760, R761). -/
def State.clocksStarted (s : State) : State :=
  { s with clk := { s.clk with on := true, lc := 0, dc0 := 0, dc1 := 0, wt := 0, esi := 0, nextK := 5 } }

/-- After a cold reset BOOT of the cellar stays (R681). -/
theorem pllLock_cold {s : State} (h : s.boot.step = 2) (hc : s.rd F.DEV_RESET_CAUSE_CAUSE = 0) :
    s.pllLock = s.clocksStarted.checkBottles.loadPersistent.chooseSlot := by
  have hcold : s.clocksStarted.rd F.DEV_RESET_CAUSE_CAUSE = 0 := hc
  unfold State.pllLock
  rw [if_neg (not_not.mpr h)]
  exact congrArg (fun u : State => u.checkBottles.loadPersistent.chooseSlot) (if_pos hcold)

/-- After any other reset BOOT of the cellar counts it (R681). -/
theorem pllLock_other {s : State} (h : s.boot.step = 2) (hc : s.rd F.DEV_RESET_CAUSE_CAUSE ≠ 0) :
    s.pllLock = (s.clocksStarted.wr F.FLT_CELLAR_HEAD_BOOT
      (s.rd F.FLT_CELLAR_HEAD_BOOT + 1)).checkBottles.loadPersistent.chooseSlot := by
  have hother : s.clocksStarted.rd F.DEV_RESET_CAUSE_CAUSE ≠ 0 := hc
  unfold State.pllLock
  rw [if_neg (not_not.mpr h)]
  exact congrArg (fun u : State => u.checkBottles.loadPersistent.chooseSlot) (if_neg hother)

/-- The image, the fingerprint, the key hash and the boot record of a slot are in order (R43, R46, R48, R51, R57). -/
theorem imageStreamed_inOrder {s : State} (hs : s.flt.silent = false) (h : s.boot.step = 5) (himg : s.imgOk s.boot.slot = true)
    (hprint : (s.copyFirmware s.boot.slot).printOk s.boot.slot = true)
    (hkey : (s.copyFirmware s.boot.slot).keyHashOk s.boot.slot = true)
    (hrec : (s.copyFirmware s.boot.slot).recordOk s.boot.slot = true) :
    s.imageStreamed = { (s.copyFirmware s.boot.slot).wr F.CFG_STATUS_STATE 2 with
      boot := { (s.copyFirmware s.boot.slot).boot with step := 6 } } := by
  simp only [State.imageStreamed, h, hs, himg, hprint, hkey, hrec, ne_eq, not_true_eq_false, Bool.false_eq_true, or_self, if_false]

/-- A good signature shows the vintage and the fingerprint, and the image is applied over the default parameters (R51, R52). -/
theorem signatureVerified_good {s : State} (hs : s.flt.silent = false) (h : s.boot.step = 6)
    (hsig : s.signatureOk s.boot.slot = true) :
    s.signatureVerified = ((((s.wr F.CFG_STATUS_STATE 3).wr F.CFG_VINTAGE_NUMBER (s.imgVintage s.boot.slot)).setPair R.CFG_FP_LO
      R.CFG_FP_HI (s.imgPrint s.boot.slot)).setParams 0 (s.imgVintage s.boot.slot) 3 5 60).applyImage := by
  unfold State.signatureVerified
  rw [if_neg (by simp [h, hs]), if_neg (not_not.mpr hsig)]
  rfl

/-- A poll whose timeout has passed ends the slot (R44). -/
theorem pollTimeout_due {s : State} {t : Nat} (hs : s.flt.silent = false) (h : s.boot.step = 8) (hp : s.boot.pollEnd = some t)
    (ht : t ≤ s.clk.now) : s.pollTimeout = ({ s with boot := { s.boot with pollEnd := none } }).slotFailsOpen := by
  simp only [State.pollTimeout, hp]
  exact if_pos ⟨h, by simp [hs], ht⟩

/-- The state at step 12 once the boot record is settled and the services have started (R42, R56, R79, R545, R702). -/
def State.servicesStarted (s : State) : State :=
  (((({ s with boot := { s.boot with step := 12, forwardAt := some s.clk.now } }).wr F.CFG_STATUS_STATE 5).setRegN
    R.CFG_BRINGUP_TIME ((s.clk.now - s.boot.since) / 1000)).setTxOn 1).settleRecord.startService

/-- Step 12, with the census judged at once where SETTLE is 0 (R73). -/
theorem reachForwarding_step {s : State} (hs : s.flt.silent = false) (h : s.boot.step = 11) :
    s.reachForwarding = s.servicesStarted.atOnce (s.servicesStarted.rd F.CFG_CENSUS_HOLD_SETTLE) State.censusSettle := by
  unfold State.reachForwarding
  rw [if_neg (by simp [h, hs])]
  rfl

/-- Settles O11, step by step of bring-up. -/
theorem bringUpReachesItsSteps : Obligations.BringUpReachesItsSteps := by
  intro s hs
  refine ⟨fun h => ?_, fun h => ⟨fun hc => ?_, fun hc => ?_⟩, fun h himg hprint hkey hrec => ?_, fun h hsig => ?_,
    fun t h hp ht => ?_, fun h => ?_⟩
  · rw [exec_aonReady hs, aonReady_starting h]
  · rw [exec_pllLock hs, pllLock_cold h hc]; rfl
  · rw [exec_pllLock hs, pllLock_other h hc]; rfl
  · rw [exec_imageStreamed, imageStreamed_inOrder hs h himg hprint hkey hrec]
  · rw [exec_signatureVerified, signatureVerified_good hs h hsig]
  · rw [exec_pollTimeout, pollTimeout_due hs h hp ht]
  · rw [exec_forwarding, reachForwarding_step hs h]; rfl

end Sys2Proof.Machine
end

section
/-! PROOF. Reads of HEAD0: the oldest entry leaves its queue for the HEAD registers, and the engine reads the first of them. -/

namespace Sys2Proof.Machine

theorem exec_head0Read (e : Fin 8) (q : HeadQueue) (s : State) : exec (.head0Read e q) s = .next (settle (s.head0Read e q)) := rfl

/-- A queue without its oldest entry, the gap bit as it was (R110). -/
def hqRest (h : Hq) : Hq := ⟨h.q.drop 1, h.gap⟩

theorem hqPop_eq (h : Hq) : hqPop h = (h.q.head?, hqRest h) := by
  obtain ⟨q, gap⟩ := h
  cases q with
  | nil => rfl
  | cons l r => rfl

theorem popHq_eq (s : State) (h : Hq) (head n : Nat) (put : State → Hq → State) :
    s.popHq h head n put = (put s (hqRest h)).latchHead head n h.q.head? := by
  rw [State.popHq, hqPop_eq]

/-- An engine reads a register. -/
def State.readHead (s : State) (e head : Nat) : State := { s with eng := { s.eng with rdata := sput 0 e (s.reg head) s.eng.rdata } }

theorem setRdata_regN (s : State) (e head : Nat) : s.setRdata e (s.regN head) = s.readHead e head := by
  rw [State.setRdata, State.regN, BitVec.ofNat_toNat, BitVec.setWidth_eq]
  rfl

/-- The word of an entry that HEADi shows: 0 of an empty queue (R110). -/
def headWord (x : Option (List Word)) (i : Nat) : Word := match x with | some l => nth 0 l i | none => 0

theorem latchHead_succ (s : State) (head n : Nat) (x : Option (List Word)) :
    s.latchHead head (n + 1) x = (s.latchHead head n x).setReg (head + 4 * n) (headWord x n) := by
  rw [State.latchHead, List.range_succ, List.foldl_append]
  rfl

/-- The HEAD registers hold the words of the entry. -/
theorem reg_latchHead (s : State) (head : Nat) (x : Option (List Word)) {n i : Nat} (h : i < n) :
    (s.latchHead head n x).reg (head + 4 * i) = headWord x i := by
  induction n with
  | zero => omega
  | succ n ih =>
    rw [latchHead_succ]
    by_cases hi : i = n
    · rw [hi, reg_setReg_same]
    · rw [reg_setReg_ne _ (by omega), ih (by omega)]

/-- What a read of HEAD0 of queue `q` does that an engine makes which acts, where `h` is the queue, `put` puts it back and `head` is the
first of its `n` HEAD registers (R110). -/
theorem exec_head0Read_acts {s : State} {e : Fin 8} (ha : s.engineActs e = true) (q : HeadQueue) {h : Hq} {head n : Nat}
    {put : State → Hq → State} (hq : s.head0Read e q = if ¬ s.engineActs e then s
      else (s.popHq h head n put).setRdata e ((s.popHq h head n put).regN head)) :
    exec (.head0Read e q) s = .next (settle (((put s (hqRest h)).latchHead head n h.q.head?).readHead e head)) := by
  rw [exec_head0Read, hq, if_neg (not_not.mpr ha), popHq_eq, setRdata_regN]

/-- Settles O22, queue by queue; the HEAD registers hold the words of the entry taken. -/
theorem headReadsPopQueues : Obligations.HeadReadsPopQueues := by
  intro e s ha
  refine ⟨fun p => ?_, fun p => ?_, ?_, fun n => ?_, fun n => ?_, ?_, ?_, fun u head x => ⟨?_, ?_, ?_, ?_⟩⟩
  · rw [exec_head0Read_acts ha (.ingress p) rfl]; rfl
  · rw [exec_head0Read_acts ha (.egress p) rfl]; rfl
  · rw [exec_head0Read_acts ha .skew rfl]; rfl
  · rw [exec_head0Read_acts ha (.capture n) rfl]; rfl
  · rw [exec_head0Read_acts ha (.canTxEvent n) rfl]; rfl
  · rw [exec_head0Read_acts ha .farError rfl]; rfl
  · rw [exec_head0Read_acts ha .events rfl]; rfl
  · exact reg_latchHead u head x (i := 0) (by decide)
  · exact reg_latchHead u head x (i := 1) (by decide)
  · exact reg_latchHead u head x (i := 2) (by decide)
  · exact reg_latchHead u head x (i := 3) (by decide)

end Sys2Proof.Machine
end

section
/-! PROOF. The slew offset of a hand-over: the value it goes to, and the bounds that MAX and RAMP put on it. -/

namespace Sys2Proof.Machine

theorem exec_slewUpdate {s : State} (ha : s.alive = true) : exec .slewUpdate s = .next (settle s.slewUpdate) := finish_live ha _

theorem natAbs_le_nsUnit (x : Int) : (x.natAbs : Int) ≤ nsUnit ↔ x.natAbs ≤ 2 ^ 39 := by
  unfold nsUnit
  omega

theorem not_le_nsUnit {d : Int} (h : 2 ^ 39 < d.natAbs) : ¬ (d.natAbs : Int) ≤ nsUnit :=
  fun hle => Nat.not_le.mpr h ((natAbs_le_nsUnit d).mp hle)

/-- The bound of the slew offset, MAX of at least 100 ppb (R89). -/
def State.slewMost (s : State) : Int := max 100 (s.rd F.TSU_WT_SLEW_MAX) * 1000

/-- The offset that the residual calls for: the bound against it, or 0 where the ramp down has to begin (R89). -/
def State.slewWant (s : State) : Int :=
  if (s.clk.slewOff * s.clk.slewOff * 2 ^ 39 : Int) <
        ((s.residual s.wtSrc).natAbs : Int) * 2 * s.rd F.TSU_WT_SLEW_RAMP * 1000000000 ∨
      (s.rd F.TSU_WT_SLEW_RAMP = 0 ∧ s.residual s.wtSrc ≠ 0) then
    (if 0 < s.residual s.wtSrc then -s.slewMost else s.slewMost)
  else 0

/-- The offset that an update sets: the one called for, as near as RAMP lets it come (R89). -/
def State.slewNext (s : State) : Int :=
  if s.rd F.TSU_WT_SLEW_RAMP = 0 then s.slewWant
  else s.clk.slewOff + clampI (-(s.rd F.TSU_WT_SLEW_RAMP : Int)) (s.rd F.TSU_WT_SLEW_RAMP) (s.slewWant - s.clk.slewOff)

theorem slewUpdate_due {s : State} (hw : s.wtState = 2) (ht : s.clk.slewAt + 1000 ≤ s.clk.now) :
    s.slewUpdate = if ((s.residual s.wtSrc).natAbs : Int) ≤ nsUnit then
      ((((s.setWt (s.dc s.wtSrc)).setSlew 0).setWtState 1).raise 0x0302 0).noteMismatch else s.setSlew s.slewNext :=
  if_neg fun h => h.elim (fun hn => hn hw) (Nat.not_lt.mpr ht)

/-- What is clamped between a number and its negative. -/
theorem natAbs_clampI_le (r : Nat) (x : Int) : (clampI (-(r : Int)) r x).natAbs ≤ r := by
  unfold clampI
  split_ifs <;> omega

/-- An offset moved towards a value by a clamped amount passes neither. -/
theorem natAbs_approach_le {off want : Int} {r b : Nat} (hoff : off.natAbs ≤ b) (hwant : want.natAbs ≤ b) :
    (off + clampI (-(r : Int)) r (want - off)).natAbs ≤ b := by
  unfold clampI
  split_ifs <;> omega

theorem slewMost_eq (s : State) : s.slewMost = (max 100 (s.rd F.TSU_WT_SLEW_MAX) * 1000 : Nat) := by
  rw [State.slewMost, Nat.cast_mul, Nat.cast_max]
  rfl

theorem slewWant_bounded (s : State) : s.slewWant.natAbs ≤ max 100 (s.rd F.TSU_WT_SLEW_MAX) * 1000 := by
  unfold State.slewWant
  rw [slewMost_eq]
  split_ifs <;> omega

theorem slewNext_ramp {s : State} (h : s.rd F.TSU_WT_SLEW_RAMP ≠ 0) :
    (s.slewNext - s.clk.slewOff).natAbs ≤ s.rd F.TSU_WT_SLEW_RAMP := by
  rw [State.slewNext, if_neg h, add_sub_cancel_left]
  exact natAbs_clampI_le ..

theorem slewNext_bounded {s : State} (h : s.clk.slewOff.natAbs ≤ max 100 (s.rd F.TSU_WT_SLEW_MAX) * 1000) :
    s.slewNext.natAbs ≤ max 100 (s.rd F.TSU_WT_SLEW_MAX) * 1000 := by
  unfold State.slewNext
  split
  · exact slewWant_bounded s
  · exact natAbs_approach_le h (slewWant_bounded s)

/-- Settles O21: an update ends the hand-over or moves the offset towards the one called for. -/
theorem slewStaysBounded : Obligations.SlewStaysBounded := by
  intro s ha hw ht
  rw [exec_slewUpdate ha, slewUpdate_due hw ht]
  refine ⟨fun h => ?_, fun h => ⟨s.slewNext, ?_, slewNext_ramp, slewNext_bounded⟩⟩
  · rw [if_pos ((natAbs_le_nsUnit (s.residual s.wtSrc)).mpr h)]
  · rw [if_neg (not_le_nsUnit (d := s.residual s.wtSrc) h)]

end Sys2Proof.Machine
end

section
/-! PROOF. Pulse outputs and domain clocks: what a step of a clock leaves as it is, and how working time answers a step of a domain
(Table 3-2). -/

namespace Sys2Proof.Machine

-- pulse outputs touch their own control registers alone

/-- The registers of the pulse outputs lie above those of the clocks. -/
theorem ne_plsCtrl {a : Nat} (h : a < 0x20300A00) (n : Nat) : a ≠ R.TSU_PLS_CTRL n := by
  show a ≠ 0x20300A00 + n * 0x20
  omega

theorem regN_putPulse (s : State) (n : Nat) (p : Pls) {a : Nat} (h : a < 0x20300A00) : (s.putPulse n p).regN a = s.regN a :=
  regN_wr_ne _ _ (ne_plsCtrl h n) _

theorem plsStep_eq (s : State) (n : Nat) (d : Int) : ∃ p, s.plsStep n d = s.putPulse n p := by
  unfold State.plsStep
  dsimp only
  split <;> exact ⟨_, rfl⟩

/-- A step of a clock leaves every part of the state that a pulse output does not hold. -/
theorem pulsesStepped_frame {α : Type} (g : State → α) (hg : ∀ s n p, g (State.putPulse s n p) = g s) (s : State) (c : Nat) (d : Int) :
    g (s.pulsesStepped c d) = g s := by
  refine foldl_frame g (fun s n => ?_) _ s
  dsimp only
  split
  · obtain ⟨p, hp⟩ := plsStep_eq s n d
    rw [hp, hg]
  · rfl

theorem pulsesStepped_clk (s : State) (c : Nat) (d : Int) : (s.pulsesStepped c d).clk = s.clk :=
  pulsesStepped_frame State.clk (fun _ _ _ => rfl) s c d

theorem regN_pulsesStepped (s : State) (c : Nat) (d : Int) {a : Nat} (h : a < 0x20300A00) :
    (s.pulsesStepped c d).regN a = s.regN a :=
  pulsesStepped_frame (fun s => s.regN a) (fun s n p => regN_putPulse s n p h) s c d

-- domain clocks

theorem dc_setDc_same (s : State) (n : Nat) (v : Int) : (s.setDc n v).dc n = v := by
  unfold State.setDc State.dc
  split <;> rfl

theorem dc_setDc_other (s : State) (n : Fin 2) (v : Int) : (s.setDc n v).dc (1 - n) = s.dc (1 - n) := by
  match n with
  | 0 => rfl
  | 1 => rfl

theorem regN_setDc (s : State) (n : Nat) (v : Int) (a : Nat) : (s.setDc n v).regN a = s.regN a := by
  unfold State.setDc
  split <;> rfl

theorem setDc_lc_wt (s : State) (n : Nat) (v : Int) : (s.setDc n v).clk.lc = s.clk.lc ∧ (s.setDc n v).clk.wt = s.clk.wt := by
  unfold State.setDc
  split <;> exact ⟨rfl, rfl⟩

theorem dc_of_clk {s t : State} (h : t.clk = s.clk) (n : Nat) : t.dc n = s.dc n := by rw [State.dc, State.dc, h]

theorem rd_of_regN {s t : State} {f : Fld} (h : t.regN f.addr = s.regN f.addr) : t.rd f = s.rd f := by rw [State.rd, State.rd, h]

theorem tickClocks_dc (s : State) (n : Fin 2) : s.tickClocks.dc n = s.dc n + s.dcGain n := by
  match n with
  | 0 => rfl
  | 1 => rfl

-- RATE (R81, R82)

theorem exec_dcRate {s : State} {n : Fin 2} (h : s.writable (R.TSU_DC_RATE n)) (v : Word) :
    exec (.dcRate n v) s = .next (settle (s.setReg (R.TSU_DC_RATE n) v)) := by
  rw [show exec (.dcRate n v) s = .next (settle (s.dcRateWrite n v.toNat)) from finish_regLive h _, State.dcRateWrite, State.setRegN,
    BitVec.ofNat_toNat, BitVec.setWidth_eq]

/-- The two's-complement value of a word. -/
theorem sgn_toNat (v : Word) : sgn 32 v.toNat = v.toInt := by
  have hv := v.isLt
  unfold sgn
  rw [BitVec.toInt_eq_toNat_cond]
  dsimp only
  rw [Nat.mod_eq_of_lt hv]
  split_ifs <;> omega

theorem dcGain_setRate (s : State) (n : Nat) (v : Word) : (s.setReg (R.TSU_DC_RATE n) v).dcGain n = 2 ^ 41 + v.toInt := by
  have hrd : (s.setReg (R.TSU_DC_RATE n) v).rd (F.TSU_DC_RATE_RATE n) = v.toNat := by
    rw [State.rd, State.regN, reg_setReg_same, bits, Nat.shiftRight_zero, Nat.mod_eq_of_lt v.isLt]
  rw [State.dcGain, State.dcRate, hrd, sgn_toNat]

-- STEP (R82, Table 3-2)

theorem exec_dcStep {s : State} {n : Fin 2} (h : s.writable (R.TSU_DC_STEP_NS n)) (v : Word) :
    exec (.dcStep n v) s = .next (settle (s.dcStep n v.toNat)) := finish_regLive h _

/-- A domain clock after a step by `d`, with the schedules of the pulses that run on it (R82, R129). -/
def State.dcStepped (s : State) (n : Nat) (d : Int) : State :=
  ((s.setRegN (R.TSU_DC_STEP_S n) 0).setDc n (s.dc n + d)).pulsesStepped (2 + n) d

/-- What working time does at a step of a domain by `d` (Table 3-2). -/
def State.dcReaction (s : State) (n : Nat) (d : Int) : State :=
  match s.wtState with
  | 1 =>
    if s.wtSrc ≠ n then s
    else if d.natAbs ≤ nsUnit then s.setWt (s.clk.wt + d)
    else if s.within n then s.startHandover n
    else s.sourceUnfit (s.dcGain n)
  | 2 => if s.wtSrc = n ∧ ¬ s.within n then s.enterHoldover (s.dcGain n) else s
  | 3 => s.holdoverCheck
  | _ => s

theorem dcStep_standing {s : State} (h : s.clk.on = false) (n ns : Nat) : s.dcStep n ns = s := if_pos (by simp [h])

/-- The step, working time's answer, and the note of a mismatch; the two case splits agree whatever state working time is in. -/
theorem dcStep_running {s : State} (h : s.clk.on = true) (n ns : Nat) :
    s.dcStep n ns = ((s.dcStepped n (s.stepAmount n ns)).dcReaction n (s.stepAmount n ns)).noteMismatch := by
  have hstepped : ((s.setRegN (R.TSU_DC_STEP_S n) 0).setDc n ((s.setRegN (R.TSU_DC_STEP_S n) 0).dc n + s.stepAmount n ns)).pulsesStepped
      (2 + n) (s.stepAmount n ns) = s.dcStepped n (s.stepAmount n ns) := rfl
  unfold State.dcStep
  rw [if_neg (by simp [h])]
  dsimp only
  rw [hstepped]
  unfold State.dcReaction
  generalize (s.dcStepped n (s.stepAmount n ns)).wtState = w
  rfl

section
variable (s : State) (n : Fin 2) (d : Int)

theorem dcStepped_clk : (s.dcStepped n d).clk = ((s.setRegN (R.TSU_DC_STEP_S n) 0).setDc n (s.dc n + d)).clk := pulsesStepped_clk ..

theorem dcStepped_dc : (s.dcStepped n d).dc n = s.dc n + d := by rw [dc_of_clk (dcStepped_clk s n d), dc_setDc_same]

theorem dcStepped_dc_other : (s.dcStepped n d).dc (1 - n) = s.dc (1 - n) := by
  rw [dc_of_clk (dcStepped_clk s n d), dc_setDc_other]
  rfl

theorem dcStepped_lc_wt : (s.dcStepped n d).clk.lc = s.clk.lc ∧ (s.dcStepped n d).clk.wt = s.clk.wt := by
  rw [dcStepped_clk]
  exact setDc_lc_wt ..

theorem dcStepped_stepS : (s.dcStepped n d).regN (R.TSU_DC_STEP_S n) = 0 := by
  have hlow : R.TSU_DC_STEP_S n < 0x20300A00 := by
    show 0x20300110 + n.val * 0x20 < 0x20300A00
    omega
  rw [State.dcStepped, regN_pulsesStepped _ _ _ hlow, regN_setDc, regN_setRegN_same]
  rfl

theorem regN_dcStepped {a : Nat} (h : a < 0x20300110) : (s.dcStepped n d).regN a = s.regN a := by
  have hne : a ≠ R.TSU_DC_STEP_S n := by
    show a ≠ 0x20300110 + n.val * 0x20
    omega
  rw [State.dcStepped, regN_pulsesStepped _ _ _ (by omega), regN_setDc, regN_setRegN_ne _ hne]

theorem dcStepped_wtState : (s.dcStepped n d).wtState = s.wtState := rd_of_regN (regN_dcStepped s n d (by decide))

theorem dcStepped_wtSrc : (s.dcStepped n d).wtSrc = s.wtSrc := rd_of_regN (regN_dcStepped s n d (by decide))

end

section
variable {s : State} {n : Nat} {d : Int}

theorem dcReaction_free (h : s.wtState = 0) : s.dcReaction n d = s := by simp only [State.dcReaction, h]

theorem dcReaction_locked (h : s.wtState = 1) (hn : s.wtSrc = n) : s.dcReaction n d =
    if d.natAbs ≤ nsUnit then s.setWt (s.clk.wt + d) else if s.within n then s.startHandover n else s.sourceUnfit (s.dcGain n) := by
  simp only [State.dcReaction, h, hn, ne_eq, not_true_eq_false, if_false]

theorem dcReaction_locked_other (h : s.wtState = 1) (hn : s.wtSrc ≠ n) : s.dcReaction n d = s := by
  simp only [State.dcReaction, h]
  exact if_pos hn

theorem dcReaction_handover (h : s.wtState = 2) :
    s.dcReaction n d = if s.wtSrc = n ∧ ¬ s.within n then s.enterHoldover (s.dcGain n) else s := by
  simp only [State.dcReaction, h]

theorem dcReaction_holdover (h : s.wtState = 3) : s.dcReaction n d = s.holdoverCheck := by simp only [State.dcReaction, h]

end

theorem sourceUnfit_eq (w : State) (rate : Int) : w.sourceUnfit rate =
    if w.autoHandover = true ∧ w.usable (1 - w.wtSrc) = true ∧ w.within (1 - w.wtSrc) = true then w.startHandover (1 - w.wtSrc)
    else w.enterHoldover rate := by
  simp only [State.sourceUnfit, State.canFollow, Bool.and_eq_true]

/-- Settles O18: the step of the domain clock, then working time's answer by its state. -/
theorem domainClocksStep : Obligations.DomainClocksStep := by
  intro n v s
  refine ⟨fun hw => ⟨exec_dcRate hw v, dcGain_setRate s n v⟩, tickClocks_dc s n,
    fun hw hoff => by rw [exec_dcStep hw, dcStep_standing hoff], sourceUnfit_eq, fun hw hon => ?_⟩
  intro d u
  have hd : s.stepAmount n v.toNat = d := rfl
  have hu : s.dcStepped n d = u := rfl
  clear_value u d
  have hexec : exec (.dcStep n v) s = .next (settle (u.dcReaction n d).noteMismatch) := by
    rw [exec_dcStep hw, dcStep_running hon, hd, hu]
  have hstate : u.wtState = s.wtState := by rw [← hu, dcStepped_wtState]
  have hsrc : u.wtSrc = s.wtSrc := by rw [← hu, dcStepped_wtSrc]
  rw [hexec, ← hstate, ← hsrc]
  refine ⟨?dc, ?dcOther, ?lc, ?wt, ?stepS, fun h => ?free, fun h hn hd => ?small,
    fun h hn hd hin => ?within, fun h hn hd hout => ?beyond, fun h hn => ?other, fun h hn hout => ?target, fun h hn => ?stands,
    fun h => ?holdover⟩
  case dc => rw [← hu, dcStepped_dc]
  case dcOther => rw [← hu, dcStepped_dc_other]
  case lc => rw [← hu, (dcStepped_lc_wt s n d).1]
  case wt => rw [← hu, (dcStepped_lc_wt s n d).2]
  case stepS => rw [← hu, dcStepped_stepS]
  case free => rw [dcReaction_free h]
  case small => rw [dcReaction_locked h hn, if_pos ((natAbs_le_nsUnit d).mpr hd)]
  case within => rw [dcReaction_locked h hn, if_neg (not_le_nsUnit hd), if_pos hin]
  case beyond => rw [dcReaction_locked h hn, if_neg (not_le_nsUnit hd), if_neg (ne_true_of_eq_false hout)]
  case other => rw [dcReaction_locked_other h hn]
  case target =>
    have hc : u.wtSrc = n ∧ ¬ u.within n = true := ⟨hn, ne_true_of_eq_false hout⟩
    rw [dcReaction_handover h, if_pos hc]
  case stands =>
    have hc : ¬(u.wtSrc = n ∧ ¬ u.within n = true) := fun ⟨hs, hout⟩ => hn.elim (· hs) hout
    rw [dcReaction_handover h, if_neg hc]
  case holdover => rw [dcReaction_holdover h]

end Sys2Proof.Machine
end

section
/-! PROOF. The loss of a domain: what working time's answer to it leaves alone (Table 3-2, R85). -/

namespace Sys2Proof.Machine

theorem exec_domainLost {s : State} (ha : s.alive = true) (n : Fin 2) : exec (.domainLost n) s = .next (settle (s.domainLost n)) :=
  finish_live ha _

/-- An event with a bit: the bit is set, and the event goes to the two queues. -/
theorem raise_of_bit (s : State) {c p : Nat} {f : Fld} (h : evBit c p = some f) :
    s.raise c p = { s.wr f 1 with evq := s.evq ++ [s.event c p 0 0 0 false], fltq := s.fltq ++ [s.event c p 0 0 0 false] } := by
  rw [State.raise, State.raiseFull, h]
  rfl

theorem regN_raise (s : State) {c p a : Nat} {f : Fld} (h : evBit c p = some f) : (s.raise c p).regN a = (s.wr f 1).regN a := by
  rw [raise_of_bit s h]
  rfl

theorem on_raise (s : State) {c p : Nat} {f g : Fld} (h : evBit c p = some f) : (s.raise c p).on g = (s.wr f 1).on g := by
  rw [State.on, State.on, rd_of_regN (regN_raise s h)]

/-- What an answer of working time leaves alone: the registers but its own three, the domain clocks, and the events raised before, in
their queue and in their bits. -/
structure WtAnswer (s t : State) : Prop where
  regN : ∀ a, a ≠ R.TSU_CTRL → a ≠ R.TSU_WT_STATUS → a ≠ R.TSU_EVENT → t.regN a = s.regN a
  dc : ∀ n, t.dc n = s.dc n
  evq : s.evq <+: t.evq
  bit : ∀ i, i < 32 → s.on ⟨R.TSU_EVENT, i, 1⟩ = true → t.on ⟨R.TSU_EVENT, i, 1⟩ = true

theorem WtAnswer.refl (s : State) : WtAnswer s s := ⟨fun _ _ _ _ => rfl, fun _ => rfl, List.prefix_rfl, fun _ _ h => h⟩

theorem WtAnswer.trans {s t u : State} (h : WtAnswer s t) (k : WtAnswer t u) : WtAnswer s u :=
  ⟨fun a hc hw he => (k.regN a hc hw he).trans (h.regN a hc hw he), fun n => (k.dc n).trans (h.dc n), h.evq.trans k.evq,
    fun i hi hs => k.bit i hi (h.bit i hi hs)⟩

/-- The registers of the domains lie above those three. -/
theorem WtAnswer.rd {s t : State} (h : WtAnswer s t) {f : Fld} (hf : 0x20300100 ≤ f.addr) : t.rd f = s.rd f := by
  have hctrl : f.addr ≠ 0x20300000 := by omega
  have hstatus : f.addr ≠ 0x20300004 := by omega
  have hevent : f.addr ≠ 0x20300020 := by omega
  exact rd_of_regN (h.regN f.addr hctrl hstatus hevent)

theorem WtAnswer.usable {s t : State} (h : WtAnswer s t) (n : Nat) : t.usable n = s.usable n := by
  rw [State.usable, State.usable, State.on, State.on, h.rd (Nat.le_add_right ..)]

theorem WtAnswer.dcRate {s t : State} (h : WtAnswer s t) (n : Nat) : t.dcRate n = s.dcRate n := by
  have hlow : 0x20300100 ≤ R.TSU_DC_RATE n := by
    show 0x20300100 ≤ 0x20300104 + n * 0x20
    omega
  rw [State.dcRate, State.dcRate, h.rd hlow]

theorem wtAnswer_wr (s : State) {f : Fld} (h : f.addr = R.TSU_CTRL ∨ f.addr = R.TSU_WT_STATUS) (v : Nat) : WtAnswer s (s.wr f v) := by
  have hevent : R.TSU_EVENT ≠ f.addr := by rcases h with h | h <;> rw [h] <;> decide
  refine ⟨fun a hc hw _ => regN_wr_ne s f ?_ v, fun _ => rfl, List.prefix_rfl, fun i hi hs => ?_⟩
  · rcases h with h | h <;> rwa [h]
  · exact (on_wr_other s f ⟨R.TSU_EVENT, i, 1⟩ hi v (.inl hevent)).trans hs

/-- An update of the clocks that leaves those of the domains. -/
theorem wtAnswer_of_regs {s t : State} (hr : t.regs = s.regs) (h0 : t.clk.dc0 = s.clk.dc0) (h1 : t.clk.dc1 = s.clk.dc1)
    (he : t.evq = s.evq) : WtAnswer s t := by
  have hregN : ∀ a, t.regN a = s.regN a := fun a => by rw [State.regN, State.regN, State.reg, State.reg, hr]
  refine ⟨fun a _ _ _ => hregN a, fun n => by rw [State.dc, State.dc, h0, h1], he ▸ List.prefix_rfl, fun i _ hs => ?_⟩
  rw [State.on, rd_of_regN (hregN _)]
  exact hs

/-- Setting one bit of TSU_EVENT leaves those that are set. -/
theorem on_wr_event (s : State) {i j : Nat} (hi : i < 32) (hj : j < 32) (h : s.on ⟨R.TSU_EVENT, j, 1⟩ = true) :
    (s.wr ⟨R.TSU_EVENT, i, 1⟩ 1).on ⟨R.TSU_EVENT, j, 1⟩ = true := by
  by_cases he : j = i
  · rw [he, on_wr_same s ⟨R.TSU_EVENT, i, 1⟩ hi rfl]
    rfl
  · have hapart : i + 1 ≤ j ∨ j + 1 ≤ i := by omega
    rw [on_wr_other s ⟨R.TSU_EVENT, i, 1⟩ ⟨R.TSU_EVENT, j, 1⟩ hj 1 (.inr hapart), h]

theorem wtAnswer_raise (s : State) {c p i : Nat} (hi : i < 32) (h : evBit c p = some ⟨R.TSU_EVENT, i, 1⟩) : WtAnswer s (s.raise c p) := by
  refine ⟨fun a _ _ he => ?_, fun n => dc_of_clk (raise_clk s c p) n, ?_, fun j hj hs => ?_⟩
  · rw [regN_raise s h, regN_wr_ne s _ he]
  · rw [raise_evq]
    exact List.prefix_append ..
  · rw [on_raise s h, on_wr_event s hi hj hs]

theorem wtAnswer_setSrc (s : State) (n : Nat) : WtAnswer s (s.setSrc n) :=
  (wtAnswer_wr s (.inl rfl) n).trans (wtAnswer_wr _ (.inr rfl) n)

theorem wtAnswer_startHandover (s : State) (n : Nat) : WtAnswer s (s.startHandover n) := by
  have hstate : WtAnswer (s.setSrc n) ((s.setSrc n).setWtState 2) := wtAnswer_wr _ (.inr rfl) 2
  have hslew : WtAnswer ((s.setSrc n).setWtState 2) (((s.setSrc n).setWtState 2).setSlew s.clk.slewOff) :=
    wtAnswer_of_regs rfl rfl rfl rfl
  exact (((wtAnswer_setSrc s n).trans hstate).trans hslew).trans (wtAnswer_raise _ (i := 0) (by decide) rfl)

theorem wtAnswer_enterHoldover (s : State) (rate : Int) : WtAnswer s (s.enterHoldover rate) := by
  have hstate : WtAnswer s (s.setWtState 3) := wtAnswer_wr _ (.inr rfl) 3
  let t := (s.setWtState 3).setSlew 0
  have hrate : WtAnswer (s.setWtState 3) { t with clk := { t.clk with holdRate := rate } } := wtAnswer_of_regs rfl rfl rfl rfl
  exact (hstate.trans hrate).trans (wtAnswer_raise _ (i := 2) (by decide) rfl)

theorem wtAnswer_sourceUnfit (s : State) (rate : Int) : WtAnswer s (s.sourceUnfit rate) := by
  rw [sourceUnfit_eq]
  split
  · exact wtAnswer_startHandover ..
  · exact wtAnswer_enterHoldover ..

theorem wtAnswer_noteMismatch (s : State) : WtAnswer s s.noteMismatch := by
  have hsince : ∀ m, WtAnswer s { s with clk := { s.clk with mismatchAt := m } } := fun m => wtAnswer_of_regs rfl rfl rfl rfl
  unfold State.noteMismatch
  dsimp only
  split
  · exact hsince _
  · split
    · exact (hsince none).trans (wtAnswer_wr _ (.inr rfl) 0)
    · exact hsince none

theorem wtAnswer_usableCleared (s : State) (n : Nat) : WtAnswer s (s.usableCleared n) := by
  unfold State.usableCleared
  split
  · exact (wtAnswer_sourceUnfit ..).trans (wtAnswer_noteMismatch _)
  · exact WtAnswer.refl s

/-- The domain with its USABLE cleared and the event raised (R85). -/
def State.domainCleared (s : State) (n : Nat) : State := (s.wr (F.TSU_DC_CTRL_USABLE n) 0).raise 0x0305 n

/-- The later of the last Sync of a domain and its setting (R84). -/
def State.heardAt (s : State) (n : Nat) : Nat :=
  max (if n = 0 then s.clk.usableAt0 else s.clk.usableAt1) (match s.lastSync n with | some x => x | none => 0)

theorem domainLost_due {s : State} {n : Nat} (hu : s.usable n = true) (ht : s.rd (F.TSU_DC_CTRL_SYNC_TIMEOUT n) ≠ 0)
    (hd : s.heardAt n + s.rd (F.TSU_DC_CTRL_SYNC_TIMEOUT n) * 1000000 ≤ s.clk.now) :
    s.domainLost n = (s.domainCleared n).usableCleared n := by
  refine if_neg fun h => ?_
  rcases h with h | h | h
  · exact h hu
  · exact ht h
  · exact Nat.not_lt.mpr hd h

section
variable (s : State) (n : Fin 2)

theorem regN_domainCleared {a : Nat} (h : a ≠ R.TSU_EVENT) : (s.domainCleared n).regN a = (s.wr (F.TSU_DC_CTRL_USABLE n) 0).regN a := by
  rw [State.domainCleared, regN_raise _ (f := ⟨R.TSU_EVENT, 4, 1⟩) rfl, regN_wr_ne _ _ h]

theorem dcCtrl_ne_event (n : Fin 2) : R.TSU_DC_CTRL n ≠ R.TSU_EVENT := by
  show 0x20300100 + n.val * 0x20 ≠ 0x20300020
  omega

theorem dcRate_ne (n : Fin 2) : R.TSU_DC_RATE n ≠ R.TSU_DC_CTRL n ∧ R.TSU_DC_RATE n ≠ R.TSU_EVENT := by
  show 0x20300104 + n.val * 0x20 ≠ 0x20300100 + n.val * 0x20 ∧ 0x20300104 + n.val * 0x20 ≠ 0x20300020
  omega

theorem domainCleared_usable : (s.domainCleared n).usable n = false := by
  have hrd : (s.domainCleared n).rd (F.TSU_DC_CTRL_USABLE n) = (s.wr (F.TSU_DC_CTRL_USABLE n) 0).rd (F.TSU_DC_CTRL_USABLE n) :=
    rd_of_regN (regN_domainCleared s n (dcCtrl_ne_event n))
  rw [State.usable, State.on, hrd, rd_wr_same s _ (by simp)]
  rfl

theorem domainCleared_dc : (s.domainCleared n).dc n = s.dc n := dc_of_clk (raise_clk ..) n

theorem domainCleared_dcRate : (s.domainCleared n).dcRate n = s.dcRate n := by
  obtain ⟨hctrl, hevent⟩ := dcRate_ne n
  have hrd : (s.domainCleared n).rd (F.TSU_DC_RATE_RATE n) = s.rd (F.TSU_DC_RATE_RATE n) :=
    rd_of_regN (by rw [regN_domainCleared s n hevent, regN_wr_ne _ _ hctrl])
  rw [State.dcRate, State.dcRate, hrd]

theorem domainCleared_event : ∃ e ∈ (s.domainCleared n).evq, e.code = 0x0305 ∧ e.param = n := by
  rw [State.domainCleared, raise_evq]
  exact ⟨_, List.mem_append_right _ (List.mem_singleton_self _), rfl, rfl⟩

theorem domainCleared_bit : (s.domainCleared n).on ⟨R.TSU_EVENT, 4, 1⟩ = true := by
  rw [State.domainCleared, on_raise _ (f := ⟨R.TSU_EVENT, 4, 1⟩) rfl, on_wr_same _ _ (by simp) rfl]
  rfl

end

/-- Settles O19: what holds once USABLE is cleared and the event raised, working time's answer leaves alone. -/
theorem domainLossIsRaised : Obligations.DomainLossIsRaised := by
  intro n s ha hu ht hd
  have hheard : s.heardAt n = max (if n = 0 then s.clk.usableAt0 else s.clk.usableAt1)
      (match s.lastSync n with | some x => x | none => 0) := congrArg₂ max (if_congr Fin.val_eq_zero_iff rfl rfl) rfl
  have hanswer := wtAnswer_usableCleared (s.domainCleared n) n
  obtain ⟨e, he, hcode⟩ := domainCleared_event s n
  refine ⟨?exec, (hanswer.usable n).trans (domainCleared_usable s n), (hanswer.dc n).trans (domainCleared_dc s n),
    (hanswer.dcRate n).trans (domainCleared_dcRate s n), ⟨e, hanswer.evq.subset he, hcode⟩,
    hanswer.bit 4 (by decide) (domainCleared_bit s n)⟩
  case exec =>
    rw [exec_domainLost ha, domainLost_due hu ht (hheard ▸ hd)]
    rfl

end Sys2Proof.Machine
end

section
/-! PROOF. What follows a step of working time keeps the clocks and loses no event: the talkers of AUD, the pause requests of BUF, the
gate lists and the trellis. -/

namespace Sys2Proof.Machine

/-- The clocks stand as they did, and no event raised before is lost. -/
structure KeepsTime (s t : State) : Prop where
  clk : t.clk = s.clk
  evq : s.evq <+: t.evq

theorem KeepsTime.refl (s : State) : KeepsTime s s := ⟨rfl, List.prefix_rfl⟩

theorem KeepsTime.trans {s t u : State} (h : KeepsTime s t) (k : KeepsTime t u) : KeepsTime s u :=
  ⟨k.clk.trans h.clk, h.evq.trans k.evq⟩

/-- A part of the state is set that is neither the clocks nor the events. -/
theorem keepsTime_of_eq {s t : State} (hc : t.clk = s.clk) (he : t.evq = s.evq) : KeepsTime s t := ⟨hc, he ▸ List.prefix_rfl⟩

theorem keepsTime_foldl {α : Type} {f : State → α → State} (h : ∀ s x, KeepsTime s (f s x)) (l : List α) (s : State) :
    KeepsTime s (l.foldl f s) :=
  List.foldlRecOn (motive := KeepsTime s) l f (KeepsTime.refl s) fun t ht x _ => ht.trans (h t x)

theorem keepsTime_ite {s t u : State} {c : Prop} [Decidable c] (ht : KeepsTime s t) (hu : KeepsTime s u) :
    KeepsTime s (if c then t else u) := by
  split
  · exact ht
  · exact hu

theorem keepsTime_raise (s : State) (c p : Nat) : KeepsTime s (s.raise c p) :=
  ⟨raise_clk .., by rw [raise_evq]; exact List.prefix_append ..⟩

theorem keepsTime_raiseOnce (s : State) (c p : Nat) : KeepsTime s (s.raiseOnce c p) := by
  unfold State.raiseOnce
  split
  · exact keepsTime_ite (.refl s) (keepsTime_raise ..)
  · exact keepsTime_raise ..

theorem keepsTime_inc (s : State) (c : Nat) : KeepsTime s (s.inc c) := keepsTime_of_eq rfl rfl

-- messages to the partner (13, R552)

theorem keepsTime_linkJob (s : State) : KeepsTime s s.linkJob := by
  obtain ⟨r, hr⟩ := linkJob_changes s
  rw [hr]
  exact keepsTime_of_eq rfl rfl

theorem keepsTime_emit (s : State) (vc : Nat) (m : LinkMsg) : KeepsTime s (s.emit vc m) := by
  unfold State.emit
  extract_lets q src q' u
  have hsent : KeepsTime s ((s.setQlb q').inc C.QLB_LF_TX) := keepsTime_of_eq rfl rfl
  have hjob : KeepsTime s u := hsent.trans (keepsTime_linkJob _)
  exact keepsTime_ite (hjob.trans (keepsTime_inc ..)) hjob

theorem keepsTime_linkSend (s : State) (vc : Nat) (m : LinkMsg) : KeepsTime s (s.linkSend vc m) :=
  keepsTime_ite (.refl s) (keepsTime_ite (keepsTime_emit ..) (keepsTime_of_eq rfl rfl))

theorem keepsTime_mirror (s : State) (m : LinkMsg) : KeepsTime s (s.mirror m) := keepsTime_ite (keepsTime_linkSend ..) (.refl s)

-- the talkers (09, R391, R392, R408)

theorem keepsTime_talkerFrame (s : State) (t ch p : Nat) : KeepsTime s (s.talkerFrame t ch p) := by
  unfold State.talkerFrame
  extract_lets spf smp b d f
  exact keepsTime_ite (keepsTime_of_eq rfl rfl) (keepsTime_of_eq rfl rfl)

theorem keepsTime_twinCompare (s : State) (t block : Nat) : KeepsTime s (s.twinCompare t block) :=
  keepsTime_ite (.trans (keepsTime_inc s _) (keepsTime_raiseOnce ..)) (.refl s)

theorem keepsTime_digestClose (s : State) (p : Nat) : KeepsTime s (s.digestClose p) := by
  refine keepsTime_ite (.refl s) (keepsTime_foldl (fun s e => ?_) _ s)
  extract_lets block src u crc src' u'
  have hu : KeepsTime s u := keepsTime_of_eq rfl rfl
  have hu' : KeepsTime s u' := keepsTime_of_eq rfl rfl
  exact keepsTime_ite ((hu'.trans (keepsTime_mirror ..)).trans (keepsTime_twinCompare ..)) hu

theorem keepsTime_talkersLeave (s : State) : KeepsTime s s.talkersLeave := by
  unfold State.talkersLeave
  split
  · exact .refl s
  · refine .trans (keepsTime_foldl (fun s t => ?_) _ s) (keepsTime_digestClose ..)
    extract_lets spf
    split
    · exact keepsTime_ite (keepsTime_talkerFrame ..) (.refl s)
    · exact .refl s

theorem keepsTime_audDiscontinuity (s : State) (next : Nat) : KeepsTime s (s.audDiscontinuity next) := by
  unfold State.audDiscontinuity
  extract_lets u a u'
  have hu' : KeepsTime u u' := keepsTime_of_eq rfl rfl
  exact (((keepsTime_talkersLeave s).trans hu').trans (keepsTime_inc ..)).trans (keepsTime_raise ..)

-- copies that leave their queues (07, R285 to R288, R302)

theorem keepsTime_askPause (s : State) (p vec : Nat) (zero : Bool) : KeepsTime s (s.askPause p vec zero) :=
  keepsTime_ite (keepsTime_of_eq rfl rfl) (.refl s)

theorem keepsTime_updatePause (s : State) (p : Nat) : KeepsTime s (s.updatePause p) := by
  unfold State.updatePause
  split
  · exact .refl s
  · extract_lets old xoff xon new added gone u u'
    have hu : KeepsTime s u := keepsTime_of_eq rfl rfl
    have hu' : KeepsTime s u' := keepsTime_ite ((hu.trans (keepsTime_inc ..)).trans (keepsTime_askPause ..)) hu
    exact keepsTime_ite (.refl s) (keepsTime_ite (hu'.trans (keepsTime_askPause ..)) hu')

theorem keepsTime_freePkt (s : State) (id : Nat) : KeepsTime s (s.freePkt id) := by
  unfold State.freePkt
  extract_lets p src u u' drop u''
  have hu' : KeepsTime s u' := keepsTime_of_eq rfl rfl
  have hu'' : KeepsTime s u'' := keepsTime_ite hu' (hu'.trans (keepsTime_of_eq rfl rfl))
  exact hu''.trans (keepsTime_updatePause ..)

theorem keepsTime_dropRef (s : State) (id : Nat) : KeepsTime s (s.dropRef id) := by
  unfold State.dropRef
  extract_lets u
  have hu : KeepsTime s u := keepsTime_of_eq rfl rfl
  exact keepsTime_ite (hu.trans (keepsTime_freePkt ..)) hu

theorem keepsTime_unlink (s : State) (q : Nat) (c : Copy) : KeepsTime s (s.unlink q c) := by
  unfold State.unlink State.releaseCopy
  extract_lets head u
  refine .trans ?_ (keepsTime_dropRef ..)
  have hu : KeepsTime s u := keepsTime_of_eq rfl rfl
  exact (keepsTime_ite (t := u.restartHead q) (hu.trans (keepsTime_of_eq rfl rfl)) hu).trans (keepsTime_of_eq rfl rfl)

-- the gate lists (08, R336, R339, R346)

theorem keepsTime_raiseNeverFits (s : State) (q : Nat) (sc : Option Nat) : KeepsTime s (s.raiseNeverFits q sc) :=
  keepsTime_ite (.refl s) (keepsTime_raise ..)

theorem keepsTime_testRest (s : State) (q : Nat) : KeepsTime s (s.testRest q) := by
  unfold State.testRest
  extract_lets p
  split
  · next t m _ _ =>
    extract_lets w u
    have hrest : KeepsTime s (s.modPort p (fun m => { m with rest := none })) := keepsTime_of_eq rfl rfl
    have hu : KeepsTime s u := hrest.trans (keepsTime_raiseNeverFits ..)
    exact keepsTime_ite ((hu.trans (keepsTime_inc ..)).trans (keepsTime_unlink ..)) (.refl s)
  · exact .refl s

theorem keepsTime_testHead (s : State) (q : Nat) : KeepsTime s (s.testHead q) := by
  unfold State.testHead
  extract_lets u
  have hu : KeepsTime s u := keepsTime_testRest s q
  split
  · exact hu
  · extract_lets pk len
    exact keepsTime_ite (((hu.trans (keepsTime_unlink ..)).trans (keepsTime_inc ..)).trans (keepsTime_raiseNeverFits ..)) hu

theorem keepsTime_listChanged (s : State) (n : Nat) : KeepsTime s (s.listChanged n) := by
  unfold State.listChanged
  extract_lets src u u'
  have hu : KeepsTime s u := keepsTime_ite (keepsTime_of_eq rfl rfl) (.refl s)
  refine .trans (hu.trans (keepsTime_raise ..)) (keepsTime_foldl (fun s p => ?_) _ u')
  exact keepsTime_foldl (fun s t => keepsTime_testHead ..) _ s

theorem keepsTime_relocateLists (s : State) : KeepsTime s s.relocateLists := by
  refine keepsTime_foldl (fun s e => keepsTime_ite ?_ (.refl s)) _ s
  extract_lets r u
  have hu : KeepsTime s u := keepsTime_of_eq rfl rfl
  exact keepsTime_ite (hu.trans (keepsTime_listChanged ..)) hu

-- pulses and the trellis (03, R129; 10, R455)

theorem keepsTime_pulsesStepped (s : State) (c : Nat) (d : Int) : KeepsTime s (s.pulsesStepped c d) :=
  keepsTime_of_eq (pulsesStepped_clk s c d) (pulsesStepped_frame State.evq (fun _ _ _ => rfl) s c d)

theorem keepsTime_ttLocate (s : State) (n : Nat) : KeepsTime s (s.ttLocate n) := by
  have hfresh : KeepsTime s (s.ttFresh n) := keepsTime_ite (.refl s) (keepsTime_of_eq rfl rfl)
  unfold State.ttLocate
  extract_lets u w
  exact keepsTime_ite (keepsTime_of_eq rfl rfl) (hfresh.trans (keepsTime_of_eq rfl rfl))

theorem keepsTime_trellisStep (s : State) : KeepsTime s s.trellisStep := keepsTime_foldl keepsTime_ttLocate _ s

/-- The next strobe is the first at least 100 us ahead (R135). -/
def State.strobeSet (s : State) : State := { s with clk := { s.clk with nextK := firstStrobe s.clk.wt } }

/-- Beyond its event and the next strobe, a step of working time leaves the clocks and the events as they are (R86, R135). -/
theorem keepsTime_wtStepped (s : State) (d : Int) : KeepsTime (s.raise 0x0304 0).strobeSet (s.wtStepped d) := by
  unfold State.wtStepped
  extract_lets u src v w x
  have hset : KeepsTime u.strobeSet v.strobeSet := keepsTime_of_eq rfl rfl
  have hphase : KeepsTime v.strobeSet v.rephase := keepsTime_audDiscontinuity v.strobeSet _
  have hw : KeepsTime u.strobeSet w := (hset.trans hphase).trans (keepsTime_relocateLists _)
  have hx : KeepsTime u.strobeSet x := (hw.trans (keepsTime_pulsesStepped ..)).trans (keepsTime_trellisStep _)
  clear_value x
  exact hx.trans (keepsTime_of_eq rfl rfl)

end Sys2Proof.Machine
end

section
/-! PROOF. Working time: its moves and the strobe that follows a step, the commands that lock it, load it and name its domain, snapshots,
and the mismatch of the two units. -/

namespace Sys2Proof.Machine

theorem exec_usableSet {s : State} {n : Fin 2} (h : s.writable (R.TSU_DC_CTRL n)) :
    exec (.usableSet n) s = .next (settle (s.usableSet n)) := finish_regLive h _

theorem exec_forceStep {s : State} (h : s.writable R.TSU_CTRL) : exec .forceStep s = .next (settle s.forceStep) := finish_regLive h _

theorem exec_loadWt {s : State} (h : s.writable R.TSU_CTRL) : exec .loadWt s = .next (settle s.loadWt) := finish_regLive h _

theorem exec_wtSrcWrite {s : State} (h : s.writable R.TSU_CTRL) (n : Fin 2) :
    exec (.wtSrcWrite n) s = .next (settle (s.wtSrcWrite n)) := finish_regLive h _

theorem exec_snap {s : State} (h : s.writable R.TSU_CTRL) : exec .snap s = .next (settle s.snap) := finish_regLive h _

theorem exec_pairWtMismatch {s : State} (ha : s.alive = true) : exec .pairWtMismatch s = .next (settle s.pairWtMismatch) :=
  finish_live ha _

-- moves (R86, R135)

theorem moveWt_near {s : State} {v : Int} (h : (v - s.clk.wt).natAbs ≤ 2 ^ 39) : s.moveWt v = s.setWt v :=
  if_neg (Int.not_lt.mpr ((natAbs_le_nsUnit _).mpr h))

theorem moveWt_far {s : State} {v : Int} (h : 2 ^ 39 < (v - s.clk.wt).natAbs) : s.moveWt v = (s.setWt v).wtStepped (v - s.clk.wt) :=
  if_pos (Int.not_le.mp (not_le_nsUnit h))

/-- A step of working time leaves it where it stands, sets the next strobe and raises its event (R86, R135). -/
theorem wtStepped_spec (s : State) (d : Int) : (s.wtStepped d).clk.wt = s.clk.wt ∧ (s.wtStepped d).clk.nextK = firstStrobe s.clk.wt ∧
    ∃ e ∈ (s.wtStepped d).evq, e.code = 0x0304 := by
  obtain ⟨hclk, hevq⟩ := keepsTime_wtStepped s d
  have hraised : (s.raise 0x0304 0).clk = s.clk := raise_clk ..
  have hevent : s.event 0x0304 0 0 0 0 false ∈ (s.raise 0x0304 0).evq := by
    rw [raise_evq]
    exact List.mem_append_right _ (List.mem_singleton_self _)
  rw [hclk]
  refine ⟨?_, ?_, _, hevq.subset hevent, rfl⟩
  · show (s.raise 0x0304 0).clk.wt = _
    rw [hraised]
  · show firstStrobe (s.raise 0x0304 0).clk.wt = _
    rw [hraised]

/-- The first index whose instant lies at least 100 us ahead, and no earlier one does (R135). -/
theorem firstStrobe_spec (v : Int) : v + 100000 * 2 ^ 39 ≤ strobeInstant (firstStrobe v) ∧
    ∀ k, k < firstStrobe v → strobeInstant k < v + 100000 * 2 ^ 39 := by
  unfold firstStrobe strobeInstant nsUnit
  dsimp only
  refine ⟨?_, fun k hk => ?_⟩ <;> omega

-- the commands (R84, R86, R88, R760, Table 3-2)

/-- A domain that becomes usable at an instant (R84). -/
def State.usableNoted (s : State) (n : Nat) : State :=
  let u := s.wr (F.TSU_DC_CTRL_USABLE n) 1
  if n = 0 then { u with clk := { u.clk with usableAt0 := u.clk.now } } else { u with clk := { u.clk with usableAt1 := u.clk.now } }

theorem regN_usableNoted (s : State) {n a : Nat} (h : a < 0x20300100) : (s.usableNoted n).regN a = s.regN a := by
  have hne : a ≠ R.TSU_DC_CTRL n := by
    show a ≠ 0x20300100 + n * 0x20
    omega
  unfold State.usableNoted
  dsimp only
  split <;> exact regN_wr_ne s _ hne 1

theorem usableSet_source {s : State} {n : Nat} (hu : s.usable n = false) (hw : s.wtState = 0) (hs : s.wtSrc = n) :
    s.usableSet n = ((s.usableNoted n).lockOn n).noteMismatch := by
  have hstate : (s.usableNoted n).wtState = 0 := (rd_of_regN (regN_usableNoted s (by decide))).trans hw
  have hsrc : (s.usableNoted n).wtSrc = n := (rd_of_regN (regN_usableNoted s (by decide))).trans hs
  unfold State.usableSet
  rw [if_neg (ne_true_of_eq_false hu)]
  extract_lets u src u' cand t
  have hnoted : u' = s.usableNoted n := rfl
  have ht : t = (s.usableNoted n).lockOn n := by simp [t, cand, hnoted, hstate, hsrc]
  rw [ht]

theorem forceStep_usable {s : State} (h : s.usable s.wtSrc = true) : s.forceStep = (s.lockOn s.wtSrc).noteMismatch := if_pos h

theorem loadWt_free {s : State} (hw : s.wtState = 0) (hon : s.clk.on = true) :
    s.loadWt = s.moveWt ((((s.rd F.TSU_WT_LOAD_S_HI_S_HI * 2 ^ 32 + s.regN R.TSU_WT_LOAD_S_LO) * 1000000000 + s.regN R.TSU_WT_LOAD_NS : Nat) :
      Int) * 2 ^ 39) := if_neg (by simp [hw, hon])

theorem wtSrcWrite_free {s : State} (hw : s.wtState = 0) (n : Nat) :
    s.wtSrcWrite n = (if s.usable n then s.lockOn n else s.setSrc n).noteMismatch := congrArg State.noteMismatch (if_pos hw)

theorem wtSrcWrite_other {s : State} {n : Nat} (hw : s.wtState ≠ 0) (hn : n ≠ s.wtSrc) :
    s.wtSrcWrite n = (if s.canFollow n then s.startHandover n else s.raise 0x0309 0).noteMismatch :=
  congrArg State.noteMismatch ((if_neg hw).trans (if_neg hn))

-- snapshots (R115)

theorem regN_snapClock (s : State) (base : Nat) (v : Int) {a : Nat} (h : a < base) : (s.snapClock base v).regN a = s.regN a := by
  rw [State.snapClock, regN_setRegN_ne _ (by omega), regN_setRegN_ne _ (by omega), regN_setRegN_ne _ (by omega)]

/-- The snapshot of the clocks and of the ESI. -/
def State.clocksSnapped (s : State) : State :=
  ((((s.snapClock R.TSU_SNAP_LC_NS s.clk.lc).snapClock R.TSU_SNAP_DC0_NS s.clk.dc0).snapClock R.TSU_SNAP_DC1_NS s.clk.dc1).snapClock
    R.TSU_SNAP_WT_NS s.clk.wt).setPair R.TSU_SNAP_ESI_LO R.TSU_SNAP_ESI_HI s.clk.esi

theorem regN_clocksSnapped (s : State) {a : Nat} (h : a < 0x20300200) : s.clocksSnapped.regN a = s.regN a := by
  have hbelow : ∀ b, 0x20300200 ≤ b → a < b := fun b hb => h.trans_le hb
  rw [State.clocksSnapped, State.setPair, regN_setRegN_ne _ (hbelow _ (by decide)).ne, regN_setRegN_ne _ (hbelow _ (by decide)).ne,
    regN_snapClock _ _ _ (hbelow _ (by decide)), regN_snapClock _ _ _ (hbelow _ (by decide)),
    regN_snapClock _ _ _ (hbelow _ (by decide)), regN_snapClock _ _ _ (hbelow _ (by decide))]

theorem snap_eq (s : State) : s.snap = s.clocksSnapped.setRegN R.TSU_SNAP_STATE (2 ^ 31 + s.wtSrc * 16 + s.wtState) := by
  have hsrc : s.clocksSnapped.wtSrc = s.wtSrc := rd_of_regN (regN_clocksSnapped s (by decide))
  have hstate : s.clocksSnapped.wtState = s.wtState := rd_of_regN (regN_clocksSnapped s (by decide))
  rw [← hsrc, ← hstate]
  rfl

-- the mismatch of the two units (R95)

theorem noteMismatch_held {s : State} {t : Nat} (hm : s.wtMismatch = true) (ht : s.clk.mismatchAt = some t) : s.noteMismatch = s := by
  unfold State.noteMismatch
  rw [if_pos hm, ht]
  dsimp only
  rw [← ht]

theorem pairWtMismatch_due {s : State} {t : Nat} (hm : s.wtMismatch = true) (ht : s.clk.mismatchAt = some t)
    (hg : s.rd F.TSU_CTRL_PAIR_GRACE ≠ 0) (hlate : t + s.rd F.TSU_CTRL_PAIR_GRACE * 1000000 < s.clk.now)
    (hnew : s.on F.TSU_WT_STATUS_PARTNER_MISMATCH = false) :
    s.pairWtMismatch = (s.wr F.TSU_WT_STATUS_PARTNER_MISMATCH 1).raise 0x0307 0 := by
  unfold State.pairWtMismatch
  rw [noteMismatch_held hm ht]
  simp only [ht]
  refine if_neg fun h => ?_
  rcases h with h | h | h
  · exact hg h
  · omega
  · exact ne_true_of_eq_false hnew h

/-- Settles O20, command by command. -/
theorem workingTimeMoves : Obligations.WorkingTimeMoves := by
  intro s
  refine ⟨fun n hw hu hfree hs => ?usableSet, fun hw => ⟨fun hu => ?forceStep, fun hfree hon => ?loadWt,
    fun n => ⟨fun hfree => ?named, fun hrun hn => ?turned⟩, ?snap⟩, fun v => ⟨moveWt_near, fun hfar => ⟨moveWt_far hfar, ?step⟩⟩,
    firstStrobe_spec, fun n => rfl, fun t ha hm ht hg hlate hnew => ?mismatch⟩
  case usableSet =>
    intro u u'
    have hnoted : s.usableNoted n = u' := if_congr Fin.val_eq_zero_iff rfl rfl
    rw [exec_usableSet hw, usableSet_source hu hfree hs, hnoted]
  case forceStep => rw [exec_forceStep hw, forceStep_usable hu]
  case loadWt => rw [exec_loadWt hw, loadWt_free hfree hon]
  case named => rw [exec_wtSrcWrite hw, wtSrcWrite_free hfree]
  case turned => rw [exec_wtSrcWrite hw, wtSrcWrite_other hrun hn]
  case snap => rw [exec_snap hw, snap_eq]; rfl
  case step => rw [moveWt_far hfar]; exact wtStepped_spec ..
  case mismatch => rw [exec_pairWtMismatch ha, pairWtMismatch_due hm ht hg hlate hnew]

end Sys2Proof.Machine
end

section
/-! PROOF. Pulse outputs, capture inputs, the sample strobe, calibration, and the stamps of a frame that starts. -/

namespace Sys2Proof.Machine

-- pulse outputs (R124, R128)

theorem exec_plsCtrlWrite {s : State} {n : Fin 8} (h : s.writable (R.TSU_PLS_CTRL n)) (v : Word) :
    exec (.plsCtrlWrite n v) s = .next (settle (s.plsCtrlWrite n v.toNat)) := finish_regLive h _

theorem exec_pulseEdge {s : State} (ha : s.alive = true) (n : Fin 8) : exec (.pulseEdge n) s = .next (settle (s.pulseEdge n)) :=
  finish_live ha _

theorem plsCtrlWrite_eq (s : State) (n v : Nat) : s.plsCtrlWrite n v =
    let u := s.writeFields (R.TSU_PLS_CTRL n) v
    if plsActive (u.pulse n) = false ∧ (u.pulse n).high = false then u.putPulse n (u.schedule (u.takeSettings n (u.pulse n)))
    else u.putPulse n { u.pulse n with reload := true } := by
  simp only [State.plsCtrlWrite, Bool.not_eq_true]

/-- A scheduled edge that has come is made before the end of the pulse that runs. -/
theorem pulseEdge_edge {s : State} {n : Nat} {e : Int} (hs : s.flt.silent = false) (he : (s.pulse n).edge = some e)
    (hf : ∀ f, (s.pulse n).fall = some f → e ≤ f) (hn : e ≤ s.plsNow (s.pulse n)) : s.pulseEdge n = s.plsEdge n (s.pulse n) e := by
  unfold State.pulseEdge
  rw [if_neg (ne_true_of_eq_false hs)]
  cases hfall : (s.pulse n).fall with
  | none =>
    simp only [he]
    exact if_pos hn
  | some f =>
    simp only [he]
    exact if_pos ⟨hn, hf f hfall⟩

/-- The end of a pulse that has come, before the next edge. -/
theorem pulseEdge_fall {s : State} {n : Nat} {f : Int} (hs : s.flt.silent = false) (hf : (s.pulse n).fall = some f)
    (he : ∀ e, (s.pulse n).edge = some e → f < e) (hn : f ≤ s.plsNow (s.pulse n)) : s.pulseEdge n = s.plsFall n (s.pulse n) := by
  unfold State.pulseEdge
  rw [if_neg (ne_true_of_eq_false hs)]
  cases hedge : (s.pulse n).edge with
  | none =>
    simp only [hf]
    exact if_pos hn
  | some e =>
    simp only [hf]
    rw [if_neg fun hc => Int.not_le.mpr (he e hedge) hc.2, if_pos hn]

/-- An edge of TIME mode with no settings waiting: the next one is scheduled, and a pulse starts unless the output is held (R93, R124). -/
theorem plsEdge_time {s : State} {n : Nat} {p : Pls} (e : Int) (hr : p.reload = false) (hm : plsMode p = 1) (hw : plsWidth p ≠ 0) :
    s.plsEdge n p e = s.putPulse n
      (if s.plsHeld p then { p with edge := plsAhead p e } else plsRise { p with edge := plsAhead p e } e) := by
  have hrun : ¬(plsMode p ≠ 1 ∨ plsWidth p = 0) := by simp [hm, hw]
  simp only [State.plsEdge, hr, Bool.false_eq_true, if_false, if_true, if_neg hrun]
  rfl

-- capture inputs (R130, R131)

theorem exec_captureEdge {s : State} (ha : s.alive = true) (n : Fin 4) (rising : Bool) (held phase : Nat) :
    exec (.captureEdge n rising held phase) s = .next (settle (s.captureEdge n rising held phase)) := finish_live ha _

/-- A queue with room takes an entry, marked with the gap that it ends (R111). -/
theorem hqPush_room {cap : Nat} {h : Hq} (hroom : h.q.length < cap) (w : Word) (r : List Word) :
    hqPush cap h (w :: r) = (⟨h.q ++ [(w ||| (if h.gap then 3#32 else 1#32)) :: r], false⟩, false, false) := if_pos hroom

/-- The entry of a capture queue for an edge, `back` from the present (R131). -/
def State.captureWords (s : State) (gap rising : Bool) (back : Int) : List Word :=
  [BitVec.ofNat 32 (b2n rising * 4) ||| (if gap then 3#32 else 1#32), BitVec.ofNat 32 (subNs (s.clk.wt + back)),
    BitVec.ofNat 32 (secOf (s.clk.wt + back)), BitVec.ofNat 32 (subNs (s.clk.lc + back))]

theorem captureEdge_room {s : State} {n held : Nat} {rising : Bool} (hon : s.clk.on = true)
    (hsel : (s.rd (F.TSU_CAP_CTRL_EDGE n)).testBit (if rising then 0 else 1) = true)
    (hheld : s.rd (F.TSU_CAP_CTRL_FILTER n) * 4 ≤ held) (hroom : (sget hq0 s.cap n).q.length < 8) (phase : Nat) :
    s.captureEdge n rising held phase = { s with cap := sput hq0 n ⟨(sget hq0 s.cap n).q ++ [s.captureWords (sget hq0 s.cap n).gap rising
      (((phase : Int) - (s.rd (F.TSU_CAP_CTRL_FILTER n) * 4 : Nat)) * 2 ^ 39)], false⟩ s.cap } := by
  have hseen : ¬(¬ s.clk.on = true ∨ ¬ (s.rd (F.TSU_CAP_CTRL_EDGE n)).testBit (if rising then 0 else 1) = true ∨
      held < s.rd (F.TSU_CAP_CTRL_FILTER n) * 4) := by
    rw [hon, hsel]
    simpa using hheld
  simp only [State.captureEdge, if_neg hseen, hqPush_room hroom, Bool.false_eq_true, if_false]
  rfl

-- the sample strobe (R132, R133, R136)

theorem exec_sampleStrobe (s : State) (err : Int) (tin line : List (List Word)) :
    exec (.sampleStrobe err tin line) s = .next (settle (s.sampleStrobe err tin line)) := rfl

theorem plsStrobe_flt (s : State) (k n : Nat) : (s.plsStrobe k n).flt = s.flt := by
  unfold State.plsStrobe
  extract_lets p q
  split
  · rfl
  · split <;> rfl

theorem plsStrobes_flt (s : State) (k : Nat) : (s.plsStrobes k).flt = s.flt := by
  unfold State.plsStrobes
  split
  · rfl
  · exact foldl_frame State.flt (fun s n => plsStrobe_flt s k n) _ s

/-- The strobes counted within 50 ns and within 10 ns of their instants (R136). -/
def State.strobeCounted (s : State) (good : Nat) : State := { s with clk := { s.clk with strobeBad := 0, strobeGood := min good 48 } }

/-- A strobe within 50 ns of its instant does not re-phase: at most MEDIA_LOCK is set (R136). -/
theorem mediaLock_near {s : State} {err : Int} (h : err.natAbs ≤ 50) :
    ∃ good, s.mediaLock err =
      (if good = 48 then (s.strobeCounted good).wr F.TSU_WT_STATUS_MEDIA_LOCK 1 else s.strobeCounted good, false) := by
  refine ⟨if err.natAbs ≤ 10 then s.clk.strobeGood + 1 else 0, ?_⟩
  have hnear : ¬ 50 < err.natAbs := by omega
  simp only [State.mediaLock, if_neg hnear]
  rfl

theorem mediaLock_near_spec {s : State} {err : Int} (h : err.natAbs ≤ 50) :
    (s.mediaLock err).2 = false ∧ (s.mediaLock err).1.clk.esi = s.clk.esi ∧ (s.mediaLock err).1.clk.nextK = s.clk.nextK ∧
      (s.mediaLock err).1.flt = s.flt := by
  obtain ⟨good, hgood⟩ := mediaLock_near (s := s) h
  rw [hgood]
  dsimp only
  split <;> exact ⟨rfl, rfl, rfl, rfl⟩

/-- The state in which a strobe has advanced the ESI and shown its error (R133). -/
def State.strobed (s : State) (err : Int) : State :=
  ({ s with clk := { s.clk with esi := s.clk.nextK, nextK := s.clk.nextK + 1 } }).wr F.TSU_MEDIA_STATUS_PHASE_ERR (unsgn 16 err)

theorem sampleStrobe_near {s : State} {err : Int} (hs : s.flt.silent = false) (hon : s.clk.on = true) (hdue : s.strobeDue err = true)
    (h : err.natAbs ≤ 50) (tin line : List (List Word)) :
    s.sampleStrobe err tin line = (((s.strobed err).mediaLock err).1.plsStrobes s.clk.nextK).audStrobe s.clk.nextK
      (if s.clk.esi = 0 then none else some s.clk.esi) tin line := by
  obtain ⟨hphase, -, -, hflt⟩ := mediaLock_near_spec (s := s.strobed err) h
  have hsilent : (((s.strobed err).mediaLock err).1.plsStrobes s.clk.nextK).flt.silent = false := by
    rw [plsStrobes_flt, hflt]
    exact hs
  unfold State.sampleStrobe
  rw [if_neg (by simp [hon, hdue])]
  exact (if_neg (ne_true_of_eq_false hphase)).trans (if_neg (ne_true_of_eq_false hsilent))

-- calibration (R99)

theorem exec_calibrationDone {s : State} (ha : s.alive = true) (p : Fin 24) :
    exec (.calibrationDone p) s = .next (settle (s.calibrationDone p)) := finish_live ha _

theorem calibrationDone_awaited {s : State} {p : Nat} (hup : s.linkUp p = true) (hw : (s.port p).calWait = true) :
    s.calibrationDone p = (s.modPort p (fun m => { m with calWait := false })).wr (F.TSU_P_QSTAT_CAL_DONE p) 1 := if_pos ⟨hup, hw⟩

-- frames that start (R98, R109)

theorem alive_of_portLive {s : State} {p : Nat} (h : s.portLive p = true) : s.alive = true := by
  simp only [State.portLive, Bool.and_eq_true] at h
  exact h.1.1

theorem exec_frameStartRx {s : State} (ha : s.alive = true) (p : Fin 24) (smd : Smd) (good : Bool) (phase : Nat) (bytes : List Byte) :
    exec (.frameStartRx p smd good phase bytes) s = .next (settle (s.frameStartRx p smd good phase bytes)) := finish_live ha _

theorem frameStartRx_express {s : State} {p : Nat} (h : s.portLive p = true) (hloop : s.on (F.TSU_P_CTRL_CAL_LOOP p) = false)
    (phase : Nat) (bytes : List Byte) :
    s.frameStartRx p .express true phase bytes = (s.plcaTaken p).startFrame p phase bytes false := by
  unfold State.frameStartRx
  rw [if_neg (by simp [h, hloop]), if_neg (not_not.mpr rfl)]
  rfl

theorem plcaTaken_switched {s : State} {p : Nat} (h : p < 16) : s.plcaTaken p = s := if_pos h

theorem plcaTaken_clk_regs (s : State) (p : Nat) : (s.plcaTaken p).clk = s.clk ∧ (s.plcaTaken p).regs = s.regs := by
  unfold State.plcaTaken
  split <;> exact ⟨rfl, rfl⟩

theorem rxStamp_of_regs {s t : State} (h : t.regs = s.regs) (p : Nat) (clock : Int) (phase : Nat) :
    t.rxStamp p clock phase = s.rxStamp p clock phase := by
  rw [State.rxStamp, State.rxStamp, State.rd, State.rd, State.regN, State.regN, State.reg, State.reg, h]

theorem pushStamp_mac (s : State) (p dir : Nat) (e : List Word) : (s.pushStamp p dir e).1.mac = s.mac := by
  unfold State.pushStamp
  dsimp only
  split_ifs <;> simp

theorem stampPtp_mac (s : State) (p : Nat) (d : List Byte) (lc : Int) : (s.stampPtp p d lc).mac = s.mac := by
  unfold State.stampPtp
  split
  · split
    · exact pushStamp_mac ..
    · rfl
  · rfl

/-- The frame that enters reception: its octets, its arrival stamps and the instant (R98, R109). -/
theorem startFrame_cur (s : State) (p phase : Nat) (bytes : List Byte) (pre : Bool) :
    ∃ f, ((s.startFrame p phase bytes pre).port p).cur = some f ∧ f.bytes = bytes ∧ f.ended = false ∧ f.preemptable = pre ∧
      f.startAt = s.clk.now ∧ f.lc = s.rxStamp p s.clk.lc phase ∧ f.wt = s.rxStamp p s.clk.wt phase := by
  unfold State.startFrame
  extract_lets src f u
  have hu : (u.port p).cur = some f := by rw [port_modPort_same]
  refine ⟨f, ?_, rfl, rfl, rfl, rfl, rfl, rfl⟩
  split
  · rw [State.port, stampPtp_mac]
    exact hu
  · exact hu

/-- Settles O23, command by command. -/
theorem pulsesCapturesAndStrobes : Obligations.PulsesCapturesAndStrobes := by
  intro s
  refine ⟨fun n v hw => ?write, fun n e ha he hf hn hr hm hwidth => ?edge, fun n f ha hf hn he => ?fall,
    fun n rising held phase ha hon hsel hheld hroom => ?capture, fun err tin line hs hon hdue hnear => ?strobe,
    fun p ha hup hw => ?calibration, fun p phase bytes hlive hloop => ⟨?starts, ?stamps, plcaTaken_switched⟩⟩
  case write => rw [exec_plsCtrlWrite hw, plsCtrlWrite_eq]
  case edge =>
    rw [exec_pulseEdge ha, pulseEdge_edge (not_silent_of_alive ha) he hf hn, plsEdge_time e hr hm hwidth]
    rfl
  case fall =>
    rw [exec_pulseEdge ha, pulseEdge_fall (not_silent_of_alive ha) hf he hn]
    rfl
  case capture =>
    rw [exec_captureEdge ha, captureEdge_room hon hsel hheld hroom]
    rfl
  case strobe =>
    obtain ⟨hphase, hesi, hnext, -⟩ := mediaLock_near_spec (s := s.strobed err) hnear
    exact ⟨hesi, hnext, hphase, by rw [exec_sampleStrobe, sampleStrobe_near hs hon hdue hnear]; rfl⟩
  case calibration => rw [exec_calibrationDone ha, calibrationDone_awaited hup hw]
  case starts => rw [exec_frameStartRx (alive_of_portLive hlive), frameStartRx_express hlive hloop]
  case stamps =>
    obtain ⟨hclk, hregs⟩ := plcaTaken_clk_regs s p
    obtain ⟨f, hcur, hbytes, hended, hpre, hstart, hlc, hwt⟩ := startFrame_cur (s.plcaTaken p) p phase bytes false
    rw [hclk, rxStamp_of_regs hregs] at hlc hwt
    exact ⟨f, hcur, hbytes, hended, hpre, hclk ▸ hstart, hlc, hwt⟩

end Sys2Proof.Machine
end

section
/-! PROOF. The group-address hash filter of a port (04, R170, R171). -/

namespace Sys2Proof.Machine

section
variable (a b c d e f : Byte) (r : List Byte)

theorem daOf_cons : daOf (a :: b :: c :: d :: e :: f :: r) =
    a.toNat * 2 ^ 40 + b.toNat * 2 ^ 32 + c.toNat * 2 ^ 24 + d.toNat * 2 ^ 16 + e.toNat * 2 ^ 8 + f.toNat := by
  simp only [daOf, fld, beNat, List.drop_zero, List.take_succ_cons, List.take_zero, List.foldl_cons, List.foldl_nil]
  omega

theorem daHash_cons : daHash (a :: b :: c :: d :: e :: f :: r) = (a ^^^ b ^^^ c ^^^ d ^^^ e ^^^ f).toNat := by
  simp [daHash]

/-- The group bit of an address is the lowest of its first octet. -/
theorem isGroup_daOf : isGroup (daOf (a :: b :: c :: d :: e :: f :: r)) = a.getLsbD 0 := by
  have hbit : a.getLsbD 0 = decide (a.toNat % 2 = 1) := by simp [BitVec.getLsbD, Nat.testBit_zero]
  have hgroup : daOf (a :: b :: c :: d :: e :: f :: r) / 2 ^ 40 = a.toNat := by rw [daOf_cons]; omega
  rw [isGroup, hgroup, hbit, beq_eq_decide]

theorem isBroadcast_daOf : isBroadcast (daOf (a :: b :: c :: d :: e :: f :: r)) = true ↔
    a = 0xFF ∧ b = 0xFF ∧ c = 0xFF ∧ d = 0xFF ∧ e = 0xFF ∧ f = 0xFF := by
  simp only [isBroadcast, daOf_cons, beq_iff_eq, BitVec.toNat_eq, BitVec.ofNat_eq_ofNat, BitVec.toNat_ofNat]
  omega

theorem isLinkLocal_daOf : isLinkLocal (daOf (a :: b :: c :: d :: e :: f :: r)) = true ↔
    a = 0x01 ∧ b = 0x80 ∧ c = 0xC2 ∧ d = 0 ∧ e = 0 ∧ f.toNat ≤ 15 := by
  simp only [isLinkLocal, daOf_cons, beq_iff_eq, BitVec.toNat_eq, BitVec.ofNat_eq_ofNat, BitVec.toNat_ofNat]
  omega

/-- What the filter rejects (R170, R171). -/
theorem gfilter_iff (s : State) (p : Nat) : s.gfilter p (a :: b :: c :: d :: e :: f :: r) = true ↔
    s.on (F.MAC_CTRL_GFILTER_EN p) = true ∧ a.getLsbD 0 = true ∧
    ¬ (a = 0xFF ∧ b = 0xFF ∧ c = 0xFF ∧ d = 0xFF ∧ e = 0xFF ∧ f = 0xFF) ∧
    ¬ (a = 0x01 ∧ b = 0x80 ∧ c = 0xC2 ∧ d = 0 ∧ e = 0 ∧ f.toNat ≤ 15) ∧
    (s.reg (R.MAC_GHASH0 p + 4 * ((a ^^^ b ^^^ c ^^^ d ^^^ e ^^^ f).toNat / 32))).getLsbD
      ((a ^^^ b ^^^ c ^^^ d ^^^ e ^^^ f).toNat % 32) = false := by
  have hlen : decide (6 ≤ (a :: b :: c :: d :: e :: f :: r).length) = true := by simp
  rw [← isBroadcast_daOf a b c d e f r, ← isLinkLocal_daOf a b c d e f r, ← isGroup_daOf a b c d e f r, ← daHash_cons a b c d e f r,
    State.gfilter, hlen]
  simp only [Bool.and_eq_true, Bool.not_eq_true', Bool.not_eq_true, and_assoc, true_and, State.regN, BitVec.getLsbD]

end

/-- The hash of a destination address names one of the 256 filter bits. -/
theorem daHash_lt (d : List Byte) : daHash d < 256 := by
  have fold : ∀ (l : List Byte) (h : Nat), h < 2 ^ 8 → l.foldl (fun h b => h ^^^ b.toNat) h < 2 ^ 8 := by
    intro l
    induction l with
    | nil => exact fun _ hh => hh
    | cons b l ih => exact fun h hh => ih _ (Nat.xor_lt_two_pow hh b.isLt)
  exact fold _ 0 (by norm_num)

/-- The filter reads ENABLE and the filter bits of its port, which lie below the port's counters. -/
theorem gfilter_inc (s : State) {p c : Nat} (h : C.MAC_RX_FRAMES p ≤ c) (d : List Byte) : (s.inc c).gfilter p d = s.gfilter p d := by
  have hh := daHash_lt d
  have hc : 0x20400100 + p * 0x1000 ≤ c := h
  have hctrl : (F.MAC_CTRL_GFILTER_EN p).addr ≠ c := by
    show 0x20400000 + p * 0x1000 ≠ c
    omega
  have hbits : R.MAC_GHASH0 p + 4 * (daHash d / 32) ≠ c := by
    show 0x20400020 + p * 0x1000 + 4 * (daHash d / 32) ≠ c
    omega
  rw [State.gfilter, State.gfilter, on_inc_ne s hctrl, regN_inc_ne s hbits]

-- the checks of Table 4-5 in order

section
variable {s : State} {p tpid : Nat} {d : List Byte}

/-- Check 3: the frame without its port tag, with its VID, PCP and DEI; a tag that never arrived does not fail it. -/
def State.rxTag (s : State) (p tpid : Nat) (d : List Byte) : Option (List Byte × Nat × Nat × Nat) :=
  if tagKnown tpid d = true then s.classify p tpid d else some (d, 0, 0, 0)

theorem earlyChecks_notReady (h : s.forwarding = false) : s.earlyChecks p tpid d = .drop (C.MAC_RX_NOTREADY p) :=
  if_pos (by simp [h])

section
variable (hf : s.forwarding = true)
include hf

theorem earlyChecks_noTag (h : s.rxTag p tpid d = none) : s.earlyChecks p tpid d = .drop (C.MAC_RX_TAGDROP p) := by
  rw [State.rxTag] at h
  simp only [State.earlyChecks, hf, h, not_true_eq_false, if_false]

theorem earlyChecks_tagged {x : List Byte} {vid pcp dei : Nat} (h : s.rxTag p tpid d = some (x, vid, pcp, dei)) :
    s.earlyChecks p tpid d =
      if s.gfilter p d then .drop (C.MAC_RX_GFILTER p) else if etOf d = 0x8808 then .control else .pass x vid pcp dei := by
  rw [State.rxTag] at h
  simp only [State.earlyChecks, hf, h, not_true_eq_false, if_false]

/-- A frame that the filter rejects passes no check behind it. -/
theorem earlyChecks_gfilter (h : s.gfilter p d = true) :
    ∃ c, s.earlyChecks p tpid d = .drop c ∧ C.MAC_RX_FRAMES p ≤ c := by
  cases ht : s.rxTag p tpid d with
  | none => exact ⟨_, earlyChecks_noTag hf ht, by simp only [C.MAC_RX_FRAMES, C.MAC_RX_TAGDROP]; omega⟩
  | some x =>
    refine ⟨C.MAC_RX_GFILTER p, ?_, by simp only [C.MAC_RX_FRAMES, C.MAC_RX_GFILTER]; omega⟩
    rw [earlyChecks_tagged hf ht, if_pos h]

end

end

section
variable {s : State} {p : Nat} {f : RxFrame} {raw : List Byte} {e : RxEnd}

/-- A whole frame that the filter rejects counts so at its end, protected or not. -/
theorem endPlain_gfilter (hf : s.forwarding = true) (he : e.cutAt = none) (hg : s.gfilter p (dropFcs raw) = true)
    (hc : (s.classify p f.tpid (dropFcs raw)).isSome = true) :
    s.endPlain p f raw e = (s.inc (C.MAC_RX_GFILTER p)).dropFrame f := by
  obtain ⟨⟨x, vid, pcp, dei⟩, hx⟩ : ∃ t, s.rxTag p f.tpid (dropFcs raw) = some t := by
    unfold State.rxTag
    split
    · exact Option.isSome_iff_exists.mp hc
    · exact ⟨_, rfl⟩
  have hearly := earlyChecks_tagged hf hx
  rw [if_pos hg] at hearly
  simp only [State.endPlain, he, Option.isSome_none, Bool.false_eq_true, if_false, hg, if_true, hearly, ite_self]

@[simp] theorem dropFrame_cnt (s : State) (f : RxFrame) : (s.dropFrame f).cnt = s.cnt := by
  unfold State.dropFrame
  split <;> rfl

/-- While it arrives, too, a frame that the filter rejects is neither decided nor counted as wasted (R170). -/
theorem forwardingDecision_gfilter (hq : (s.port p).inq = []) (hc : (s.port p).cur = some f)
    (hg : s.gfilter p (dropFcs f.bytes) = true) : (s.forwardingDecision p).cnt = s.cnt := by
  unfold State.forwardingDecision
  split
  · rfl
  · next hready =>
    have hf : s.forwarding = true := by
      by_contra hn
      exact hready (.inl hn)
    obtain ⟨c, hearly, hlow⟩ := earlyChecks_gfilter (tpid := f.tpid) hf hg
    simp only [hq, hc, hearly]
    split
    · rfl
    · have hsame : (((s.inc c).modPort p (fun m => { m with cur := some { f with dead := true, cells := [] } })).returnCells
          f.cells).gfilter p (dropFcs f.bytes) = true := (gfilter_inc s hlow _).trans hg
      rw [if_pos hsame]
      rfl

end

/-- Settles O26. -/
theorem groupFilterRule : Obligations.GroupFilterRule := by
  intro s p a b c d e f r h
  refine ⟨gfilter_iff a b c d e f r s p, fun fr raw en hf hg he hc => ?_, fun fr hq hc hg => forwardingDecision_gfilter hq hc hg⟩
  have hend := endPlain_gfilter (f := fr) hf he hg hc
  exact ⟨hend, by rw [hend, dropFrame_cnt, inc_cnt]⟩

end Sys2Proof.Machine
end

section
/-! PROOF. The receive checks of a port in their order (04, R157, Table 4-5). -/

namespace Sys2Proof.Machine

theorem exec_frameEndRx {s : State} (ha : s.alive = true) (p : Fin 24) (e : RxEnd) :
    exec (.frameEndRx p e) s = .next (settle (s.frameEndRx p e)) := finish_live ha _

/-- The octets of a frame that have been received when it ends. -/
def rxOctets (e : RxEnd) (bytes : List Byte) : List Byte :=
  match e.cutAt with | some n => bytes.take n | none => bytes

/-- The octets on which checks 2 to 5 work: without FCS, where the frame has one. -/
def rxChecked (e : RxEnd) (raw : List Byte) : List Byte := if e.cutAt.isSome then raw else dropFcs raw

/-- A whole frame with a correct FCS may be a Sync, which is noted. -/
def State.syncNoted (s : State) (f : RxFrame) (e : RxEnd) : State :=
  if e.cutAt = none ∧ fcsOk (rxOctets e f.bytes) = true then s.noteSync (stripTag f.tpid (dropFcs (rxOctets e f.bytes))) else s

/-- The port with its frame out of reception, and its opportunity over. -/
def State.rxTaken (s : State) (p : Nat) : State := (s.plcaYield p).modPort p (fun m => { m with cur := none })

theorem plcaYield_eq (s : State) (p : Nat) : ∃ m, s.plcaYield p = { s with mac := m } := by
  unfold State.plcaYield
  split
  · exact ⟨s.mac, rfl⟩
  · exact ⟨_, rfl⟩

theorem noteSync_eq (s : State) (d : List Byte) : ∃ c, s.noteSync d = { s with clk := c } := by
  unfold State.noteSync
  split
  · split
    · exact ⟨_, rfl⟩
    · exact ⟨s.clk, rfl⟩
  · exact ⟨s.clk, rfl⟩

theorem rxTaken_eq (s : State) (p : Nat) : ∃ m, s.rxTaken p = { s with mac := m } := by
  obtain ⟨m, hm⟩ := plcaYield_eq s p
  rw [State.rxTaken, hm]
  exact ⟨_, rfl⟩

theorem syncNoted_eq (s : State) (f : RxFrame) (e : RxEnd) : ∃ c, s.syncNoted f e = { s with clk := c } := by
  unfold State.syncNoted
  split
  · exact noteSync_eq ..
  · exact ⟨s.clk, rfl⟩

/-- Nothing but the ports and the clocks has changed when the checks begin. -/
theorem syncNoted_rxTaken_eq (s : State) (p : Nat) (f : RxFrame) (e : RxEnd) :
    ∃ m c, (s.rxTaken p).syncNoted f e = { s with mac := m, clk := c } := by
  obtain ⟨m, hm⟩ := rxTaken_eq s p
  obtain ⟨c, hc⟩ := syncNoted_eq (s.rxTaken p) f e
  exact ⟨m, c, by rw [hc, hm]⟩

-- the checks after 5 (R157)

section
variable {s : State} {p n extra : Nat} {raw : List Byte} {e : RxEnd}

theorem lateCheck_cut (hcut : e.cutAt.isSome = true) : s.lateCheck p raw n extra e = some (C.MAC_RX_TRUNC p) := if_pos hcut

variable (hcut : e.cutAt = none)
include hcut

theorem lateCheck_runt (h : n < 64) : s.lateCheck p raw n extra e = some (C.MAC_RX_RUNT p) := by
  simp [State.lateCheck, hcut, h]

variable (h64 : 64 ≤ n)
include h64

theorem lateCheck_oversize (h : s.maxFrame p + extra < n) : s.lateCheck p raw n extra e = some (C.MAC_RX_OVERSIZE p) := by
  simp [State.lateCheck, hcut, h64.not_gt, h]

variable (hfit : n ≤ s.maxFrame p + extra)
include hfit

theorem lateCheck_code (h : e.codeErr = true) : s.lateCheck p raw n extra e = some (C.MAC_RX_CODE p) := by
  simp [State.lateCheck, hcut, h64.not_gt, hfit.not_gt, h]

variable (hcode : e.codeErr = false)
include hcode

theorem lateCheck_fcs (h : fcsOk raw = false) : s.lateCheck p raw n extra e = some (C.MAC_RX_FCS p) := by
  simp [State.lateCheck, hcut, h64.not_gt, hfit.not_gt, hcode, h]

theorem lateCheck_good (h : fcsOk raw = true) : s.lateCheck p raw n extra e = none := by
  simp [State.lateCheck, hcut, h64.not_gt, hfit.not_gt, hcode, h]

end

section
variable {s : State} {p : Nat} {f : RxFrame} {raw : List Byte} {e : RxEnd}

section
variable (hms : p < 16 → s.on (F.CPH_MS_CTRL_RX_EN p) = false)
include hms

theorem visible_unprotected (tpid : Nat) (d : List Byte) : s.visible p tpid d = some (stripTag tpid d) :=
  if_neg fun h => by simp [hms h.1] at h

theorem msRx_off : (decide (p < 16) && s.on (F.CPH_MS_CTRL_RX_EN p)) = false := by
  by_cases hp : p < 16
  · simp [hms hp]
  · simp [hp]

/-- A frame that fails one of checks 2 to 4 counts there. -/
theorem endPlain_dropped {c : Nat} (h : s.earlyChecks p f.tpid (rxChecked e raw) = .drop c) :
    s.endPlain p f raw e = (s.inc c).dropFrame f := by
  rw [rxChecked] at h
  simp only [State.endPlain, msRx_off hms, Bool.false_eq_true, false_and, if_false, h]

theorem endPlain_control (h : s.earlyChecks p f.tpid (rxChecked e raw) = .control) :
    s.endPlain p f raw e = s.controlEnd p f raw (rxChecked e raw) e := by
  rw [rxChecked] at h ⊢
  simp only [State.endPlain, msRx_off hms, Bool.false_eq_true, false_and, if_false, h]

section
variable {x : List Byte} {vid pcp dei : Nat} (h : s.earlyChecks p f.tpid (rxChecked e raw) = .pass x vid pcp dei)
include h

/-- A frame that passes checks 2 to 5 and fails a later one counts there. -/
theorem endPlain_late {c : Nat} (hc : s.lateCheck p raw raw.length 0 e = some c) : s.endPlain p f raw e = (s.inc c).dropFrame f := by
  rw [rxChecked] at h
  simp only [State.endPlain, msRx_off hms, Bool.false_eq_true, false_and, if_false, h, hc]

theorem endPlain_good (hc : s.lateCheck p raw raw.length 0 e = none) :
    s.endPlain p f raw e = (s.countRx p raw.length).acceptFrame p f x vid pcp dei none := by
  rw [rxChecked] at h
  simp only [State.endPlain, msRx_off hms, Bool.false_eq_true, false_and, if_false, h, hc]

end

/-- A frame that no decision has met, whole or cut short, meets the checks at its end. -/
theorem endFrame_undecided (hdead : f.dead = false) (hdec : f.decided = false) (hfrag : e.fragErr = false) :
    s.endFrame p f e = (s.syncNoted f e).endPlain p f (rxOctets e f.bytes) e := by
  obtain ⟨cut, code, frag⟩ := e
  subst hfrag
  cases cut with
  | none => simp [State.endFrame, State.syncNoted, rxOctets, visible_unprotected hms, hdead, hdec]
  | some n => simp [State.endFrame, State.syncNoted, rxOctets, hdead, hdec]

end

theorem frameEndRx_undecided (hc : (s.port p).cur = some f) (hdead : f.dead = false) (hdec : f.decided = false)
    (hfrag : e.fragErr = false) (hms : p < 16 → s.on (F.CPH_MS_CTRL_RX_EN p) = false) :
    s.frameEndRx p e = ((s.rxTaken p).syncNoted f e).endPlain p f (rxOctets e f.bytes) e := by
  obtain ⟨m, hm⟩ := rxTaken_eq s p
  have hmsw : p < 16 → (s.rxTaken p).on (F.CPH_MS_CTRL_RX_EN p) = false := by rw [hm]; exact hms
  rw [← endFrame_undecided hmsw hdead hdec hfrag, State.frameEndRx, hc]
  rfl

end

/-- Settles O27: what the checks read, nothing has changed when they begin, and each case names the first one that fails. -/
theorem receiveChecksInOrder : Obligations.ReceiveChecksInOrder := by
  intro s p f e ha hcur hdead hdec hfrag hms raw d w u drop
  have hexec : exec (.frameEndRx p e) s = .next (settle (u.endPlain p f raw e)) := by
    rw [exec_frameEndRx ha, frameEndRx_undecided hcur hdead hdec hfrag hms]
    rfl
  obtain ⟨m, c, hu : u = { s with mac := m, clk := c }⟩ := syncNoted_rxTaken_eq s p f e
  have hmsu : p.val < 16 → u.on (F.CPH_MS_CTRL_RX_EN p) = false := by rw [hu]; exact hms
  have hforward : u.forwarding = s.forwarding := by rw [hu]; rfl
  have htag : u.rxTag p f.tpid d = s.rxTag p f.tpid d := by rw [hu]; rfl
  have hfilter : u.gfilter p d = s.gfilter p d := by rw [hu]; rfl
  have hmax : u.maxFrame p = s.maxFrame p := by rw [hu]; rfl
  have early : ∀ n, u.earlyChecks p f.tpid d = .drop n → drop n := fun n h => by
    show exec _ s = _
    rw [hexec, endPlain_dropped hmsu h]
  refine ⟨fun hf => early _ (earlyChecks_notReady (hforward.trans hf)), fun hf hknown hnone => ?tagdrop,
    fun x vid pcp dei hf hx => ?tagged⟩
  case tagdrop =>
    exact early _ (earlyChecks_noTag (hforward.trans hf) (htag.trans ((if_pos hknown).trans hnone)))
  case tagged =>
    have htagged := earlyChecks_tagged (hforward.trans hf) (htag.trans hx)
    rw [hfilter] at htagged
    refine ⟨fun hg => early _ (htagged.trans (if_pos hg)), fun hg het => ?_, fun hg het => ?_⟩
    · have hcontrol : u.earlyChecks p f.tpid d = .control := by rw [htagged, if_neg (by simp [hg]), if_pos het]
      rw [hexec, endPlain_control hmsu hcontrol]
      rfl
    · have hpass : u.earlyChecks p f.tpid d = .pass x vid pcp dei := by rw [htagged, if_neg (by simp [hg]), if_neg het]
      have late : ∀ n, u.lateCheck p raw raw.length 0 e = some n → drop n := fun n h => by
        show exec _ s = _
        rw [hexec, endPlain_late hmsu hpass h]
      rw [← hmax]
      refine ⟨fun hcut => late _ (lateCheck_cut hcut), fun hcut h => late _ (lateCheck_runt hcut h),
        fun hcut h64 h => late _ (lateCheck_oversize hcut h64 h), fun hcut h64 hfit h => late _ (lateCheck_code hcut h64 hfit h),
        fun hcut h64 hfit hcode h => late _ (lateCheck_fcs hcut h64 hfit hcode h), fun hcut h64 hfit hcode h => ?_⟩
      rw [hexec, endPlain_good hmsu hpass (lateCheck_good hcut h64 hfit hcode h)]
      rfl

end Sys2Proof.Machine
end

section
/-! SUPPORT. What writes to the registers of a port change: the fields of a word, one bit of it, and the event register. -/

namespace Sys2Proof.Machine

-- one bit of a word

theorem bits_one (v c : Nat) : bits v c 1 = if v.testBit c then 1 else 0 := by
  rw [Nat.testBit_eq_decide_div_mod_eq, bits, Nat.shiftRight_eq_div_pow]
  rcases Nat.mod_two_eq_zero_or_one (v / 2 ^ c) with h | h <;> simp [h]

theorem clearBit_eq_insertField (v c : Nat) : clearBit v c = insertField v c 1 0 := by
  unfold clearBit insertField
  rw [bits_one]
  split <;> simp

theorem setBit_eq_insertField (v c : Nat) : (if v.testBit c then v else v + 2 ^ c) = insertField v c 1 1 := by
  unfold insertField
  rw [bits_one]
  split
  · next h => simp [Nat.sub_add_cancel (Nat.ge_two_pow_of_testBit h)]
  · simp

theorem testBit_insertBit (v c i : Nat) (b : Bool) :
    (insertField v c 1 (if b then 1 else 0)).testBit i = if i = c then b else v.testBit i := by
  rw [testBit_insertField]
  by_cases h : i = c
  · subst h; cases b <;> simp
  · rw [if_neg h, if_neg (by omega)]

-- registers written by the access types of their fields

theorem writeFields_eq (s : State) (a v : Nat) : ∃ r, s.writeFields a v = { s with regs := r } := by
  unfold State.writeFields
  split
  · exact ⟨_, rfl⟩
  · exact ⟨s.regs, rfl⟩

theorem writeFields_mem (s : State) (a v : Nat) : (s.writeFields a v).mem = s.mem := by
  obtain ⟨r, h⟩ := writeFields_eq s a v
  rw [h]

theorem writeFields_clk (s : State) (a v : Nat) : (s.writeFields a v).clk = s.clk := by
  obtain ⟨r, h⟩ := writeFields_eq s a v
  rw [h]

theorem portsOn_writeFields (s : State) (a v : Nat) : (s.writeFields a v).portsOn = s.portsOn := by
  obtain ⟨r, h⟩ := writeFields_eq s a v
  rw [h]
  rfl

theorem reg_writeFields_ne (s : State) {a b : Nat} (h : b ≠ a) (v : Nat) : (s.writeFields a v).reg b = s.reg b := by
  unfold State.writeFields
  split
  · exact reg_setReg_ne s h _
  · rfl

theorem rd_writeFields_ne (s : State) {a : Nat} {f : Fld} (h : f.addr ≠ a) (v : Nat) : (s.writeFields a v).rd f = s.rd f := by
  rw [State.rd, State.rd, State.regN, State.regN, reg_writeFields_ne s h]

theorem on_writeFields_ne (s : State) {a : Nat} {f : Fld} (h : f.addr ≠ a) (v : Nat) : (s.writeFields a v).on f = s.on f := by
  rw [State.on, State.on, rd_writeFields_ne s h]

/-- A RW field of one bit at the foot of a register without W1C fields takes the lowest bit of what is written. -/
theorem testBit_zero_writtenValue {r : RegRow} (hrw : (r.mask (fun a => a == .rw || a == .rws)).testBit 0 = true)
    (hc : r.mask (fun a => a == .w1c) = 0) (old v : Nat) : (writtenValue r old v).testBit 0 = v.testBit 0 := by
  have hkept : (old - (old &&& r.mask (fun a => a == .rw || a == .rws))).testBit 0 = false := by
    have hodd := Nat.testBit_and old (r.mask (fun a => a == .rw || a == .rws)) 0
    have hle := Nat.and_le_left (n := old) (m := r.mask (fun a => a == .rw || a == .rws))
    simp only [hrw, Bool.and_true, Nat.testBit_zero, decide_eq_decide] at hodd
    simp only [Nat.testBit_zero, decide_eq_false_iff_not]
    omega
  simp only [writtenValue, hc, Nat.and_zero, Nat.sub_zero, Nat.testBit_or, Nat.testBit_and, hkept, hrw, Bool.false_or, Bool.and_true]

-- the events of the MAC

theorem evBit_mac {c : Nat} (hc : c / 256 = 4) (p : Nat) : evBit c p = some ⟨R.MAC_EVENT p, c % 256 - 1, 1⟩ := by
  simp only [evBit, hc]

theorem rd_raise_mac (s : State) {c p : Nat} {f : Fld} (hc : c / 256 = 4) (h : f.addr ≠ R.MAC_EVENT p) : (s.raise c p).rd f = s.rd f :=
  rd_raise_ne s c p fun g hg => by
    rw [evBit_mac hc, Option.some.injEq] at hg
    exact hg ▸ h

theorem on_raise_mac (s : State) {c p : Nat} {f : Fld} (hc : c / 256 = 4) (h : f.addr ≠ R.MAC_EVENT p) : (s.raise c p).on f = s.on f := by
  rw [State.on, State.on, rd_raise_mac s hc h]

-- a port is no register

@[simp] theorem port_wr (s : State) (f : Fld) (v q : Nat) : (s.wr f v).port q = s.port q := rfl

@[simp] theorem port_inc (s : State) (c q : Nat) : (s.inc c).port q = s.port q := rfl

@[simp] theorem port_raise (s : State) (c i q : Nat) : (s.raise c i).port q = s.port q := by rw [State.port, raise_mac, State.port]

end Sys2Proof.Machine
end

section
/-! PROOF. Writes of the MAC registers (04, R141 to R143, R153), and pause: its frames, its classes, its watchdog and its requests
(04, R172 to R180). -/

namespace Sys2Proof.Machine

-- MAC_CTRL

theorem exec_macCtrlWrite {s : State} {p : Fin 24} (h : s.writable (R.MAC_CTRL p)) (v : Word) :
    exec (.macCtrlWrite p v) s = .next (settle (s.macCtrlWrite p v.toNat)) := finish_regLive h _

theorem regRow_macCtrl : ∀ p : Fin 24, regRow? (R.MAC_CTRL p) = rowsMAC0.head? := by decide

/-- The reserved bits of a port lie above ENABLE, which takes what is written. -/
theorem enable_writeFields (s : State) (p : Fin 24) (v : Nat) :
    (s.writeFields (R.MAC_CTRL p) (v - (v &&& macCtrlReserved p))).on (F.MAC_CTRL_ENABLE p) = v.testBit 0 := by
  have hreserved : (macCtrlReserved p).testBit 0 = false := by
    unfold macCtrlReserved
    split <;> split <;> decide
  have hclear : (v &&& macCtrlReserved p).testBit 0 = false := by
    rw [Nat.testBit_and, hreserved, Bool.and_false]
  have hle := Nat.and_le_left (n := v) (m := macCtrlReserved p)
  rw [State.on, State.rd, State.writeFields, regRow_macCtrl]
  dsimp only [rowsMAC0, List.head?]
  rw [regN_setRegN_same, bits_mod (by simp), bits_one,
    testBit_zero_writtenValue (by decide) (by decide)]
  simp only [Nat.testBit_zero, decide_eq_true_eq, decide_eq_false_iff_not] at hclear ⊢
  by_cases h : v % 2 = 1
  · simp [h, show (v - (v &&& macCtrlReserved p)) % 2 = 1 by omega]
  · simp [h, show ¬ (v - (v &&& macCtrlReserved p)) % 2 = 1 by omega]

/-- What MODE_ERR has to say of a MODE reaches no register but the port's status and its events. -/
theorem rd_checkMode (s : State) {p : Nat} {f : Fld} (changed : Bool) (hs : f.addr ≠ R.MAC_STATUS p) (he : f.addr ≠ R.MAC_EVENT p) :
    (s.checkMode p changed).rd f = s.rd f := by
  have hwr : ∀ v, (s.wr (F.MAC_STATUS_MODE_ERR p) v).rd f = s.rd f := fun v => rd_of_regN (regN_wr_ne s _ hs v)
  unfold State.checkMode State.modeError
  split
  · exact hwr 0
  · split
    · rw [rd_raise_mac _ (by norm_num) he, hwr]
    · rfl

theorem linkUp_wr (s : State) {p : Nat} {f : Fld} (h : R.MAC_STATUS p ≠ f.addr ∨ 1 ≤ f.lo) (v : Nat) : (s.wr f v).linkUp p = s.linkUp p :=
  on_wr_other s f _ (by simp) v (h.imp id .inr)

theorem linkUp_raise_mac (s : State) {c p : Nat} (hc : c / 256 = 4) (q : Nat) : (s.raise c p).linkUp q = s.linkUp q :=
  on_raise_mac s hc (by simp only [R.MAC_STATUS, R.MAC_EVENT]; omega)

theorem linkUp_checkMode (s : State) (p : Nat) (changed : Bool) : (s.checkMode p changed).linkUp p = s.linkUp p := by
  have hwr : ∀ v, (s.wr (F.MAC_STATUS_MODE_ERR p) v).linkUp p = s.linkUp p := linkUp_wr s (.inr (by simp))
  unfold State.checkMode State.modeError
  split
  · exact hwr 0
  · split
    · rw [linkUp_raise_mac _ (by norm_num), hwr]
    · rfl

theorem checkMode_clk (s : State) (p : Nat) (changed : Bool) : (s.checkMode p changed).clk = s.clk := by
  unfold State.checkMode State.modeError
  split_ifs <;> simp

theorem checkMode_portsOn (s : State) (p : Nat) (changed : Bool) : (s.checkMode p changed).portsOn = s.portsOn := by
  have hboot : (s.checkMode p changed).boot = s.boot := by
    unfold State.checkMode State.modeError
    split_ifs <;> simp
  have hflt : (s.checkMode p changed).flt = s.flt := by
    unfold State.checkMode State.modeError
    split_ifs <;> simp
  rw [State.portsOn, State.portsOn, hboot, hflt]

theorem linkUp_establish (s : State) (p : Nat) : (s.establish p).linkUp p = s.linkUp p := by
  unfold State.establish
  dsimp only
  split
  · exact linkUp_wr _ (.inr (by simp)) 1
  · exact linkUp_wr _ (.inr (by simp)) 0

theorem establish_clk (s : State) (p : Nat) : (s.establish p).clk = s.clk := by
  unfold State.establish
  dsimp only
  split <;> rfl

/-- The state once a write of MAC_CTRL has been taken and its MODE looked at. -/
def State.ctrlTaken (s : State) (p v : Nat) : State :=
  let u := s.writeFields (R.MAC_CTRL p) (v - (v &&& macCtrlReserved p))
  u.checkMode p (decide (s.rd (F.MAC_CTRL_MODE p) ≠ u.rd (F.MAC_CTRL_MODE p)))

section
variable (s : State) (p : Fin 24) (v : Nat)

/-- MODE_ERR and its event, by the MODE written (R142). -/
theorem ctrlTaken_eq : let u := s.writeFields (R.MAC_CTRL p) (v - (v &&& macCtrlReserved p))
    s.ctrlTaken p v = if modeOk p (u.rd (F.MAC_CTRL_MODE p)) then u.wr (F.MAC_STATUS_MODE_ERR p) 0
      else if u.rd (F.MAC_CTRL_MODE p) ≠ s.rd (F.MAC_CTRL_MODE p) ∨ s.on (F.MAC_STATUS_MODE_ERR p) = false then
        (u.wr (F.MAC_STATUS_MODE_ERR p) 1).raise 0x0407 p
      else u := by
  intro u
  have herr : u.on (F.MAC_STATUS_MODE_ERR p) = s.on (F.MAC_STATUS_MODE_ERR p) :=
    on_writeFields_ne s (by simp only [R.MAC_STATUS, R.MAC_CTRL]; omega) _
  simp only [State.ctrlTaken, State.checkMode, State.modeError, ← herr, decide_eq_true_eq, Bool.not_eq_true, ne_comm (a := s.rd _)]
  rfl

theorem linkUp_writeCtrl : (s.writeFields (R.MAC_CTRL p) v).linkUp p = s.linkUp p :=
  on_writeFields_ne s (by simp only [R.MAC_STATUS, R.MAC_CTRL]; omega) v

theorem linkUp_ctrlTaken : (s.ctrlTaken p v).linkUp p = s.linkUp p :=
  (linkUp_checkMode ..).trans (linkUp_writeCtrl ..)

theorem mode_ctrlTaken : (s.ctrlTaken p v).rd (F.MAC_CTRL_MODE p) =
    (s.writeFields (R.MAC_CTRL p) (v - (v &&& macCtrlReserved p))).rd (F.MAC_CTRL_MODE p) :=
  rd_checkMode _ _ (by simp only [R.MAC_CTRL, R.MAC_STATUS]; omega) (by simp only [R.MAC_CTRL, R.MAC_EVENT]; omega)

/-- A write to a disabled port that leaves it disabled (R141, R148). -/
theorem macCtrlWrite_stays (hoff : s.on (F.MAC_CTRL_ENABLE p) = false) (hlink : s.linkUp p = false) (hv : v.testBit 0 = false) :
    s.macCtrlWrite p v = ((s.ctrlTaken p v).wr (F.MAC_STATUS_KR_STATE p) 0).wr (F.TSU_P_QSTAT_CAL_DONE p) 0 := by
  have hlast : (((s.ctrlTaken p v).wr (F.MAC_STATUS_KR_STATE p) 0).wr (F.TSU_P_QSTAT_CAL_DONE p) 0).linkUp p = false := by
    rw [linkUp_wr _ (.inl (by simp only [R.MAC_STATUS, R.TSU_P_QSTAT]; omega)), linkUp_wr _ (.inr (by simp)), linkUp_ctrlTaken, hlink]
  have hwill := (enable_writeFields s p v).trans hv
  rw [State.ctrlTaken] at hlast ⊢
  simp only [State.macCtrlWrite, hoff, hwill, Bool.false_eq_true, false_and, if_false, not_false_eq_true, if_true]
  exact if_neg fun h => Bool.false_ne_true (hlast.symm.trans h.1)

/-- Link establishment begins where ports are on and the MODE is one of the port's (R142, R149). -/
def State.ctrlLinked (s : State) (p v : Nat) : State :=
  if s.portsOn = true ∧ modeOk p ((s.ctrlTaken p v).rd (F.MAC_CTRL_MODE p)) = true then (s.ctrlTaken p v).establish p else s.ctrlTaken p v

theorem ctrlTaken_portsOn : (s.ctrlTaken p v).portsOn = s.portsOn := by rw [State.ctrlTaken, checkMode_portsOn, portsOn_writeFields]

theorem ctrlTaken_clk : (s.ctrlTaken p v).clk = s.clk := by rw [State.ctrlTaken, checkMode_clk, writeFields_clk]

theorem ctrlLinked_clk : (s.ctrlLinked p v).clk = s.clk := by
  unfold State.ctrlLinked
  split
  · rw [establish_clk, ctrlTaken_clk]
  · rw [ctrlTaken_clk]

theorem linkUp_ctrlLinked : (s.ctrlLinked p v).linkUp p = s.linkUp p := by
  unfold State.ctrlLinked
  split
  · rw [linkUp_establish, linkUp_ctrlTaken]
  · rw [linkUp_ctrlTaken]

/-- A write that enables a disabled port notes the instant (R143). -/
theorem macCtrlWrite_enables (hoff : s.on (F.MAC_CTRL_ENABLE p) = false) (hlink : s.linkUp p = false) (hv : v.testBit 0 = true) :
    s.macCtrlWrite p v = (s.ctrlLinked p v).modPort p (fun m => { m with everUp := false, linkAt := s.clk.now }) := by
  have hwill := (enable_writeFields s p v).trans hv
  have hdown := (linkUp_ctrlLinked s p v).trans hlink
  rw [← ctrlLinked_clk s p v]
  rw [State.ctrlLinked, ← ctrlTaken_portsOn s p v] at hdown ⊢
  simp only [State.macCtrlWrite, hoff, hwill, Bool.false_eq_true, false_and, if_false, not_true_eq_false, not_false_eq_true, true_or,
    and_true, if_true]
  exact if_neg fun h => Bool.false_ne_true (hdown.symm.trans h.1)

end

-- MDIO (R153)

theorem exec_mdioStart {s : State} (h : s.writable R.MAC_MDIO_CMD) (v : Word) :
    exec (.mdioStart v) s = .next (settle (s.mdioStart v.toNat)) := finish_regLive h _

theorem exec_mdioDone {s : State} (ha : s.alive = true) (d : BitVec 16) :
    exec (.mdioDone d) s = .next (settle (s.mdioDone d.toNat)) := finish_live ha _

theorem mdioStart_busy {s : State} (h : s.on F.MAC_MDIO_CMD_BUSY = true) (v : Nat) : s.mdioStart v = s := if_pos h

section
variable {s : State} {v : Nat} (h : s.on F.MAC_MDIO_CMD_BUSY = false)
include h

theorem mdioStart_starts (hs : v.testBit 14 = true) (hop : v.testBit 13 = true ∨ bits v 11 2 = 1 ∨ bits v 11 2 = 3) :
    s.mdioStart v = (s.writeFields R.MAC_MDIO_CMD v).wr F.MAC_MDIO_CMD_BUSY 1 := by
  simp only [State.mdioStart, h, Bool.false_eq_true, if_false, hs, hop, and_self, if_true]

theorem mdioStart_fields (hs : v.testBit 14 = false ∨ v.testBit 13 = false ∧ (bits v 11 2 = 0 ∨ bits v 11 2 = 2)) :
    s.mdioStart v = s.writeFields R.MAC_MDIO_CMD v := by
  have hno : ¬ (v.testBit 14 = true ∧ (v.testBit 13 = true ∨ bits v 11 2 = 1 ∨ bits v 11 2 = 3)) := by
    rintro ⟨h14, hop⟩
    rcases hs with hs | ⟨h13, hs⟩
    · simp [hs] at h14
    · simp only [h13, Bool.false_eq_true, false_or] at hop
      omega
  simp only [State.mdioStart, h, Bool.false_eq_true, if_false, hno]

end

theorem mdioDone_busy {s : State} (h : s.on F.MAC_MDIO_CMD_BUSY = true) (d : Nat) :
    s.mdioDone d = if 2 ≤ s.rd F.MAC_MDIO_CMD_OP then (s.wr F.MAC_MDIO_CMD_BUSY 0).wr F.MAC_MDIO_DATA_DATA d
      else s.wr F.MAC_MDIO_CMD_BUSY 0 := by
  simp only [State.mdioDone, h, if_true, decide_eq_true_eq]

-- pause frames (R172 to R176)

/-- A control frame that the port honours. -/
def State.honours (s : State) (p : Nat) (d : List Byte) : Bool :=
  decide (p < 16) && (daOf d == 0x0180C2000001 || daOf d == s.ownMac) &&
    ((fld d 14 2 == 1 && !s.pfcOn p && s.on (F.MAC_CTRL_PAUSE_RX_EN p)) || (fld d 14 2 == 0x0101 && s.pfcOn p))

section
variable {s : State} {p : Nat} {d : List Byte}

theorem honours_iff : s.honours p d = true ↔ p < 16 ∧ (daOf d = 0x0180C2000001 ∨ daOf d = s.ownMac) ∧
    ((fld d 14 2 = 1 ∧ s.pfcOn p = false ∧ s.on (F.MAC_CTRL_PAUSE_RX_EN p) = true) ∨ (fld d 14 2 = 0x0101 ∧ s.pfcOn p = true)) := by
  simp only [State.honours, Bool.and_eq_true, Bool.or_eq_true, decide_eq_true_eq, beq_iff_eq, Bool.not_eq_true', and_assoc]

theorem macControl_unsupported (h : s.honours p d = false) (good : Bool) : s.macControl p d good = s.inc (C.MAC_RX_CTRL_UNSUP p) :=
  if_pos (by rw [State.honours] at h; simp only [h, Bool.false_eq_true, not_false_eq_true])

section
variable (h : s.honours p d = true)
include h

theorem macControl_honoured (good : Bool) : s.macControl p d good =
    if s.on (F.MAC_STATUS_PAUSE_IGNORED p) then (s.inc (C.MAC_RX_PAUSE p)).inc (C.MAC_RX_PAUSE_IGN p)
    else if ¬ good then s.inc (C.MAC_RX_PAUSE p)
    else if fld d 14 2 = 1 then (List.range 8).foldl (fun u c => u.pauseClass p c (fld d 16 2)) (s.inc (C.MAC_RX_PAUSE p))
    else (List.range 8).foldl (fun u c => if (fld d 16 2).testBit c then u.pauseClass p c (fld d (18 + 2 * c) 2) else u)
      (s.inc (C.MAC_RX_PAUSE p)) := by
  have hsame : (s.inc (C.MAC_RX_PAUSE p)).on (F.MAC_STATUS_PAUSE_IGNORED p) = s.on (F.MAC_STATUS_PAUSE_IGNORED p) :=
    on_inc_ne s (by simp only [R.MAC_STATUS, C.MAC_RX_PAUSE]; omega)
  rw [State.honours] at h
  simp only [State.macControl, h, not_true_eq_false, if_false, hsame]

theorem macControl_ignored (hi : s.on (F.MAC_STATUS_PAUSE_IGNORED p) = true) (good : Bool) :
    s.macControl p d good = (s.inc (C.MAC_RX_PAUSE p)).inc (C.MAC_RX_PAUSE_IGN p) := by
  rw [macControl_honoured h, if_pos hi]

variable (hi : s.on (F.MAC_STATUS_PAUSE_IGNORED p) = false)
include hi

theorem macControl_bad : s.macControl p d false = s.inc (C.MAC_RX_PAUSE p) := by
  simp only [macControl_honoured h, hi, Bool.false_eq_true, if_false, not_false_eq_true, if_true]

theorem macControl_pause (hop : fld d 14 2 = 1) :
    s.macControl p d true = (List.range 8).foldl (fun u c => u.pauseClass p c (fld d 16 2)) (s.inc (C.MAC_RX_PAUSE p)) := by
  simp only [macControl_honoured h, hi, Bool.false_eq_true, if_false, not_true_eq_false, hop, if_true]

theorem macControl_pfc (hop : fld d 14 2 = 0x0101) : s.macControl p d true =
    (List.range 8).foldl (fun u c => if (fld d 16 2).testBit c then u.pauseClass p c (fld d (18 + 2 * c) 2) else u)
      (s.inc (C.MAC_RX_PAUSE p)) := by
  simp only [macControl_honoured h, hi, Bool.false_eq_true, if_false, not_true_eq_false, hop, Nat.reduceEqDiff]

end

end

-- the pause of a class (R172, R174)

section
variable (s : State) (p : Nat)

theorem paused_setPaused (v : Nat) : (s.setPaused p v).rd (F.MAC_STATUS_PAUSED p) = v % 2 ^ 8 := by
  unfold State.setPaused
  dsimp only
  split <;> exact rd_wr_same s _ (by simp) v

theorem pauseEnd_setPaused (v : Nat) : ((s.setPaused p v).port p).pauseEnd = (s.port p).pauseEnd := by
  unfold State.setPaused
  dsimp only
  split
  · rw [port_modPort_same]; rfl
  · rfl

/-- The classes of a port that are paused once class `c` has been given its time. -/
theorem paused_pauseClass (c q : Nat) : (s.pauseClass p c q).rd (F.MAC_STATUS_PAUSED p) =
    insertField (s.rd (F.MAC_STATUS_PAUSED p)) c 1 (if decide (q ≠ 0) then 1 else 0) % 2 ^ 8 := by
  unfold State.pauseClass
  dsimp only
  split
  · next h => simp only [paused_setPaused, clearBit_eq_insertField, h, ne_eq, not_true_eq_false, decide_false, Bool.false_eq_true, if_false]
  · next h => simp only [paused_setPaused, setBit_eq_insertField, ne_eq, h, not_false_eq_true, decide_true, if_true]

theorem testBit_paused_pauseClass (c q : Nat) (i : Fin 8) : ((s.pauseClass p c q).rd (F.MAC_STATUS_PAUSED p)).testBit i =
    if i.val = c then decide (q ≠ 0) else (s.rd (F.MAC_STATUS_PAUSED p)).testBit i := by
  simp only [paused_pauseClass, Nat.testBit_mod_two_pow, testBit_insertBit, i.isLt, decide_true, Bool.true_and]

theorem pauseEnd_pauseClass {c q : Nat} (hq : q ≠ 0) :
    sget 0 ((s.pauseClass p c q).port p).pauseEnd c = s.clk.now + q * 512 * 1000000 / s.portKbps p := by
  simp only [State.pauseClass, if_neg hq, pauseEnd_setPaused, port_modPort_same, sget_sput_same, State.quantaNs]

end

-- the end of a pause, the watchdog and the refresh (R172, R177, R179, R180)

section
variable {s : State} (ha : s.alive = true) (p : Fin 24)
include ha

theorem exec_pauseExpiry (c : Fin 8) : exec (.pauseExpiry p c) s = .next (settle (s.pauseExpiry p c)) := finish_live ha _

theorem exec_pauseWdTrip : exec (.pauseWdTrip p) s = .next (settle (s.pauseWdTrip p)) := finish_live ha _

theorem exec_pauseIgnoredEnd : exec (.pauseIgnoredEnd p) s = .next (settle (s.pauseIgnoredEnd p)) := finish_live ha _

theorem exec_pauseRefresh : exec (.pauseRefresh p) s = .next (settle (s.pauseRefresh p)) := finish_live ha _

end

section
variable {s : State} {p : Nat}

theorem pauseExpiry_due {c : Nat} (h : sget 0 (s.port p).pauseEnd c ≤ s.clk.now) :
    s.pauseExpiry p c = s.setPaused p (clearBit (s.rd (F.MAC_STATUS_PAUSED p)) c) := if_pos h

theorem pauseIgnoredEnd_due (h : (s.port p).ignoreEnd ≤ s.clk.now) :
    s.pauseIgnoredEnd p = s.wr (F.MAC_STATUS_PAUSE_IGNORED p) 0 := if_pos h

/-- The state in which a trip of the watchdog leaves a port, before it begins to ignore pause frames. -/
def State.pauseTripped (s : State) (p : Nat) : State := ((s.releasePause p).inc (C.MAC_PAUSE_WD p)).raise 0x0403 p

theorem pauseWdTrip_early (h : s.rd (F.MAC_PAUSE_WD_LIMIT p) = 0 ∨
    (s.clk.now - (s.port p).pausedAt) / 1000 ≤ s.rd (F.MAC_PAUSE_WD_LIMIT p) * 1000) : s.pauseWdTrip p = s := if_pos (.inr h)

theorem pauseWdTrip_due (hl : s.rd (F.MAC_PAUSE_WD_LIMIT p) ≠ 0) (hp : s.rd (F.MAC_STATUS_PAUSED p) ≠ 0)
    (ht : s.rd (F.MAC_PAUSE_WD_LIMIT p) * 1000 < (s.clk.now - (s.port p).pausedAt) / 1000) :
    s.pauseWdTrip p = if s.rd (F.MAC_PAUSE_WD_HOLD p) = 0 then s.pauseTripped p
      else ((s.pauseTripped p).wr (F.MAC_STATUS_PAUSE_IGNORED p) 1).modPort p
        (fun m => { m with ignoreEnd := s.clk.now + s.rd (F.MAC_PAUSE_WD_HOLD p) * 1000000 }) := by
  have hclk : (s.pauseTripped p).clk = s.clk := raise_clk ..
  rw [← hclk]
  refine (if_neg fun h => ?_).trans rfl
  rcases h with h | h | h
  · exact hp h
  · exact hl h
  · omega

theorem pauseTripped_paused : (s.pauseTripped p).rd (F.MAC_STATUS_PAUSED p) = 0 := by
  rw [State.pauseTripped, rd_raise_mac _ (by norm_num) (by simp only [R.MAC_STATUS, R.MAC_EVENT]; omega),
    rd_inc_ne _ (by simp only [R.MAC_STATUS, C.MAC_PAUSE_WD]; omega), State.releasePause, rd_wr_same _ _ (by simp)]
  rfl

/-- The time after which a request is repeated: REFRESH quanta, or half TX_QUANTA. -/
def State.refreshNs (s : State) (p : Nat) : Nat :=
  s.quantaNs p (if s.rd (F.MAC_PAUSE_REFRESH p) = 0 then s.rd (F.MAC_PAUSE_TX_QUANTA p) / 2 else s.rd (F.MAC_PAUSE_REFRESH p))

/-- A request that stands after XOFF and XON have been looked at, and is due, is repeated. -/
theorem pauseRefresh_due (hr : ((s.updatePause p).port p).pauseReq ≠ 0)
    (ht : ((s.updatePause p).port p).refreshAt + (s.updatePause p).refreshNs p ≤ s.clk.now) :
    s.pauseRefresh p = ((s.updatePause p).askPause p ((s.updatePause p).port p).pauseReq false).modPort p
      (fun m => { m with refreshAt := s.clk.now }) := by
  have hclk := (keepsTime_updatePause s p).1
  rw [← hclk] at ht ⊢
  exact if_neg fun h => h.elim hr (Nat.not_lt.mpr ht)

theorem pauseRefresh_none (h : ((s.updatePause p).port p).pauseReq = 0 ∨
    s.clk.now < ((s.updatePause p).port p).refreshAt + (s.updatePause p).refreshNs p) : s.pauseRefresh p = s.updatePause p := by
  rw [← (keepsTime_updatePause s p).1] at h
  exact if_pos h

end

/-- Settles O25, command by command. -/
theorem portControlsAndPause : Obligations.PortControlsAndPause := by
  refine ⟨fun s => ⟨fun p v hw => ?ctrl, fun v hw => ?mdio, fun d ha hbusy => ?mdioDone, fun a v => ?fields⟩,
    fun s p ha => ⟨fun d hp hown hheed => ?frames, fun d good hp hown hop hign => ?ignored, fun d good h => ?unsupported,
      fun c q => ?cls, fun c h => ?expiry, fun hl hs ht hh => ?trip, fun h => ?early, fun hl hs ht hh => ?tripOnly, fun h => ?heeded,
      fun hr ht => ?refresh, fun h => ?noRefresh⟩⟩
  case ctrl =>
    intro u w hoff hlink
    have hw' : w = s.ctrlTaken p v.toNat := (ctrlTaken_eq s p v.toNat).symm
    have hmode : u.rd (F.MAC_CTRL_MODE p) = (s.ctrlTaken p v.toNat).rd (F.MAC_CTRL_MODE p) := (mode_ctrlTaken s p v.toNat).symm
    rw [exec_macCtrlWrite hw, hw', hmode]
    exact ⟨fun hv => by rw [macCtrlWrite_stays s p _ hoff hlink hv],
      fun hv => by rw [macCtrlWrite_enables s p _ hoff hlink hv]; rfl⟩
  case mdio =>
    rw [exec_mdioStart hw]
    exact ⟨fun h => by rw [mdioStart_busy h], fun h hs hop => by rw [mdioStart_starts h hs hop],
      fun h hs => by rw [mdioStart_fields h hs]⟩
  case mdioDone => rw [exec_mdioDone ha, mdioDone_busy hbusy]
  case fields => exact ⟨writeFields_mem s a v, fun b hb => reg_writeFields_ne s hb v⟩
  case frames =>
    intro u
    refine ⟨fun hop hpfc hrx => ?_, fun hop hpfc => ?_⟩
    · have hh : s.honours p d = true := honours_iff.mpr ⟨hp, hown, .inl ⟨hop, hpfc, hrx⟩⟩
      exact ⟨macControl_bad hh hheed, macControl_pause hh hheed hop⟩
    · exact macControl_pfc (honours_iff.mpr ⟨hp, hown, .inr ⟨hop, hpfc⟩⟩) hheed hop
  case ignored => exact macControl_ignored (honours_iff.mpr ⟨hp, hown, hop⟩) hign good
  case unsupported =>
    refine macControl_unsupported (Bool.eq_false_iff.mpr fun hh => ?_) good
    obtain ⟨hp, hown, hop⟩ := honours_iff.mp hh
    rcases h with h | ⟨h1, h2⟩ | ⟨h1, h2⟩
    · omega
    · exact hop.elim (fun h => h1 h.1) (fun h => h2 h.1)
    · exact hown.elim h1 h2
  case cls =>
    refine ⟨?_, fun i hi => ?_, pauseEnd_pauseClass s p⟩
    · rw [testBit_paused_pauseClass, if_pos rfl]
    · rw [testBit_paused_pauseClass, if_neg (Fin.val_ne_of_ne hi)]
  case expiry => rw [exec_pauseExpiry ha, pauseExpiry_due h]
  case trip => rw [exec_pauseWdTrip ha, pauseWdTrip_due hl hs ht, if_neg hh]; rfl
  case early => rw [exec_pauseWdTrip ha, pauseWdTrip_early h]
  case tripOnly => exact ⟨by rw [exec_pauseWdTrip ha, pauseWdTrip_due hl hs ht, if_pos hh]; rfl, pauseTripped_paused⟩
  case heeded => rw [exec_pauseIgnoredEnd ha, pauseIgnoredEnd_due h]
  case refresh => rw [exec_pauseRefresh ha, pauseRefresh_due hr ht]
  case noRefresh => rw [exec_pauseRefresh ha, pauseRefresh_none h]

end Sys2Proof.Machine
end

section
/-! PROOF. Links that come up and go down, training, verify and the 10BASE-T1S segment (04, R147 to R156, R182, R187; 08, R353). -/

namespace Sys2Proof.Machine

section
variable {s : State} (ha : s.alive = true) (p : Fin 24)
include ha

theorem exec_linkUp (speed : Nat) (full : Bool) : exec (.linkUp p speed full) s = .next (settle (s.linkComesUp p speed full)) :=
  finish_live ha _

theorem exec_linkDown : exec (.linkDown p) s = .next (settle (s.linkGoesDown p)) := finish_live ha _

theorem exec_linkdownDiscard : exec (.linkdownDiscard p) s = .next (settle (s.linkdownDiscard p)) := finish_live ha _

theorem exec_krTrainFailed : exec (.krTrainFailed p) s = .next (settle (s.krTrainFailed p)) := finish_live ha _

theorem exec_krRetry : exec (.krRetry p) s = .next (settle (s.krRetry p)) := finish_live ha _

theorem exec_verifyTimer : exec (.verifyTimer p) s = .next (settle (s.verifyTimer p)) := finish_live ha _

theorem exec_plcaBeaconLost : exec (.plcaBeaconLost p) s = .next (settle (s.plcaBeaconLost p)) := finish_live ha _

theorem exec_plcaBeacon : exec (.plcaBeacon p) s = .next (settle (s.plcaBeacon p)) := finish_live ha _

theorem exec_collision : exec (.collision p) s = .next (settle (s.collision p)) := finish_live ha _

end

-- what a link touches

/-- A register in which a link of port `p` is shown. -/
def linkReg (p a : Nat) : Prop := a = R.MAC_STATUS p ∨ a = R.MAC_LINK_SUMMARY ∨ a = R.TSU_P_QSTAT p ∨ a = R.EGS_P_LEAD p

/-- Nothing has changed but the registers in which the link of port `p` is shown, the port itself, and what has been drawn. -/
structure LinkOnly (p : Nat) (s t : State) : Prop where
  regs : ∀ a, ¬ linkReg p a → t.regN a = s.regN a
  port : ∀ q, q ≠ p → t.port q = s.port q
  mem : t.mem = s.mem
  tables : t.tables = s.tables
  buf : t.buf = s.buf

theorem LinkOnly.trans {p : Nat} {s t u : State} (h : LinkOnly p s t) (k : LinkOnly p t u) : LinkOnly p s u :=
  ⟨fun a ha => (k.regs a ha).trans (h.regs a ha), fun q hq => (k.port q hq).trans (h.port q hq), k.mem.trans h.mem,
    k.tables.trans h.tables, k.buf.trans h.buf⟩

theorem LinkOnly.rd {p : Nat} {s t : State} (h : LinkOnly p s t) {f : Fld} (hf : ¬ linkReg p f.addr) : t.rd f = s.rd f :=
  rd_of_regN (h.regs _ hf)

theorem LinkOnly.on {p : Nat} {s t : State} (h : LinkOnly p s t) {f : Fld} (hf : ¬ linkReg p f.addr) : t.on f = s.on f := by
  rw [State.on, State.on, h.rd hf]

theorem LinkOnly.ite {p : Nat} {s t u : State} {c : Prop} [Decidable c] (ht : LinkOnly p s t) (hu : LinkOnly p s u) :
    LinkOnly p s (if c then t else u) := by
  split
  · exact ht
  · exact hu

theorem linkOnly_refl (p : Nat) (s : State) : LinkOnly p s s := ⟨fun _ _ => rfl, fun _ _ => rfl, rfl, rfl, rfl⟩

theorem linkOnly_wr (p : Nat) (s : State) {f : Fld} (h : linkReg p f.addr) (v : Nat) : LinkOnly p s (s.wr f v) :=
  ⟨fun _ ha => regN_wr_ne s f (by rintro rfl; exact ha h) v, fun _ _ => rfl, rfl, rfl, rfl⟩

theorem linkOnly_modPort (p : Nat) (s : State) (f : MacPort → MacPort) : LinkOnly p s (s.modPort p f) :=
  ⟨fun _ _ => rfl, fun _ hq => port_modPort_ne s hq f, rfl, rfl, rfl⟩

theorem linkOnly_drawFree (p : Nat) (s : State) : LinkOnly p s s.drawFree.2 := ⟨fun _ _ => rfl, fun _ _ => rfl, rfl, rfl, rfl⟩

theorem linkReg_status (p : Nat) : linkReg p (R.MAC_STATUS p) := .inl rfl
theorem linkReg_summary (p : Nat) : linkReg p R.MAC_LINK_SUMMARY := .inr (.inl rfl)
theorem linkReg_qstat (p : Nat) : linkReg p (R.TSU_P_QSTAT p) := .inr (.inr (.inl rfl))
theorem linkReg_lead (p : Nat) : linkReg p (R.EGS_P_LEAD p) := .inr (.inr (.inr rfl))

/-- The settings of a port show no link. -/
theorem not_linkReg_ctrl (p : Fin 24) (q : Nat) : ¬ linkReg p (R.MAC_CTRL q) := by
  simp only [linkReg, R.MAC_CTRL, R.MAC_STATUS, R.MAC_LINK_SUMMARY, R.TSU_P_QSTAT, R.EGS_P_LEAD]
  omega

/-- Nor does the status of another port. -/
theorem not_linkReg_status {p q : Nat} (hq : q < 24) (h : q ≠ p) : ¬ linkReg p (R.MAC_STATUS q) := by
  simp only [linkReg, R.MAC_STATUS, R.MAC_LINK_SUMMARY, R.TSU_P_QSTAT, R.EGS_P_LEAD]
  omega

theorem LinkOnly.linkUp {p : Nat} {s t : State} (h : LinkOnly p s t) {q : Nat} (hq : q < 24) (hne : q ≠ p) : t.linkUp q = s.linkUp q :=
  h.on (not_linkReg_status hq hne)

theorem linkOnly_setLink (p : Nat) (s : State) (up : Bool) : LinkOnly p s (s.setLink p up) :=
  (linkOnly_wr p s (linkReg_status p) _).trans (linkOnly_wr p _ (linkReg_summary p) _)

theorem linkOnly_startVerify (p : Nat) (s : State) : LinkOnly p s (s.startVerify p) :=
  .ite (.ite (linkOnly_wr p s (linkReg_status p) 4) ((linkOnly_wr p s (linkReg_status p) 1).trans (linkOnly_modPort p _ _)))
    (linkOnly_wr p s (linkReg_status p) 0)

theorem linkOnly_establish (p : Nat) (s : State) : LinkOnly p s (s.establish p) :=
  (linkOnly_modPort p s _).trans
    (.ite ((linkOnly_wr p _ (linkReg_status p) 1).trans (linkOnly_modPort p _ _)) (linkOnly_wr p _ (linkReg_status p) 0))

-- a link comes up (R147 to R149)

/-- The link and its speed are shown, and MODE_ERR is over. -/
def State.linkShown (s : State) (p speed : Nat) : State :=
  ((s.setLink p true).wr (F.MAC_STATUS_SPEED_ACT p) speed).wr (F.MAC_STATUS_MODE_ERR p) 0

/-- A training that has come to its end. -/
def State.linkTrained (s : State) (p : Nat) : State :=
  if s.rd (F.MAC_CTRL_MODE p) = 1 then
    (s.drawFree.2.wr (F.MAC_STATUS_KR_STATE p) 2).modPort p (fun m => { m with krCoef := some s.drawFree.1 })
  else s

/-- The port and its gate lead begin anew with the link (08, R353). -/
def State.linkBegun (s : State) (p speed : Nat) : State :=
  let s := s.modPort p (fun m => { m with everUp := true, lastSpeed := speed, calWait := true, beaconAt := s.clk.now,
                                          beaconLost := false, plcaId := 0, plcaAt := s.clk.now, plcaSent := 0, leadFrom := none })
  if p < 16 then
    s.wr (F.EGS_P_LEAD_LEAD p) (if s.rd (F.EGS_P_LEAD_CFG_INIT p) = 0 then s.nominalLead p else s.rd (F.EGS_P_LEAD_CFG_INIT p))
  else s

/-- A link that has come up, before its event. -/
def State.linkRisen (s : State) (p speed : Nat) : State :=
  (((s.linkShown p speed).linkTrained p).linkBegun p speed).startVerify p

section
variable (s : State) (p : Nat)

theorem linkOnly_linkShown (speed : Nat) : LinkOnly p s (s.linkShown p speed) :=
  ((linkOnly_setLink p s true).trans (linkOnly_wr p _ (linkReg_status p) _)).trans (linkOnly_wr p _ (linkReg_status p) _)

theorem linkOnly_linkTrained : LinkOnly p s (s.linkTrained p) :=
  .ite (((linkOnly_drawFree p s).trans (linkOnly_wr p _ (linkReg_status p) 2)).trans (linkOnly_modPort p _ _)) (linkOnly_refl p s)

theorem linkOnly_linkBegun (speed : Nat) : LinkOnly p s (s.linkBegun p speed) :=
  (linkOnly_modPort p s _).trans (.ite (linkOnly_wr p _ (linkReg_lead p) _) (linkOnly_refl p _))

theorem linkOnly_linkRisen (speed : Nat) : LinkOnly p s (s.linkRisen p speed) :=
  (((linkOnly_linkShown s p speed).trans (linkOnly_linkTrained _ p)).trans (linkOnly_linkBegun _ p speed)).trans
    (linkOnly_startVerify p _)

end

section
variable (s : State) (p : Nat) {g : Fld}

theorem rd_wr_status {f : Fld} (hf : f.addr = R.MAC_STATUS p) (hg : g.lo + g.w ≤ 32)
    (h : g.addr ≠ R.MAC_STATUS p ∨ f.lo + f.w ≤ g.lo ∨ g.lo + g.w ≤ f.lo) (v : Nat) : (s.wr f v).rd g = s.rd g :=
  rd_wr_other s f g hg v (hf ▸ h)

theorem rd_startVerify (hg : g.lo + g.w ≤ 32) (h : g.addr ≠ R.MAC_STATUS p ∨ g.lo + g.w ≤ 17) : (s.startVerify p).rd g = s.rd g := by
  have hwr : ∀ v, (s.wr (F.MAC_STATUS_VERIFY_STATE p) v).rd g = s.rd g := rd_wr_status s p rfl hg (h.imp id .inr)
  unfold State.startVerify
  split_ifs
  · exact hwr 4
  · exact hwr 1
  · exact hwr 0

theorem rd_linkTrained (hg : g.lo + g.w ≤ 32) (h : g.addr ≠ R.MAC_STATUS p ∨ g.lo + g.w ≤ 22) : (s.linkTrained p).rd g = s.rd g := by
  unfold State.linkTrained
  split_ifs
  · exact rd_wr_status s.drawFree.2 p (f := F.MAC_STATUS_KR_STATE p) rfl hg (h.imp id .inr) 2
  · rfl

theorem rd_linkBegun (speed : Nat) (h : g.addr ≠ R.EGS_P_LEAD p) : (s.linkBegun p speed).rd g = s.rd g := by
  unfold State.linkBegun
  dsimp only
  split
  · exact rd_of_regN (regN_wr_ne _ _ h _)
  · rfl

/-- What is shown of the link and its speed, verify and the start of the port leave as it is. -/
theorem rd_linkRisen (speed : Nat) (hlead : g.addr ≠ R.EGS_P_LEAD p) (hg : g.lo + g.w ≤ 32)
    (h : g.addr ≠ R.MAC_STATUS p ∨ g.lo + g.w ≤ 17) : (s.linkRisen p speed).rd g = (s.linkShown p speed).rd g := by
  rw [State.linkRisen, rd_startVerify _ _ hg h, rd_linkBegun _ _ _ hlead, rd_linkTrained _ _ hg (h.imp id (by omega))]

theorem verifyState_startVerify : (s.startVerify p).rd (F.MAC_STATUS_VERIFY_STATE p) =
    if p < 16 ∧ s.on (F.MAC_CTRL_PREEMPT_EN p) = true then (if s.on (F.MAC_CTRL_VERIFY_DIS p) then 4 else 1) else 0 := by
  have hwr : ∀ v, (s.wr (F.MAC_STATUS_VERIFY_STATE p) v).rd (F.MAC_STATUS_VERIFY_STATE p) = v % 2 ^ 3 := rd_wr_same s _ (by simp)
  unfold State.startVerify
  split_ifs
  · exact hwr 4
  · exact hwr 1
  · exact hwr 0

theorem calWait_startVerify : ((s.startVerify p).port p).calWait = (s.port p).calWait := by
  unfold State.startVerify
  split_ifs
  · rfl
  · rw [port_modPort_same]; rfl
  · rfl

theorem calWait_linkBegun (speed : Nat) : ((s.linkBegun p speed).port p).calWait = true := by
  unfold State.linkBegun
  dsimp only
  split
  · rw [port_wr, port_modPort_same]
  · rw [port_modPort_same]

end

section
variable (s : State) (p : Fin 24) (speed : Nat)

theorem linkRisen_linkUp : (s.linkRisen p speed).linkUp p = true := by
  rw [State.linkUp, State.on, rd_linkRisen _ _ _ (by simp only [R.MAC_STATUS, R.EGS_P_LEAD]; omega) (by simp) (.inr (by simp))]
  simp (disch := grind) [State.linkShown, State.setLink, rd_wr_other, rd_wr_same, b2n]

theorem linkRisen_summary : ((s.linkRisen p speed).rd F.MAC_LINK_SUMMARY_LINK).testBit p = true := by
  rw [rd_linkRisen _ _ _ (by simp only [R.MAC_LINK_SUMMARY, R.EGS_P_LEAD]; omega) (by simp)
    (.inl (by simp only [R.MAC_LINK_SUMMARY, R.MAC_STATUS]; omega))]
  simp (disch := grind) only [State.linkShown, State.setLink, rd_wr_other, rd_wr_same, if_true, Nat.testBit_mod_two_pow,
    Nat.testBit_or, Nat.testBit_two_pow_self, Bool.or_true, Bool.and_true, p.isLt, decide_true]

theorem linkRisen_speed : (s.linkRisen p speed).rd (F.MAC_STATUS_SPEED_ACT p) = speed % 8 := by
  rw [rd_linkRisen _ _ _ (by simp only [R.MAC_STATUS, R.EGS_P_LEAD]; omega) (by simp) (.inr (by simp))]
  simp (disch := grind) [State.linkShown, rd_wr_other, rd_wr_same]

theorem linkRisen_modeErr : (s.linkRisen p speed).on (F.MAC_STATUS_MODE_ERR p) = false := by
  rw [State.on, rd_linkRisen _ _ _ (by simp only [R.MAC_STATUS, R.EGS_P_LEAD]; omega) (by simp) (.inr (by simp))]
  simp [State.linkShown, rd_wr_same]

theorem linkRisen_verifyState : (s.linkRisen p speed).rd (F.MAC_STATUS_VERIFY_STATE p) =
    if p.val < 16 ∧ s.on (F.MAC_CTRL_PREEMPT_EN p) = true then (if s.on (F.MAC_CTRL_VERIFY_DIS p) then 4 else 1) else 0 := by
  have hbegun := ((linkOnly_linkShown s p speed).trans (linkOnly_linkTrained _ p)).trans (linkOnly_linkBegun _ p speed)
  rw [State.linkRisen, verifyState_startVerify, hbegun.on (not_linkReg_ctrl p p), hbegun.on (not_linkReg_ctrl p p)]

theorem linkRisen_calWait : ((s.linkRisen p speed).port p).calWait = true := by
  rw [State.linkRisen, calWait_startVerify, calWait_linkBegun]

end

section
variable {s : State} {p speed : Nat} {full : Bool} (h : s.linkReady p = true)
include h

theorem linkComesUp_full (hd : full = true ∨ s.duplexSignalled p = false) :
    s.linkComesUp p speed full = (s.linkRisen p (s.speedFor p speed)).raise 0x0401 p := by
  have hno : ¬ (s.duplexSignalled p = true ∧ ¬ full = true) := by rcases hd with hd | hd <;> simp [hd]
  rw [State.linkComesUp, if_neg (not_not.mpr h), if_neg hno]
  rfl

/-- A half duplex result that is signalled is an error of the MODE (R147). -/
theorem linkComesUp_half (hf : full = false) (hd : s.duplexSignalled p = true) :
    s.linkComesUp p speed full = if s.on (F.MAC_STATUS_MODE_ERR p) then s else (s.wr (F.MAC_STATUS_MODE_ERR p) 1).raise 0x0407 p := by
  rw [State.linkComesUp, if_neg (not_not.mpr h), if_pos ⟨hd, by simp [hf]⟩]
  rfl

end

theorem linkReady_iff (s : State) (p : Nat) : s.linkReady p = true ↔
    s.portsOn = true ∧ s.on (F.MAC_CTRL_ENABLE p) = true ∧ s.linkUp p = false ∧ modeOk p (s.rd (F.MAC_CTRL_MODE p)) = true ∧
    (s.rd (F.MAC_CTRL_MODE p) = 8 ∨ (s.port p).linkAt + 1000000 ≤ s.clk.now) ∧
    (s.rd (F.MAC_CTRL_MODE p) = 1 → s.rd (F.MAC_STATUS_KR_STATE p) ≠ 3 ∧ s.clk.now ≤ (s.port p).krAt + 500000000) := by
  simp only [State.linkReady, Bool.and_eq_true, Bool.or_eq_true, Bool.not_eq_true', decide_eq_true_eq, and_assoc, ne_eq,
    or_iff_not_imp_left,  not_not]

-- a link goes down (R150)

/-- A frame in reception is cut short at the octets that have arrived. -/
def State.cutRx (s : State) (p : Nat) (f : Option (RxFrame × Nat)) : State :=
  match f with
  | some (f, n) => s.endFrame p f ⟨some n, false, false⟩
  | none => s

/-- What was in reception and in transmission on a port is lost. -/
def State.linkLost (s : State) (p : Nat) : State :=
  (((s.modPort p (fun m => { m with cur := none, held := none })).cutRx p ((s.port p).cur.map (fun f => (f, s.arrived p f)))).cutRx p
    ((s.port p).held.map (fun f => (f, f.before)))).abortTx p

/-- The registers of a port show no link. -/
def State.linkHidden (s : State) (p : Nat) : State :=
  ((((s.releasePause p).setLink p false).wr (F.TSU_P_QSTAT_CAL_DONE p) 0).wr (F.MAC_STATUS_VERIFY_STATE p) 0).wr
    (F.MAC_STATUS_PLCA_STATUS p) 0

/-- What waited for the link is given up. -/
def State.linkEmptied (s : State) (p : Nat) : State :=
  s.modPort p (fun m => { m with calWait := false, ctrl := [], mpkts := [], krCoef := none, leadFrom := none, discardAt := s.clk.now })

/-- Establishment begins anew on an enabled port of P0 to P15. -/
def State.linkRetried (s : State) (p : Nat) : State :=
  if s.on (F.MAC_CTRL_ENABLE p) = false then s.wr (F.MAC_STATUS_KR_STATE p) 0 else if p < 16 then s.establish p else s

/-- A link that has gone down, before its counter and its event. -/
def State.linkFallen (s : State) (p : Nat) : State := (((s.linkLost p).linkHidden p).linkEmptied p).linkRetried p

theorem linkGoesDown_down {s : State} {p : Nat} (h : s.linkUp p = false) : s.linkGoesDown p = s := if_pos (by simp [h])

theorem linkGoesDown_up {s : State} {p : Nat} (h : s.linkUp p = true) : let u := ((s.linkFallen p).inc (C.MAC_LINK_DOWNS p)).raise 0x0402 p
    s.linkGoesDown p = if u.on (F.FWD_PORT_CTRL_FLUSH_ON_LINKDOWN p) then u.flushMac 1 p 0 else u := by
  intro u
  have hu : u = (((if ¬ (((s.linkLost p).linkHidden p).linkEmptied p).on (F.MAC_CTRL_ENABLE p) = true then
        (((s.linkLost p).linkHidden p).linkEmptied p).wr (F.MAC_STATUS_KR_STATE p) 0
      else if p < 16 then (((s.linkLost p).linkHidden p).linkEmptied p).establish p else ((s.linkLost p).linkHidden p).linkEmptied p).inc
        (C.MAC_LINK_DOWNS p)).raise 0x0402 p) := by
    simp only [Bool.not_eq_true]
    rfl
  rw [hu]
  exact if_neg (not_not.mpr h)

section
variable (s : State) (p : Nat)

theorem linkOnly_releasePause : LinkOnly p s (s.releasePause p) :=
  (linkOnly_modPort p s _).trans (linkOnly_wr p _ (linkReg_status p) 0)

theorem linkOnly_linkHidden : LinkOnly p s (s.linkHidden p) :=
  ((((linkOnly_releasePause s p).trans (linkOnly_setLink p _ false)).trans (linkOnly_wr p _ (linkReg_qstat p) 0)).trans
    (linkOnly_wr p _ (linkReg_status p) 0)).trans (linkOnly_wr p _ (linkReg_status p) 0)

theorem linkOnly_linkRetried : LinkOnly p s (s.linkRetried p) :=
  .ite (linkOnly_wr p s (linkReg_status p) 0) (.ite (linkOnly_establish p s) (linkOnly_refl p s))

/-- With nothing in reception or transmission nothing is lost. -/
theorem linkOnly_linkLost (hcur : (s.port p).cur = none) (hheld : (s.port p).held = none) (htx : (s.port p).tx = none)
    (hrest : (s.port p).rest = none) : LinkOnly p s (s.linkLost p) := by
  have hlost : s.linkLost p = (s.modPort p (fun m => { m with cur := none, held := none })).modPort p
      (fun m => { m with tx := none, rest := none }) := by
    simp only [State.linkLost, State.cutRx, State.abortTx, hcur, hheld, Option.map_none, port_modPort_same, htx, hrest]
  rw [hlost]
  exact (linkOnly_modPort p s _).trans (linkOnly_modPort p _ _)

section
variable {g : Fld}

theorem rd_establish (hg : g.lo + g.w ≤ 32) (h : g.addr ≠ R.MAC_STATUS p ∨ g.lo + g.w ≤ 22) : (s.establish p).rd g = s.rd g := by
  unfold State.establish
  dsimp only
  split
  · exact rd_wr_status (s.modPort p _) p (f := F.MAC_STATUS_KR_STATE p) rfl hg (h.imp id .inr) 1
  · exact rd_wr_status (s.modPort p _) p (f := F.MAC_STATUS_KR_STATE p) rfl hg (h.imp id .inr) 0

theorem rd_linkRetried (hg : g.lo + g.w ≤ 32) (h : g.addr ≠ R.MAC_STATUS p ∨ g.lo + g.w ≤ 22) : (s.linkRetried p).rd g = s.rd g := by
  unfold State.linkRetried
  split
  · exact rd_wr_status s p rfl hg (h.imp id .inr) 0
  · split
    · exact rd_establish s p hg h
    · rfl

end

theorem krState_establish : (s.establish p).rd (F.MAC_STATUS_KR_STATE p) = if s.rd (F.MAC_CTRL_MODE p) = 1 then 1 else 0 := by
  unfold State.establish
  dsimp only
  refine (apply_ite (fun t : State => t.rd (F.MAC_STATUS_KR_STATE p)) ..).trans (if_congr Iff.rfl ?_ ?_)
  · exact rd_wr_same _ (F.MAC_STATUS_KR_STATE p) (by simp) 1
  · exact rd_wr_same _ (F.MAC_STATUS_KR_STATE p) (by simp) 0

theorem krState_linkRetried (hp : p < 16) : (s.linkRetried p).rd (F.MAC_STATUS_KR_STATE p) =
    if s.on (F.MAC_CTRL_ENABLE p) = true ∧ s.rd (F.MAC_CTRL_MODE p) = 1 then 1 else 0 := by
  unfold State.linkRetried
  split
  · next h => simp [h, rd_wr_same]
  · next h => simp [h, krState_establish]

theorem calWait_establish : ((s.establish p).port p).calWait = (s.port p).calWait := by
  unfold State.establish
  dsimp only
  split
  · simp only [port_modPort_same, port_wr]
  · simp only [port_modPort_same, port_wr]

theorem calWait_linkRetried : ((s.linkRetried p).port p).calWait = (s.port p).calWait := by
  unfold State.linkRetried
  split
  · rfl
  · split
    · exact calWait_establish s p
    · rfl

end

section
variable (s : State) (p : Fin 24)

theorem linkHidden_linkUp : (s.linkHidden p).rd (F.MAC_STATUS_LINK_UP p) = 0 := by
  simp (disch := grind) [State.linkHidden, State.setLink, rd_wr_other, rd_wr_same, b2n]

theorem linkHidden_summary : ((s.linkHidden p).rd F.MAC_LINK_SUMMARY_LINK).testBit p = false := by
  simp (disch := grind) only [State.linkHidden, State.setLink, rd_wr_other, rd_wr_same, Bool.false_eq_true, if_false,
    Nat.testBit_mod_two_pow,
    clearBit_eq_insertField]
  rw [testBit_insertField, if_pos (by omega)]
  simp

theorem linkHidden_paused : (s.linkHidden p).rd (F.MAC_STATUS_PAUSED p) = 0 := by
  simp (disch := grind) [State.linkHidden, State.setLink, State.releasePause, rd_wr_other, rd_wr_same]

theorem linkHidden_verifyState : (s.linkHidden p).rd (F.MAC_STATUS_VERIFY_STATE p) = 0 := by
  simp (disch := grind) [State.linkHidden, rd_wr_other, rd_wr_same]

theorem linkHidden_plcaStatus : (s.linkHidden p).rd (F.MAC_STATUS_PLCA_STATUS p) = 0 := by
  simp [State.linkHidden, rd_wr_same]

theorem linkHidden_calDone : (s.linkHidden p).rd (F.TSU_P_QSTAT_CAL_DONE p) = 0 := by
  simp (disch := grind) [State.linkHidden, rd_wr_other, rd_wr_same]

theorem linkEmptied_calWait : ((s.linkEmptied p).port p).calWait = false := congrArg MacPort.calWait (port_modPort_same s p _)

theorem rd_linkEmptied (g : Fld) : (s.linkEmptied p).rd g = s.rd g := rfl

/-- What the fields of a link that has gone down show, the training apart. -/
theorem rd_linkFallen {g : Fld} (hg : g.lo + g.w ≤ 32) (h : g.addr ≠ R.MAC_STATUS p ∨ g.lo + g.w ≤ 22) :
    (s.linkFallen p).rd g = ((s.linkLost p).linkHidden p).rd g := by
  rw [State.linkFallen, rd_linkRetried _ _ hg h, rd_linkEmptied]

/-- With nothing in reception or transmission, a link that goes down leaves memory and buffer alone. -/
theorem linkOnly_linkFallen (hcur : (s.port p).cur = none) (hheld : (s.port p).held = none) (htx : (s.port p).tx = none)
    (hrest : (s.port p).rest = none) : LinkOnly p s (s.linkFallen p) :=
  (((linkOnly_linkLost s p hcur hheld htx hrest).trans (linkOnly_linkHidden _ p)).trans (linkOnly_modPort p _ _)).trans
    (linkOnly_linkRetried _ p)

theorem krState_linkFallen (hcur : (s.port p).cur = none) (hheld : (s.port p).held = none) (htx : (s.port p).tx = none)
    (hrest : (s.port p).rest = none) (hp : p.val < 16) : (s.linkFallen p).rd (F.MAC_STATUS_KR_STATE p) =
    if s.on (F.MAC_CTRL_ENABLE p) = true ∧ s.rd (F.MAC_CTRL_MODE p) = 1 then 1 else 0 := by
  have hbefore : LinkOnly p s (((s.linkLost p).linkHidden p).linkEmptied p) :=
    ((linkOnly_linkLost s p hcur hheld htx hrest).trans (linkOnly_linkHidden _ p)).trans (linkOnly_modPort p _ _)
  rw [State.linkFallen, krState_linkRetried _ _ hp, hbefore.on (not_linkReg_ctrl p p), hbefore.rd (not_linkReg_ctrl p p)]

end

-- the queues of a port whose link is down (R150)

theorem linkdownDiscard_due {s : State} {p q : Nat} {c : Copy} {r : List Copy} (hdown : s.linkUp p = false)
    (ht : (s.port p).discardAt ≤ s.clk.now)
    (hq : ((List.range 8).map (fun t => p * 8 + (7 - t))).find? (fun q => !(s.queue q).isEmpty) = some q) (hc : s.queue q = c :: r) :
    s.linkdownDiscard p = ((s.modPort p (fun m => { m with
      discardAt := s.clk.now + octetNs (8 + s.effLen p (s.getPkt c.pkt).vid (pktLen (s.getPkt c.pkt))) (s.portKbps p) })).popHead
        q).inc (C.MAC_TX_LINKDOWN p) := by
  have hgo : ¬ (s.linkUp p = true ∨ s.clk.now < (s.port p).discardAt) := by simp [hdown, ht]
  simp only [State.linkdownDiscard, if_neg hgo, hq, hc]

-- training and verify (R148, R182)

section
variable {s : State} {p : Nat}

theorem krTrainFailed_training (he : s.on (F.MAC_CTRL_ENABLE p) = true) (hm : s.rd (F.MAC_CTRL_MODE p) = 1)
    (hk : s.rd (F.MAC_STATUS_KR_STATE p) = 1) :
    s.krTrainFailed p = ((s.wr (F.MAC_STATUS_KR_STATE p) 3).modPort p (fun m => { m with krAt := s.clk.now })).raise 0x0405 p :=
  if_pos ⟨he, hm, hk⟩

theorem krRetry_due (he : s.on (F.MAC_CTRL_ENABLE p) = true) (hm : s.rd (F.MAC_CTRL_MODE p) = 1)
    (hk : s.rd (F.MAC_STATUS_KR_STATE p) = 3) (ht : (s.port p).krAt + 100000000 ≤ s.clk.now) :
    s.krRetry p = ((s.modPort p (fun m => { m with linkAt := s.clk.now })).wr (F.MAC_STATUS_KR_STATE p) 1).modPort p
      (fun m => { m with krAt := s.clk.now }) := by
  have hmode : (s.modPort p (fun m => { m with linkAt := s.clk.now })).rd (F.MAC_CTRL_MODE p) = 1 := hm
  rw [State.krRetry, if_pos ⟨he, hk, ht⟩]
  exact if_pos hmode

section
variable (hv : s.rd (F.MAC_STATUS_VERIFY_STATE p) = 1) (hon : s.on (F.MAC_STATUS_TX_ON p) = true)
  (ht : (s.port p).verifyAt + 10000000 ≤ s.clk.now)
include hv hon ht

theorem verifyTimer_due : s.verifyTimer p = if (s.port p).verifySent < 3 then
      s.modPort p (fun m => { m with verifySent := m.verifySent + 1, verifyAt := s.clk.now, mpkts := m.mpkts ++ [true] })
    else (s.wr (F.MAC_STATUS_VERIFY_STATE p) 3).raise 0x0404 p :=
  if_neg (by simp [hv, hon, ht])

end

-- 10BASE-T1S (R156)

section
variable (hp : 16 ≤ p) (hup : s.linkUp p = true) (hen : s.on (F.MAC_PLCA_PLCA_EN p) = true) (hco : s.on (F.MAC_STATUS_PLCA_COORD p) = false)
include hp hup hen hco

theorem plcaBeaconLost_due (hl : (s.port p).beaconLost = false) (ht : (s.port p).beaconAt + 400000 ≤ s.clk.now) :
    s.plcaBeaconLost p = (((s.modPort p (fun m => { m with beaconLost := true })).wr (F.MAC_STATUS_PLCA_STATUS p) 0).inc
      (C.MAC_PLCA_BEACON_LOSS p)).raise 0x0406 p :=
  if_pos ⟨hp, hup, hen, by simp [hco], by simp [hl], ht⟩

theorem plcaBeacon_seen : s.plcaBeacon p = (s.wr (F.MAC_STATUS_PLCA_STATUS p) 1).modPort p
    (fun m => { m with beaconAt := s.clk.now, beaconLost := false, plcaId := 0, plcaAt := s.clk.now, plcaSent := 0 }) :=
  if_pos ⟨hp, hup, hen, by simp [hco]⟩

end

theorem plcaBeaconLost_again (hl : (s.port p).beaconLost = true) : s.plcaBeaconLost p = s :=
  if_neg fun h => by simp [hl] at h

theorem collision_csma {t : TxFrame} (hp : 16 ≤ p) (hc : s.csma p = true) (ht : (s.port p).tx = some t) :
    s.collision p = (s.drawFree.2.inc (C.MAC_COLLISIONS p)).modPort p
      (fun m => { m with tx := some { t with start := s.clk.now + s.drawFree.1, stamped := false } }) := by
  have htx : ((s.drawFree.2.inc (C.MAC_COLLISIONS p)).port p).tx = some t := ht
  rw [State.collision, if_pos ⟨hp, hc, by simp [ht]⟩]
  simp only [State.modPort, htx, Option.map_some]

end

/-- Settles O24, command by command. -/
theorem linksComeAndGo : Obligations.LinksComeAndGo := by
  intro p s ha
  refine ⟨fun speed full hon hen hdown hmode hat hkr => ?up, fun hdown => ?stays, fun hup => ?down, fun q c r hdown ht hq hc => ?discard,
    fun he hm hk => ?failed, fun he hm hk ht => ?retry, fun hv hon ht => ?verify, fun hp hup hen hco => ?beacon, fun t hp hc ht => ?collide⟩
  case up =>
    have hready := (linkReady_iff s p).mpr ⟨hon, hen, hdown, hmode, hat, hkr⟩
    rw [exec_linkUp ha]
    refine ⟨fun hd => ?_, fun hf hd => by rw [linkComesUp_half hready hf hd]⟩
    have honly := linkOnly_linkRisen s p (s.speedFor p speed)
    exact ⟨s.linkRisen p (s.speedFor p speed), by rw [linkComesUp_full hready hd], linkRisen_linkUp .., linkRisen_summary ..,
      linkRisen_speed .., linkRisen_modeErr .., linkRisen_verifyState .., linkRisen_calWait .., honly.mem, honly.tables, honly.buf,
      fun q hq hne => ⟨honly.linkUp hq hne, honly.port q hne⟩⟩
  case stays => rw [exec_linkDown ha, linkGoesDown_down hdown]
  case down =>
    refine ⟨s.linkFallen p, by rw [exec_linkDown ha, linkGoesDown_up hup], ?linkUp, ?summary, ?paused, ?verifyState, ?plca, ?calDone,
      ?calWait, fun hcur hheld htx hrest => ⟨krState_linkFallen s p hcur hheld htx hrest, ?mem, ?buf⟩⟩
    case linkUp => rw [State.linkUp, State.on, rd_linkFallen s p (by simp) (.inr (by simp)), linkHidden_linkUp]; rfl
    case summary =>
      rw [rd_linkFallen s p (by simp) (.inl (by simp only [R.MAC_LINK_SUMMARY, R.MAC_STATUS]; omega)), linkHidden_summary]
    case paused => rw [rd_linkFallen s p (by simp) (.inr (by simp)), linkHidden_paused]
    case verifyState => rw [rd_linkFallen s p (by simp) (.inr (by simp)), linkHidden_verifyState]
    case plca => rw [rd_linkFallen s p (by simp) (.inr (by simp)), linkHidden_plcaStatus]
    case calDone =>
      rw [rd_linkFallen s p (by simp) (.inl (by simp only [R.TSU_P_QSTAT, R.MAC_STATUS]; omega)), linkHidden_calDone]
    case calWait => rw [State.linkFallen, calWait_linkRetried, linkEmptied_calWait]
    case mem => exact (linkOnly_linkFallen s p hcur hheld htx hrest).mem
    case buf => exact (linkOnly_linkFallen s p hcur hheld htx hrest).buf
  case discard => rw [exec_linkdownDiscard ha, linkdownDiscard_due hdown ht hq hc]
  case failed => rw [exec_krTrainFailed ha, krTrainFailed_training he hm hk]
  case retry => rw [exec_krRetry ha, krRetry_due he hm hk ht]
  case verify =>
    rw [exec_verifyTimer ha, verifyTimer_due hv hon ht]
    exact ⟨fun h => by rw [if_pos h], fun h => by rw [if_neg (Nat.not_lt.mpr h)]⟩
  case beacon =>
    rw [exec_plcaBeaconLost ha, exec_plcaBeacon ha, plcaBeacon_seen hp hup hen hco]
    exact ⟨fun hl ht => by rw [plcaBeaconLost_due hp hup hen hco hl ht], fun hl => by rw [plcaBeaconLost_again hl], rfl⟩
  case collide => rw [exec_collision ha, collision_csma hp hc ht]

end Sys2Proof.Machine
end

section
/-! PROOF. What a port sends: its selection, the stamp of the frame in transmission and its end, and the hold (03, R98 to R118; 04,
R162, R178, R183; 08, R317 to R325, R350). -/

namespace Sys2Proof.Machine

section
variable {s : State} (ha : s.alive = true)
include ha

theorem exec_transmitSelection (p : Fin 28) : exec (.transmitSelection p) s = .next (settle (s.transmitSelection p)) := finish_live ha _

theorem exec_transmitComplete (p : Fin 28) : exec (.transmitComplete p) s = .next (settle (s.transmitComplete p)) := finish_live ha _

theorem exec_egressStamp (p : Fin 24) (phase : Nat) : exec (.egressStamp p phase) s = .next (settle (s.egressStamp p phase)) :=
  finish_live ha _

theorem exec_holdRequest (p : Fin 16) : exec (.holdRequest p) s = .next (settle (s.holdRequest p)) := finish_live ha _

end

-- the selection of an external port (R317 to R321)

section
variable {s : State} {p : Nat} (ha : s.alive = true) (hp : p < 24)
include ha hp

/-- A port that cannot start a frame starts none. -/
theorem transmitSelection_idle (h : s.portLive p = false ∨ s.on (F.MAC_STATUS_TX_ON p) = false ∨ s.macStopped = true ∨ s.listens p = true ∨
    ((s.port p).tx = none ∧ (s.clk.now < (s.port p).gapEnd ∨ (16 ≤ p ∧ s.t1sGrant p = false)))) : s.transmitSelection p = s := by
  rw [State.transmitSelection, if_neg (not_not.mpr ha), if_neg (Nat.not_le.mpr hp)]
  split
  · rfl
  · next hno =>
    obtain ⟨htx, hwait⟩ : (s.port p).tx = none ∧ (s.clk.now < (s.port p).gapEnd ∨ (16 ≤ p ∧ s.t1sGrant p = false)) := by
      simp only [not_or, Bool.not_eq_true] at hno
      obtain ⟨hlive, hon, hstop, hlisten⟩ := hno
      simpa [hlive, hon, hstop, hlisten] using h
    simp only [htx, Bool.not_eq_true]
    exact if_pos hwait

section
variable (hlive : s.portLive p = true) (hon : s.on (F.MAC_STATUS_TX_ON p) = true) (hlisten : s.listens p = false)
  (hrun : s.macStopped = false)
include hlive hon hlisten hrun

/-- With a frame in transmission a preemptable one may have to give way (R349, R350). -/
theorem transmitSelection_sending {x : TxFrame} (htx : (s.port p).tx = some x) :
    let e := s.select p (s.classesOf p false)
    s.transmitSelection p = if s.preemptPoint p x = true ∧ (e.2.isSome = true ∨ x.hold = true) then
        (if x.hold then (e.1.preempt p x).inc (C.EGS_Q_HOLD_PREEMPTS x.queue) else e.1.preempt p x)
      else s := by
  simp only [State.transmitSelection, ha, hp, hlive, hon, hlisten, hrun, htx, not_true_eq_false, Nat.not_le.mpr, Bool.false_eq_true,
    or_self, if_false]

/-- A port whose MAC can start a frame sends mPackets first, then MAC control frames, then what is selected. -/
theorem transmitSelection_free (htx : (s.port p).tx = none) (hgap : (s.port p).gapEnd ≤ s.clk.now)
    (hgrant : 16 ≤ p → s.t1sGrant p = true) : s.transmitSelection p =
      if (s.port p).mpkts ≠ [] then s.sendMpacket p else if (s.port p).ctrl ≠ [] then s.sendControl p else s.selectFrame p := by
  have hgo : ¬ (s.clk.now < (s.port p).gapEnd ∨ 16 ≤ p ∧ ¬ s.t1sGrant p = true) := by
    rintro (h | ⟨h16, h⟩)
    · omega
    · exact h (hgrant h16)
  simp only [State.transmitSelection, ha, hp, hlive, hon, hlisten, hrun, htx, not_true_eq_false, Nat.not_le.mpr, Bool.false_eq_true,
    or_self, if_false, if_neg hgo]

end

end

section
variable {s : State} {p : Nat}

theorem sendMpacket_first {v : Bool} {r : List Bool} (hm : (s.port p).mpkts = v :: r) (hloop : s.looped p = false) :
    s.sendMpacket p = s.modPort p (fun m => { m with mpkts := r, gapEnd := s.clk.now + octetNs 84 (s.portKbps p), gapQ := 224,
                                                     wire := some ⟨if v then 0x07 else 0x19, none, zeros 60 ++ mCrc (zeros 60)⟩ }) := by
  simp only [State.sendMpacket, hm, hloop, Bool.false_eq_true, if_false]

theorem sendControl_first {c : Nat × Bool} {r : List (Nat × Bool)} (hc : (s.port p).ctrl = c :: r) (hloop : s.looped p = false) :
    s.sendControl p = (s.modPort p (fun m =>
      { m with ctrl := r, gapEnd := s.clk.now + octetNs 84 (s.portKbps p), gapQ := 224,
               wire := some ⟨0xD5, none, wireBytes (s.controlBytes p c.1 c.2) none false⟩ })).inc (C.MAC_TX_PAUSE p) := by
  simp only [State.sendControl, hc, hloop, Bool.false_eq_true, if_false]

section
variable (hr : (s.port p).rest = none)
include hr

theorem selectFrame_nothing (h : (s.select p classesDown).2 = none) : s.selectFrame p = (s.select p classesDown).1 := by
  simp only [State.selectFrame, hr, h]

theorem selectFrame_begins {q : Nat} {c : Copy} (h : (s.select p classesDown).2 = some (q, c)) :
    s.selectFrame p = (s.select p classesDown).1.beginTx p q c := by
  simp only [State.selectFrame, hr, h]

end

/-- A port without MACsec transmit sends a frame as it is (12, R518). -/
theorem msSelect_plain (h : s.msTx p = false) (d : List Byte) : s.msSelect p d = (s, .plain) := by
  refine if_pos (.inl fun ⟨hp, hon⟩ => ?_)
  simp [State.msTx, hp, hon] at h

/-- A whole stored frame that fits and has no bad cell is put on the medium as the egress port forms it, from now on. -/
theorem beginTx_whole {q : Nat} {c : Copy} (hms : s.msTx p = false)
    (hfit : (s.egressBytes p (s.getPkt c.pkt) c.ce).length + 4 ≤ s.maxFrame p) (hgood : s.badCell (s.getPkt c.pkt) = none)
    (hcut : c.cut = false) :
    ∃ x, ((s.beginTx p q c).port p).tx = some x ∧ x.queue = q ∧ x.copy = c ∧ x.bytes = s.egressBytes p (s.getPkt c.pkt) c.ce ∧
      x.start = s.clk.now ∧ x.express = !s.preemptable p (q % 8) ∧ x.sent = 0 ∧ x.stomp = false ∧ x.stamped = false ∧ x.sec = none ∧
      x.cutAt = none := by
  have hshort : ¬ (p < 24 ∧ s.maxFrame p < (s.egressBytes p (s.getPkt c.pkt) c.ce).length + 4) := fun h => by omega
  simp only [State.beginTx, hshort, decide_false, Bool.false_eq_true, and_false, if_false, msSelect_plain hms, hcut, Bool.false_and,
    hgood, Option.isSome_none, Bool.or_self, port_modPort_same, endAt]
  exact ⟨_, rfl, rfl, rfl, rfl, rfl, rfl, rfl, rfl, rfl, rfl, rfl⟩

end

-- an internal port (R317, R295)

section
variable {s : State} {p : Nat} (ha : s.alive = true) (hp : 24 ≤ p)
include ha hp

theorem transmitSelection_internal_busy (h : (s.port p).tx.isSome = true) : s.transmitSelection p = s := by
  obtain ⟨x, hx⟩ := Option.isSome_iff_exists.mp h
  simp only [State.transmitSelection, ha, hp, hx, not_true_eq_false, if_false, if_true]

section
variable (htx : (s.port p).tx = none)
include htx

theorem transmitSelection_internal_nothing (h : (s.select p classesDown).2 = none) :
    s.transmitSelection p = (s.select p classesDown).1 := by
  simp only [State.transmitSelection, ha, hp, htx, h, not_true_eq_false, if_false, if_true]

/-- An internal port with nothing in transmission begins the selected copy at once. -/
theorem transmitSelection_internal_begins {q : Nat} {c : Copy} (h : (s.select p classesDown).2 = some (q, c)) :
    s.transmitSelection p = (s.select p classesDown).1.beginTx p q c := by
  simp only [State.transmitSelection, ha, hp, htx, h, not_true_eq_false, if_false, if_true]

end

end

-- what leaves a port's internal loop as it is set (R118): a register of another block, and what a frame's end touches

section
variable (s : State) {p : Nat}

@[simp] theorem looped_modPort (q : Nat) (f : MacPort → MacPort) : (s.modPort q f).looped p = s.looped p := rfl

theorem looped_setQueue (q : Nat) (l : List Copy) : (s.setQueue q l).looped p = s.looped p := rfl

theorem looped_restartHead (q : Nat) : (s.restartHead q).looped p = s.looped p := rfl

theorem looped_of_regs {t : State} (h : t.regs = s.regs) : t.looped p = s.looped p := by
  rw [State.looped, State.looped, State.on, State.on, State.rd, State.rd, State.regN, State.regN, State.reg, State.reg, h]

theorem looped_inc {c : Nat} (h : R.TSU_P_CTRL p ≠ c) : (s.inc c).looped p = s.looped p := on_inc_ne s h

theorem looped_setRegN {a : Nat} (h : R.TSU_P_CTRL p ≠ a) (v : Nat) : (s.setRegN a v).looped p = s.looped p := by
  rw [State.looped, State.looped, State.on, State.on, rd_setRegN_ne s h]

theorem looped_wr {f : Fld} (h : R.TSU_P_CTRL p ≠ f.addr) (v : Nat) : (s.wr f v).looped p = s.looped p := by
  rw [State.looped, State.looped, State.on, State.on, rd_of_regN (regN_wr_ne s f h v)]

theorem looped_raise {c i : Nat} {f : Fld} (hc : evBit c i = some f) (h : R.TSU_P_CTRL p ≠ f.addr) :
    (s.raise c i).looped p = s.looped p :=
  (on_raise s hc).trans (looped_wr s h 1)

theorem looped_add64 {lo : Nat} (h : R.TSU_P_CTRL p < lo) (n : Nat) : (s.add64 lo n).looped p = s.looped p :=
  (looped_setRegN _ (by omega) _).trans (looped_setRegN s (by omega) _)

theorem looped_pushStamp (dir : Nat) (e : List Word) : (s.pushStamp p dir e).1.looped p = s.looped p := by
  unfold State.pushStamp
  extract_lets h r u v
  have hu : u.looped p = s.looped p := by
    simp only [u]
    split <;> rfl
  have hv : v.looped p = s.looped p := by
    simp only [v]
    split
    · exact (looped_inc u (by split <;> simp only [R.TSU_P_CTRL, R.TSU_P_IQ_LOST, R.TSU_P_EQ_LOST] <;> omega)).trans hu
    · exact hu
  split
  · exact (looped_raise v rfl (by simp only [R.TSU_P_CTRL, R.TSU_EVENT]; omega)).trans hv
  · exact hv

theorem looped_askPause (q vec : Nat) (zero : Bool) : (s.askPause q vec zero).looped p = s.looped p := by
  unfold State.askPause
  split <;> rfl

variable (hp : p < 24)
include hp

/-- The registers of the ports stand below those of the MAC, of the schedule, of the buffer and of egress. -/
theorem looped_inc_above {c : Nat} (h : 0x20400000 ≤ c) : (s.inc c).looped p = s.looped p :=
  looped_inc s (by simp only [R.TSU_P_CTRL]; omega)

theorem looped_updatePause (q : Nat) : (s.updatePause q).looped p = s.looped p := by
  unfold State.updatePause
  split
  · rfl
  · extract_lets old xoff xon new added gone u u'
    have hasked : (u.inc C.BUF_PAUSE_REQUESTS |>.askPause q new false).looped p = s.looped p :=
      (looped_askPause _ q new false).trans (looped_inc_above u hp (by decide))
    have hu' : u'.looped p = s.looped p := by
      simp only [u']
      split
      · exact hasked
      · rfl
    split
    · rfl
    · split
      · exact (looped_askPause u' q gone true).trans hu'
      · exact hu'

theorem looped_freePkt (id : Nat) : (s.freePkt id).looped p = s.looped p := by
  unfold State.freePkt
  extract_lets k src u u' drop u''
  have hu'' : u''.looped p = s.looped p := by
    simp only [u'']
    split <;> rfl
  exact (looped_updatePause u'' hp _).trans hu''

theorem looped_dropRef (id : Nat) : (s.dropRef id).looped p = s.looped p := by
  unfold State.dropRef
  extract_lets u
  split
  · exact looped_freePkt u hp id
  · rfl

theorem looped_releaseCopy (c : Copy) : (s.releaseCopy c).looped p = s.looped p := by
  rw [State.releaseCopy, looped_dropRef _ hp]
  rfl

theorem looped_popHead (q : Nat) : (s.popHead q).looped p = s.looped p := by
  unfold State.popHead
  split
  · rfl
  · next c r h =>
    rw [looped_releaseCopy _ hp, looped_restartHead, looped_setQueue]

theorem looped_latSample (m h ns : Nat) : (s.latSample m h ns).looped p = s.looped p := by
  unfold State.latSample
  extract_lets u v w thresh x last
  have hw : w.looped p = s.looped p := by
    have hu : u.looped p = s.looped p := looped_setRegN s (by simp only [R.TSU_P_CTRL, R.SCT_LAT_MIN]; omega) _
    have hv : v.looped p = u.looped p := looped_setRegN u (by simp only [R.TSU_P_CTRL, R.SCT_LAT_MAX]; omega) _
    have hsum := looped_add64 v (p := p) (lo := R.SCT_LAT_SUM_LO m) (by simp only [R.TSU_P_CTRL, R.SCT_LAT_SUM_LO]; omega) ns
    exact (((looped_inc_above _ hp (by simp only [R.SCT_LAT_COUNT]; omega)).trans hsum).trans hv).trans hu
  have hx : x.looped p = s.looped p := (looped_inc_above w hp (by simp only [R.SCT_LAT_OVER]; omega)).trans hw
  split
  · split
    · rw [looped_raise _ rfl (by simp only [R.TSU_P_CTRL, R.SCT_EVENT]; omega), ← hx]
      exact looped_of_regs x rfl
    · exact hx
  · exact hw

theorem looped_egressLatency (q : Nat) (k : Pkt) (t : TxFrame) : (s.egressLatency q k t).looped p = s.looped p := by
  unfold State.egressLatency
  split
  · split
    · exact looped_latSample s hp _ _ _
    · rfl
  · rfl

omit hp in
theorem looped_plcaSentOne (q : Nat) : (s.plcaSentOne q).looped p = s.looped p := by
  unfold State.plcaSentOne State.plcaYield
  dsimp only
  split
  · rfl
  · split
    · rfl
    · split <;> rfl

theorem looped_frameLeft (t : TxFrame) : (s.frameLeft p t).looped p = s.looped p := by
  unfold State.frameLeft
  extract_lets u v w
  have hu : u.looped p = s.looped p :=
    (looped_add64 _ (by simp only [R.TSU_P_CTRL, C.MAC_TX_OCTETS_LO]; omega) _).trans
      (looped_inc_above s hp (by simp only [C.MAC_TX_FRAMES]; omega))
  have hv : v.looped p = s.looped p := by
    simp only [v]
    split
    · exact (looped_inc_above u hp (by simp only [C.MAC_TX_STOMPED]; omega)).trans hu
    · exact hu
  calc _ = w.looped p := rfl
    _ = (v.egressLatency p (v.getPkt t.copy.pkt) t).looped p := looped_plcaSentOne _ p
    _ = v.looped p := looped_egressLatency v hp _ _ _
    _ = s.looped p := hv

/-- A frame that has left is taken off its queue. -/
theorem looped_left (t : TxFrame) (q : Nat) :
    (((s.frameLeft p t).inc (C.BUF_Q_DEQUEUED q)).popHead q).looped p = s.looped p :=
  ((looped_popHead _ hp q).trans (looped_inc_above _ hp (by simp only [C.BUF_Q_DEQUEUED]; omega))).trans (looped_frameLeft s hp t)

theorem looped_trimSample (q t : Nat) (o wt : Int) : (s.trimSample q t o wt).looped p = s.looped p := by
  unfold State.trimSample
  extract_lets u err nominal lead x y v w
  have hu : u.looped p = s.looped p := by
    simp only [u, State.holdLead]
    split <;> rfl
  have hv : v.looped p = s.looped p :=
    ((looped_setRegN _ (by simp only [R.TSU_P_CTRL, R.EGS_P_LEAD_ERR]; omega) _).trans
      (looped_wr u (by simp only [R.TSU_P_CTRL, R.EGS_P_LEAD]; omega) _)).trans hu
  have hw : w.looped p = s.looped p := (looped_inc_above v hp (by simp only [R.EGS_P_LEAD_SAMPLES]; omega)).trans hv
  split
  · exact hw
  · exact (looped_raise w rfl (by simp only [R.TSU_P_CTRL, R.EGS_EVENT]; omega)).trans hw

end

-- the stamp of the frame in transmission (03, R98, R100, R104, R118)

section
variable (s : State) (p : Nat)

theorem egressQueue_mac (k : Pkt) (lc wt : Int) : (s.egressQueue p k lc wt).mac = s.mac := by
  unfold State.egressQueue
  extract_lets u
  have hu : u.mac = s.mac := by
    simp only [u]
    split
    · exact pushStamp_mac ..
    · rfl
  split
  · split
    · exact (pushStamp_mac ..).trans hu
    · exact hu
  · exact hu

theorem looped_egressQueue (k : Pkt) (lc wt : Int) : (s.egressQueue p k lc wt).looped p = s.looped p := by
  unfold State.egressQueue
  extract_lets u
  have hu : u.looped p = s.looped p := by
    simp only [u]
    split
    · exact looped_pushStamp ..
    · rfl
  split
  · split
    · exact (looped_pushStamp ..).trans hu
    · exact hu
  · exact hu

theorem trimSample_tx (t : Nat) (o wt : Int) : ((s.trimSample p t o wt).port p).tx = (s.port p).tx := by
  unfold State.trimSample
  extract_lets u err nominal lead x y v w
  have hu : (u.port p).tx = (s.port p).tx := by
    simp only [u, State.holdLead]
    split <;> simp only [port_modPort_same]
  split
  · exact hu
  · rw [port_raise]
    exact hu

theorem startFrame_tx (phase : Nat) (bytes : List Byte) (pre : Bool) : ((s.startFrame p phase bytes pre).port p).tx = (s.port p).tx := by
  unfold State.startFrame
  extract_lets src f u
  have hu : (u.port p).tx = (s.port p).tx := by rw [port_modPort_same]
  split
  · rw [State.port, stampPtp_mac]
    exact hu
  · exact hu

end

section
variable {s : State} {p : Nat} {t : TxFrame} (htx : (s.port p).tx = some t)
include htx

theorem egressStamp_waits (phase : Nat) (h : t.stamped = true ∨ s.clk.now < t.start) : s.egressStamp p phase = s := by
  simp only [State.egressStamp, htx, if_pos h]

/-- The stamp is entered once, with the frame as it leaves; then the loop may hand it to the receiver. -/
theorem egressStamp_spec (hp : p < 24) (phase : Nat) (hnew : t.stamped = false) (hbegun : t.start ≤ s.clk.now) :
    ∃ (u : State) (x : TxFrame), x.stamped = true ∧ x.queue = t.queue ∧ x.copy = t.copy ∧ x.express = t.express ∧
      x.lcOut = s.txStamp p s.clk.lc phase ∧ (u.port p).tx = some x ∧ u.looped p = s.looped p ∧
      s.egressStamp p phase = if u.looped p then u.loopStart p phase x else u := by
  have hgo : ¬ (t.stamped = true ∨ s.clk.now < t.start) := by
    simp [hnew, hbegun]
  generalize hr : s.egressStamp p phase = r
  unfold State.egressStamp at hr
  rw [htx] at hr
  simp -zeta only [if_neg hgo] at hr
  extract_lets k lc wt tag body one src d1 d2 d x v w at hr
  have hsrc : src.looped p = s.looped p := by
    simp only [src]
    split
    · exact looped_inc_above s hp (by simp only [C.MAC_TX_ONESTEP_REFUSED]; omega)
    · rfl
  have hv : v.looped p = s.looped p := (looped_egressQueue ..).trans hsrc
  have hvtx : (v.port p).tx = some x := by
    rw [State.port, egressQueue_mac]
    exact congrArg MacPort.tx (port_modPort_same ..)
  refine ⟨w, x, rfl, rfl, rfl, rfl, rfl, ?_, ?_, hr.symm⟩
  · simp only [w]
    split
    · exact (trimSample_tx ..).trans hvtx
    · exact hvtx
  · simp only [w]
    split
    · exact (looped_trimSample v hp ..).trans hv
    · exact hv

/-- The stamp stands in the frame whether or not the loop hands it to the receiver. -/
theorem egressStamp_open (hp : p < 24) (phase : Nat) (hnew : t.stamped = false) (hbegun : t.start ≤ s.clk.now)
    (hloop : s.looped p = false) :
    ∃ x, ((s.egressStamp p phase).port p).tx = some x ∧ x.stamped = true ∧ x.queue = t.queue ∧ x.copy = t.copy ∧
      x.lcOut = s.txStamp p s.clk.lc phase := by
  obtain ⟨u, x, hstamped, hqueue, hcopy, -, hlc, hu, hloopU, heq⟩ := egressStamp_spec htx hp phase hnew hbegun
  rw [heq, hloopU, hloop]
  exact ⟨x, hu, hstamped, hqueue, hcopy, hlc⟩

omit htx in
theorem loopStart_express {x : TxFrame} (h : x.express = true) (phase : Nat) : s.loopStart p phase x =
    s.drawFree.2.startFrame p (phase + s.drawFree.1) (wireBytes x.bytes x.cutAt x.stomp) false := by
  simp only [State.loopStart, h, if_true, State.frameArrives]

/-- With the loop set the port's own receiver holds the octets that the stamped frame has on the wire. -/
theorem egressStamp_looped (hp : p < 24) (phase : Nat) (hnew : t.stamped = false) (hbegun : t.start ≤ s.clk.now)
    (hloop : s.looped p = true) (hexp : t.express = true) :
    ∃ x f, ((s.egressStamp p phase).port p).tx = some x ∧ x.stamped = true ∧ ((s.egressStamp p phase).port p).cur = some f ∧
      f.bytes = wireBytes x.bytes x.cutAt x.stomp := by
  obtain ⟨u, x, hstamped, -, -, hexpX, -, hu, hloopU, heq⟩ := egressStamp_spec htx hp phase hnew hbegun
  rw [heq, hloopU, hloop, if_pos rfl, loopStart_express (hexpX.trans hexp)]
  obtain ⟨f, hcur, hbytes, -⟩ :=
    startFrame_cur u.drawFree.2 p (phase + u.drawFree.1) (wireBytes x.bytes x.cutAt x.stomp) false
  exact ⟨x, f, (startFrame_tx ..).trans hu, hstamped, hcur, hbytes⟩

-- the end of a frame (04, R183; 08, R325), and the hold (R350)

theorem transmitComplete_arriving (hpart : (s.getPkt t.copy.pkt).complete = false) (hgood : (s.getPkt t.copy.pkt).bad = false)
    (hcut : t.cutAt = none) : s.transmitComplete p = s := by
  simp [State.transmitComplete, htx, hpart, hgood, hcut]

section
variable (hend : (s.getPkt t.copy.pkt).complete = true ∨ (s.getPkt t.copy.pkt).bad = true ∨ t.cutAt.isSome = true)
include hend

omit htx in
theorem not_arriving :
    ¬ (¬ (s.getPkt t.copy.pkt).complete = true ∧ ¬ (s.getPkt t.copy.pkt).bad = true ∧ t.cutAt.isNone = true) := by
  rintro ⟨hc, hb, hn⟩
  rcases hend with h | h | h
  · exact hc h
  · exact hb h
  · simp [Option.isNone_iff_eq_none.mp hn] at h

theorem transmitComplete_left (hp : p < 24) (hloop : s.looped p = false) : s.transmitComplete p =
    (((s.modPort p (fun m => { m with tx := none, gapEnd := s.clk.now + octetNs 12 (s.portKbps p), gapQ := t.queue })).frameLeft p t).inc
      (C.BUF_Q_DEQUEUED t.queue)).popHead t.queue := by
  simp only [State.transmitComplete, htx, if_neg (not_arriving hend), hp, if_true, looped_left _ hp, looped_modPort, hloop,
    Bool.false_eq_true, and_false, if_false]

theorem transmitComplete_internal (hp : 24 ≤ p) : s.transmitComplete p =
    let u := s.modPort p (fun m => { m with tx := none, gapEnd := s.clk.now, gapQ := t.queue })
    ((if (s.getPkt t.copy.pkt).bad = true ∨ t.stomp = true then u else u.deliver p (s.getPkt t.copy.pkt) t.bytes).inc
      (C.BUF_Q_DEQUEUED t.queue)).popHead t.queue := by
  simp only [State.transmitComplete, htx, if_neg (not_arriving hend), Nat.not_lt.mpr hp, if_false, Nat.add_zero, false_and]

end

theorem holdRequest_near (hpre : t.express = false) {r : Int} (hw : s.window p (t.queue % 8) s.wtNs = some r)
    (hr : r ≤ (octetNs 64 (s.portKbps p) : Int)) : s.holdRequest p =
      if s.preemptPoint p t then (s.preempt p t).inc (C.EGS_Q_HOLD_PREEMPTS t.queue)
      else s.modPort p (fun m => { m with tx := some { t with hold := true } }) := by
  simp only [State.holdRequest, htx, hw, hpre, Bool.false_eq_true, false_or, if_neg (Int.not_lt.mpr hr)]

end

/-- Settles O41, part by part: the selection of a port to the segment and of an internal one, the stamp, the end of a frame, the
hold. -/
theorem portsTransmit : Obligations.PortsTransmit := by
  intro s
  refine ⟨fun p ha hp => ⟨?idle, fun hlive hon hlisten hrun => ⟨?sending, fun htx hgap hgrant => ⟨?mpacket, ?control, ?frame⟩⟩⟩,
    fun p ha hp => ⟨?busy, ?selects, ?delivers⟩, fun p phase t ha htx => ⟨?waits, fun hnew hbegun => ⟨?stamp, ?openLoop, ?looped⟩⟩,
    fun p t ha hp htx => ⟨?arriving, ?left⟩, fun p t r ha htx hpre hw hr => ?hold⟩
  case idle =>
    intro h
    rw [exec_transmitSelection ha, transmitSelection_idle ha hp h]
  case sending =>
    intro x htx
    rw [exec_transmitSelection ha, transmitSelection_sending ha hp hlive hon hlisten hrun htx]
  case mpacket =>
    intro v r hm hloop
    rw [exec_transmitSelection ha, transmitSelection_free ha hp hlive hon hlisten hrun htx hgap hgrant,
      if_pos (by simp [hm]), sendMpacket_first hm hloop]
  case control =>
    intro c r hm hc hloop
    rw [exec_transmitSelection ha, transmitSelection_free ha hp hlive hon hlisten hrun htx hgap hgrant, if_neg (not_not.mpr hm),
      if_pos (by simp [hc]), sendControl_first hc hloop]
  case frame =>
    intro hm hc hrest
    rw [exec_transmitSelection ha, transmitSelection_free ha hp hlive hon hlisten hrun htx hgap hgrant, if_neg (not_not.mpr hm),
      if_neg (not_not.mpr hc)]
    refine ⟨fun h => by rw [selectFrame_nothing hrest h], fun q c h => ⟨by rw [selectFrame_begins hrest h], ?_⟩⟩
    exact fun hms _ hfit hgood hcut => beginTx_whole hms hfit hgood hcut
  case busy =>
    intro h
    rw [exec_transmitSelection ha, transmitSelection_internal_busy ha hp h]
  case selects =>
    intro htx
    rw [exec_transmitSelection ha]
    refine congrArg (fun u => Host.Outcome.next (settle u)) ?_
    cases h : (s.select p classesDown).2 with
    | none => exact transmitSelection_internal_nothing ha hp htx h
    | some e => exact transmitSelection_internal_begins ha hp htx h
  case delivers =>
    intro x htx hend
    rw [exec_transmitComplete ha, transmitComplete_internal htx (hend.imp_right .inl) hp]
  case waits =>
    intro h
    rw [exec_egressStamp ha, egressStamp_waits htx phase h]
  case stamp => exact exec_egressStamp ha p phase
  case openLoop => exact egressStamp_open htx p.isLt phase hnew hbegun
  case looped => exact egressStamp_looped htx p.isLt phase hnew hbegun
  case arriving =>
    intro hpart hgood hcut
    rw [exec_transmitComplete ha, transmitComplete_arriving htx hpart hgood hcut]
  case left =>
    intro hend hloop
    rw [exec_transmitComplete ha, transmitComplete_left htx hend hp hloop]
    rfl
  case hold => rw [exec_holdRequest ha, holdRequest_near htx hpre hw hr]

end Sys2Proof.Machine
end

section
/-! PROOF. Next hops: what a hop whose port is no member of its VLAN makes of a frame, and the destination address that a valid hop
writes (05, R229, R232, R234; 06, R268). -/

namespace Sys2Proof.Machine

-- octets in front of a change

theorem beNat_reverse (l : List Byte) : beNat l.reverse = leNat l := by
  rw [beNat, List.foldl_reverse]
  induction l with
  | nil => rfl
  | cons b r ih => rw [List.foldr_cons, ih, leNat, Nat.add_comm, Nat.mul_comm]

theorem beNat_beBytes (n v : Nat) : beNat (beBytes n v) = v % 2 ^ (8 * n) := by rw [beBytes, beNat_reverse, leNat_leBytes]

@[simp] theorem length_beBytes (n v : Nat) : (beBytes n v).length = n := by simp [beBytes]

/-- A frame that begins with the octets of an address has it as its destination. -/
theorem daOf_of_prefix {v : Nat} {d : List Byte} (h : beBytes 6 v <+: d) : daOf d = v % 2 ^ 48 := by
  obtain ⟨r, rfl⟩ := h
  rw [daOf, fld, List.drop_zero, List.take_left' (length_beBytes 6 v), beNat_beBytes]

section
variable {a d : List Byte} (h : a <+: d)
include h

theorem prefix_splice {o : Nat} (ho : a.length ≤ o) (b : List Byte) : a <+: splice d o b := by
  rw [splice, List.append_assoc]
  exact (List.prefix_take_iff.mpr ⟨h, ho⟩).trans (List.prefix_append _ _)

/-- A swap of address bits (R234) changes nothing in front of the IP header. -/
theorem prefix_prefixSwap (ha : a.length ≤ 14) (len : Nat) (dst : Bool) (value : Nat) : a <+: prefixSwap d len dst value := by
  have hends : a.length ≤ if dst = true then 30 else 26 := by split <;> omega
  have haddr := fun c v => prefix_splice (prefix_splice h (show a.length ≤ 24 by omega) c) hends v
  unfold prefixSwap
  dsimp only
  split
  · exact prefix_splice (haddr _ _) (by omega) _
  · split
    · exact prefix_splice (haddr _ _) (by omega) _
    · exact haddr _ _

end

-- a next hop

section
variable {s : State} {nh : Nat}

section
variable (hm : s.member (bits (s.tw 4 nh 2) 0 12) (bits (s.tw 4 nh 1) 16 5) = false)
include hm

theorem throughHop_noMember (d : List Byte) : s.throughHop d nh = .drop C.FWD_NH_INVALID :=
  if_pos (by simp [hm])

theorem hopRoute_noMember {d : List Byte} (hr : isV4 d = true ∨ isV6 d = true → s.routeCheck d = none) :
    s.hopRoute nh d = .drop C.FWD_NH_INVALID := by
  unfold State.hopRoute
  rw [throughHop_noMember hm d]
  split
  · next hip => rw [hr hip]
  · rfl

/-- A route to the hop, on a frame that no exception takes, ends in the hop's drop. -/
theorem route_noMember {d : List Byte} {i : Nat} (hr : s.routeCheck d = none)
    (hfind : s.tcamFind s.flowSlices 4096 (if isV4 d then [(1, fld d 30 4)] else [(2, fld d 38 8), (3, fld d 46 8)]) = some i)
    (hop : bits (s.slice i).2.2 28 2 = 0) (hnh : bits (s.slice i).2.2 0 10 = nh) : s.route d = .drop C.FWD_NH_INVALID := by
  simp only [State.route, hr, hfind, hop, hnh, throughHop_noMember hm]

/-- ACTION 1 of a channel over the hop drops its frame there. -/
theorem scAction_noMember {h : Nat} (p : Nat) {t : Fate} (hact : s.scf h 0 1 3 = 1) (hnh : s.scf h 7 0 10 = nh) (hcls : t.cls ≠ 7)
    (hr : isV4 (rtagPop (t.orig.getD t.data)) = true ∨ isV6 (rtagPop (t.orig.getD t.data)) = true →
      s.routeCheck (rtagPop (t.orig.getD t.data)) = none) :
    ∃ u, s.scAction h p t = .error (s.inc C.FWD_NH_INVALID, u) := by
  simp only [State.scAction, State.scRoute, hact, hnh, hcls, if_false, hopRoute_noMember hm hr]
  exact ⟨_, rfl⟩

end

/-- A frame through a valid hop leaves with the hop's destination address, VID and port. -/
theorem throughHop_valid {vid port : Nat} (hvid : bits (s.tw 4 nh 2) 0 12 = vid) (hport : bits (s.tw 4 nh 1) 16 5 = port)
    (hv : (s.tw 4 nh 1).testBit 28 = true) (hp : port < 24) (h0 : vid ≠ 0) (h1 : vid ≠ 4095) (hm : s.member vid port = true)
    (d : List Byte) :
    ∃ d', s.throughHop d nh = .go d' vid port ∧ beBytes 6 (bits (s.tw 4 nh 1) 0 16 * 2 ^ 32 + s.tw 4 nh 0) <+: d' := by
  have hgo : ¬(¬(s.tw 4 nh 1).testBit 28 = true ∨ 24 ≤ port ∨ vid = 0 ∨ vid = 4095 ∨ ¬s.member vid port = true) := by
    simp [hv, hp, h0, h1, hm]
  have haddr : ∀ smac : Nat, beBytes 6 (bits (s.tw 4 nh 1) 0 16 * 2 ^ 32 + s.tw 4 nh 0) <+:
      beBytes 6 (bits (s.tw 4 nh 1) 0 16 * 2 ^ 32 + s.tw 4 nh 0) ++ beBytes 6 smac ++ d.drop 12 := fun smac => by
    rw [List.append_assoc]
    exact List.prefix_append _ _
  unfold State.throughHop
  simp only [hvid, hport, if_neg hgo]
  split
  · have hv4 := fun smac c b => prefix_splice (prefix_splice (haddr smac) (o := 24) (by simp) c) (o := 22) (by simp) b
    split
    · exact ⟨_, rfl, hv4 _ _ _⟩
    · exact ⟨_, rfl, prefix_prefixSwap (hv4 _ _ _) (by simp) _ _ _⟩
  · exact ⟨_, rfl, prefix_splice (haddr _) (by simp) _⟩

end

/-- Settles O31: the hop itself, then the two ways to it. -/
theorem nextHopMembership : Obligations.NextHopMembership := by
  intro s d nh port vid
  refine ⟨fun hm => throughHop_noMember hm d, ?_, ?_, fun hv hp h0 h1 hm => ?_⟩
  · rintro key i hm hr rfl hfind hop hnh
    exact route_noMember hm hr hfind hop hnh
  · exact fun h p t hm hact hnh hcls hr => scAction_noMember hm p hact hnh hcls hr
  · obtain ⟨d', hgo, hda⟩ := throughHop_valid rfl rfl hv hp h0 h1 hm d
    refine ⟨d', hgo, (daOf_of_prefix hda).trans (Nat.mod_eq_of_lt ?_)⟩
    have hhigh : bits (s.tw 4 nh 1) 0 16 < 2 ^ 16 := bits_lt ..
    have hlow : s.tw 4 nh 0 < 2 ^ 32 := BitVec.isLt _
    omega

end Sys2Proof.Machine
end

section
/-! PROOF. The decision of FWD: which frame of a port it takes and when, its first checks, and the cells of a frame in reception (05,
R188, R192, R196; 07, R279, R280). -/

namespace Sys2Proof.Machine

-- the frame that a decision takes

section
variable {s : State} (hf : s.forwarding = true) (p : Fin 28)
include hf

theorem exec_forwardingDecision : exec (.forwardingDecision p) s = .next (settle (s.forwardingDecision p)) :=
  finish_live (alive_of_forwarding hf) _

theorem exec_stagingCellTake : exec (.stagingCellTake p) s = .next (settle (s.stagingCellTake p)) :=
  finish_live (alive_of_forwarding hf) _

end

section
variable {s : State} {p : Nat}

theorem creditHeld_iff : s.creditHeld p = true ↔
    24 ≤ p ∧ ∃ f r, (s.port p).inq = f :: r ∧ s.freeCells < cellsOf (f.bytes.length + 4) - f.cells.length := by
  unfold State.creditHeld
  cases (s.port p).inq <;> simp

/-- A port where no whole frame waits is not held. -/
theorem creditHeld_nothing (hq : (s.port p).inq = []) : s.creditHeld p = false := by simp [State.creditHeld, hq]

theorem forwardingDecision_held (h : s.creditHeld p = true) : s.forwardingDecision p = s := if_pos (.inr h)

section
variable (hf : s.forwarding = true)
include hf

/-- The oldest whole frame leaves the queue of its port, takes its cells and is decided, unless it found no cell. -/
theorem forwardingDecision_waiting {f : RxFrame} {r : List RxFrame} (hq : (s.port p).inq = f :: r) (hc : s.creditHeld p = false) :
    let c := (s.modPort p (fun m => { m with inq := r })).fillCells f (cellsOf (f.bytes.length + 4))
    s.forwardingDecision p = if c.2.dead then c.1 else (c.1.countDecision.decideFrame p c.2).1 := by
  simp [State.forwardingDecision, hf, hc, hq]

variable (hq : (s.port p).inq = [])
include hq

theorem forwardingDecision_nothing (hcur : (s.port p).cur = none) : s.forwardingDecision p = s := by
  simp [State.forwardingDecision, hf, creditHeld_nothing hq, hq, hcur]

variable {f : RxFrame} (hcur : (s.port p).cur = some f)
include hcur

/-- A frame in reception waits for the octets that its headers need. -/
theorem forwardingDecision_arriving (h : s.arrived p f < headerNeed (dropFcs f.bytes)) : s.forwardingDecision p = s := by
  simp [State.forwardingDecision, hf, creditHeld_nothing hq, hq, hcur, h]

/-- With its headers arrived, a frame that passes the early checks is decided as they leave it, and goes on arriving. -/
theorem forwardingDecision_passed (hdead : f.dead = false) (hdec : f.decided = false)
    (harr : headerNeed (dropFcs f.bytes) ≤ s.arrived p f) (hms : p < 16 → s.on (F.CPH_MS_CTRL_RX_EN p) = false)
    {x : List Byte} {vid pcp dei : Nat} (hpass : s.earlyChecks p f.tpid (dropFcs f.bytes) = .pass x vid pcp dei) :
    let c := s.countDecision.decideFrame p
      { f with bytes := x, vid := vid, pcp := pcp, dei := dei, tagOct := (dropFcs f.bytes).length - x.length }
    s.forwardingDecision p = c.1.modPort p (fun m => { m with cur := some { c.2 with bytes := f.bytes } }) := by
  have hready : ¬(f.dead = true ∨ f.decided = true ∨ s.arrived p f < headerNeed (dropFcs f.bytes) ∨
      (p < 16 ∧ s.on (F.CPH_MS_CTRL_RX_EN p) = true)) := by
    simp only [hdead, hdec, Bool.false_eq_true, false_or]
    rintro (h | ⟨h16, hon⟩)
    · omega
    · simp [hms h16] at hon
  simp only [State.forwardingDecision, hf, creditHeld_nothing hq, hq, hcur, hpass, if_neg hready, not_true_eq_false,
    Bool.false_eq_true, or_self, if_false]

end

-- the cells of the frame in reception

theorem stagingCellTake_nothing (hcur : (s.port p).cur = none) : s.stagingCellTake p = s := by
  simp only [State.stagingCellTake, hcur]

/-- An undecided frame whose octets need more cells than it holds takes one. -/
theorem stagingCellTake_needed {f : RxFrame} (hcur : (s.port p).cur = some f) (hdead : f.dead = false) (hdec : f.decided = false)
    (hneed : f.cells.length < max 1 (cellsOf (s.stagedOctets p f))) :
    let r := s.fillCells f (f.cells.length + 1)
    s.stagingCellTake p = r.1.modPort p (fun m =>
      { m with cur := some (if r.2.dead then { r.2 with dead := false, decided := true } else r.2) }) := by
  have hone : min (f.cells.length + 1) (max 1 (cellsOf (s.stagedOctets p f))) = f.cells.length + 1 := min_eq_left hneed
  simp [State.stagingCellTake, hcur, hone, hdead, hdec]

-- the first checks of a decision, none of which sees a change of the tables

variable {f : RxFrame} (hmask : f.mask = none)
include hmask

theorem decide_vlanUnknown (h : f.vid = 0 ∨ f.vid = 4095 ∨ (s.tw 1 f.vid 2).testBit 8 = false) :
    s.decide_ p f = ((s.add64 C.FWD_DECISIONS_LO 1).inc C.FWD_VLAN_UNKNOWN, none) := by
  unfold State.decide_
  rw [hmask]
  refine if_pos ?_
  rcases h with h | h | h
  · exact .inr (.inl h)
  · exact .inr (.inr h)
  · exact .inl (fun hb => Bool.false_ne_true (h.symm.trans hb))

variable (h0 : f.vid ≠ 0) (h1 : f.vid ≠ 4095) (hv : (s.tw 1 f.vid 2).testBit 8 = true)
include h0 h1 hv

omit hmask in
theorem not_vidUnknown : ¬(¬(s.tw 1 f.vid 2).testBit 8 = true ∨ f.vid = 0 ∨ f.vid = 4095) := by simp [h0, h1, hv]

theorem decide_ingressFilter (hfilter : (s.tw 1 f.vid 2).testBit 10 = true) (hm : s.member f.vid p = false) :
    s.decide_ p f = ((s.add64 C.FWD_DECISIONS_LO 1).inc C.FWD_INGRESS_FILTER, none) := by
  unfold State.decide_
  rw [hmask]
  exact (if_neg (not_vidUnknown h0 h1 hv)).trans (if_pos ⟨hfilter, fun h => Bool.false_ne_true (hm.symm.trans h)⟩)

theorem decide_saGroup (hfilter : (s.tw 1 f.vid 2).testBit 10 = false) (hg : isGroup (saOf f.bytes) = true) :
    s.decide_ p f = ((s.add64 C.FWD_DECISIONS_LO 1).inc C.FWD_SA_GROUP, none) := by
  unfold State.decide_
  rw [hmask]
  exact (if_neg (not_vidUnknown h0 h1 hv)).trans
    ((if_neg fun h => Bool.false_ne_true (hfilter.symm.trans h.1)).trans (if_pos hg))

end

/-- Settles O28: the frame taken, the cell taken, and the first three checks of Table 5-10. -/
theorem forwardingDecides : Obligations.ForwardingDecides := by
  intro s p hf
  refine ⟨fun f r _ hc => ?held, creditHeld_iff, fun f r hq hc => ⟨?waiting, ?queue, rfl⟩, fun hq hcur => ⟨?nothing, ?noCell⟩,
    fun f hq hcur hdead hdec => ⟨fun harr => ?arriving, fun x vid pcp dei harr hms hpass => ?passed⟩,
    fun f hcur hdead hdec hneed => ?cell, fun f hmask => ⟨decide_vlanUnknown hmask, fun h0 h1 hv => ⟨?filter, ?group⟩⟩⟩
  case held => rw [exec_forwardingDecision hf, forwardingDecision_held hc]
  case waiting => rw [exec_forwardingDecision hf, forwardingDecision_waiting hf hq hc]
  case queue => rw [port_modPort_same]
  case nothing => rw [exec_forwardingDecision hf, forwardingDecision_nothing hf hq hcur]
  case noCell => rw [exec_stagingCellTake hf, stagingCellTake_nothing hcur]
  case arriving => rw [exec_forwardingDecision hf, forwardingDecision_arriving hf hq hcur harr]
  case passed => rw [exec_forwardingDecision hf, forwardingDecision_passed hf hq hcur hdead hdec harr hms hpass]
  case cell => rw [exec_stagingCellTake hf, stagingCellTake_needed hcur hdead hdec hneed]
  case filter => exact decide_ingressFilter hmask h0 h1 hv
  case group => exact decide_saGroup hmask h0 h1 hv

end Sys2Proof.Machine
end

section
/-! PROOF. The MAC table by key: the fields of an entry after a change of one, what a lookup reads after an insertion, and the three
commands of FWD_COMMIT (05, R199 to R203, Table 5-9). -/

namespace Sys2Proof.Machine

-- the fields of an entry after one of them has changed

section
variable (w : List Word) {lo n : Nat} (v : Nat)

theorem testBit_macWith {i : Nat} (h : i < lo) (hi : i < 32) :
    (nth 0 (macWith w lo n v) 1).toNat.testBit i = (nth 0 w 1).toNat.testBit i := by
  show (BitVec.ofNat 32 _).toNat.testBit i = _
  rw [BitVec.toNat_ofNat, Nat.testBit_mod_two_pow, testBit_insertField, if_neg (by omega), decide_eq_true hi, Bool.true_and]

theorem bits_macWith {lo' n' : Nat} (h : lo + n ≤ lo' ∨ lo' + n' ≤ lo) (h32 : lo' + n' ≤ 32) :
    bits (nth 0 (macWith w lo n v) 1).toNat lo' n' = bits (nth 0 w 1).toNat lo' n' := by
  show bits (BitVec.ofNat 32 _).toNat lo' n' = _
  rw [BitVec.toNat_ofNat, bits_mod h32, bits_insertField_other _ _ h]

theorem macValid_macWith (h : 22 < lo) : macValid (macWith w lo n v) = macValid w := testBit_macWith w v h (by omega)

theorem macKey_macWith (h : 22 ≤ lo) : macKey (macWith w lo n v) = macKey w := by
  unfold macKey
  rw [bits_macWith w v (by omega) (by omega), bits_macWith w v (by omega) (by omega)]
  rfl

theorem macAge_macWith (h : lo + n ≤ 28) : macAge (macWith w lo n v) = macAge w := bits_macWith w v (.inl h) (by omega)

theorem macDest_macWith : macDest (macWith w lo n v) = macDest w := rfl

/-- An entry is staged with AGE 3 (Table 5-3). -/
theorem macAge_macStaged : macAge (macStaged w) = 3 := by
  show bits (BitVec.ofNat 32 _).toNat 28 2 = 3
  rw [BitVec.toNat_ofNat, bits_mod (by omega), bits_insertField_same]
  rfl

end

-- what a lookup reads

section
variable (s : State)

@[simp] theorem entry_macStatus (r : Nat) (x : Option Nat) (t i : Nat) : (s.macStatus r x).entry t i = s.entry t i := rfl

/-- Neither FWD_COMMIT_STATUS nor an entry decides which slots a lookup reads. -/
theorem lookupSlots_macStatus (r : Nat) (x : Option Nat) (fid mac : Nat) :
    (s.macStatus r x).lookupSlots fid mac = s.lookupSlots fid mac := by
  have hne : ∀ a, a ≠ R.FWD_COMMIT_STATUS → (s.macStatus r x).regN a = s.regN a := fun a h => regN_setRegN_ne s h _
  have hseed : ∀ set w, (s.macStatus r x).seedOf set w = s.seedOf set w := fun set w =>
    if_congr Iff.rfl (hne _ (by split <;> decide)) (hne _ (by split <;> decide))
  have hbucket : ∀ set w, (s.macStatus r x).bucketSlots set w fid mac = s.bucketSlots set w fid mac := fun set w => by
    simp only [State.bucketSlots, hseed]
  have hmig : (s.macStatus r x).migState = s.migState := rd_setRegN_ne s (by decide) _
  simp only [State.lookupSlots, hbucket, hmig]
  rfl

theorem lookupSlots_setEntry (t i : Nat) (w : List Word) (fid mac : Nat) :
    (s.setEntry t i w).lookupSlots fid mac = s.lookupSlots fid mac := rfl

end

section
variable {s : State} {fid mac : Nat}

/-- The table holds the key of a valid entry in the slot where it was put, and in no other where it was not held before. -/
theorem macFind_setEntry {i : Nat} {w : List Word} (hv : macValid w = true) (hk : macKey w = (fid, mac))
    (hno : s.macFind fid mac = none) (hi : i ∈ s.lookupSlots fid mac) : (s.setEntry 2 i w).macFind fid mac = some i := by
  have hsome : ((s.setEntry 2 i w).macFind fid mac).isSome = true := List.find?_isSome.mpr ⟨i, hi, by simp [hv, hk]⟩
  obtain ⟨j, hj⟩ := Option.isSome_iff_exists.mp hsome
  have hij : j = i := by
    by_contra hne
    have hhit := List.find?_some hj
    rw [entry_setEntry_ne s (by omega)] at hhit
    exact List.find?_eq_none.mp hno j (List.mem_of_find?_eq_some hj) hhit
  exact hj.trans (congrArg some hij)

theorem macFind_macStatus (r : Nat) (x : Option Nat) : (s.macStatus r x).macFind fid mac = s.macFind fid mac := by
  rw [State.macFind, lookupSlots_macStatus]
  rfl

/-- A lookup reads the two buckets of the current seeds. -/
theorem mem_lookupSlots_of_current {i : Nat}
    (h : i ∈ s.bucketSlots s.fwd.curSet 0 fid mac ++ s.bucketSlots s.fwd.curSet 1 fid mac) : i ∈ s.lookupSlots fid mac :=
  List.mem_append_left _ (List.mem_append_left _ h)

end

-- the commands

section
variable {s : State} (h : s.writable R.FWD_COMMIT)
include h

theorem exec_macInsert : exec .macInsert s = .next (settle s.macInsertCommit) := finish_regLive h _

theorem exec_macDelete : exec .macDelete s = .next (settle s.macDeleteCommit) := finish_regLive h _

theorem exec_macLookup : exec .macLookup s = .next (settle s.macLookupCommit) := finish_regLive h _

end

section
variable {s : State}

/-- A new key goes to the first free slot of its two buckets. -/
theorem place_free {e : List Word} {i : Nat} (h : s.freeSlot (s.bucketSlots s.insertSet 0 (macKey e).1 (macKey e).2 ++
    s.bucketSlots s.insertSet 1 (macKey e).1 (macKey e).2) = some i) :
    s.place e = (s.setEntry 2 i (macWith e 27 1 s.insertSet), .ok i) := by
  simp only [State.place, h]

theorem macInsert_unknown {e : List Word} (h : s.macFind (macKey e).1 (macKey e).2 = none) : s.macInsert e = s.place e := by
  simp only [State.macInsert, h]

theorem macInsertCommit_placed {t : State} {i : Nat} (h : s.macInsert (macStaged (s.staged R.FWD_STAGE0 4)) = (t, .ok i)) :
    s.macInsertCommit = t.macStatus 0 (some i) := by
  simp only [State.macInsertCommit, h]

/-- With no migration running, that slot lies in a bucket of the current seeds. -/
theorem insertSet_current (h : s.migState = 0) : s.insertSet = s.fwd.curSet := if_pos h

theorem macLookupCommit_found {i : Nat}
    (h : s.macFind (macKey (s.staged R.FWD_STAGE0 4)).1 (macKey (s.staged R.FWD_STAGE0 4)).2 = some i) :
    s.macLookupCommit = ((((s.setReg R.FWD_STAGE0 (nth 0 (s.entry 2 i) 0)).setReg R.FWD_STAGE1 (nth 0 (s.entry 2 i) 1)).setReg
      R.FWD_STAGE2 (nth 0 (s.entry 2 i) 2)).setReg R.FWD_STAGE3 (nth 0 (s.entry 2 i) 3)).macStatus 0 (some i) := by
  simp only [State.macLookupCommit, h]

theorem macLookupCommit_unknown (h : s.macFind (macKey (s.staged R.FWD_STAGE0 4)).1 (macKey (s.staged R.FWD_STAGE0 4)).2 = none) :
    s.macLookupCommit = s.macStatus 3 none := by
  simp only [State.macLookupCommit, h]

theorem macDeleteCommit_found {i : Nat}
    (h : s.macFind (macKey (s.staged R.FWD_STAGE0 4)).1 (macKey (s.staged R.FWD_STAGE0 4)).2 = some i) :
    s.macDeleteCommit = ((s.setEntry 2 i []).macStatus 0 (some i)).partialRetry := by
  simp only [State.macDeleteCommit, h]

theorem macDeleteCommit_unknown (h : s.macFind (macKey (s.staged R.FWD_STAGE0 4)).1 (macKey (s.staged R.FWD_STAGE0 4)).2 = none) :
    s.macDeleteCommit = s.macStatus 3 none := by
  simp only [State.macDeleteCommit, h]

end

/-- Settles O29: the slot of an insertion and what the table holds there, then the lookups of a held key and of another. -/
theorem insertedAddressIsFound : Obligations.InsertedAddressIsFound := by
  intro s hw
  refine ⟨?inserted, ?held, ?unknown⟩
  case inserted =>
    intro i e k hmig hv hno hfree t
    have hplace : s.macInsert e = (s.setEntry 2 i (macWith e 27 1 s.fwd.curSet), .ok i) := by
      rw [← insertSet_current hmig] at hfree ⊢
      exact (macInsert_unknown hno).trans (place_free hfree)
    have hentry : t.entry 2 i = macWith e 27 1 s.fwd.curSet := entry_setEntry_same ..
    have hkey : macKey (macWith e 27 1 s.fwd.curSet) = k := macKey_macWith e _ (by omega)
    have hvalid : macValid (macWith e 27 1 s.fwd.curSet) = true := (macValid_macWith e _ (by omega)).trans hv
    have hslot : i ∈ s.lookupSlots k.1 k.2 := mem_lookupSlots_of_current (List.mem_of_find?_eq_some hfree)
    rw [hentry]
    exact ⟨by rw [exec_macInsert hw, macInsertCommit_placed hplace],
      (macFind_macStatus ..).trans (macFind_setEntry hvalid hkey hno hslot), hkey, macDest_macWith e _,
      (macAge_macWith e _ (by omega)).trans (macAge_macStaged _), fun j hj _ => entry_setEntry_ne s (by omega) _⟩
  case held =>
    intro i k hfind
    exact ⟨by rw [exec_macLookup hw, macLookupCommit_found hfind], by rw [exec_macDelete hw, macDeleteCommit_found hfind]⟩
  case unknown =>
    intro k hno
    exact ⟨by rw [exec_macLookup hw, macLookupCommit_unknown hno], by rw [exec_macDelete hw, macDeleteCommit_unknown hno]⟩

end Sys2Proof.Machine
end

section
/-! PROOF. The upkeep of the MAC table: seeds and migration, the learn queue, and the sweeps of ageing and flushing, which change
each entry that they visit by one function (05, R205 to R218). -/

namespace Sys2Proof.Machine

-- sweeps

/-- Each slot of a list visited in order, its entry changed by `g`. -/
def State.visitEach (s : State) (g : List Word → List Word) (l : List Nat) : State :=
  l.foldl (fun s i => s.setEntry 2 i (g (s.entry 2 i))) s

/-- What an ageing sweep makes of a dynamic entry (R217). -/
def agedEntry (e : List Word) : List Word := if macAge e = 0 then [] else macWith e 28 2 (macAge e - 1)

section
variable (g : List Word → List Word)

/-- A slot's entry has changed once for each visit. -/
theorem entry_visitEach (i : Nat) : ∀ (l : List Nat) (s : State), (s.visitEach g l).entry 2 i = g^[l.count i] (s.entry 2 i)
  | [], _ => rfl
  | j :: l, s => by
    refine (entry_visitEach i l _).trans ?_
    by_cases h : j = i
    · rw [h, entry_setEntry_same, List.count_cons_self, Function.iterate_succ_apply]
    · rw [entry_setEntry_ne s (by omega), List.count_cons_of_ne h]

theorem entry_visitEach_of_notMem {i : Nat} {l : List Nat} (h : i ∉ l) (s : State) : (s.visitEach g l).entry 2 i = s.entry 2 i := by
  rw [entry_visitEach, List.count_eq_zero.mpr h]
  rfl

/-- Where the change empties an entry, and leaves an empty one so, a visited slot is empty. -/
theorem entry_visitEach_emptied {i : Nat} {l : List Nat} (h : i ∈ l) (s : State) (he : g (s.entry 2 i) = []) (hg : g [] = []) :
    (s.visitEach g l).entry 2 i = [] := by
  obtain ⟨n, hn⟩ := Nat.exists_eq_succ_of_ne_zero (List.count_pos_iff.mpr h).ne'
  rw [entry_visitEach, hn, Function.iterate_succ_apply, he, Function.iterate_fixed hg]

theorem visitEach_eq (l : List Nat) : ∀ s : State, ∃ m, s.visitEach g l = { s with tables := m } := by
  induction l with
  | nil => exact fun s => ⟨s.tables, rfl⟩
  | cons i l ih =>
    intro s
    obtain ⟨m, hm⟩ := ih (s.setEntry 2 i (g (s.entry 2 i)))
    exact ⟨m, hm⟩

theorem migState_visitEach (l : List Nat) (s : State) : (s.visitEach g l).migState = s.migState := by
  obtain ⟨m, hm⟩ := visitEach_eq g l s
  rw [hm]
  rfl

end

-- the slots that hold an entry

theorem mem_macSlots {s : State} {i : Nat} :
    i ∈ s.macSlots ↔ ∃ k w, (k, w) ∈ s.tables ∧ k / 0x10000 = 2 ∧ macValid w = true ∧ k % 0x10000 = i := by
  simp [State.macSlots, and_assoc]

theorem lt_of_mem_macSlots {s : State} {i : Nat} (h : i ∈ s.macSlots) : i < 65536 := by
  obtain ⟨k, w, -, -, -, rfl⟩ := mem_macSlots.mp h
  exact Nat.mod_lt _ (by omega)

/-- An unlisted slot of the MAC table is empty. -/
theorem tableReset_mac {i : Nat} (h : i < 65536) : tableReset (2 * 0x10000 + i) = [] := by
  have htable : (2 * 0x10000 + i) / 0x10000 = 2 := by omega
  simp [tableReset, htable]

/-- An emptied slot holds no entry, and no other slot gets one. -/
theorem mem_macSlots_of_emptied {s : State} {i j : Nat} (hj : j < 65536) (h : i ∈ (s.setEntry 2 j []).macSlots) :
    i ∈ s.macSlots ∧ i ≠ j := by
  obtain ⟨k, w, hmem, htable, hvalid, rfl⟩ := mem_macSlots.mp h
  have hput : (k, w) ∈ sput [] (2 * 0x10000 + j) [] s.tables := tableReset_mac hj ▸ hmem
  have hne : k ≠ 2 * 0x10000 + j := sput_default_absent _ _ _ _ hput
  refine ⟨mem_macSlots.mpr ⟨k, w, ?_, htable, hvalid, rfl⟩, by omega⟩
  exact (mem_sput _ _ _ _ _ hput).resolve_right fun h => h.2 rfl

/-- After a sweep that empties its slots, the others alone hold entries. -/
theorem mem_macSlots_of_swept {i : Nat} {l : List Nat} : ∀ {s : State}, (∀ j ∈ l, j < 65536) →
    i ∈ (s.visitEach (fun _ => []) l).macSlots → i ∈ s.macSlots ∧ i ∉ l := by
  induction l with
  | nil => exact fun _ h => ⟨h, List.not_mem_nil⟩
  | cons j l ih =>
    intro s hl h
    obtain ⟨hmem, hrest⟩ := ih (fun x hx => hl x (List.mem_cons_of_mem _ hx)) h
    obtain ⟨hslot, hne⟩ := mem_macSlots_of_emptied (hl j List.mem_cons_self) hmem
    exact ⟨hslot, fun hin => (List.mem_cons.mp hin).elim hne hrest⟩

/-- Entries are retried only in PARTIAL (R210). -/
theorem partialRetry_idle {s : State} (h : s.migState ≠ 2) : s.partialRetry = s := if_neg h

-- the commands

section
variable {s : State}

theorem exec_seedWrite {w : Fin 2} (h : s.writable (R.FWD_SEED_CUR0 + 4 * w)) (v : Word) :
    exec (.seedWrite w v) s = .next (settle (s.seedWrite w v.toNat)) := finish_regLive h _

theorem exec_migrateStart (h : s.writable R.FWD_MIGRATE) : exec .migrateStart s = .next (settle s.migrateStart) :=
  finish_regLive h _

theorem exec_fwdFlush (h : s.writable R.FWD_FLUSH) (v : Word) : exec (.fwdFlush v) s = .next (settle (s.fwdFlush v.toNat)) :=
  finish_regLive h _

section
variable (ha : s.alive = true)
include ha

theorem exec_migrateStep : exec .migrateStep s = .next (settle s.migrateStep) := finish_live ha _

theorem exec_learnInsert : exec .learnInsert s = .next (settle s.learnInsert) := finish_live ha _

theorem exec_ageingSweep : exec .ageingSweep s = .next (settle s.ageingSweep) := finish_live ha _

theorem exec_fwdFlushDone : exec .fwdFlushDone s = .next (settle (s.wr F.FWD_FLUSH_BUSY 0)) := finish_live ha _

end

-- seeds and migration (R205 to R212)

theorem seedWrite_empty (w : Fin 2) (v : Word) (h : s.macSlots = []) :
    s.seedWrite w v.toNat = s.setReg (R.FWD_SEED_CUR0 + 4 * w) v := by
  have haddr : (if w.val = 0 then R.FWD_SEED_CUR0 else R.FWD_SEED_CUR1) = R.FWD_SEED_CUR0 + 4 * w := by
    fin_cases w <;> rfl
  rw [State.seedWrite, if_pos h, haddr, State.setRegN, BitVec.ofNat_toNat, BitVec.setWidth_eq]

theorem seedWrite_held {w v : Nat} (h : s.macSlots ≠ []) : s.seedWrite w v = s := if_neg h

theorem migrateStart_idle (h : s.migState = 0) :
    s.migrateStart = { s.wr F.FWD_MIGRATE_STATE 1 with fwd := { s.fwd with walk := 0 } }.setRemain := if_pos h

theorem migrateStart_running (h : s.migState ≠ 0) : s.migrateStart = s := if_neg h

/-- A slot without an entry, or with one of the next seeds, is only visited. -/
theorem migrateSlot_placed {i : Nat} (h : macValid (s.entry 2 i) = false ∨ macSet (s.entry 2 i) ≠ s.fwd.curSet) :
    s.migrateSlot i = s :=
  if_neg fun ⟨hv, hset⟩ => h.elim (fun hn => Bool.false_ne_true (hn.symm.trans hv)) (fun hn => hn hset)

/-- The moves of an insertion and of a migration leave the engine's place in its walk, as all of its state beside the table. -/
theorem moveAlong_fwd : ∀ (l : List Nat) (s : State) (free : Nat), (s.moveAlong free l).fwd = s.fwd
  | [], _, _ => rfl
  | i :: l, _, _ => moveAlong_fwd l _ i

theorem place_fwd (s : State) (e : List Word) : (s.place e).1.fwd = s.fwd := by
  unfold State.place
  dsimp only
  split
  · rfl
  · split
    · exact moveAlong_fwd ..
    · split
      · exact raise_fwd ..
      · exact raise_fwd ..

theorem dropOld_fwd (s : State) (e : List Word) (i : Nat) : (s.dropOld e i).fwd = s.fwd := by
  obtain ⟨m, hm⟩ := visitEach_eq (fun _ => []) (s.otherCopies (macKey e).1 (macKey e).2 i) s
  exact (congrArg State.fwd hm :)

theorem rehash_fwd (s : State) (i : Nat) (stash : Bool) : (s.rehash i stash).1.fwd = s.fwd := by
  unfold State.rehash
  dsimp only
  split
  · exact (dropOld_fwd ..).trans (place_fwd ..)
  · split
    · exact (dropOld_fwd ..).trans (place_fwd ..)
    · rfl
  · split
    · exact place_fwd ..
    · rfl

theorem migrateSlot_fwd (s : State) (i : Nat) : (s.migrateSlot i).fwd = s.fwd := by
  unfold State.migrateSlot
  dsimp only
  split
  · split
    · exact rehash_fwd ..
    · split <;> exact rehash_fwd ..
  · rfl

theorem migrateStep_walk (h : s.migState = 1) (hw : s.fwd.walk < 32768) :
    s.migrateStep =
      { s.migrateSlot s.fwd.walk with fwd := { (s.migrateSlot s.fwd.walk).fwd with walk := s.fwd.walk + 1 } }.setRemain := by
  rw [State.migrateStep, if_neg (not_not.mpr h), if_pos hw]
  dsimp only
  rw [migrateSlot_fwd]

theorem migrateStep_end (h : s.migState = 1) (hw : 32768 ≤ s.fwd.walk) :
    s.migrateStep = if s.retryStash.setRemain.oldEntries = [] then s.retryStash.setRemain.migrateDone
      else (s.retryStash.setRemain.wr F.FWD_MIGRATE_STATE 2).raise 0x0503 0 := by
  rw [State.migrateStep, if_neg (not_not.mpr h), if_neg hw.not_gt]

-- the learn queue (R215)

theorem learnInsert_oldest {fid mac port : Nat} {r : List (Nat × Nat × Nat)} (h : s.fwd.learnQ = (fid, mac, port) :: r) :
    let u := { s with fwd := { s.fwd with learnQ := r } }
    let x := u.macInsert (learned fid mac port)
    s.learnInsert = if x.2 = .full then x.1.inc C.FWD_LEARN_FAIL
      else if (u.macFind fid mac).isSome then x.1 else x.1.inc C.FWD_LEARNED := by
  intro u x
  simp only [State.learnInsert, h]
  split
  · next hfull => exact (if_pos hfull).symm
  · next hfull => exact (if_neg hfull).symm

-- ageing (R217)

theorem ageingSweep_off (h : s.rd F.FWD_AGE_AGE_TIME = 0) : s.ageingSweep = s := if_pos h

/-- The slots that an ageing sweep visits, and those that it empties. -/
def State.dynSlots (s : State) : List Nat := s.macSlots.filter (fun i => !macStatic (s.entry 2 i))
def State.oldSlots (s : State) : List Nat := s.dynSlots.filter (fun i => decide (macAge (s.entry 2 i) = 0))

theorem mem_dynSlots {i : Nat} : i ∈ s.dynSlots ↔ i ∈ s.macSlots ∧ macStatic (s.entry 2 i) = false := by simp [State.dynSlots]

/-- The state behind an ageing sweep, with no migration in PARTIAL. -/
def State.aged (s : State) : State := (s.visitEach agedEntry s.dynSlots).add C.FWD_AGED s.oldSlots.length

theorem migState_aged (s : State) : s.aged.migState = s.migState :=
  (rd_add_ne _ (by decide) _).trans (migState_visitEach ..)

theorem ageingSweep_on (h : s.rd F.FWD_AGE_AGE_TIME ≠ 0) (hmig : s.migState ≠ 2) : s.ageingSweep = s.aged := by
  have hvisit : (fun (s : State) i => if macAge (s.entry 2 i) = 0 then s.setEntry 2 i []
      else s.setEntry 2 i (macWith (s.entry 2 i) 28 2 (macAge (s.entry 2 i) - 1))) =
      fun s i => s.setEntry 2 i (agedEntry (s.entry 2 i)) := by
    funext s i
    rw [agedEntry, apply_ite (s.setEntry 2 i)]
  simp only [State.ageingSweep, if_neg h, hvisit]
  exact (if_congr Iff.rfl rfl (partialRetry_idle ((migState_aged s).trans_ne hmig))).trans (ite_self _)

theorem aged_mem_buf (s : State) : s.aged.mem = s.mem ∧ s.aged.buf = s.buf := by
  obtain ⟨m, hm⟩ := visitEach_eq agedEntry s.dynSlots s
  exact ⟨(congrArg State.mem hm :), (congrArg State.buf hm :)⟩

section
variable {i : Nat}

theorem entry_aged_static (h : macStatic (s.entry 2 i) = true) : s.aged.entry 2 i = s.entry 2 i :=
  entry_visitEach_of_notMem _ (fun hin => Bool.false_ne_true ((mem_dynSlots.mp hin).2.symm.trans h)) s

variable (hdyn : macStatic (s.entry 2 i) = false)
include hdyn

theorem entry_aged_old (hi : i ∈ s.macSlots) (h0 : macAge (s.entry 2 i) = 0) : s.aged.entry 2 i = [] :=
  entry_visitEach_emptied _ (mem_dynSlots.mpr ⟨hi, hdyn⟩) s (if_pos h0) rfl

theorem entry_aged_once (hcount : s.macSlots.count i = 1) (h0 : macAge (s.entry 2 i) ≠ 0) :
    s.aged.entry 2 i = macWith (s.entry 2 i) 28 2 (macAge (s.entry 2 i) - 1) := by
  have honce : s.dynSlots.count i = 1 := (List.count_filter (by simp [hdyn])).trans hcount
  refine (entry_visitEach _ i _ s).trans ?_
  rw [honce, Function.iterate_one, agedEntry, if_neg h0]

end

-- flushes (R218)

theorem fwdFlush_stays {v : Nat} (h : v.testBit 31 = false ∨ s.on F.FWD_FLUSH_BUSY = true) :
    s.fwdFlush v = ((s.wr F.FWD_FLUSH_SCOPE (bits v 28 2)).wr F.FWD_FLUSH_PORT (bits v 8 5)).wr F.FWD_FLUSH_FID (bits v 0 6) :=
  if_neg fun ⟨hstart, hidle⟩ => h.elim (fun hn => Bool.false_ne_true (hn.symm.trans hstart)) hidle

theorem fwdFlush_starts {v : Nat} (h : v.testBit 31 = true) (hb : s.on F.FWD_FLUSH_BUSY = false) :
    s.fwdFlush v = (((s.wr F.FWD_FLUSH_SCOPE (bits v 28 2)).wr F.FWD_FLUSH_PORT (bits v 8 5)).wr F.FWD_FLUSH_FID
      (bits v 0 6)).flushMac (bits v 28 2) (bits v 8 5) (bits v 0 6) :=
  if_pos ⟨h, fun hon => Bool.false_ne_true (hb.symm.trans hon)⟩

/-- The fields of FWD_FLUSH lie beside the state of a migration. -/
theorem migState_wr_flush {f : Fld} (hf : f.addr = R.FWD_FLUSH) (v : Nat) : (s.wr f v).migState = s.migState :=
  rd_wr_other s f _ (by decide) v (.inl (by rw [hf]; decide))

/-- The slots whose entries a flush takes. -/
def State.flushSlots (s : State) (scope port fid : Nat) : List Nat :=
  s.macSlots.filter (fun i => flushTakes scope port fid (s.entry 2 i))

section
variable {scope port fid : Nat}

theorem mem_flushSlots {i : Nat} :
    i ∈ s.flushSlots scope port fid ↔ i ∈ s.macSlots ∧ flushTakes scope port fid (s.entry 2 i) = true := by
  simp [State.flushSlots]

/-- With no migration in PARTIAL a flush empties its slots, counts them and shows BUSY. -/
theorem flushMac_eq (hmig : s.migState ≠ 2) : s.flushMac scope port fid =
    ((s.visitEach (fun _ => []) (s.flushSlots scope port fid)).add C.FWD_FLUSHED (s.flushSlots scope port fid).length).wr
      F.FWD_FLUSH_BUSY 1 := by
  have hkeeps : (((s.visitEach (fun _ => []) (s.flushSlots scope port fid)).add C.FWD_FLUSHED
      (s.flushSlots scope port fid).length).wr F.FWD_FLUSH_BUSY 1).migState = s.migState :=
    (migState_wr_flush rfl 1).trans ((rd_add_ne _ (by decide) _).trans (migState_visitEach ..))
  exact (if_congr Iff.rfl rfl (partialRetry_idle (hkeeps.trans_ne hmig))).trans (ite_self _)

theorem flushMac_tables (hmig : s.migState ≠ 2) :
    (s.flushMac scope port fid).tables = (s.visitEach (fun _ => []) (s.flushSlots scope port fid)).tables := by
  rw [flushMac_eq hmig]
  rfl

section
variable {t : State} (ht : t.tables = (s.visitEach (fun _ => []) (s.flushSlots scope port fid)).tables)
include ht

/-- No entry of the scope is left, listed once or more. -/
theorem flushed_none {i : Nat} (h : i ∈ t.macSlots) : flushTakes scope port fid (t.entry 2 i) = false := by
  rw [State.macSlots, ht] at h
  have hlow : ∀ j ∈ s.flushSlots scope port fid, j < 65536 := fun j hj => lt_of_mem_macSlots (mem_flushSlots.mp hj).1
  obtain ⟨hslot, hkept⟩ := mem_macSlots_of_swept hlow h
  rw [State.entry, ht]
  refine (congrArg _ (entry_visitEach_of_notMem _ hkept s)).trans ?_
  exact Bool.eq_false_iff.mpr fun htakes => hkept (mem_flushSlots.mpr ⟨hslot, htakes⟩)

/-- Every other entry is as it was. -/
theorem flushed_others {i : Nat} (h : flushTakes scope port fid (s.entry 2 i) = false) : t.entry 2 i = s.entry 2 i := by
  rw [State.entry, ht]
  exact entry_visitEach_of_notMem _ (fun hin => Bool.false_ne_true (h.symm.trans (mem_flushSlots.mp hin).2)) s

end

end

end

/-- Settles O30, command by command. -/
theorem macTableKeepsHouse : Obligations.MacTableKeepsHouse := by
  intro s ha
  refine ⟨fun w v hw => ⟨?seed, ?seedHeld⟩, fun hw => ⟨?start, ?startRunning⟩, fun hmig hwalk => ⟨?visit, migrateSlot_placed⟩,
    ?learn, fun hage => ?ageOff, fun hmig hwalk => ?walked, fun hage hmig => ?aged, fun v hw hstay => ?flushStays, ?flush,
    exec_fwdFlushDone ha⟩
  case seed => exact fun h => by rw [exec_seedWrite hw, seedWrite_empty w v h]
  case seedHeld => exact fun h => by rw [exec_seedWrite hw, seedWrite_held h]
  case start => exact fun h => by rw [exec_migrateStart hw, migrateStart_idle h]
  case startRunning => exact fun h => by rw [exec_migrateStart hw, migrateStart_running h]
  case visit => rw [exec_migrateStep ha, migrateStep_walk hmig hwalk]
  case learn =>
    intro fid mac port r hq u x
    rw [exec_learnInsert ha, learnInsert_oldest hq]
  case ageOff => rw [exec_ageingSweep ha, ageingSweep_off hage]
  case walked =>
    intro u
    rw [exec_migrateStep ha, migrateStep_end hmig hwalk]
  case aged =>
    obtain ⟨hmem, hbuf⟩ := aged_mem_buf s
    exact ⟨s.aged, by rw [exec_ageingSweep ha, ageingSweep_on hage hmig], fun i _ => entry_aged_static,
      fun i hi hdyn => entry_aged_old hdyn hi, fun i hcount hdyn => entry_aged_once hdyn hcount, hmem, hbuf⟩
  case flushStays => rw [exec_fwdFlush hw, fwdFlush_stays hstay]
  case flush =>
    intro v hw hstart hbusy scope port fid u
    refine ⟨by rw [exec_fwdFlush hw, fwdFlush_starts hstart hbusy], fun hmig => ?_⟩
    have hidle : u.migState ≠ 2 := by
      simp only [u, migState_wr_flush]
      omega
    have htables := flushMac_tables (scope := scope) (port := port) (fid := fid) hidle
    exact ⟨fun i hi => flushed_none htables hi, fun i _ h => flushed_others htables h⟩

end Sys2Proof.Machine
end

section
/-! PROOF. The recovery of a stream channel: what it can make of a frame, and the numbers that it has seen (06, R262, R264). -/

namespace Sys2Proof.Machine

/-- The width of a channel's history (R262). -/
def State.rcvWindow (s : State) (h : Nat) : Nat := max 1 (min 32 (s.scf h 5 6 6))

/-- How far a sequence number lies ahead of the one that recovery stands at (R262). -/
def ScDyn.ahead (d : ScDyn) (seq : Nat) : Int := sgn 16 (seq + 65536 - d.recov)

/-- Recovery of algorithm `mode` has seen a sequence number: as the last one, or as a bit of its history of `n` numbers. -/
def ScDyn.seen (d : ScDyn) (mode n seq : Nat) : Prop :=
  d.takeAny = false ∧
    if mode = 2 then d.recov = seq
    else d.ahead seq ≤ 0 ∧ (d.ahead seq).natAbs < n ∧ d.hist.testBit (d.ahead seq).natAbs = true

/-- What is known of the dynamic state `d` that recovery leaves where it takes a frame. -/
structure RcvTook (s : State) (h seq : Nat) (d : ScDyn) : Prop where
  seen : d.seen (s.scf h 5 2 2) (s.rcvWindow h) seq
  recov : d.recov = seq ∨ d.recov = (s.dyn h).recov
  hist : (s.dyn h).hist < 2 ^ 32 → d.hist < 2 ^ 32

theorem scf_of_tables {s t : State} (ht : t.tables = s.tables) (h k lo w : Nat) : t.scf h k lo w = s.scf h k lo w := by
  rw [State.scf, State.scf, State.tw, State.tw, State.entry, State.entry, ht]

-- the history as a number

/-- Marking a free place of the history changes no other place. -/
theorem testBit_add_two_pow {v k : Nat} (h : v.testBit k = false) (i : Nat) :
    (v + 2 ^ k).testBit i = if i = k then true else v.testBit i := by
  have hset : v + 2 ^ k = insertField v k 1 1 := by simpa [h] using setBit_eq_insertField v k
  rw [hset, testBit_insertField]
  by_cases hi : i = k
  · simp [hi]
  · rw [if_neg (by omega), if_neg hi]

theorem add_two_pow_lt {v k n : Nat} (h : v.testBit k = false) (hk : k < n) (hv : v < 2 ^ n) : v + 2 ^ k < 2 ^ n := by
  refine Nat.lt_pow_two_of_testBit _ fun i hi => ?_
  rw [testBit_add_two_pow h, if_neg (by omega)]
  exact Nat.testBit_lt_two_pow (lt_of_lt_of_le hv (Nat.pow_le_pow_right (by decide) hi))

/-- A history that moves on begins with the number just accepted. -/
theorem testBit_zero_shifted {k : Nat} (hk : 0 < k) (v : Nat) : ((v * 2 ^ k + 1) % 2 ^ 32).testBit 0 = true := by
  obtain ⟨j, rfl⟩ := Nat.exists_eq_succ_of_ne_zero hk.ne'
  have heven : v * 2 ^ (j + 1) = 2 * (v * 2 ^ j) := by ring
  simp [heven]

-- what recovery can make of a frame

theorem ahead_self {d : ScDyn} {seq : Nat} (h : d.recov = seq) : d.ahead seq = 0 := by
  rw [ScDyn.ahead, h, Nat.add_sub_cancel_left]
  rfl

/-- The number that recovery stands at is one that it has seen, where the history begins with it. -/
theorem seen_recov {d : ScDyn} {mode n seq : Nat} (ht : d.takeAny = false) (hr : d.recov = seq) (hn : 0 < n)
    (hb : mode ≠ 2 → d.hist.testBit 0 = true) : d.seen mode n seq := by
  refine ⟨ht, ?_⟩
  split
  · exact hr
  · next hm => simpa [ahead_self hr, hn] using hb hm

/-- A number that recovery has seen is eliminated. -/
theorem recover_seen {s : State} {h seq : Nat} (hs : (s.dyn h).seen (s.scf h 5 2 2) (s.rcvWindow h) seq) :
    s.recover h seq = (s, .eliminate) := by
  obtain ⟨ht, hs⟩ := hs
  unfold State.recover
  dsimp only
  rw [if_neg (by simp [ht])]
  split at hs
  · next hm => rw [if_pos hm, if_pos hs.symm]
  · next hm =>
    obtain ⟨hle, hlt, hb⟩ := hs
    unfold ScDyn.ahead at hle hlt hb
    unfold State.rcvWindow at hlt
    rw [if_neg hm, if_neg (by omega), if_pos hle, if_pos hb]

/-- Recovery refuses a frame, as a duplicate or as rogue, and changes nothing, or accepts it and has then seen its number. -/
theorem recover_cases (s : State) (h seq : Nat) :
    (∃ r, r ≠ .accept ∧ s.recover h seq = (s, r)) ∨
      ∃ (u : State) (d : ScDyn), u.tables = s.tables ∧ RcvTook s h seq d ∧ s.recover h seq = (u.setDyn h d, .accept) := by
  have hn : 0 < s.rcvWindow h := lt_of_lt_of_le Nat.zero_lt_one (le_max_left ..)
  have h32 : s.rcvWindow h ≤ 32 := max_le (by decide) (min_le_left ..)
  unfold State.recover
  dsimp only
  split
  case isTrue any =>
    refine .inr ⟨s, _, rfl, ?_, rfl⟩
    exact ⟨seen_recov rfl rfl hn fun _ => Nat.testBit_one_zero, .inl rfl, fun _ => by norm_num⟩
  case isFalse any =>
    have hany : (s.dyn h).takeAny = false := by simpa using any
    split
    case isTrue matching =>
      split
      · exact .inl ⟨_, by decide, rfl⟩
      · refine .inr ⟨s, _, rfl, ?_, rfl⟩
        exact ⟨seen_recov hany rfl hn fun hm => absurd matching hm, .inl rfl, id⟩
    case isFalse vector =>
      split
      · exact .inl ⟨_, by decide, rfl⟩
      next hin =>
      replace hin : ((s.dyn h).ahead seq).natAbs < s.rcvWindow h := by
        unfold ScDyn.ahead State.rcvWindow; omega
      split
      case isTrue behind =>
        split
        · exact .inl ⟨_, by decide, rfl⟩
        next hfree =>
        replace hfree : (s.dyn h).hist.testBit ((s.dyn h).ahead seq).natAbs = false := Bool.eq_false_of_not_eq_true hfree
        refine .inr ⟨_, _, inc_tables .., ?_, rfl⟩
        refine ⟨⟨hany, ?_⟩, .inr rfl, add_two_pow_lt hfree (lt_of_lt_of_le hin h32)⟩
        rw [if_neg vector]
        exact ⟨behind, hin, (testBit_add_two_pow hfree _).trans (if_pos rfl)⟩
      case isFalse before =>
        have hk : 0 < (sgn 16 (seq + 65536 - (s.dyn h).recov)).toNat := by omega
        refine .inr ⟨_, _, ?_, ?_, rfl⟩
        · rw [add_tables]
          split <;> rfl
        · exact ⟨seen_recov hany rfl hn fun _ => testBit_zero_shifted hk _, .inl rfl, fun _ => Nat.mod_lt _ (by norm_num)⟩

/-- A frame without an R-TAG passes recovery by, counted in TAGLESS (R264). -/
theorem scRecover_tagless (s : State) (h p : Nat) (wt : Int) (lost : Bool) {t : Fate} (htag : rtagOf t.data = none) :
    s.scRecover h p wt lost t =
      if s.scf h 5 5 1 = 1 then .ok (s.inc C.SCT_TAGLESS, t) else .error (s.inc C.SCT_TAGLESS, t) := by
  rw [State.scRecover, htag]

/-- Settles O34: an accepted number is one that recovery has seen, and a frame that is not accepted leaves the state as it is. -/
theorem duplicatesAreEliminated : Obligations.DuplicatesAreEliminated := by
  intro s h seq _ _ hrecov
  rcases recover_cases s h seq with ⟨r, hr, he⟩ | ⟨u, d, htables, htook, he⟩
  · rw [he]
    exact ⟨fun hacc => absurd hacc hr, fun _ => rfl, id, hrecov, fun p wt lost _ => scRecover_tagless s h p wt lost⟩
  · have ht : (u.setDyn h d).tables = s.tables := htables
    have hseen : ((u.setDyn h d).dyn h).seen ((u.setDyn h d).scf h 5 2 2) ((u.setDyn h d).rcvWindow h) seq := by
      rw [dyn_setDyn_same, State.rcvWindow, scf_of_tables ht, scf_of_tables ht]
      exact htook.seen
    rw [he]
    refine ⟨fun _ => by rw [recover_seen hseen], fun hn => absurd rfl hn, ?hist, ?number,
      fun p wt lost _ => scRecover_tagless s h p wt lost⟩
    case hist => simpa using htook.hist
    case number =>
      rw [dyn_setDyn_same]
      rcases htook.recov with hr | hr <;> omega

end Sys2Proof.Machine
end

section
/-! PROOF. What a latency sample leaves in its monitor (06, R271). -/

namespace Sys2Proof.Machine

section
variable (s : State) (m h ns : Nat)

/-- The monitor with a sample in MIN, MAX, SUM and COUNT. -/
def State.latCounted : State :=
  let s := s.setRegN (R.SCT_LAT_MIN m) (min (s.regN (R.SCT_LAT_MIN m)) ns)
  let s := s.setRegN (R.SCT_LAT_MAX m) (max (s.regN (R.SCT_LAT_MAX m)) ns)
  (s.add64 (R.SCT_LAT_SUM_LO m) ns).inc (R.SCT_LAT_COUNT m)

/-- A sample exceeds the monitor's THRESH. -/
def State.latBeyond : Prop := s.rd (F.SCT_LAT_THRESH_THRESH m) ≠ 0 ∧ s.rd (F.SCT_LAT_THRESH_THRESH m) < ns

/-- The monitor has raised 0x0603 in the last millisecond. -/
def State.latTold : Prop := sget 0 s.latAt m ≠ 0 ∧ s.clk.now + 1 < sget 0 s.latAt m + 1000000

/-- Event 0x0603 of a monitor, and when it was raised. -/
def State.latRaise : State := { s with latAt := sput 0 m (s.clk.now + 1) s.latAt }.raise 0x0603 h

-- the registers of a monitor

/-- A monitor's registers lie above SCT_EVENT, in the order of Table 6-7. -/
theorem latRegs_rise : R.SCT_EVENT < R.SCT_LAT_THRESH m ∧ R.SCT_LAT_THRESH m < R.SCT_LAT_MIN m ∧
    R.SCT_LAT_MIN m < R.SCT_LAT_MAX m ∧ R.SCT_LAT_MAX m < R.SCT_LAT_SUM_LO m ∧
    R.SCT_LAT_SUM_HI m = R.SCT_LAT_SUM_LO m + 4 ∧ R.SCT_LAT_SUM_HI m < R.SCT_LAT_COUNT m ∧
    R.SCT_LAT_COUNT m < R.SCT_LAT_OVER m := by
  unfold R.SCT_EVENT R.SCT_LAT_THRESH R.SCT_LAT_MIN R.SCT_LAT_MAX R.SCT_LAT_SUM_LO R.SCT_LAT_SUM_HI R.SCT_LAT_COUNT R.SCT_LAT_OVER
  omega

-- one write at a time

theorem regN_lt (a : Nat) : s.regN a < 2 ^ 32 := (s.reg a).isLt

theorem regN_setPair_ne {a lo hi : Nat} (hlo : a ≠ lo) (hhi : a ≠ hi) (v : Nat) : (s.setPair lo hi v).regN a = s.regN a := by
  rw [State.setPair, regN_setRegN_ne _ hhi, regN_setRegN_ne _ hlo]

theorem pair_setPair_same {lo hi : Nat} (hne : lo ≠ hi) (v : Nat) : (s.setPair lo hi v).pair lo hi = v % 2 ^ 64 := by
  rw [State.pair, State.setPair, regN_setRegN_same, regN_setRegN_ne _ hne, regN_setRegN_same]
  omega

theorem pair_of_regN {s t : State} {lo hi : Nat} (hlo : t.regN lo = s.regN lo) (hhi : t.regN hi = s.regN hi) :
    t.pair lo hi = s.pair lo hi := by
  rw [State.pair, State.pair, hlo, hhi]

theorem latCounted_min (hns : ns < 2 ^ 32) :
    (s.latCounted m ns).regN (R.SCT_LAT_MIN m) = min (s.regN (R.SCT_LAT_MIN m)) ns := by
  have hrise := latRegs_rise m
  rw [State.latCounted, regN_inc_ne _ (by omega), State.add64, regN_setPair_ne _ (by omega) (by omega),
    regN_setRegN_ne _ (by omega), regN_setRegN_same, Nat.mod_eq_of_lt (by omega)]

theorem latCounted_max (hns : ns < 2 ^ 32) :
    (s.latCounted m ns).regN (R.SCT_LAT_MAX m) = max (s.regN (R.SCT_LAT_MAX m)) ns := by
  have hmax := regN_lt s (R.SCT_LAT_MAX m)
  have hrise := latRegs_rise m
  rw [State.latCounted, regN_inc_ne _ (by omega), State.add64, regN_setPair_ne _ (by omega) (by omega), regN_setRegN_same,
    regN_setRegN_ne _ (by omega), Nat.mod_eq_of_lt (by omega)]

theorem latCounted_sum : (s.latCounted m ns).pair (R.SCT_LAT_SUM_LO m) (R.SCT_LAT_SUM_HI m) =
    (s.pair (R.SCT_LAT_SUM_LO m) (R.SCT_LAT_SUM_HI m) + ns) % 2 ^ 64 := by
  have hrise := latRegs_rise m
  have hhi : R.SCT_LAT_SUM_HI m = R.SCT_LAT_SUM_LO m + 4 := by omega
  rw [State.latCounted, pair_of_regN (regN_inc_ne _ (by omega)) (regN_inc_ne _ (by omega)), State.add64, hhi,
    pair_setPair_same _ (by omega)]
  refine congrArg (fun v => (v + ns) % 2 ^ 64) (pair_of_regN ?_ ?_)
  · rw [regN_setRegN_ne _ (by omega), regN_setRegN_ne _ (by omega)]
  · rw [regN_setRegN_ne _ (by omega), regN_setRegN_ne _ (by omega)]

/-- A sample's count leaves every register outside MIN to COUNT as it is. -/
theorem regN_latCounted_ne {a : Nat} (ha : a < R.SCT_LAT_MIN m ∨ R.SCT_LAT_COUNT m < a) :
    (s.latCounted m ns).regN a = s.regN a := by
  have hrise := latRegs_rise m
  rw [State.latCounted, regN_inc_ne _ (by omega), State.add64, regN_setPair_ne _ (by omega) (by omega),
    regN_setRegN_ne _ (by omega), regN_setRegN_ne _ (by omega)]

theorem latCounted_count : (s.latCounted m ns).regN (R.SCT_LAT_COUNT m) = (s.regN (R.SCT_LAT_COUNT m) + 1) % 2 ^ 32 := by
  have hrise := latRegs_rise m
  rw [State.latCounted, regN_inc_same, State.add64, regN_setPair_ne _ (by omega) (by omega),
    regN_setRegN_ne _ (by omega), regN_setRegN_ne _ (by omega)]

theorem latRaise_evq : (s.latRaise m h).evq = s.evq ++ [s.event 0x0603 h 0 0 0 false] := raise_evq ..

theorem regN_latRaise_ne {a : Nat} (ha : a ≠ R.SCT_EVENT) : (s.latRaise m h).regN a = s.regN a :=
  (regN_raise _ rfl).trans (regN_wr_ne _ _ ha 1)

-- what a sample does

theorem latCounted_thresh : (s.latCounted m ns).rd (F.SCT_LAT_THRESH_THRESH m) = s.rd (F.SCT_LAT_THRESH_THRESH m) :=
  rd_of_regN (regN_latCounted_ne s m ns (.inl (latRegs_rise m).2.1))

variable {s m h ns}

/-- A sample within THRESH is only counted. -/
theorem latSample_within (hw : ¬ s.latBeyond m ns) : s.latSample m h ns = s.latCounted m ns := by
  rw [State.latBeyond, ← latCounted_thresh s m ns] at hw
  exact if_neg hw

/-- A sample beyond THRESH is counted in OVER, and told unless one was told in the last millisecond. -/
theorem latSample_beyond (hb : s.latBeyond m ns) : s.latSample m h ns =
    let u := (s.latCounted m ns).inc (R.SCT_LAT_OVER m)
    if sget 0 s.latAt m = 0 ∨ sget 0 s.latAt m + 1000000 ≤ s.clk.now + 1 then u.latRaise m h else u := by
  rw [State.latBeyond, ← latCounted_thresh s m ns] at hb
  exact if_pos hb

/-- The three things that a sample can be: within THRESH, beyond it and told, beyond it and not told. -/
theorem latSample_cases (s : State) (m h ns : Nat) :
    let u := s.latCounted m ns
    (¬ s.latBeyond m ns ∧ s.latSample m h ns = u) ∨
      (s.latBeyond m ns ∧ ¬ s.latTold m ∧ s.latSample m h ns = (u.inc (R.SCT_LAT_OVER m)).latRaise m h) ∨
      (s.latBeyond m ns ∧ s.latTold m ∧ s.latSample m h ns = u.inc (R.SCT_LAT_OVER m)) := by
  by_cases hb : s.latBeyond m ns
  · rw [latSample_beyond hb]
    by_cases ht : s.latTold m
    · exact .inr (.inr ⟨hb, ht, if_neg (by unfold State.latTold at ht; omega)⟩)
    · exact .inr (.inl ⟨hb, ht, if_pos (by unfold State.latTold at ht; omega)⟩)
  · exact .inl ⟨hb, latSample_within hb⟩

/-- OVER and the event apart, a sample leaves what its count left. -/
theorem regN_latSample (s : State) (m h ns : Nat) {a : Nat} (ho : a ≠ R.SCT_LAT_OVER m) (he : a ≠ R.SCT_EVENT) :
    (s.latSample m h ns).regN a = (s.latCounted m ns).regN a := by
  rcases latSample_cases s m h ns with ⟨_, hs⟩ | ⟨_, _, hs⟩ | ⟨_, _, hs⟩
  · rw [hs]
  · rw [hs, regN_latRaise_ne _ _ _ he, regN_inc_ne _ ho]
  · rw [hs, regN_inc_ne _ ho]

theorem latCounted_over (s : State) (m ns : Nat) :
    (s.latCounted m ns).regN (R.SCT_LAT_OVER m) = s.regN (R.SCT_LAT_OVER m) :=
  regN_latCounted_ne s m ns (.inr (by have hrise := latRegs_rise m; omega))

theorem latSample_over_within (hw : ¬ s.latBeyond m ns) :
    (s.latSample m h ns).regN (R.SCT_LAT_OVER m) = s.regN (R.SCT_LAT_OVER m) := by
  rw [latSample_within hw, latCounted_over]

theorem latSample_over_beyond (hb : s.latBeyond m ns) :
    (s.latSample m h ns).regN (R.SCT_LAT_OVER m) = (s.regN (R.SCT_LAT_OVER m) + 1) % 2 ^ 32 := by
  have hrise := latRegs_rise m
  rcases latSample_cases s m h ns with ⟨hn, _⟩ | ⟨_, _, hs⟩ | ⟨_, _, hs⟩
  · exact absurd hb hn
  · rw [hs, regN_latRaise_ne _ _ _ (by omega), regN_inc_same, latCounted_over]
  · rw [hs, regN_inc_same, latCounted_over]

theorem latSample_evq_told (hb : s.latBeyond m ns) (ht : ¬ s.latTold m) :
    ∃ e, (s.latSample m h ns).evq = s.evq ++ [e] ∧ e.code = 0x0603 ∧ e.param = h := by
  rcases latSample_cases s m h ns with ⟨hn, _⟩ | ⟨_, _, hs⟩ | ⟨_, hn, _⟩
  · exact absurd hb hn
  · rw [hs, latRaise_evq]
    exact ⟨_, rfl, rfl, rfl⟩
  · exact absurd hn ht

theorem latSample_evq_untold (hq : ¬ s.latBeyond m ns ∨ s.latTold m) : (s.latSample m h ns).evq = s.evq := by
  rcases latSample_cases s m h ns with ⟨_, hs⟩ | ⟨hb, hn, _⟩ | ⟨_, _, hs⟩
  · rw [hs]; rfl
  · exact absurd hq (not_or.mpr ⟨not_not.mpr hb, hn⟩)
  · rw [hs]; rfl

end

/-- Settles O35, register by register and by whether the sample is beyond THRESH and told. -/
theorem latencySamples : Obligations.LatencySamples := by
  intro s m h ns hns
  have hrise := latRegs_rise m
  refine ⟨?min, ?max, ?sum, ?count, latSample_over_beyond, latSample_over_within, latSample_evq_told, latSample_evq_untold⟩
  case min => rw [regN_latSample _ _ _ _ (by omega) (by omega), latCounted_min s m ns hns]
  case max => rw [regN_latSample _ _ _ _ (by omega) (by omega), latCounted_max s m ns hns]
  case sum =>
    rw [pair_of_regN (regN_latSample _ _ _ _ (by omega) (by omega)) (regN_latSample _ _ _ _ (by omega) (by omega)), latCounted_sum]
  case count => rw [regN_latSample _ _ _ _ (by omega) (by omega), latCounted_count]

end Sys2Proof.Machine
end

section
/-! PROOF. The steps of Table 6-1 on a frame of a stream channel (06, R237 to R268), and the bandwidth profile (R255). -/

namespace Sys2Proof.Machine

-- the steps

theorem sctSteps_invalid {s : State} {h : Nat} (hv : s.scf h 0 0 1 = 0) (p : Nat) (f : RxFrame) (d : Dec) :
    s.sctSteps h p f d = .error (s.inc C.SCT_INVALID_SC, plainFate d) := if_pos hv

/-- A frame that is not stamped is counted in FRAMES and changes nothing else. -/
theorem scCount_unstamped {s : State} {h p : Nat} (hn : s.scf h 0 5 1 = 0 ∨ 24 ≤ p) (wt : Int) (t : Fate) :
    (s.scCount h p wt t).1 = s.inc (C.SCT_C_FRAMES h) := by
  have hc : ¬((s.inc (C.SCT_C_FRAMES h)).scf h 0 5 1 = 1 ∧ p < 24) := by
    rw [scf_of_tables (inc_tables ..)]
    omega
  unfold State.scCount
  dsimp only
  rw [if_neg hc]

theorem scAuth_bound {s : State} {h : Nat} (hm : s.scf h 6 12 2 = 1) (p : Nat) (slot : Option Nat) (t : Fate) :
    s.scAuth h p slot t =
      if 24 ≤ p ∨ slot = some (s.scf h 6 16 8) then .ok (s, t) else .error (s.inc (C.SCT_C_AUTH_FAIL h), t) := by
  simp [State.scAuth, hm]

theorem scAuth_unbound {s : State} {h : Nat} (hm : s.scf h 6 12 2 = 0) (p : Nat) (slot : Option Nat) (t : Fate) :
    s.scAuth h p slot t = .ok (s, t) := by
  simp [State.scAuth, hm]

theorem scSdu_oversize {s : State} {h : Nat} {t : Fate} (hm : s.scf h 0 16 14 ≠ 0) (hl : s.scf h 0 16 14 < scLen t.data) :
    s.scSdu h true t = .error (s.inc (C.SCT_C_SDU_OVERSIZE h), t) := if_pos ⟨rfl, hm, hl⟩

theorem scAction_invalid {s : State} {h : Nat} (ha : 4 ≤ s.scf h 0 1 3) (p : Nat) (t : Fate) :
    ∃ u, s.scAction h p t = .error (s.inc C.SCT_ACTION_INVALID, u) := by
  obtain ⟨n, hn⟩ := Nat.exists_eq_add_of_le' ha
  unfold State.scAction
  rw [hn]
  exact ⟨_, rfl⟩

theorem dyn_setDyn_ne (s : State) {h k : Nat} (hk : k ≠ h) (d : ScDyn) : (s.setDyn h d).dyn k = s.dyn k := sget_sput_ne _ _ hk ..

/-- GEN 1 numbers a frame from the channel's own counter. -/
theorem scGen_counter {s : State} {h : Nat} (hg : s.scf h 5 0 2 = 1) (first spf : Nat) (t : Fate) :
    s.scGen h first spf t = .ok (s.setDyn h { s.dyn h with gen := ((s.dyn h).gen + 1) % 65536 },
      { t with data := rtagSet t.data (s.dyn h).gen }) := by
  rw [State.scGen, hg]
  rfl

-- the bandwidth profile

/-- The rate of the excess bucket: one that MODE 1 leaves out (R255). -/
def excessRate (mode eir : Nat) : Nat := if mode = 1 then 0 else eir

/-- What overflows the committed bucket and, where the buckets are coupled, goes to the excess one (R255). -/
def overflowed (d : ScDyn) (mode cir cbs : Nat) (coupling : Bool) (now : Nat) : Nat :=
  if (if mode = 1 then true else coupling) = true then d.ctok + cir * (now - d.refill) - cbs * 1000 else 0

/-- The buckets filled up to the present (R255). -/
def filled (d : ScDyn) (mode cir eir cbs ebs : Nat) (coupling : Bool) (now : Nat) : ScDyn :=
  { d with
    refill := now
    ctok := min (cbs * 1000) (d.ctok + cir * (now - d.refill))
    etok := min (ebs * 1000) (d.etok + excessRate mode eir * (now - d.refill) + overflowed d mode cir cbs coupling now) }

/-- The colour with which a frame comes to the profile (R255). -/
def colourIn (aware : Bool) (colour : Nat) : Nat := if aware then min colour 2 else 0

section
variable (d : ScDyn) (mode cir eir cbs ebs : Nat) (aware coupling : Bool) (colour len now : Nat)

theorem police_eq : police d mode cir eir cbs ebs aware coupling colour len now =
    let f := filled d mode cir eir cbs ebs coupling now
    if cir = 0 ∧ excessRate mode eir = 0 then (f, 2, 0)
    else if colourIn aware colour = 0 ∧ len * 1000 ≤ f.ctok then ({ f with ctok := f.ctok - len * 1000 }, 0, 1)
    else if colourIn aware colour ≠ 2 ∧ len * 1000 ≤ f.etok then ({ f with etok := f.etok - len * 1000 }, 1, 2)
    else (f, 2, 0) := rfl

/-- The profile marks a frame red and charges nothing, or charges a bucket that holds its length. -/
theorem police_cases :
    let r := police d mode cir eir cbs ebs aware coupling colour len now
    let f := filled d mode cir eir cbs ebs coupling now
    r = (f, 2, 0) ∨ (len * 1000 ≤ f.ctok ∧ r = ({ f with ctok := f.ctok - len * 1000 }, 0, 1)) ∨
      (len * 1000 ≤ f.etok ∧ r = ({ f with etok := f.etok - len * 1000 }, 1, 2)) := by
  rw [police_eq]
  dsimp only
  split
  · exact .inl rfl
  · split
    next hgreen => exact .inr (.inl ⟨hgreen.2, rfl⟩)
    · split
      next hyellow => exact .inr (.inr ⟨hyellow.2, rfl⟩)
      · exact .inl rfl

end

/-- Settles O36, step by step of Table 6-1. -/
theorem streamStepsInOrder : Obligations.StreamStepsInOrder := by
  refine ⟨fun s h p f d => ⟨fun hv => sctSteps_invalid hv p f d, fun hv => ?valid⟩, fun x k => ⟨rfl, rfl⟩,
    fun s h p slot t => ⟨fun hm hp hs => ?fails, fun hm hs => ?passes, fun hm => scAuth_unbound hm p slot t, scSdu_oversize,
      fun ha => scAction_invalid ha p t, fun first spf hg => ?generated⟩, ?policed⟩
  case valid => exact ⟨fun hn => scCount_unstamped hn f.wt (plainFate d), if_neg (by omega)⟩
  case fails => rw [scAuth_bound hm, if_neg (not_or.mpr ⟨by omega, hs⟩)]
  case passes => rw [scAuth_bound hm, if_pos hs]
  case generated => exact ⟨_, scGen_counter hg first spf t, by rw [dyn_setDyn_same], fun k hk => dyn_setDyn_ne s hk _⟩
  case policed =>
    intro d mode cir eir cbs ebs aware coupling colour len now
    have hc : (filled d mode cir eir cbs ebs coupling now).ctok ≤ cbs * 1000 := min_le_left ..
    have he : (filled d mode cir eir cbs ebs coupling now).etok ≤ ebs * 1000 := min_le_left ..
    rcases police_cases d mode cir eir cbs ebs aware coupling colour len now with hr | ⟨hlen, hr⟩ | ⟨hlen, hr⟩
    · rw [hr]
      exact ⟨hc, he, rfl, nofun, nofun, fun _ => ⟨rfl, rfl⟩, le_refl 2, rfl, rfl, rfl, rfl⟩
    · rw [hr]
      exact ⟨(Nat.sub_le ..).trans hc, he, rfl, fun _ => ⟨rfl, Nat.sub_add_cancel hlen⟩, nofun, nofun, Nat.zero_le 2,
        rfl, rfl, rfl, rfl⟩
    · rw [hr]
      exact ⟨hc, (Nat.sub_le ..).trans he, rfl, nofun, fun _ => ⟨rfl, rfl, (Nat.sub_add_cancel hlen).trans_le he⟩, nofun,
        one_le_two, rfl, rfl, rfl, rfl⟩

end Sys2Proof.Machine
end

section
/-! PROOF. The release of copies, and of the frame with its last copy (07, R285, R286, R288). -/

namespace Sys2Proof.Machine

-- packets by descriptor

/-- The descriptor table reads as any sparse table does, with `pkt0` for a descriptor that holds no packet. -/
theorem getPkt_eq_sget (s : State) (id : Nat) : s.getPkt id = sget pkt0 s.buf.pkt id := by
  unfold State.getPkt State.pkt
  induction s.buf.pkt with
  | nil => rfl
  | cons e r ih =>
    obtain ⟨k, p⟩ := e
    by_cases hk : k = id
    · simp [sget, hk]
    · simpa [sget, hk] using ih

@[simp] theorem getPkt_setPkt_same (s : State) (id : Nat) (p : Pkt) : (s.setPkt id p).getPkt id = p := by
  rw [getPkt_eq_sget]
  exact sget_sput_same ..

theorem getPkt_setPkt_ne (s : State) {id k : Nat} (h : k ≠ id) (p : Pkt) : (s.setPkt id p).getPkt k = s.getPkt k := by
  rw [getPkt_eq_sget, getPkt_eq_sget]
  exact sget_sput_ne _ _ h ..

-- pause requests

/-- Pause requests are kept in the ports, and count in a register. -/
theorem updatePause_changes (s : State) (p : Nat) : ∃ r m, s.updatePause p = { s with regs := r, mac := m } := by
  have hask (u : State) (vec : Nat) (zero : Bool) : ∃ m, u.askPause p vec zero = { u with mac := m } := by
    unfold State.askPause
    split
    · exact ⟨_, rfl⟩
    · exact ⟨_, rfl⟩
  unfold State.updatePause
  split
  · exact ⟨_, _, rfl⟩
  · extract_lets old xoff xon new added gone u v
    have hv : ∃ r m, v = { s with regs := r, mac := m } := by
      by_cases ha : added ≠ 0
      · obtain ⟨m, hm⟩ := hask (u.inc C.BUF_PAUSE_REQUESTS) new false
        exact ⟨_, _, (if_pos ha).trans hm⟩
      · exact ⟨_, _, if_neg ha⟩
    split
    · exact ⟨_, _, rfl⟩
    · split
      · obtain ⟨r, m, hv⟩ := hv
        obtain ⟨m', hm⟩ := hask v gone true
        exact ⟨_, _, hm.trans (by rw [hv])⟩
      · exact hv

-- the release of a packet

/-- A freed packet: its cells and its descriptor are in their free lists, and the descriptor holds nothing. The frame in reception
that fed it, and the pause requests of its port, are outside the buffer. -/
theorem freePkt_changes (s : State) (id : Nat) :
    ∃ r m, s.freePkt id = { s with
      regs := r
      mac := m
      buf := { s.buf with
        cells := s.buf.cells.addAll (s.getPkt id).cells
        pkts := s.buf.pkts.add id
        pkt := sput pkt0 id pkt0 s.buf.pkt } } := by
  unfold State.freePkt
  extract_lets p src u v drop w
  obtain ⟨r, m, hpause⟩ := updatePause_changes w p.inPort
  rw [hpause]
  by_cases hc : p.complete = true
  · have hw : w = v := if_pos hc
    exact ⟨r, m, by rw [hw]; rfl⟩
  · have hw : w = v.modPort p.inPort (fun m => { m with cur := drop m.cur, held := drop m.held }) := if_neg hc
    exact ⟨r, m, by rw [hw]; rfl⟩

theorem getPkt_freePkt_same (s : State) (id : Nat) : (s.freePkt id).getPkt id = pkt0 := by
  obtain ⟨r, m, hfree⟩ := freePkt_changes s id
  rw [hfree, getPkt_eq_sget]
  exact sget_sput_same pkt0 id pkt0 s.buf.pkt

theorem getPkt_freePkt_ne (s : State) {id k : Nat} (h : k ≠ id) : (s.freePkt id).getPkt k = s.getPkt k := by
  obtain ⟨r, m, hfree⟩ := freePkt_changes s id
  rw [hfree, getPkt_eq_sget s k]
  exact (getPkt_eq_sget _ k).trans (sget_sput_ne pkt0 pkt0 h pkt0 s.buf.pkt)

-- the release of a copy

/-- The state in which a copy is back and the packet counts one copy less. -/
def State.uncounted (s : State) (c : Copy) : State :=
  ({ s with buf := { s.buf with copies := s.buf.copies.add c.id } }).modPkt c.pkt (fun p => { p with copies := p.copies - 1 })

theorem getPkt_uncounted (s : State) (c : Copy) :
    (s.uncounted c).getPkt c.pkt = { s.getPkt c.pkt with copies := (s.getPkt c.pkt).copies - 1 } := getPkt_setPkt_same ..

theorem getPkt_uncounted_ne (s : State) {c : Copy} {id : Nat} (h : id ≠ c.pkt) : (s.uncounted c).getPkt id = s.getPkt id :=
  getPkt_setPkt_ne _ h _

/-- A copy that is not the last one takes only its own descriptor and its count with it. -/
theorem releaseCopy_notLast {s : State} {c : Copy} (h : 1 < (s.getPkt c.pkt).copies) : s.releaseCopy c = s.uncounted c := by
  have hleft : ((s.uncounted c).getPkt c.pkt).copies ≠ 0 := by
    rw [getPkt_uncounted]
    exact Nat.sub_ne_zero_of_lt h
  exact if_neg hleft

/-- With the last copy the packet is freed. -/
theorem releaseCopy_last {s : State} {c : Copy} (h : (s.getPkt c.pkt).copies ≤ 1) :
    s.releaseCopy c = (s.uncounted c).freePkt c.pkt := by
  have hnone : ((s.uncounted c).getPkt c.pkt).copies = 0 := by
    rw [getPkt_uncounted]
    exact Nat.sub_eq_zero_of_le h
  exact if_pos hnone

theorem releaseCopy_copies (s : State) (c : Copy) : (s.releaseCopy c).buf.copies = s.buf.copies.add c.id := by
  rcases Nat.lt_or_ge 1 (s.getPkt c.pkt).copies with h | h
  · rw [releaseCopy_notLast h]
    rfl
  · obtain ⟨r, m, hfree⟩ := freePkt_changes (s.uncounted c) c.pkt
    rw [releaseCopy_last h, hfree]
    rfl

/-- The other packets, the memories and the tables stand as they did. -/
theorem releaseCopy_frame (s : State) (c : Copy) :
    (∀ id, id ≠ c.pkt → (s.releaseCopy c).getPkt id = s.getPkt id) ∧ (s.releaseCopy c).mem = s.mem ∧
      (s.releaseCopy c).tables = s.tables := by
  rcases Nat.lt_or_ge 1 (s.getPkt c.pkt).copies with h | h
  · rw [releaseCopy_notLast h]
    exact ⟨fun id hid => getPkt_uncounted_ne s hid, rfl, rfl⟩
  · obtain ⟨r, m, hfree⟩ := freePkt_changes (s.uncounted c) c.pkt
    rw [releaseCopy_last h]
    exact ⟨fun id hid => (getPkt_freePkt_ne _ hid).trans (getPkt_uncounted_ne s hid), by rw [hfree]; rfl, by rw [hfree]; rfl⟩

/-- Settles O39, by whether the copy is its packet's last. -/
theorem framesAreFreedOnce : Obligations.FramesAreFreedOnce := by
  intro s c
  refine ⟨releaseCopy_copies s c, fun h => ?notLast, fun h => ?last, releaseCopy_frame s c⟩
  case notLast =>
    rw [releaseCopy_notLast h, getPkt_uncounted]
    exact ⟨rfl, rfl, rfl, rfl, rfl⟩
  case last =>
    obtain ⟨r, m, hfree⟩ := freePkt_changes (s.uncounted c) c.pkt
    rw [releaseCopy_last h]
    exact ⟨by rw [hfree, getPkt_uncounted]; rfl, by rw [hfree]; rfl, getPkt_freePkt_same ..⟩

end Sys2Proof.Machine
end

section
/-! PROOF. Admission to a queue, the RED profile and its generator (07, R296, R297, R759). -/

namespace Sys2Proof.Machine

-- the average depth

/-- A look at a queue writes its average, and no other register. -/
theorem rd_updateAvg_ne (s : State) (q d : Nat) {f : Fld} (h : f.addr ≠ R.BUF_Q_AVG q) : (s.updateAvg q d).rd f = s.rd f :=
  rd_setRegN_ne s h _

theorem rd_updateAvg_min (s : State) (q d : Nat) : (s.updateAvg q d).rd (F.BUF_Q_CFG_MIN q) = s.rd (F.BUF_Q_CFG_MIN q) :=
  rd_updateAvg_ne s q d (by simp only [R.BUF_Q_CFG, R.BUF_Q_AVG]; omega)

theorem rd_updateAvg_max (s : State) (q d : Nat) : (s.updateAvg q d).rd (F.BUF_Q_CFG_MAX q) = s.rd (F.BUF_Q_CFG_MAX q) :=
  rd_updateAvg_ne s q d (by simp only [R.BUF_Q_CFG, R.BUF_Q_AVG]; omega)

theorem rd_updateAvg_reserve (s : State) (q d : Nat) : (s.updateAvg q d).rd F.BUF_RESERVE_CELLS = s.rd F.BUF_RESERVE_CELLS :=
  rd_updateAvg_ne s q d (by simp only [R.BUF_RESERVE, R.BUF_Q_AVG]; omega)

-- the tests of R297, in their order

section
variable {s : State} {q id : Nat}

theorem admitQueue_noDescriptor (h : s.freeCopies = 0) :
    s.admitQueue q id = ((s.updateAvg q (s.depth q)).inc C.BUF_NO_COPY_DESC).raiseOnce 0x0706 0 := if_pos h

variable (hfree : s.freeCopies ≠ 0)
include hfree

theorem admitQueue_guaranteed (h : s.depth q + (s.getPkt id).charge ≤ s.rd (F.BUF_Q_CFG_MIN q)) :
    s.admitQueue q id = (s.updateAvg q (s.depth q)).link q id false := by
  rw [← rd_updateAvg_min s q (s.depth q)] at h
  exact (if_neg hfree).trans (if_pos h)

variable (hmin : s.rd (F.BUF_Q_CFG_MIN q) < s.depth q + (s.getPkt id).charge)
include hmin

theorem admitQueue_aboveMax (h0 : s.rd (F.BUF_Q_CFG_MAX q) ≠ 0)
    (hmax : s.rd (F.BUF_Q_CFG_MAX q) < s.depth q + (s.getPkt id).charge) :
    s.admitQueue q id = (s.updateAvg q (s.depth q)).inc (C.BUF_Q_TAIL_DROP q) := by
  rw [← rd_updateAvg_min s q (s.depth q)] at hmin
  rw [← rd_updateAvg_max s q (s.depth q)] at h0 hmax
  exact (if_neg hfree).trans ((if_neg (not_le.mpr hmin)).trans (if_pos ⟨h0, hmax⟩))

theorem admitQueue_shortOfCells (hmax : s.rd (F.BUF_Q_CFG_MAX q) = 0 ∨ s.depth q + (s.getPkt id).charge ≤ s.rd (F.BUF_Q_CFG_MAX q))
    (hcells : s.freeCells < s.rd F.BUF_RESERVE_CELLS + (s.getPkt id).charge) :
    s.admitQueue q id = (s.updateAvg q (s.depth q)).inc (C.BUF_Q_TAIL_DROP q) := by
  rw [← rd_updateAvg_min s q (s.depth q)] at hmin
  rw [← rd_updateAvg_max s q (s.depth q)] at hmax
  rw [← rd_updateAvg_reserve s q (s.depth q)] at hcells
  have hwithin : ¬ ((s.updateAvg q (s.depth q)).rd (F.BUF_Q_CFG_MAX q) ≠ 0 ∧
      (s.updateAvg q (s.depth q)).rd (F.BUF_Q_CFG_MAX q) < s.depth q + (s.getPkt id).charge) := by omega
  exact (if_neg hfree).trans ((if_neg (not_le.mpr hmin)).trans ((if_neg hwithin).trans (if_pos hcells)))

end

-- the RED profile of a queue, for a colour

/-- MIN of the queue's profile, in cells. -/
def State.redMin (s : State) (q c : Nat) : Nat := bits (s.tw 7 (s.rd (F.BUF_Q_PROF_PROFILE q)) c) 0 16

/-- MAX of the queue's profile, in cells, at least its MIN. -/
def State.redMax (s : State) (q c : Nat) : Nat :=
  max (bits (s.tw 7 (s.rd (F.BUF_Q_PROF_PROFILE q)) c) 16 16) (s.redMin q c)

/-- The number below which the random number of a copy drops or marks it, with the average between MIN and MAX. -/
def State.redChance (s : State) (q c : Nat) : Nat :=
  bits (s.tw 7 (s.rd (F.BUF_Q_PROF_PROFILE q)) 3) (8 * c) 8 * (s.rd (F.BUF_Q_AVG_AVG q) - s.redMin q c * 256) /
    ((s.redMax q c - s.redMin q c) * 256)

section
variable {s : State} {q c : Nat} (capable : Bool)

theorem redTest_above (h : s.redMax q c * 256 ≤ s.rd (F.BUF_Q_AVG_AVG q)) : s.redTest q c capable = (s, .drop) := if_pos h

theorem redTest_below (h : s.rd (F.BUF_Q_AVG_AVG q) < s.redMin q c * 256) : s.redTest q c capable = (s, .pass) := by
  have hmax : s.redMin q c ≤ s.redMax q c := le_max_right ..
  have hbelow : ¬ s.redMax q c * 256 ≤ s.rd (F.BUF_Q_AVG_AVG q) := by omega
  exact (if_neg hbelow).trans (if_neg (not_le.mpr h))

variable (hlo : s.redMin q c * 256 ≤ s.rd (F.BUF_Q_AVG_AVG q)) (hhi : s.rd (F.BUF_Q_AVG_AVG q) < s.redMax q c * 256)
include hlo hhi

theorem redTest_between : s.redTest q c capable =
    if s.lfsr8.1 < s.redChance q c then
      (s.lfsr8.2, if (s.tw 7 (s.rd (F.BUF_Q_PROF_PROFILE q)) 3).testBit 24 ∧ capable then .mark else .drop)
    else (s.lfsr8.2, .pass) := (if_neg (not_le.mpr hhi)).trans (if_pos hlo)

/-- One random number is drawn, whatever comes of it. -/
theorem redTest_between_draws : (s.redTest q c capable).1 = s.lfsr8.2 := by
  rw [redTest_between capable hlo hhi]
  split <;> rfl

/-- With PMAX 0 no random number is small enough. -/
theorem redTest_between_pass (hp : bits (s.tw 7 (s.rd (F.BUF_Q_PROF_PROFILE q)) 3) (8 * c) 8 = 0) :
    (s.redTest q c capable).2 = .pass := by
  have hnever : s.redChance q c = 0 := by rw [State.redChance, hp, Nat.zero_mul, Nat.zero_div]
  rw [redTest_between capable hlo hhi, hnever, if_neg (Nat.not_lt_zero _)]

theorem capable_of_redTest_mark (h : (s.redTest q c capable).2 = .mark) : capable = true := by
  rw [redTest_between capable hlo hhi] at h
  split at h
  · dsimp only at h
    split at h
    next hmark => exact hmark.2
    · exact absurd h nofun
  · exact absurd h nofun

end

-- the generator

/-- What the generator's 16 bits hold from the preset on: a number that is not 0. -/
def LfsrAlive (x : Nat) : Prop := 0 < x ∧ x < 65536

/-- An odd number steps to one with bit 15 set, by the feedback; an even one to its half. -/
theorem LfsrAlive.step {x : Nat} (h : LfsrAlive x) : LfsrAlive (lfsrStep x) := by
  obtain ⟨hpos, hlt⟩ := h
  unfold lfsrStep
  split
  · have htop : ((x / 2) ^^^ 0xB400).testBit 15 = true := by
      rw [Nat.testBit_xor, Nat.testBit_lt_two_pow (by omega : x / 2 < 2 ^ 15)]
      rfl
    have hne : (x / 2) ^^^ 0xB400 ≠ 0 := fun h0 => by simp [h0] at htop
    exact ⟨Nat.pos_of_ne_zero hne, Nat.xor_lt_two_pow (n := 16) (by omega) (by decide)⟩
  · exact ⟨by omega, by omega⟩

theorem LfsrAlive.lfsr8 {s : State} (h : LfsrAlive s.buf.lfsr) : LfsrAlive s.lfsr8.2.buf.lfsr :=
  h.step.step.step.step.step.step.step.step

theorem lfsr8_lt (s : State) : s.lfsr8.1 < 256 := Nat.mod_lt _ (by decide)

/-- Settles O38: the tests of R297 in their order, the profile by where the average lies, and the generator step by step. -/
theorem admissionRules : Obligations.AdmissionRules := by
  refine ⟨fun s q id _ => ?queue, fun s q c capable => ?profile, rfl, fun s hpos hlt => ?generator⟩
  case queue =>
    exact ⟨admitQueue_noDescriptor, admitQueue_guaranteed,
      fun hfree hmin => ⟨admitQueue_aboveMax hfree hmin, admitQueue_shortOfCells hfree hmin⟩⟩
  case profile =>
    exact ⟨redTest_below capable, redTest_above capable, fun hlo hhi => ⟨redTest_between_draws capable hlo hhi,
      redTest_between_pass capable hlo hhi, capable_of_redTest_mark capable hlo hhi⟩⟩
  case generator =>
    obtain ⟨hpos', hlt'⟩ := LfsrAlive.lfsr8 (s := s) ⟨hpos, hlt⟩
    exact ⟨hpos', hlt', lfsr8_lt s⟩

end Sys2Proof.Machine
end

section
/-! PROOF. Shapers and their credit, the delay maxima and the histogram monitors (08, R323, R327, R357 to R360). -/

namespace Sys2Proof.Machine

-- the bits a write leaves in a field

theorem sub_and_div_two (a b : Nat) : (a - (a &&& b)) / 2 = a / 2 - (a / 2 &&& b / 2) := by
  have hlow : (a &&& b) % 2 = 1 ↔ a % 2 = 1 ∧ b % 2 = 1 := Nat.and_mod_two_eq_one
  rw [← Nat.and_div_two]
  omega

/-- A number without the bits of a mask. -/
theorem testBit_sub_and (a b i : Nat) : (a - (a &&& b)).testBit i = (a.testBit i && !b.testBit i) := by
  induction i generalizing a b with
  | zero =>
    have hlow : (a &&& b) % 2 = 1 ↔ a % 2 = 1 ∧ b % 2 = 1 := Nat.and_mod_two_eq_one
    have hle : a &&& b ≤ a := Nat.and_le_left
    rw [Bool.eq_iff_iff]
    simp only [Nat.testBit_zero, Bool.and_eq_true, Bool.not_eq_true', decide_eq_true_eq, decide_eq_false_iff_not]
    omega
  | succ i ih => rw [Nat.testBit_succ, Nat.testBit_succ, Nat.testBit_succ, sub_and_div_two, ih]

/-- A bit of a RW field, which no W1C field shares, takes what is written (R11). -/
theorem testBit_writtenValue {r : RegRow} {i : Nat} (hrw : (r.mask (fun a => a == .rw || a == .rws)).testBit i = true)
    (hc : (r.mask (fun a => a == .w1c)).testBit i = false) (old v : Nat) : (writtenValue r old v).testBit i = v.testBit i := by
  simp [writtenValue, testBit_sub_and, hrw, hc]

theorem writeFields_credit (s : State) (a v : Nat) : (s.writeFields a v).credit = s.credit := by
  obtain ⟨r, h⟩ := writeFields_eq s a v
  rw [h]

-- shapers

theorem regRow_shaper : ∀ q : Fin 224, regRow? (R.EGS_Q_SHAPER q) = rowsEGS0.getLast? := by decide +kernel

/-- SHAPER_EN takes what is written. -/
theorem shaperEn_writeFields (s : State) (q : Fin 224) (v : Nat) :
    (s.writeFields (R.EGS_Q_SHAPER q) v).on (F.EGS_Q_SHAPER_SHAPER_EN q) = v.testBit 31 := by
  rw [State.on, State.rd, State.writeFields, regRow_shaper]
  dsimp only [rowsEGS0, List.getLast?, List.getLast]
  rw [regN_setRegN_same, bits_mod (by simp), bits_one, testBit_writtenValue (by decide) (by decide)]
  cases v.testBit 31 <;> rfl

section
variable {s : State} {q : Fin 224}

theorem exec_shaperWrite_burst (h : s.writable (R.EGS_Q_BURST q)) (v : Word) :
    exec (.shaperWrite q true v) s = .next (settle (s.shaperWrite q true v.toNat)) := finish_regLive h _

theorem exec_shaperWrite_shaper (h : s.writable (R.EGS_Q_SHAPER q)) (v : Word) :
    exec (.shaperWrite q false v) s = .next (settle (s.shaperWrite q false v.toNat)) := finish_regLive h _

/-- The credit restarts only where the write turns the shaper on. -/
theorem shaperWrite_shaper (v : Nat) : let u := s.writeFields (R.EGS_Q_SHAPER q) v
    s.shaperWrite q false v =
      if u.on (F.EGS_Q_SHAPER_SHAPER_EN q) ∧ s.on (F.EGS_Q_SHAPER_SHAPER_EN q) = false then u.setQCredit q 0 else u := by
  simp [State.shaperWrite]

end

-- registers that a command sets to 0

theorem regN_setRegN_zero {s : State} {a : Nat} (h : s.regN a = 0) (b : Nat) : (s.setRegN b 0).regN a = 0 := by
  by_cases hab : a = b
  · subst hab
    exact regN_setRegN_same s a 0
  · rw [regN_setRegN_ne s hab, h]

/-- A fold does what one of its steps does and every step keeps. -/
theorem foldl_of_step {α β : Type} {P : α → Prop} {f : α → β → α} {l : List β} {x : β} (hx : x ∈ l) (hset : ∀ a, P (f a x))
    (hkeep : ∀ a y, P a → P (f a y)) (a : α) : P (l.foldl f a) := by
  obtain ⟨before, after, rfl⟩ := List.append_of_mem hx
  rw [List.foldl_append, List.foldl_cons]
  exact List.foldlRecOn (motive := P) after f (hset _) fun b hb y _ => hkeep b y hb

-- delay maxima

theorem exec_maxdlyClear {s : State} (h : s.writable R.EGS_MAXDLY_CLEAR) (v : Word) :
    exec (.maxdlyClear v) s = .next (settle (s.maxdlyClear v.toNat)) := finish_regLive h _

section
variable (s : State) {v : Nat}

theorem maxdlyClear_all (hall : v.testBit 31 = true) {q : Nat} (hq : q < 224) : (s.maxdlyClear v).regN (R.EGS_Q_MAXDLY q) = 0 := by
  rw [State.maxdlyClear, if_pos hall]
  exact foldl_of_step (P := fun u : State => u.regN (R.EGS_Q_MAXDLY q) = 0) (List.mem_range.mpr hq)
    (fun u => regN_setRegN_same u _ 0) (fun u k hu => regN_setRegN_zero hu _) s

theorem maxdlyClear_one (hall : v.testBit 31 = false) (hq : bits v 0 8 < 224) :
    s.maxdlyClear v = s.setRegN (R.EGS_Q_MAXDLY (bits v 0 8)) 0 := by
  simp [State.maxdlyClear, hall, hq]

/-- What every write of a register leaves, the command leaves. -/
theorem maxdlyClear_frame {γ : Type} (g : State → γ) (hg : ∀ (u : State) (a : Nat), g (u.setRegN a 0) = g u) (v : Nat) :
    g (s.maxdlyClear v) = g s := by
  unfold State.maxdlyClear
  split_ifs
  · exact foldl_frame g (fun u q => hg u _) _ s
  · exact hg s _
  · rfl

end

-- the histogram monitors

section
variable {s : State} {m : Fin 8}

theorem exec_hmClear (h : s.writable (R.EGS_HM_CFG m)) : exec (.hmClear m) s = .next (settle (s.hmClear m)) := finish_regLive h _

theorem exec_hmQueueWrite (h : s.writable (R.EGS_HM_CFG m)) (v : Word) :
    exec (.hmQueueWrite m v) s = .next (settle (s.hmQueueWrite m v.toNat)) := finish_regLive h _

theorem exec_depthSample (ha : s.alive = true) : exec (.depthSample m) s = .next (settle (s.depthSample m)) := finish_live ha _

end

section
variable (s : State) (m : Nat)

/-- The two maxima are cleared after the bins, and leave a bin at 0. -/
theorem hmClear_bins {k : Nat} (hk : k < 16) :
    (s.hmClear m).regN (R.EGS_HM_DLY_BIN m k) = 0 ∧ (s.hmClear m).regN (R.EGS_HM_DEP_BIN m k) = 0 := by
  have hmem := List.mem_range.mpr hk
  refine ⟨regN_setRegN_zero (regN_setRegN_zero ?delay _) _, regN_setRegN_zero (regN_setRegN_zero ?depth _) _⟩
  case delay =>
    exact foldl_of_step (P := fun u : State => u.regN (R.EGS_HM_DLY_BIN m k) = 0) hmem
      (fun u => regN_setRegN_zero (regN_setRegN_same u _ 0) _) (fun u j hu => regN_setRegN_zero (regN_setRegN_zero hu _) _) s
  case depth =>
    exact foldl_of_step (P := fun u : State => u.regN (R.EGS_HM_DEP_BIN m k) = 0) hmem
      (fun u => regN_setRegN_same _ _ 0) (fun u j hu => regN_setRegN_zero (regN_setRegN_zero hu _) _) s

theorem hmClear_maxima : (s.hmClear m).regN (R.EGS_HM_DLY_MAX m) = 0 ∧ (s.hmClear m).regN (R.EGS_HM_DEP_MAX m) = 0 :=
  ⟨regN_setRegN_zero (regN_setRegN_same _ _ 0) _, regN_setRegN_same _ _ 0⟩

-- depth samples

/-- The bin of a depth, in cells: 0 for an empty queue, else by its highest bit (R359). -/
def depthBin (d : Nat) : Nat := if d = 0 then 0 else min 15 (Nat.log2 d + 1)

theorem depthBin_lt (d : Nat) : depthBin d < 16 := by
  unfold depthBin
  split <;> omega

/-- The monitor with a depth counted in its bin and in its maximum, at this time (R359). -/
def State.depthCounted (d : Nat) : State :=
  let s := { s with buf := { s.buf with depthAt := sput 0 m s.clk.now s.buf.depthAt } }
  let s := s.setRegN (R.EGS_HM_DEP_BIN m (depthBin d)) (min (s.regN (R.EGS_HM_DEP_BIN m (depthBin d)) + 1) 0xFFFFFFFF)
  s.setRegN (R.EGS_HM_DEP_MAX m) (max (s.regN (R.EGS_HM_DEP_MAX m)) d)

variable {s m}

theorem depthSample_due (hen : s.on (F.EGS_HM_CFG_EN m) = true) (hq : s.rd (F.EGS_HM_CFG_QUEUE m) < 224)
    (hus : s.rd (F.EGS_HM_CFG_DEPTH_PERIOD m) ≠ 0)
    (ht : sget 0 s.buf.depthAt m + s.rd (F.EGS_HM_CFG_DEPTH_PERIOD m) * 1000 ≤ s.clk.now) :
    s.depthSample m = s.depthCounted m (s.depth (s.rd (F.EGS_HM_CFG_QUEUE m))) := by
  have htaken : ¬(¬s.on (F.EGS_HM_CFG_EN m) = true ∨ 224 ≤ s.rd (F.EGS_HM_CFG_QUEUE m) ∨ s.rd (F.EGS_HM_CFG_DEPTH_PERIOD m) = 0 ∨
      s.clk.now < sget 0 s.buf.depthAt m + s.rd (F.EGS_HM_CFG_DEPTH_PERIOD m) * 1000) := by
    rintro (h | h | h | h)
    · exact h hen
    · omega
    · exact hus h
    · omega
  exact if_neg htaken

theorem depthSample_none (h : s.on (F.EGS_HM_CFG_EN m) = false ∨ s.rd (F.EGS_HM_CFG_DEPTH_PERIOD m) = 0 ∨
    s.clk.now < sget 0 s.buf.depthAt m + s.rd (F.EGS_HM_CFG_DEPTH_PERIOD m) * 1000) : s.depthSample m = s := by
  refine if_pos ?_
  rcases h with h | h | h
  · exact .inl (by simp [h])
  · exact .inr (.inr (.inl h))
  · exact .inr (.inr (.inr h))

variable (s m) (d : Nat)

/-- The maximum lies above the sixteen bins. -/
theorem depBin_ne_depMax {k : Nat} (hk : k < 16) : R.EGS_HM_DEP_BIN m k ≠ R.EGS_HM_DEP_MAX m := by
  unfold R.EGS_HM_DEP_BIN R.EGS_HM_DEP_MAX
  omega

theorem depthCounted_bin : (s.depthCounted m d).regN (R.EGS_HM_DEP_BIN m (depthBin d)) =
    min (s.regN (R.EGS_HM_DEP_BIN m (depthBin d)) + 1) 0xFFFFFFFF := by
  rw [State.depthCounted, regN_setRegN_ne _ (depBin_ne_depMax m (depthBin_lt d)), regN_setRegN_same]
  exact Nat.mod_eq_of_lt (by omega)

theorem depthCounted_bin_ne {k : Nat} (hk : k < 16) (hne : k ≠ depthBin d) :
    (s.depthCounted m d).regN (R.EGS_HM_DEP_BIN m k) = s.regN (R.EGS_HM_DEP_BIN m k) := by
  rw [State.depthCounted, regN_setRegN_ne _ (depBin_ne_depMax m hk), regN_setRegN_ne _ (by unfold R.EGS_HM_DEP_BIN; omega)]
  rfl

theorem depthCounted_max : (s.depthCounted m d).regN (R.EGS_HM_DEP_MAX m) = max (s.regN (R.EGS_HM_DEP_MAX m)) d % 2 ^ 32 := by
  rw [State.depthCounted, regN_setRegN_same, regN_setRegN_ne _ (depBin_ne_depMax m (depthBin_lt d)).symm]
  rfl

theorem depthCounted_depthAt : sget 0 (s.depthCounted m d).buf.depthAt m = s.clk.now := sget_sput_same ..

end

/-- Settles O42, command by command. -/
theorem egressMonitors : Obligations.EgressMonitors := by
  refine fun s => ⟨fun q v => ⟨exec_shaperWrite_burst (v := v), fun h => ?shaper⟩, fun v h => ?maxima, fun m h => ?clear,
    fun m ha hen hq hus ht => ?sample, fun m ha h => ?noSample⟩
  case shaper =>
    refine ⟨?_, shaperEn_writeFields s q _, writeFields_credit s _ _⟩
    rw [exec_shaperWrite_shaper h, shaperWrite_shaper]
  case maxima =>
    refine ⟨s.maxdlyClear v.toNat, exec_maxdlyClear h v, fun hall q hq => maxdlyClear_all s hall hq, fun hall hq => ?_,
      maxdlyClear_frame s State.tables (fun _ _ => rfl) _, maxdlyClear_frame s State.mem (fun _ _ => rfl) _⟩
    rw [maxdlyClear_one s hall hq]
    exact ⟨regN_setRegN_same s _ 0, fun a ha => reg_setReg_ne s ha _⟩
  case clear => exact ⟨exec_hmClear h, exec_hmQueueWrite h, fun k hk => hmClear_bins s m hk, hmClear_maxima s m⟩
  case sample =>
    refine ⟨s.depthCounted m (s.depth (s.rd (F.EGS_HM_CFG_QUEUE m))), ?_, depthCounted_bin s m _,
      fun k hk hne => depthCounted_bin_ne s m _ hk hne, depthCounted_max s m _, depthCounted_depthAt s m _, rfl, rfl⟩
    rw [exec_depthSample ha, depthSample_due hen hq hus ht]
  case noSample => rw [exec_depthSample ha, depthSample_none h]

end Sys2Proof.Machine
end

section
/-! PROOF. The queue of scheduled changes: its order, what stands in it after an insertion, and a pass over it (09, R382). -/

namespace Sys2Proof.Machine

/-- The place of a change in the order of R382: its index, then unit A before unit B, then the commits in order. -/
def entryKey (e : AudEntry) : ℕ ×ₗ Bool ×ₗ ℕ := toLex (e.c.esi, toLex (e.unitB, e.seq))

theorem entryBefore_iff (a b : AudEntry) : entryBefore a b = true ↔
    a.c.esi < b.c.esi ∨ (a.c.esi = b.c.esi ∧ ((a.unitB = false ∧ b.unitB = true) ∨ (a.unitB = b.unitB ∧ a.seq < b.seq))) := by
  simp [entryBefore, and_comm]

/-- R382 orders changes as their keys are ordered. -/
theorem entryBefore_eq_true {a b : AudEntry} : entryBefore a b = true ↔ entryKey a < entryKey b := by
  simp [entryBefore_iff, entryKey, Prod.Lex.toLex_lt_toLex, Bool.lt_iff]

theorem entryBefore_eq_false {a b : AudEntry} : entryBefore a b = false ↔ entryKey b ≤ entryKey a := by
  rw [← not_lt, ← entryBefore_eq_true, Bool.not_eq_true]

theorem insertEntry_eq_orderedInsert (e : AudEntry) (l : List AudEntry) :
    insertEntry e l = l.orderedInsert (fun a b => entryBefore a b = true) e := by
  induction l with
  | nil => rfl
  | cons x r ih => rw [insertEntry, List.orderedInsert, ih]

theorem insertEntry_perm (e : AudEntry) (l : List AudEntry) : (insertEntry e l).Perm (e :: l) := by
  rw [insertEntry_eq_orderedInsert]
  exact List.perm_orderedInsert ..

theorem mem_insertEntry {e y : AudEntry} {l : List AudEntry} : y ∈ insertEntry e l ↔ y = e ∨ y ∈ l :=
  (insertEntry_perm e l).mem_iff.trans List.mem_cons

theorem insertEntry_of_lt {e x : AudEntry} (h : entryKey e < entryKey x) (r : List AudEntry) :
    insertEntry e (x :: r) = e :: x :: r := if_pos (entryBefore_eq_true.mpr h)

theorem insertEntry_of_le {e x : AudEntry} (h : entryKey x ≤ entryKey e) (r : List AudEntry) :
    insertEntry e (x :: r) = x :: insertEntry e r :=
  if_neg fun hb => absurd (entryBefore_eq_true.mp hb) h.not_gt

/-- A queue in order stays in order. -/
theorem insertEntry_ordered (e : AudEntry) {l : List AudEntry} (h : l.Pairwise (fun x y => entryBefore y x = false)) :
    (insertEntry e l).Pairwise (fun x y => entryBefore y x = false) := by
  simp only [entryBefore_eq_false] at h ⊢
  induction l with
  | nil => exact List.pairwise_singleton ..
  | cons x r ih =>
    obtain ⟨hx, hr⟩ := List.pairwise_cons.mp h
    rcases lt_or_ge (entryKey e) (entryKey x) with hlt | hle
    · rw [insertEntry_of_lt hlt]
      refine List.pairwise_cons.mpr ⟨fun y hy => ?_, h⟩
      rcases List.mem_cons.mp hy with rfl | hy
      · exact hlt.le
      · exact hlt.le.trans (hx y hy)
    · rw [insertEntry_of_le hle]
      refine List.pairwise_cons.mpr ⟨fun y hy => ?_, ih hr⟩
      rcases mem_insertEntry.mp hy with rfl | hy
      · exact hle
      · exact hx y hy

/-- Two changes with different places find them whichever comes first: where the later one stops, the earlier one stopped. -/
theorem insertEntry_comm {a b : AudEntry} (h : entryKey a < entryKey b) (l : List AudEntry) :
    insertEntry a (insertEntry b l) = insertEntry b (insertEntry a l) := by
  induction l with
  | nil => exact (insertEntry_of_lt h []).trans (insertEntry_of_le h.le []).symm
  | cons x r ih =>
    rcases lt_or_ge (entryKey b) (entryKey x) with hb | hb
    · rw [insertEntry_of_lt hb, insertEntry_of_lt h, insertEntry_of_lt (h.trans hb), insertEntry_of_le h.le, insertEntry_of_lt hb]
    · rcases lt_or_ge (entryKey a) (entryKey x) with ha | ha
      · rw [insertEntry_of_le hb, insertEntry_of_lt ha, insertEntry_of_lt ha, insertEntry_of_le h.le, insertEntry_of_le hb]
      · rw [insertEntry_of_le hb, insertEntry_of_le ha, insertEntry_of_le ha, insertEntry_of_le hb, ih]

section
variable (s : State) (loc : Bool) {p : Nat} {e : AudEntry} (r : List AudEntry)

theorem applyDue_due (h : e.c.esi ≤ p) : (s.applyDue loc p (e :: r)).1 = ((s.applyEntry loc e).1.applyDue loc p r).1 := by
  rw [State.applyDue, if_neg (Nat.not_lt.mpr h)]

theorem applyDue_early (h : p < e.c.esi) : s.applyDue loc p (e :: r) = (s, e :: r) := if_pos h

end

/-- Settles O44, by the keys of the changes. -/
theorem changesKeepOneOrder : Obligations.ChangesKeepOneOrder := by
  refine ⟨entryBefore_iff, fun e l h => insertEntry_ordered e h, fun a b l _ h => ?_,
    fun s loc p e r => ⟨applyDue_due s loc r, applyDue_early s loc r⟩⟩
  rcases h with h | h
  · exact insertEntry_comm (entryBefore_eq_true.mp h) l
  · exact (insertEntry_comm (entryBefore_eq_true.mp h) l).symm

end Sys2Proof.Machine
end

section
/-! PROOF. Mixes: the entries of table 0x08 after a reset, ramps, and the sample of an output (09, R366 to R376). -/

namespace Sys2Proof.Machine

-- table 0x08 at its reset content

theorem entry_of_tables_nil {s : State} (h : s.tables = []) (t i : Nat) : s.entry t i = tableReset (t * 0x10000 + i) := by
  rw [State.entry, h, sget_nil]

theorem tableReset_tap {i : Nat} (h : i < 4096) : tableReset (8 * 0x10000 + i) = [0x800003FF#32, 0] := by
  have htable : (8 * 0x10000 + i) / 0x10000 = 8 := by omega
  have hindex : (8 * 0x10000 + i) % 0x10000 = i := by omega
  simp [tableReset, htable, hindex, h]

theorem tableReset_output {o : Nat} (h : o < 328) : tableReset (8 * 0x10000 + (4096 + o)) = [] := by
  have htable : (8 * 0x10000 + (4096 + o)) / 0x10000 = 8 := by omega
  have hindex : ¬ (8 * 0x10000 + (4096 + o)) % 0x10000 < 4096 := by omega
  simp [tableReset, htable, hindex]

/-- An empty tap names no source, at the gain that is mute (R368). -/
theorem tap_of_tables_nil {s : State} (h : s.tables = []) {i : Nat} (hi : i < 2624) :
    tapSource (s.tw 8 i 0) = 0x3FF ∧ bits (s.tw 8 i 0) 16 16 = 0x8000 ∧ s.tw 8 i 1 = 0 := by
  simp only [State.tw, entry_of_tables_nil h, tableReset_tap (Nat.lt_trans hi (by decide : 2624 < 4096))]
  decide

theorem output_of_tables_nil {s : State} (h : s.tables = []) {o : Nat} (ho : o < 328) (k : Nat) : s.tw 8 (4096 + o) k = 0 := by
  rw [State.tw, entry_of_tables_nil h, tableReset_output ho]
  rfl

-- ramps (R372)

theorem rampNow_rampAt (b : Int) : rampNow (rampAt b) = b := rfl

theorem rampTo_zero (r : Ramp) (b : Int) : rampTo r b 0 = rampAt b := rfl

theorem rampNow_rampTo (r : Ramp) (b : Int) (l : Nat) : rampNow (rampTo r b l) = if l = 0 then b else rampNow r := by
  rcases Nat.eq_zero_or_pos l with rfl | h
  · rw [rampTo_zero, rampNow_rampAt, if_pos rfl]
  · rw [rampTo, if_neg h.ne', if_neg h.ne', rampNow, if_pos h]
    simp

/-- A ramp that has run its length stands at its target. -/
theorem rampSkip_of_le {r : Ramp} {k : Nat} (h : r.len ≤ r.n + k) : rampSkip r k = rampAt r.b := if_neg (Nat.not_lt.mpr h)

theorem rampNow_rampSkip_rampTo (r : Ramp) (b : Int) {l n : Nat} (h : l ≤ n) : rampNow (rampSkip (rampTo r b l) n) = b := by
  rcases Nat.eq_zero_or_pos l with rfl | hl
  · rw [rampTo_zero, rampSkip_of_le (Nat.zero_le _), rampNow_rampAt]
    rfl
  · rw [rampTo, if_neg hl.ne', rampSkip_of_le (by simpa using h), rampNow_rampAt]

-- the steps of a mix

/-- The state in which an output is summed: a new block has set its duck targets and begins without an active tap (R374 to R376). -/
def State.mixReady (s : State) (o : Nat) (newBlock skipped : Bool) : State :=
  (if newBlock then
    let s := s.duckOut o (if skipped then s.forcedTaps o else sget 0 s.aud.act o)
    s.setAud { s.aud with act := sput 0 o 0 s.aud.act }
  else s).undduck o

/-- The taps of an output summed, and those whose source is active (R370, R374). -/
def State.tapMix (s : State) (o : Nat) (src : Sparse Int) : Int × Nat :=
  s.mixTaps o (actLevel (sgn 16 (bits (s.tw 8 (4096 + o) 1) 0 16))) src

/-- A sum of taps at the output's gain, before it is saturated again (R370). -/
def State.atGain (s : State) (o : Nat) (sum : Int) : Int :=
  (sat32 (sum / 2 ^ 22) * lin (sgn 16 (bits (s.tw 8 (4096 + o) 0) 0 16))) / 2 ^ 22

/-- The state after an output is summed: clipping is counted, the active taps are kept, and the ramps advance (R370, R374). -/
def State.mixDone (s : State) (o : Nat) (m : Int × Nat) : State :=
  let s := if sat32 (m.1 / 2 ^ 22) ≠ m.1 / 2 ^ 22 ∨ sat32 (s.atGain o m.1) ≠ s.atGain o m.1 then s.inc (C.AUD_CLIP o) else s
  (s.setAud { s.aud with act := sput 0 o (sget 0 s.aud.act o ||| m.2 ||| s.forcedTaps o) s.aud.act }).stepRamps o

theorem mixOut_eq (s : State) (o : Nat) (nb sk : Bool) (src : Sparse Int) :
    let u := s.mixReady o nb sk
    s.mixOut o nb sk src = (u.mixDone o (u.tapMix o src), sat32 (u.atGain o (u.tapMix o src).1)) := by
  simp only [State.mixOut, State.mixReady, State.tapMix, State.atGain, State.mixDone]

-- what a mix leaves as it is

section
variable {γ : Type} {g : State → γ}

/-- What both branches leave as it is, the choice leaves. -/
theorem ite_frame {c : Prop} [Decidable c] {s t u : State} (ht : g t = g s) (hu : g u = g s) : g (if c then t else u) = g s := by
  split
  · exact ht
  · exact hu

section
variable (hblock : ∀ (s : State) (ducks : Sparse Ramp) (act pmax : Sparse Nat),
  g (s.setAud { s.aud with ducks := ducks, act := act, pmax := pmax }) = g s)
include hblock

theorem undduck_frame (s : State) (o : Nat) : g (s.undduck o) = g s := by
  unfold State.undduck
  split
  · exact foldl_frame g (fun u t => hblock u _ u.aud.act u.aud.pmax) _ s
  · rfl

theorem duckOut_frame (s : State) (o mask : Nat) : g (s.duckOut o mask) = g s := by
  refine (foldl_frame g (fun u t => ?_) _ _).trans (hblock s s.aud.ducks s.aud.act _)
  exact ite_frame rfl (hblock u _ u.aud.act u.aud.pmax)

theorem mixReady_frame (s : State) (o : Nat) (nb sk : Bool) : g (s.mixReady o nb sk) = g s := by
  refine (undduck_frame hblock _ o).trans ?_
  split
  · exact (hblock _ _ _ _).trans (duckOut_frame hblock s o _)
  · rfl

end

/-- A mix changes the clip counter of its output and, in AUD, the ramps, the activity and the priorities of its taps. -/
theorem mixOut_frame (hmix : ∀ (s : State) (gains ducks : Sparse Ramp) (act pmax : Sparse Nat),
      g (s.setAud { s.aud with gains := gains, ducks := ducks, act := act, pmax := pmax }) = g s)
    (hinc : ∀ (s : State) (c : Nat), g (s.inc c) = g s) (s : State) (o : Nat) (nb sk : Bool) (src : Sparse Int) :
    g (s.mixOut o nb sk src).1 = g s := by
  have hready : g (s.mixReady o nb sk) = g s := mixReady_frame (fun u => hmix u u.aud.gains) s o nb sk
  have hramps (u : State) : g (u.stepRamps o) = g u := foldl_frame g (fun v _ => hmix v _ _ v.aud.act v.aud.pmax) _ u
  rw [mixOut_eq, State.mixDone, hramps, hmix]
  exact (ite_frame (hinc ..) rfl).trans hready

end

-- samples (R370)

theorem sat32_bounds (x : Int) : sat32 x < 2 ^ 31 ∧ -(2 ^ 31) ≤ sat32 x := by
  unfold sat32 clampI
  split_ifs <;> omega

/-- The sample is saturated last. -/
theorem mixOut_bounds (s : State) (o : Nat) (nb sk : Bool) (src : Sparse Int) :
    (s.mixOut o nb sk src).2 < 2 ^ 31 ∧ -(2 ^ 31) ≤ (s.mixOut o nb sk src).2 := by
  rw [mixOut_eq]
  exact sat32_bounds _

theorem sat32_zero : sat32 0 = 0 := rfl

theorem atGain_zero (s : State) (o : Nat) : s.atGain o 0 = 0 := by
  rw [State.atGain, Int.zero_ediv, sat32_zero, zero_mul, Int.zero_ediv]

/-- A tap that is heard in no mix: it names no source, or its gain stands at 0. -/
def State.tapSilent (s : State) (i : Nat) : Prop := tapSource (s.tw 8 i 0) = 0x3FF ∨ rampNow (s.tapGain i) = 0

/-- A tap without a source adds nothing, and one whose gain stands at 0 adds 0. -/
theorem tapMix_zero {s : State} {o : Nat} (h : ∀ t, t < 8 → s.tapSilent (o * 8 + t)) (src : Sparse Int) : (s.tapMix o src).1 = 0 := by
  refine List.foldlRecOn (motive := fun a : Int × Nat => a.1 = 0) (List.range 8) _ rfl fun a ha t ht => ?_
  dsimp only
  split
  · exact ha
  · next hsrc =>
    have hgain := (h t (List.mem_range.mp ht)).resolve_left hsrc
    simp [ha, hgain]

/-- What a new block sets up leaves a silent tap silent. -/
theorem tapSilent_mixReady {s : State} {i : Nat} (h : s.tapSilent i) (o : Nat) (nb sk : Bool) : (s.mixReady o nb sk).tapSilent i := by
  rw [State.tapSilent, mixReady_frame (g := fun u => u.tw 8 i 0) (fun _ _ _ _ => rfl),
    mixReady_frame (g := fun u => u.tapGain i) (fun _ _ _ _ => rfl)]
  exact h

theorem mixOut_silent {s : State} {o : Nat} (h : ∀ t, t < 8 → s.tapSilent (o * 8 + t)) (nb sk : Bool) (src : Sparse Int) :
    (s.mixOut o nb sk src).2 = 0 := by
  rw [mixOut_eq, tapMix_zero (fun t ht => tapSilent_mixReady (h t ht) o nb sk), atGain_zero, sat32_zero]

/-- Settles O45: samples are saturated last, and a mix of nothing is 0. -/
theorem mixesAreBoundedAndSilent : Obligations.MixesAreBoundedAndSilent := by
  refine ⟨fun s h i hi => tap_of_tables_nil h hi, fun s h o ho => ⟨output_of_tables_nil h ho 0, output_of_tables_nil h ho 1⟩,
    fun s o nb sk src => ?mix, fun r b l => ⟨rampNow_rampTo r b l, fun n hn => rampNow_rampSkip_rampTo r b hn⟩⟩
  obtain ⟨hlt, hge⟩ := mixOut_bounds s o nb sk src
  exact ⟨hlt, hge, mixOut_frame (g := State.mem) (fun _ _ _ _ _ => rfl) (fun _ _ => rfl) s o nb sk src,
    mixOut_frame (g := State.tables) (fun _ _ _ _ _ => rfl) (fun _ _ => rfl) s o nb sk src,
    mixOut_frame (g := fun u => u.aud.queue) (fun _ _ _ _ _ => rfl) (fun _ _ => rfl) s o nb sk src,
    fun h => mixOut_silent (fun t ht => .inl (h t ht)) nb sk src, fun h => mixOut_silent (fun t ht => .inr (h t ht)) nb sk src⟩

end Sys2Proof.Machine
end

section
/-! PROOF. What a command makes of a scheduled change: the refusals, and a change that is queued and mirrored (09, R377 to R380). -/

namespace Sys2Proof.Machine

-- a message to the partner leaves AUD as it is

@[simp] theorem linkJob_aud (s : State) : s.linkJob.aud = s.aud := by
  obtain ⟨r, hr⟩ := linkJob_changes s
  rw [hr]

@[simp] theorem emit_aud (s : State) (vc : Nat) (m : LinkMsg) : (s.emit vc m).aud = s.aud := by
  unfold State.emit
  extract_lets q src q' u
  have hu : u.aud = s.aud := linkJob_aud _
  exact ite_frame (s := s) (g := State.aud) ((inc_aud ..).trans hu) hu

@[simp] theorem linkSend_aud (s : State) (vc : Nat) (m : LinkMsg) : (s.linkSend vc m).aud = s.aud :=
  ite_frame rfl (ite_frame (emit_aud ..) (setQlb_aud ..))

@[simp] theorem mirror_aud (s : State) (m : LinkMsg) : (s.mirror m).aud = s.aud := ite_frame (linkSend_aud ..) rfl

-- changes

/-- The change of a kind that the staged registers hold for an index (R377). -/
def State.stagedChange (s : State) (kind index : Nat) : AudChange :=
  ⟨kind, index, s.pair R.AUD_CHG_ESI_LO R.AUD_CHG_ESI_HI, s.reg R.AUD_STAGE0, s.reg R.AUD_STAGE1⟩

theorem finish_chgCmd {s : State} (h : s.writable R.AUD_CHG_CMD) (kind index : Nat) :
    finish (s.regLive R.AUD_CHG_CMD (fun s => s.chgCmd kind index)) = .next (settle (s.commitChange (s.stagedChange kind index))) :=
  finish_regLive h _

theorem changeValid_iff (c : AudChange) : changeValid c = true ↔
    (c.kind = 0 ∧ c.index < 2624) ∨ (c.kind = 1 ∧ c.index < 328) ∨ (c.kind = 2 ∧ c.index < 8) ∨
      (c.kind = 3 ∧ c.index < 8) ∨ (c.kind = 4 ∧ c.index = 0 ∧ c.w0.toNat % 256 ≤ 120) ∨ (c.kind = 5 ∧ c.index < 64) := by
  obtain ⟨kind, index, esi, w0, w1⟩ := c
  match kind with
  | 0 | 1 | 2 | 3 | 5 => simp [changeValid]
  | 4 =>
    simp only [changeValid, Bool.and_eq_true, decide_eq_true_eq]
    simp [bits]
  | _ + 6 => simp [changeValid]

/-- A change refused: its RESULT, its counter, and the event (R378, R380). -/
def State.changeRefused (s : State) (result counter : Nat) : State :=
  ((s.wr F.AUD_CHG_STATUS_RESULT result).inc counter).raise 0x0901 0

section
variable {s : State} {c : AudChange}

theorem commitChange_invalid (hv : changeValid c = false) : s.commitChange c = s.changeRefused 3 C.AUD_CHG_INVALID :=
  if_pos (by simp [hv])

variable (hv : changeValid c = true)
include hv

theorem commitChange_late (ht : c.esi < s.clk.esi + 96) : s.commitChange c = s.changeRefused 1 C.AUD_CHG_LATE := by
  rw [State.commitChange, if_neg (not_not.mpr hv), if_pos ht, State.changeRefused]

variable (ht : s.clk.esi + 96 ≤ c.esi)
include ht

theorem commitChange_full (hq : 192 ≤ (s.aud.queue.filter (·.own)).length ∨ 256 ≤ s.aud.queue.length) :
    s.commitChange c = s.changeRefused 2 C.AUD_CHG_FULL := by
  rw [State.commitChange, if_neg (not_not.mpr hv), if_neg ht.not_gt, if_pos hq, State.changeRefused]

variable (hown : (s.aud.queue.filter (·.own)).length < 192) (hall : s.aud.queue.length < 256)
include hown hall

theorem commitChange_taken :
    s.commitChange c = ((s.wr F.AUD_CHG_STATUS_RESULT 0).enqueueChange c s.unitB true).mirror (.audChange c) := by
  rw [State.commitChange, if_neg (not_not.mpr hv), if_neg ht.not_gt, if_neg (by omega)]

/-- The queue of a taken change: the change of this unit, put in its place. -/
theorem commitChange_queue :
    (s.commitChange c).aud.queue = insertEntry ⟨c, s.unitB, true, s.aud.seq, none, false⟩ s.aud.queue := by
  rw [commitChange_taken hv ht hown hall, mirror_aud]
  rfl

theorem commitChange_queued : (s.commitChange c).aud.queue.length = s.aud.queue.length + 1 ∧
    (∃ e ∈ (s.commitChange c).aud.queue, e.c = c ∧ e.own = true) ∧ (∀ e ∈ s.aud.queue, e ∈ (s.commitChange c).aud.queue) := by
  rw [commitChange_queue hv ht hown hall]
  exact ⟨(insertEntry_perm ..).length_eq, ⟨_, mem_insertEntry.mpr (.inl rfl), rfl, rfl⟩, fun e he => mem_insertEntry.mpr (.inr he)⟩

end

end Sys2Proof.Machine
end

section
/-! PROOF. The other commands of the audio crosspoint: AUD_COMMIT, the write index of an engine playback, CLEAR of a listener, and the
frames that reach a listener (09, R371, R384 to R391, R416, R417). -/

namespace Sys2Proof.Machine

-- AUD_COMMIT (R371)

section
variable {s : State} {i : Nat}

theorem exec_audCommit (h : s.writable R.AUD_COMMIT) (i : BitVec 13) :
    exec (.audCommit i) s = .next (settle (s.audCommit i.toNat)) := finish_regLive h _

theorem audCommit_tap (h : i < 2624) : s.audCommit i = s.setTap i (s.reg R.AUD_STAGE0) (s.reg R.AUD_STAGE1) := if_pos h

theorem audCommit_output (hlo : 4096 ≤ i) (hhi : i < 4424) :
    s.audCommit i = s.setEntry 8 i [s.reg R.AUD_STAGE0, s.reg R.AUD_STAGE1] := by
  rw [State.audCommit, if_neg (by omega), if_pos ⟨hlo, hhi⟩]

theorem audCommit_ignored (h : (2624 ≤ i ∧ i < 4096) ∨ 4424 ≤ i) : s.audCommit i = s := by
  rw [State.audCommit, if_neg (by omega), if_neg (by omega)]

end

-- registers written by the access types of their fields

theorem writeFields_aud (s : State) (a v : Nat) : (s.writeFields a v).aud = s.aud := by
  obtain ⟨r, h⟩ := writeFields_eq s a v
  rw [h]

/-- A register that is RW in all its bits takes what is written (R11). -/
theorem writtenValue_rw {r : RegRow} (hrw : r.mask (fun a => a == .rw || a == .rws) = 2 ^ 32 - 1) (hc : r.mask (fun a => a == .w1c) = 0)
    {old : Nat} (hold : old < 2 ^ 32) (v : Nat) : writtenValue r old v = v % 2 ^ 32 := by
  simp only [writtenValue, hrw, hc, Nat.and_two_pow_sub_one_eq_mod, Nat.mod_eq_of_lt hold, Nat.sub_self, Nat.zero_or, Nat.and_zero,
    Nat.sub_zero]

-- the write index of an engine playback (R417)

theorem regRow_wrEsiHi : ∀ n : Fin 8, regRow? (R.AUD_EP_WR_ESI_HI n) = some ⟨0x20902B0C, [(0x10, 8)], [⟨0, 32, .rw, 0x0⟩], []⟩ := by
  decide +kernel

theorem regN_writeFields_wrEsiHi (s : State) (n : Fin 8) (v : Word) :
    (s.writeFields (R.AUD_EP_WR_ESI_HI n) v.toNat).regN (R.AUD_EP_WR_ESI_HI n) = v.toNat := by
  rw [State.writeFields, regRow_wrEsiHi]
  dsimp only
  rw [regN_setRegN_same, writtenValue_rw (by decide) (by decide) (regN_lt s _), Nat.mod_mod, Nat.mod_eq_of_lt v.isLt]

theorem exec_wrEsiHiWrite {s : State} {n : Fin 8} (h : s.writable (R.AUD_EP_WR_ESI_HI n)) (v : Word) :
    exec (.wrEsiHiWrite n v) s = .next (settle (s.wrEsiHi n v.toNat)) := finish_regLive h _

theorem wrEsiHi_wr (s : State) (n : Fin 8) (v : Word) :
    sget 0 (s.wrEsiHi n v.toNat).aud.wr n = v.toNat * 2 ^ 32 + s.regN (R.AUD_EP_WR_ESI_LO n) := by
  have hlo : (s.writeFields (R.AUD_EP_WR_ESI_HI n) v.toNat).regN (R.AUD_EP_WR_ESI_LO n) = s.regN (R.AUD_EP_WR_ESI_LO n) :=
    congrArg BitVec.toNat (reg_writeFields_ne s (by unfold R.AUD_EP_WR_ESI_LO R.AUD_EP_WR_ESI_HI; omega) _)
  refine (sget_sput_same ..).trans ?_
  rw [State.pair, regN_writeFields_wrEsiHi, hlo]

theorem wrEsiHi_queue (s : State) (n v : Nat) : (s.wrEsiHi n v).aud.queue = s.aud.queue := by
  rw [← writeFields_aud s (R.AUD_EP_WR_ESI_HI n) v]
  rfl

theorem wrEsiHi_mem (s : State) (n v : Nat) : (s.wrEsiHi n v).mem = s.mem := writeFields_mem ..

-- CLEAR of a listener (R416)

theorem exec_marginClear {s : State} {l : Fin 64} (h : s.writable (R.AUD_L_CFG l)) (v : Word) :
    exec (.marginClear l v) s = .next (settle (s.marginClear l v.toNat)) := finish_regLive h _

/-- A listener's least margin and its bins at the start of a measurement. -/
def State.marginCleared (s : State) (l : Nat) : State :=
  (List.range 8).foldl (fun s b => s.setRegN (R.AUD_L_BIN l b) 0) (s.setRegN (R.AUD_L_MARGIN_MIN l) 0x7FFFFFFF)

theorem marginClear_set (s : State) (l : Nat) {v : Nat} (h : v.testBit 31 = true) :
    s.marginClear l v = ((s.writeFields (R.AUD_L_CFG l) v).marginCleared l).raise 0x0905 0 := if_pos h

theorem marginClear_unset (s : State) (l : Nat) {v : Nat} (h : v.testBit 31 = false) :
    s.marginClear l v = s.writeFields (R.AUD_L_CFG l) v := if_neg (by simp [h])

theorem marginCleared_min (s : State) (l : Nat) : (s.marginCleared l).regN (R.AUD_L_MARGIN_MIN l) = 0x7FFFFFFF := by
  refine (foldl_frame (fun u : State => u.regN (R.AUD_L_MARGIN_MIN l)) (fun u b => regN_setRegN_ne u ?_ 0) _ _).trans
    (regN_setRegN_same s _ 0x7FFFFFFF)
  unfold R.AUD_L_MARGIN_MIN R.AUD_L_BIN
  omega

theorem marginCleared_bin (s : State) (l : Nat) {b : Nat} (hb : b < 8) : (s.marginCleared l).regN (R.AUD_L_BIN l b) = 0 :=
  foldl_of_step (P := fun u : State => u.regN (R.AUD_L_BIN l b) = 0) (List.mem_range.mpr hb) (fun u => regN_setRegN_same u _ 0)
    (fun _ _ hu => regN_setRegN_zero hu _) _

theorem marginCleared_aud (s : State) (l : Nat) : (s.marginCleared l).aud = s.aud :=
  foldl_frame State.aud (fun u _ => setRegN_aud u _ 0) _ _

-- frames of listeners (R384 to R391)

theorem exec_listenerFrame {s : State} (ha : s.alive = true) : exec .listenerFrame s = .next (settle s.listenerFrame) := finish_live ha _

/-- The next frame of a stream whose channel hands its frames to AUD goes to its listener (R384). -/
theorem listenerFrame_cons {s : State} {pk : Pkt} {r : List Pkt} {h : Nat} (hout : s.out25 = pk :: r) (hsc : pk.sc = some h)
    (haud : s.scf h 0 1 3 = 2) : s.listenerFrame = { s with out25 := r }.listen pk.listener pk.data := by
  rw [State.listenerFrame, hout]
  dsimp only
  rw [hsc]
  exact if_pos haud

theorem listenerFrame_nil {s : State} (hout : s.out25 = []) : s.listenerFrame = s := by rw [State.listenerFrame, hout]

theorem wtFree_eq_true {s : State} : s.wtFree = true ↔ s.wtState = 0 := beq_iff_eq

section
variable {s : State} {l : Nat} {d : List Byte}

theorem listen_unmapped (hch : s.listenerCh l = none) : s.listen l d = s.inc (C.AUD_L_FORMAT_ERR l) := by rw [State.listen, hch]

variable {ch : Nat} (hch : s.listenerCh l = some ch)
include hch

theorem listen_badFormat (hfmt : s.aafCheck l ch d = none) : s.listen l d = s.inc (C.AUD_L_FORMAT_ERR l) := by
  simp only [State.listen, hch, hfmt]

variable {len : Nat} (hfmt : s.aafCheck l ch d = some len)
include hfmt

theorem listen_free (hwt : s.wtState = 0) : s.listen l d = s.inc (C.AUD_L_TS_MISALIGN l) := by
  simp only [State.listen, hch, hfmt, wtFree_eq_true.mpr hwt, if_true]

variable (hwt : s.wtState ≠ 0)
include hwt

theorem listen_empty (hlen : len = 0) : s.listen l d =
    ((s.inc (C.AUD_L_FRAMES l)).inc (C.AUD_L_EMPTY l)).marginSample l (nearestIndex s.clk.esi (fld d 26 4)) := by
  simp only [State.listen, hch, hfmt, wtFree_eq_true, if_neg hwt, if_pos hlen]

variable (hlen : len ≠ 0)
include hlen

theorem listen_misaligned (hk : firstIndex s.clk.esi (fld d 26 4) = none) : s.listen l d = s.inc (C.AUD_L_TS_MISALIGN l) := by
  simp only [State.listen, hch, hfmt, wtFree_eq_true, if_neg hwt, if_neg hlen, hk]

theorem listen_samples {k : Int} (hk : firstIndex s.clk.esi (fld d 26 4) = some k) :
    s.listen l d = ((s.inc (C.AUD_L_FRAMES l)).niFrame l ch len k d).marginSample l k := by
  simp only [State.listen, hch, hfmt, wtFree_eq_true, if_neg hwt, if_neg hlen, hk]

end

/-- Settles O43, command by command. -/
theorem audioCommands : Obligations.AudioCommands := by
  refine ⟨fun s i h => ?staged, fun s c => ?change, fun s i h => ?commit, fun s n v h => ?write, fun s l v h => ?clear,
    fun s pk r h ha hout hsc haud => ?frame⟩
  case staged =>
    exact ⟨finish_chgCmd h 0 _, finish_chgCmd h 1 _, finish_chgCmd h 2 _, finish_chgCmd h 3 _, finish_chgCmd h 4 _, finish_chgCmd h 5 _⟩
  case change =>
    exact ⟨commitChange_invalid, commitChange_late, commitChange_full,
      fun hv ht hown hall => ⟨commitChange_taken hv ht hown hall, commitChange_queued hv ht hown hall⟩, changeValid_iff c⟩
  case commit =>
    rw [exec_audCommit h]
    exact ⟨fun hi => by rw [audCommit_tap hi], fun hlo hhi => by rw [audCommit_output hlo hhi], fun hi => by rw [audCommit_ignored hi]⟩
  case write =>
    exact ⟨s.wrEsiHi n v.toNat, exec_wrEsiHiWrite h v, wrEsiHi_wr s n v, wrEsiHi_queue s n _, wrEsiHi_mem s n _⟩
  case clear =>
    rw [exec_marginClear h]
    refine ⟨fun hv => by rw [marginClear_unset s l hv], fun hv => ⟨(s.writeFields (R.AUD_L_CFG l) v.toNat).marginCleared l, ?_,
      marginCleared_min _ l, fun b hb => marginCleared_bin _ l hb, (marginCleared_aud _ l).trans (writeFields_aud ..)⟩⟩
    rw [marginClear_set s l hv]
  case frame =>
    refine ⟨?_, ?_, listen_unmapped (s := { s with out25 := r }), fun ch => listen_badFormat (s := { s with out25 := r }),
      fun ch len hch hfmt => ⟨?_, ?_, ?_, fun k => ?_⟩⟩
    · rw [exec_listenerFrame ha, listenerFrame_cons hout hsc haud]
    · exact (exec_listenerFrame (s := { s with out25 := [] }) ha).trans (by rw [listenerFrame_nil rfl])
    · exact listen_free (s := { s with out25 := r }) hch hfmt
    · exact listen_empty (s := { s with out25 := r }) hch hfmt
    · exact listen_misaligned (s := { s with out25 := r }) hch hfmt
    · exact fun hwt hlen => listen_samples (s := { s with out25 := r }) hch hfmt hwt hlen

end Sys2Proof.Machine
end

section
/-! PROOF. The element of a CAN frame (10, R431, Table 10-3): the words and the fields of its header, and the frame that it gives back. -/

namespace Sys2Proof.Machine

-- the words of an element

/-- The first word of an element that begins with it. -/
theorem elemWord_zero (v : Nat) (r : List Byte) : elemWord (leBytes 4 v ++ r) 0 = v % 2 ^ 32 := by
  rw [elemWord, Nat.mul_zero, List.drop_zero, List.take_left' (length_leBytes 4 v), leNat_leBytes]

theorem elemWord_succ (v : Nat) (r : List Byte) (k : Nat) : elemWord (leBytes 4 v ++ r) (k + 1) = elemWord r k := by
  rw [elemWord, show 4 * (k + 1) = (leBytes 4 v).length + 4 * k by rw [length_leBytes]; omega, List.drop_length_add_append, elemWord]

theorem le_pad8 (n : Nat) : n ≤ pad8 n := by unfold pad8; omega

-- the second word: the length code and the flags of the format

/-- The second word of a frame's element (Table 10-3). -/
def headerWord (f : CanFrame) (gap : Bool) : Nat :=
  f.dlc.toNat + b2n gap * 2 ^ 11 + b2n f.fdf * 2 ^ 12 + b2n f.xlf * 2 ^ 13 + b2n f.brs * 2 ^ 14 + b2n f.esi * 2 ^ 15 +
    b2n f.rtr * 2 ^ 16 + b2n f.ide * 2 ^ 17 + b2n f.rrs * 2 ^ 18 + b2n f.sec * 2 ^ 19 + f.sdt.toNat * 2 ^ 24

theorem bits_eq_div_mod (v lo w : Nat) : bits v lo w = v / 2 ^ lo % 2 ^ w := by rw [bits, Nat.shiftRight_eq_div_pow]

theorem testBit_of_div_mod {v k : Nat} {b : Bool} (h : v / 2 ^ k % 2 = b2n b) : v.testBit k = b := by
  rw [Nat.testBit_eq_decide_div_mod_eq, h, decide_b2n_eq_one]

/-- Each field of the second word lies in bits of its own. -/
theorem headerWord_fields (f : CanFrame) (gap : Bool) : let w := headerWord f gap
    w < 2 ^ 32 ∧ bits w 0 11 = f.dlc.toNat ∧ w.testBit 11 = gap ∧ w.testBit 12 = f.fdf ∧ w.testBit 13 = f.xlf ∧
      w.testBit 14 = f.brs ∧ w.testBit 15 = f.esi ∧ w.testBit 16 = f.rtr ∧ w.testBit 17 = f.ide ∧ w.testBit 18 = f.rrs ∧
      w.testBit 19 = f.sec ∧ bits w 24 8 = f.sdt.toNat := by
  have hdlc := f.dlc.isLt
  have hsdt := f.sdt.isLt
  have hgap := b2n_le_one gap
  have hfdf := b2n_le_one f.fdf
  have hxlf := b2n_le_one f.xlf
  have hbrs := b2n_le_one f.brs
  have hesi := b2n_le_one f.esi
  have hrtr := b2n_le_one f.rtr
  have hide := b2n_le_one f.ide
  have hrrs := b2n_le_one f.rrs
  have hsec := b2n_le_one f.sec
  simp only [bits_eq_div_mod, headerWord]
  refine ⟨?_, ?_, testBit_of_div_mod ?_, testBit_of_div_mod ?_, testBit_of_div_mod ?_, testBit_of_div_mod ?_, testBit_of_div_mod ?_,
    testBit_of_div_mod ?_, testBit_of_div_mod ?_, testBit_of_div_mod ?_, testBit_of_div_mod ?_, ?_⟩ <;> omega

-- frames without the fields that their format does not have

theorem plainFrame_ident_ext {g : CanFrame} (hide : g.ide = true) (hxlf : g.xlf = false) :
    (plainFrame g).ide = true ∧ (plainFrame g).ident = g.ident := by
  simp [plainFrame, hide, hxlf]

theorem plainFrame_ident_base {g : CanFrame} (h : g.ide = false ∨ g.xlf = true) :
    (plainFrame g).ide = false ∧ (plainFrame g).ident.toNat = g.ident.toNat % 2 ^ 11 := by
  rcases h with h | h <;> simp [plainFrame, h]

theorem umod_umod {n : Nat} (a b : BitVec n) : a % b % b = a % b := by
  apply BitVec.eq_of_toNat_eq
  simp only [BitVec.toNat_umod, Nat.mod_mod]

theorem plainFrame_idem (g : CanFrame) : plainFrame (plainFrame g) = plainFrame g := by
  cases hide : g.ide <;> cases hxlf : g.xlf <;> cases hfdf : g.fdf <;> simp [plainFrame, hide, hxlf, hfdf, umod_umod]

/-- A base identifier has 11 bits. -/
theorem plainFrame_ident_lt {g : CanFrame} (h : (plainFrame g).ide = false) : (plainFrame g).ident.toNat < 2 ^ 11 := by
  have hformat : g.ide = false ∨ g.xlf = true := by
    cases hide : g.ide <;> cases hxlf : g.xlf <;> simp_all [plainFrame]
  rw [(plainFrame_ident_base hformat).2]
  exact Nat.mod_lt _ (by decide)

/-- The bits of the first word that a frame's format takes are its identifier. -/
theorem identBits_plainFrame (g : CanFrame) : BitVec.ofNat 29 (if (plainFrame g).ide = true then bits (plainFrame g).ident.toNat 0 29
    else bits (plainFrame g).ident.toNat 0 11) = (plainFrame g).ident := by
  have hbits {w : Nat} (h : (plainFrame g).ident.toNat < 2 ^ w) :
      BitVec.ofNat 29 (bits (plainFrame g).ident.toNat 0 w) = (plainFrame g).ident := by
    rw [bits_eq_div_mod, pow_zero, Nat.div_one, Nat.mod_eq_of_lt h, BitVec.ofNat_toNat, BitVec.setWidth_eq]
  split
  case isTrue => exact hbits (plainFrame g).ident.isLt
  case isFalse hide => exact hbits (plainFrame_ident_lt (Bool.eq_false_iff.mpr hide))

-- the element of a frame

section
/-- The data words of an element, with their padding (R431). -/
def elemData (f : CanFrame) : List Byte := f.data ++ zeros (pad8 f.data.length - f.data.length)

/-- The data of a frame are as long as its length code says (R431). -/
def dataFits (f : CanFrame) : Prop := f.data.length = dataLen f.fdf f.xlf f.rtr f.dlc.toNat

variable {g : CanFrame} (h : dataFits (plainFrame g)) (gap : Bool) (filter tag ns sec : Nat)
include h

theorem frameElem_eq : frameElem g gap filter tag ns sec =
    leBytes 4 (plainFrame g).ident.toNat ++ (leBytes 4 (headerWord (plainFrame g) gap) ++ (leBytes 4 (plainFrame g).af.toNat ++
      (leBytes 4 ((plainFrame g).vcid.toNat + filter * 256 + tag * 65536) ++ (leBytes 4 ns ++ (leBytes 4 sec ++
        elemData (plainFrame g)))))) := by
  simp only [frameElem, headerWord, elemData, ← show _ = _ from h, List.take_left, List.append_assoc]

theorem frameElem_ident : elemWord (frameElem g gap filter tag ns sec) 0 = (plainFrame g).ident.toNat := by
  rw [frameElem_eq h, elemWord_zero, Nat.mod_eq_of_lt ((plainFrame g).ident.isLt.trans (by decide))]

theorem frameElem_header : elemWord (frameElem g gap filter tag ns sec) 1 = headerWord (plainFrame g) gap := by
  rw [frameElem_eq h, elemWord_succ, elemWord_zero, Nat.mod_eq_of_lt (headerWord_fields _ gap).1]

theorem frameElem_af : elemWord (frameElem g gap filter tag ns sec) 2 = (plainFrame g).af.toNat := by
  rw [frameElem_eq h, elemWord_succ, elemWord_succ, elemWord_zero, Nat.mod_eq_of_lt (plainFrame g).af.isLt]

variable {filter tag} in
theorem frameElem_word3 (hfilter : filter < 256) (htag : tag < 65536) :
    bits (elemWord (frameElem g gap filter tag ns sec) 3) 0 8 = (plainFrame g).vcid.toNat ∧
      bits (elemWord (frameElem g gap filter tag ns sec) 3) 16 16 = tag := by
  have hvcid := (plainFrame g).vcid.isLt
  rw [frameElem_eq h, elemWord_succ, elemWord_succ, elemWord_succ, elemWord_zero, bits_eq_div_mod, bits_eq_div_mod]
  omega

theorem frameElem_data : ((frameElem g gap filter tag ns sec).drop 24).take (plainFrame g).data.length = (plainFrame g).data := by
  rw [frameElem_eq h]
  simp only [← List.append_assoc]
  rw [List.drop_left' (by simp), elemData, List.take_left]

/-- An element is as long as its header says (R431). -/
theorem frameElem_length : elemLen (elemWord (frameElem g gap filter tag ns sec) 1) = (frameElem g gap filter tag ns sec).length := by
  obtain ⟨-, hdlc, -, hfdf, hxlf, -, -, hrtr, -⟩ := headerWord_fields (plainFrame g) gap
  have hpad := le_pad8 (plainFrame g).data.length
  rw [frameElem_header h, elemLen, hdlc, hfdf, hxlf, hrtr, ← show _ = _ from h, frameElem_eq h]
  simp only [elemData, zeros, List.length_append, length_leBytes, List.length_replicate]
  omega

/-- The element of a frame gives the frame back (Table 10-3). -/
theorem elemFrame_frameElem (hfilter : filter < 256) (htag : tag < 65536) :
    elemFrame (frameElem g gap filter tag ns sec) = plainFrame g := by
  obtain ⟨-, hdlc, -, hfdf, hxlf, hbrs, hesi, hrtr, hide, hrrs, hsec, hsdt⟩ := headerWord_fields (plainFrame g) gap
  simp only [elemFrame, frameElem_ident h, frameElem_header h, frameElem_af h, (frameElem_word3 h gap ns sec hfilter htag).1,
    hdlc, hfdf, hxlf, hbrs, hesi, hrtr, hide, hrrs, hsec, hsdt, ← show _ = _ from h, frameElem_data h, identBits_plainFrame,
    BitVec.ofNat_toNat, BitVec.setWidth_eq]
  exact plainFrame_idem g

end

/-- Settles O48, from the fields of the element's words. -/
theorem canElementsHoldTheirFrames : Obligations.CanElementsHoldTheirFrames := by
  intro g gap filter tag ns sec f h hfilter htag
  refine ⟨elemFrame_frameElem h gap filter tag ns sec hfilter htag, frameElem_length h gap filter tag ns sec,
    (frameElem_word3 h gap ns sec hfilter htag).2, ?_, rfl, rfl, rfl, plainFrame_ident_ext, plainFrame_ident_base⟩
  obtain ⟨-, -, hgap, -⟩ := headerWord_fields (plainFrame g) gap
  rw [frameElem_header h, hgap]

end Sys2Proof.Machine
end

section
/-! PROOF. What the operations of a CAN controller read and leave: its parts beside the registers, the end of a frame in a transmit
buffer, the winner of an arbitration, and a fail-silence, which touches TB_STATUS alone (10, R433, R438, R441; 16, R664, R671). -/

namespace Sys2Proof.Machine

-- a controller beside its registers

@[simp] theorem canC_modCan_same (s : State) (n : Nat) (f : CanC → CanC) : (s.modCan n f).canC n = f (s.canC n) := sget_sput_same ..

@[simp] theorem canC_setRegN (s : State) (n a v : Nat) : (s.setRegN a v).canC n = s.canC n := rfl

@[simp] theorem canC_wr (s : State) (n : Nat) (f : Fld) (v : Nat) : (s.wr f v).canC n = s.canC n := rfl

@[simp] theorem regN_modCan (s : State) (n a : Nat) (f : CanC → CanC) : (s.modCan n f).regN a = s.regN a := rfl

@[simp] theorem regN_setFill (s : State) (n r v a : Nat) : (s.setFill n r v).regN a = s.regN a := rfl

theorem regN_of_regs {s t : State} {a : Nat} (h : t.regs = s.regs) : t.regN a = s.regN a := by
  rw [State.regN, State.regN, State.reg, State.reg, h]

theorem on_of_regN {s t : State} {f : Fld} (h : t.regN f.addr = s.regN f.addr) : t.on f = s.on f := by
  rw [State.on, State.on, rd_of_regN h]

-- the end of a frame in a transmit buffer (R433, R441)

theorem regN_raiseLost (s : State) {a : Nat} (h : a ≠ R.TSU_EVENT) : s.raiseLost.regN a = s.regN a :=
  regN_raiseFull_ne _ _ _ _ _ _ _ _ fun f hf => by cases hf; exact h

theorem regN_ite {s t u : State} {a : Nat} {c : Prop} [Decidable c] (ht : t.regN a = s.regN a) (hu : u.regN a = s.regN a) :
    (if c then t else u).regN a = s.regN a := by
  split
  · exact ht
  · exact hu

theorem regN_txEvent (s : State) {n a : Nat} (hlost : a ≠ C.CAN_TXEV_LOST n) (hevent : a ≠ R.TSU_EVENT) (k status tag : Nat)
    (sof : Option (Nat × Nat)) : (s.txEvent n k status tag sof).regN a = s.regN a := by
  have hinc (u : State) (b : Bool) : (if b then u.inc (C.CAN_TXEV_LOST n) else u).regN a = u.regN a :=
    regN_ite (regN_inc_ne u hlost) rfl
  exact regN_ite ((regN_raiseLost _ hevent).trans (hinc ..)) (hinc ..)

theorem regN_fqPop (s : State) {n k a : Nat} (h : a ≠ ringGet n k) : (s.fqPop n k).regN a = s.regN a := regN_setRegN_ne s h _

/-- A register that the end of a frame in TBk of controller `n` leaves as it is, but for what TB_STATUS shows of TBk. -/
def endAside (n k a : Nat) : Prop := a ≠ ringGet n k ∧ a ≠ C.CAN_TXEV_LOST n ∧ a ≠ R.TSU_EVENT

theorem endAside_low {n a : Nat} (k : Nat) (hlo : R.CAN_CTRL n ≤ a) (hhi : a ≤ R.CAN_TB_STATUS n) : endAside n k a := by
  unfold R.CAN_CTRL at hlo
  unfold R.CAN_TB_STATUS at hhi
  unfold endAside ringGet R.CAN_FQ_GET R.CAN_RXQ_GET C.CAN_TXEV_LOST R.TSU_EVENT
  split <;> omega

theorem endAside_qlbStatus (n : Fin 16) {k : Nat} (hk : k < 3) : endAside n k R.QLB_STATUS := by
  rw [endAside, ringGet, if_pos hk]
  unfold R.CAN_FQ_GET C.CAN_TXEV_LOST R.TSU_EVENT R.QLB_STATUS
  omega

theorem retire_none {s : State} {n k : Nat} (h : s.canTb n k = none) (status : Nat) : s.retire n k status = s := by
  rw [State.retire, h]

theorem retire_some {s : State} {n k : Nat} {t : CanTb} (h : s.canTb n k = some t) (status : Nat) : s.retire n k status =
    (((s.setTb n k none).wr (F.CAN_TB_STATUS_STARTED n k) 0).fqPop n k).txEvent n k status (bits (elemWord t.elem 3) 16 16) t.sof := by
  rw [State.retire, h]

theorem regN_retire (s : State) {n k a : Nat} (h : endAside n k a) (htb : a ≠ R.CAN_TB_STATUS n) (status : Nat) :
    (s.retire n k status).regN a = s.regN a := by
  obtain ⟨hget, hlost, hevent⟩ := h
  cases ht : s.canTb n k with
  | none => rw [retire_none ht]
  | some t => rw [retire_some ht, regN_txEvent _ hlost hevent, regN_fqPop _ hget, regN_wr_ne _ _ htb, State.setTb, regN_wr_ne _ _ htb,
      regN_modCan]

/-- The end of a frame in one transmit buffer leaves the others started or not. -/
theorem started_retire (s : State) (n : Nat) {k j : Nat} (hj : j < 3) (h : j ≠ k) (status : Nat) :
    (s.retire n k status).on (F.CAN_TB_STATUS_STARTED n j) = s.on (F.CAN_TB_STATUS_STARTED n j) := by
  obtain ⟨hget, hlost, hevent⟩ : endAside n k (R.CAN_TB_STATUS n) := endAside_low k (Nat.add_le_add_right (by decide) _) le_rfl
  have hwr (u : State) {f : Fld} (hf : f.addr = R.CAN_TB_STATUS n) (hlo : f.lo + f.w ≤ 4 * j + 1 ∨ 4 * j + 2 ≤ f.lo) (v : Nat) :
      (u.wr f v).on (F.CAN_TB_STATUS_STARTED n j) = u.on (F.CAN_TB_STATUS_STARTED n j) :=
    on_wr_other u f _ (show 4 * j + 1 + 1 ≤ 32 by omega) v (.inr hlo)
  cases ht : s.canTb n k with
  | none => rw [retire_none ht]
  | some t =>
    rw [retire_some ht, on_of_regN (regN_txEvent _ hlost hevent ..), on_of_regN (regN_fqPop _ hget), hwr _ rfl, State.setTb, hwr _ rfl]
    · rfl
    · show 4 * k + 0 + 1 ≤ _ ∨ _ ≤ 4 * k + 0
      omega
    · show 4 * k + 1 + 1 ≤ _ ∨ _ ≤ 4 * k + 1
      omega

-- the winner of an arbitration (R438)

theorem arbWinner_congr {s t : State} {n : Nat} (h : ∀ k, t.canTb n k = s.canTb n k) (l : List Nat) :
    t.arbWinner n l = s.arbWinner n l := by
  induction l with
  | nil => rfl
  | cons k r ih => rw [State.arbWinner, State.arbWinner, h, ih]

theorem arbWinner_eq_none {s : State} {n : Nat} {l : List Nat} (h : s.arbWinner n l = none) : ∀ j ∈ l, s.canTb n j = none := by
  induction l with
  | nil => exact fun _ hj => absurd hj List.not_mem_nil
  | cons k r ih =>
    cases hk : s.canTb n k <;> cases hr : s.arbWinner n r <;> simp only [State.arbWinner, hk, hr] at h
    case none.none => exact fun j hj => (List.mem_cons.mp hj).elim (fun e => e ▸ hk) (ih hr j)
    case some.some => split at h <;> contradiction
    all_goals contradiction

/-- No loaded transmit buffer has a lower arbitration field than the winner. -/
theorem arbWinner_least {s : State} {n : Nat} {l : List Nat} {w a : Nat} (h : s.arbWinner n l = some (w, a)) :
    ∀ j ∈ l, ∀ x, s.canTb n j = some x → a ≤ arbitration (elemFrame x.elem) := by
  induction l generalizing w a with
  | nil => exact fun _ hj => absurd hj List.not_mem_nil
  | cons k r ih =>
    refine fun j hj x hx => ?_
    cases hk : s.canTb n k with
    | none =>
      have hw : s.arbWinner n r = some (w, a) := by rw [State.arbWinner, hk] at h; exact h
      rcases List.mem_cons.mp hj with rfl | hr
      · rw [hk] at hx; contradiction
      · exact ih hw j hr x hx
    | some t =>
      cases hr : s.arbWinner n r with
      | none =>
        rw [State.arbWinner, hk, hr] at h
        obtain ⟨-, rfl⟩ : k = w ∧ arbitration (elemFrame t.elem) = a := by simpa using h
        rcases List.mem_cons.mp hj with rfl | hj
        · rw [hk] at hx; cases hx; exact le_rfl
        · rw [arbWinner_eq_none hr j hj] at hx; contradiction
      | some p =>
        obtain ⟨v, b⟩ := p
        have ha : a = min (arbitration (elemFrame t.elem)) b := by
          rw [State.arbWinner, hk, hr] at h
          dsimp only at h
          split at h
          · cases h; omega
          · cases h; omega
        rcases List.mem_cons.mp hj with rfl | hj
        · rw [hk] at hx; cases hx; exact ha ▸ min_le_left ..
        · exact ha ▸ (min_le_right ..).trans (ih hr j hj x hx)

-- fail-silence and the controllers (16, R664, R671)

/-- A register of the CAN controllers that is no TB_STATUS. -/
def canKept (a : Nat) : Prop := 0x20A00000 ≤ a ∧ a < 0x20A40000 ∧ ∀ m, a ≠ R.CAN_TB_STATUS m

theorem canKept_status (n : Fin 16) : canKept (R.CAN_STATUS n) := by
  unfold canKept R.CAN_STATUS R.CAN_TB_STATUS
  refine ⟨?_, ?_, fun m => ?_⟩ <;> omega

theorem regN_withFlt (s : State) (f : Flt) (a : Nat) : { s with flt := f }.regN a = s.regN a := rfl

theorem foldl_frame_of_mem {α β γ : Type} (g : α → γ) {f : α → β → α} {l : List β} (hf : ∀ a, ∀ b ∈ l, g (f a b) = g a) (a : α) :
    g (l.foldl f a) = g a :=
  List.foldlRecOn (motive := fun x => g x = g a) l f rfl fun x h b hb => (hf x b hb).trans h

section
variable {a : Nat} (h : canKept a)
include h

theorem canKept_ne_below {b : Nat} (hb : b < 0x20A00000) : a ≠ b := (hb.trans_le h.1).ne'

theorem canKept_ne_above {b : Nat} (hb : 0x20A40000 ≤ b) : a ≠ b := (h.2.1.trans_le hb).ne

theorem regN_haltEngines_can (s : State) : s.haltEngines.regN a = s.regN a :=
  regN_wr_ne s _ (canKept_ne_above h (by decide)) 0

theorem regN_stopMacs_can (s : State) : s.stopMacs.regN a = s.regN a := by
  have hport (u : State) (p : Nat) (hp : p ∈ List.range 24) : (u.wr (F.MAC_STATUS_TX_ON p) 0).regN a = u.regN a := by
    have hlt := List.mem_range.mp hp
    have hne : a ≠ R.MAC_STATUS p := canKept_ne_below h (show 0x20400004 + p * 0x1000 < 0x20A00000 by omega)
    rw [regN_wr_ne _ _ hne]
  have hmac (u : State) (m : Sparse MacPort) : { u with mac := m }.regN a = u.regN a := rfl
  rw [State.stopMacs, hmac, State.setTxOn, foldl_frame_of_mem (fun u : State => u.regN a) hport]

theorem regN_stopChannels_can (s : State) : s.stopChannels.regN a = s.regN a := by
  have hcan (u : State) (n : Nat) : (u.setRegN (R.CAN_TB_STATUS n) (u.regN (R.CAN_TB_STATUS n) &&& 0xDDD)).regN a = u.regN a :=
    regN_setRegN_ne u (h.2.2 n) _
  have hser (u : State) (n : Nat) : ((u.wr (F.SER_STATUS_DE n) 0).wr (F.SER_STATUS_TX_BUSY n) 0).regN a = u.regN a := by
    have hne : a ≠ R.SER_STATUS n := canKept_ne_above h (show 0x20A40000 ≤ 0x20B00010 + n * 0x100 by omega)
    rw [regN_wr_ne _ _ hne, regN_wr_ne _ _ hne]
  have htdm (u : State) (p : Nat) (hp : p ∈ List.range 4) :
      ((u.wr (F.AUD_TDM_STATUS_DRIVING p) 0).wr (F.AUD_TDM_STATUS_COMPARING p) 0).regN a = u.regN a := by
    have hlt := List.mem_range.mp hp
    have hne : a ≠ R.AUD_TDM_STATUS p := canKept_ne_below h (show 0x20902808 + p * 0x10 < 0x20A00000 by omega)
    rw [regN_wr_ne _ _ hne, regN_wr_ne _ _ hne]
  unfold State.stopChannels
  dsimp only
  rw [foldl_frame_of_mem (fun u : State => u.regN a) htdm, foldl_frame (fun u : State => u.regN a) hser,
    foldl_frame (fun u : State => u.regN a) hcan]

theorem regN_silenced_can (s : State) : s.silenced.regN a = s.regN a := by
  have hpulses (u : State) : u.stopPulses.regN a = u.regN a := rfl
  rw [State.silenced, regN_stopChannels_can h, hpulses, regN_stopMacs_can h, regN_haltEngines_can h]

theorem regN_writeRecord_can (s : State) (e : Ev) : (s.writeRecord e).regN a = s.regN a := by
  have hcount (u : State) : (u.inc C.FLT_CELLAR_RECORDS).regN a = u.regN a := regN_inc_ne u (canKept_ne_above h (by decide))
  have hhead (u : State) (v : Nat) : (u.wr F.FLT_CELLAR_HEAD_NEXT v).regN a = u.regN a :=
    regN_wr_ne u _ (canKept_ne_above h (by decide)) v
  have hstore (u : State) (b : Nat) (l : List Byte) : (u.store b l).regN a = u.regN a := rfl
  rw [State.writeRecord, hcount, hhead, regN_withFlt, hstore]

theorem regN_cellarRecord_can (s : State) : s.cellarRecord.regN a = s.regN a := by
  unfold State.cellarRecord
  split
  · rfl
  · exact regN_ite rfl (regN_ite (regN_inc_ne _ (canKept_ne_above h (by decide))) (regN_writeRecord_can h _ _))

theorem regN_beginBottling_can (s : State) (reason : Nat) : (s.beginBottling reason).regN a = s.regN a := by
  unfold State.beginBottling
  split
  · exact regN_ite rfl rfl
  · refine (regN_wr_ne _ _ (canKept_ne_above h (by decide)) 1).trans ?_
    exact foldl_frame (fun u : State => u.regN a) (fun u _ => regN_cellarRecord_can h u) _ s

theorem regN_failSilent_can (s : State) (cause data : Nat) : (s.failSilent cause data).regN a = s.regN a := by
  have hraise (u : State) : (u.raiseFull 0 0x1101 0 3 data 0 true).regN a = u.regN a :=
    regN_raiseFull_ne _ _ _ _ _ _ _ _ fun f hf => by cases hf; exact canKept_ne_above h (by decide)
  have hshown (u : State) : (((u.wr F.FLT_STATUS_LAST_FS_CAUSE cause).setRegN R.FLT_FS_DATA data).silenced.inc C.FLT_FAIL_SILENCES).regN a =
      u.regN a := by
    rw [regN_inc_ne _ (canKept_ne_above h (by decide)), regN_silenced_can h, regN_setRegN_ne _ (canKept_ne_above h (by decide)),
      regN_wr_ne _ _ (canKept_ne_above h (by decide))]
  refine regN_ite (hraise s) (regN_ite ((hraise _).trans (hshown _)) ?_)
  exact (regN_beginBottling_can h _ 1).trans ((hraise _).trans (hshown _))

theorem regN_detect_can (s : State) (k i : Nat) : (s.detect k i).regN a = s.regN a := by
  have hstat (u : State) {f : Fld} (hf : f.addr = R.FLT_WIN_STAT k) : (u.incSat f).regN a = u.regN a :=
    regN_wr_ne _ _ (hf ▸ canKept_ne_above h (by unfold R.FLT_WIN_STAT; omega)) _
  have hraise (u : State) (p : Nat) : (u.raiseMust 0x1102 p 2 0 0).regN a = u.regN a :=
    regN_raiseFull_ne _ _ _ _ _ _ _ _ fun f hf => by cases hf; exact canKept_ne_above h (by decide)
  have hask (u : State) (r : Nat) : (u.askHandover r).regN a = u.regN a := rfl
  have hlasting (u : State) : (u.incSat (F.FLT_WIN_STAT_LASTING k)).regN a = u.regN a := hstat u rfl
  unfold State.detect State.detector
  dsimp only
  split
  · refine regN_ite (regN_ite ?_ ?_) (regN_ite ?_ ?_) <;>
      simp only [regN_withFlt, hask, regN_failSilent_can h, hraise, hlasting]
  · exact hstat _ rfl

end

end Sys2Proof.Machine
end

section
/-! PROOF. Frames that a CAN controller receives: which of them count, and the pair that they meet (10, R426, R457, R469). -/

namespace Sys2Proof.Machine

section
variable {s : State} (ha : s.alive = true) (n : Fin 16)
include ha

theorem exec_canFrameReceived (ago : Nat) (g : CanFrame) :
    exec (.canFrameReceived n ago g) s = .next (settle ((s.canReceived n ago g).canKaRx n g)) := finish_live ha _

theorem exec_canFrameStart : exec (.canFrameStart n) s = .next (settle (s.canFrameStart n)) := finish_live ha _

theorem exec_canFrameSent : exec (.canFrameSent n) s = .next (settle (s.canSent n)) := finish_live ha _

theorem exec_arbitrationLost : exec (.arbitrationLost n) s = .next (settle (s.arbitrationLost n)) := finish_live ha _

theorem exec_canError (kind : CanErrorKind) : exec (.canError n kind) s = .next (settle (s.canError n kind)) := finish_live ha _

theorem exec_busOffRecovery : exec (.busOffRecovery n) s = .next (settle (s.busOffRecovery n)) := finish_live ha _

theorem exec_mirrorExpired (k : Fin 3) : exec (.mirrorExpired n k) s = .next (settle (s.mirrorExpired n k)) := finish_live ha _

end

-- reception (R418, R426, R457)

section
variable {s : State} {n ago : Nat} {g : CanFrame}

theorem canReceived_off (h : s.rd (F.CAN_STATUS_STATE n) = 2 ∨ s.rd (F.CAN_STATUS_EFF_MODE n) = 0 ∨ 4 ≤ s.rd (F.CAN_STATUS_EFF_MODE n)) :
    s.canReceived n ago g = s := if_pos (by omega)

theorem canKaRx_off (h : s.rd (F.CAN_STATUS_STATE n) = 2 ∨ s.rd (F.CAN_STATUS_EFF_MODE n) = 0 ∨ 4 ≤ s.rd (F.CAN_STATUS_EFF_MODE n)) :
    s.canKaRx n g = s := if_neg fun ⟨_, _, hlo, hhi, hon, _⟩ => by omega

variable (hon : s.rd (F.CAN_STATUS_STATE n) ≠ 2)
  (hmode : s.rd (F.CAN_STATUS_EFF_MODE n) = 1 ∨ s.rd (F.CAN_STATUS_EFF_MODE n) = 2 ∨ s.rd (F.CAN_STATUS_EFF_MODE n) = 3)
include hon hmode

theorem canReceived_valid (hfd : (plainFrame g).fdf = false ∨ s.on (F.CAN_CTRL_FD_EN n) = true)
    (hxl : (plainFrame g).xlf = false ∨ s.on (F.CAN_CTRL_XL_EN n) = true) : s.canReceived n ago g =
      ((((((s.inc (C.CAN_RX_FRAMES n)).recGood n).ttSee n ago (plainFrame g)).canFilter n ago (plainFrame g)).mirrorRetire n
        (plainFrame g)).wr (F.CAN_STATUS_BUS_IDLE n) 1) := by
  have hformat : ¬(((plainFrame g).fdf = true ∧ ¬s.on (F.CAN_CTRL_FD_EN n) = true) ∨
      ((plainFrame g).xlf = true ∧ ¬s.on (F.CAN_CTRL_XL_EN n) = true)) := by
    rintro (⟨h, he⟩ | ⟨h, he⟩) <;> simp_all
  exact (if_neg (by omega)).trans (if_neg hformat)

theorem canReceived_disabled (h : ((plainFrame g).fdf = true ∧ s.on (F.CAN_CTRL_FD_EN n) = false) ∨
    ((plainFrame g).xlf = true ∧ s.on (F.CAN_CTRL_XL_EN n) = false)) : s.canReceived n ago g = s.disabledFormat n := by
  exact (if_neg (by omega)).trans (if_pos (by simpa using h))

end

theorem disabledFormat_error {s : State} {n : Nat} (h : s.on (F.CAN_CTRL_PEX_EN n) = false) : s.disabledFormat n = s.recError n 1 :=
  if_neg (by simp [h])

theorem disabledFormat_pex {s : State} {n : Nat} (h : s.on (F.CAN_CTRL_PEX_EN n) = true) :
    s.disabledFormat n = ((s.canWait n 1).inc (C.CAN_PEX n)).raiseOnce 0x0A06 n := if_pos h

-- the pair that a frame meets (R457)

theorem pairFor_eq_none_iff {s : State} {n : Nat} {f : CanFrame} :
    s.pairFor n f = none ↔ ∀ i, i < 32 → pairMatches (s.entry 9 (n * 32 + i)) f = false := by
  simp [State.pairFor]

theorem pairFor_eq_some {s : State} {n i w : Nat} {f : CanFrame} (h : s.pairFor n f = some (i, w)) :
    i < 32 ∧ w = s.tw 9 (n * 32 + i) 3 ∧ pairMatches (s.entry 9 (n * 32 + i)) f = true ∧
      ∀ j, j < i → pairMatches (s.entry 9 (n * 32 + j)) f = false := by
  obtain ⟨j, hfind, hj⟩ := Option.map_eq_some_iff.mp h
  obtain ⟨rfl, rfl⟩ := Prod.mk.inj hj
  obtain ⟨hmatch, hmem, hfirst⟩ := List.find?_range_eq_some.mp hfind
  exact ⟨List.mem_range.mp hmem, rfl, hmatch, fun i hi => by simpa using hfirst i hi⟩

end Sys2Proof.Machine
end

section
/-! PROOF. Frames that a CAN controller sends: their start where no trellis runs, their end, a lost arbitration, and transmit errors
up to bus-off and the recovery from it (10, R438 to R443, R466, R467, R470, R471). -/

namespace Sys2Proof.Machine

-- a controller whose trellis does not run (R438, R446)

/-- A controller whose trellis has no window. -/
def State.ttStopped (s : State) (n : Nat) : State :=
  (s.modCan n (fun c => { c with win := none, colsCyc := none })).setRegN (R.CAN_TT_STATUS n) 0

theorem canC_ttStopped (s : State) (n : Nat) : (s.ttStopped n).canC n = { s.canC n with win := none, colsCyc := none } := by
  rw [State.ttStopped, canC_setRegN, canC_modCan_same]

theorem canTb_ttStopped (s : State) (n k : Nat) : (s.ttStopped n).canTb n k = s.canTb n k := by
  rw [State.canTb, canC_ttStopped, State.canTb]

theorem rd_ttStopped (s : State) {n : Nat} {f : Fld} (h : f.addr ≠ R.CAN_TT_STATUS n) : (s.ttStopped n).rd f = s.rd f :=
  rd_setRegN_ne _ h 0

theorem ttLocate_stopped {s : State} {n : Nat} (h : s.ttRuns n = false) : s.ttLocate n = s.ttStopped n := if_pos (by simp [h])

theorem ttAdvance_stopped {s : State} {n : Nat} (hwin : (s.canC n).win = none) (h : s.ttRuns n = false) :
    s.ttAdvance n = s.ttStopped n := by
  rw [State.ttAdvance, hwin, ← ttLocate_stopped h]

/-- The state at a point where a controller without a running trellis may start a frame. -/
def State.startPoint (s : State) (n : Nat) : State := (s.wr (F.CAN_STATUS_BUS_IDLE n) 1).ttStopped n

section
variable (s : State) (n : Fin 16)

theorem ttRuns_wr_busIdle (v : Nat) : (s.wr (F.CAN_STATUS_BUS_IDLE n) v).ttRuns n = s.ttRuns n := by
  simp (disch := grind) only [State.ttRuns, State.ttColumns, State.ttCycle, State.wtState, rd_wr_other, regN_wr_ne]
  rfl

theorem mayTransmit_startPoint : (s.startPoint n).mayTransmit n = s.mayTransmit n := by
  have hrd {f : Fld} (hf : f.addr = R.CAN_CTRL n ∨ f.addr = R.CAN_STATUS n ∧ 10 ≤ f.lo) (hw : f.lo + f.w ≤ 32) :
      (s.startPoint n).rd f = s.rd f := by
    rw [State.startPoint, rd_ttStopped _ (by grind), rd_wr_other _ _ _ hw _ (by grind)]
  simp (disch := grind) only [State.mayTransmit, State.on, hrd]
  rw [State.startPoint, canC_ttStopped]
  rfl

theorem canBusy_startPoint : (s.startPoint n).canBusy n = s.canBusy n := by
  have hon (k : Nat) : (s.startPoint n).on (F.CAN_TB_STATUS_STARTED n k) = s.on (F.CAN_TB_STATUS_STARTED n k) :=
    on_of_regN (by rw [State.startPoint, State.ttStopped, regN_setRegN_ne _ (by grind), regN_modCan, regN_wr_ne _ _ (by grind)])
  simp only [State.canBusy, hon]

theorem win_startPoint : ((s.startPoint n).canC n).win = none := by rw [State.startPoint, canC_ttStopped]

theorem canTb_startPoint (k : Nat) : (s.startPoint n).canTb n k = s.canTb n k := canTb_ttStopped ..

end

section
variable {s : State} {n : Nat}

theorem canSelect_stopped (hwin : (s.canC n).win = none) : s.canSelect n = (s.arbWinner n [0, 1, 2]).map (·.1) := by
  rw [State.canSelect, hwin]

theorem startFrameCan_refused (h : s.mayTransmit n = false ∨ s.canBusy n = true) : s.startFrameCan n = s :=
  if_pos (h.imp (by simp [·]) id)

theorem startFrameCan_none (hsel : s.canSelect n = none) : s.startFrameCan n = s := by
  rw [State.startFrameCan, hsel]
  exact ite_self s

/-- The state in which the frame of TBk has started: its instant is noted, and the bus is busy (R438, R440). -/
def State.frameStarted (s : State) (n k : Nat) (t : CanTb) : State :=
  ((s.setTb n k (some { t with sof := some (s.wtSubNs, s.wtSec % 2 ^ 32) })).wr (F.CAN_TB_STATUS_STARTED n k) 1).wr
    (F.CAN_STATUS_BUS_IDLE n) 0

theorem win_frameStarted (k : Nat) (t : CanTb) : ((s.frameStarted n k t).canC n).win = (s.canC n).win := by
  rw [State.frameStarted, State.setTb, canC_wr, canC_wr, canC_wr, canC_modCan_same]

theorem startFrameCan_stopped {k : Nat} {t : CanTb} (hmay : s.mayTransmit n = true) (hbusy : s.canBusy n = false)
    (hwin : (s.canC n).win = none) (hsel : s.canSelect n = some k) (ht : s.canTb n k = some t) :
    s.startFrameCan n = s.frameStarted n k t := by
  have hwin' : ((s.frameStarted n k t).canC n).win = none := (win_frameStarted k t).trans hwin
  rw [State.startFrameCan, if_neg (by simp [hmay, hbusy]), hsel]
  dsimp only
  rw [ht]
  dsimp only
  rw [← State.frameStarted, hwin']

end

theorem canSelect_startPoint (s : State) (n : Fin 16) : (s.startPoint n).canSelect n = (s.arbWinner n [0, 1, 2]).map (·.1) := by
  rw [canSelect_stopped (win_startPoint s n), arbWinner_congr (canTb_startPoint s n)]

section
variable {s : State} {n : Fin 16} (hwin : (s.canC n).win = none) (hruns : s.ttRuns n = false)
include hwin hruns

theorem canFrameStart_eq : s.canFrameStart n = (s.startPoint n).startFrameCan n := by
  rw [State.canFrameStart, ttAdvance_stopped (s := s.wr (F.CAN_STATUS_BUS_IDLE n) 1) hwin ((ttRuns_wr_busIdle s n 1).trans hruns)]
  rfl

theorem canFrameStart_refused (h : s.mayTransmit n = false ∨ s.canBusy n = true) : s.canFrameStart n = s.startPoint n := by
  rw [canFrameStart_eq hwin hruns, startFrameCan_refused]
  rwa [mayTransmit_startPoint, canBusy_startPoint]

theorem canFrameStart_none (h : s.arbWinner n [0, 1, 2] = none) : s.canFrameStart n = s.startPoint n := by
  rw [canFrameStart_eq hwin hruns, startFrameCan_none]
  rw [canSelect_startPoint, h, Option.map_none]

theorem canFrameStart_winner (hbusy : s.canBusy n = false) (hmay : s.mayTransmit n = true) {k a : Nat} {t : CanTb}
    (h : s.arbWinner n [0, 1, 2] = some (k, a)) (ht : s.canTb n k = some t) :
    s.canFrameStart n = (s.startPoint n).frameStarted n k t := by
  rw [canFrameStart_eq hwin hruns, startFrameCan_stopped (k := k) (t := t)]
  · rw [mayTransmit_startPoint, hmay]
  · rw [canBusy_startPoint, hbusy]
  · exact win_startPoint s n
  · rw [canSelect_startPoint, h, Option.map_some]
  · rw [canTb_startPoint, ht]

end

-- the end of a frame (R440, R443, R471)

theorem started_eq_false_of_idle {s : State} {n : Nat} (h : s.canBusy n = false) :
    [0, 1, 2].find? (fun k => s.on (F.CAN_TB_STATUS_STARTED n k)) = none := by
  rw [List.find?_eq_none]
  exact fun k hk => List.any_eq_false.mp h k hk

theorem canSent_idle {s : State} {n : Nat} (h : s.canBusy n = false) : s.canSent n = s := by
  rw [State.canSent, started_eq_false_of_idle h]

/-- The end of a frame that was sent: a pending cancel came too late, and the frame is retired and counted. -/
def State.frameEnded (s : State) (n k : Nat) (t : CanTb) : State :=
  let a := if s.rd (F.CAN_TB_STATUS_CANCEL_RESULT n k) = 2 then s.wr (F.CAN_TB_STATUS_CANCEL_RESULT n k) 3 else s
  let b := (a.retire n k 0).inc (C.CAN_TX_FRAMES n)
  (if t.resent then b.inc (C.CAN_TAKEOVER_RESENT n) else b).wr (F.CAN_STATUS_BUS_IDLE n) 1

theorem rd_frameEnded (s : State) (n : Fin 16) (k : Nat) (t : CanTb) {f : Fld} (hf : f.addr = R.CAN_STATUS n) (hlo : 10 ≤ f.lo)
    (hw : f.lo + f.w ≤ 32) : (s.frameEnded n k t).rd f = s.rd f := by
  refine (rd_wr_other _ (F.CAN_STATUS_BUS_IDLE n) f hw 1 (.inr (.inl hlo))).trans (rd_of_regN ?_)
  rw [hf]
  have hend : endAside n k (R.CAN_STATUS n) := endAside_low k (by grind) (by grind)
  refine (regN_ite (regN_inc_ne _ (by grind)) rfl).trans ?_
  rw [regN_inc_ne _ (by grind), regN_retire _ hend (by grind)]
  exact regN_ite (regN_wr_ne _ _ (by grind) _) rfl

/-- The mode in force is no matter of the error counters (R418, R466). -/
theorem effMode_confine (s : State) (n : Fin 16) : (s.confine n).rd (F.CAN_STATUS_EFF_MODE n) = s.rd (F.CAN_STATUS_EFF_MODE n) := by
  have hwr (v : Nat) : (s.wr (F.CAN_STATUS_STATE n) v).rd (F.CAN_STATUS_EFF_MODE n) = s.rd (F.CAN_STATUS_EFF_MODE n) :=
    rd_wr_other _ _ _ (by grind) _ (by grind)
  have hraise (u : State) : (u.raise 0x0A02 n).rd (F.CAN_STATUS_EFF_MODE n) = u.rd (F.CAN_STATUS_EFF_MODE n) :=
    rd_raise_ne _ _ _ fun f hf => by cases hf; grind
  unfold State.confine
  dsimp only
  split_ifs
  · rfl
  · rw [rd_of_regN (regN_detect_can (canKept_status n) ..), hraise, hwr]
  · exact hwr 0
  · rfl

/-- A frame sent lowers TEC in NORMAL (R418, R466). -/
def State.tecLowered (s : State) (n : Nat) : State :=
  if s.counts n then (s.wr (F.CAN_STATUS_TEC n) (s.rd (F.CAN_STATUS_TEC n) - 1)).confine n else s

theorem effMode_tecLowered (s : State) (n : Fin 16) : (s.tecLowered n).rd (F.CAN_STATUS_EFF_MODE n) = s.rd (F.CAN_STATUS_EFF_MODE n) := by
  unfold State.tecLowered
  split
  · rw [effMode_confine, rd_wr_other _ _ _ (by grind) _ (by grind)]
  · rfl

theorem tecLowered_frameEnded (s : State) (n : Fin 16) (k : Nat) (t : CanTb) : (s.frameEnded n k t).tecLowered n =
    if s.counts n then ((s.frameEnded n k t).wr (F.CAN_STATUS_TEC n) (s.rd (F.CAN_STATUS_TEC n) - 1)).confine n
    else s.frameEnded n k t := by
  have hcounts : (s.frameEnded n k t).counts n = s.counts n := by
    rw [State.counts, State.counts, rd_frameEnded s n k t rfl (by grind) (by grind), rd_frameEnded s n k t rfl (by grind) (by grind)]
  rw [State.tecLowered, hcounts, rd_frameEnded s n k t rfl (by grind) (by grind)]

/-- A frame sent outside LOOPBACK ends, and lowers TEC (R440). -/
theorem canSent_sent {s : State} {n : Fin 16} {k : Nat} {t : CanTb}
    (hstarted : [0, 1, 2].find? (fun k => s.on (F.CAN_TB_STATUS_STARTED n k)) = some k) (ht : s.canTb n k = some t)
    (hmode : s.rd (F.CAN_STATUS_EFF_MODE n) ≠ 4) : s.canSent n = (s.frameEnded n k t).tecLowered n := by
  have hended : ((s.frameEnded n k t).tecLowered n).rd (F.CAN_STATUS_EFF_MODE n) ≠ 4 := by
    rwa [effMode_tecLowered, rd_frameEnded s n k t rfl (by grind) (by grind)]
  rw [State.canSent, hstarted]
  dsimp only
  rw [ht]
  exact if_neg hended

-- a frame that lost arbitration or met an error (R439, R443)

/-- What becomes of TBk when the frame on the bus lost arbitration or met an error. -/
def State.missedTb (s : State) (n k : Nat) : State :=
  if ¬ s.on (F.CAN_TB_STATUS_STARTED n k) then s
  else if s.rd (F.CAN_TB_STATUS_CANCEL_RESULT n k) = 2 then s.cancelEnds n k
  else if s.on (F.CAN_CTRL_ONE_SHOT n) then s.retire n k 3
  else s.wr (F.CAN_TB_STATUS_STARTED n k) 0

theorem missedTb_idle {s : State} {n k : Nat} (h : s.on (F.CAN_TB_STATUS_STARTED n k) = false) : s.missedTb n k = s :=
  if_pos (by simp [h])

/-- Where TB0 alone has started, TB0 alone has missed. -/
theorem missedFrame_first {s : State} {n : Nat} (h1 : (s.missedTb n 0).on (F.CAN_TB_STATUS_STARTED n 1) = false)
    (h2 : (s.missedTb n 0).on (F.CAN_TB_STATUS_STARTED n 2) = false) : s.missedFrame n = s.missedTb n 0 := by
  have hfold : s.missedFrame n = ((s.missedTb n 0).missedTb n 1).missedTb n 2 := rfl
  rw [hfold, missedTb_idle h1, missedTb_idle h2]

/-- TB0 alone has a frame on the bus, and no cancel of it waits. -/
structure State.firstAlone (s : State) (n : Nat) : Prop where
  first : s.on (F.CAN_TB_STATUS_STARTED n 0) = true
  second : s.on (F.CAN_TB_STATUS_STARTED n 1) = false
  third : s.on (F.CAN_TB_STATUS_STARTED n 2) = false
  kept : s.rd (F.CAN_TB_STATUS_CANCEL_RESULT n 0) ≠ 2

section
variable {s : State} {n : Nat} (h : s.firstAlone n)
include h

theorem canBusy_of_firstAlone : s.canBusy n = true := List.any_eq_true.mpr ⟨0, List.mem_cons_self, h.first⟩

/-- A count of the controller changes nothing in its transmit buffers. -/
theorem firstAlone_inc {c : Nat} (hc : R.CAN_TB_STATUS n < c) : (s.inc c).firstAlone n where
  first := (on_inc_ne s hc.ne).trans h.first
  second := (on_inc_ne s hc.ne).trans h.second
  third := (on_inc_ne s hc.ne).trans h.third
  kept := (rd_inc_ne s (f := F.CAN_TB_STATUS_CANCEL_RESULT n 0) hc.ne).trans_ne h.kept

theorem missedFrame_oneShot (hone : s.on (F.CAN_CTRL_ONE_SHOT n) = true) : s.missedFrame n = s.retire n 0 3 := by
  have hmiss : s.missedTb n 0 = s.retire n 0 3 := by
    rw [State.missedTb, if_neg (not_not.mpr h.first), if_neg h.kept, if_pos hone]
  rw [← hmiss]
  refine missedFrame_first ?_ ?_
  · rw [hmiss, started_retire s n (by decide) (by decide), h.second]
  · rw [hmiss, started_retire s n (by decide) (by decide), h.third]

theorem missedFrame_again (hone : s.on (F.CAN_CTRL_ONE_SHOT n) = false) :
    s.missedFrame n = s.wr (F.CAN_TB_STATUS_STARTED n 0) 0 := by
  have hmiss : s.missedTb n 0 = s.wr (F.CAN_TB_STATUS_STARTED n 0) 0 := by
    rw [State.missedTb, if_neg (not_not.mpr h.first), if_neg h.kept, if_neg (ne_true_of_eq_false hone)]
  rw [← hmiss]
  refine missedFrame_first ?_ ?_
  · rw [hmiss, on_wr_other _ _ _ (by grind) _ (by grind), h.second]
  · rw [hmiss, on_wr_other _ _ _ (by grind) _ (by grind), h.third]

theorem arbitrationLost_oneShot (hone : s.on (F.CAN_CTRL_ONE_SHOT n) = true) :
    s.arbitrationLost n = (s.inc (C.CAN_ARB_LOST n)).retire n 0 3 := by
  rw [State.arbitrationLost, if_pos (canBusy_of_firstAlone h), missedFrame_oneShot (firstAlone_inc h (by grind))]
  rw [on_inc_ne s (by grind), hone]

theorem arbitrationLost_again (hone : s.on (F.CAN_CTRL_ONE_SHOT n) = false) :
    s.arbitrationLost n = (s.inc (C.CAN_ARB_LOST n)).wr (F.CAN_TB_STATUS_STARTED n 0) 0 := by
  rw [State.arbitrationLost, if_pos (canBusy_of_firstAlone h), missedFrame_again (firstAlone_inc h (by grind))]
  rw [on_inc_ne s (by grind), hone]

/-- A transmit error that takes TEC above 255 makes the controller bus-off (R466, R467). -/
theorem canError_busOff (hone : s.on (F.CAN_CTRL_ONE_SHOT n) = false) (hmode : s.rd (F.CAN_STATUS_EFF_MODE n) = 1)
    (hon : s.rd (F.CAN_STATUS_STATE n) ≠ 2) {step : Nat} (hstep : 255 < s.rd (F.CAN_STATUS_TEC n) + step) :
    s.canError n (.transmit step) = ((s.inc (C.CAN_TX_ERRORS n)).wr (F.CAN_TB_STATUS_STARTED n 0) 0).busOff n := by
  have hmiss : (s.inc (C.CAN_TX_ERRORS n)).missedFrame n = (s.inc (C.CAN_TX_ERRORS n)).wr (F.CAN_TB_STATUS_STARTED n 0) 0 :=
    missedFrame_again (firstAlone_inc h (by grind)) (by rw [on_inc_ne s (by grind), hone])
  have hrd {f : Fld} (hf : f.addr = R.CAN_STATUS n) (hw : f.lo + f.w ≤ 32) :
      ((s.inc (C.CAN_TX_ERRORS n)).wr (F.CAN_TB_STATUS_STARTED n 0) 0).rd f = s.rd f := by
    rw [rd_wr_other _ _ _ hw _ (.inl (by grind)), rd_inc_ne _ (by grind)]
  have hcounts : ((s.inc (C.CAN_TX_ERRORS n)).wr (F.CAN_TB_STATUS_STARTED n 0) 0).counts n = true := by
    rw [State.counts, hrd rfl (by grind), hrd rfl (by grind), hmode, decide_eq_true hon]
    rfl
  rw [State.canError, if_neg (by omega)]
  dsimp only
  rw [if_neg (not_not.mpr (canBusy_of_firstAlone h)), hmiss, if_neg (not_not.mpr hcounts), hrd rfl (by grind), if_pos hstep]

end

theorem arbitrationLost_idle {s : State} {n : Nat} (h : s.canBusy n = false) : s.arbitrationLost n = s := if_neg (by simp [h])

-- bus-off (R467)

theorem exec_canRecover {s : State} {n : Fin 16} (h : s.writable (R.CAN_RECOVER n)) (v : Word) :
    exec (.canRecover n v) s = .next (settle (s.canRecover n v.toNat)) := finish_regLive h _

section
variable {s : State} {n : Nat}

theorem canRecover_starts {v : Nat} (hv : v.testBit 0 = true) (hoff : s.rd (F.CAN_STATUS_STATE n) = 2)
    (hrec : (s.canC n).recovering = false) : s.canRecover n v = s.recoveryStart n := if_pos ⟨hv, hoff, by simp [hrec]⟩

theorem canRecover_ignored {v : Nat} (h : v.testBit 0 = false ∨ s.rd (F.CAN_STATUS_STATE n) ≠ 2 ∨ (s.canC n).recovering = true) :
    s.canRecover n v = s := by
  refine if_neg fun ⟨hv, hoff, hrec⟩ => ?_
  rcases h with h | h | h
  · rw [hv] at h; contradiction
  · exact h hoff
  · exact hrec h

/-- The recovery lasts 128 times 11 bits of the arbitration phase, in ns (R467). -/
theorem canC_recoveryStart : (s.recoveryStart n).canC n =
    { s.canC n with recovering := true, readyAt := s.clk.now + (128 * 11 * s.arbBit n * 25 + 3) / 4 } := by
  rw [State.recoveryStart, State.canWait, canC_modCan_same, canC_modCan_same]
  rfl

theorem busOffRecovery_waits (h : s.rd (F.CAN_STATUS_STATE n) ≠ 2 ∨ (s.canC n).recovering = false ∨ s.clk.now < (s.canC n).readyAt) :
    s.busOffRecovery n = s := by
  refine if_neg fun ⟨hoff, hrec, hready⟩ => ?_
  rcases h with h | h | h
  · exact h hoff
  · rw [h] at hrec; contradiction
  · omega

/-- A controller whose recovery has ended: both counters at 0, error active. -/
def State.recovered (s : State) (n : Nat) : State :=
  (((s.wr (F.CAN_STATUS_TEC n) 0).wr (F.CAN_STATUS_REC n) 0).wr (F.CAN_STATUS_STATE n) 0).modCan n
    (fun c => { c with recovering := false })

theorem busOffRecovery_ends (hoff : s.rd (F.CAN_STATUS_STATE n) = 2) (hrec : (s.canC n).recovering = true)
    (hready : (s.canC n).readyAt ≤ s.clk.now) : s.busOffRecovery n = s.recovered n := if_pos ⟨hoff, hrec, hready⟩

theorem recovered_status : (s.recovered n).rd (F.CAN_STATUS_STATE n) = 0 ∧ (s.recovered n).rd (F.CAN_STATUS_TEC n) = 0 ∧
    (s.recovered n).rd (F.CAN_STATUS_REC n) = 0 := by
  have hmod (u : State) (f : Fld) : (u.modCan n (fun c => { c with recovering := false })).rd f = u.rd f := rfl
  simp (disch := grind) only [State.recovered, hmod, rd_wr_same, rd_wr_other, Nat.zero_mod, and_self]

theorem canC_recovered : (s.recovered n).canC n = { s.canC n with recovering := false } := by
  rw [State.recovered, canC_modCan_same]
  rfl

-- mirrored elements that grow old (R470)

theorem mirrorExpired_kept {k : Nat} (h : s.canTb n k = none ∨ s.on (F.CAN_CTRL_TX_ROLE n) = false ∨ s.duty = true ∨
    s.rd (F.CAN_CTRL_MIRROR_AGE n) = 0) : s.mirrorExpired n k = s := by
  cases ht : s.canTb n k with
  | none => rw [State.mirrorExpired, ht]
  | some t =>
    rw [State.mirrorExpired, ht]
    refine if_neg fun ⟨hrole, hduty, hage, _⟩ => ?_
    rcases h with h | h | h | h
    · rw [ht] at h; contradiction
    · rw [h] at hrole; contradiction
    · exact hduty h
    · exact hage h

theorem mirrorExpired_old {k : Nat} {t : CanTb} (ht : s.canTb n k = some t) (hrole : s.on (F.CAN_CTRL_TX_ROLE n) = true)
    (hduty : s.duty = false) (hage : s.rd (F.CAN_CTRL_MIRROR_AGE n) ≠ 0)
    (hold : t.at_ + s.rd (F.CAN_CTRL_MIRROR_AGE n) * 1000000 ≤ s.clk.now) :
    s.mirrorExpired n k = (s.retire n k 3).inc (C.CAN_MIRROR_EXPIRED n) := by
  rw [State.mirrorExpired, ht]
  exact if_pos ⟨hrole, ne_true_of_eq_false hduty, hage, hold⟩

end

/-- Settles O46, command by command. -/
theorem canFramesOnTheBus : Obligations.CanFramesOnTheBus := by
  intro n s ha
  refine ⟨fun ago g h => ?deaf, fun ago g hon hmode => ⟨fun hfd hxl => ?valid, fun h => ⟨fun hpex => ?error, fun hpex => ?pex⟩⟩,
    fun f => ⟨pairFor_eq_none_iff, fun i w => pairFor_eq_some⟩,
    fun hwin hruns hbusy hmay => ⟨fun hw => ?idle, fun k a t hw ht => ⟨?starts, ?least⟩⟩, fun hwin hruns h => ?refused,
    fun h => ?notSent, fun k t hstarted ht hmode => ?sent, fun h => ?notLost, fun h0 h1 h2 hcancel hone => ?oneShot,
    fun h0 h1 h2 hcancel hone => ⟨?again, fun step hmode hon hstep => ?busOff⟩, rfl,
    fun v hw => ⟨fun hv hoff hrec => ?recover, fun h => ?noRecover⟩, ⟨canC_recoveryStart, rfl, rfl⟩, fun h => ?waits,
    fun hoff hrec hready => ?ends, fun k h => ?young, fun k t ht hrole hduty hage hold => ?old⟩
  case deaf => rw [exec_canFrameReceived ha, canReceived_off h, canKaRx_off h]
  case valid => rw [exec_canFrameReceived ha, canReceived_valid hon hmode hfd hxl]
  case error => rw [exec_canFrameReceived ha, canReceived_disabled hon hmode h, disabledFormat_error hpex]
  case pex => rw [exec_canFrameReceived ha, canReceived_disabled hon hmode h, disabledFormat_pex hpex]
  case idle => rw [exec_canFrameStart ha, canFrameStart_none hwin hruns hw]; rfl
  case starts => rw [exec_canFrameStart ha, canFrameStart_winner hwin hruns hbusy hmay hw ht]; rfl
  case least => exact fun j hj x hx => arbWinner_least hw j (by simp; omega) x hx
  case refused => rw [exec_canFrameStart ha, canFrameStart_refused hwin hruns h]; rfl
  case notSent => rw [exec_canFrameSent ha, canSent_idle h]
  case sent => rw [exec_canFrameSent ha, canSent_sent hstarted ht hmode, tecLowered_frameEnded]; rfl
  case notLost => rw [exec_arbitrationLost ha, arbitrationLost_idle h]
  case oneShot => rw [exec_arbitrationLost ha, arbitrationLost_oneShot ⟨h0, h1, h2, hcancel⟩ hone]
  case again => rw [exec_arbitrationLost ha, arbitrationLost_again ⟨h0, h1, h2, hcancel⟩ hone]
  case busOff => rw [exec_canError ha, canError_busOff ⟨h0, h1, h2, hcancel⟩ hone hmode hon hstep]
  case recover => rw [exec_canRecover hw, canRecover_starts hv hoff hrec]
  case noRecover => rw [exec_canRecover hw, canRecover_ignored h]
  case waits => rw [exec_busOffRecovery ha, busOffRecovery_waits h]
  case ends =>
    obtain ⟨hstate, htec, hrecc⟩ := recovered_status (s := s) (n := n)
    refine ⟨s.recovered n, ?_, hstate, htec, hrecc, ?_, ?_, rfl⟩
    · rw [exec_busOffRecovery ha, busOffRecovery_ends hoff hrec hready]
    · rw [canC_recovered]
    · rw [canC_recovered]
  case young => rw [exec_mirrorExpired ha, mirrorExpired_kept h]
  case old => rw [exec_mirrorExpired ha, mirrorExpired_old ht hrole hduty hage hold]

end Sys2Proof.Machine
end

section
/-! PROOF. The feed queues and transmit buffers of a CAN controller: loads, firmware's appends, flushes and cancels (10, R430, R432 to
R437, R442, R443). -/

namespace Sys2Proof.Machine

-- what a feed queue's registers are not

theorem ringGet_ne_ringPut (n : Fin 16) (k : Fin 3) : ringGet n k ≠ ringPut n k := by
  rw [ringGet, ringPut, if_pos k.isLt, if_pos k.isLt]
  grind

theorem ringPut_ne_ctrl (n : Fin 16) (k : Fin 3) : ringPut n k ≠ R.CAN_CTRL n := by
  rw [ringPut, if_pos k.isLt]
  grind

theorem ringPut_ne_qlb (n : Fin 16) (k : Fin 3) : ringPut n k ≠ R.QLB_STATUS := by
  rw [ringPut, if_pos k.isLt]
  grind

theorem canMirrors_of_regN {s t : State} {n : Nat} (hctrl : t.regN (R.CAN_CTRL n) = s.regN (R.CAN_CTRL n))
    (hqlb : t.regN R.QLB_STATUS = s.regN R.QLB_STATUS) : t.canMirrors n = s.canMirrors n := by
  have hrole : t.on (F.CAN_CTRL_TX_ROLE n) = s.on (F.CAN_CTRL_TX_ROLE n) := on_of_regN hctrl
  have hmirroring : t.mirroring = s.mirroring := on_of_regN hqlb
  rw [State.canMirrors, State.canMirrors, hrole, hmirroring]

-- loads (R432, R433)

theorem exec_tbLoad {s : State} (ha : s.alive = true) (n : Fin 16) (k : Fin 3) :
    exec (.tbLoad n k) s = .next (settle (s.tbLoad n k)) := finish_live ha _

section
variable {s : State} {n k : Nat}

theorem tbLoad_kept (h : (s.canTb n k).isSome = true ∨ s.ringSize n k = 0) : s.tbLoad n k = s := if_pos h

/-- No whole element lies in fewer bytes than a header takes. -/
theorem ringElems_short {j o left : Nat} (h : left < 24) : s.ringElems n k j o left = [] := by
  cases j with
  | zero => rfl
  | succ j => exact if_pos (.inl h)

theorem tbLoad_short (h : s.ringFill n k < 24) : s.tbLoad n k = s := by
  rw [State.tbLoad, ringElems_short h]
  exact ite_self s

variable {e : List Byte} {r : List (List Byte)} (htb : s.canTb n k = none) (hsize : s.ringSize n k ≠ 0)
  (hhead : s.ringElems n k 1 (s.regN (ringGet n k)) (s.ringFill n k) = e :: r)
include htb hsize hhead

theorem tbLoad_head : s.tbLoad n k = if s.elemInvalid n e then
    ((s.fqPop n k).inc (C.CAN_TX_INVALID n)).txEvent n k 2 (bits (elemWord e 3) 16 16) none
    else s.setTb n k (some ⟨e, none, s.clk.now, false⟩) := by
  rw [State.tbLoad, if_neg (by simp [htb, hsize]), hhead]

theorem tbLoad_valid (hv : s.elemInvalid n e = false) : s.tbLoad n k = s.setTb n k (some ⟨e, none, s.clk.now, false⟩) :=
  (tbLoad_head htb hsize hhead).trans (if_neg (ne_true_of_eq_false hv))

theorem tbLoad_invalid (hv : s.elemInvalid n e = true) :
    s.tbLoad n k = ((s.fqPop n k).inc (C.CAN_TX_INVALID n)).txEvent n k 2 (bits (elemWord e 3) 16 16) none :=
  (tbLoad_head htb hsize hhead).trans (if_pos hv)

end

-- firmware's appends (R434 to R436)

theorem exec_fqPut {s : State} {n : Fin 16} {k : Fin 3} (h : s.writable (R.CAN_FQ_PUT n k)) (v : Word) :
    exec (.fqPut n k v) s = .next (settle (s.fqPut n k v.toNat)) := finish_regLive h _

/-- The bytes that a write of PUT appends (R435). -/
def State.putLen (s : State) (n k v : Nat) : Nat := (bits v 0 14 + s.ringSize n k - s.regN (Machine.ringPut n k)) % max 1 (s.ringSize n k)

section
variable {s : State} {n : Fin 16} {k : Fin 3} {v : Nat}

theorem fqPut_refused (h : s.canRefused n = true) : s.fqPut n k v = s.inc (C.CAN_FQ_NOT_DUTY n) := if_pos h

variable (hduty : s.canRefused n = false)
include hduty

theorem fqPut_owned (ho : s.fqOwner n k ≠ 0) : s.fqPut n k v = s.inc (C.CAN_FQ_OWNER n) :=
  (if_neg (ne_true_of_eq_false hduty)).trans (if_pos ho)

variable (ho : s.fqOwner n k = 0)
include ho

theorem fqPut_full (h : s.ringSize n k ≤ bits v 0 14 ∨ bits v 0 14 % 8 ≠ 0 ∨ s.ringSize n k < s.ringFill n k + s.putLen n k v) :
    s.fqPut n k v = s.inc (C.CAN_FQ_FULL n) := by
  rw [State.putLen] at h
  exact (if_neg (ne_true_of_eq_false hduty)).trans ((if_neg (not_not.mpr ho)).trans (if_pos h))

theorem fqPut_taken (hin : bits v 0 14 < s.ringSize n k) (hwords : bits v 0 14 % 8 = 0)
    (hroom : s.ringFill n k + s.putLen n k v ≤ s.ringSize n k) (hm : s.canMirrors n = false) :
    s.fqPut n k v = (s.setRegN (ringPut n k) (bits v 0 14)).setFill n k (s.ringFill n k + s.putLen n k v) := by
  have hput : ((s.setRegN (ringPut n k) (bits v 0 14)).setFill n k (s.ringFill n k + s.putLen n k v)).canMirrors n = false :=
    (canMirrors_of_regN (regN_setRegN_ne s (ringPut_ne_ctrl n k).symm _) (regN_setRegN_ne s (ringPut_ne_qlb n k).symm _)).trans hm
  rw [State.putLen] at hroom hput ⊢
  rw [State.fqPut, if_neg (ne_true_of_eq_false hduty), if_neg (not_not.mpr ho), if_neg (by omega)]
  exact if_neg (ne_true_of_eq_false hput)

end

-- flushes (R437)

theorem exec_fqFlush {s : State} {n : Fin 16} {k : Fin 3} (h : s.writable (R.CAN_FQ_CFG n k)) :
    exec (.fqFlush n k) s = .next (settle (s.fqFlush n k)) := finish_regLive h _

section
variable {s : State} {n : Fin 16} {k : Fin 3}

theorem canMirrors_flushRing : (s.flushRing n k).canMirrors n = s.canMirrors n :=
  canMirrors_of_regN (regN_setRegN_ne s (ringPut_ne_ctrl n k).symm _) (regN_setRegN_ne s (ringPut_ne_qlb n k).symm _)

theorem fqFlush_alone (hm : s.canMirrors n = false) : s.fqFlush n k = s.flushRing n k :=
  if_neg fun h => ne_true_of_eq_false (canMirrors_flushRing.trans hm) h.1

theorem flushRing_get : (s.flushRing n k).regN (ringGet n k) = s.regN (ringGet n k) :=
  regN_setRegN_ne s (ringGet_ne_ringPut n k) _

theorem flushRing_put (htb : s.canTb n k = none) :
    (s.flushRing n k).regN (ringPut n k) = s.regN (ringGet n k) % max 1 (s.ringSize n k) := by
  rw [State.flushRing, htb, regN_setFill, regN_setRegN_same, Nat.add_zero]
  exact Nat.mod_eq_of_lt ((Nat.mod_le ..).trans_lt (regN_lt s _))

end

-- cancels (R442, R443)

theorem exec_tbCancel_first {s : State} {n : Fin 16} (h : s.writable (R.CAN_TB_CANCEL n)) :
    exec (.tbCancel n 1) s = .next (settle (s.cancelTb n 0)) := finish_regLive h _

section
variable {s : State} {n : Fin 16} {k : Nat}

theorem cancelTb_empty (h : s.canTb n k = none) : s.cancelTb n k = s := if_pos (by simp [h])

theorem cancelTb_started (h : (s.canTb n k).isSome = true) (hs : s.on (F.CAN_TB_STATUS_STARTED n k) = true) :
    s.cancelTb n k = s.wr (F.CAN_TB_STATUS_CANCEL_RESULT n k) 2 := by
  rw [State.cancelTb, if_neg (by simp [Option.isSome_iff_ne_none.mp h]), if_pos hs]

theorem cancelTb_waiting (h : (s.canTb n k).isSome = true) (hs : s.on (F.CAN_TB_STATUS_STARTED n k) = false) :
    s.cancelTb n k = (s.cancelEnds n k).tbLoad n k := by
  rw [State.cancelTb, if_neg (by simp [Option.isSome_iff_ne_none.mp h]), if_neg (ne_true_of_eq_false hs)]

/-- Where nothing is mirrored a cancel acts in this unit alone. -/
theorem cancelEnds_alone (hk : k < 3) (h : (s.canTb n k).isSome = true) (hm : s.canMirrors n = false) :
    s.cancelEnds n k = ((s.retire n k 1).wr (F.CAN_TB_STATUS_CANCEL_RESULT n k) 1).inc (C.CAN_CANCELLED n) := by
  have hended : (((s.retire n k 1).wr (F.CAN_TB_STATUS_CANCEL_RESULT n k) 1).inc (C.CAN_CANCELLED n)).canMirrors n = false := by
    rw [canMirrors_of_regN (s := s) ?ctrl ?qlb, hm]
    case ctrl =>
      rw [regN_inc_ne _ (by grind), regN_wr_ne _ _ (by grind), regN_retire _ (endAside_low k le_rfl (by grind)) (by grind)]
    case qlb =>
      rw [regN_inc_ne _ (by grind), regN_wr_ne _ _ (by grind), regN_retire _ (endAside_qlbStatus n hk) (by grind)]
  obtain ⟨t, ht⟩ := Option.isSome_iff_exists.mp h
  rw [State.cancelEnds, ht]
  exact if_neg fun h => ne_true_of_eq_false hended h.1

end

end Sys2Proof.Machine
end

section
/-! PROOF. The times and modes of a CAN controller: bit timing, the trellis, the mode in force and the standby of its transceiver (10,
R418 to R425, R446 to R455; 14, R616). -/

namespace Sys2Proof.Machine

-- the trellis (R446, R451, R455)

theorem exec_trellisColumn {s : State} (ha : s.alive = true) (n : Fin 16) (idle : Bool) :
    exec (.trellisColumn n idle) s = .next (settle (s.trellisColumn n idle)) := finish_live ha _

theorem exec_trellisCycle {s : State} {n : Fin 16} (h : s.writable (R.CAN_TT_CYCLE n)) (v : Word) :
    exec (.trellisWrite n 1 v) s = .next (settle (s.trellisWrite n 1 v.toNat)) := finish_regLive (a := R.CAN_TT_CYCLE n) h _

theorem canBusy_ttStopped (s : State) (n : Fin 16) : (s.ttStopped n).canBusy n = s.canBusy n := by
  have hon (k : Nat) : (s.ttStopped n).on (F.CAN_TB_STATUS_STARTED n k) = s.on (F.CAN_TB_STATUS_STARTED n k) :=
    on_of_regN (by rw [State.ttStopped, regN_setRegN_ne _ (by grind), regN_modCan])
  simp only [State.canBusy, hon]

theorem trellisColumn_stopped {s : State} {n : Fin 16} (hwin : (s.canC n).win = none) (hruns : s.ttRuns n = false) (idle : Bool) :
    s.trellisColumn n idle = (s.ttStopped n).wr (F.CAN_STATUS_BUS_IDLE n) (b2n (idle && !s.canBusy n)) := by
  rw [State.trellisColumn, ttAdvance_stopped hwin hruns, if_pos (.inl (by rw [canC_wr, canC_ttStopped])), canBusy_ttStopped]

theorem regRow_ttCycle : ∀ n : Fin 16, regRow? (R.CAN_TT_CYCLE n) = some ⟨0x20A000A4, [(0x4000, 16)], [⟨0, 32, .rw, 0x0⟩], []⟩ := by
  decide +kernel

theorem regN_writeFields_ttCycle (s : State) (n : Fin 16) (v : Word) :
    (s.writeFields (R.CAN_TT_CYCLE n) v.toNat).regN (R.CAN_TT_CYCLE n) = v.toNat := by
  rw [State.writeFields, regRow_ttCycle]
  dsimp only
  rw [regN_setRegN_same, writtenValue_rw (by decide) (by decide) (regN_lt s _), Nat.mod_mod, Nat.mod_eq_of_lt v.isLt]

theorem ttFresh_changes (s : State) (n : Nat) : ∃ c, s.ttFresh n = { s with can := c } := by
  unfold State.ttFresh
  dsimp only
  split
  · exact ⟨s.can, rfl⟩
  · exact ⟨_, rfl⟩

theorem ttLocate_changes (s : State) (n : Nat) : ∃ c v, s.ttLocate n = { s with can := c }.setRegN (R.CAN_TT_STATUS n) v := by
  obtain ⟨c, hc⟩ := ttFresh_changes s n
  unfold State.ttLocate
  split
  · exact ⟨_, _, rfl⟩
  · rw [hc]
    exact ⟨_, _, rfl⟩

/-- The state in which a write of TT_CTRL, TT_CYCLE or TT_PHASE has been taken, before the trellis is placed anew (R455). -/
def State.trellisTaken (s : State) (n a v : Nat) : State :=
  let s := s.writeFields a v
  if s.ttRuns n ∧ (s.canC n).colsCyc.isSome then s.modCan n (fun c => { c with colsCyc := some (s.ttNow n) }) else s

theorem trellisTaken_changes (s : State) (n a v : Nat) : ∃ c, s.trellisTaken n a v = { s.writeFields a v with can := c } := by
  unfold State.trellisTaken
  dsimp only
  split
  · exact ⟨_, rfl⟩
  · exact ⟨_, rfl⟩

section
variable (s : State) (n : Fin 16) (v : Word)

theorem trellisWrite_cycle : s.trellisWrite n 1 v.toNat = (s.trellisTaken n (R.CAN_TT_CYCLE n) v.toNat).ttLocate n := rfl

theorem ttCycle_trellisTaken : (s.trellisTaken n (R.CAN_TT_CYCLE n) v.toNat).ttCycle n = v.toNat := by
  obtain ⟨c, hc⟩ := trellisTaken_changes s n (R.CAN_TT_CYCLE n) v.toNat
  rw [hc]
  exact regN_writeFields_ttCycle s n v

theorem ttCycle_trellisWrite : (s.trellisWrite n 1 v.toNat).ttCycle n = v.toNat := by
  obtain ⟨c, w, hc⟩ := ttLocate_changes (s.trellisTaken n (R.CAN_TT_CYCLE n) v.toNat) n
  rw [trellisWrite_cycle, hc, State.ttCycle, regN_setRegN_ne _ (by grind)]
  exact ttCycle_trellisTaken s n v

theorem trellisWrite_mem : (s.trellisWrite n 1 v.toNat).mem = s.mem := by
  obtain ⟨c, w, hc⟩ := ttLocate_changes (s.trellisTaken n (R.CAN_TT_CYCLE n) v.toNat) n
  obtain ⟨d, hd⟩ := trellisTaken_changes s n (R.CAN_TT_CYCLE n) v.toNat
  rw [trellisWrite_cycle, hc, setRegN_mem, hd]
  exact writeFields_mem ..

/-- A cycle of 0 stops the trellis (R446). -/
theorem trellisWrite_zero {v : Word} (hv : v.toNat = 0) :
    s.trellisWrite n 1 v.toNat = (s.trellisTaken n (R.CAN_TT_CYCLE n) v.toNat).ttStopped n := by
  have hruns : (s.trellisTaken n (R.CAN_TT_CYCLE n) v.toNat).ttRuns n = false := by
    simp [State.ttRuns, (ttCycle_trellisTaken s n v).trans hv]
  rw [trellisWrite_cycle, ttLocate_stopped hruns]

end

-- modes (R418 to R420)

theorem exec_modeChange {s : State} (ha : s.alive = true) (n : Fin 16) : exec (.modeChange n) s = .next (settle (s.modeChange n)) :=
  finish_live ha _

section
variable {s : State} {n : Nat}

theorem modeChange_inForce (h : s.modeTarget n = s.rd (F.CAN_STATUS_EFF_MODE n)) : s.modeChange n = s := if_pos h

variable (hnew : s.modeTarget n ≠ s.rd (F.CAN_STATUS_EFF_MODE n))
include hnew

theorem modeChange_enters (h : (s.modeTarget n = 0 ∧ s.winding = false) ∨ s.canBusy n = false) :
    s.modeChange n = s.enterMode n (s.modeTarget n) := by
  refine (if_neg hnew).trans (if_neg fun ⟨hlate, hbusy⟩ => ?_)
  rcases h with ⟨hoff, hw⟩ | h
  · exact hlate.elim (· hoff) (ne_true_of_eq_false hw)
  · exact ne_true_of_eq_false h hbusy

theorem modeChange_waits (hlate : s.modeTarget n ≠ 0 ∨ s.winding = true) (hbusy : s.canBusy n = true) : s.modeChange n = s :=
  (if_neg hnew).trans (if_pos ⟨hlate, hbusy⟩)

end

-- bit timing (R424, R425)

theorem exec_nominalTiming {s : State} {n : Fin 16} (h : s.writable (R.CAN_NBT n)) (v : Word) :
    exec (.bitTimingWrite n 0 v) s = .next (settle (s.bitTimingWrite n 0 v.toNat)) := finish_regLive (a := R.CAN_NBT n) h _

theorem bitTimingWrite_off {s : State} {n : Nat} (h : s.rd (F.CAN_CTRL_MODE n) = 0 ∨ 5 ≤ s.rd (F.CAN_CTRL_MODE n)) (v : Nat) :
    s.bitTimingWrite n 0 v = (s.writeFields (R.CAN_NBT n) v).canCheck n ((s.writeFields (R.CAN_NBT n) v).rateBad n) := if_pos h

theorem bitTimingWrite_on {s : State} {n : Nat} (hlo : 1 ≤ s.rd (F.CAN_CTRL_MODE n)) (hhi : s.rd (F.CAN_CTRL_MODE n) ≤ 4) (v : Nat) :
    s.bitTimingWrite n 0 v = s.cfgError n := if_neg (by omega)

-- the standby output of a controller (R421, R422; 14, R616)

section
variable {s : State} {n : Nat}

theorem ballCanStb_early (hp : s.power < 3) (hb : s.boot.step < 12) : s.ballCanStb n = .high := by
  rw [State.ballCanStb, if_neg (by simp [State.asleep, hp]), if_pos hb]

theorem levelOf_decide (p : Prop) [Decidable p] : levelOf (decide p) = if p then .high else .low := by simp [levelOf]

theorem levelOf_not (b : Bool) : levelOf (!b) = if b then .low else .high := by cases b <;> rfl

section
variable (hp : s.power < 3) (hb : s.boot.step = 12)
include hp hb

theorem ballCanStb_fixedHigh (h : s.rd (F.CAN_CTRL_STB_MODE n) = 1) : s.ballCanStb n = .high := by
  rw [State.ballCanStb, if_neg (by simp [State.asleep, hp]), if_neg (by omega), h]
  rfl

theorem ballCanStb_fixedLow (h : s.rd (F.CAN_CTRL_STB_MODE n) = 2) : s.ballCanStb n = .low := by
  rw [State.ballCanStb, if_neg (by simp [State.asleep, hp]), if_neg (by omega), h]
  rfl

theorem ballCanStb_byMode (h1 : s.rd (F.CAN_CTRL_STB_MODE n) ≠ 1) (h2 : s.rd (F.CAN_CTRL_STB_MODE n) ≠ 2) :
    s.ballCanStb n = if s.rd (F.CAN_STATUS_EFF_MODE n) = 0 then .high else .low := by
  rw [State.ballCanStb, if_neg (by simp [State.asleep, hp]), if_neg (by omega)]
  split
  · contradiction
  · contradiction
  · exact levelOf_decide _

end

theorem ballCanStb_asleep (hp : 3 ≤ s.power) : s.ballCanStb n =
    if n < 4 ∧ s.wak.armed.testBit (16 + n) = true ∧ s.rd (F.WAK_C_CTRL_MODE n) ≠ 0 then .low else .high := by
  rw [State.ballCanStb, if_pos (by simp [State.asleep, hp])]
  simp only [levelOf_not, Bool.and_eq_true, decide_eq_true_eq, and_assoc]

end

/-- Settles O47, command by command. -/
theorem canQueuesAndTimes : Obligations.CanQueuesAndTimes := by
  intro n s
  refine ⟨fun k e r ha htb hsize hhead => ⟨fun hv => ?valid, fun hv => ?invalid⟩, fun k ha h => ?kept, fun k v hw h => ?refused,
    fun k v hw hduty => ⟨fun ho => ?owned, fun ho h => ?full, fun ho hin hwords hroom hm => ?taken⟩,
    fun k hw _ hm htb => ⟨s.flushRing n k, ?flush, flushRing_fill htb, rfl, flushRing_put htb, flushRing_get⟩,
    fun t hw ht hs hm => ?cancel, fun hw ht hs => ?late, fun hw ht => ?empty, fun idle ha hwin hruns => ?column,
    fun v hw => ⟨s.trellisWrite n 1 v.toNat, exec_trellisCycle hw v, ttCycle_trellisWrite s n v, fun hv => ?stopped,
      trellisWrite_mem s n v⟩, fun m ha hm hnew => ⟨fun h => ?enters, fun hlate hbusy => ?waits⟩, fun ha h => ?inForce,
    fun v hw => ⟨fun h => ?timed, fun hlo hhi => ?untimed⟩, fun hp => ⟨ballCanStb_early hp, fun hb => ?standby⟩,
    ballCanStb_asleep, rfl⟩
  case valid => rw [exec_tbLoad ha, tbLoad_valid htb hsize hhead hv]
  case invalid => rw [exec_tbLoad ha, tbLoad_invalid htb hsize hhead hv]
  case kept =>
    have hkept : s.tbLoad n k = s := h.elim (fun h => tbLoad_kept (.inl h)) (·.elim (fun h => tbLoad_kept (.inr h)) tbLoad_short)
    rw [exec_tbLoad ha, hkept]
  case refused => rw [exec_fqPut hw, fqPut_refused h]
  case owned => rw [exec_fqPut hw, fqPut_owned hduty ho]
  case full => rw [exec_fqPut hw, fqPut_full hduty ho h]
  case taken => rw [exec_fqPut hw, fqPut_taken hduty ho hin hwords hroom hm]; rfl
  case flush => rw [exec_fqFlush hw, fqFlush_alone hm]
  case cancel =>
    have hsome : (s.canTb n 0).isSome = true := by rw [ht, Option.isSome_some]
    rw [exec_tbCancel_first hw, cancelTb_waiting hsome hs, cancelEnds_alone (by decide) hsome hm]
  case late => rw [exec_tbCancel_first hw, cancelTb_started ht hs]
  case empty => rw [exec_tbCancel_first hw, cancelTb_empty ht]
  case column => rw [exec_trellisColumn ha, trellisColumn_stopped hwin hruns]; rfl
  case stopped =>
    rw [trellisWrite_zero s n hv, canC_ttStopped]
    exact ⟨rfl, regN_setRegN_same ..⟩
  case enters => rw [exec_modeChange ha, modeChange_enters (hm ▸ hnew) (hm ▸ h), hm]
  case waits => rw [exec_modeChange ha, modeChange_waits (hm ▸ hnew) (hm ▸ hlate) hbusy]
  case inForce => rw [exec_modeChange ha, modeChange_inForce h]
  case timed => rw [exec_nominalTiming hw, bitTimingWrite_off h]; rfl
  case untimed => rw [exec_nominalTiming hw, bitTimingWrite_on hlo hhi]
  case standby =>
    split
    · exact ballCanStb_fixedHigh hp hb ‹_›
    · exact ballCanStb_fixedLow hp hb ‹_›
    · exact ballCanStb_byMode hp hb ‹_› ‹_›

end Sys2Proof.Machine
end

section
/-! PROOF. O1, O2 and O5: a step runs the command at the front of the queue; every command ends in `settle`; and a reset that is due
takes place as the last thing that `settle` does. -/

namespace Sys2Proof.Machine

/-- Settles O1, by the definition of a step on a queue that is not empty. -/
theorem stepTakesTheFront : Obligations.StepTakesTheFront := by
  intro c r s h
  simp only [step, h]

/-- Every command's meaning ends in what follows from its effect. -/
theorem exec_eq_settle (c : Instr) (s : State) : ∃ t, exec c s = .next (settle t) := by
  cases c <;> exact ⟨_, rfl⟩

/-- So does every step, a TIME cycle too. -/
theorem step_eq_settle (s : State) : ∃ t, step s = .next (settle t) := by
  cases hp : s.pending with
  | nil => exact ⟨_, step_empty hp⟩
  | cons c r =>
    rw [stepTakesTheFront c r s hp]
    exact exec_eq_settle ..

/-- Settles O2: no command and no TIME cycle answers anything but a next state. -/
theorem everyCommandAnswers : Obligations.EveryCommandAnswers := by
  refine ⟨exec_eq_settle, fun s => ?_⟩
  obtain ⟨t, ht⟩ := step_eq_settle s
  exact ⟨_, ht⟩

/-- A property that `settle` leaves every state with holds after every step. -/
theorem step_of_settle {P : State → Prop} (h : ∀ s, P (settle s)) {s t : State} (hst : step s = .next t) : P t := by
  obtain ⟨u, hu⟩ := step_eq_settle s
  rw [hu] at hst
  cases hst
  exact h u

/-- A reset leaves no reset due. -/
@[simp] theorem afterReset_flt_due (s : State) (cause : Nat) (pairId : Bool) : (s.afterReset cause pairId).flt.due = 0 := by
  unfold State.afterReset
  dsimp only
  split <;> rfl

/-- What is due takes place, unless it is a maintenance restart whose answer is on its way (R657, R672). -/
theorem dueReset_taken (s : State) : s.dueReset.resetTaken := by
  have hreset : ∀ c b, (s.afterReset c b).resetTaken := fun c b => by simp [State.resetTaken]
  unfold State.dueReset
  split
  · exact hreset ..
  · exact hreset ..
  · split
    · next h ha => exact ⟨by omega, by omega, fun _ => ha⟩
    · exact hreset ..
  · next h1 h2 h3 => exact ⟨h1, h2, fun h => absurd h h3⟩

/-- Settles O5: `settle` ends with the reset that is due. -/
theorem dueResetsAreTaken : Obligations.DueResetsAreTaken := fun _ _ _ => step_of_settle fun _ => dueReset_taken _

end Sys2Proof.Machine
end

section
/-! PROOF. O4, O6 and O8: a unit that is down has given up its outputs and its sweep, since the stop of the outputs only clears bits
and empties what it stops; need ends READY and PREPARE; and the state after reset has every invariant. -/

namespace Sys2Proof.Machine

-- writes that only clear bits of registers

/-- No register of `t` has a bit that it lacks in `s`. -/
def ClearsBits (s t : State) : Prop := ∀ a i, (t.regN a).testBit i = true → (s.regN a).testBit i = true

theorem ClearsBits.refl (s : State) : ClearsBits s s := fun _ _ h => h

theorem ClearsBits.trans {s t u : State} (h : ClearsBits s t) (k : ClearsBits t u) : ClearsBits s u := fun a i hu => h a i (k a i hu)

theorem clearsBits_of_regs {s t : State} (h : t.regs = s.regs) : ClearsBits s t := fun a i ht => by
  simpa [State.regN, State.reg, h] using ht

theorem clearsBits_setRegN {s : State} {a v : Nat} (h : ∀ i, v.testBit i = true → (s.regN a).testBit i = true) :
    ClearsBits s (s.setRegN a v) := by
  intro b i hb
  by_cases hab : b = a
  · subst hab
    rw [regN_setRegN_same, Nat.testBit_mod_two_pow, Bool.and_eq_true] at hb
    exact h i hb.2
  · rwa [regN_setRegN_ne s hab] at hb

/-- A field written 0 loses its bits. -/
theorem clearsBits_wr_zero (s : State) (f : Fld) : ClearsBits s (s.wr f 0) :=
  clearsBits_setRegN fun i hi => by
    rw [testBit_insertField] at hi
    split at hi
    · simp at hi
    · exact hi

theorem clearsBits_mask (s : State) (a m : Nat) : ClearsBits s (s.setRegN a (s.regN a &&& m)) :=
  clearsBits_setRegN fun i hi => by
    rw [Nat.testBit_and, Bool.and_eq_true] at hi
    exact hi.1

theorem clearsBits_foldl {α : Type} {f : State → α → State} (h : ∀ s x, ClearsBits s (f s x)) (l : List α) (s : State) :
    ClearsBits s (l.foldl f s) :=
  List.foldlRecOn (motive := ClearsBits s) l f (.refl s) fun t ht x _ => ht.trans (h t x)

/-- A field that read 0 still does. -/
theorem ClearsBits.rd_zero {s t : State} (h : ClearsBits s t) {f : Fld} (hf : s.rd f = 0) : t.rd f = 0 := by
  refine Nat.eq_of_testBit_eq fun i => ?_
  by_contra hne
  have hbit : (t.rd f).testBit i = true := by simpa using hne
  rw [State.rd, testBit_bits, Bool.and_eq_true] at hbit
  have hs : (s.rd f).testBit i = true := by rw [State.rd, testBit_bits, hbit.1, h _ _ hbit.2]; rfl
  rw [hf] at hs
  simp at hs

theorem rd_wr_zero (s : State) {f : Fld} (hf : f.lo + f.w ≤ 32) : (s.wr f 0).rd f = 0 := by
  rw [rd_wr_same s f hf, Nat.zero_mod]

/-- A fold that clears bits, and in one of its steps a field, leaves the field 0. -/
theorem rd_foldl_zero {α : Type} {f : State → α → State} {g : Fld} {l : List α} {x : α} (hx : x ∈ l) (hset : ∀ s, (f s x).rd g = 0)
    (hclear : ∀ s y, ClearsBits s (f s y)) (s : State) : (l.foldl f s).rd g = 0 :=
  foldl_of_step (P := fun s => s.rd g = 0) hx hset (fun s y hs => (hclear s y).rd_zero hs) s

-- the stop of the outputs (16, R664, R665)

theorem clearsBits_setTxOn (s : State) : ClearsBits s (s.setTxOn 0) := by
  unfold State.setTxOn
  exact clearsBits_foldl (fun s _ => clearsBits_wr_zero s _) _ s

theorem clearsBits_stopMacs (s : State) : ClearsBits s s.stopMacs := by
  have hmac (u : State) (m : Sparse MacPort) : ClearsBits u { u with mac := m } := clearsBits_of_regs rfl
  exact (clearsBits_setTxOn s).trans (hmac _ _)

theorem clearsBits_wr_wr (s : State) (f g : Fld) : ClearsBits s ((s.wr f 0).wr g 0) :=
  (clearsBits_wr_zero s f).trans (clearsBits_wr_zero _ g)

theorem clearsBits_stopChannels (s : State) : ClearsBits s s.stopChannels := by
  unfold State.stopChannels
  exact ((clearsBits_foldl (fun s _ => clearsBits_mask s _ _) _ s).trans (clearsBits_foldl (fun s _ => clearsBits_wr_wr s _ _) _ _)).trans
    (clearsBits_foldl (fun s _ => clearsBits_wr_wr s _ _) _ _)

theorem setTxOn_txOn (s : State) {p : Nat} (hp : p < 24) : (s.setTxOn 0).rd (F.MAC_STATUS_TX_ON p) = 0 := by
  unfold State.setTxOn
  exact rd_foldl_zero (List.mem_range.mpr hp) (fun s => rd_wr_zero s (Nat.le_of_ble_eq_true rfl)) (fun s _ => clearsBits_wr_zero s _) s

theorem stopChannels_ser (s : State) {n : Nat} (hn : n < 8) :
    s.stopChannels.rd (F.SER_STATUS_DE n) = 0 ∧ s.stopChannels.rd (F.SER_STATUS_TX_BUSY n) = 0 := by
  have hde (s : State) : ((s.wr (F.SER_STATUS_DE n) 0).wr (F.SER_STATUS_TX_BUSY n) 0).rd (F.SER_STATUS_DE n) = 0 :=
    (clearsBits_wr_zero _ _).rd_zero (rd_wr_zero s (Nat.le_of_ble_eq_true rfl))
  unfold State.stopChannels
  exact ⟨(clearsBits_foldl (fun s _ => clearsBits_wr_wr s _ _) _ _).rd_zero
      (rd_foldl_zero (List.mem_range.mpr hn) hde (fun s _ => clearsBits_wr_wr s _ _) _),
    (clearsBits_foldl (fun s _ => clearsBits_wr_wr s _ _) _ _).rd_zero
      (rd_foldl_zero (List.mem_range.mpr hn) (fun s => rd_wr_zero _ (Nat.le_of_ble_eq_true rfl)) (fun s _ => clearsBits_wr_wr s _ _) _)⟩

theorem stopChannels_tdm (s : State) {p : Nat} (hp : p < 4) : s.stopChannels.rd (F.AUD_TDM_STATUS_DRIVING p) = 0 := by
  unfold State.stopChannels
  exact rd_foldl_zero (List.mem_range.mpr hp)
    (fun s => (clearsBits_wr_zero _ _).rd_zero (rd_wr_zero s (Nat.le_of_ble_eq_true rfl))) (fun s _ => clearsBits_wr_wr s _ _) _

/-- An entry of a changed table is unlisted or a changed one. -/
theorem sget_smap {α : Type} [DecidableEq α] (d : α) (f : Nat → α → α) (k : Nat) (m : Sparse α) :
    sget d (smap d f m) k = d ∨ ∃ v, sget d (smap d f m) k = f k v := by
  induction m with
  | nil => exact .inl rfl
  | cons e r ih =>
    obtain ⟨k', v⟩ := e
    by_cases hv : f k' v = d
    · simpa [smap, hv] using ih
    · by_cases hk : k' = k
      · subst hk
        exact .inr ⟨v, by simp [smap, hv, sget]⟩
      · simpa [smap, hv, sget, hk] using ih

/-- The frame path of a port while its MAC is stopped. -/
def MacPort.stopped (m : MacPort) : Prop := m.tx = none ∧ m.rest = none ∧ m.ctrl = []

theorem stopMacs_port (s : State) {p : Nat} (hp : p < 24) : (s.stopMacs.port p).stopped := by
  unfold State.port State.stopMacs
  dsimp only
  rcases sget_smap macPort0 (fun p m => if p < 24 then { m with tx := none, rest := none, ctrl := [] } else m) p (s.setTxOn 0).mac with
    h | ⟨v, h⟩
  · rw [h]
    exact ⟨rfl, rfl, rfl⟩
  · rw [h, if_pos hp]
    exact ⟨rfl, rfl, rfl⟩

theorem stopPulses_pulse (s : State) (n : Nat) :
    (sget pls0 s.stopPulses.pls n).high = false ∧ (sget pls0 s.stopPulses.pls n).edge = none := by
  unfold State.stopPulses
  dsimp only
  rcases sget_smap pls0 (fun _ x => { x with high := false, edge := none, fall := none }) n s.pls with h | ⟨v, h⟩ <;> rw [h] <;>
    exact ⟨rfl, rfl⟩

/-- The stop of the channels changes registers only. -/
theorem stopChannels_frame {γ : Type} (g : State → γ) (hg : ∀ s a v, g (State.setRegN s a v) = g s) (s : State) :
    g s.stopChannels = g s := by
  have hpair (f h : Fld) (s : State) : g ((s.wr f 0).wr h 0) = g s := (hg ..).trans (hg ..)
  unfold State.stopChannels
  exact (foldl_frame g (fun s _ => hpair _ _ s) _ _).trans
    ((foldl_frame g (fun s _ => hpair _ _ s) _ _).trans (foldl_frame g (fun s _ => hg s _ _) _ _))

@[simp] theorem setTxOn_cnt (s : State) (v : Nat) : (s.setTxOn v).cnt = s.cnt := by
  unfold State.setTxOn
  exact foldl_frame State.cnt (fun _ _ => wr_cnt ..) _ s

@[simp] theorem stopMacs_cnt (s : State) : s.stopMacs.cnt = s.cnt := by
  have hmac (u : State) (m : Sparse MacPort) : { u with mac := m }.cnt = u.cnt := rfl
  rw [State.stopMacs, hmac, setTxOn_cnt]

@[simp] theorem silenced_cnt (s : State) : s.silenced.cnt = s.cnt := by
  have hpulses (u : State) : u.stopPulses.cnt = u.cnt := rfl
  rw [State.silenced, stopChannels_frame State.cnt (fun _ _ _ => rfl), hpulses, stopMacs_cnt]
  rfl

/-- Once its outputs are stopped a unit drives nothing (R664, R665). -/
theorem silenced_quiet (s : State) : s.silenced.downQuiet := by
  intro _
  unfold State.silenced
  have hpulses (u : State) : ClearsBits u u.stopPulses := clearsBits_of_regs rfl
  have hchan (u : State) : ClearsBits u u.stopPulses.stopChannels := (hpulses u).trans (clearsBits_stopChannels _)
  have hhalt : s.haltEngines.rd F.ENG_RUN_RUNNING = 0 := rd_wr_zero s (by decide)
  refine ⟨((clearsBits_stopMacs _).trans (hchan _)).rd_zero hhalt, fun p hp => ?_, fun n => ?_, fun n hn => stopChannels_ser _ hn,
    fun p hp => stopChannels_tdm _ hp⟩
  · obtain ⟨htx, hrest, hctrl⟩ := stopMacs_port s.haltEngines hp
    have hmac (u : State) (m : Sparse MacPort) : ClearsBits u { u with mac := m } := clearsBits_of_regs rfl
    have hon : s.haltEngines.stopMacs.rd (F.MAC_STATUS_TX_ON p) = 0 := (hmac _ _).rd_zero (setTxOn_txOn _ hp)
    have hport (u : State) : u.stopPulses.port p = u.port p := rfl
    rw [stopChannels_frame (fun u => u.port p) (fun _ _ _ => rfl), hport]
    exact ⟨htx, hrest, hctrl, (hchan _).rd_zero hon⟩
  · rw [stopChannels_frame State.pls (fun _ _ _ => rfl)]
    exact stopPulses_pulse _ n

/-- A sweep that is cut runs no more (R708). -/
theorem cutSweep_run (s : State) : s.cutSweep.cnt.run = none := by
  unfold State.cutSweep
  split
  · assumption
  · dsimp only
    split <;> rfl

/-- A unit that is down has given up what it drove and its sweep. -/
theorem giveUp_quiet (s : State) : s.giveUp.downQuiet ∧ s.giveUp.sweepCut := by
  unfold State.giveUp
  split
  · refine ⟨silenced_quiet _, fun _ => ?_⟩
    rw [silenced_cnt, cutSweep_run]
  · next h => exact ⟨fun hd => absurd hd h, fun hd => absurd hd h⟩

-- messages to the partner

/-- The counters that a message to the partner advances (Tables 12-12 and 13-11). -/
abbrev linkCounter (a : Nat) : Prop := a = C.CPH_JOBS_LO ∨ a = C.CPH_JOBS_LO + 4 ∨ a = C.QLB_LF_TX ∨ a = C.QLB_MIRROR_TX

/-- A message to the partner changes the link and its counters, and nothing else. -/
structure OnlyLink (s t : State) : Prop where
  rest : ∃ r q, t = { s with regs := r, qlb := q }
  reg : ∀ a, ¬ linkCounter a → t.regN a = s.regN a

theorem OnlyLink.refl (s : State) : OnlyLink s s := ⟨⟨_, _, rfl⟩, fun _ _ => rfl⟩

theorem OnlyLink.trans {s t u : State} (h : OnlyLink s t) (k : OnlyLink t u) : OnlyLink s u := by
  obtain ⟨⟨r, q, rfl⟩, hreg⟩ := h
  obtain ⟨⟨r', q', rfl⟩, kreg⟩ := k
  exact ⟨⟨r', q', rfl⟩, fun a ha => (kreg a ha).trans (hreg a ha)⟩

theorem onlyLink_setQlb (s : State) (q : Qlb) : OnlyLink s (s.setQlb q) := ⟨⟨_, q, rfl⟩, fun _ _ => rfl⟩

theorem onlyLink_inc (s : State) {c : Nat} (h : linkCounter c) : OnlyLink s (s.inc c) :=
  ⟨⟨_, s.qlb, rfl⟩, fun _ ha => regN_inc_ne s (fun e => ha (e ▸ h))⟩

theorem onlyLink_linkJob (s : State) : OnlyLink s s.linkJob := by
  refine ⟨(linkJob_changes s).imp fun r hr => ⟨s.qlb, hr⟩, fun a ha => ?_⟩
  unfold State.linkJob
  split
  · show (s.setPair C.CPH_JOBS_LO (C.CPH_JOBS_LO + 4) _).regN a = s.regN a
    rw [State.setPair, regN_setRegN_ne _ (fun e => ha (.inr (.inl e))), regN_setRegN_ne _ (fun e => ha (.inl e))]
  · rfl

theorem onlyLink_emit (s : State) (vc : Nat) (m : LinkMsg) : OnlyLink s (s.emit vc m) := by
  unfold State.emit
  extract_lets q src q' u
  have hu : OnlyLink s u :=
    ((onlyLink_setQlb s q').trans (onlyLink_inc _ (.inr (.inr (.inl rfl))))).trans (onlyLink_linkJob _)
  split
  · exact hu.trans (onlyLink_inc _ (.inr (.inr (.inr rfl))))
  · exact hu

theorem onlyLink_linkSend (s : State) (vc : Nat) (m : LinkMsg) : OnlyLink s (s.linkSend vc m) := by
  unfold State.linkSend
  split
  · exact .refl s
  · split
    · exact onlyLink_emit ..
    · exact onlyLink_setQlb ..

theorem onlyLink_mirror (s : State) (m : LinkMsg) : OnlyLink s (s.mirror m) := by
  unfold State.mirror
  split
  · exact onlyLink_linkSend ..
  · exact .refl s

theorem OnlyLink.rd {s t : State} (h : OnlyLink s t) {f : Fld} (hf : ¬ linkCounter f.addr) : t.rd f = s.rd f := by
  rw [State.rd, State.rd, h.reg _ hf]

theorem OnlyLink.flt {s t : State} (h : OnlyLink s t) : t.flt = s.flt := by
  obtain ⟨⟨r, q, rfl⟩, -⟩ := h
  rfl

theorem OnlyLink.boot {s t : State} (h : OnlyLink s t) : t.boot = s.boot := by
  obtain ⟨⟨r, q, rfl⟩, -⟩ := h
  rfl

theorem OnlyLink.mem {s t : State} (h : OnlyLink s t) : t.mem = s.mem := by
  obtain ⟨⟨r, q, rfl⟩, -⟩ := h
  rfl

theorem OnlyLink.flash {s t : State} (h : OnlyLink s t) : t.flash = s.flash := by
  obtain ⟨⟨r, q, rfl⟩, -⟩ := h
  rfl

-- the sleep agreement (Table 14-4)

theorem toAgreement_agreement (s : State) {a : Nat} (h : a < 4) : (s.toAgreement a).agreement = a := by
  show (s.wr F.WAK_STATUS_STATE a).rd F.WAK_STATUS_STATE = a
  rw [rd_wr_same s _ (by decide)]
  exact Nat.mod_eq_of_lt (h.trans_le (by decide))

/-- An agreement that is aborted is AWAKE. -/
theorem abortSleep_agreement (s : State) (tell : Bool) : (s.abortSleep tell).agreement = 0 := by
  have hawake (u : State) : ((((u.toAgreement 0).inc C.WAK_ABORTS).raise 0x0F01 0)).agreement = 0 := by
    rw [State.agreement, rd_raise_ne _ _ _ (fun g hg => by cases hg; decide), rd_inc_ne _ (by decide)]
    exact toAgreement_agreement u (by decide)
  unfold State.abortSleep
  dsimp only
  split
  · rw [State.agreement, (onlyLink_mirror ..).rd (by decide)]
    exact hawake _
  · exact hawake _

/-- What the evaluation of the agreement can do: nothing where no need stands against READY or PREPARE, and else the return to AWAKE. -/
theorem wakEvaluate_cases (s : State) :
    (s.wakEvaluate = s.confirmWake ∧ (s.confirmWake.agreement = 1 ∨ s.confirmWake.agreement = 2 →
      s.confirmWake.networkNeed = 0 ∧ s.confirmWake.on F.WAK_CTRL_EN = true)) ∨
    s.wakEvaluate = s.confirmWake.toAgreement 0 ∨ s.wakEvaluate = s.confirmWake.abortSleep true := by
  unfold State.wakEvaluate
  extract_lets u hold
  have hnone (h : ¬ hold = true) : u.networkNeed = 0 ∧ u.on F.WAK_CTRL_EN = true := by simpa [hold] using h
  split
  · split
    · exact .inr (.inl rfl)
    · next h => exact .inl ⟨rfl, fun _ => hnone h⟩
  · split
    · exact .inr (.inr rfl)
    · next h => exact .inl ⟨rfl, fun _ => hnone h⟩
  · next h1 h2 => exact .inl ⟨rfl, fun h => (h.elim h1 h2).elim⟩

/-- After the evaluation READY and PREPARE stand only without need and with EN set (Table 14-4). -/
theorem wakEvaluate_heeds (s : State) : s.wakEvaluate.needHeeded := by
  intro _
  rcases wakEvaluate_cases s with ⟨he, hneed⟩ | he | he <;> rw [he]
  · exact hneed
  · rw [toAgreement_agreement _ (by decide)]
    omega
  · rw [abortSleep_agreement]
    omega

theorem confirmWake_down (s : State) : s.confirmWake.down = s.down := by
  unfold State.confirmWake
  split
  · rfl
  · dsimp only
    split
    · rfl
    · split <;> rfl

theorem toAgreement_down (s : State) (a : Nat) : (s.toAgreement a).down = s.down := rfl

theorem abortSleep_down (s : State) (tell : Bool) : (s.abortSleep tell).down = s.down := by
  have hraise (u : State) : (u.raise 0x0F01 0).down = u.down := by rw [State.down, State.down, raise_flt, raise_boot]
  have hmirror (u : State) : (u.mirror (.wakState .abort)).down = u.down := by
    rw [State.down, State.down, (onlyLink_mirror ..).flt, (onlyLink_mirror ..).boot]
  unfold State.abortSleep
  dsimp only
  split
  · exact (hmirror _).trans ((hraise _).trans rfl)
  · exact (hraise _).trans rfl

/-- The evaluation of the agreement leaves the unit up or down. -/
theorem wakEvaluate_down (s : State) : s.wakEvaluate.down = s.down := by
  rcases wakEvaluate_cases s with ⟨he, -⟩ | he | he <;> rw [he]
  · exact confirmWake_down s
  · exact confirmWake_down s
  · rw [abortSleep_down, confirmWake_down]

-- the end of `settle`

theorem down_of_alive {s : State} (h : s.alive = true) : s.down = false := by
  simp only [State.alive, Bool.and_eq_true, Bool.not_eq_true', decide_eq_true_eq] at h
  have hstep : s.boot.step ≠ 0 := by omega
  simp [State.down, h.1, hstep]

/-- A unit after a reset is at bring-up step 1: neither down nor running. -/
theorem afterReset_down (s : State) (cause : Nat) (pairId : Bool) : (s.afterReset cause pairId).down = false := by
  unfold State.afterReset
  dsimp only
  split <;> rfl

theorem afterReset_alive (s : State) (cause : Nat) (pairId : Bool) : (s.afterReset cause pairId).alive = false := by
  unfold State.afterReset
  dsimp only
  split <;> rfl

/-- A reset that is due takes place or waits; nothing else comes of it. -/
theorem dueReset_cases (s : State) : s.dueReset = s ∨ ∃ cause, s.dueReset = s.afterReset cause s.boot.pairId := by
  unfold State.dueReset
  split
  · exact .inr ⟨1, rfl⟩
  · exact .inr ⟨2, rfl⟩
  · split
    · exact .inl rfl
    · exact .inr ⟨1, rfl⟩
  · exact .inl rfl

theorem dueReset_quiet {s : State} (h : s.downQuiet ∧ s.sweepCut) : s.dueReset.downQuiet ∧ s.dueReset.sweepCut := by
  rcases dueReset_cases s with he | ⟨cause, he⟩ <;> rw [he]
  · exact h
  · have hup := afterReset_down s cause s.boot.pairId
    exact ⟨fun hd => by simp [hup] at hd, fun hd => by simp [hup] at hd⟩

theorem dueReset_heeds {s : State} (h : s.needHeeded) : s.dueReset.needHeeded := by
  rcases dueReset_cases s with he | ⟨cause, he⟩ <;> rw [he]
  · exact h
  · exact fun ha => by simp [afterReset_alive] at ha

theorem settle_quiet (s : State) : (settle s).downQuiet ∧ (settle s).sweepCut := by
  unfold settle
  extract_lets u v w
  refine dueReset_quiet ?_
  by_cases ha : v.alive = true
  · have hup : w.down = false := by simp only [w, if_pos ha, wakEvaluate_down, down_of_alive ha]
    exact ⟨fun hd => by simp [hup] at hd, fun hd => by simp [hup] at hd⟩
  · have hw : w = v := if_neg ha
    rw [hw]
    exact giveUp_quiet _

theorem settle_heeds (s : State) : (settle s).needHeeded := by
  unfold settle
  extract_lets u v w
  refine dueReset_heeds ?_
  by_cases ha : v.alive = true
  · have hw : w = v.wakEvaluate := if_pos ha
    rw [hw]
    exact wakEvaluate_heeds v
  · have hw : w = v := if_neg ha
    rw [hw]
    exact fun h => absurd h ha

/-- Settles O4: `settle` takes from a unit that is down what it drives and its sweep, and nothing after that brings a unit down. -/
theorem downDrivesNothing : Obligations.DownDrivesNothing := fun _ _ _ _ =>
  step_of_settle (P := fun t => t.downQuiet ∧ t.sweepCut) settle_quiet

/-- Settles O6: `settle` evaluates the agreement of a unit that is alive, and nothing after that but a reset follows. -/
theorem needEndsTheAgreement : Obligations.NeedEndsTheAgreement := fun _ _ _ => step_of_settle settle_heeds

/-- Settles O8, conjunct by conjunct: the state after reset is up, at bring-up step 1, with empty tables. -/
theorem resetHoldsTheInvariants : Obligations.ResetHoldsTheInvariants := by
  have hup : State.reset.down = false := rfl
  have halive : State.reset.alive = false := rfl
  refine ⟨fun h => ?_, fun _ => rfl, ⟨by decide, by decide, fun h => ?_⟩, fun h => ?_, ⟨rfl, rfl⟩,
    ⟨hup, rfl, rfl, rfl, rfl, rfl, rfl, rfl, .inl rfl, by decide, by decide⟩, rfl⟩
  · simp [hup] at h
  · exact absurd h (by decide)
  · simp [halive] at h

end Sys2Proof.Machine
end

section
/-! PROOF. The glove frame (11, R481, R484, R491, Tables 11-2 and 11-3): the fields of its header, its items, and the body of a CAN item. -/

namespace Sys2Proof.Machine

-- fields of octet strings

/-- A field that begins a string of octets. -/
theorem fld_beBytes (n v : Nat) (r : List Byte) : fld (beBytes n v ++ r) 0 n = v % 2 ^ (8 * n) := by
  rw [fld, List.drop_zero, List.take_left' (length_beBytes n v), beNat_beBytes]

/-- A field behind the octets that a string begins with. -/
theorem fld_append {a : List Byte} {o : Nat} (h : a.length ≤ o) (r : List Byte) (n : Nat) : fld (a ++ r) o n = fld r (o - a.length) n := by
  rw [fld, fld, List.drop_append, List.drop_eq_nil_of_le h, List.nil_append]

-- the frame (Table 11-2)

/-- What stands before the items of a glove frame. -/
def gloveHead (addr : List Byte) (c flags seq count : Nat) (stamp : Bool) (body : List Byte) : List Byte :=
  addr ++ (beBytes 2 0x88B5 ++ (beBytes 1 (subtypeOf c) ++ (beBytes 1 1 ++ (beBytes 1 flags ++ (beBytes 1 c ++ (beBytes 2 seq ++
    (beBytes 2 count ++ ((if stamp then zeros 8 else []) ++ body))))))))

/-- An item of a glove frame: its length, its age and its body. -/
def State.itemOctets (s : State) (i : List Byte × Nat) : List Byte :=
  beBytes 2 i.1.length ++ (beBytes 2 (min 65535 (s.lcUs - i.2)) ++ i.1)

/-- DA and SA of the frames of a channel. -/
def State.gloveAddr (s : State) (c : Nat) : List Byte :=
  beBytes 6 (bits (s.encW c 1) 0 16 * 2 ^ 32 + s.encW c 0) ++ beBytes 6 (s.rd F.GLV_SA_HI_SA * 2 ^ 32 + s.regN R.GLV_SA_LO)

theorem gloveOctets_eq {s : State} {c : Nat} (h : s.encNtscf c = false) (e : Enc) (pad : List Byte) :
    s.gloveOctets c e ++ pad = gloveHead (s.gloveAddr c) c
      (b2n ((s.encW c 2).testBit 30) + 2 * b2n e.restart + 4 * b2n ((s.encW c 3).testBit 24)) e.seq e.items.length
      ((s.encW c 2).testBit 30) (e.items.flatMap s.itemOctets ++ pad) := by
  have hitem : e.items.flatMap s.itemOctets =
      e.items.flatMap (fun i => beBytes 2 i.1.length ++ beBytes 2 (min 65535 (s.lcUs - i.2)) ++ i.1) := by
    simp only [List.append_assoc]
    rfl
  have hkind : ([0x88, 0xB5, BitVec.ofNat 8 (subtypeOf c), 0x01] : List Byte) =
      beBytes 2 0x88B5 ++ (beBytes 1 (subtypeOf c) ++ beBytes 1 1) := rfl
  simp only [State.gloveOctets, h, Bool.false_eq_true, if_false, hitem, hkind, gloveHead, State.gloveAddr, List.append_assoc]

section
variable {addr : List Byte} (ha : addr.length = 12) {c flags seq count : Nat} (hc : c < 24) (hf : flags < 8) (hseq : seq < 65536)
  (hcount : count < 65536) {stamp : Bool} (hstamp : flags.testBit 0 = stamp) (body : List Byte)
include ha hc hf hseq hcount hstamp

/-- A frame of the layout of Table 11-2 is read as what it was made of. -/
theorem parseGlove_gloveHead : parseGlove (gloveHead addr c flags seq count stamp body) =
    some ⟨false, subtypeOf c, c, seq, flags.testBit 1, flags.testBit 2, count, body⟩ := by
  have hsub : subtypeOf c < 256 := by unfold subtypeOf; split <;> omega
  obtain ⟨d, hd⟩ : ∃ d, d = gloveHead addr c flags seq count stamp body := ⟨_, rfl⟩
  have het : etOf d = 0x88B5 := by simp [etOf, hd, gloveHead, fld_append, fld_beBytes, ha]
  have h14 : fld d 14 1 = subtypeOf c := by simpa [hd, gloveHead, fld_append, fld_beBytes, ha] using hsub
  have h15 : fld d 15 1 = 1 := by simp [hd, gloveHead, fld_append, fld_beBytes, ha]
  have h16 : fld d 16 1 = flags := by simp [hd, gloveHead, fld_append, fld_beBytes, ha]; omega
  have h17 : fld d 17 1 = c := by simp [hd, gloveHead, fld_append, fld_beBytes, ha]; omega
  have h18 : fld d 18 2 = seq := by simpa [hd, gloveHead, fld_append, fld_beBytes, ha] using hseq
  have h20 : fld d 20 2 = count := by simpa [hd, gloveHead, fld_append, fld_beBytes, ha] using hcount
  have hrest : d.drop (if stamp = true then 30 else 22) = body := by
    cases stamp <;> simp [hd, gloveHead, List.drop_append, List.drop_eq_nil_of_le, ha, zeros]
  have hlen : (if stamp = true then 30 else 22) ≤ d.length := by
    cases stamp <;> simp [hd, gloveHead, ha, zeros] <;> omega
  have hlen22 : 22 ≤ d.length := by
    simp only [hd, gloveHead, List.length_append, ha, length_beBytes]
    omega
  have hkind : (subtypeOf c = 1 ∧ c < 16) ∨ (subtypeOf c = 2 ∧ 16 ≤ c ∧ c < 24) := by unfold subtypeOf; split <;> omega
  rw [← hd, parseGlove, if_pos ⟨het, hlen22⟩]
  simp only [h14, h15, h16, h17, h18, h20, hstamp]
  rw [if_pos ⟨trivial, hkind, hlen⟩, hrest]

end

/-- The items of a bundle read back in order, whatever follows the last. -/
theorem gloveItems_items (s : State) (pad : List Byte) : ∀ l : List (List Byte × Nat), (∀ i ∈ l, i.1.length < 65536) →
    gloveItems l.length (l.flatMap s.itemOctets ++ pad) = (l.map (·.1), false)
  | [], _ => rfl
  | i :: r, h => by
    have hlen : i.1.length < 65536 := h i (List.mem_cons_self ..)
    have ih := gloveItems_items s pad r fun j hj => h j (List.mem_cons_of_mem _ hj)
    have hhead : (beBytes 2 i.1.length ++ beBytes 2 (min 65535 (s.lcUs - i.2))).length = 4 := by simp
    have hitem : (i :: r).flatMap s.itemOctets ++ pad =
        beBytes 2 i.1.length ++ (beBytes 2 (min 65535 (s.lcUs - i.2)) ++ (i.1 ++ (r.flatMap s.itemOctets ++ pad))) := by
      simp only [List.flatMap_cons, State.itemOctets, List.append_assoc]
    have hfirst : fld ((i :: r).flatMap s.itemOctets ++ pad) 0 2 = i.1.length := by
      rw [hitem, fld_beBytes]
      omega
    have hrest : ((i :: r).flatMap s.itemOctets ++ pad).drop 4 = i.1 ++ (r.flatMap s.itemOctets ++ pad) := by
      rw [hitem, ← List.append_assoc, List.drop_left' hhead]
    have htotal : ((i :: r).flatMap s.itemOctets ++ pad).length = 4 + i.1.length + (r.flatMap s.itemOctets ++ pad).length := by
      rw [hitem]
      simp only [List.length_append, length_beBytes]
      omega
    rw [List.length_cons, gloveItems, if_neg (by omega)]
    dsimp only
    rw [hfirst, if_neg (by omega), ← List.drop_drop, hrest, List.drop_left, List.take_left, ih]
    rfl

-- the body of a CAN item (Table 11-3)

/-- The first and the second word of the body of a CAN item. -/
def bodyWord0 (f : CanFrame) : Nat := b2n f.xlf * 2 ^ 31 + b2n f.fdf * 2 ^ 30 + b2n f.ide * 2 ^ 29 + f.ident.toNat
def bodyWord1 (f : CanFrame) : Nat :=
  f.sdt.toNat * 2 ^ 24 + b2n f.brs * 2 ^ 23 + b2n f.esi * 2 ^ 22 + b2n f.rtr * 2 ^ 21 + b2n f.rrs * 2 ^ 20 + b2n f.sec * 2 ^ 19 + f.dlc.toNat

theorem bodyWord0_fields (f : CanFrame) : let w := bodyWord0 f
    w < 2 ^ 32 ∧ w % 2 ^ 29 = f.ident.toNat ∧ w.testBit 29 = f.ide ∧ w.testBit 30 = f.fdf ∧ w.testBit 31 = f.xlf := by
  have hident := f.ident.isLt
  have hide := b2n_le_one f.ide
  have hfdf := b2n_le_one f.fdf
  have hxlf := b2n_le_one f.xlf
  simp only [bodyWord0]
  refine ⟨?_, ?_, testBit_of_div_mod ?_, testBit_of_div_mod ?_, testBit_of_div_mod ?_⟩ <;> omega

theorem bodyWord1_fields (f : CanFrame) : let w := bodyWord1 f
    w < 2 ^ 32 ∧ w % 2 ^ 11 = f.dlc.toNat ∧ w.testBit 19 = f.sec ∧ w.testBit 20 = f.rrs ∧ w.testBit 21 = f.rtr ∧ w.testBit 22 = f.esi ∧
      w.testBit 23 = f.brs ∧ w / 2 ^ 24 = f.sdt.toNat := by
  have hdlc := f.dlc.isLt
  have hsdt := f.sdt.isLt
  have hsec := b2n_le_one f.sec
  have hrrs := b2n_le_one f.rrs
  have hrtr := b2n_le_one f.rtr
  have hesi := b2n_le_one f.esi
  have hbrs := b2n_le_one f.brs
  simp only [bodyWord1]
  refine ⟨?_, ?_, testBit_of_div_mod ?_, testBit_of_div_mod ?_, testBit_of_div_mod ?_, testBit_of_div_mod ?_, testBit_of_div_mod ?_, ?_⟩ <;>
    omega

section
variable {f : CanFrame} (h : dataFits f)
include h

theorem canBody_eq : canBody f = beBytes 4 (bodyWord0 f) ++ (beBytes 4 (bodyWord1 f) ++ (beBytes 4 (if f.xlf then f.af.toNat else 0) ++
    (beBytes 1 (if f.xlf then f.vcid.toNat else 0) ++ (zeros 3 ++ f.data)))) := by
  have hvcid : ([if f.xlf then f.vcid else 0, 0, 0, 0] : List Byte) = beBytes 1 (if f.xlf then f.vcid.toNat else 0) ++ zeros 3 := by
    cases f.xlf <;> simp [beBytes, leBytes, zeros, List.replicate]
  simp only [canBody, bodyWord0, bodyWord1, ← show _ = _ from h, List.take_left, hvcid, List.append_assoc]

/-- The body of a CAN item gives the frame back, whose fields outside its format are 0. -/
theorem bodyFrame_canBody (hplain : f.xlf = false → f.af = 0 ∧ f.vcid = 0) : bodyFrame (canBody f) = f := by
  obtain ⟨h0, hident, hide, hfdf, hxlf⟩ := bodyWord0_fields f
  obtain ⟨h1, hdlc, hsec, hrrs, hrtr, hesi, hbrs, hsdt⟩ := bodyWord1_fields f
  have f0 : fld (canBody f) 0 4 = bodyWord0 f := by rw [canBody_eq h, fld_beBytes, Nat.mod_eq_of_lt h0]
  have f1 : fld (canBody f) 4 4 = bodyWord1 f := by simpa [canBody_eq h, fld_append, fld_beBytes] using Nat.mod_eq_of_lt h1
  have haf : f.af.toNat % 4294967296 = f.af.toNat := Nat.mod_eq_of_lt f.af.isLt
  have hvcid : f.vcid.toNat % 256 = f.vcid.toNat := Nat.mod_eq_of_lt f.vcid.isLt
  have f2 : BitVec.ofNat 32 (fld (canBody f) 8 4) = f.af := by
    cases hx : f.xlf <;> simp [canBody_eq h, fld_append, fld_beBytes, hx, hplain, haf]
  have f3 : BitVec.ofNat 8 (fld (canBody f) 12 1) = f.vcid := by
    cases hx : f.xlf <;> simp [canBody_eq h, fld_append, fld_beBytes, hx, hplain, hvcid]
  have hdata : (canBody f).drop 16 = f.data := by
    rw [canBody_eq h]
    simp only [← List.append_assoc]
    rw [List.drop_left' (by simp [zeros])]
  have hid : BitVec.ofNat 29 (bodyWord0 f) = f.ident := BitVec.eq_of_toNat_eq (by rw [BitVec.toNat_ofNat, hident])
  have hcode : BitVec.ofNat 11 (bodyWord1 f) = f.dlc := BitVec.eq_of_toNat_eq (by rw [BitVec.toNat_ofNat, hdlc])
  simp only [bodyFrame, f0, f1, f2, f3, hide, hfdf, hxlf, hsec, hrrs, hrtr, hesi, hbrs, hsdt, hdata, hid, hcode, BitVec.ofNat_toNat,
    BitVec.setWidth_eq]

end

/-- Settles O51: the header reads back, then the items one by one, then the body of a CAN item. -/
theorem gloveFramesGiveTheirItemsBack : Obligations.GloveFramesGiveTheirItemsBack := by
  refine ⟨fun s c e pad hn hcount hseq hitems => ?_, fun f hplain hlen => bodyFrame_canBody hlen hplain⟩
  have hr := b2n_le_one e.restart
  have hs := b2n_le_one ((s.encW c 2).testBit 30)
  have ht := b2n_le_one ((s.encW c 3).testBit 24)
  have haddr : (s.gloveAddr c).length = 12 := by simp [State.gloveAddr]
  rw [gloveOctets_eq hn]
  refine ⟨_, parseGlove_gloveHead haddr c.isLt (by omega) hseq hcount (testBit_of_div_mod (by omega)) _, rfl, rfl, rfl, rfl,
    testBit_of_div_mod (by omega), rfl, gloveItems_items s pad e.items hitems⟩

end Sys2Proof.Machine
end

section
/-! PROOF. A serial channel (11, R472 to R480): its characters and messages, its transmitter and its transmit ring. -/

namespace Sys2Proof.Machine

theorem alive_of_serRuns {s : State} {n : Nat} (h : s.serRuns n = true) : s.alive = true := by
  simp only [State.serRuns, Bool.and_eq_true] at h
  exact h.1.1

-- what a channel's own counters, events and state bits leave

/-- The settings of a channel, its state beside the registers, and the clocks are as they were. -/
structure SameSetup (n : Nat) (s t : State) : Prop where
  reg : ∀ a, a = R.SER_CTRL n ∨ a = R.SER_BAUD n ∨ a = R.SER_FRAME n → t.regN a = s.regN a
  ser : t.ser = s.ser
  clk : t.clk = s.clk

/-- A register that holds no setting of channel `n`. -/
abbrev noSetup (n a : Nat) : Prop := a ≠ R.SER_CTRL n ∧ a ≠ R.SER_BAUD n ∧ a ≠ R.SER_FRAME n

/-- The registers of a channel behind its settings. -/
theorem noSetup_offset {n k : Nat} (h : 0x20B00008 < k) : noSetup n (k + n * 0x100) := by
  simp only [noSetup, R.SER_CTRL, R.SER_BAUD, R.SER_FRAME]
  omega

section
variable {n : Nat} {s t u : State}

theorem SameSetup.refl (s : State) : SameSetup n s s := ⟨fun _ _ => rfl, rfl, rfl⟩

theorem SameSetup.trans (h : SameSetup n s t) (k : SameSetup n t u) : SameSetup n s u :=
  ⟨fun a ha => (k.reg a ha).trans (h.reg a ha), k.ser.trans h.ser, k.clk.trans h.clk⟩

theorem sameSetup_setRegN {a : Nat} (h : noSetup n a) (v : Nat) : SameSetup n s (s.setRegN a v) := by
  obtain ⟨hctrl, hbaud, hframe⟩ := h
  refine ⟨fun b hb => regN_setRegN_ne s ?_ v, rfl, rfl⟩
  rcases hb with rfl | rfl | rfl
  · exact hctrl.symm
  · exact hbaud.symm
  · exact hframe.symm

theorem sameSetup_wr {f : Fld} (h : noSetup n f.addr) (v : Nat) : SameSetup n s (s.wr f v) := sameSetup_setRegN h _

theorem sameSetup_inc {c : Nat} (h : noSetup n c) : SameSetup n s (s.inc c) := sameSetup_setRegN h _

theorem sameSetup_raise {c : Nat} {f : Fld} (he : evBit c n = some f) (h : noSetup n f.addr) : SameSetup n s (s.raise c n) := by
  have hev (u : State) (q r : List Ev) : SameSetup n u { u with evq := q, fltq := r } := ⟨fun _ _ => rfl, rfl, rfl⟩
  unfold State.raise State.raiseFull
  simp only [he]
  exact (sameSetup_wr h 1).trans (hev _ _ _)

theorem sameSetup_raiseOnce {c : Nat} {f : Fld} (he : evBit c n = some f) (h : noSetup n f.addr) :
    SameSetup n s (s.raiseOnce c n) := by
  unfold State.raiseOnce
  simp only [he]
  split
  · exact .refl s
  · exact sameSetup_raise he h

theorem sameSetup_ite {c : Prop} [Decidable c] (ht : SameSetup n s t) (hu : SameSetup n s u) : SameSetup n s (if c then t else u) := by
  split
  · exact ht
  · exact hu

section
variable (h : SameSetup n s t)
include h

theorem SameSetup.rd {f : Fld} (hf : f.addr = R.SER_CTRL n ∨ f.addr = R.SER_BAUD n ∨ f.addr = R.SER_FRAME n) : t.rd f = s.rd f := by
  rw [State.rd, State.rd, h.reg _ hf]

theorem SameSetup.on {f : Fld} (hf : f.addr = R.SER_CTRL n ∨ f.addr = R.SER_BAUD n ∨ f.addr = R.SER_FRAME n) : t.on f = s.on f := by
  rw [State.on, State.on, h.rd hf]

theorem SameSetup.serC : t.serC n = s.serC n := by rw [State.serC, State.serC, h.ser]

theorem SameSetup.charNs : t.charNs n = s.charNs n := by
  simp only [State.charNs, State.charBits, State.bitTimes, h.rd (f := F.SER_CTRL_PARITY n) (.inl rfl), h.on (f := F.SER_CTRL_DATA7 n) (.inl rfl),
    h.on (f := F.SER_CTRL_STOP2 n) (.inl rfl), h.rd (f := F.SER_BAUD_DIV n) (.inr (.inl rfl))]

theorem SameSetup.serMax : t.serMax n = s.serMax n := by
  simp only [State.serMax, h.rd (f := F.SER_FRAME_MAX_LEN n) (.inr (.inr rfl))]

theorem SameSetup.wtNs : t.wtNs = s.wtNs := by rw [State.wtNs, State.wtNs, h.clk]

end

theorem serMax_modSer (s : State) (n : Nat) (f : SerC → SerC) : (s.modSer n f).serMax n = s.serMax n := rfl

end

-- reception (R472 to R475)

section
variable {s : State} {n : Nat}

theorem serClose_none (h : (s.serC n).open_ = none) (brk : Bool) : s.serClose n brk = s := by simp only [State.serClose, h]

/-- Without an open message no gap closes one. -/
theorem serGap_none (h : (s.serC n).open_ = none) (t : Nat) : s.serGap n t = s := by
  simp only [State.serGap, State.serFull, h, Bool.false_eq_true, if_false, serClose_none h, ite_self]

/-- An open message with room, on a line that has not been idle for GAP_BITS, stays open. -/
theorem serGap_room {t : Nat} (hfull : s.serFull n = false) (hidle : s.lineIdle n (s.rd (F.SER_FRAME_GAP_BITS n)) t = false) :
    s.serGap n t = s := by
  simp [State.serGap, hfull, hidle]

theorem serGap_full {t : Nat} (hfull : s.serFull n = true) : s.serGap n t = (s.inc (C.SER_OVERLONG n)).serClose n false := by
  simp [State.serGap, hfull]

/-- The line of a channel after a character. -/
def State.lineMoved (s : State) (n : Nat) : State := (s.modSer n (fun c => { c with lineAt := s.clk.now })).wr (F.SER_STATUS_LINE n) 1

theorem lineMoved_on_ctrl {f : Fld} (hf : f.addr = R.SER_CTRL n) : (s.lineMoved n).on f = s.on f :=
  (sameSetup_wr (noSetup_offset (by decide)) 1).on (.inl hf)

theorem lineMoved_de : (s.lineMoved n).on (F.SER_STATUS_DE n) = s.on (F.SER_STATUS_DE n) :=
  on_wr_other _ _ _ (Nat.le_of_ble_eq_true rfl) _ (.inr (.inr (Nat.le_of_ble_eq_true rfl)))

theorem serialCharacter_echo (hruns : s.serRuns n = true) (hopen : (s.serC n).open_ = none) (hde : s.on (F.SER_STATUS_DE n) = true)
    (hecho : s.on (F.SER_CTRL_ECHO_SUPPRESS n) = true) (v : Nat) (pe fe : Bool) : s.serialCharacter n v pe fe = s.lineMoved n := by
  rw [State.serialCharacter, if_neg (by simp [hruns]), serGap_none hopen]
  exact if_pos ⟨lineMoved_de.trans hde, (lineMoved_on_ctrl rfl).trans hecho⟩

end

-- a character that is taken (R472 to R474)

section
variable (s : State) (n : Nat) (v : Nat) (pe fe : Bool)

/-- A character's parity error counts only with parity on. -/
def State.parityBad (s : State) (n : Nat) (pe : Bool) : Bool := pe && (s.rd (F.SER_CTRL_PARITY n) == 1 || s.rd (F.SER_CTRL_PARITY n) == 2)

/-- The open message with a character appended, or a message that the character opens. -/
def State.joined (s : State) (n v : Nat) (err : Bool) : SerMsg :=
  let t := s.wtNs - s.charNs n
  let b : Byte := BitVec.ofNat 8 (if s.on (F.SER_CTRL_DATA7 n) then v % 128 else v)
  match (s.serC n).open_ with
  | some m => { m with bytes := m.bytes ++ [b], err := m.err || err }
  | none => ⟨[b], err, (t % 1000000000).toNat, (t / 1000000000).toNat % 2 ^ 32⟩

/-- A character's errors counted and reported. -/
def State.serErrors (s : State) (n : Nat) (pe fe : Bool) : State :=
  let u := if pe then s.inc (C.SER_PARITY_ERR n) else s
  let u := if fe then u.inc (C.SER_FRAMING_ERR n) else u
  if pe || fe then u.raiseOnce 0x0B01 n else u

theorem sameSetup_serErrors : SameSetup n s (s.serErrors n pe fe) := by
  unfold State.serErrors
  extract_lets u w
  have hu : SameSetup n s u := sameSetup_ite (sameSetup_inc (noSetup_offset (by decide))) (.refl s)
  have hw : SameSetup n s w := hu.trans (sameSetup_ite (sameSetup_inc (noSetup_offset (by decide))) (.refl u))
  exact sameSetup_ite (hw.trans (sameSetup_raiseOnce (f := ⟨R.SER_EVENT n, 0, 1⟩) rfl (noSetup_offset (by decide)))) hw

end

section
variable {s : State} {n v : Nat} {pe fe : Bool}

/-- A message is as long as what it was and one character. -/
theorem joined_length {m : SerMsg} (h : (s.serC n).open_ = some m) (err : Bool) :
    (s.joined n v err).bytes.length = m.bytes.length + 1 := by
  simp [State.joined, h]

theorem joined_congr {s t : State} {n : Nat} (h : SameSetup n s t) (v : Nat) (err : Bool) : t.joined n v err = s.joined n v err := by
  simp only [State.joined, h.charNs, h.wtNs, h.serC, h.on (f := F.SER_CTRL_DATA7 n) (.inl rfl)]

/-- The channel with a message open. -/
def State.opened (s : State) (n : Nat) (m : SerMsg) : State := (s.modSer n (fun c => { c with open_ := some m })).wr (F.SER_STATUS_RX_BUSY n) 1

/-- A character that leaves its message room, in a channel with a gap, is appended. -/
theorem serTake_room (hroom : (s.joined n v (s.parityBad n pe || fe)).bytes.length < s.serMax n)
    (hgap : s.rd (F.SER_FRAME_GAP_BITS n) ≠ 0) :
    s.serTake n v pe fe = (s.serErrors n (s.parityBad n pe) fe).opened n (s.joined n v (s.parityBad n pe || fe)) := by
  have he := sameSetup_serErrors s n (s.parityBad n pe) fe
  obtain ⟨u, hu⟩ : ∃ u, u = s.serErrors n (s.parityBad n pe) fe := ⟨_, rfl⟩
  obtain ⟨m, hm⟩ : ∃ m, m = s.joined n v (s.parityBad n pe || fe) := ⟨_, rfl⟩
  rw [← hu] at he
  have hopened : SameSetup n (u.modSer n (fun c => { c with open_ := some m })) (u.opened n m) :=
    sameSetup_wr (noSetup_offset (by decide)) 1
  have hgap' : (u.opened n m).rd (F.SER_FRAME_GAP_BITS n) ≠ 0 := by
    rw [hopened.rd (.inr (.inr rfl))]
    exact (he.rd (.inr (.inr rfl))).trans_ne hgap
  have hfull : (u.opened n m).serFull n = false := by
    rw [State.serFull, hopened.serC, serC_modSer, hopened.serMax, serMax_modSer, he.serMax]
    simpa [hm] using hroom
  have htake : s.serTake n v pe fe = if (u.opened n (u.joined n v (s.parityBad n pe || fe))).rd (F.SER_FRAME_GAP_BITS n) = 0 ∨
      (u.opened n (u.joined n v (s.parityBad n pe || fe))).serFull n = true
      then (u.opened n (u.joined n v (s.parityBad n pe || fe))).serGap n (u.opened n (u.joined n v (s.parityBad n pe || fe))).clk.now
      else u.opened n (u.joined n v (s.parityBad n pe || fe)) := by rw [hu]; rfl
  rw [htake, joined_congr he, ← hm, if_neg (by simp [hgap', hfull]), hu]

theorem lineMoved_joined (err : Bool) : (s.lineMoved n).joined n v err = s.joined n v err := by
  have hmod (u : State) : SameSetup n u (u.wr (F.SER_STATUS_LINE n) 1) := sameSetup_wr (noSetup_offset (by decide)) 1
  have hopen : ((s.modSer n (fun c => { c with lineAt := s.clk.now })).serC n).open_ = (s.serC n).open_ := by rw [serC_modSer]
  rw [State.lineMoved, joined_congr (hmod _)]
  unfold State.joined
  rw [hopen]
  rfl

/-- A running channel that does not suppress its echo takes a character, where no gap precedes it and none follows from it. -/
theorem serialCharacter_taken (hruns : s.serRuns n = true)
    (hecho : s.on (F.SER_STATUS_DE n) = false ∨ s.on (F.SER_CTRL_ECHO_SUPPRESS n) = false)
    (hidle : ∀ m, (s.serC n).open_ = some m → s.lineIdle n (s.rd (F.SER_FRAME_GAP_BITS n)) (s.clk.now - s.charNs n) = false)
    (hroom : (s.joined n v (s.parityBad n pe || fe)).bytes.length < s.serMax n) (hgap : s.rd (F.SER_FRAME_GAP_BITS n) ≠ 0) :
    s.serialCharacter n v pe fe =
      ((s.lineMoved n).serErrors n (s.parityBad n pe) fe).opened n (s.joined n v (s.parityBad n pe || fe)) := by
  have hmod : SameSetup n (s.modSer n (fun c => { c with lineAt := s.clk.now })) (s.lineMoved n) :=
    sameSetup_wr (noSetup_offset (by decide)) 1
  have hsame : s.serGap n (s.clk.now - s.charNs n) = s := by
    cases hopen : (s.serC n).open_ with
    | none => exact serGap_none hopen _
    | some m =>
      rw [joined_length hopen] at hroom
      exact serGap_room (by simp only [State.serFull, hopen]; exact decide_eq_false (by omega)) (hidle m hopen)
  have hpar : (s.lineMoved n).parityBad n pe = s.parityBad n pe := by
    rw [State.parityBad, hmod.rd (f := F.SER_CTRL_PARITY n) (.inl rfl)]
    rfl
  have hno : ¬ ((s.lineMoved n).on (F.SER_STATUS_DE n) = true ∧ (s.lineMoved n).on (F.SER_CTRL_ECHO_SUPPRESS n) = true) := by
    rw [lineMoved_de, lineMoved_on_ctrl rfl]
    rcases hecho with h | h <;> simp [h]
  have htake : s.serialCharacter n v pe fe = (s.lineMoved n).serTake n v pe fe := by
    rw [State.serialCharacter, if_neg (by simp [hruns]), hsame]
    exact if_neg hno
  rw [htake, serTake_room, hpar, lineMoved_joined]
  · rw [hpar, lineMoved_joined, hmod.serMax]
    exact hroom
  · exact (hmod.rd (.inr (.inr rfl))).trans_ne hgap

end

-- the close of a message (R473 to R476)

section
variable {s : State} {n : Nat}

theorem messageClose_maxLen : s.messageClose n .maxLen = if s.serFull n then (s.inc (C.SER_OVERLONG n)).serClose n false else s := by
  show (if s.serFull n = true then s.serGap n s.clk.now else s) = _
  split
  · next h => exact serGap_full h
  · rfl

theorem messageClose_brk_stopped (h : s.serRuns n = false) : s.messageClose n .brk = s := if_pos (by simp [h])

/-- A break ends the open message of a channel that runs. -/
theorem messageClose_brk (hruns : s.serRuns n = true) (hfull : s.serFull n = false) : s.messageClose n .brk =
    (((s.modSer n (fun c => { c with lineAt := s.clk.now })).wr (F.SER_STATUS_LINE n) 0).inc (C.SER_BREAKS n)).serClose n true := by
  have hsame (u : State) : SameSetup n u ((u.wr (F.SER_STATUS_LINE n) 0).inc (C.SER_BREAKS n)) :=
    (sameSetup_wr (noSetup_offset (by decide)) 0).trans (sameSetup_inc (noSetup_offset (by decide)))
  have hroom : (((s.modSer n (fun c => { c with lineAt := s.clk.now })).wr (F.SER_STATUS_LINE n) 0).inc (C.SER_BREAKS n)).serFull n
      = false := by
    have hopen : ((s.modSer n (fun c => { c with lineAt := s.clk.now })).serC n).open_ = (s.serC n).open_ := by rw [serC_modSer]
    unfold State.serFull
    rw [(hsame _).serC, (hsame _).serMax, hopen, serMax_modSer]
    exact hfull
  rw [State.messageClose, if_neg (by simp [hruns])]
  exact if_neg (by simp [hroom])

theorem regN_serStore (base : Nat) : ∀ (l : List Byte) (s : State) (o a : Nat), (s.serStore base o l).regN a = s.regN a
  | [], _, _, _ => rfl
  | b :: l, s, o, a => by rw [State.serStore, regN_serStore base l]; rfl

theorem serStore_clk (base : Nat) : ∀ (l : List Byte) (s : State) (o : Nat), (s.serStore base o l).clk = s.clk
  | [], _, _ => rfl
  | b :: l, s, o => by rw [State.serStore, serStore_clk base l]; rfl

/-- The receive ring takes a message or loses it, and leaves the channel's control register as it is. -/
theorem serRxStore_ctrl (m : SerMsg) (brk : Bool) : (s.serRxStore n m brk).regN (R.SER_CTRL n) = s.regN (R.SER_CTRL n) := by
  have hwr (u : State) (f : Fld) (v : Nat) (hf : noSetup n f.addr) : (u.wr f v).regN (R.SER_CTRL n) = u.regN (R.SER_CTRL n) :=
    (sameSetup_wr hf v).reg _ (.inl rfl)
  unfold State.serRxStore
  dsimp only
  have hlost : (s.inc (C.SER_RXQ_LOST n)).regN (R.SER_CTRL n) = s.regN (R.SER_CTRL n) :=
    (sameSetup_inc (noSetup_offset (by decide))).reg _ (.inl rfl)
  split
  · split
    · exact hlost
    · rw [(sameSetup_raise (f := ⟨R.SER_EVENT n, 1, 1⟩) rfl (noSetup_offset (by decide))).reg _ (.inl rfl),
        hwr _ _ _ (noSetup_offset (by decide)), hlost]
  · refine (hwr _ (F.SER_RXQ_FILL_GAP_PENDING n) _ (noSetup_offset (by decide))).trans ?_
    rw [(sameSetup_setRegN (noSetup_offset (by decide)) _).reg _ (.inl rfl), regN_serStore]

theorem serRxStore_clk (m : SerMsg) (brk : Bool) : (s.serRxStore n m brk).clk = s.clk := by
  unfold State.serRxStore
  dsimp only
  split
  · split
    · rfl
    · exact raise_clk ..
  · exact serStore_clk _ _ s _

/-- A message that is empty, or in error where such are dropped, goes nowhere. -/
theorem serClose_dropped {m : SerMsg} (h : (s.serC n).open_ = some m)
    (hd : m.bytes = [] ∨ (m.err = true ∧ s.on (F.SER_CTRL_DROP_ERR n) = true)) (brk : Bool) :
    s.serClose n brk = (s.modSer n (fun c => { c with open_ := none })).wr (F.SER_STATUS_RX_BUSY n) 0 := by
  have hdrop (u : State) : (u.wr (F.SER_STATUS_RX_BUSY n) 0).on (F.SER_CTRL_DROP_ERR n) = u.on (F.SER_CTRL_DROP_ERR n) :=
    (sameSetup_wr (noSetup_offset (by decide)) 0).on (.inl rfl)
  simp only [State.serClose, h]
  rw [if_pos]
  rw [hdrop]
  exact hd

/-- Every other message counts and goes to the targets that the channel names. -/
theorem serClose_taken {m : SerMsg} (h : (s.serC n).open_ = some m) (hne : m.bytes ≠ [])
    (hok : m.err = false ∨ s.on (F.SER_CTRL_DROP_ERR n) = false) (brk : Bool) : s.serClose n brk =
    (let u := (s.modSer n (fun c => { c with open_ := none })).wr (F.SER_STATUS_RX_BUSY n) 0
     let a := (u.inc (C.SER_RX_MSGS n)).add (C.SER_RX_BYTES n) m.bytes.length
     let b := if s.on (F.SER_CTRL_RX_FW n) then a.serRxStore n m brk else a
     let d := if s.on (F.SER_CTRL_RX_GLOVE n) then b.toGlv (16 + n) none m.bytes s.wtNs else b
     d.serMirrorRetire n m.bytes) := by
  extract_lets u a b d
  have hu : u.regN (R.SER_CTRL n) = s.regN (R.SER_CTRL n) :=
    (sameSetup_wr (s := s.modSer n (fun c => { c with open_ := none })) (noSetup_offset (by decide)) 0).reg _ (.inl rfl)
  have ha : a.regN (R.SER_CTRL n) = s.regN (R.SER_CTRL n) :=
    (((sameSetup_inc (noSetup_offset (by decide))).trans (sameSetup_setRegN (noSetup_offset (by decide)) _)).reg _ (.inl rfl)).trans hu
  have hb : b.regN (R.SER_CTRL n) = s.regN (R.SER_CTRL n) ∧ b.clk = s.clk := by
    simp only [b]
    split
    · exact ⟨(serRxStore_ctrl m brk).trans ha, serRxStore_clk m brk⟩
    · exact ⟨ha, rfl⟩
  have hon {t : State} (ht : t.regN (R.SER_CTRL n) = s.regN (R.SER_CTRL n)) {f : Fld} (hf : f.addr = R.SER_CTRL n) : t.on f = s.on f := by
    rw [State.on, State.on, State.rd, State.rd, hf, ht]
  have hclose : s.serClose n brk =
      if m.bytes = [] ∨ (m.err = true ∧ u.on (F.SER_CTRL_DROP_ERR n) = true) then u
      else
        let b := if a.on (F.SER_CTRL_RX_FW n) then a.serRxStore n m brk else a
        let d := if b.on (F.SER_CTRL_RX_GLOVE n) then b.toGlv (16 + n) none m.bytes b.wtNs else b
        d.serMirrorRetire n m.bytes := by
    simp only [State.serClose, h]
    rfl
  have hwt : b.wtNs = s.wtNs := by rw [State.wtNs, State.wtNs, hb.2]
  have hkeep : ¬ (m.bytes = [] ∨ (m.err = true ∧ u.on (F.SER_CTRL_DROP_ERR n) = true)) := by
    rw [hon hu rfl]
    rcases hok with h | h <;> simp [hne, h]
  rw [hclose, if_neg hkeep, hon ha rfl]
  dsimp only
  rw [show (if s.on (F.SER_CTRL_RX_FW n) = true then a.serRxStore n m brk else a) = b from rfl, hon hb.1 rfl, hwt]

end

-- the transmitter (R477, R478, R480)

section
variable {s : State} {n : Nat}

/-- The length that the head of the transmit ring gives. -/
def State.serHeadLen (s : State) (n : Nat) : Nat := bits (leNat (s.serBytes (serTx n) (s.regN (R.SER_TXQ_GET n)) 4)) 0 11

theorem serialTxStart_idle (h : s.serRuns n = false ∨ s.on (F.SER_STATUS_TX_BUSY n) = true ∨ (s.serC n).txFill = 0) :
    s.serialTxStart n = s := by
  refine if_pos ?_
  rcases h with h | h | h <;> simp [h]

section
variable (hruns : s.serRuns n = true) (hbusy : s.on (F.SER_STATUS_TX_BUSY n) = false) (hfill : (s.serC n).txFill ≠ 0)
include hruns hbusy hfill

theorem serialTxStart_invalid (hlen : s.serHeadLen n = 0 ∨ 1024 < s.serHeadLen n) :
    s.serialTxStart n = (s.serPop n).inc (C.SER_TX_INVALID n) := by
  rw [State.serialTxStart, if_neg (by simp [hruns, hbusy, hfill])]
  exact if_pos hlen

theorem serialTxStart_held (h0 : s.serHeadLen n ≠ 0) (h1 : s.serHeadLen n ≤ 1024)
    (h : s.serMaySend n = false ∨ s.lineIdle n (s.rd (F.SER_FRAME_TX_GAP n)) s.clk.now = false ∨ s.serHead n = none) :
    s.serialTxStart n = s := by
  rw [State.serialTxStart, if_neg (by simp [hruns, hbusy, hfill])]
  refine (if_neg (by simp only [State.serHeadLen] at h0 h1; omega)).trans ?_
  split
  · rfl
  · next hs =>
    have hnone : s.serHead n = none := by
      rcases h with h | h | h
      · exact absurd (.inl (by simp [h])) hs
      · exact absurd (.inr (by simp [h])) hs
      · exact h
    simp only [hnone]

theorem serialTxStart_starts (h0 : s.serHeadLen n ≠ 0) (h1 : s.serHeadLen n ≤ 1024) (hmay : s.serMaySend n = true)
    (hidle : s.lineIdle n (s.rd (F.SER_FRAME_TX_GAP n)) s.clk.now = true) (hhead : (s.serHead n).isSome = true) :
    s.serialTxStart n =
      (let time := s.bitTimes n (s.rd (F.SER_DE_DE_LEAD n) + s.serHeadLen n * s.charBits n + s.rd (F.SER_DE_DE_LAG n))
       ((s.modSer n (fun c => { c with doneAt := s.clk.now + time })).wr (F.SER_STATUS_TX_BUSY n) 1).wr (F.SER_STATUS_DE n) 1) := by
  obtain ⟨e, he⟩ := Option.isSome_iff_exists.mp hhead
  rw [State.serialTxStart, if_neg (by simp [hruns, hbusy, hfill])]
  refine (if_neg (by simp only [State.serHeadLen] at h0 h1; omega)).trans ((if_neg (by simp [hmay, hidle])).trans ?_)
  simp only [he]
  rfl

end

theorem serialTxEnd_idle (h : s.on (F.SER_STATUS_TX_BUSY n) = false ∨ s.clk.now < (s.serC n).doneAt) : s.serialTxEnd n = s := by
  refine if_pos ?_
  rcases h with h | h <;> simp [h]

theorem serialTxEnd_ends (hbusy : s.on (F.SER_STATUS_TX_BUSY n) = true) (hdone : (s.serC n).doneAt ≤ s.clk.now) :
    s.serialTxEnd n =
      (let u := (s.inc (C.SER_TX_MSGS n)).add (C.SER_TX_BYTES n) (s.serHeadLen n)
       let u := if (s.serC n).resent then u.inc (C.SER_TAKEOVER_RESENT n) else u
       ((u.wr (F.SER_STATUS_TX_BUSY n) 0).wr (F.SER_STATUS_DE n) 0).serPop n) :=
  if_neg (by simp [hbusy]; omega)

-- the transmit ring

theorem serTxqPut_refused {v : Nat} (h : (s.serMirrors n = true ∧ s.duty = false) ∨ (s.on (F.SER_CTRL_TX_ROLE n) = true ∧ s.giving = true)) :
    s.serTxqPut n v = s.inc (C.SER_TXQ_NOT_DUTY n) := if_pos (by simpa using h)

section
variable (hrole : s.on (F.SER_CTRL_TX_ROLE n) = false) {v : Nat}
include hrole

theorem serMirrors_alone : s.serMirrors n = false := by simp [State.serMirrors, hrole]

theorem serTxqPut_alone : s.serTxqPut n v =
    if s.serOwner n ≠ 0 then s.inc (C.SER_TXQ_OWNER n)
    else if bits v 0 11 % 4 ≠ 0 ∨ 2048 < (s.serC n).txFill + (bits v 0 11 + 2048 - s.regN (R.SER_TXQ_PUT n)) % 2048 then s
    else (s.setRegN (R.SER_TXQ_PUT n) (bits v 0 11)).serFilled n ((bits v 0 11 + 2048 - s.regN (R.SER_TXQ_PUT n)) % 2048) := by
  have hput : ((s.setRegN (R.SER_TXQ_PUT n) (bits v 0 11)).serFilled n
      ((bits v 0 11 + 2048 - s.regN (R.SER_TXQ_PUT n)) % 2048)).on (F.SER_CTRL_TX_ROLE n) = false :=
    ((sameSetup_setRegN (noSetup_offset (by decide)) _).on (.inl rfl)).trans hrole
  rw [State.serTxqPut, if_neg (by simp [serMirrors_alone hrole, hrole])]
  simp only [serMirrors_alone hput, Bool.false_eq_true, if_false]

end

theorem serFilled_fill (s : State) (n len : Nat) : ((s.serFilled n len).serC n).txFill = (s.serC n).txFill + len := by
  rw [State.serFilled, serC_modSer]

-- the rate (R472), and what the unit without duty retires (R480)

/-- A channel that is held off has ended what it sends and receives. -/
def State.heldOff (s : State) (n : Nat) : State :=
  ((((s.wr (F.SER_STATUS_CFG_ERR n) 1).wr (F.SER_STATUS_TX_BUSY n) 0).wr (F.SER_STATUS_DE n) 0).wr (F.SER_STATUS_RX_BUSY n) 0).modSer n
    (fun c => { c with open_ := none })

theorem serBaudWrite_fast {v : Nat} (h : (s.writeFields (R.SER_BAUD n) v).rd (F.SER_BAUD_DIV n) ≤ 853) :
    s.serBaudWrite n v = ((s.writeFields (R.SER_BAUD n) v).heldOff n).raise 0x0B03 n := if_pos h

theorem serBaudWrite_slow {v : Nat} (h : 853 < (s.writeFields (R.SER_BAUD n) v).rd (F.SER_BAUD_DIV n)) :
    s.serBaudWrite n v = (s.writeFields (R.SER_BAUD n) v).wr (F.SER_STATUS_CFG_ERR n) 0 := if_neg h.not_ge

theorem heldOff_status (s : State) (n : Nat) : (s.heldOff n).on (F.SER_STATUS_CFG_ERR n) = true ∧
    (s.heldOff n).on (F.SER_STATUS_DE n) = false ∧ (s.heldOff n).on (F.SER_STATUS_TX_BUSY n) = false := by
  have hmod (u : State) (f : SerC → SerC) (g : Fld) : (u.modSer n f).on g = u.on g := rfl
  have hkeep (u : State) (f g : Fld) (k : Nat) (hg : g.lo + g.w ≤ 32) (h : f.lo + f.w ≤ g.lo ∨ g.lo + g.w ≤ f.lo) :
      (u.wr f k).on g = u.on g := on_wr_other u f g hg k (.inr h)
  have hset (u : State) (f : Fld) (k : Nat) (hf : f.lo + f.w ≤ 32) (hw : f.w = 1) : (u.wr f k).on f = decide (k % 2 = 1) :=
    on_wr_same u f hf hw k
  simp only [State.heldOff, hmod]
  refine ⟨?_, ?_, ?_⟩
  · rw [hkeep, hkeep, hkeep, hset] <;> simp
  · rw [hkeep, hset] <;> simp
  · rw [hkeep, hkeep, hset] <;> simp

theorem serMirrorExpired_kept (h : s.on (F.SER_CTRL_TX_ROLE n) = false ∨ s.duty = true ∨ s.rd (F.SER_DE_MIRROR_AGE n) = 0 ∨
    s.serHead n = none) : s.serMirrorExpired n = s := by
  refine if_neg ?_
  rcases h with h | h | h | h <;> simp [h]

theorem serMirrorExpired_old (hrole : s.on (F.SER_CTRL_TX_ROLE n) = true) (hduty : s.duty = false)
    (hage : s.rd (F.SER_DE_MIRROR_AGE n) ≠ 0) (hhead : (s.serHead n).isSome = true)
    (hold : (s.serC n).headAt + s.rd (F.SER_DE_MIRROR_AGE n) * 1000000 ≤ s.clk.now) :
    s.serMirrorExpired n = (s.serPop n).inc (C.SER_MIRROR_EXPIRED n) := if_pos ⟨hrole, by simp [hduty], hage, hhead, hold⟩

end

/-- Settles O49, command by command. -/
theorem serialChannelsRun : Obligations.SerialChannelsRun := by
  intro n s
  have hwrite {a : Nat} (h : s.writable a) (f : State → State) := finish_regLive h f
  refine ⟨fun v pe fe _ hr => finish_live_id (if_pos (by simp [hr])),
    fun v pe fe hr ho hde he => (finish_live (alive_of_serRuns hr) _).trans (by rw [serialCharacter_echo hr ho hde he]; rfl),
    fun v pe fe hr he hi hroom hgap => (finish_live (alive_of_serRuns hr) _).trans (by
      rw [serialCharacter_taken hr he hi hroom hgap]; rfl),
    fun ha => ⟨finish_live ha _, (finish_live ha _).trans (by rw [messageClose_maxLen]),
      fun hr => finish_live_id (messageClose_brk_stopped hr),
      fun hr hf => (finish_live ha _).trans (by rw [messageClose_brk hr hf])⟩,
    fun brk => ⟨fun ho => serClose_none ho brk, fun m ho => ⟨fun hd => serClose_dropped ho hd brk, fun hne hok => serClose_taken ho hne hok brk⟩⟩,
    fun h => finish_live_id (serialTxStart_idle h),
    fun hr hb hf => ⟨fun hl => (finish_live (alive_of_serRuns hr) _).trans (by rw [serialTxStart_invalid hr hb hf hl]),
      fun h0 h1 h => finish_live_id (serialTxStart_held hr hb hf h0 h1 h),
      fun h0 h1 hi hm hh => (finish_live (alive_of_serRuns hr) _).trans (by rw [serialTxStart_starts hr hb hf h0 h1 hm hi hh]; rfl)⟩,
    fun h => finish_live_id (serialTxEnd_idle h),
    fun ha hb hd => (finish_live ha _).trans (by rw [serialTxEnd_ends hb hd]; rfl),
    fun v hw h => (hwrite hw _).trans (by rw [serTxqPut_refused h]),
    fun v hw hrole => ⟨fun ho => ?_, fun ho h => ?_, fun ho h4 hfit => ⟨?_, serFilled_fill _ _ _⟩⟩,
    fun v hw => ⟨fun h => (hwrite hw _).trans (by rw [serBaudWrite_slow h]), fun h => ?_⟩,
    fun h => finish_live_id (serMirrorExpired_kept h),
    fun ha hrole hduty hage hhead hold => (finish_live ha _).trans (by rw [serMirrorExpired_old hrole hduty hage hhead hold])⟩
  · exact (hwrite hw _).trans (by rw [serTxqPut_alone hrole, if_pos (by omega)])
  · exact (hwrite hw _).trans (by rw [serTxqPut_alone hrole, if_neg (by omega), if_pos h])
  · exact (hwrite hw _).trans (by rw [serTxqPut_alone hrole, if_neg (by omega), if_neg (by omega)])
  · obtain ⟨hcfg, hde, hbusy⟩ := heldOff_status (s.writeFields (R.SER_BAUD n) v.toNat) n
    refine ⟨(s.writeFields (R.SER_BAUD n) v.toNat).heldOff n, (hwrite hw _).trans (by rw [serBaudWrite_fast h]), hcfg, hde, hbusy, ?_, ?_, ?_⟩
    · rw [State.heldOff, serC_modSer]
    · simp [State.serRuns, hcfg]
    · exact writeFields_mem s _ _

end Sys2Proof.Machine
end

section
/-! PROOF. The glove engine: what its items, bundles, keep-alives, received frames and entries do. -/

namespace Sys2Proof.Machine

variable {s : State}

-- items (R484, R485)

theorem gloveItem_none (h : s.glv.inq = []) : s.gloveItem = s := by
  rw [State.gloveItem, h]
  simp only [State.takeFirst]
  rw [← h]
  rfl

/-- An item of a channel that does not wait is gone, the others stay. -/
theorem gloveItem_taken {i : GlvItem} {r : List GlvItem} {u : State} (hq : s.glv.inq = i :: r) (h : s.takeItem i = (u, false)) :
    s.gloveItem = u.setGlv { u.glv with inq := r } := by
  rw [State.gloveItem, hq]
  simp [State.takeFirst, h]

theorem takeItem_notDuty {i : GlvItem} (h : s.encapsulating i.chan = false) :
    s.takeItem i = (s.inc (C.GLV_C_NOT_DUTY i.chan), false) := if_pos (by simp [h])

section
variable {i : GlvItem} (henc : s.encapsulating i.chan = true) (hn : s.encNtscf i.chan = false)
include henc hn

theorem takeItem_plain (h : s.sealing i.chan = false) :
    s.takeItem i = (s.bundle i.chan (match i.can with | some f => canBody f | none => i.data) i.rxUs, false) := by
  rw [State.takeItem]
  simp [henc, hn, h] <;> rfl

theorem takeItem_waits (h : s.sealing i.chan = true) (hst : s.sealStalls i.chan = false) (hdue : s.isDue i.chan = false) :
    s.takeItem i = (s, true) := by
  rw [State.takeItem]
  simp [henc, hn, h, hst, hdue]

end

theorem encNtscf_of_sealing {c : Nat} (h : s.sealing c = true) : s.encNtscf c = false := by
  rw [State.sealing] at h
  cases hn : s.encNtscf c <;> simp_all

theorem gloveItem_waits {i : GlvItem} (hq : s.glv.inq = [i]) (h : s.takeItem i = (s, true)) : s.gloveItem = s := by
  rw [State.gloveItem, hq]
  simp only [State.takeFirst, List.contains_nil, h]
  simp only [Bool.false_eq_true, if_false, if_true]
  rw [← hq]
  rfl

-- bundles and keep-alives (R482, R484)

theorem bundleClose_due {c : Nat} (ho : (s.enc c).isOpen = true) (h : (s.enc c).tOpen + bits (s.encW c 2) 0 16 ≤ s.lcUs) :
    s.bundleClose c = s.closeBundle c := if_pos ⟨ho, h⟩

theorem bundleClose_early {c : Nat} (h : (s.enc c).isOpen = false ∨ s.lcUs < (s.enc c).tOpen + bits (s.encW c 2) 0 16) :
    s.bundleClose c = s := by
  refine if_neg fun ⟨ho, ht⟩ => ?_
  rcases h with h | h
  · simp [h] at ho
  · omega

theorem gloveKeepalive_early {c : Nat} (h : s.encapsulating c = false ∨ (s.enc c).isOpen = true ∨ bits (s.encW c 3) 0 16 = 0 ∨
    s.lcMs < (s.enc c).lastMs + bits (s.encW c 3) 0 16) : s.gloveKeepalive c = s := by
  refine if_neg fun ⟨he, ho, hk, ht⟩ => ?_
  rcases h with h | h | h | h
  · simp [h] at he
  · exact ho h
  · exact hk h
  · omega

theorem gloveKeepalive_due {c : Nat} (he : s.encapsulating c = true) (ho : (s.enc c).isOpen = false) (hk : bits (s.encW c 3) 0 16 ≠ 0)
    (h : (s.enc c).lastMs + bits (s.encW c 3) 0 16 ≤ s.lcMs) :
    s.gloveKeepalive c = (s.closeBundle c).inc (C.GLV_C_KEEPALIVES_SENT c) := if_pos ⟨he, by simp [ho], hk, h⟩

theorem closeBundle_enc (s : State) (c k : Nat) : (s.closeBundle c).enc k =
    if k = c then { s.enc c with isOpen := false, items := [], seq := ((s.enc c).seq + 1) % 65536, restart := false, lastMs := s.lcMs }
    else s.enc k := sget_sput enc0 c k _ s.glv.enc

theorem closeBundle_sends (s : State) (c : Nat) :
    ∃ f, ((s.closeBundle c).port 26).inq = (s.port 26).inq ++ [f] ∧ f.bytes = s.gloveOctets c (s.enc c) :=
  ⟨_, feed_inq _ 26 _, rfl⟩

-- frames at P26 (R488, R489)

theorem decapsulate_waits (h : s.out26 = [] ∨ (s.queueReady 24 = true ∧ s.isDue 24 = false)) : s.decapsulate = s := by
  rw [State.decapsulate]
  split
  · rfl
  · next pk r hq =>
    rcases h with h | ⟨hr, hd⟩
    · simp [h] at hq
    · exact if_pos (by simp [hr, hd])

/-- The unit once it has taken a frame from P26: a seal check has used its turn. -/
def State.tookGlove (s : State) (r : List Pkt) : State := { (if s.queueReady 24 then s.served 24 else s) with out26 := r }

theorem tookGlove_tables (s : State) (r : List Pkt) : (s.tookGlove r).tables = s.tables := by
  rw [State.tookGlove]
  split <;> rfl

theorem tookGlove_decW (s : State) (r : List Pkt) (d k : Nat) : (s.tookGlove r).decW d k = s.decW d k := by
  simp only [State.decW, State.tw, State.entry, tookGlove_tables]

theorem tookGlove_scf (s : State) (r : List Pkt) (h w lo n : Nat) : (s.tookGlove r).scf h w lo n = s.scf h w lo n := by
  simp only [State.scf, State.tw, State.entry, tookGlove_tables]

/-- Entry `d` takes a frame of stream handle `h` (R489). -/
def State.takesGlove (s : State) (h d : Nat) (g : Glove) : Bool :=
  (s.decW d 0).testBit 31 && decide (bits (s.decW d 0) 0 9 = h) && (s.decW d 0).testBit 21 == g.ntscf &&
    (g.ntscf || decide (bits (s.decW d 0) 16 5 = g.chan))

theorem tookGlove_takes (s : State) (r : List Pkt) (h d : Nat) (g : Glove) :
    (s.tookGlove r).takesGlove h d g = s.takesGlove h d g := by simp only [State.takesGlove, tookGlove_decW]

/-- What the engine does with the frame that it has taken. -/
def State.openGlove (s : State) (pk : Pkt) : State :=
  match parseGlove pk.data with
  | none => (s.inc C.GLV_FORMAT_ERR).raiseOnce 0x0C02 0
  | some g =>
    match pk.sc with
    | none => s.inc C.GLV_NO_DECAP
    | some h =>
      match (List.range 64).find? (fun d => s.takesGlove h d g) with
      | none => s.inc C.GLV_NO_DECAP
      | some d => s.decapsulateAt d h g

theorem decapsulate_takes {pk : Pkt} {r : List Pkt} (hq : s.out26 = pk :: r) (h : s.queueReady 24 = false ∨ s.isDue 24 = true) :
    s.decapsulate = (s.tookGlove r).openGlove pk := by
  rw [State.decapsulate]
  simp only [hq]
  rw [if_neg (by rcases h with h | h <;> simp [h])]
  rfl

theorem openGlove_unparsed {pk : Pkt} (h : parseGlove pk.data = none) :
    s.openGlove pk = (s.inc C.GLV_FORMAT_ERR).raiseOnce 0x0C02 0 := by rw [State.openGlove, h]

section
variable {pk : Pkt} {g : Glove} (hp : parseGlove pk.data = some g)
include hp

theorem openGlove_noEntry (h : pk.sc = none ∨ ∃ h, pk.sc = some h ∧ ∀ d, d < 64 → s.takesGlove h d g = false) :
    s.openGlove pk = s.inc C.GLV_NO_DECAP := by
  rw [State.openGlove, hp]
  rcases h with h | ⟨h, hs, hno⟩
  · simp only [h]
  · have hfind : (List.range 64).find? (fun d => s.takesGlove h d g) = none :=
      List.find?_eq_none.mpr fun d hd => by simp [hno d (List.mem_range.mp hd)]
    simp only [hs, hfind]

theorem openGlove_entry {h d : Nat} (hs : pk.sc = some h) (hd : d < 64) (ht : s.takesGlove h d g = true)
    (hfirst : ∀ j, j < d → s.takesGlove h j g = false) : s.openGlove pk = s.decapsulateAt d h g := by
  have hfind : (List.range 64).find? (fun d => s.takesGlove h d g) = some d :=
    List.find?_range_eq_some.mpr ⟨ht, List.mem_range.mpr hd, fun j hj => by simp [hfirst j hj]⟩
  rw [State.openGlove, hp]
  simp only [hs, hfind]

end

theorem decapsulateAt_unsealed {d h : Nat} (g : Glove) (hm : s.scf h 6 12 2 ≠ 2) :
    s.decapsulateAt d h g = if (s.seqCheck d g).2 then
      (s.seqCheck d g).1.deliverAll d g (gloveItems g.count g.rest).1 (gloveItems g.count g.rest).2 else (s.seqCheck d g).1 := if_neg hm

-- the sequence (R490)

/-- An entry that has accepted a frame. -/
def State.acceptGlove (s : State) (d : Nat) (g : Glove) : State :=
  let u := (s.wr (F.GLV_DSTATE_LAST_SEQ d) g.seq).wr (F.GLV_DSTATE_SYNCED d) 1
  u.setGlv { u.glv with tLast := sput 0 d u.lcMs u.glv.tLast }

/-- A frame is accepted by its entry, or is stale and counted. -/
theorem seqCheck_cases (s : State) (d : Nat) (g : Glove) :
    (∃ u : State, s.seqCheck d g = (u.acceptGlove d g, true)) ∨ s.seqCheck d g = (s.inc (C.GLV_D_STALE d), false) := by
  rw [State.seqCheck]
  extract_lets
  split
  · exact .inl ⟨_, rfl⟩
  · split
    · exact .inr rfl
    · split <;> exact .inl ⟨_, rfl⟩

theorem acceptGlove_state (s : State) (d : Nat) {g : Glove} (hg : g.seq < 65536) :
    (s.acceptGlove d g).rd (F.GLV_DSTATE_LAST_SEQ d) = g.seq ∧ (s.acceptGlove d g).on (F.GLV_DSTATE_SYNCED d) = true := by
  have hseq : ((s.wr (F.GLV_DSTATE_LAST_SEQ d) g.seq).wr (F.GLV_DSTATE_SYNCED d) 1).rd (F.GLV_DSTATE_LAST_SEQ d) = g.seq := by
    rw [rd_wr_other, rd_wr_same]
    · exact Nat.mod_eq_of_lt hg
    all_goals simp
  have hsync : ((s.wr (F.GLV_DSTATE_LAST_SEQ d) g.seq).wr (F.GLV_DSTATE_SYNCED d) 1).on (F.GLV_DSTATE_SYNCED d) = true := by
    rw [on_wr_same] <;> simp
  exact ⟨hseq, hsync⟩

theorem seqCheck_repeated {d : Nat} {g : Glove} (hn : g.ntscf = false) (hsync : s.on (F.GLV_DSTATE_SYNCED d) = true)
    (hr : g.restart = false) (hlt : g.seq < 65536) (hseq : g.seq = s.rd (F.GLV_DSTATE_LAST_SEQ d)) :
    s.seqCheck d g = (s.inc (C.GLV_D_STALE d), false) := by
  have hdelta : sgn 16 (g.seq + 65536 - g.seq % 65536) = 0 := by
    rw [Nat.mod_eq_of_lt hlt, Nat.add_sub_cancel_left]
    decide
  rw [State.seqCheck, if_neg (by simp [hsync, hr])]
  exact if_pos (by simp [hn, ← hseq, hdelta])

theorem resync_kept {d : Nat} (h : bits (s.decW d 2) 0 16 = 0 ∨ s.on (F.GLV_DSTATE_SYNCED d) = false ∨
    s.lcMs < sget 0 s.glv.tLast d + bits (s.decW d 2) 0 16) : s.resync d = s := by
  refine if_neg fun ⟨hms, hon, ht⟩ => ?_
  rcases h with h | h | h
  · exact hms h
  · simp [h] at hon
  · omega

theorem resync_due {d : Nat} (hms : bits (s.decW d 2) 0 16 ≠ 0) (hon : s.on (F.GLV_DSTATE_SYNCED d) = true)
    (h : sget 0 s.glv.tLast d + bits (s.decW d 2) 0 16 ≤ s.lcMs) : s.resync d = s.wr (F.GLV_DSTATE_SYNCED d) 0 :=
  if_pos ⟨hms, hon, h⟩

end Sys2Proof.Machine

namespace Sys2Proof.Machine

/-- Settles O50, command by command. -/
theorem gloveEngineRuns : Obligations.GloveEngineRuns := by
  intro s
  refine ⟨fun i r ha hq he => (finish_live ha _).trans (by rw [gloveItem_taken hq (takeItem_notDuty he)]; rfl),
    fun _ hq => finish_live_id (gloveItem_none hq),
    fun i r ha hq he hn hs => (finish_live ha _).trans (by rw [gloveItem_taken hq (takeItem_plain he hn hs)] <;> rfl),
    fun i _ hq he hs hst hd => finish_live_id (gloveItem_waits hq (takeItem_waits he (encNtscf_of_sealing hs) hs hst hd)),
    fun c ha => ⟨fun ho h => (finish_live ha _).trans (by rw [bundleClose_due ho h]), fun h => finish_live_id (bundleClose_early h),
      fun h => finish_live_id (gloveKeepalive_early h),
      fun he ho hk h => (finish_live ha _).trans (by rw [gloveKeepalive_due he ho hk h]),
      ?_, ?_, ?_, closeBundle_sends s c, fun k hk => ?_⟩,
    fun h => finish_live_id (decapsulate_waits h),
    fun pk r ha hq hdue => ⟨fun hp => ?_, fun g hp => ⟨fun h => ?_, fun h d hs hd ht hfirst hm => ?_⟩⟩,
    fun d g hg hn => ⟨fun h => ?_, fun hsync hr hseq => seqCheck_repeated hn hsync hr hg hseq⟩,
    fun d h => finish_live_id (resync_kept h),
    fun d ha hms hon h => (finish_live ha _).trans (by rw [resync_due hms hon h]),
    fun v hw => ⟨fun h => (finish_regLive hw _).trans ?_, fun h1 h2 => (finish_regLive hw _).trans ?_,
      fun h => (finish_regLive hw _).trans ?_⟩⟩
  iterate 3 rw [closeBundle_enc, if_pos rfl]
  · rw [closeBundle_enc, if_neg hk]
  · exact (finish_live ha _).trans (by rw [decapsulate_takes hq hdue, openGlove_unparsed hp]; rfl)
  · refine (finish_live ha _).trans ?_
    rw [decapsulate_takes hq hdue, openGlove_noEntry hp]
    · rfl
    · simp only [tookGlove_takes]
      exact h
  · refine (finish_live ha _).trans ?_
    rw [decapsulate_takes hq hdue, openGlove_entry hp hs hd ((tookGlove_takes ..).trans ht) (fun j hj => (tookGlove_takes ..).trans (hfirst j hj)),
      decapsulateAt_unsealed g (by rw [tookGlove_scf]; exact hm)]
    rfl
  · rcases seqCheck_cases s d g with ⟨u, hu⟩ | hu
    · rw [hu]
      exact acceptGlove_state u d hg
    · simp [hu] at h
  · rw [State.glvCommit, if_pos h]
  · rw [State.glvCommit, if_neg (by omega), if_pos ⟨h1, h2⟩]
  · rw [State.glvCommit, if_neg (by omega), if_neg (by omega)]

end Sys2Proof.Machine
end

section
/-! PROOF. The job rings of the cipher engine: PUT, turns, dispatch, results, compare pairs and ABORT. -/

namespace Sys2Proof.Machine

variable {s : State}

-- PUT (R501)

theorem regRow_ringPut : ∀ e : Fin 8, regRow? (R.CPH_RING_PUT e) = some ⟨0x20D00108, [(0x20, 8)], [⟨0, 10, .rw, 0x0⟩], []⟩ := by
  decide +kernel

/-- A field that firmware may write, from bit 0 on, takes the low bits of what is written to its register. -/
theorem rd_writeFields_low (s : State) {a w : Nat} {r : RegRow} (hr : regRow? a = some r)
    (hmask : ∀ k, k < w → (r.mask (fun t => t == .rw || t == .rws)).testBit k = true) (hclear : r.mask (fun t => t == .w1c) = 0)
    (hw : w ≤ 32) (v : Nat) : (s.writeFields a v).rd ⟨a, 0, w⟩ = v % 2 ^ w := by
  rw [State.rd, State.writeFields, hr]
  dsimp only
  rw [regN_setRegN_same, bits_mod (by omega)]
  refine Nat.eq_of_testBit_eq fun k => ?_
  rw [testBit_bits, Nat.testBit_mod_two_pow]
  by_cases hk : k < w
  · rw [Nat.zero_add, testBit_writtenValue (hmask k hk) (by rw [hclear, Nat.zero_testBit])]
  · simp [hk]

theorem ringPut_put (s : State) (e : Fin 8) (v : Nat) :
    (s.writeFields (R.CPH_RING_PUT e) v).rd (F.CPH_RING_PUT_PUT e) = v % 1024 :=
  rd_writeFields_low s (regRow_ringPut e) (by decide) (by decide) (by decide) v

-- turns (R498)

/-- The queue whose turn it is is the first ready one after that served last. -/
theorem isDue_iff (s : State) (q : Nat) : s.isDue q = true ↔ ∃ i, i < 33 ∧ q = (s.cph.turn + 1 + i) % 33 ∧ s.queueReady q = true ∧
    ∀ j, j < i → s.queueReady ((s.cph.turn + 1 + j) % 33) = false := by
  rw [State.isDue, beq_iff_eq, State.queueDue, List.find?_map, Option.map_eq_some_iff]
  constructor
  · rintro ⟨i, hi, rfl⟩
    obtain ⟨hw, hm, hlt⟩ := List.find?_range_eq_some.mp hi
    exact ⟨i, List.mem_range.mp hm, rfl, hw, fun j hj => by simpa using hlt j hj⟩
  · rintro ⟨i, hi, rfl, hw, hlt⟩
    exact ⟨i, List.find?_range_eq_some.mpr ⟨hw, List.mem_range.mpr hi, fun j hj => by simpa using hlt j hj⟩, rfl⟩

-- pairs (R494, R495)

theorem pickPair_mem {but : Option Nat} {c : Nat} (h : (s.pickPair but).2 = some c) : c ∈ s.pairsOn ∧ some c ≠ but := by
  rw [State.pickPair] at h
  split at h
  · cases h
  · next l hl =>
    have hlen : 0 < (s.pairsOn.filter (fun c => some c != but)).length :=
      List.length_pos_iff.mpr hl
    have hmem : c ∈ s.pairsOn.filter (fun c => some c != but) := by
      obtain rfl := Option.some.inj h
      exact nth_mem 0 _ _ (Nat.mod_lt _ hlen)
    simpa using hmem

theorem pickPair_cph (s : State) (but : Option Nat) : (s.pickPair but).1.cph = s.cph := by
  rw [State.pickPair]
  split <;> rfl

theorem pickPair_none (h : s.pairsOn = []) : s.pickPair none = (s, none) := by
  rw [State.pickPair, h]
  rfl

-- dispatch (R503, R509)

theorem dispatchJob_other {e : Nat} {ops : List Nat} {i : Nat} (hi : s.nextJob e = some i)
    (hop : bits (s.jobWord e i 0) 0 4 ∉ ops) : s.dispatchJob e ops = s := by
  rw [State.dispatchJob, hi]
  exact if_pos (by simpa using hop)

theorem dispatchJob_none {e : Nat} (h : s.nextJob e = none ∨ s.pairsOn = []) (ops : List Nat) : s.dispatchJob e ops = s := by
  rw [State.dispatchJob]
  split
  · rfl
  · next i hi =>
    rcases h with h | h
    · rw [h] at hi
      cases hi
    · simp only [pickPair_none h, ite_self]

theorem dispatchTurn_same {e : Nat} {ops : List Nat} (h : s.isDue (25 + e) = false ∨ s.dispatchJob e ops = s) :
    s.dispatchTurn e ops = s := by
  refine if_neg fun ⟨hdue, hlen⟩ => ?_
  rcases h with h | h
  · simp [h] at hdue
  · simp [h] at hlen

/-- The unit once descriptor `i` of ring `e` has been dispatched on pair `c`. -/
def State.dispatched (s : State) (e i c : Nat) : State :=
  let u := (s.pickPair none).1
  let u := if (s.runJob e i).badAddr then (u.inc C.CPH_RING_ERRORS).raiseOnce 0x0D07 e else u
  u.setCph { u.cph with jobs := u.cph.jobs ++
    [⟨e, i, bits (s.jobWord e i 0) 8 8, (s.key (bits (s.jobWord e i 0) 8 8)).gen, c, false, false, (s.runJob e i).status,
      (s.runJob e i).outs, (s.runJob e i).keyW⟩] }

section
variable {e i c : Nat} {ops : List Nat} (hi : s.nextJob e = some i) (hc : (s.pickPair none).2 = some c)
  (hop : bits (s.jobWord e i 0) 0 4 ∈ ops)
include hi hc hop

theorem dispatchJob_dispatches : s.dispatchJob e ops = s.dispatched e i c := by
  have hcph : (if (s.runJob e i).badAddr then ((s.pickPair none).1.inc C.CPH_RING_ERRORS).raiseOnce 0x0D07 e
      else (s.pickPair none).1).cph = s.cph := by
    split <;> simp [pickPair_cph]
  rw [State.dispatchJob, hi]
  refine (if_neg (by simpa using hop)).trans ?_
  simp only [hc, State.dispatched, State.key, hcph]

theorem dispatchTurn_dispatches (hdue : s.isDue (25 + e) = true) : s.dispatchTurn e ops = (s.dispatched e i c).served (25 + e) := by
  have hlen : (s.dispatched e i c).cph.jobs.length = s.cph.jobs.length + 1 := by
    rw [State.dispatched]
    dsimp only [State.setCph]
    split <;> simp [pickPair_cph]
  rw [State.dispatchTurn, dispatchJob_dispatches hi hc hop]
  exact if_pos ⟨hdue, by omega⟩

end

theorem alive_of_nextJob {e i : Nat} (h : s.nextJob e = some i) : s.alive = true := by
  by_contra hn
  rw [State.nextJob, if_pos (.inl hn)] at h
  cases h

-- what a descriptor comes to (R502 to R505)

/-- NOP and an unknown OP end by themselves; of the others the lengths and addresses decide first, then whether the slots hold keys,
then their modes; past them the operation does. -/
def JobResult.Follows (op : Nat) (loaded serves : Bool) (r : JobResult) : Prop :=
  (op = 0 ∧ r = jobEnds 0) ∨ (8 ≤ op ∧ r = jobEnds 3) ∨ (1 ≤ op ∧ op ≤ 7 ∧
    (r = jobEnds 6 ∨ r = { jobEnds 6 with badAddr := true } ∨ r = jobEnds 2 ∨ (loaded = true ∧ r = jobEnds 3) ∨
      (loaded = true ∧ serves = true ∧ (r.status = 0 ∨ r = jobEnds 1))))

theorem runJob_follows (s : State) (e i : Nat) :
    let op := bits (s.jobWord e i 0) 0 4
    let slot := bits (s.jobWord e i 0) 8 8
    (s.runJob e i).Follows op (s.key slot).loaded (s.slotServes op slot) := by
  intro op slot
  obtain ⟨r, hr⟩ : ∃ r, r = s.runJob e i := ⟨_, rfl⟩
  rw [← hr]
  rw [State.runJob] at hr
  dsimp only at hr
  generalize (if bits (s.jobWord e i 0) 4 4 = 0 then 16 else bits (s.jobWord e i 0) 4 4) = tagLen at hr
  split at hr
  · next h0 => exact .inl ⟨h0, hr⟩
  next h0 =>
  split at hr
  · next h8 => exact .inr (.inl ⟨h8, hr⟩)
  next h8 =>
  refine .inr (.inr ⟨Nat.pos_of_ne_zero h0, by omega, ?_⟩)
  split at hr
  · exact .inl hr
  split at hr
  · exact .inr (.inl hr)
  split at hr
  · exact .inr (.inr (.inl hr))
  next hkey =>
  have hloaded : (s.key slot).loaded = true := Classical.not_not.mp fun h => hkey (.inl h)
  split at hr
  · exact .inr (.inr (.inr (.inl ⟨hloaded, hr⟩)))
  next hmode =>
  have hserves : s.slotServes op slot = true := Classical.not_not.mp fun h => hmode (.inl h)
  refine .inr (.inr (.inr (.inr ⟨hloaded, hserves, ?_⟩)))
  split at hr
  case h_2 | h_4 =>
    split at hr
    · exact .inl (congrArg JobResult.status hr)
    · exact .inr hr
  case h_6 =>
    split at hr
    · exact .inl (by rw [hr])
    · exact .inr hr
  all_goals exact .inl (by rw [hr])

theorem JobResult.Follows.status {op : Nat} {loaded serves : Bool} {r : JobResult} (h : r.Follows op loaded serves) :
    r.status ∈ [0, 1, 2, 3, 6] ∧ (r.status ≠ 0 → r.outs = [] ∧ r.keyW = none) ∧ (op = 0 → r.status = 0) ∧ (8 ≤ op → r.status = 3) ∧
      (1 ≤ op → op ≤ 7 → loaded = false → r.status = 2 ∨ r.status = 6) ∧
      (1 ≤ op → op ≤ 7 → serves = false → r.status = 2 ∨ r.status = 3 ∨ r.status = 6) := by
  rcases h with ⟨h0, hr⟩ | ⟨h8, hr⟩ | ⟨h1, h7, hr | hr | hr | ⟨hl, hr⟩ | ⟨hl, hs, hr | hr⟩⟩
  · simp [hr, h0, jobEnds]
  · simp [hr, jobEnds]
    omega
  · simp [hr, jobEnds]
    omega
  · simp [hr, jobEnds]
    omega
  · simp [hr, jobEnds]
    omega
  · simp [hr, hl, jobEnds]
    omega
  · simp [hr, hl, hs]
    omega
  · simp [hr, hl, hs, jobEnds]
    omega

-- the end of a job on its pair (R493, R494)

section
variable {e : Nat} {j : Job} (hj : (s.ringJobs e).find? (fun j => !j.ready) = some j)
include hj

theorem jobComplete_agrees : s.jobComplete e false = (s.setJob j { j with ready := true }).settleRings.noPair := by
  rw [State.jobComplete, hj]
  rfl

/-- A job that ends with COMPARE_FAULT: nothing is written. -/
theorem jobComplete_fault (h : j.rerun = true ∨ (s.pickPair (some j.pair)).2 = none) : s.jobComplete e true =
    ((s.setJob j { j with ready := true, status := 5, outs := [], keyW := none }).pairDiffers j.pair).settleRings.noPair := by
  rw [State.jobComplete, hj]
  simp only [not_true_eq_false, if_false]
  by_cases hr : j.rerun = true
  · exact if_pos hr
  · rw [if_neg hr, h.resolve_left hr]

theorem jobComplete_rerun {d : Nat} (hr : j.rerun = false) (hd : (s.pickPair (some j.pair)).2 = some d) : s.jobComplete e true =
    (((s.pickPair (some j.pair)).1.setJob j { j with pair := d, rerun := true }).pairDiffers j.pair).settleRings.noPair := by
  rw [State.jobComplete, hj]
  simp only [not_true_eq_false, if_false, hr, Bool.false_eq_true, hd]

end

theorem jobComplete_none {e : Nat} (h : (s.ringJobs e).find? (fun j => !j.ready) = none) (d : Bool) : s.jobComplete e d = s := by
  rw [State.jobComplete, h]

-- ABORT (R506)

/-- A ring's ABORT ends its descriptors one by one, which moves the ring's registers and writes its memory and no more. -/
structure OnlyRing (s t : State) : Prop where
  cph : t.cph = s.cph
  flash : t.flash = s.flash
  tables : t.tables = s.tables

theorem OnlyRing.trans {t u : State} (h : OnlyRing s t) (k : OnlyRing t u) : OnlyRing s u :=
  ⟨k.cph.trans h.cph, k.flash.trans h.flash, k.tables.trans h.tables⟩

theorem OnlyRing.wr {t : State} (h : OnlyRing s t) (f : Fld) (v : Nat) : OnlyRing s (t.wr f v) := ⟨h.cph, h.flash, h.tables⟩

theorem onlyRing_job (s : State) (k : Nat) : OnlyRing s (s.job k) := by
  unfold State.job
  split <;> exact ⟨by simp, by simp, by simp⟩

theorem onlyRing_endDescriptor (s : State) (e i k : Nat) : OnlyRing s (s.endDescriptor e i none k) := ⟨rfl, rfl, rfl⟩

theorem onlyRing_abortRing (e n : Nat) : ∀ s : State, OnlyRing s (s.abortRing e n) := by
  induction n with
  | zero => exact fun s => ⟨rfl, rfl, rfl⟩
  | succ n ih =>
    intro s
    rw [State.abortRing]
    split
    · exact ⟨rfl, rfl, rfl⟩
    · refine OnlyRing.trans ?_ (ih _)
      exact ((onlyRing_endDescriptor s e _ 7).trans (onlyRing_job _ 7)).wr _ _

theorem ringAbort_waits {e : Nat} (ha : s.cph.aborting = []) (hj : s.ringJobs e ≠ []) :
    s.ringAbort e = s.setCph { s.cph with aborting := [e] } := by
  rw [State.ringAbort, ha]
  exact if_neg fun h => hj h.2

theorem ringAbort_ends {e : Nat} (ha : s.cph.aborting = []) (hj : s.ringJobs e = []) :
    (s.ringAbort e).on (F.CPH_RING_CTRL_EN e) = false ∧ OnlyRing s (s.ringAbort e) := by
  have hgone : [e].filter (fun x => x != e) = [] := by simp
  have habort : s.ringAbort e = (let u := (s.setCph { s.cph with aborting := [e] }).abortRing e 512
      (u.setCph { u.cph with aborting := u.cph.aborting.filter (fun x => x != e) }).wr (F.CPH_RING_CTRL_EN e) 0) := by
    rw [State.ringAbort, ha]
    exact if_pos ⟨by simp [State.setCph], hj⟩
  obtain ⟨hc, hf, ht⟩ := onlyRing_abortRing e 512 (s.setCph { s.cph with aborting := [e] })
  rw [habort]
  refine ⟨by rw [on_wr_same] <;> simp, ?_, hf, ht⟩
  simp only [wr_cph, setCph_cph] at hc ⊢
  rw [hc, hgone, ← ha]

end Sys2Proof.Machine

namespace Sys2Proof.Machine

/-- Settles O52, command by command. -/
theorem cipherJobsRun : Obligations.CipherJobsRun := by
  intro e s
  refine ⟨fun v hw => ⟨finish_regLive hw _, ringPut_put s e v.toNat, writeFields_mem s _ _⟩, isDue_iff s, fun h => ?_,
    fun i c hi hdue hc => ?_, fun i => (runJob_follows s e i).status, fun d h => finish_live_id (jobComplete_none h d),
    fun j ha hj => ⟨(finish_live ha _).trans (by rw [jobComplete_agrees hj]),
      fun hr => (finish_live ha _).trans (by rw [jobComplete_fault hj (.inl hr)]),
      fun _ hn => (finish_live ha _).trans (by rw [jobComplete_fault hj (.inr hn)]),
      fun d hr hd => ⟨fun h => (pickPair_mem hd).2 (congrArg some h), (finish_live ha _).trans (by rw [jobComplete_rerun hj hr hd])⟩⟩,
    fun hw ha => ⟨fun hj => (finish_regLive hw _).trans (by rw [ringAbort_waits ha hj]), fun hj => ?_⟩⟩
  · have hsame (ops : List Nat) : finish (s.live (fun s => s.dispatchTurn e ops)) = .next (settle s) :=
      finish_live_id (dispatchTurn_same (h.imp_right fun h => dispatchJob_none h ops))
    exact ⟨hsame _, hsame _, hsame _, hsame _, hsame _, hsame _, hsame _, hsame _⟩
  · intro op slot r u v t
    have hgoes (ops : List Nat) (h : op ∈ ops) : finish (s.live (fun s => s.dispatchTurn e ops)) = .next (settle t) :=
      (finish_live (alive_of_nextJob hi) _).trans (by rw [dispatchTurn_dispatches hi hc h hdue]; rfl)
    have hstays (ops : List Nat) (h : op ∉ ops) : finish (s.live (fun s => s.dispatchTurn e ops)) = .next (settle s) :=
      finish_live_id (dispatchTurn_same (.inr (dispatchJob_other hi h)))
    have hop : op < 16 := bits_lt ..
    refine ⟨(pickPair_mem hc).1, fun h => hgoes _ (by simp; omega), fun h => hgoes _ (by simp [h]), fun h => hgoes _ (by simp [h]),
      fun h => hgoes _ (by simp [h]), fun h => hgoes _ (by simp [h]), fun h => hgoes _ (by simp [h]), fun h => hgoes _ (by simp [h]),
      fun h => hgoes _ (by simp [h]), fun h => hstays _ (by simp [h]), fun h => hstays _ (by simp [h])⟩
  · obtain ⟨hen, hc, hf, ht⟩ := ringAbort_ends ha hj
    exact ⟨s.ringAbort e, finish_regLive hw _, hen, hc, hf, ht⟩

end Sys2Proof.Machine
end

section
/-! PROOF. The key store: what erasing, writing and destroying do, what KS_SEL shows, which pairs serve, and that no register depends on
the keys. -/

namespace Sys2Proof.Machine

-- keys (R509 to R513)

@[simp] theorem key_setKey (s : State) (k n : Nat) (v : Key) : (s.setKey k v).key n = if n = k then v else s.key n :=
  sget_sput key0 k n v s.cph.keys

theorem retireKey_kept (s : State) (k : Nat) (bank : Bool) :
    (s.retireKey k bank).cph.keys = s.cph.keys ∧ (s.retireKey k bank).cph.jobs = s.cph.jobs ∧ (s.retireKey k bank).mem = s.mem := by
  rw [State.retireKey]
  extract_lets
  split
  · exact ⟨rfl, rfl, rfl⟩
  · split <;> exact ⟨rfl, rfl, rfl⟩

theorem key_retireKey (s : State) (k n : Nat) (bank : Bool) : (s.retireKey k bank).key n = s.key n := by
  rw [State.key, (retireKey_kept s k bank).1]
  rfl

theorem key_eraseKey (s : State) (k n : Nat) :
    (s.eraseKey k).key n = if n = k then ⟨false, 0, [], ((s.key k).gen + 1) % 65536⟩ else s.key n := by
  rw [State.eraseKey, key_setKey, key_retireKey, key_retireKey]

theorem key_writeKey (s : State) (k mode : Nat) (b : List Byte) :
    (s.writeKey k mode b).key k = ⟨true, mode, b, ((s.key k).gen + 1) % 65536⟩ := by
  have hgen : (s.retireKey k true).key k = s.key k := key_retireKey ..
  rw [State.writeKey, key_setKey, if_pos rfl, ← hgen]
  rfl

theorem writeKey_jobs (s : State) (k mode : Nat) (b : List Byte) : (s.writeKey k mode b).cph.jobs = s.cph.jobs :=
  (retireKey_kept s k true).2.1

section
variable {s : State} {k : Nat} (hl : (s.key k).loaded = true)
include hl

/-- Material with no job bound to it is destroyed with its slot. -/
theorem retireKey_unbound (hb : s.bound k (s.key k).gen = false) (bank : Bool) : s.retireKey k bank = s.inc C.CPH_KEY_DESTROYED := by
  rw [State.retireKey, if_neg (by simp [hl]), if_neg (by simp [hb])]

/-- Material with a job bound to it is kept. -/
theorem retireKey_bound (hb : s.bound k (s.key k).gen = true) (bank : Bool) : s.retireKey k bank =
    s.setCph { s.cph with old := s.cph.old ++ [⟨k, (s.key k).gen, (s.key k).bytes, bank⟩] } := by
  rw [State.retireKey, if_neg (by simp [hl]), if_pos hb]

end

/-- Old material of a slot to which no job is bound any more (R512). -/
def State.unboundOld (s : State) (k : Nat) : List OldKey := s.cph.old.filter (fun o => o.slot == k && !s.bound o.slot o.gen)

theorem mem_unboundOld {s : State} {k : Nat} {o : OldKey} (ho : o ∈ s.cph.old) :
    o ∈ s.unboundOld k ↔ o.slot = k ∧ s.bound o.slot o.gen = false := by
  simp [State.unboundOld, ho]

theorem keyDestroyed_none {s : State} {k : Nat} (h : s.unboundOld k = []) : s.keyDestroyed k = s := if_pos h

theorem keyDestroyed_some {s : State} {k : Nat} (h : s.unboundOld k ≠ []) : s.keyDestroyed k =
    ((s.setCph { s.cph with old := s.cph.old.filter (fun o => !(s.unboundOld k).contains o) }).add C.CPH_KEY_DESTROYED
      (s.unboundOld k).length).settleRings := if_neg h

-- KS_SEL (R507)

/-- KS_STATE after a write of KS_SEL: the fields of the slot, side by side. -/
theorem regN_cphKsSel (s : State) (v : Nat) : let k := s.key (v % 256)
    ∃ a b, a ≤ 1 ∧ b ≤ 1 ∧ (s.cphKsSel v).regN R.CPH_KS_STATE =
      (k.gen * 65536 + k.mode * 256 + b2n k.loaded * 128 + a * 64 + b * 32) % 2 ^ 32 :=
  ⟨_, _, b2n_le_one _, b2n_le_one _, regN_setRegN_same ..⟩

theorem cphKsSel_shows (s : State) (v : Nat) : let k := s.key (v % 256)
    k.gen < 65536 → k.mode < 256 → (s.cphKsSel v).rd F.CPH_KS_STATE_GEN = k.gen ∧ (s.cphKsSel v).rd F.CPH_KS_STATE_MODE = k.mode ∧
      (s.cphKsSel v).on F.CPH_KS_STATE_LOADED = k.loaded := by
  intro k hg hm
  obtain ⟨a, b, ha, hb, hreg⟩ := regN_cphKsSel s v
  change _ = (k.gen * 65536 + k.mode * 256 + b2n k.loaded * 128 + a * 64 + b * 32) % 2 ^ 32 at hreg
  clear_value k
  have hl := b2n_le_one k.loaded
  refine ⟨?_, ?_, ?_⟩
  · rw [State.rd, hreg, bits_eq_div_mod]
    dsimp only
    omega
  · rw [State.rd, hreg, bits_eq_div_mod]
    dsimp only
    omega
  · have hbit : (s.cphKsSel v).rd F.CPH_KS_STATE_LOADED = b2n k.loaded := by
      rw [State.rd, hreg, bits_eq_div_mod]
      dsimp only
      omega
    rw [State.on, hbit]
    cases k.loaded <;> rfl

-- pairs in service (R495)

theorem regRow_cphCtrl : regRow? R.CPH_CTRL = some ⟨0x20D00000, [], [⟨0, 4, .rw, 0xF⟩], []⟩ := by decide +kernel

theorem pairEn_writeFields (s : State) (v : Nat) : (s.writeFields R.CPH_CTRL v).rd F.CPH_CTRL_PAIR_EN = v % 16 :=
  rd_writeFields_low s regRow_cphCtrl (by decide) (by decide) (by decide) v

theorem pairEn_refreshPairs (s : State) : s.refreshPairs.rd F.CPH_CTRL_PAIR_EN = s.rd F.CPH_CTRL_PAIR_EN :=
  rd_of_regN (regN_wr_ne s _ (by decide) _)

theorem pairsOn_eq_nil_iff {s : State} (h : s.rd F.CPH_CTRL_PAIR_EN < 16) : s.pairsOn = [] ↔ s.rd F.CPH_CTRL_PAIR_EN = 0 := by
  rw [State.pairsOn]
  generalize s.rd F.CPH_CTRL_PAIR_EN = v at h
  revert v
  decide

/-- With no pair on and no job, no pair is in service. -/
theorem inService_refreshPairs {s : State} (hp : s.pairsOn = []) (hj : s.cph.jobs = []) :
    s.refreshPairs.rd F.CPH_STATUS_IN_SERVICE = 0 := by
  rw [State.refreshPairs, rd_wr_same _ _ (by simp), hp, hj]
  rfl

theorem pairEnWrite_last {s : State} {v : Nat} (hv : v % 16 = 0) (hj : s.cph.jobs = []) : (s.pairEnWrite v).flt.silent = true := by
  have hoff : (s.writeFields R.CPH_CTRL v).pairsOn = [] := (pairsOn_eq_nil_iff (by rw [pairEn_writeFields]; omega)).mpr
    (by rw [pairEn_writeFields, hv])
  have hoff' : (s.writeFields R.CPH_CTRL v).refreshPairs.pairsOn = [] := by rw [State.pairsOn, pairEn_refreshPairs]; exact hoff
  obtain ⟨r, hr⟩ := writeFields_eq s R.CPH_CTRL v
  have hjobs : (s.writeFields R.CPH_CTRL v).cph.jobs = [] := by rw [hr, hj]
  rw [State.pairEnWrite, State.noPair, if_pos ⟨hoff', inService_refreshPairs hoff hjobs⟩]
  exact failSilent_silent ..

theorem pairEnWrite_some {s : State} {v : Nat} (hv : v % 16 ≠ 0) : (s.pairEnWrite v).flt = s.flt := by
  have hpair : (s.writeFields R.CPH_CTRL v).refreshPairs.rd F.CPH_CTRL_PAIR_EN = v % 16 := by rw [pairEn_refreshPairs, pairEn_writeFields]
  have hon : (s.writeFields R.CPH_CTRL v).refreshPairs.pairsOn ≠ [] := fun h =>
    hv (hpair ▸ (pairsOn_eq_nil_iff (by rw [hpair]; omega)).mp h)
  obtain ⟨r, hr⟩ := writeFields_eq s R.CPH_CTRL v
  rw [State.pairEnWrite, State.noPair, if_neg fun h => hon h.1, hr]
  rfl

-- the transmit association (R521, R523)

theorem msCtrl_ne_lease (p : Fin 16) (i : Nat) : R.CPH_MS_CTRL p ≠ R.CPH_LEASE_NEXT_LO i ∧ R.CPH_MS_CTRL p ≠ R.CPH_LEASE_NEXT_HI i ∧
    R.CPH_MS_CTRL p ≠ R.CPH_LEASE_CEIL i ∧ R.CPH_MS_CTRL p ≠ R.CPH_LEASE_STATE i := by
  obtain ⟨p, hp⟩ := p
  simp only [R.CPH_MS_CTRL, R.CPH_LEASE_NEXT_LO, R.CPH_LEASE_NEXT_HI, R.CPH_LEASE_CEIL, R.CPH_LEASE_STATE]
  omega

theorem msCtrl_not_linkCounter : ∀ p : Fin 16, ¬ linkCounter (R.CPH_MS_CTRL p) := by decide

/-- A lease that restarts leaves the control of every channel as it is. -/
theorem regN_restartLease (s : State) (i pn : Nat) (p : Fin 16) :
    (s.restartLease i pn).regN (R.CPH_MS_CTRL p) = s.regN (R.CPH_MS_CTRL p) := by
  obtain ⟨hlo, hhi, hceil, hstate⟩ := msCtrl_ne_lease p i
  have hnl := msCtrl_not_linkCounter p
  rw [State.restartLease, (onlyLink_linkSend _ _ _).reg _ hnl, (onlyLink_linkSend _ _ _).reg _ hnl, State.setCeil,
    regN_setRegN_ne _ hceil]
  exact (regN_wr_ne _ _ hstate 0).trans (regN_setPair_ne _ hlo hhi 0)

theorem txAn_moveAn (s : State) (p : Fin 16) (a : Fin 4) : (s.moveAn p a).rd (F.CPH_MS_CTRL_TX_AN p) = a := by
  have hset : (s.wr (F.CPH_MS_CTRL_TX_AN p) a).rd (F.CPH_MS_CTRL_TX_AN p) = a := by
    rw [rd_wr_same _ _ (by simp)]
    exact Nat.mod_eq_of_lt a.isLt
  rw [State.moveAn]
  split
  · exact (rd_of_regN (regN_restartLease _ _ _ p)).trans hset
  · exact hset

theorem txAn_txAnWrite (s : State) (p : Fin 16) (a : Fin 4) : (s.txAnWrite p a).rd (F.CPH_MS_CTRL_TX_AN p) = a := by
  obtain ⟨u, hu, hset⟩ : ∃ u, (if s.rd (F.CPH_MS_CTRL_TX_AN p) = a then s else s.moveAn p a) = u ∧ u.rd (F.CPH_MS_CTRL_TX_AN p) = a := by
    refine ⟨_, rfl, ?_⟩
    split
    · assumption
    · exact txAn_moveAn s p a
  rw [State.txAnWrite, hu]
  split <;> exact hset

theorem txAnWrite_same {s : State} {p a : Nat} (h : s.rd (F.CPH_MS_CTRL_TX_AN p) = a) (hr : s.txReady p a = false) :
    s.txAnWrite p a = s := by
  rw [State.txAnWrite, if_pos h]
  simp [hr]

-- registers and keys (R507)

/-- The unit with other keys in its key store. -/
def State.withKeys (s : State) (ks : Sparse Key) : State := { s with cph := { s.cph with keys := ks } }

variable (s : State) (ks : Sparse Key)

theorem entryFrom_withKeys (w : List Word) : ∀ n pos, (s.withKeys ks).entryFrom w pos n = s.entryFrom w pos n
  | 0, _ => rfl
  | n + 1, pos => by
    rw [State.entryFrom, State.entryFrom, entryFrom_withKeys w n]
    rfl

theorem advanceList_withKeys (l : GList) (t : Int) : (s.withKeys ks).advanceList l t = s.advanceList l t := by
  simp only [State.advanceList, State.changeList, State.startCycle, State.nextEntry, State.enterEntry, State.setNext,
    entryFrom_withKeys]
  rfl

/-- A gate list runs on alike under other keys. -/
theorem listAt_withKeys (t : Int) : ∀ n l, (s.withKeys ks).listAt t n l = s.listAt t n l
  | 0, _ => rfl
  | n + 1, l => by
    rw [State.listAt, State.listAt]
    simp only [advanceList_withKeys, listAt_withKeys t n]

theorem portGates_withKeys (p : Nat) : (s.withKeys ks).portGates p = s.portGates p := by
  rw [State.portGates, State.portGates, State.shiftedAt, State.shiftedAt]
  simp only [listAt_withKeys]
  rfl

theorem sgOpen_withKeys (g : Nat) : (s.withKeys ks).sgOpen g = s.sgOpen g := by
  rw [State.sgOpen, State.sgOpen, listAt_withKeys]
  rfl

/-- What a live register shows is not of the keys. -/
theorem liveRegs_withKeys : ∀ r ∈ liveRegs, ∀ n, (r.fresh (s.withKeys ks) n).regs = (r.fresh s n).regs := by
  simp only [liveRegs, List.forall_mem_cons]
  iterate 6 refine ⟨fun _ => rfl, ?_⟩
  refine ⟨fun n => by rw [sgOpen_withKeys]; rfl, ?_⟩
  iterate 5 refine ⟨fun _ => rfl, ?_⟩
  refine ⟨fun n => by rw [portGates_withKeys]; rfl, ?_⟩
  iterate 26 refine ⟨fun _ => rfl, ?_⟩
  exact fun _ h => absurd h List.not_mem_nil

theorem refreshReg_withKeys (a : Nat) : ((s.withKeys ks).refreshReg a).regs = (s.refreshReg a).regs := by
  rw [State.refreshReg, State.refreshReg]
  split
  · next r hr => exact liveRegs_withKeys s ks r (List.mem_of_find?_eq_some hr) _
  · rfl

theorem readReg_withKeys (e a : Nat) : (s.withKeys ks).readReg e a = s.readReg e a := by
  rw [State.readReg, State.readReg]
  simp only [State.regN, State.reg, refreshReg_withKeys]
  rfl

end Sys2Proof.Machine

namespace Sys2Proof.Machine

/-- Settles O53, clause by clause. -/
theorem keysStayInside : Obligations.KeysStayInside := by
  intro s
  refine ⟨fun v hw => ⟨fun h => (finish_regLive hw _).trans (by rw [State.keyErase, if_pos h]),
      fun h => (finish_regLive hw _).trans (by rw [State.keyErase, if_neg (by simp [h])])⟩,
    fun k => ⟨(key_eraseKey s k k).trans (if_pos rfl), fun mode b => ⟨key_writeKey s k mode b, writeKey_jobs s k mode b⟩,
      fun n hn => (key_eraseKey s k n).trans (if_neg hn), (retireKey_kept s k false).2.1, (retireKey_kept s k false).2.2,
      fun hl hb => ?_, fun hl hb => ?_⟩,
    fun k => ⟨fun h => (congrArg _ (keyDestroyed_none h) : finish _ = _), fun h => (congrArg _ (keyDestroyed_some h) : finish _ = _),
      fun o ho hb => ?_, fun o ho hk => ?_⟩,
    fun v hw => ⟨finish_regLive hw _, cphKsSel_shows s v.toNat⟩,
    fun v hw => ⟨finish_regLive hw _, fun hv hj => pairEnWrite_last hv hj, fun hv => pairEnWrite_some hv⟩,
    fun p a hw => ⟨finish_regLive hw _, txAn_txAnWrite s p a, fun ha hr => (finish_regLive hw _).trans (by rw [txAnWrite_same ha hr])⟩,
    fun e a ks => readReg_withKeys s ks e a⟩
  · rw [State.eraseKey, retireKey_unbound hl hb]
    exact ⟨rfl, rfl⟩
  · rw [State.eraseKey, retireKey_bound hl hb]
    exact ⟨rfl, rfl⟩
  · refine List.mem_filter.mpr ⟨ho, ?_⟩
    have hkept : o ∉ s.unboundOld k.toNat := fun h => by
      have hfree := ((mem_unboundOld ho).mp h).2
      simp [hb] at hfree
    have hnot : (s.unboundOld k.toNat).contains o = false := by simpa using hkept
    exact hnot ▸ rfl
  · obtain ⟨ho, hkept⟩ := List.mem_filter.mp ho
    by_contra hb
    have hgone : o ∈ s.unboundOld k.toNat := (mem_unboundOld ho).mpr ⟨hk, by simpa using hb⟩
    have hnot : (!(s.unboundOld k.toNat).contains o) = true := hkept
    simp [hgone] at hnot

end Sys2Proof.Machine
end

section
/-! PROOF. What a detected fault leaves of the registers below those of FLT and of the link; and what the bridge does once the link is
down. -/

namespace Sys2Proof.Machine

-- faults (16, R664, R671)

/-- No register below those of FLT has a bit in `t` that it lacks in `s`, and the link is as it was. -/
structure FaultKeeps (s t : State) : Prop where
  clear : ∀ a, a < 0x21100000 → ∀ i, (t.regN a).testBit i = true → (s.regN a).testBit i = true
  qlb : t.qlb = s.qlb

theorem FaultKeeps.refl (s : State) : FaultKeeps s s := ⟨fun _ _ _ h => h, rfl⟩

theorem FaultKeeps.trans {s t u : State} (h : FaultKeeps s t) (k : FaultKeeps t u) : FaultKeeps s u :=
  ⟨fun a ha i hu => h.clear a ha i (k.clear a ha i hu), k.qlb.trans h.qlb⟩

theorem faultKeeps_of_clears {s t : State} (h : ClearsBits s t) (hq : t.qlb = s.qlb) : FaultKeeps s t := ⟨fun a _ => h a, hq⟩

theorem faultKeeps_of_regs {s t : State} (h : t.regs = s.regs) (hq : t.qlb = s.qlb) : FaultKeeps s t :=
  faultKeeps_of_clears (clearsBits_of_regs h) hq

theorem FaultKeeps.setRegN {s t : State} (h : FaultKeeps s t) {a : Nat} (ha : 0x21100000 ≤ a) (v : Nat) : FaultKeeps s (t.setRegN a v) :=
  h.trans ⟨fun b hb i hi => by rwa [regN_setRegN_ne _ (by omega)] at hi, rfl⟩

theorem faultKeeps_raiseFull (s : State) {i c p k d0 d1 : Nat} {m : Bool} (h : ∀ f, evBit c i = some f → 0x21100000 ≤ f.addr) :
    FaultKeeps s (s.raiseFull i c p k d0 d1 m) :=
  ⟨fun a ha j hj => by
    rwa [regN_raiseFull_ne _ _ _ _ _ _ _ _ fun f hf => by have := h f hf; omega] at hj, raiseFull_qlb ..⟩

theorem silenced_qlb (s : State) : s.silenced.qlb = s.qlb := by
  have htx (u : State) : (u.setTxOn 0).qlb = u.qlb := by
    unfold State.setTxOn
    exact foldl_frame State.qlb (fun _ _ => wr_qlb ..) _ u
  have hmac (u : State) (m : Sparse MacPort) : { u with mac := m }.qlb = u.qlb := rfl
  have hmacs (u : State) : u.stopMacs.qlb = u.qlb := by rw [State.stopMacs, hmac, htx]
  have hpulses (u : State) : u.stopPulses.qlb = u.qlb := rfl
  rw [State.silenced, stopChannels_frame State.qlb (fun _ _ _ => rfl), hpulses, hmacs]
  rfl

theorem faultKeeps_silenced (s : State) : FaultKeeps s s.silenced := by
  have hpulses (u : State) : ClearsBits u u.stopPulses := clearsBits_of_regs rfl
  have hhalt (u : State) : ClearsBits u u.haltEngines := clearsBits_wr_zero u _
  exact faultKeeps_of_clears ((((hhalt s).trans (clearsBits_stopMacs _)).trans (hpulses _)).trans (clearsBits_stopChannels _))
    (silenced_qlb s)

theorem faultKeeps_cellarRecord (s : State) : FaultKeeps s s.cellarRecord := by
  have hseen (u : State) (q : List Ev) : FaultKeeps u { u with fltq := q } := faultKeeps_of_regs rfl rfl
  have hstore (u : State) (a : Nat) (l : List Byte) (f : Flt) : FaultKeeps u { u.store a l with flt := f } := faultKeeps_of_regs rfl rfl
  unfold State.cellarRecord
  split
  · exact .refl s
  · dsimp only
    split
    · exact hseen _ _
    · split
      · exact (hseen _ _).setRegN (by decide) _
      · unfold State.writeRecord
        exact (((hseen s _).trans (hstore _ _ _ _)).setRegN (by decide) _).setRegN (by decide) _

theorem faultKeeps_beginBottling (s : State) (reason : Nat) : FaultKeeps s (s.beginBottling reason) := by
  have hflt (u : State) (f : Flt) (l : Sparse Byte) : FaultKeeps u { u with flt := f, flash := l } := faultKeeps_of_regs rfl rfl
  have hflush : FaultKeeps s s.flushCellar :=
    List.foldlRecOn (motive := FaultKeeps s) s.fltq _ (.refl s) fun u hu _ _ => hu.trans (faultKeeps_cellarRecord u)
  unfold State.beginBottling
  split
  · split
    · exact hflt s _ s.flash
    · exact .refl s
  · exact (hflush.trans (hflt _ _ _)).setRegN (by decide) _

theorem faultKeeps_failSilent (s : State) (cause data : Nat) : FaultKeeps s (s.failSilent cause data) := by
  have hraise (u : State) : FaultKeeps u (u.raiseFull 0 0x1101 0 3 data 0 true) :=
    faultKeeps_raiseFull u fun f hf => by cases hf; decide
  have hflt (u : State) (f : Flt) : FaultKeeps u { u with flt := f } := faultKeeps_of_regs rfl rfl
  unfold State.failSilent
  split
  · exact hraise s
  · have hshown (u : State) : FaultKeeps u
        (((u.wr F.FLT_STATUS_LAST_FS_CAUSE cause).setRegN R.FLT_FS_DATA data).silenced.inc C.FLT_FAIL_SILENCES) :=
      ((((FaultKeeps.refl u).setRegN (by decide) _).setRegN (by decide) _).trans (faultKeeps_silenced _)).setRegN (by decide) _
    dsimp only
    split
    · exact ((hflt s _).trans (hshown _)).trans (hraise _)
    · exact (((hflt s _).trans (hshown _)).trans (hraise _)).trans (faultKeeps_beginBottling _ _)

theorem faultKeeps_detect (s : State) (k i : Nat) : FaultKeeps s (s.detect k i) := by
  have hflt (u : State) (f : Flt) : FaultKeeps u { u with flt := f } := faultKeeps_of_regs rfl rfl
  have hraise (u : State) (p : Nat) : FaultKeeps u (u.raiseMust 0x1102 p 2 0 0) :=
    faultKeeps_raiseFull u fun f hf => by cases hf; decide
  have hcount (u : State) (v : Nat) : FaultKeeps u (u.setRegN (R.FLT_WIN_STAT k) v) :=
    (FaultKeeps.refl u).setRegN (by simp only [R.FLT_WIN_STAT]; omega) v
  unfold State.detect State.detector
  dsimp only
  split
  · have hlasting (u : State) (f : Flt) (p : Nat) :
        FaultKeeps u ({ u.incSat (F.FLT_WIN_STAT_LASTING k) with flt := f }.raiseMust 0x1102 p 2 0 0) :=
      ((hcount u _).trans (hflt _ _)).trans (hraise _ _)
    split
    · split
      · exact ((hflt s _).trans (hlasting _ _ _)).trans (hflt _ _)
      · exact ((hflt s _).trans (hlasting _ _ _)).trans (faultKeeps_failSilent _ _ _)
    · split
      · exact (hflt s _).trans (hlasting _ _ _)
      · exact ((hflt s _).trans (hlasting _ _ _)).trans (hflt _ _)
  · exact (hflt s _).trans (hcount _ _)

-- the link while it is down (R559)

/-- From `s` to `t` no bit of the link's status or of its lanes has appeared, and the link's requests, its key and its hand-over are as
they were. -/
structure LinkKept (s t : State) : Prop where
  status : ∀ i, (t.regN R.QLB_STATUS).testBit i = true → (s.regN R.QLB_STATUS).testBit i = true
  lanes : ∀ i, (t.regN R.QLB_LANES).testBit i = true → (s.regN R.QLB_LANES).testBit i = true
  openReqs : t.qlb.open_ = s.qlb.open_
  key : t.qlb.key = s.qlb.key
  handover : t.qlb.handover = s.qlb.handover

theorem LinkKept.refl (s : State) : LinkKept s s := ⟨fun _ h => h, fun _ h => h, rfl, rfl, rfl⟩

theorem LinkKept.trans {s t u : State} (h : LinkKept s t) (k : LinkKept t u) : LinkKept s u :=
  ⟨fun i hu => h.status i (k.status i hu), fun i hu => h.lanes i (k.lanes i hu), k.openReqs.trans h.openReqs, k.key.trans h.key,
    k.handover.trans h.handover⟩

theorem linkKept_of_regs {s t : State} (hr : t.regs = s.regs) (ho : t.qlb.open_ = s.qlb.open_) (hk : t.qlb.key = s.qlb.key)
    (hh : t.qlb.handover = s.qlb.handover) : LinkKept s t :=
  ⟨clearsBits_of_regs hr _, clearsBits_of_regs hr _, ho, hk, hh⟩

theorem linkKept_of_regN {s t : State} (hs : t.regN R.QLB_STATUS = s.regN R.QLB_STATUS) (hl : t.regN R.QLB_LANES = s.regN R.QLB_LANES)
    (hq : t.qlb = s.qlb) : LinkKept s t :=
  ⟨fun _ h => hs ▸ h, fun _ h => hl ▸ h, by rw [hq], by rw [hq], by rw [hq]⟩

/-- A register that shows neither the status of the link nor its lanes. -/
abbrev notLink (a : Nat) : Prop := R.QLB_STATUS ≠ a ∧ R.QLB_LANES ≠ a

theorem LinkKept.setRegN {s t : State} (h : LinkKept s t) {a : Nat} (ha : notLink a) (v : Nat) : LinkKept s (t.setRegN a v) :=
  h.trans (linkKept_of_regN (regN_setRegN_ne _ ha.1 _) (regN_setRegN_ne _ ha.2 _) rfl)

theorem linkKept_raise (s : State) {c p : Nat} (h : ∀ f, evBit c p = some f → notLink f.addr) : LinkKept s (s.raise c p) :=
  linkKept_of_regN (regN_raiseFull_ne _ _ _ _ _ _ _ _ fun f hf => (h f hf).1) (regN_raiseFull_ne _ _ _ _ _ _ _ _ fun f hf => (h f hf).2)
    (raise_qlb ..)

theorem FaultKeeps.linkKept {s t : State} (h : FaultKeeps s t) : LinkKept s t :=
  ⟨h.clear _ (by decide), h.clear _ (by decide), by rw [h.qlb], by rw [h.qlb], by rw [h.qlb]⟩

/-- A bit that was clear stays clear. -/
theorem LinkKept.on_status {s t : State} (h : LinkKept s t) {i : Nat} (hs : s.on ⟨R.QLB_STATUS, i, 1⟩ = false) :
    t.on ⟨R.QLB_STATUS, i, 1⟩ = false := by
  rw [State.on, State.rd, bits_one] at hs ⊢
  have hkeep := h.status i
  cases hb : (t.regN R.QLB_STATUS).testBit i
  · rfl
  · simp [hkeep hb] at hs

theorem LinkKept.on_lanes {s t : State} (h : LinkKept s t) {i : Nat} (hs : s.on ⟨R.QLB_LANES, i, 1⟩ = false) :
    t.on ⟨R.QLB_LANES, i, 1⟩ = false := by
  rw [State.on, State.rd, bits_one] at hs ⊢
  have hkeep := h.lanes i
  cases hb : (t.regN R.QLB_LANES).testBit i
  · rfl
  · simp [hkeep hb] at hs

theorem LinkKept.linkIsUp {s t : State} (h : LinkKept s t) (hs : s.linkIsUp = false) : t.linkIsUp = false := h.on_status hs

-- the bridge when the link goes down (R572, R573, R580, R581)

theorem linkKept_busError (s : State) (e a : Nat) (w : Bool) (c : Nat) : LinkKept s (s.busError e a w c) := by
  have hres (u : State) (r : Sparse (Option Nat)) (l : Sparse (Option (Nat × Nat))) :
      LinkKept u { u with eng := { u.eng with resv := r }, qlb := { u.qlb with guardLr := l } } := linkKept_of_regs rfl rfl rfl rfl
  have haddr : notLink (R.ENG_BUSERR_ADDR e) := by simp only [notLink, R.QLB_STATUS, R.QLB_LANES, R.ENG_BUSERR_ADDR]; omega
  have hinfo : notLink (R.ENG_BUSERR_INFO e) := by simp only [notLink, R.QLB_STATUS, R.QLB_LANES, R.ENG_BUSERR_INFO]; omega
  have hcount : notLink (C.ENG_BUS_ERRORS e) := by simp only [notLink, R.QLB_STATUS, R.QLB_LANES, C.ENG_BUS_ERRORS]; omega
  exact ((((LinkKept.refl s).setRegN haddr _).setRegN hinfo _).setRegN hcount _).trans (hres _ _ _)

theorem linkKept_readFails (s : State) (e a st : Nat) : LinkKept s (s.readFails e a st) :=
  ((((LinkKept.refl s).setRegN (by decide) _).setRegN (by decide) _).setRegN (by decide) _).trans (linkKept_busError _ _ _ _ _)

theorem notLink_fence (e : Nat) : notLink (R.QLB_FENCE e) := by
  simp only [notLink, R.QLB_STATUS, R.QLB_LANES, R.QLB_FENCE]
  omega

theorem linkKept_ite {s t u : State} {c : Prop} [Decidable c] (ht : LinkKept s t) (hu : LinkKept s u) : LinkKept s (if c then t else u) := by
  split <;> assumption

theorem linkKept_farError (s : State) (e a st : Nat) (atomic : Bool) : LinkKept s (s.farError e a st atomic) := by
  have hfar (u : State) (q : Hq) : LinkKept u (u.setQlb { u.qlb with far := q }) := linkKept_of_regs rfl rfl rfl rfl
  have hlost (u : State) : LinkKept u u.raiseLost :=
    linkKept_of_regN (regN_raiseLost u (by decide)) (regN_raiseLost u (by decide)) (raise_qlb ..)
  unfold State.farError
  dsimp only
  refine LinkKept.trans ?_ (linkKept_raise _ fun f hf => by cases hf; decide)
  refine LinkKept.setRegN (LinkKept.setRegN ?_ (notLink_fence e) _) (by decide) _
  have hcount (c : Prop) [Decidable c] (u : State) (h : LinkKept s u) : LinkKept s (if c then u.inc R.QLB_FAR_LOST else u) :=
    linkKept_ite (h.setRegN (by decide) _) h
  have hwarn (c : Prop) [Decidable c] (u : State) (h : LinkKept s u) : LinkKept s (if c then u.raiseLost else u) :=
    linkKept_ite (h.trans (hlost u)) h
  exact hwarn _ _ (hcount _ _ (hfar s _))

theorem linkKept_setGuard (s : State) (e : Nat) (g : Option Guard) : LinkKept s (s.setGuard e g) := linkKept_of_regs rfl rfl rfl rfl

theorem linkKept_guardEnds (s : State) (e : Nat) (g : Guard) : LinkKept s (s.guardEnds e g) := linkKept_of_regs rfl rfl rfl rfl

theorem linkKept_guardLocal (s : State) (g : Guard) : LinkKept s (s.guardLocal g).1 := by
  unfold State.guardLocal
  dsimp only
  split
  · exact linkKept_of_regs rfl rfl rfl rfl
  · exact .refl s

/-- With the link down a guarded operation that fails asks the partner for nothing. -/
theorem linkKept_guardFails {s : State} (h : s.linkIsUp = false) (e : Nat) (g : Guard) (st : Nat) : LinkKept s (s.guardFails e g st) := by
  have hread (c : Prop) [Decidable c] (u : State) (a v : Nat) (hu : LinkKept s u) : LinkKept s
      (if c then ((u.setRegN R.QLB_RD_ERR_ADDR a).setRegN R.QLB_RD_ERR v).inc C.QLB_RD_ERRORS else u) :=
    linkKept_ite (((hu.setRegN (by decide) _).setRegN (by decide) _).setRegN (by decide) _) hu
  have hfar (c : Prop) [Decidable c] : LinkKept s (if c then s.farError e (g.addr - 0x40000000) 7 true else s) :=
    linkKept_ite (linkKept_farError ..) (.refl s)
  unfold State.guardFails
  extract_lets sent u v w
  have hw : LinkKept s w := hread _ _ _ _ (((hfar _).trans (linkKept_setGuard _ _ _)).trans (linkKept_busError _ _ _ _ _))
  rw [if_pos (.inr (.inr (by simp [hw.linkIsUp h])))]
  exact hw

theorem linkKept_fenceDone (s : State) (e : Nat) : LinkKept s (s.fenceDone e) := by
  have hfence (u : State) (l : List Nat) : LinkKept u (u.setQlb { u.qlb with fencing := l }) := linkKept_of_regs rfl rfl rfl rfl
  have hdata (u : State) (v : Nat) : LinkKept u (u.setRdata e v) := linkKept_of_regs rfl rfl rfl rfl
  exact ((hdata s _).setRegN (notLink_fence e) 0).trans (hfence _ _)

theorem linkKept_endFences (s : State) : LinkKept s s.endFences :=
  List.foldlRecOn (motive := LinkKept s) s.qlb.fencing _ (.refl s) fun u hu e _ => linkKept_ite hu (hu.trans (linkKept_fenceDone u e))

theorem linkKept_foldl {α : Type} {f : State → α → State} {s : State} (hf : ∀ u x, LinkKept s u → LinkKept s (f u x)) (l : List α)
    {u : State} (hu : LinkKept s u) : LinkKept s (l.foldl f u) :=
  List.foldlRecOn (motive := LinkKept s) l f hu fun t ht x _ => hf t x ht

/-- What the bridge still does once the link is down keeps it down, with no request open. -/
theorem bridgeDown_linkKept {s : State} (h : s.linkIsUp = false) :
    LinkKept (s.setQlb { s.qlb with open_ := [], stalled := [], semPartner := [] }) s.bridgeDown := by
  have hdown : (s.setQlb { s.qlb with open_ := [], stalled := [], semPartner := [] }).linkIsUp = false := h
  unfold State.bridgeDown
  refine LinkKept.trans (LinkKept.setRegN ?_ (by decide) 0) (linkKept_endFences _)
  refine linkKept_foldl (fun u e hu => ?_) _ (linkKept_foldl (fun u r hu => ?_) _ (linkKept_foldl (fun u r hu => ?_) _ (.refl _)))
  · split
    · exact hu
    · next g _ =>
      exact linkKept_ite (hu.trans (linkKept_guardEnds ..)) (linkKept_ite (hu.trans (linkKept_guardFails (hu.linkIsUp hdown) ..))
        ((hu.trans (linkKept_guardLocal ..)).trans (linkKept_guardEnds ..)))
  · exact linkKept_ite hu (linkKept_ite (hu.trans (linkKept_farError ..)) (hu.trans (linkKept_readFails ..)))
  · exact linkKept_ite hu (linkKept_ite (hu.trans (linkKept_farError ..)) (hu.trans (linkKept_readFails ..)))

end Sys2Proof.Machine
end

section
/-! PROOF. The Quosor link: how it is established, kept and lost. -/

namespace Sys2Proof.Machine

variable {s : State}

-- establishment (R539, R541, R549)

/-- The unit in which the lanes have just been aligned: nothing of an earlier link is left. -/
def State.lanesSet (s : State) : State :=
  (s.setRegN R.QLB_LANES 7).setQlb { s.qlb with
    peerEpoch := none, key := none, hb := none, hbSent := none, hbTxAt := none, epochAt := none, goodAt := s.clk.now, txCount := 0,
    txSeq := 0, rxSeq := 0, held := [] }

theorem rd_lanesSet (s : State) {f : Fld} (h : f.addr ≠ R.QLB_LANES) : s.lanesSet.rd f = s.rd f := rd_setRegN_ne s h 7

theorem lanesAligned_kept (h : s.on F.QLB_CTRL_EN = false ∨ s.on F.QLB_LANES_ALIGNED = true) : s.lanesAligned = s :=
  if_pos (.inr (h.imp (by simp [·]) id))

section
variable (ha : s.alive = true) (he : s.on F.QLB_CTRL_EN = true) (hl : s.on F.QLB_LANES_ALIGNED = false)
include ha he hl

theorem lanesAligned_eq : s.lanesAligned =
    if s.on F.CPH_QLINK_EN = false then s.lanesSet
    else if s.keyFor (s.rd F.CPH_QLINK_SLOT) 6 = false then s.lanesSet.raise 0x0D08 0
    else { s.lanesSet with pers := { s.pers with epoch := (s.pers.epoch + 1) % 2 ^ 32 } }.setRegN R.CPH_QLINK_EPOCH
      ((s.pers.epoch + 1) % 2 ^ 32) := by
  have hen : s.lanesSet.on F.CPH_QLINK_EN = s.on F.CPH_QLINK_EN := by rw [State.on, rd_lanesSet _ (by decide)]; rfl
  have hslot : s.lanesSet.rd F.CPH_QLINK_SLOT = s.rd F.CPH_QLINK_SLOT := rd_lanesSet _ (by decide)
  have hkey (k : Nat) : s.lanesSet.keyFor k 6 = s.keyFor k 6 := rfl
  refine (if_neg (by simp [ha, he, hl])).trans ?_
  change (if ¬ s.lanesSet.on F.CPH_QLINK_EN = true then s.lanesSet
    else if ¬ s.lanesSet.keyFor (s.lanesSet.rd F.CPH_QLINK_SLOT) 6 = true then s.lanesSet.raise 0x0D08 0 else _) = _
  simp only [hen, hslot, hkey, Bool.not_eq_true]
  rfl

end

/-- An EPOCH frame has been taken in. -/
def State.epochTaken (s : State) (v : Nat) : State :=
  (s.inc C.QLB_LF_RX).setQlb { s.qlb with peerEpoch := some v, goodAt := s.clk.now }

theorem epoch_unheard (h : s.linkHears = false) (v : Nat) : s.epoch v = s := if_pos (by simp [h])

theorem epoch_heard (h : s.linkHears = true) (v : Nat) : s.epoch v =
    if s.on F.CPH_QLINK_EN = false ∨ s.qlb.key.isSome = true ∨ s.keyFor (s.rd F.CPH_QLINK_SLOT) 6 = false then s.epochTaken v
    else ((s.epochTaken v).setQlb { (s.epochTaken v).qlb with
      key := some (kdf (s.key (s.rd F.CPH_QLINK_SLOT)).bytes (beBytes 4 0x514C4E4B ++ zeros 1 ++ s.epochs s.pers.epoch v) 32),
      txCount := 0 }).wr F.CPH_QLINK_PROTECTED 1 := by
  have hrd {f : Fld} (hf : f.addr ≠ C.QLB_LF_RX) : (s.epochTaken v).rd f = s.rd f := rd_inc_ne s hf
  have hen : (s.epochTaken v).on F.CPH_QLINK_EN = s.on F.CPH_QLINK_EN := by rw [State.on, hrd (by decide)]; rfl
  have hslot : (s.epochTaken v).rd F.CPH_QLINK_SLOT = s.rd F.CPH_QLINK_SLOT := hrd (by decide)
  have hunit : (s.epochTaken v).unitB = s.unitB := by rw [State.unitB, State.on, hrd (by decide)]; rfl
  have hepochs (a b : Nat) : (s.epochTaken v).epochs a b = s.epochs a b := by rw [State.epochs, hunit]; rfl
  have hkeyFor (k : Nat) : (s.epochTaken v).keyFor k 6 = s.keyFor k 6 := rfl
  have hkey (k : Nat) : (s.epochTaken v).key k = s.key k := rfl
  refine (if_neg (by simp [h])).trans ?_
  change (if ¬ (s.epochTaken v).on F.CPH_QLINK_EN = true ∨ (s.epochTaken v).qlb.key.isSome = true ∨
      ¬ (s.epochTaken v).keyFor ((s.epochTaken v).rd F.CPH_QLINK_SLOT) 6 = true then s.epochTaken v
    else ((s.epochTaken v).setQlb { (s.epochTaken v).qlb with
      key := some (kdf ((s.epochTaken v).key ((s.epochTaken v).rd F.CPH_QLINK_SLOT)).bytes
        (beBytes 4 0x514C4E4B ++ zeros 1 ++ (s.epochTaken v).epochs (s.epochTaken v).pers.epoch v) 32),
      txCount := 0 }).wr F.CPH_QLINK_PROTECTED 1) = _
  simp only [hen, hslot, hkeyFor, hkey, hepochs, Bool.not_eq_true]
  rfl

-- frames of VC4 (R551, R558, R561)

theorem sendVc4_eq (s : State) (prot : Bool) (b : List Byte) : s.sendVc4 prot b =
    let h := linkHeader 4 b.length 0 ((s.qlb.rxSeq + 65535) % 65536) (s.qlb.txCount % 2 ^ 32) s.linkIsUp []
    let u := s.setQlb { s.qlb with wire := linkFrame (if prot then s.qlb.key else none) s.unitB s.qlb.txCount h b,
                                   txCount := if prot then s.qlb.txCount + 1 else s.qlb.txCount }
    (if prot then u.linkJob else u).inc C.QLB_LF_TX := by
  cases prot <;> rfl

theorem linkJob_qlb (s : State) : s.linkJob.qlb = s.qlb := by
  obtain ⟨r, hr⟩ := linkJob_changes s
  rw [hr]

theorem linkJob_clk (s : State) : s.linkJob.clk = s.clk := by
  obtain ⟨r, hr⟩ := linkJob_changes s
  rw [hr]

theorem sendVc4_hbSeq (s : State) (prot : Bool) (b : List Byte) :
    (s.sendVc4 prot b).qlb.hbSeq = s.qlb.hbSeq ∧ (s.sendVc4 prot b).clk = s.clk := by
  rw [sendVc4_eq]
  cases prot
  · exact ⟨rfl, rfl⟩
  · simp only [if_true, inc_qlb, inc_clk, linkJob_qlb, linkJob_clk]
    exact ⟨rfl, rfl⟩

theorem epochSend_due (hh : s.linkHears = true) (hu : s.linkIsUp = false) (hd : dueAgain s.qlb.epochAt 2000 s.clk.now = true) :
    s.epochSend = (s.setQlb { s.qlb with epochAt := some s.clk.now }).sendVc4 false (beBytes 4 s.pers.epoch) :=
  if_pos ⟨hh, by simp [hu], hd⟩

theorem epochSend_kept (h : s.linkHears = false ∨ s.linkIsUp = true ∨ dueAgain s.qlb.epochAt 2000 s.clk.now = false) :
    s.epochSend = s := by
  refine if_neg fun ⟨hh, hu, hd⟩ => ?_
  rcases h with h | h | h
  · simp [h] at hh
  · exact hu h
  · simp [h] at hd

theorem heartbeatTx_kept (h : s.forwarding = false ∨ s.linkHears = false ∨ s.linkKeyed = false ∨
    dueAgain s.qlb.hbTxAt s.hbPeriod s.clk.now = false) : s.heartbeatTx = s := by
  refine if_pos ?_
  rcases h with h | h | h | h <;> simp [h]

theorem heartbeatTx_due (hf : s.forwarding = true) (hh : s.linkHears = true) (hk : s.linkKeyed = true)
    (hd : dueAgain s.qlb.hbTxAt s.hbPeriod s.clk.now = true) : s.heartbeatTx =
      (let u := s.sendVc4 (s.on F.CPH_QLINK_PROTECTED) (heartbeatOctets s.heartbeatNow)
       (u.setQlb { u.qlb with hbSent := some s.heartbeatNow, hbTxAt := some s.clk.now, hbSeq := (s.qlb.hbSeq + 1) % 2 ^ 32 }).linkComes) := by
  obtain ⟨hseq, hclk⟩ := sendVc4_hbSeq s (s.on F.CPH_QLINK_PROTECTED) (heartbeatOctets s.heartbeatNow)
  refine (if_neg (by simp [hf, hh, hk, hd])).trans ?_
  dsimp only
  rw [hseq, hclk]

-- discarded frames and retransmission (R555, R556)

theorem linkFrameDiscarded_unheard (h : s.linkHears = false) (why : LinkBad) : s.linkFrameDiscarded why = s := if_pos (by simp [h])

theorem linkFrameDiscarded_heard (h : s.linkHears = true) (why : LinkBad) : s.linkFrameDiscarded why =
    match why with
    | .tag => if s.on F.CPH_QLINK_PROTECTED then (s.inc C.CPH_QLINK_TAG_FAIL).sendNak else s
    | .crc => if s.on F.CPH_QLINK_PROTECTED then s else (s.inc C.QLB_LF_CRC_FAIL).sendNak
    | .seq => (s.setQlb { s.qlb with goodAt := s.clk.now }).sendNak
    | .reserved => (s.inc C.QLB_LF_BAD).setQlb { s.qlb with goodAt := s.clk.now } :=
  (if_neg (by simp [h])).trans (by cases why <;> rfl)

/-- The unit once a NAK has left. -/
def State.nakSent (s : State) : State :=
  ((s.setQlb { s.qlb with nakAt := some s.clk.now }).sendVc4 (s.on F.CPH_QLINK_PROTECTED) (beBytes 2 s.qlb.rxSeq)).inc C.QLB_NAKS_SENT

theorem sendNak_due (hd : dueAgain s.qlb.nakAt 2000 s.clk.now = true) (hu : s.linkIsUp = true) : s.sendNak = s.nakSent := if_pos ⟨hd, hu⟩

theorem sendNak_kept (h : dueAgain s.qlb.nakAt 2000 s.clk.now = false ∨ s.linkIsUp = false) : s.sendNak = s := by
  refine if_neg fun ⟨hd, hu⟩ => ?_
  rcases h with h | h
  · simp [h] at hd
  · simp [h] at hu

theorem resend_eq (s : State) (n : Nat) : s.resend n =
    let u := (s.add C.QLB_RETRANSMITS n).add C.QLB_LF_TX n
    (if s.on F.CPH_QLINK_PROTECTED then u.add64 C.CPH_JOBS_LO n else u).setQlb
      { s.qlb with ackAt := s.clk.now, txCount := if s.qlb.key.isSome then s.qlb.txCount + n else s.qlb.txCount } := by
  have hprot : ((s.add C.QLB_RETRANSMITS n).add C.QLB_LF_TX n).on F.CPH_QLINK_PROTECTED = s.on F.CPH_QLINK_PROTECTED := by
    rw [State.on, rd_add_ne _ (by decide), rd_add_ne _ (by decide)]
    rfl
  rw [State.resend]
  dsimp only
  rw [hprot]
  split <;> rfl

theorem nak_down (h : s.linkIsUp = false) (n : Nat) : s.nak n = s := if_pos (by simp [h])

theorem nak_up (h : s.linkIsUp = true) (n : Nat) : s.nak n =
    (((s.inc C.QLB_LF_RX).linkJob).setQlb { s.qlb with goodAt := s.clk.now }).resend
      (s.qlb.held.filter (fun f => decide ((f.seq + 65536 - n) % 65536 < 32768))).length :=
  if_neg (by simp [h])

theorem retransmit_due (hu : s.linkIsUp = true) (hh : s.qlb.held ≠ []) (ht : s.qlb.ackAt + 10000 ≤ s.clk.now) :
    s.retransmit = s.resend s.qlb.held.length := if_pos ⟨hu, hh, ht⟩

theorem retransmit_kept (h : s.linkIsUp = false ∨ s.qlb.held = [] ∨ s.clk.now < s.qlb.ackAt + 10000) : s.retransmit = s := by
  refine if_neg fun ⟨hu, hh, ht⟩ => ?_
  rcases h with h | h | h
  · simp [h] at hu
  · exact hh h
  · omega

-- loss (R559)

theorem quosorLinkDown_kept (he : s.on F.QLB_CTRL_EN = true) (ht : s.clk.now < s.qlb.goodAt + s.linkTimeout) : s.quosorLinkDown = s :=
  if_pos (.inr ⟨he, ht⟩)

/-- The unit whose lanes and link are no longer up. -/
def State.lanesLost (s : State) : State :=
  let u := ((s.setRegN R.QLB_LANES 0).wr F.QLB_STATUS_LINK_UP 0).wr F.CPH_QLINK_PROTECTED 0
  u.setQlb { u.qlb with held := [], waiting := [], key := none, peerEpoch := none, hb := none, hbSent := none }

theorem rd_setQlb (u : State) (q : Qlb) (f : Fld) : (u.setQlb q).rd f = u.rd f := rfl

theorem on_setQlb (u : State) (q : Qlb) (f : Fld) : (u.setQlb q).on f = u.on f := rfl

theorem lanesLost_down (s : State) : s.lanesLost.linkIsUp = false ∧ s.lanesLost.on F.QLB_LANES_ALIGNED = false ∧ s.lanesLost.qlb.key = none := by
  have hup (u : State) : ((u.wr F.QLB_STATUS_LINK_UP 0).wr F.CPH_QLINK_PROTECTED 0).rd F.QLB_STATUS_LINK_UP = 0 :=
    (rd_wr_other _ _ _ (by decide) _ (by decide)).trans (rd_wr_zero u (by decide))
  have hlanes (u : State) : (((u.setRegN R.QLB_LANES 0).wr F.QLB_STATUS_LINK_UP 0).wr F.CPH_QLINK_PROTECTED 0).rd F.QLB_LANES_ALIGNED = 0 := by
    rw [rd_wr_other _ _ _ (by decide) _ (by decide), rd_wr_other _ _ _ (by decide) _ (by decide), State.rd, regN_setRegN_same]
    rfl
  refine ⟨?_, ?_, rfl⟩
  · rw [State.linkIsUp, State.on, State.lanesLost, rd_setQlb, hup]
    rfl
  · rw [State.on, State.lanesLost, rd_setQlb, hlanes]
    rfl

/-- The loss of a link that was up, and what follows in the bridge and for the fault. -/
def State.quosorLost (s : State) : State :=
  let u := s.lanesLost.setQlb { s.lanesLost.qlb with downAt := max 1 s.lanesLost.clk.now, probeAt := s.lanesLost.clk.now, handover := none }
  (((u.stopMirror.bridgeDown.inc C.QLB_LINK_DOWNS).raise 0x0E02 0)).detect 11 0

theorem quosorLinkDown_goes (hl : s.on F.QLB_LANES_ALIGNED = true)
    (h : s.on F.QLB_CTRL_EN = false ∨ s.qlb.goodAt + s.linkTimeout ≤ s.clk.now) :
    s.quosorLinkDown = if s.linkIsUp = false then s.lanesLost else s.quosorLost := by
  refine (if_neg fun hkeep => ?_).trans ?_
  · rcases hkeep with hk | ⟨he, ht⟩
    · exact hk hl
    · rcases h with h | h
      · simp [h] at he
      · omega
  · simp only [Bool.not_eq_true]
    rfl

theorem quosorLost_keeps (s : State) : ∃ u : State, u.mirroring = false ∧ u.linkIsUp = false ∧ u.on F.QLB_LANES_ALIGNED = false ∧
    u.qlb.key = none ∧ u.qlb.handover = none ∧ u.qlb.open_ = [] ∧ LinkKept u s.quosorLost := by
  obtain ⟨hup, hlanes, hkey⟩ := lanesLost_down s
  obtain ⟨u, hu⟩ : ∃ u, u = s.lanesLost.setQlb { s.lanesLost.qlb with
    downAt := max 1 s.lanesLost.clk.now, probeAt := s.lanesLost.clk.now, handover := none } := ⟨_, rfl⟩
  have hstop {f : Fld} (hf : f.lo + f.w ≤ 32) (hne : f.addr ≠ R.QLB_STATUS ∨ 7 ≤ f.lo ∨ f.lo + f.w ≤ 6) :
      u.stopMirror.on f = s.lanesLost.on f := by
    rw [State.stopMirror, on_setQlb, on_wr_other u F.QLB_STATUS_MIRRORING f hf 0 hne, hu, on_setQlb]
  have hstopped : u.stopMirror.linkIsUp = false := (hstop (by decide) (by decide)).trans hup
  refine ⟨u.stopMirror.setQlb { u.stopMirror.qlb with open_ := [], stalled := [], semPartner := [] }, ?_, hstopped,
    (hstop (by decide) (by decide)).trans hlanes, ?_, ?_, rfl, ?_⟩
  · exact (on_wr_same u F.QLB_STATUS_MIRRORING (by decide) rfl 0)
  · show u.qlb.key = none
    rw [hu]
    exact hkey
  · show u.qlb.handover = none
    rw [hu]
    rfl
  · have hlost : s.quosorLost = ((u.stopMirror.bridgeDown.inc C.QLB_LINK_DOWNS).raise 0x0E02 0).detect 11 0 := by rw [hu]; rfl
    rw [hlost]
    exact (((bridgeDown_linkKept hstopped).setRegN (by decide) _).trans (linkKept_raise _ fun f hf => by cases hf; decide)).trans
      (faultKeeps_detect _ _ _).linkKept

/-- A link that goes down has no key and no aligned lanes; one that was up mirrors no more and has no request open. -/
theorem quosorLinkDown_lost (hl : s.on F.QLB_LANES_ALIGNED = true)
    (h : s.on F.QLB_CTRL_EN = false ∨ s.qlb.goodAt + s.linkTimeout ≤ s.clk.now) :
    s.quosorLinkDown.linkIsUp = false ∧ s.quosorLinkDown.on F.QLB_LANES_ALIGNED = false ∧ s.quosorLinkDown.qlb.key = none ∧
      (s.linkIsUp = true → s.quosorLinkDown.mirroring = false ∧ s.quosorLinkDown.qlb.open_ = [] ∧ s.quosorLinkDown.qlb.handover = none) := by
  rw [quosorLinkDown_goes hl h]
  obtain ⟨hup, hlanes, hkey⟩ := lanesLost_down s
  split
  · next hwas => exact ⟨hup, hlanes, hkey, fun hc => by simp [hwas] at hc⟩
  · obtain ⟨u, hm, hup, hlanes, hkey, hhand, hopen, hkept⟩ := quosorLost_keeps s
    exact ⟨hkept.linkIsUp hup, hkept.on_lanes hlanes, hkept.key.trans hkey,
      fun _ => ⟨hkept.on_status hm, hkept.openReqs.trans hopen, hkept.handover.trans hhand⟩⟩

-- probes (R563)

theorem pairProbe_kept (h : s.linkIsUp = true ∨ s.qlb.downAt = 0 ∨ s.rd F.QLB_PROBE_PROBE_PORTS = 0 ∨ s.clk.now < s.qlb.probeAt) :
    s.pairProbe = s := if_pos (.inr h)

theorem pairProbe_due (hf : s.forwarding = true) (hu : s.linkIsUp = false) (hd : s.qlb.downAt ≠ 0)
    (hp : s.rd F.QLB_PROBE_PROBE_PORTS ≠ 0) (ht : s.qlb.probeAt ≤ s.clk.now) : s.pairProbe =
      (let u := (s.sendKa true 0 (s.rd F.QLB_PROBE_PROBE_PORTS)).inc C.QLB_PROBES_SENT
       u.setQlb { u.qlb with probeAt := s.clk.now + 50000 }) :=
  if_neg (by simp [hf, hu, hd, hp]; omega)

theorem alive_of_linkHears (h : s.linkHears = true) : s.alive = true := by
  simp only [State.linkHears, Bool.and_eq_true] at h
  exact h.1.1

end Sys2Proof.Machine

namespace Sys2Proof.Machine

/-- Settles O54, clause by clause. -/
theorem pairLinkRuns : Obligations.PairLinkRuns := by
  intro s
  refine ⟨fun ha he => ⟨fun hl => finish_live_id (lanesAligned_kept (.inr hl)),
      fun hl hq => (finish_live ha _).trans (by rw [lanesAligned_eq ha he hl, if_pos hq]; rfl),
      fun hl hq hk => (finish_live ha _).trans (by rw [lanesAligned_eq ha he hl, if_neg (by simp [hq]), if_pos hk]; rfl),
      fun hl hq hk => (finish_live ha _).trans (by rw [lanesAligned_eq ha he hl, if_neg (by simp [hq]), if_neg (by simp [hk])]; rfl)⟩,
    fun he => finish_live_id (lanesAligned_kept (.inl he)),
    fun v => ⟨fun h => finish_live_id (epoch_unheard h _),
      fun h hc => (finish_live (alive_of_linkHears h) _).trans (by rw [epoch_heard h, if_pos hc]; rfl),
      fun h hq hn hk => (finish_live (alive_of_linkHears h) _).trans (by rw [epoch_heard h, if_neg (by simp [hq, hn, hk])]; rfl)⟩,
    sendVc4_eq s,
    ⟨fun hh hu hd => (finish_live (alive_of_linkHears hh) _).trans (by rw [epochSend_due hh hu hd]),
      fun h => finish_live_id (epochSend_kept h)⟩,
    ⟨fun h => finish_live_id (heartbeatTx_kept h),
      fun hf hh hk hd => (finish_live (alive_of_linkHears hh) _).trans (by rw [heartbeatTx_due hf hh hk hd])⟩,
    fun h why => finish_live_id (linkFrameDiscarded_unheard h why),
    fun h => ?_,
    ⟨fun h => sendNak_kept (.inr h), fun t hn ht => sendNak_kept (.inl (by simp [dueAgain, hn, ht])),
      fun t hu hn ht => sendNak_due (by simp [dueAgain, hn, ht]) hu, fun hu hn => sendNak_due (by simp [dueAgain, hn]) hu⟩,
    resend_eq s,
    fun h n => finish_live_id (nak_down h _),
    fun n ha h => (finish_live ha _).trans (by rw [nak_up h]),
    fun ha => ⟨fun hu hh ht => (finish_live ha _).trans (by rw [retransmit_due hu hh ht]), fun h => finish_live_id (retransmit_kept h)⟩,
    fun ha hl => ⟨fun he ht => finish_live_id (quosorLinkDown_kept he ht),
      fun h => ⟨s.quosorLinkDown, finish_live ha _, quosorLinkDown_lost hl h⟩⟩,
    fun hf => ⟨fun h => finish_live_id (pairProbe_kept h),
      fun hu hd hp ht => (finish_live (alive_of_forwarding hf) _).trans (by rw [pairProbe_due hf hu hd hp ht])⟩⟩
  have hdisc (why : LinkBad) : exec (.linkFrameDiscarded why) s = .next (settle (s.linkFrameDiscarded why)) :=
    finish_live (alive_of_linkHears h) _
  simp only [hdisc, linkFrameDiscarded_heard h]
  refine ⟨fun hp => ?_, fun hp => ?_, trivial, trivial⟩ <;> simp [hp]

end Sys2Proof.Machine
end

section
/-! PROOF. O55 fails: a lease entry outside the 48 counters, which only an unreachable state holds, lets the loss of the partner write over
the status of the pair; and what `settle` keeps of that status, so that no other next state can stand for it. -/

namespace Sys2Proof.Machine

-- what follows a command keeps role and duty

/-- The status of the pair, the fault state and the bring-up step are as they were. -/
structure RoleKept (s t : State) : Prop where
  status : t.regN R.QLB_STATUS = s.regN R.QLB_STATUS
  flt : t.flt = s.flt
  step : t.boot.step = s.boot.step

theorem RoleKept.refl (s : State) : RoleKept s s := ⟨rfl, rfl, rfl⟩

theorem RoleKept.trans {s t u : State} (h : RoleKept s t) (k : RoleKept t u) : RoleKept s u :=
  ⟨k.status.trans h.status, k.flt.trans h.flt, k.step.trans h.step⟩

theorem roleKept_of_regs {s t : State} (hr : t.regs = s.regs) (hf : t.flt = s.flt) (hb : t.boot.step = s.boot.step) : RoleKept s t :=
  ⟨by rw [State.regN, State.regN, State.reg, State.reg, hr], hf, hb⟩

theorem RoleKept.setRegN {s t : State} (h : RoleKept s t) {a : Nat} (ha : R.QLB_STATUS ≠ a) (v : Nat) : RoleKept s (t.setRegN a v) :=
  h.trans ⟨regN_setRegN_ne _ ha v, rfl, rfl⟩

theorem OnlyLink.roleKept {s t : State} (h : OnlyLink s t) : RoleKept s t :=
  ⟨h.reg _ (by decide), h.flt, by rw [h.boot]⟩

theorem roleKept_job (s : State) (k : Nat) : RoleKept s (s.job k) := by
  have hadd : RoleKept s (s.add64 C.CPH_JOBS_LO 1) := ((RoleKept.refl s).setRegN (by decide) _).setRegN (by decide) _
  unfold State.job
  dsimp only
  split
  case h_6 => exact hadd
  all_goals exact hadd.setRegN (by decide) _

theorem roleKept_p24Send (s : State) (d : List Byte) (m v : Nat) : RoleKept s (s.p24Send d m v) := roleKept_of_regs rfl rfl rfl

theorem roleKept_maintRespond (s : State) (r : MaintReq) (cmd st : Nat) (args : List Byte) : RoleKept s (s.maintRespond r cmd st args) :=
  (roleKept_job s 0).trans (roleKept_p24Send _ _ _ _)

theorem roleKept_writeBootRec (s : State) (r : BootRec) : RoleKept s (s.writeBootRec r) := by
  have herase (u : State) (a n : Nat) : RoleKept u (u.erase a n) := roleKept_of_regs rfl rfl rfl
  have hprogram (u : State) (a : Nat) (b : List Byte) : RoleKept u (u.program a b) := roleKept_of_regs rfl rfl rfl
  unfold State.writeBootRec
  split <;> exact (herase ..).trans (hprogram ..)

theorem RoleKept.setStage {s t : State} (h : RoleKept s t) (k : Nat) : RoleKept s (t.setStage k) := h.setRegN (by decide) _

theorem roleKept_stage (s : State) (o : Nat) (b : List Byte) : RoleKept s s.stageBegin.1 ∧ RoleKept s (s.stageWrite o b).1 ∧
    RoleKept s s.stageVerify.1 ∧ RoleKept s s.arm.1 ∧ RoleKept s s.disarm.1 ∧ RoleKept s s.stageAbort.1 := by
  have hflash (f : Sparse Byte) : RoleKept s { s with flash := f } := roleKept_of_regs rfl rfl rfl
  refine ⟨?_, ?_, ?_, ?_, ?_, ?_⟩
  · unfold State.stageBegin
    split
    · exact .refl s
    · split
      · exact .refl s
      · exact (((hflash _).setRegN (by decide) _).setRegN (by decide) _).setStage 1
  · unfold State.stageWrite
    split
    · split
      · exact .refl s
      · split
        · exact .refl s
        · exact (hflash _).setRegN (by decide) _
    · exact .refl s
    · exact .refl s
  · unfold State.stageVerify
    split
    · exact (RoleKept.refl s).setStage 2
    · exact .refl s
    · exact .refl s
  · unfold State.arm
    split
    · exact .refl s
    · exact (roleKept_writeBootRec s _).setStage 5
  · unfold State.disarm
    split
    · exact .refl s
    · exact (roleKept_writeBootRec s _).setStage 3
  · unfold State.stageAbort
    split
    · exact .refl s
    · exact (roleKept_writeBootRec s _).setStage 0
    · exact ((RoleKept.refl s).setStage 0).setRegN (by decide) _

theorem roleKept_maintStatus {s : State} (r : MaintReq) (cmd : Nat) {x : State × Nat} (h : RoleKept s x.1) :
    RoleKept s (s.maintStatus r cmd x) := by
  unfold State.maintStatus
  split
  · exact h.trans (roleKept_maintRespond ..)
  · exact roleKept_maintRespond ..

theorem roleKept_stageNow (s : State) (cmd : Nat) (r : MaintReq) : RoleKept s (s.stageNow cmd r) := by
  obtain ⟨hbegin, hwrite, hverify, harm, hdisarm, habort⟩ := roleKept_stage s (beNat (r.args.take 4)) (r.args.drop 4)
  unfold State.stageNow
  split
  · exact roleKept_maintStatus r _ hbegin
  · split
    · exact roleKept_maintRespond ..
    · exact hwrite.trans (roleKept_maintRespond ..)
  · exact roleKept_maintStatus r _ hverify
  · exact roleKept_maintStatus r _ harm
  · exact roleKept_maintStatus r _ hdisarm
  · exact roleKept_maintStatus r _ habort

theorem roleKept_stageGoesOn (s : State) : RoleKept s s.stageGoesOn := by
  unfold State.stageGoesOn
  split
  · exact .refl s
  · exact List.foldlRecOn (motive := RoleKept s) _ _ (roleKept_of_regs rfl rfl rfl) fun u hu x _ => hu.trans (roleKept_stageNow u x.1 x.2)

theorem roleKept_takeBlock (s : State) (g : Nat) : RoleKept s (s.takeBlock 24 g) := by
  have hlease (l : Lease) : RoleKept s (s.setLease 24 l) := roleKept_of_regs rfl rfl rfl
  unfold State.takeBlock
  dsimp only
  split
  · exact hlease _
  · exact ((((hlease _).setRegN (by decide) _).setRegN (by decide) _).setRegN (by decide) _).setRegN (by decide) _

theorem roleKept_challengeGoesOn (s : State) : RoleKept s s.challengeGoesOn := by
  have hlease (u : State) (l : Lease) : RoleKept u (u.setLease 24 l) := roleKept_of_regs rfl rfl rfl
  have heng (u : State) (e : Eng) : RoleKept u { u with eng := e } := roleKept_of_regs rfl rfl rfl
  have hused : RoleKept s s.useBlock := by
    have hout : RoleKept s ((s.setPair (R.CPH_LEASE_NEXT_LO 24) (R.CPH_LEASE_NEXT_HI 24) 0).wr (F.CPH_LEASE_STATE_HELD 24) 0) :=
      (((RoleKept.refl s).setRegN (by decide) _).setRegN (by decide) _).setRegN (by decide) _
    unfold State.useBlock
    dsimp only
    split
    · exact (hout.trans (hlease _ _)).trans (roleKept_takeBlock _ _)
    · exact hout
  unfold State.challengeGoesOn
  split
  · exact .refl s
  · split
    · unfold State.challengeAnswer
      exact (hused.trans (roleKept_maintRespond ..)).trans (heng _ _)
    · exact .refl s

theorem roleKept_wakEvaluate (s : State) : RoleKept s s.wakEvaluate := by
  have hwak (u : State) (w : Wak) : RoleKept u (u.setWak w) := roleKept_of_regs rfl rfl rfl
  have hto (u : State) (a : Nat) : RoleKept u (u.toAgreement a) := ((RoleKept.refl u).setRegN (by decide) _).trans (hwak _ _)
  have habort (u : State) : RoleKept u (u.abortSleep true) := by
    have hraise (v : State) : RoleKept v (v.raise 0x0F01 0) :=
      ⟨regN_raiseFull_ne _ _ _ _ _ _ _ _ fun f hf => by cases hf; decide, raise_flt .., by rw [raise_boot]⟩
    exact ((((hwak u _).trans (hto _ 0)).setRegN (by decide) _).trans (hraise _)).trans (onlyLink_mirror _ _).roleKept
  have hconfirm : RoleKept s s.confirmWake := by
    unfold State.confirmWake
    split
    · exact .refl s
    · dsimp only
      split
      · exact .refl s
      · split
        · exact (hwak s _).setRegN (by simp only [R.QLB_STATUS, R.WAK_FW]; omega) _
        · exact .refl s
  unfold State.wakEvaluate
  dsimp only
  split
  · split
    · exact hconfirm.trans (hto _ 0)
    · exact hconfirm
  · split
    · exact hconfirm.trans (habort _)
    · exact hconfirm
  · exact hconfirm

theorem establish_boot (s : State) (p : Nat) : (s.establish p).boot = s.boot := by
  have hmod (u : State) (f : MacPort → MacPort) : (u.modPort p f).boot = u.boot := rfl
  unfold State.establish
  dsimp only
  split
  · rw [hmod, wr_boot, hmod]
  · rw [wr_boot, hmod]

theorem enablePorts_boot (s : State) : s.enablePorts.boot = s.boot := by
  unfold State.enablePorts
  refine foldl_frame State.boot (fun u p => ?_) _ s
  split
  · exact establish_boot u p
  · rfl

theorem slotFails_step (s : State) (cause : Nat) : (s.slotFails cause).boot.step ≠ 12 := by
  unfold State.slotFails
  extract_lets k u x
  have hstart (v : State) (k : Nat) : (v.startSlot k false).boot.step = 5 := rfl
  split
  · exact Nat.ne_of_beq_eq_false rfl
  · rw [hstart]
    decide

/-- Bring-up that goes on at step 8 has not reached step 12. -/
theorem applyImage_step (s : State) : s.applyImage.boot.step ≠ 12 := by
  unfold State.applyImage
  extract_lets k r
  have hwaits (u : State) : { u with boot := { u.boot with step := 8 } }.boot.step = 8 := rfl
  have hdone (u : State) : u.finishApply.boot.step = 11 := by
    unfold State.finishApply
    dsimp only
    rw [enablePorts_boot]
  split
  · rw [hdone]
    decide
  · rw [hwaits]
    decide
  · exact slotFails_step _ _

-- no command that leaves role 2 without a hand-over settles into another role

/-- The status of the pair is that of `s`, or the unit does not forward. -/
def statusOrDown (s t : State) : Prop := t.regN R.QLB_STATUS = s.regN R.QLB_STATUS ∨ t.forwarding = false

theorem RoleKept.forwarding {s t : State} (h : RoleKept s t) : t.forwarding = s.forwarding := by
  rw [State.forwarding, State.forwarding, h.flt, h.step]

theorem statusOrDown.kept {s t u : State} (h : statusOrDown s t) (k : RoleKept t u) : statusOrDown s u :=
  h.imp (k.status.trans ·) (k.forwarding.trans ·)

theorem statusOrDown_react {s : State} (hr : s.role = 2) (hh : s.qlb.handover = none) :
    statusOrDown s s.react ∧ s.react.qlb.handover = none := by
  have hflt (f : Flt) : statusOrDown s { s with flt := f } ∧ { s with flt := f }.qlb.handover = none := ⟨.inl rfl, hh⟩
  unfold State.react
  split
  · exact ⟨.inl rfl, hh⟩
  · dsimp only
    split
    · exact hflt _
    · split
      · refine ⟨.inr (by rw [State.forwarding, failSilent_silent]; rfl), ?_⟩
        rw [(faultKeeps_failSilent _ _ _).qlb]
        exact hh
      · rw [if_neg (by omega), if_neg (by omega)]
        exact hflt _

theorem statusOrDown_pollGoesOn {s t : State} (h : statusOrDown s t) : statusOrDown s t.pollGoesOn := by
  unfold State.pollGoesOn
  split
  · exact h
  · split
    · exact h
    · split
      · split
        · exact .inr (by simp [State.forwarding, applyImage_step])
        · exact h
      · exact h

theorem silenced_boot (s : State) : s.silenced.boot = s.boot := by
  have htx (u : State) : (u.setTxOn 0).boot = u.boot := by
    unfold State.setTxOn
    exact foldl_frame State.boot (fun _ _ => wr_boot ..) _ u
  have hmac (u : State) (m : Sparse MacPort) : { u with mac := m }.boot = u.boot := rfl
  have hpulses (u : State) : u.stopPulses.boot = u.boot := rfl
  rw [State.silenced, stopChannels_frame State.boot (fun _ _ _ => rfl), hpulses, State.stopMacs, hmac, htx]
  rfl

theorem cutSweep_forwarding (s : State) : s.cutSweep.forwarding = s.forwarding := by
  unfold State.cutSweep
  split
  · rfl
  · dsimp only
    split <;> rfl

theorem statusOrDown_giveUp {s t : State} (h : statusOrDown s t) : statusOrDown s t.giveUp := by
  unfold State.giveUp
  split
  · next hdown =>
    have hstill : t.cutSweep.silenced.forwarding = t.forwarding := by
      rw [← cutSweep_forwarding t, State.forwarding, State.forwarding, silenced_flt, silenced_boot]
    refine .inr (hstill.trans ?_)
    by_contra hf
    have hup := down_of_alive (alive_of_forwarding (by simpa using hf))
    simp [hup] at hdown
  · exact h

theorem statusOrDown_dueReset {s t : State} (h : statusOrDown s t) : statusOrDown s t.dueReset := by
  rcases dueReset_cases t with he | ⟨cause, he⟩ <;> rw [he]
  · exact h
  · refine .inr ?_
    by_contra hf
    have hup := alive_of_forwarding (by simpa using hf)
    simp [afterReset_alive] at hup

theorem statusOrDown_settle {t : State} (hr : t.role = 2) (hh : t.qlb.handover = none) : statusOrDown t (settle t) := by
  have hbegin : statusOrDown t (if t.alive then t.react.releaseDuty.challengeGoesOn.stageGoesOn else t) := by
    split
    · obtain ⟨hs, hnone⟩ := statusOrDown_react hr hh
      have hrel : t.react.releaseDuty = t.react := by rw [State.releaseDuty, hnone]
      rw [hrel]
      exact (hs.kept (roleKept_challengeGoesOn _)).kept (roleKept_stageGoesOn _)
    · exact .inl rfl
  have hwak {u : State} (hu : statusOrDown t u) : statusOrDown t (if u.alive then u.wakEvaluate else u) := by
    split
    · exact hu.kept (roleKept_wakEvaluate u)
    · exact hu
  exact statusOrDown_dueReset (hwak (statusOrDown_giveUp (statusOrDown_pollGoesOn hbegin)))

-- the counterexample

/-- A forwarding STANDBY unit that has been without its partner for 100 ms, whose lease table lists, beside its 48 counters (12,
R526), a counter 64256 with a grant that waits. No reset and no step builds such an entry. -/
def strayLease : State :=
  { State.reset with
    boot := { boot0 with step := 12 }, clk := { clk0 with now := 100000000 }, leases := [(64256, ⟨0, none, false, 0, some 0⟩)] }.wr
    F.QLB_STATUS_ROLE 1

/-- The unit meets what O55 asks of one that has lost its partner. -/
theorem strayLease_alone : strayLease.forwarding = true ∧ strayLease.linkIsUp = false ∧ strayLease.qlb.lost = false ∧
    strayLease.forming = false ∧ strayLease.role ≠ 2 ∧ strayLease.qlb.kaAt = none ∧
    strayLease.qlb.downAt + strayLease.probeWait ≤ strayLease.clk.now := by decide +kernel

/-- The block that the stray entry takes lies over QLB_STATUS: the unit forwards with role 0. -/
theorem strayLease_settles : (settle strayLease.partnerLost).forwarding = true ∧ (settle strayLease.partnerLost).role = 0 := by decide +kernel

end Sys2Proof.Machine

namespace Sys2Proof.Machine

/-- Refutes O55: the obligation holds for every state, also for one whose lease table names a counter beyond the 48. When the partner
of such a unit is lost, the waiting grant of counter 64256 is written to the addresses of its lease registers, of which the second is
QLB_STATUS: the unit is left with role 0 and without duty, not SOLO with duty. -/
theorem not_rolesAndDutyMove : ¬ Obligations.RolesAndDutyMove := by
  intro h
  obtain ⟨-, -, hlost, -⟩ := h strayLease
  obtain ⟨hf, hu, hl, hform, hrole, hka, ht⟩ := strayLease_alone
  obtain ⟨t, hexec, htrole, -, -, -, hhand⟩ := (hlost hf hu hl hform hrole hka).2 ht
  have hsettle : settle strayLease.partnerLost = settle t :=
    Host.Outcome.next.inj ((finish_live (alive_of_forwarding hf) _).symm.trans hexec)
  obtain ⟨hforward, hzero⟩ := strayLease_settles
  rcases statusOrDown_settle htrole hhand with hs | hd
  · have hkept : (settle t).role = t.role := by rw [State.role, State.role, State.rd, State.rd, hs]
    rw [hsettle, hkept, htrole] at hzero
    cases hzero
  · rw [hsettle, hd] at hforward
    cases hforward

end Sys2Proof.Machine
end

section
/-! PROOF. What the frame path, the link, the cellar and a fail-silence leave of the state of sleep and wake (14). -/

namespace Sys2Proof.Machine

/-- The registers of WAK that show the agreement and the power state, the cause of the wake, the throttle and the switches. -/
abbrev wakShown (a : Nat) : Prop := a = R.WAK_CTRL ∨ a = R.WAK_STATUS ∨ a = R.WAK_CAUSE ∨ a = R.WAK_BO

/-- The registers of WAK that show its state are as they were, and so is its own state. -/
structure WakKept (s t : State) : Prop where
  reg : ∀ a, wakShown a → t.regN a = s.regN a
  wak : t.wak = s.wak

theorem WakKept.refl (s : State) : WakKept s s := ⟨fun _ _ => rfl, rfl⟩

theorem WakKept.trans {s t u : State} (h : WakKept s t) (k : WakKept t u) : WakKept s u :=
  ⟨fun a ha => (k.reg a ha).trans (h.reg a ha), k.wak.trans h.wak⟩

theorem wakKept_of_regs {s t : State} (hr : t.regs = s.regs) (hw : t.wak = s.wak) : WakKept s t :=
  ⟨fun _ _ => by rw [State.regN, State.regN, State.reg, State.reg, hr], hw⟩

theorem wakKept_ite {s t u : State} {c : Prop} [Decidable c] (ht : WakKept s t) (hu : WakKept s u) : WakKept s (if c then t else u) := by
  split <;> assumption

theorem WakKept.setRegN {s t : State} (h : WakKept s t) {b : Nat} (hb : ¬ wakShown b) (v : Nat) : WakKept s (t.setRegN b v) :=
  h.trans ⟨fun _ ha => regN_setRegN_ne _ (fun e : _ = b => hb (e ▸ ha)) v, rfl⟩

theorem WakKept.raiseFull {s t : State} (h : WakKept s t) {i c p k d0 d1 : Nat} {m : Bool}
    (hf : ∀ f, evBit c i = some f → ¬ wakShown f.addr) : WakKept s (t.raiseFull i c p k d0 d1 m) :=
  h.trans ⟨fun _ ha => regN_raiseFull_ne _ _ _ _ _ _ _ _ fun f e hfa => hf f e (hfa ▸ ha), raiseFull_wak ..⟩

theorem WakKept.rd {s t : State} (h : WakKept s t) {f : Fld} (hf : wakShown f.addr) : t.rd f = s.rd f := rd_of_regN (h.reg _ hf)

theorem WakKept.on {s t : State} (h : WakKept s t) {f : Fld} (hf : wakShown f.addr) : t.on f = s.on f := on_of_regN (h.reg _ hf)

theorem WakKept.power {s t : State} (h : WakKept s t) : t.power = s.power := h.rd (by decide)

theorem WakKept.agreement {s t : State} (h : WakKept s t) : t.agreement = s.agreement := h.rd (by decide)

theorem OnlyLink.wakKept {s t : State} (h : OnlyLink s t) : WakKept s t := by
  refine ⟨fun a ha => h.reg a fun hc => ?_, ?_⟩
  · rcases ha with rfl | rfl | rfl | rfl <;> exact absurd hc (by decide)
  · obtain ⟨r, q, rfl⟩ := h.rest
    rfl

theorem wakKept_cellarRecord (s : State) : WakKept s s.cellarRecord := by
  have hstore (u : State) (a : Nat) (l : List Byte) (f : Flt) : WakKept u { u.store a l with flt := f } := wakKept_of_regs rfl rfl
  have hseen (r : List Ev) : WakKept s { s with fltq := r } := wakKept_of_regs rfl rfl
  have hrecord (u : State) (e : Ev) : WakKept u (u.writeRecord e) :=
    ((hstore u _ _ _).setRegN (by decide) _).setRegN (by decide) _
  unfold State.cellarRecord
  split
  · exact .refl s
  · exact wakKept_ite (hseen _) (wakKept_ite ((hseen _).setRegN (by decide) _) ((hseen _).trans (hrecord _ _)))

theorem wakKept_writeRecord (s : State) (e : Ev) : WakKept s (s.writeRecord e) := by
  have hstore (a : Nat) (l : List Byte) (f : Flt) : WakKept s { s.store a l with flt := f } := wakKept_of_regs rfl rfl
  exact ((hstore _ _ _).setRegN (by decide) _).setRegN (by decide) _

theorem wakKept_beginBottling (s : State) (reason : Nat) : WakKept s (s.beginBottling reason) := by
  have hflt (u : State) (f : Flt) (l : Sparse Byte) : WakKept u { u with flt := f, flash := l } := wakKept_of_regs rfl rfl
  have hflush : WakKept s s.flushCellar :=
    List.foldlRecOn (motive := WakKept s) s.fltq _ (.refl s) fun u hu _ _ => hu.trans (wakKept_cellarRecord u)
  unfold State.beginBottling
  split
  · exact wakKept_ite (hflt s _ s.flash) (.refl s)
  · exact (hflush.trans (hflt _ _ _)).setRegN (by decide) _

theorem wakKept_foldl {β : Type} {f : State → β → State} {l : List β} (hf : ∀ u, ∀ b ∈ l, WakKept u (f u b)) (s : State) :
    WakKept s (l.foldl f s) := List.foldlRecOn (motive := WakKept s) l f (.refl s) fun u hu b hb => hu.trans (hf u b hb)

theorem wakKept_silenced (s : State) : WakKept s s.silenced := by
  have hhalt (u : State) : WakKept u u.haltEngines := ((WakKept.refl u).setRegN (by decide) _).trans (wakKept_of_regs rfl rfl)
  have hpulses (u : State) : WakKept u u.stopPulses := wakKept_of_regs rfl rfl
  have hmac (u : State) (m : Sparse MacPort) : WakKept u { u with mac := m } := wakKept_of_regs rfl rfl
  have htx (u : State) : WakKept u (u.setTxOn 0) := wakKept_foldl (fun v p hp => (WakKept.refl v).setRegN
    (by have := List.mem_range.mp hp; simp only [wakShown, R.MAC_STATUS, R.WAK_CTRL, R.WAK_STATUS, R.WAK_CAUSE, R.WAK_BO]; omega) _) u
  have hchannels (u : State) : WakKept u u.stopChannels := by
    refine ((wakKept_foldl ?_ u).trans (wakKept_foldl ?_ _)).trans (wakKept_foldl ?_ _) <;> intro v n hn <;> have hlt := List.mem_range.mp hn
    · exact (WakKept.refl v).setRegN
        (by simp only [wakShown, R.CAN_TB_STATUS, R.WAK_CTRL, R.WAK_STATUS, R.WAK_CAUSE, R.WAK_BO]; omega) _
    · have hne : ¬ wakShown (R.SER_STATUS n) := by
        simp only [wakShown, R.SER_STATUS, R.WAK_CTRL, R.WAK_STATUS, R.WAK_CAUSE, R.WAK_BO]; omega
      exact ((WakKept.refl v).setRegN hne _).setRegN hne _
    · have hne : ¬ wakShown (R.AUD_TDM_STATUS n) := by
        simp only [wakShown, R.AUD_TDM_STATUS, R.WAK_CTRL, R.WAK_STATUS, R.WAK_CAUSE, R.WAK_BO]; omega
      exact ((WakKept.refl v).setRegN hne _).setRegN hne _
  exact ((((hhalt s).trans (htx _)).trans (hmac _ _)).trans (hpulses _)).trans (hchannels _)

theorem wakKept_failSilent (s : State) (cause data : Nat) : WakKept s (s.failSilent cause data) := by
  have hraise {u : State} (hu : WakKept s u) : WakKept s (u.raiseFull 0 0x1101 0 3 data 0 true) :=
    hu.raiseFull fun f hf => by cases hf; decide
  have hflt (f : Flt) : WakKept s { s with flt := f } := wakKept_of_regs rfl rfl
  have hshown {u : State} (hu : WakKept s u) : WakKept s
      (((u.wr F.FLT_STATUS_LAST_FS_CAUSE cause).setRegN R.FLT_FS_DATA data).silenced.inc C.FLT_FAIL_SILENCES) :=
    (((hu.setRegN (by decide) _).setRegN (by decide) _).trans (wakKept_silenced _)).setRegN (by decide) _
  unfold State.failSilent
  split
  · exact hraise (.refl s)
  · dsimp only
    split
    · exact hraise (hshown (hflt _))
    · exact (hraise (hshown (hflt _))).trans (wakKept_beginBottling _ _)

theorem wakKept_detector (s : State) {k : Nat} (hk : k < 0x1000) (i : Nat) : WakKept s (s.detector k i).1 := by
  have hflt (u : State) (f : Flt) : WakKept u { u with flt := f } := wakKept_of_regs rfl rfl
  have hcount (u : State) (v : Nat) : WakKept u (u.setRegN (R.FLT_WIN_STAT k) v) := (WakKept.refl u).setRegN
    (by simp only [wakShown, R.FLT_WIN_STAT, R.WAK_CTRL, R.WAK_STATUS, R.WAK_CAUSE, R.WAK_BO]; omega) v
  have hlasting (u : State) (f : Flt) (p : Nat) : WakKept u ({ u.incSat (F.FLT_WIN_STAT_LASTING k) with flt := f }.raiseMust 0x1102 p 2 0 0) :=
    ((hcount u _).trans (hflt _ _)).raiseFull fun f hf => by cases hf; decide
  unfold State.detector
  dsimp only
  split
  · exact (hflt s _).trans ((hlasting _ _ _).trans
      (wakKept_ite (wakKept_ite (hflt _ _) (wakKept_failSilent _ _ _)) (wakKept_ite (.refl _) (hflt _ _))))
  · exact (hflt s _).trans (hcount _ _)

theorem wakKept_confirmTrial (s : State) : WakKept s s.confirmTrial := by
  have herase (u : State) (a n : Nat) : WakKept u (u.erase a n) := wakKept_of_regs rfl rfl
  have hprogram (u : State) (a : Nat) (b : List Byte) : WakKept u (u.program a b) := wakKept_of_regs rfl rfl
  have hwrite (r : BootRec) : WakKept s (s.writeBootRec r) := by
    unfold State.writeBootRec
    split <;> exact (herase ..).trans (hprogram ..)
  have hshown {u : State} (hu : WakKept s u) : WakKept s (u.wr F.CFG_STATUS_TRIAL 0) := hu.setRegN (by decide) _
  unfold State.confirmTrial
  split
  · exact wakKept_ite (hshown (hwrite _)) (.refl s)
  · exact .refl s

/-- A keep-alive of the unit leaves what WAK shows as it is. -/
theorem sendKa_shown (s : State) (probe : Bool) (period mask : Nat) {a : Nat} (ha : wakShown a) :
    (s.sendKa probe period mask).regN a = s.regN a := by
  have hfed (d : List Byte) : WakKept s (s.p24Send d mask 0) := wakKept_of_regs rfl rfl
  exact ((hfed _).setRegN (b := C.WAK_KA_TX) (by decide) _).reg a ha

theorem silenced_frame {γ : Type} (g : State → γ) (hreg : ∀ s a v, g (State.setRegN s a v) = g s)
    (heng : ∀ (s : State) e, g { s with eng := e } = g s) (hmac : ∀ (s : State) m, g { s with mac := m } = g s)
    (hpls : ∀ (s : State) p, g { s with pls := p } = g s) (s : State) : g s.silenced = g s := by
  have htx (u : State) : g (u.setTxOn 0) = g u := foldl_frame g (fun _ _ => hreg ..) _ u
  have hpulses (u : State) : g u.stopPulses = g u := hpls ..
  rw [State.silenced, stopChannels_frame g hreg, hpulses, State.stopMacs, hmac, htx]
  exact (heng ..).trans (hreg ..)

theorem silenced_clk (s : State) : s.silenced.clk = s.clk := silenced_frame State.clk (fun _ _ _ => rfl) (fun _ _ => rfl) (fun _ _ => rfl) (fun _ _ => rfl) s

theorem silenced_mem (s : State) : s.silenced.mem = s.mem := silenced_frame State.mem (fun _ _ _ => rfl) (fun _ _ => rfl) (fun _ _ => rfl) (fun _ _ => rfl) s

end Sys2Proof.Machine
end

section
/-! PROOF. Keep-alives and the sleep agreement (14, R602 to R611). -/

namespace Sys2Proof.Machine

/-- What a command of the core does in a unit that is alive. -/
theorem live_next {s t : State} {f : State → State} (ha : s.alive = true) (h : f s = t) : finish (s.live f) = .next (settle t) := by
  rw [finish_live ha, h]

/-- What a command does that only a fail-silence suppresses. -/
theorem unsilent_next {s t : State} {f : State → State} (hs : s.flt.silent = false) (h : f s = t) :
    finish (s.unsilent f) = .next (settle t) := by
  rw [unsilent_of_not_silent hs, finish_eq, h]

/-- A command that has no effect, whether the unit runs or not. -/
theorem unsilent_same {s : State} {f : State → State} (h : f s = s) : finish (s.unsilent f) = .next (settle s) := by
  rw [State.unsilent, h, ite_self, finish_eq]

-- keep-alives (R602 to R605)

theorem keepAliveTx_idle {s : State} (h : s.forwarding = false ∨ s.winding = true ∨ s.rd F.WAK_KA_KA_PERIOD = 0) : s.keepAliveTx = s :=
  if_pos (h.imp (by simp) id)

theorem keepAliveTx_due {s : State} (hf : s.forwarding = true) (hw : s.winding = false) (hp : s.rd F.WAK_KA_KA_PERIOD ≠ 0)
    (hcan : s.on F.WAK_CTRL_CAN_KA_EN = false) (hdue : s.wak.kaAt + s.rd F.WAK_KA_KA_PERIOD * 1000000 ≤ s.clk.now) :
    s.keepAliveTx = (s.setWak { s.wak with kaAt := s.clk.now, changeDue := false }).sendKa false (s.rd F.WAK_KA_KA_PERIOD)
      (s.rd F.WAK_KA_PORTS_PORTS) := by
  have hoff : ¬ ((s.setWak { s.wak with kaAt := s.clk.now, changeDue := false }).sendKa false (s.rd F.WAK_KA_KA_PERIOD)
      (s.rd F.WAK_KA_PORTS_PORTS)).on F.WAK_CTRL_CAN_KA_EN = true := by
    rw [on_of_regN (sendKa_shown _ _ _ _ (by decide))]
    exact Bool.not_eq_true _ ▸ hcan
  unfold State.keepAliveTx
  dsimp only
  rw [if_neg (by simp [hf, hw, hp]), if_pos hdue]
  exact if_neg fun h => hoff h.1

theorem censusReport_otp (s : State) (mac number fp : Nat) (viaHb : Bool) : (s.censusReport mac number fp viaHb).otp = s.otp := by
  unfold State.censusReport
  split
  · rfl
  · split
    · rfl
    · split
      · rfl
      · dsimp only
        split
        · rfl
        · exact raise_otp ..

section
variable {s : State} {k : Nat × List Byte} {r : List (Nat × List Byte)} (hk : s.kaq = k :: r)
include hk

theorem keepAliveRx_bad (h : fld k.2 15 1 ≠ 1) : s.keepAliveRx = { s with kaq := r }.inc C.WAK_KA_BAD := by
  unfold State.keepAliveRx
  rw [hk]
  exact if_pos h

theorem keepAliveRx_good (h : fld k.2 15 1 = 1) :
    let w := ({ s with kaq := r }.inc C.WAK_KA_RX).censusReport (saOf k.2) (fld k.2 20 2) (fld k.2 22 8) false
    let v := if saOf k.2 = s.otp.mac then w else w.peerHeard (saOf k.2) (fld k.2 18 2)
    s.keepAliveRx = if saOf k.2 = v.pair R.QLB_PARTNER_MAC_LO R.QLB_PARTNER_MAC_HI ∧ v.mirroring = false ∧ v.duty = false ∧
      (fld k.2 16 1).testBit 3 = true ∧ v.networkNeed = 0 ∧ (v.agreement = 1 ∨ v.agreement = 2) then
        (if v.agreement = 1 then v.arming else v).commitSleep else v := by
  intro w v
  have hv : (if saOf k.2 = w.otp.mac then w else w.peerHeard (saOf k.2) (fld k.2 18 2)) = v := by
    have hmac : w.otp.mac = s.otp.mac := by rw [censusReport_otp]; rfl
    rw [hmac]
  unfold State.keepAliveRx
  rw [hk]
  refine (if_neg (not_not.mpr h)).trans ?_
  simp only [Bool.not_eq_true]
  rw [hv]

end

/-- A need that is heard is the peer's newest. -/
theorem peerHeard_peers (s : State) (key need : Nat) :
    (s.peerHeard key need).wak.peers = s.wak.peers.filter (fun p => p.1 != key) ++ [(key, need, s.clk.now)] := by
  have hlatch (u : State) : (u.latchWake 3).wak.peers = u.wak.peers := by
    unfold State.latchWake
    split <;> rfl
  unfold State.peerHeard
  dsimp only
  split
  · exact hlatch _
  · rfl

-- need (R602)

theorem needWrite_same {s : State} {n : Nat} (h : n % 65536 = s.rd F.WAK_NEED_NEED) : s.needWrite n = s.wr F.WAK_NEED_NEED n :=
  if_neg (by rw [rd_wr_same s _ (by decide)]; exact not_not.mpr h)

theorem needWrite_new {s : State} {n : Nat} (h : n % 65536 ≠ s.rd F.WAK_NEED_NEED) :
    s.needWrite n = (s.wr F.WAK_NEED_NEED n).setWak { (s.wr F.WAK_NEED_NEED n).wak with changeDue := true } :=
  if_pos (by rw [rd_wr_same s _ (by decide)]; exact h)

-- the agreement (R606 to R608, Table 14-4)

section
variable {s : State}

theorem minAwake_early (h : ∀ t, s.boot.forwardAt = some t → s.clk.now < t + s.rd F.WAK_CONFIRM_MIN_AWAKE * secondNs) : s.minAwake = s := by
  unfold State.minAwake
  split
  · rfl
  · next t ht => exact if_neg fun ⟨_, _, _, _, hle⟩ => absurd (h t ht) (Nat.not_lt.mpr hle)

theorem minAwake_held (h : s.agreement ≠ 0 ∨ s.on F.WAK_CTRL_EN = false ∨ s.networkNeed ≠ 0 ∨ s.boot.forwardAt = none) :
    s.minAwake = s := by
  unfold State.minAwake
  split
  · rfl
  · next t ht => exact if_neg fun ⟨_, h0, hen, hneed, _⟩ => by simp [h0, hen, hneed, ht] at h

theorem minAwake_ready {t : Nat} (ht : s.boot.forwardAt = some t) (ha : s.alive = true) (h0 : s.agreement = 0)
    (hen : s.on F.WAK_CTRL_EN = true) (hneed : s.networkNeed = 0) (hle : t + s.rd F.WAK_CONFIRM_MIN_AWAKE * secondNs ≤ s.clk.now) :
    s.minAwake = if s.rd F.WAK_HOLD_READY_HOLD = 0 then (s.toAgreement 1).readyHold else s.toAgreement 1 := by
  unfold State.minAwake
  rw [ht]
  refine (if_pos ⟨ha, h0, hen, hneed, hle⟩).trans ?_
  have hhold : (s.toAgreement 1).rd F.WAK_HOLD_READY_HOLD = s.rd F.WAK_HOLD_READY_HOLD := rd_wr_other s _ _ (by decide) _ (by decide)
  dsimp only
  rw [hhold]

theorem readyHold_idle (h : s.duty = false ∨ s.networkNeed ≠ 0 ∨ s.agreement ≠ 1) : s.readyHold = s :=
  if_neg fun ⟨_, h1, hd, hneed, _⟩ => by simp [h1, hd, hneed] at h

theorem readyHold_early (h : s.clk.now < s.wak.stateAt + s.rd F.WAK_HOLD_READY_HOLD * 1000000) : s.readyHold = s :=
  if_neg fun ⟨_, _, _, _, hle⟩ => absurd h (Nat.not_lt.mpr hle)

/-- The commit leaves the unit in its shutdown. -/
theorem commitSleep_shown (s : State) : s.commitSleep.agreement = 3 ∧ s.commitSleep.power = 2 := by
  have hpers (u : State) (p : Pers) : WakKept u { u with pers := p } := wakKept_of_regs rfl rfl
  have hkept (u : State) (h : u.agreement = 3 ∧ u.power = 2) (v : State) (hv : ∀ a, wakShown a → v.regN a = u.regN a) :
      v.agreement = 3 ∧ v.power = 2 :=
    ⟨(rd_of_regN (hv _ (by decide))).trans h.1, (rd_of_regN (hv _ (by decide))).trans h.2⟩
  have hbegin : (((s.toAgreement 3).setPower 2).raise 0x0F02 0).agreement = 3 ∧ (((s.toAgreement 3).setPower 2).raise 0x0F02 0).power = 2 := by
    refine hkept ((s.toAgreement 3).setPower 2) ⟨?_, rd_wr_same _ _ (by decide) 2⟩ _
      ((WakKept.refl _).raiseFull fun f hf => by cases hf; decide).reg
    exact (rd_wr_other _ _ _ (by decide) _ (by decide)).trans (toAgreement_agreement s (by decide))
  unfold State.commitSleep
  extract_lets a b c d
  have hb : b.agreement = 3 ∧ b.power = 2 := by
    refine hkept a hbegin b ?_
    simp only [b]
    split
    · exact fun _ => sendKa_shown _ _ _ _
    · exact fun _ _ => rfl
  have hd : WakKept b d := (wakKept_ite (onlyLink_mirror _ _).wakKept (.refl _)).trans (wakKept_ite (wakKept_confirmTrial _) (.refl _))
  exact hkept b hb _ (hd.trans (((hpers _ _).trans (hpers _ _)).trans (wakKept_beginBottling _ _))).reg

end

end Sys2Proof.Machine
end

section
/-! PROOF. Sleep, the wake sources, false wakes and the throttle (14, R594 to R599, R609 to R625). -/

namespace Sys2Proof.Machine

-- SLEEP (R612, Table 14-5)

/-- The entry into SLEEP of a unit that has fallen silent. -/
def State.coreStopped (s : State) : State :=
  let s := s.elementsLost
  let s := { s with boot := { s.boot with step := 0 }, clk := { s.clk with on := false } }
  let s := (s.setPower 3).wr F.WAK_BO_THROTTLE 0
  let s := s.setWak { s.wak with pwrReq := false, sleepAt := s.clk.now }
  (s.setRegN R.WAK_SLEEP_ENTRY s.aonSeconds).armSources [4, 5, 6, 7]

theorem enterSleep_eq (s : State) : s.enterSleep = s.silenced.coreStopped := rfl

theorem coreStopped_power (s : State) : s.coreStopped.power = 3 := by
  have hpower (u : State) (v : Nat) : (((u.setPower 3).wr F.WAK_BO_THROTTLE 0).setRegN R.WAK_SLEEP_ENTRY v).rd F.WAK_STATUS_POWER = 3 := by
    rw [rd_setRegN_ne _ (by decide), rd_wr_other _ _ _ (by decide) _ (by decide)]
    exact rd_wr_same _ _ (by decide) 3
  exact hpower _ _

theorem coreStopped_core (s : State) : s.coreStopped.boot.step = 0 ∧ s.coreStopped.mem = s.mem ∧ s.coreStopped.mac = [] ∧ s.coreStopped.can = [] ∧ s.coreStopped.ser = [] :=
  ⟨rfl, rfl, rfl, rfl, rfl⟩

theorem coreStopped_wak (s : State) : s.coreStopped.wak.pwrReq = false ∧ s.coreStopped.wak.sleepAt = s.clk.now ∧ s.coreStopped.clk.now = s.clk.now :=
  ⟨rfl, rfl, rfl⟩

/-- The core domains have stopped. -/
theorem enterSleep_asleep (s : State) : s.enterSleep.power = 3 ∧ s.enterSleep.boot.step = 0 ∧ s.enterSleep.wak.pwrReq = false ∧
    s.enterSleep.wak.sleepAt = s.clk.now ∧ s.enterSleep.mem = s.mem ∧ s.enterSleep.mac = [] ∧ s.enterSleep.can = [] ∧
    s.enterSleep.ser = [] ∧ s.enterSleep.clk.now = s.clk.now := by
  obtain ⟨hstep, hmem, hmac, hcan, hser⟩ := coreStopped_core s.silenced
  obtain ⟨hreq, hat, hnow⟩ := coreStopped_wak s.silenced
  rw [enterSleep_eq, coreStopped_power, hstep, hreq, hat, hmem, hmac, hcan, hser, hnow, silenced_clk, silenced_mem]
  exact ⟨rfl, rfl, rfl, rfl, rfl, rfl, rfl, rfl, rfl⟩

theorem sleepEntry_sleeps {s : State} (hp : s.power = 2) (hb : s.flt.bottling = none) (ha : s.alive = true) :
    s.sleepEntry = (s.enterSleep.inc C.WAK_SLEEPS).wr F.WAK_CAUSE_FAILSAFE 0 := if_pos ⟨hp, hb, ha⟩

theorem sleepEntry_waits {s : State} (h : s.power ≠ 2 ∨ s.flt.bottling ≠ none) : s.sleepEntry = s :=
  if_neg fun ⟨hp, hb, _⟩ => by simp [hp, hb] at h

-- an event of a wake source (R610, R612, R613)

section
variable {s : State} {c : Nat}

theorem wakeEvent_unarmed (h : s.wak.armed.testBit c = false) : s.wakeEvent c = s := if_pos (by simp [h])

theorem noteCause_kept (s : State) (c : Nat) : (s.noteCause c).agreement = s.agreement ∧ (s.noteCause c).power = s.power :=
  ⟨rd_setRegN_ne _ (by decide) _, rd_setRegN_ne _ (by decide) _⟩

section
variable (harm : s.wak.armed.testBit c = true)
include harm

theorem wakeEvent_armed : s.wakeEvent c = if (s.noteCause c).agreement = 2 then (s.noteCause c).abortSleep true
    else if (s.noteCause c).power = 2 then (s.noteCause c).latchWake c
    else if (s.noteCause c).power = 3 then (s.noteCause c).askWake c else s.noteCause c := if_neg (not_not.mpr harm)

theorem wakeEvent_cases :
    (s.agreement = 2 → s.wakeEvent c = (s.noteCause c).abortSleep true) ∧
    (s.agreement ≠ 2 → s.power = 2 → s.wakeEvent c = (s.noteCause c).latchWake c) ∧
    (s.agreement ≠ 2 → s.power = 3 → s.wakeEvent c = (s.noteCause c).askWake c) ∧
    (s.agreement ≠ 2 → s.power ≠ 2 → s.power ≠ 3 → s.wakeEvent c = s.noteCause c) := by
  obtain ⟨ha, hp⟩ := noteCause_kept s c
  rw [wakeEvent_armed harm, ha, hp]
  refine ⟨fun h2 => if_pos h2, fun h2 hp2 => ?_, fun h2 hp3 => ?_, fun h2 hp2 hp3 => ?_⟩
  · rw [if_neg h2, if_pos hp2]
  · rw [if_neg h2, if_neg (by omega), if_pos hp3]
  · rw [if_neg h2, if_neg hp2, if_neg hp3]

end

/-- A source asks: after the dwell the first to ask decides. -/
theorem askWake_noteCause (s : State) (c : Nat) : (s.noteCause c).askWake c =
    if s.dwellOver = true ∧ s.wak.want = none then (s.noteCause c).decideWake c
    else (s.noteCause c).setWak { s.wak with want := match s.wak.want with | some x => some x | none => some c } := by
  have hdwell : (s.noteCause c).dwellOver = s.dwellOver := by
    have hrd : (s.noteCause c).rd F.WAK_DWELL_DWELL = s.rd F.WAK_DWELL_DWELL := rd_setRegN_ne _ (by decide) _
    rw [State.dwellOver, hrd]
    rfl
  have hwant : (s.noteCause c).wak = s.wak := rfl
  unfold State.askWake
  rw [hdwell, hwant]
  cases s.wak.want <;> rfl

theorem latchWake_latched (h : s.on F.WAK_CAUSE_LATCHED = true) : s.latchWake c = s := if_pos h

theorem latchWake_new (h : s.on F.WAK_CAUSE_LATCHED = false) (hc : c < 32) : (s.latchWake c).wak.want = some c ∧
    (s.latchWake c).rd F.WAK_CAUSE_CAUSE = c ∧ (s.latchWake c).on F.WAK_CAUSE_LATCHED = true := by
  have he : s.latchWake c = ((((s.wr F.WAK_CAUSE_LATCHED 1).wr F.WAK_CAUSE_CAUSE c).setWak { s.wak with want := some c }).inc
      C.WAK_LATCHED_WAKES) := if_neg (by simp [h])
  have hwak (u : State) (w : Wak) (f : Fld) : (u.setWak w).rd f = u.rd f := rfl
  rw [he]
  refine ⟨rfl, ?_, ?_⟩
  · rw [rd_inc_ne _ (by decide), hwak, rd_wr_same _ _ (by decide)]
    exact Nat.mod_eq_of_lt hc
  · rw [on_inc_ne _ (by decide), State.on, hwak, ← State.on, on_wr_other _ _ _ (by decide) _ (by decide), on_wr_same _ _ (by decide) rfl]
    rfl

theorem decideWake_wakes (s : State) (hc : c < 32) : (s.decideWake c).power = 4 ∧ (s.decideWake c).rd F.WAK_CAUSE_CAUSE = c ∧
    (s.decideWake c).wak.pwrReq = true := by
  refine ⟨rd_wr_same (s.wr F.WAK_CAUSE_CAUSE c) _ (by decide) 4, ?_, rfl⟩
  refine (rd_wr_other _ _ _ (by decide) _ (by decide)).trans ((rd_wr_same s _ (by decide) c).trans (Nat.mod_eq_of_lt hc))

end

-- the wake sources (R614 to R620, Table 14-6)

section
variable (s : State)

theorem wakeN_held {us : Nat} (h : max 1 (s.rd F.WAK_PINS_WAKEN_FILTER) ≤ us) : s.wakeN us = s.wakeEvent 1 := if_pos h

theorem wakeN_short {us : Nat} (h : us < max 1 (s.rd F.WAK_PINS_WAKEN_FILTER)) : s.wakeN us = s := if_neg (by omega)

theorem signalDetect_held (p : Nat) {us : Nat} (h : max 1 (s.rd F.WAK_PINS_SD_MIN) ≤ us) : s.signalDetect p us = s.wakeEvent (4 + p) :=
  if_pos h

theorem signalDetect_short (p : Nat) {us : Nat} (h : us < max 1 (s.rd F.WAK_PINS_SD_MIN)) : s.signalDetect p us = s := if_neg (by omega)

theorem canWake_unarmed {c : Nat} (h : s.wak.armed.testBit (16 + c) = false) (ev : CanWakeEvent) : s.canWake c ev = s := if_pos (by simp [h])

theorem canWake_otherFormat (c : Nat) {f : CanFrame} (h : f.fdf = true ∨ f.xlf = true) : s.canWake c (.frame f) = s := by
  unfold State.canWake
  dsimp only
  split
  · rfl
  · exact if_pos (.inr h)

section
variable {s} {c : Nat} (harm : s.wak.armed.testBit (16 + c) = true)
include harm

theorem canWake_dominant {us : Nat} (hm : s.rd (F.WAK_C_CTRL_MODE c) = 0) (h : max 1 (s.rd (F.WAK_C_CTRL_WUP_MIN c)) ≤ us) :
    s.canWake c (.dominant us) = s.wakeEvent (16 + c) :=
  (if_neg (not_not.mpr harm)).trans (if_pos ⟨hm, h⟩)

theorem canWake_frame {f : CanFrame} (hm : s.rd (F.WAK_C_CTRL_MODE c) ≠ 0) (hfd : f.fdf = false) (hxl : f.xlf = false) :
    s.canWake c (.frame f) = if s.rd (F.WAK_C_CTRL_MODE c) = 1 ∨ (s.setErrs c 0).canMatches c f = true then
      (s.setErrs c 0).wakeEvent (16 + c) else s.setErrs c 0 :=
  (if_neg (not_not.mpr harm)).trans (if_neg (by simp [hm, hfd, hxl]))

theorem canWake_decodeError (hm : s.rd (F.WAK_C_CTRL_MODE c) ≠ 0) : s.canWake c .decodeError =
    if s.rd (F.WAK_C_CTRL_ERR_LIMIT c) ≠ 0 ∧ s.rd (F.WAK_C_CTRL_ERR_LIMIT c) ≤ sget 0 s.wak.errs c + 1 then
      (s.setErrs c (sget 0 s.wak.errs c + 1)).wakeEvent (16 + c) else s.setErrs c (sget 0 s.wak.errs c + 1) :=
  (if_neg (not_not.mpr harm)).trans (if_neg hm)

end

theorem t1sWake_carrier {n us : Nat} (hm : s.rd (F.WAK_T_CTRL_MODE n) = 0) (h : max 1 (s.rd (F.WAK_T_CTRL_ACT_MIN n)) ≤ us) :
    s.t1sWake n (.carrier us) = s.wakeEvent (8 + n) := if_pos ⟨hm, h⟩

theorem t1sWake_badFrame (n : Nat) {b : List Byte} (h : fcsOk b = false) : s.t1sWake n (.frame b) = s :=
  if_neg fun hw => by simp [h] at hw

theorem t1sWake_frame {n : Nat} {b : List Byte} (h : fcsOk b = true) (hm : s.rd (F.WAK_T_CTRL_MODE n) ≠ 0) :
    s.t1sWake n (.frame b) =
      if s.rd (F.WAK_T_CTRL_MODE n) = 1 ∨ s.t1sMatches n (dropFcs b) = true then s.wakeEvent (8 + n) else s := by
  have hcond : (s.rd (F.WAK_T_CTRL_MODE n) ≠ 0 ∧ fcsOk b = true ∧
      (s.rd (F.WAK_T_CTRL_MODE n) = 1 ∨ s.t1sMatches n (dropFcs b) = true)) ↔
      (s.rd (F.WAK_T_CTRL_MODE n) = 1 ∨ s.t1sMatches n (dropFcs b) = true) := by simp [hm, h]
  exact if_congr hcond rfl rfl

variable {s}

theorem wakeTimer_elsewhere (h : s.power ≠ 3) : s.wakeTimer = s := if_pos h

theorem wakeTimer_due (h : s.power = 3) (ho : s.wak.oneOff = none) (hn : s.rd F.WAK_TIMER_WAKE_TIMER ≠ 0)
    (ht : s.wak.sleepAt + s.rd F.WAK_TIMER_WAKE_TIMER * secondNs ≤ s.clk.now) : s.wakeTimer = s.wakeEvent 2 := by
  unfold State.wakeTimer
  rw [ho]
  exact (if_neg (not_not.mpr h)).trans ((if_neg Bool.false_ne_true).trans (if_pos ⟨hn, ht⟩))

theorem wakeTimer_retry {t : Nat} (h : s.power = 3) (ho : s.wak.oneOff = some t) (ht : t ≤ s.clk.now) :
    s.wakeTimer = ((s.setWak { s.wak with oneOff := none }).noteCause 20).askWake 20 := by
  unfold State.wakeTimer
  rw [ho]
  exact (if_neg (not_not.mpr h)).trans (if_pos (decide_eq_true ht))

theorem dwellEnd_waits (h : s.power ≠ 3 ∨ s.dwellOver = false) : s.dwellEnd = s := if_pos (h.imp id (by simp))

theorem dwellEnd_over (h : s.power = 3) (hd : s.dwellOver = true) :
    (∀ c, s.wak.want = some c → s.dwellEnd = s.decideWake c) ∧ (s.wak.want = none → s.dwellEnd = s) := by
  have hrun : ¬ (s.power ≠ 3 ∨ ¬ s.dwellOver = true) := by simp [h, hd]
  unfold State.dwellEnd
  rw [if_neg hrun]
  exact ⟨fun c hc => by rw [hc], fun hn => by rw [hn]⟩

-- the supply (R626) and the fail-safe path (R625)

theorem supplyFail_waits (h : s.power ≠ 4 ∨ s.clk.now < s.wak.pwrAt + 100000000) : s.supplyFail = s :=
  if_neg fun ⟨hp, ht⟩ => h.elim (absurd hp) (by omega)

theorem supplyFail_sleeps (h : s.power = 4) (ht : s.wak.pwrAt + 100000000 ≤ s.clk.now) :
    s.supplyFail.power = 3 ∧ s.supplyFail.wak.pwrReq = false ∧ s.supplyFail.wak.supplyFailed = true := by
  obtain ⟨hp, -, hreq, -⟩ := enterSleep_asleep s
  have hend (u : State) (e : Ev) :
      WakKept (u.setWak { u.wak with supplyFailed := true }) ((u.setWak { u.wak with supplyFailed := true }).writeRecord e) :=
    wakKept_writeRecord _ e
  have he : s.supplyFail = ((s.enterSleep.inc C.WAK_SUPPLY_FAILS).setWak
      { (s.enterSleep.inc C.WAK_SUPPLY_FAILS).wak with supplyFailed := true }).writeRecord
        ((s.enterSleep.inc C.WAK_SUPPLY_FAILS).event 0x0F0A 0 0 0 0 true) := if_pos ⟨h, ht⟩
  have hpower (u : State) (w : Wak) : ((u.inc C.WAK_SUPPLY_FAILS).setWak w).power = u.power := rd_inc_ne u (by decide)
  have hwak (u : State) (w : Wak) : (u.setWak w).wak = w := rfl
  rw [he, (hend _ _).power, (hend _ _).wak, hpower, hwak, inc_wak]
  exact ⟨hp, hreq, rfl⟩

theorem failsafeSleep_off (h : s.rd F.WAK_FAILSAFE_FAILSAFE_TIME = 0) : s.failsafeSleep = s := if_pos (.inl h)

/-- The fail-safe path beyond its entry into SLEEP: the retry after `t` seconds. -/
def State.failsafeRetry (s : State) (t : Nat) : State :=
  let s := ((s.wr F.WAK_STATUS_STATE 3).wr F.WAK_CAUSE_FAILSAFE 1).inc C.WAK_FAILSAFE_SLEEPS
  s.setWak { s.wak with failsafed := true, oneOff := some (s.clk.now + t * secondNs) }

theorem failsafeRetry_shown (s : State) (t : Nat) : (s.failsafeRetry t).power = s.power ∧ (s.failsafeRetry t).agreement = 3 ∧
    (s.failsafeRetry t).on F.WAK_CAUSE_FAILSAFE = true := by
  have hrd {f : Fld} (hf : f.addr ≠ C.WAK_FAILSAFE_SLEEPS) :
      (s.failsafeRetry t).rd f = ((s.wr F.WAK_STATUS_STATE 3).wr F.WAK_CAUSE_FAILSAFE 1).rd f := rd_inc_ne _ hf
  refine ⟨?_, ?_, ?_⟩
  · refine (hrd (by decide)).trans ?_
    rw [rd_wr_other _ _ _ (by decide) _ (by decide)]
    exact rd_wr_other _ _ _ (by decide) _ (by decide)
  · refine (hrd (by decide)).trans ?_
    rw [rd_wr_other _ _ _ (by decide) _ (by decide)]
    exact rd_wr_same _ _ (by decide) 3
  · rw [State.on, hrd (by decide), rd_wr_same _ _ (by decide)]
    rfl

theorem failsafeRetry_rest (s : State) (t : Nat) : (s.failsafeRetry t).boot = s.boot ∧
    (s.failsafeRetry t).wak.oneOff = some (s.clk.now + t * secondNs) := ⟨rfl, rfl⟩

theorem failsafeSleep_sleeps (ht : s.rd F.WAK_FAILSAFE_FAILSAFE_TIME ≠ 0) (hb : s.boot.step ≠ 0) (hu : s.rd F.CFG_STATUS_STATE = 6) :
    s.failsafeSleep.power = 3 ∧ s.failsafeSleep.agreement = 3 ∧ s.failsafeSleep.boot.step = 0 ∧
    s.failsafeSleep.on F.WAK_CAUSE_FAILSAFE = true ∧
    s.failsafeSleep.wak.oneOff = some (s.clk.now + s.rd F.WAK_FAILSAFE_FAILSAFE_TIME * secondNs) := by
  obtain ⟨hp, hstep, -, -, -, -, -, -, hnow⟩ := enterSleep_asleep s.arming
  have harm (u : State) : u.arming.clk = u.clk := rfl
  have he : s.failsafeSleep = s.arming.enterSleep.failsafeRetry (s.rd F.WAK_FAILSAFE_FAILSAFE_TIME) := if_neg (by simp [ht, hb, hu])
  obtain ⟨hpower, hagree, hshown⟩ := failsafeRetry_shown s.arming.enterSleep (s.rd F.WAK_FAILSAFE_FAILSAFE_TIME)
  obtain ⟨hboot, hretry⟩ := failsafeRetry_rest s.arming.enterSleep (s.rd F.WAK_FAILSAFE_FAILSAFE_TIME)
  rw [he, hpower, hboot, hretry, hp, hstep, hnow, harm]
  exact ⟨rfl, hagree, rfl, hshown, rfl⟩

end

end Sys2Proof.Machine
end

section
/-! PROOF. False wakes and quarantine, the throttle, the brown-out and the crystal (14, R594 to R599, R621 to R623; 16, R677). -/

namespace Sys2Proof.Machine

-- quarantine and false wakes (R621 to R623)

section
variable {s : State}

theorem quarantineEnd_not {c : Nat} (h : s.rd F.WAK_QUAR_QUAR_HOLD = 0 ∨ (s.regN R.WAK_QUAR_STATUS).testBit c = false) :
    s.quarantineEnd c = s :=
  if_neg fun ⟨hold, hq, _⟩ => h.elim hold (by simp [hq])

theorem quarantineEnd_over {c : Nat} (hold : s.rd F.WAK_QUAR_QUAR_HOLD ≠ 0) (hq : (s.regN R.WAK_QUAR_STATUS).testBit c = true)
    (ht : sget 0 s.wak.quarAt c + s.rd F.WAK_QUAR_QUAR_HOLD * 3600 ≤ s.aonSeconds) : s.quarantineEnd c = s.unquarantine (2 ^ c) :=
  if_pos ⟨hold, hq, ht⟩

theorem unquarantine_unarmed (h : s.agreement < 2) (m : Nat) : s.unquarantine m = s.setRegN R.WAK_QUAR_STATUS
    (((List.range 32).filter (fun c => m.testBit c && (s.regN R.WAK_QUAR_STATUS).testBit c)).foldl (fun m c => m - 2 ^ c)
      (s.regN R.WAK_QUAR_STATUS)) := by
  have hkept (v : Nat) : (s.setRegN R.WAK_QUAR_STATUS v).agreement = s.agreement := rd_setRegN_ne s (by decide) v
  exact if_neg (by rw [hkept]; omega)

theorem falseWake_not {t : Nat} (ht : s.boot.forwardAt = some t) (h : s.wak.judged = true ∨ s.rd F.DEV_RESET_CAUSE_CAUSE ≠ 4 ∨
    s.rd F.WAK_CONFIRM_WAKE_CONFIRM = 0 ∨ s.clk.now < t + s.rd F.WAK_CONFIRM_WAKE_CONFIRM * secondNs) : s.falseWake = s := by
  unfold State.falseWake
  rw [ht]
  exact if_pos h

/-- A false wake counted for its source, with its event. -/
def State.countFalse (s : State) (c : Nat) : State := ((s.incSat (F.WAK_FW_FW_COUNT c)).incSat (F.WAK_FW_RUN c)).raise 0x0F04 0

/-- Counting a false wake leaves the limit of quarantine as it is. -/
theorem countFalse_limit (u : State) {c : Nat} (hc : c < 32) : (u.countFalse c).rd F.WAK_QUAR_QUAR_LIMIT = u.rd F.WAK_QUAR_QUAR_LIMIT := by
  have hne : R.WAK_QUAR ≠ R.WAK_FW c := by simp only [R.WAK_QUAR, R.WAK_FW]; omega
  have hsat (v : State) {f : Fld} (hf : f.addr = R.WAK_FW c) : (v.incSat f).rd F.WAK_QUAR_QUAR_LIMIT = v.rd F.WAK_QUAR_QUAR_LIMIT :=
    rd_wr_other v _ _ (by decide) _ (.inl (hf ▸ hne))
  rw [State.countFalse, rd_raise_ne _ _ _ fun f hf => by cases hf; decide, hsat _ rfl, hsat _ rfl]

section
variable {t : Nat} (ht : s.boot.forwardAt = some t) (hj : s.wak.judged = false) (hr : s.rd F.DEV_RESET_CAUSE_CAUSE = 4)
  (hw : s.rd F.WAK_CONFIRM_WAKE_CONFIRM ≠ 0) (hle : t + s.rd F.WAK_CONFIRM_WAKE_CONFIRM * secondNs ≤ s.clk.now)
include ht hj hr hw hle

theorem falseWake_timer (hc : s.rd F.WAK_CAUSE_CAUSE = 2 ∨ s.rd F.WAK_CAUSE_CAUSE = 20) :
    s.falseWake = s.setWak { s.wak with judged := true } := by
  unfold State.falseWake
  rw [ht]
  exact (if_neg (by simp [hj, hr, hw, hle])).trans (if_pos hc)

theorem falseWake_counted (h2 : s.rd F.WAK_CAUSE_CAUSE ≠ 2) (h20 : s.rd F.WAK_CAUSE_CAUSE ≠ 20) :
    let c := s.rd F.WAK_CAUSE_CAUSE
    let w := (s.setWak { s.wak with judged := true }).countFalse c
    let q := (w.setRegN R.WAK_QUAR_STATUS (w.regN R.WAK_QUAR_STATUS + 2 ^ c)).raise 0x0F05 0
    s.falseWake = if s.rd F.WAK_QUAR_QUAR_LIMIT ≠ 0 ∧ w.rd F.WAK_QUAR_QUAR_LIMIT ≤ w.rd (F.WAK_FW_RUN c) ∧
      (w.regN R.WAK_QUAR_STATUS).testBit c = false then q.setWak { q.wak with quarAt := sput 0 c q.aonSeconds q.wak.quarAt } else w := by
  intro c w q
  have hlimit : w.rd F.WAK_QUAR_QUAR_LIMIT = s.rd F.WAK_QUAR_QUAR_LIMIT := countFalse_limit _ (bits_lt _ _ _)
  unfold State.falseWake
  rw [ht, ← hlimit]
  refine (if_neg (by simp [hj, hr, hw, hle])).trans ((if_neg (by simp [h2, h20])).trans ?_)
  simp only [Bool.not_eq_true]
  rfl

end

-- the throttle (R594 to R599)

theorem throttleEnter_not (h : s.on F.WAK_BO_THROTTLE = true ∨ 3 ≤ s.power ∨ s.boot.step = 0) : s.throttleEnter = s := if_pos h

/-- A throttle as it is shown, before its event counts in its window. -/
def State.throttled (s : State) : State :=
  let s := (if s.power = 0 then s.setPower 1 else s).wr F.WAK_BO_THROTTLE 1
  s.setWak { s.wak with throttleAt := s.clk.now, throttles := s.clk.now :: s.recentThrottles, bottleAsked := false }

/-- A throttle counted, in the monitor and for the sweep that runs, with its event. -/
def State.throttleCounted (s : State) : State :=
  let s := ((s.inc C.WAK_THROTTLES).setRegN R.FLT_MON (s.regN R.FLT_MON ||| 256)).raise 0x0F06 0
  { s with cnt := { s.cnt with run := s.cnt.run.map (fun (r : Sweep) => { r with throttled := true }) } }

theorem throttled_shown (s : State) : s.throttled.on F.WAK_BO_THROTTLE = true ∧
    s.throttled.power = (if s.power = 0 then 1 else s.power) ∧ s.throttled.wak.throttleAt = s.clk.now ∧
    s.throttled.wak.throttles = s.clk.now :: s.recentThrottles := by
  have hset (u : State) (w : Wak) (f : Fld) : (u.setWak w).rd f = u.rd f := rfl
  have hpower (u : State) : (u.wr F.WAK_BO_THROTTLE 1).power = u.power := rd_wr_other u _ _ (by decide) _ (by decide)
  refine ⟨?_, ?_, ?_, ?_⟩
  · exact on_wr_same (if s.power = 0 then s.setPower 1 else s) F.WAK_BO_THROTTLE (by decide) rfl 1
  · refine (hpower _).trans ?_
    split
    · exact rd_wr_same s _ (by decide) 1
    · rfl
  · unfold State.throttled
    split <;> rfl
  · unfold State.throttled
    split <;> rfl

theorem throttleEnter_enters (ht : s.on F.WAK_BO_THROTTLE = false) (hp : s.power < 3) (hb : s.boot.step ≠ 0) :
    s.throttleEnter.on F.WAK_BO_THROTTLE = true ∧ s.throttleEnter.power = (if s.power = 0 then 1 else s.power) ∧
    s.throttleEnter.wak.throttleAt = s.clk.now ∧ s.throttleEnter.wak.throttles = s.clk.now :: s.recentThrottles := by
  have he : s.throttleEnter = if (s.throttled.throttleCounted.detector 8 0).2 then
      (s.throttled.throttleCounted.detector 8 0).1.raise 0x0F08 0 else (s.throttled.throttleCounted.detector 8 0).1 :=
    if_neg (by simp [ht, hb]; omega)
  have hcnt (u : State) (c : Cnt) : WakKept u { u with cnt := c } := wakKept_of_regs rfl rfl
  have hcounted (u : State) : WakKept u u.throttleCounted :=
    ((((WakKept.refl u).setRegN (by decide) _).setRegN (by decide) _).raiseFull fun f hf => by cases hf; decide).trans (hcnt _ _)
  have hkept : WakKept s.throttled s.throttleEnter := by
    have hd := (hcounted s.throttled).trans (wakKept_detector _ (by decide : 8 < 0x1000) 0)
    rw [he]
    exact wakKept_ite (hd.raiseFull fun f hf => by cases hf; decide) hd
  obtain ⟨hon, hpow, hat, hlist⟩ := throttled_shown s
  rw [hkept.on (by decide), hkept.power, hkept.wak]
  exact ⟨hon, hpow, hat, hlist⟩

theorem throttleExit_not (h : s.on F.WAK_BO_THROTTLE = false ∨ s.clk.now < s.wak.throttleAt + 1000000) : s.throttleExit = s :=
  if_pos (h.imp (by simp) id)

theorem throttleExit_leaves (ht : s.on F.WAK_BO_THROTTLE = true) (hle : s.wak.throttleAt + 1000000 ≤ s.clk.now) :
    s.throttleExit.on F.WAK_BO_THROTTLE = false ∧ s.throttleExit.power = (if s.power = 1 then 0 else s.power) ∧
    s.throttleExit.rd F.WAK_BO_LONGEST = max (s.rd F.WAK_BO_LONGEST) (min ((s.clk.now - s.wak.throttleAt) / 1000) 65535) := by
  have hlongest : s.rd F.WAK_BO_LONGEST < 65536 := bits_lt _ _ _
  have hrun : ¬ (¬ s.on F.WAK_BO_THROTTLE = true ∨ s.clk.now < s.wak.throttleAt + recoveryNs) := by
    simp only [ht, recoveryNs, not_true, false_or]
    omega
  unfold State.throttleExit
  rw [if_neg hrun]
  extract_lets us a b
  have ha : (∀ f : Fld, f.addr = R.WAK_BO → (if s.power = 1 then s.setPower 0 else s).rd f = s.rd f) := by
    intro f hf
    split
    · exact rd_of_regN (regN_wr_ne s _ (by rw [hf]; decide) 0)
    · rfl
  have hmon (u : State) (v n : Nat) : WakKept u ((u.setRegN R.FLT_MON v).raise 0x0F07 n) :=
    ((WakKept.refl u).setRegN (by decide) v).raiseFull fun f hf => by cases hf; decide
  rw [(hmon b _ us).on (by decide), (hmon b _ us).power, (hmon b _ us).rd (by decide)]
  refine ⟨?_, ?_, ?_⟩
  · rw [on_wr_other _ _ _ (by decide) _ (by decide)]
    exact on_wr_same _ _ (by decide) rfl 0
  · refine (rd_wr_other _ _ _ (by decide) _ (by decide)).trans ((rd_wr_other _ _ _ (by decide) _ (by decide)).trans ?_)
    split
    · exact rd_wr_same s _ (by decide) 0
    · rfl
  · rw [rd_wr_same _ _ (by decide), rd_wr_other _ _ _ (by decide) _ (by decide), ha _ rfl]
    exact Nat.mod_eq_of_lt (by show max _ (min _ 65535) < 65536; omega)

section
variable (ht : s.on F.WAK_BO_THROTTLE = true) (hasked : s.wak.bottleAsked = false)
include ht hasked

omit ht hasked in
theorem throttleBottling_early (h : s.clk.now ≤ s.wak.throttleAt + 10000000) : s.throttleBottling = s := if_pos (.inr (.inr h))

theorem throttleBottling_recent (h : s.wak.throttleAt + 10000000 < s.clk.now) {t : Nat} (hb : s.flt.throttleBottleAt = some t)
    (hrecent : s.clk.now < t + 10 * secondNs) :
    s.throttleBottling = (s.setWak { s.wak with bottleAsked := true }).inc C.FLT_BOTTLES_SKIPPED := by
  have hflt (w : Wak) : (s.setWak w).flt.throttleBottleAt = some t := hb
  refine (if_neg (by simp [ht, hasked, h])).trans ?_
  dsimp only
  rw [hflt]
  exact if_pos (decide_eq_true hrecent)

theorem throttleBottling_first (h : s.wak.throttleAt + 10000000 < s.clk.now) (hb : s.flt.throttleBottleAt = none) :
    let u := s.setWak { s.wak with bottleAsked := true }
    s.throttleBottling = ({ u with flt := { u.flt with throttleBottleAt := some s.clk.now } }).beginBottling 3 := by
  have hflt (w : Wak) : (s.setWak w).flt.throttleBottleAt = none := hb
  intro u
  refine (if_neg (by simp [ht, hasked, h])).trans ?_
  dsimp only
  rw [hflt]
  exact if_neg Bool.false_ne_true

end

-- the brown-out (R598) and the crystal (R677)

theorem brownOut_not {mv : Nat} (h : 675 ≤ mv) : s.brownOut mv = s := if_pos (.inl h)

theorem brownOut_silent {mv : Nat} (h : mv < 675) (hb : s.boot.step ≠ 0) : (s.brownOut mv).flt.silent = true := by
  unfold State.brownOut
  rw [if_neg (by simp [hb]; omega)]
  exact failSilent_silent _ _ _

theorem crystalCheck_early (h : s.clk.now < s.flt.crystalAt + 1000000000) (b : Bool) : s.crystalCheck b = s := if_pos h

theorem crystalCheck_judged (h : s.flt.crystalAt + 1000000000 ≤ s.clk.now) :
    let u := { s with flt := { s.flt with crystalAt := s.clk.now } }
    s.crystalCheck false = u.crystalLost ∧
    (s.on F.FLT_STATUS_CRYSTAL_LOST = false → s.crystalCheck true = u) ∧
    (s.on F.FLT_STATUS_CRYSTAL_LOST = true → s.flt.crystalGood < 9 →
      s.crystalCheck true = { u with flt := { u.flt with crystalGood := s.flt.crystalGood + 1 } }) ∧
    (s.on F.FLT_STATUS_CRYSTAL_LOST = true → 9 ≤ s.flt.crystalGood → s.crystalCheck true =
      (({ u with flt := { u.flt with crystalGood := 0 } }.wr F.FLT_STATUS_CRYSTAL_LOST 0).setRegN R.FLT_MON (s.regN R.FLT_MON &&& 0x1F1F))) := by
  intro u
  have hon : u.on F.FLT_STATUS_CRYSTAL_LOST = s.on F.FLT_STATUS_CRYSTAL_LOST := rfl
  have hgood : u.flt.crystalGood = s.flt.crystalGood := rfl
  have hrun : ¬ s.clk.now < s.flt.crystalAt + 1000000000 := Nat.not_lt.mpr h
  have hjudged : s.crystalCheck true = if ¬ u.on F.FLT_STATUS_CRYSTAL_LOST then u
      else if 10 ≤ u.flt.crystalGood + 1 then
        ({ u with flt := { u.flt with crystalGood := 0 } }.wr F.FLT_STATUS_CRYSTAL_LOST 0).setRegN R.FLT_MON
          (({ u with flt := { u.flt with crystalGood := 0 } } : State).regN R.FLT_MON &&& 0x1F1F)
      else { u with flt := { u.flt with crystalGood := u.flt.crystalGood + 1 } } := (if_neg hrun).trans (if_neg (by simp))
  rw [hjudged, hon, hgood]
  refine ⟨(if_neg hrun).trans (if_pos (by simp)), fun hl => if_pos (by simp [hl]), fun hl h9 => ?_, fun hl h9 => ?_⟩
  · exact (if_neg (by simp [hl])).trans (if_neg (by omega))
  · exact (if_neg (by simp [hl])).trans (if_pos (by omega))

end

end Sys2Proof.Machine
end

section
/-! PROOF. O58, clause by clause. -/

namespace Sys2Proof.Machine

/-- A unit in SLEEP whose sleep is counted. -/
theorem sleepCounted_asleep {u : State} {now : Nat} {m : Sparse Byte} (hpow : u.power = 3) (hstep : u.boot.step = 0)
    (hreq : u.wak.pwrReq = false) (hat : u.wak.sleepAt = now) (hmem : u.mem = m) (hmac : u.mac = []) (hcan : u.can = []) (hser : u.ser = []) :
    let t := (u.inc C.WAK_SLEEPS).wr F.WAK_CAUSE_FAILSAFE 0
    t.power = 3 ∧ t.boot.step = 0 ∧ t.wak.pwrReq = false ∧ t.wak.sleepAt = now ∧ t.on F.WAK_CAUSE_FAILSAFE = false ∧ t.mem = m ∧
      t.mac = [] ∧ t.can = [] ∧ t.ser = [] := by
  have hshown : ((u.inc C.WAK_SLEEPS).wr F.WAK_CAUSE_FAILSAFE 0).power = u.power :=
    (rd_wr_other _ _ _ (by decide) _ (by decide)).trans (rd_inc_ne u (by decide))
  exact ⟨hshown.trans hpow, hstep, hreq, hat, on_wr_same _ _ (by decide) rfl 0, hmem, hmac, hcan, hser⟩

/-- Settles O58, from what each command of WAK and each of its operations does. -/
theorem sleepAndWake : Obligations.SleepAndWake := by
  unfold Obligations.SleepAndWake
  intro s
  refine ⟨fun ha => ⟨?_, ?_, ?_, ?_, peerHeard_peers s, fun p => finish_live ha _⟩, fun v hw => ⟨rd_wr_same s _ (by decide) _, ?_, ?_⟩, ?_,
    ?_, ?_, ?_, ?_, commitSleep_shown s, ?_, ?_, ?_, fun v hw => finish_regLive hw _, ?_, ?_, ?_, ?_, ?_⟩
  · exact fun h => live_next ha (keepAliveTx_idle h)
  · exact fun hf hwind hp hcan hdue => live_next ha (keepAliveTx_due hf hwind hp hcan hdue)
  · refine fun hk => live_next ha ?_
    rw [State.keepAliveRx, hk]
  · intro k r hk u w v
    have hgood (h : fld k.2 15 1 = 1) := keepAliveRx_good hk h
    refine ⟨fun h => live_next ha (keepAliveRx_bad hk h), ?_⟩
    intro commits
    exact ⟨fun h hc => live_next ha ((hgood h).trans (if_neg hc)), fun h hc => live_next ha ((hgood h).trans (if_pos hc))⟩
  · intro h
    rw [← needWrite_same h]
    exact finish_regLive hw _
  · intro h
    rw [← needWrite_new h]
    exact finish_regLive hw _
  · intro t ht ha h0 hen hneed
    refine ⟨fun hle => live_next ha (minAwake_ready ht ha h0 hen hneed hle), fun hlt => finish_live_id (minAwake_early fun x hx => ?_)⟩
    obtain rfl := Option.some.inj (ht.symm.trans hx)
    exact hlt
  · exact fun h => finish_live_id (minAwake_held h)
  · exact fun h => finish_live_id (readyHold_idle h)
  · exact fun a ha => ⟨toAgreement_agreement s ha, rfl⟩
  · intro ha hd hneed
    exact ⟨fun h1 hle => live_next ha (if_pos ⟨ha, h1, hd, hneed, hle⟩), fun hlt => finish_live_id (readyHold_early hlt),
      fun h2 hle => live_next ha (if_pos ⟨ha, h2, hd, hneed, hle⟩), fun h2 => finish_live_id (if_neg fun h => h2 h.2.1)⟩
  · intro ha
    refine ⟨fun hp hb => ⟨_, live_next ha (sleepEntry_sleeps hp hb ha), ?_⟩, fun h => finish_live_id (sleepEntry_waits h)⟩
    obtain ⟨hpow, hstep, hreq, hat, hmem, hmac, hcan, hser, -⟩ := enterSleep_asleep s
    exact sleepCounted_asleep hpow hstep hreq hat hmem hmac hcan hser
  · intro c hc
    refine ⟨wakeEvent_unarmed, fun harm => ?_, latchWake_latched, fun h => latchWake_new h hc, decideWake_wakes s hc⟩
    obtain ⟨hprep, hshut, hsleep, helse⟩ := wakeEvent_cases harm
    exact ⟨hprep, hshut, fun h2 h3 => (hsleep h2 h3).trans (askWake_noteCause s c), helse⟩
  · intro hs
    refine ⟨fun us => ⟨fun h => unsilent_next hs (wakeN_held s h), fun h => unsilent_same (wakeN_short s h)⟩,
      fun p us => ⟨fun h => unsilent_next hs (signalDetect_held s p h), fun h => unsilent_same (signalDetect_short s p h)⟩,
      fun c => ⟨fun ev h => unsilent_same (canWake_unarmed s h ev),
        fun us harm hm h => unsilent_next hs (canWake_dominant harm hm h),
        fun f harm hm hfd hxl => unsilent_next hs ((canWake_frame harm (by omega) hfd hxl).trans (if_pos (.inl hm))),
        fun f harm h0 h1 hfd hxl => unsilent_next hs ((canWake_frame harm h0 hfd hxl).trans (if_congr (or_iff_right h1) rfl rfl)),
        fun harm h0 => unsilent_next hs (canWake_decodeError harm h0),
        fun f h => unsilent_same (canWake_otherFormat s c h)⟩,
      fun n => ⟨fun us hm h => unsilent_next hs (t1sWake_carrier s hm h), fun b h => unsilent_same (t1sWake_badFrame s n h),
        fun b h hm => unsilent_next hs ((t1sWake_frame s h (by omega)).trans (if_congr (or_iff_right (by omega)) rfl rfl)),
        fun b h hm => unsilent_next hs ((t1sWake_frame s h (by omega)).trans (if_pos (.inl hm)))⟩,
      fun h => ⟨unsilent_same (wakeTimer_elsewhere h), unsilent_same (dwellEnd_waits (.inl h))⟩,
      fun h ho hn ht => unsilent_next hs (wakeTimer_due h ho hn ht),
      fun t h ho ht => unsilent_next hs (wakeTimer_retry h ho ht),
      fun h hd => ⟨fun c hc => unsilent_next hs ((dwellEnd_over h hd).1 c hc), fun hn => unsilent_same ((dwellEnd_over h hd).2 hn)⟩,
      fun _ hd => unsilent_same (dwellEnd_waits (.inr hd)),
      fun h ht => unsilent_next hs (if_pos ⟨h, ht⟩),
      fun _ ht => unsilent_same (if_neg fun hgood => absurd ht (Nat.not_lt.mpr hgood.2)),
      fun _ ht => unsilent_same (supplyFail_waits (.inr ht)),
      fun h => ⟨unsilent_same (if_neg fun hgood => h hgood.1), unsilent_same (supplyFail_waits (.inl h))⟩,
      fun h ht => ⟨_, unsilent_next hs rfl, supplyFail_sleeps h ht⟩,
      fun h => unsilent_same (failsafeSleep_off h),
      fun ht hb hu => ⟨_, unsilent_next hs rfl, failsafeSleep_sleeps ht hb hu⟩,
      fun c => ⟨fun h => unsilent_same (quarantineEnd_not h), fun hold hq ht => unsilent_next hs (quarantineEnd_over hold hq ht)⟩,
      fun h => unsilent_same (throttleEnter_not h),
      fun ht hp hb => ⟨_, unsilent_next hs rfl, throttleEnter_enters ht hp hb⟩,
      fun h => unsilent_same (throttleExit_not h),
      fun ht hle => ⟨_, unsilent_next hs rfl, throttleExit_leaves ht hle⟩⟩
  · intro t ha ht
    refine ⟨fun h => finish_live_id (falseWake_not ht h), ?_, fun m h => unquarantine_unarmed h m⟩
    intro c u hj hr hw hle
    have hcounted (h2 : c ≠ 2) (h20 : c ≠ 20) := falseWake_counted ht hj hr hw hle h2 h20
    refine ⟨fun hc => live_next ha (falseWake_timer ht hj hr hw hle hc), fun h2 h20 hl => ?_, ?_⟩
    · exact live_next ha ((hcounted h2 h20).trans (if_neg fun h => h.1 hl))
    · intro h2 h20 hl w q
      exact live_next ha ((hcounted h2 h20).trans (if_congr (and_iff_right hl) rfl rfl))
  · exact fun ha ht hb => ⟨fun h => finish_live_id (throttleBottling_early h), fun t h hat hr => live_next ha (throttleBottling_recent ht hb h hat hr),
      fun h hat => live_next ha (throttleBottling_first ht hb h hat)⟩
  · exact fun mv => ⟨fun h => congrArg finish (brownOut_not h), fun h hb => ⟨_, finish_eq _, brownOut_silent h hb⟩⟩
  · exact fun h b => congrArg finish (crystalCheck_early h b)
  · intro u h
    obtain ⟨hlost, hfine, hcounts, hback⟩ := crystalCheck_judged h
    exact ⟨congrArg finish hlost, fun hl => congrArg finish (hfine hl), fun hl h9 => congrArg finish (hcounts hl h9),
      fun hl h9 => congrArg finish (hback hl h9)⟩

end Sys2Proof.Machine
end

section
/-! PROOF. Maintenance: CHALLENGE, READ, READ_BOTTLE and RESTART (15, R654 to R657). -/

namespace Sys2Proof.Machine

section
variable {s : State} {r : MaintReq} (hruns : s.runtimeActs = true) (hversion : r.version.toNat = 1)
  (hkey : s.keyFor r.slot.toNat 7 = true) (hargs : r.args = [])
include hruns hversion hkey hargs

/-- A CHALLENGE within a second of the last is answered BUSY. -/
theorem challenge_busy {t : Nat} (ht : s.eng.challengeAt = some t) (hlt : s.clk.now < t + 1000000000) :
    s.challenge r = s.maintRespond r 0 4 [] := by
  unfold State.challenge
  rw [if_neg (by simp [hruns, hversion, hkey]), if_neg (not_not.mpr hargs), ht]
  exact if_pos (.inl (decide_eq_true hlt))

/-- A CHALLENGE that is due, with a block at hand, is answered at once. -/
theorem challenge_answered (hw : s.eng.chalWait = none) (hdue : ∀ t, s.eng.challengeAt = some t → t + 1000000000 ≤ s.clk.now)
    (hheld : s.leaseHeld 24 = true) : s.challenge r =
      { s with eng := { s.eng with challengeAt := some s.clk.now, chalWait := some r } }.challengeAnswer r := by
  have hrecent : (match s.eng.challengeAt with | some t => decide (s.clk.now < t + 1000000000) | none => false) = false := by
    cases hat : s.eng.challengeAt with
    | none => rfl
    | some t => exact decide_eq_false (Nat.not_lt.mpr (hdue t hat))
  have hanswer (c : State) (hc : c.eng.chalWait = some r) (hh : c.leaseHeld 24 = true) (hr : c.runtimeActs = true) :
      (if c.leaseHeld 24 then c else c.askBlock 24).challengeGoesOn = c.challengeAnswer r := by
    rw [if_pos hh, State.challengeGoesOn, hc]
    exact if_pos ⟨hh, hr⟩
  have hfree : ¬ ((match s.eng.challengeAt with | some t => decide (s.clk.now < t + 1000000000) | none => false) = true ∨
      s.eng.chalWait.isSome = true) := by simp [hrecent, hw]
  refine (if_neg (by simp [hruns, hversion, hkey])).trans ((if_neg (not_not.mpr hargs)).trans ((if_neg hfree).trans ?_))
  exact hanswer _ rfl hheld hruns

end

section
variable (u : State) {r : MaintReq}

theorem maintRead_words (hlen : r.args.length = 6) (h0 : beNat (r.args.drop 4) ≠ 0) (h256 : beNat (r.args.drop 4) ≤ 256)
    (halign : beNat (r.args.take 4) % 4 = 0) (hall : ∀ i, i < beNat (r.args.drop 4) → readAllowed (beNat (r.args.take 4) + 4 * i) = true ∧
      region (beNat (r.args.take 4) + 4 * i) = region (beNat (r.args.take 4))) :
    u.maintRead r = u.maintRespond r 1 0 (u.readWords (beNat (r.args.take 4)) (beNat (r.args.drop 4))) := by
  have hwords : (List.range (beNat (r.args.drop 4))).all (fun i => readAllowed (beNat (r.args.take 4) + 4 * i) &&
      region (beNat (r.args.take 4) + 4 * i) == region (beNat (r.args.take 4))) = true := by
    simp only [List.all_eq_true, List.mem_range, Bool.and_eq_true, beq_iff_eq]
    exact hall
  exact (if_neg (by omega)).trans (if_neg (by simp only [hwords, halign]; simp))

theorem maintRead_denied (hlen : r.args.length = 6) (h0 : beNat (r.args.drop 4) ≠ 0) (h256 : beNat (r.args.drop 4) ≤ 256)
    (h : beNat (r.args.take 4) % 4 ≠ 0 ∨ readAllowed (beNat (r.args.take 4)) = false) : u.maintRead r = u.maintRespond r 1 1 [] := by
  refine (if_neg (by omega)).trans (if_pos (h.imp_right fun hno hall => ?_))
  have hfirst := List.all_eq_true.mp hall 0 (List.mem_range.mpr (Nat.pos_of_ne_zero h0))
  simp [hno] at hfirst

theorem maintBottle_bytes (hlen : r.args.length = 7) (hb : beNat (r.args.take 1) ≤ 3) (h0 : beNat (r.args.drop 5) ≠ 0)
    (hn : beNat (r.args.drop 5) ≤ 1024) (hend : beNat ((r.args.drop 1).take 4) + beNat (r.args.drop 5) ≤ 0x20000) :
    u.maintBottle r = u.maintRespond r 2 0
      (getBytes u.flashByte (bottleBase (beNat (r.args.take 1)) + beNat ((r.args.drop 1).take 4)) (beNat (r.args.drop 5))) :=
  if_neg (by omega)

theorem maintRestart_warm (hargs : r.args = [0]) : u.maintRestart r =
    { u.maintRespond r 0x20 0 [] with flt := { (u.maintRespond r 0x20 0 []).flt with due := 3 } } := by
  have hmode : beNat r.args = 0 := by rw [hargs]; rfl
  unfold State.maintRestart
  rw [hmode, hargs]
  exact (if_neg (by decide)).trans (if_neg fun h => absurd h.1 (by decide))

theorem maintRestart_handover (hargs : r.args = [1]) (hrole : (u.maintRespond r 0x20 0 []).role = 0)
    (hm : (u.maintRespond r 0x20 0 []).mirroring = true) : u.maintRestart r = (u.maintRespond r 0x20 0 []).beginHandover true := by
  have hmode : beNat r.args = 1 := by rw [hargs]; rfl
  unfold State.maintRestart
  rw [hmode, hargs]
  exact (if_neg (by decide)).trans (if_pos ⟨rfl, hrole, hm⟩)

end

end Sys2Proof.Machine

namespace Sys2Proof.Machine

/-- Settles O17, request by request: the two answers of a CHALLENGE, then what each accepted request answers. -/
theorem maintenanceAccess : Obligations.MaintenanceAccess := by
  unfold Obligations.MaintenanceAccess
  intro s r u
  refine ⟨fun hruns hversion hkey hargs => ⟨fun hw hdue hheld => ?_, fun t ht hlt => ?_⟩, fun h hlen h0 h256 => ⟨fun halign hall => ?_, fun hno => ?_⟩,
    fun h hlen hb h0 hn hend => ?_, fun h hargs => ?_, fun h hargs hrole hm => ?_⟩
  · exact congrArg finish (challenge_answered hruns hversion hkey hargs hw hdue hheld)
  · exact congrArg finish (challenge_busy hruns hversion hkey hargs ht hlt)
  · rw [← maintRead_words u hlen h0 h256 halign hall]
    exact finish_maint h _
  · rw [← maintRead_denied u hlen h0 h256 hno]
    exact finish_maint h _
  · rw [← maintBottle_bytes u hlen hb h0 hn hend]
    exact finish_maint h _
  · rw [← maintRestart_warm u hargs]
    exact finish_maint h _
  · rw [← maintRestart_handover u hargs hrole hm]
    exact finish_maint h _

end Sys2Proof.Machine
end

section
/-! PROOF. Faults: the cause of a fail-silence, the monitors, the restart, the cellar, the end of a bottling and the debug port (16). -/

namespace Sys2Proof.Machine

-- a register written twice with one value

theorem sput_sput {α : Type} [DecidableEq α] (d : α) (k : Nat) (v : α) : ∀ m : Sparse α, sput d k v (sput d k v m) = sput d k v m
  | [] => by by_cases hv : v = d <;> simp [sput, hv]
  | (k', v') :: r => by
    have ih := sput_sput d k v r
    by_cases hk : k' = k
    · by_cases hv : v = d
      · rw [sput, if_pos hk, if_pos hv, ih]
      · simp [sput, hk, hv]
    · by_cases hlt : k < k' ∧ v ≠ d
      · simp [sput, hk, hlt]
      · rw [sput, if_neg hk, if_neg hlt, sput, if_neg hk, if_neg hlt, ih]

theorem setRegN_setRegN (s : State) (a v : Nat) : (s.setRegN a v).setRegN a v = s.setRegN a v := by
  rw [State.setRegN, State.setRegN, State.setReg, State.setReg]
  simp only [sput_sput]

/-- Bits that are set already may be set again. -/
theorem setRegN_or_or (s : State) (a : Nat) {m : Nat} (hm : m < 2 ^ 32) :
    (s.setRegN a (s.regN a ||| m)).setRegN a ((s.setRegN a (s.regN a ||| m)).regN a ||| m) = s.setRegN a (s.regN a ||| m) := by
  have hlt : s.regN a ||| m < 2 ^ 32 := Nat.or_lt_two_pow (s.reg a).isLt hm
  rw [regN_setRegN_same, Nat.mod_eq_of_lt hlt, Nat.or_assoc, Nat.or_self, setRegN_setRegN]

-- the cause of a fail-silence (R664)

/-- A fall into silence leaves the registers above those of the channels as they are, but for the engines that run. -/
theorem regN_silenced_above (s : State) {a : Nat} (h : 0x20C00000 ≤ a) (hr : a ≠ R.ENG_RUN) : s.silenced.regN a = s.regN a := by
  have hmac (u : State) (m : Sparse MacPort) : { u with mac := m }.regN a = u.regN a := rfl
  have hpulses (u : State) : u.stopPulses.regN a = u.regN a := rfl
  have htx (u : State) : (u.setTxOn 0).regN a = u.regN a := by
    refine foldl_frame_of_mem (fun u : State => u.regN a) (fun v p hp => regN_wr_ne v _ ?_ 0) u
    have := List.mem_range.mp hp
    simp only [R.MAC_STATUS]
    omega
  have hchannels (u : State) : u.stopChannels.regN a = u.regN a := by
    refine (foldl_frame_of_mem (fun u : State => u.regN a) (fun v n hn => ?_) _).trans
      ((foldl_frame_of_mem (fun u : State => u.regN a) (fun v n hn => ?_) _).trans
        (foldl_frame_of_mem (fun u : State => u.regN a) (fun v n hn => regN_setRegN_ne v ?_ _) _)) <;> have hlt := List.mem_range.mp hn
    · have hne : a ≠ R.AUD_TDM_STATUS n := by simp only [R.AUD_TDM_STATUS]; omega
      exact (regN_wr_ne _ _ hne _).trans (regN_wr_ne _ _ hne _)
    · have hne : a ≠ R.SER_STATUS n := by simp only [R.SER_STATUS]; omega
      exact (regN_wr_ne _ _ hne _).trans (regN_wr_ne _ _ hne _)
    · simp only [R.CAN_TB_STATUS]
      omega
  rw [State.silenced, hchannels, hpulses, State.stopMacs, hmac, htx]
  exact regN_wr_ne _ _ hr 0

theorem cellarRecord_cause (s : State) : s.cellarRecord.rd F.FLT_STATUS_LAST_FS_CAUSE = s.rd F.FLT_STATUS_LAST_FS_CAUSE := by
  have hwrite (u : State) (a : Nat) (l : List Byte) (f : Flt) (n : Nat) :
      (({ u.store a l with flt := f }.wr F.FLT_CELLAR_HEAD_NEXT n).inc C.FLT_CELLAR_RECORDS).rd F.FLT_STATUS_LAST_FS_CAUSE =
        u.rd F.FLT_STATUS_LAST_FS_CAUSE := (rd_inc_ne _ (by decide)).trans (rd_wr_other _ _ _ (by decide) _ (by decide))
  unfold State.cellarRecord
  split
  · rfl
  · dsimp only
    split
    · rfl
    · split
      · exact rd_inc_ne _ (by decide)
      · exact hwrite _ _ _ _ _

theorem beginBottling_cause (s : State) (reason : Nat) :
    (s.beginBottling reason).rd F.FLT_STATUS_LAST_FS_CAUSE = s.rd F.FLT_STATUS_LAST_FS_CAUSE := by
  have hflush : s.flushCellar.rd F.FLT_STATUS_LAST_FS_CAUSE = s.rd F.FLT_STATUS_LAST_FS_CAUSE :=
    foldl_frame (fun u : State => u.rd F.FLT_STATUS_LAST_FS_CAUSE) (fun u _ => cellarRecord_cause u) _ s
  unfold State.beginBottling
  split
  · split <;> rfl
  · exact (rd_wr_other _ _ _ (by decide) _ (by decide)).trans hflush

/-- The first cause of a fail-silence is kept. -/
theorem failSilent_first {s : State} {cause : Nat} (data : Nat) (hc : cause < 16) (h : s.flt.silent = false) :
    (s.failSilent cause data).rd F.FLT_STATUS_LAST_FS_CAUSE = cause := by
  have hraise (u : State) : (u.raiseFull 0 0x1101 0 3 data 0 true).rd F.FLT_STATUS_LAST_FS_CAUSE = u.rd F.FLT_STATUS_LAST_FS_CAUSE :=
    rd_of_regN (regN_raiseFull_ne _ _ _ _ _ _ _ _ fun f hf => by cases hf; decide)
  have hshown (u : State) : (((u.wr F.FLT_STATUS_LAST_FS_CAUSE cause).setRegN R.FLT_FS_DATA data).silenced.inc C.FLT_FAIL_SILENCES).rd
      F.FLT_STATUS_LAST_FS_CAUSE = cause := by
    rw [rd_inc_ne _ (by decide), rd_of_regN (regN_silenced_above _ (by decide) (by decide)), rd_setRegN_ne _ (by decide),
      rd_wr_same _ _ (by decide)]
    exact Nat.mod_eq_of_lt hc
  unfold State.failSilent
  rw [if_neg (by simp [h])]
  dsimp only
  split
  · exact (hraise _).trans (hshown _)
  · exact (beginBottling_cause _ 1).trans ((hraise _).trans (hshown _))

/-- A further detection leaves the cause, its data and the ports as they are. -/
theorem failSilent_further {s : State} (cause data : Nat) (h : s.flt.silent = true) :
    (s.failSilent cause data).rd F.FLT_STATUS_LAST_FS_CAUSE = s.rd F.FLT_STATUS_LAST_FS_CAUSE ∧
      (s.failSilent cause data).regN R.FLT_FS_DATA = s.regN R.FLT_FS_DATA ∧ (s.failSilent cause data).mac = s.mac := by
  unfold State.failSilent
  rw [if_pos h]
  exact ⟨rd_of_regN (regN_raiseFull_ne _ _ _ _ _ _ _ _ fun f hf => by cases hf; decide),
    regN_raiseFull_ne _ _ _ _ _ _ _ _ fun f hf => by cases hf; decide, raiseFull_mac ..⟩

-- the monitors (R629, R663, R675, R676)

section
variable {s : State}

theorem lockstep_dead (h : s.alive = false) (e : Nat) : s.lockstep e = s := if_neg fun hl => by simp [h] at hl

theorem backgroundScrub_runs (ha : s.alive = true) (place : Option EccPlace) (c : Bool) : s.backgroundScrub place c =
    match place with
    | none => s.inc C.FLT_SCRUB_PASSES
    | some p =>
      if c then (s.inc C.FLT_ECC_CORRECTED).detect 0 (eccBlock p)
      else
        match p with
        | .cellData c => ((s.inc C.FLT_ECC_UNCORR).cellLost c.toNat).detect 1 (eccBlock p)
        | .keySlot k => ((s.inc C.FLT_ECC_UNCORR).keyEccLost k.toNat).detect 1 (eccBlock p)
        | .canRing n r i => ((s.inc C.FLT_ECC_UNCORR).ringLost n.val r.val i).detect 1 (eccBlock p)
        | .other b w => s.eccFatal b.toNat w.toNat := by
  obtain ⟨-, hstep⟩ : s.flt.silent = false ∧ 3 ≤ s.boot.step := by simpa [State.alive] using ha
  refine (if_neg (by omega)).trans ?_
  cases place with
  | none => rfl
  | some p => cases p <;> rfl

theorem supplyMonitor_low (hb : s.boot.step ≠ 0) : s.supplyMonitor 0 false = s.throttleEnter :=
  (if_neg (by decide)).trans ((if_neg hb).trans (if_pos (by decide)))

theorem supplyMonitor_out (hb : s.boot.step ≠ 0) {rail : Nat} {h : Bool} (h0 : ¬ (rail = 0 ∧ h = false)) (h4 : ¬ (rail = 4 ∧ h = false)) :
    s.supplyMonitor rail h = (s.setRegN R.FLT_MON (s.regN R.FLT_MON ||| 2 ^ (8 + rail))).failSilent 3 rail := by
  have hrange {n : Nat} (hn : ¬ (rail = n ∧ h = false)) : ¬ (rail = n ∧ ¬ h = true) := fun ⟨e, hh⟩ => hn ⟨e, Bool.eq_false_iff.mpr hh⟩
  exact (if_neg (hrange h4)).trans ((if_neg hb).trans (if_neg (hrange h0)))

theorem clockMonitor_out (hb : 3 ≤ s.boot.step) {c : Nat} (hc : c ≠ 5) :
    s.clockMonitor c = (s.setRegN R.FLT_MON (s.regN R.FLT_MON ||| 2 ^ c)).failSilent 2 c :=
  (if_neg hc).trans (if_neg (by omega))

theorem clockMonitor_crystal (s : State) : s.clockMonitor 5 = (s.setRegN R.FLT_MON (s.regN R.FLT_MON ||| 32)).crystalLost := by
  rw [State.clockMonitor, if_pos rfl, State.crystalLost, State.crystalLost, setRegN_or_or s R.FLT_MON (by decide)]
  rfl

-- the restart (R668 to R670)

theorem faultRestart_never (b : Bool) (h : s.flt.silent = false ∨ s.flt.halted = true ∨ s.rd F.FLT_STATUS_LAST_FS_CAUSE = 10 ∨
    s.flt.dbgStage ≠ 0) : s.faultRestart b = s := by
  refine if_pos ?_
  rcases h with h | h | h | h
  · exact .inl (by simp [h])
  · exact .inr (.inl h)
  · exact .inr (.inr (.inl h))
  · exact .inr (.inr (.inr (.inl h)))

theorem faultRestart_early (b : Bool) (h : if s.rd F.FLT_STATUS_LAST_FS_CAUSE = 11 then s.clk.now < s.flt.silentAt + 1000000
    else s.flt.bottling.isSome = true ∧ s.clk.now < s.flt.silentAt + 200000000) : s.faultRestart b = s := by
  refine if_pos (.inr (.inr (.inr (.inr ?_))))
  split at h
  · next hc =>
    rw [if_pos hc]
    exact fun hle => absurd (of_decide_eq_true hle) (Nat.not_le.mpr h)
  · next hc =>
    obtain ⟨hb, ht⟩ := h
    rw [if_neg hc, Option.isNone_eq_false_iff.mpr hb]
    simpa using ht

theorem faultRestart_due (b : Bool) (hs : s.flt.silent = true) (hh : s.flt.halted = false) (hc : s.rd F.FLT_STATUS_LAST_FS_CAUSE ≠ 10)
    (hd : s.flt.dbgStage = 0) (h : if s.rd F.FLT_STATUS_LAST_FS_CAUSE = 11 then s.flt.silentAt + 1000000 ≤ s.clk.now
      else s.flt.bottling = none ∨ s.flt.silentAt + 200000000 ≤ s.clk.now) :
    s.faultRestart b = ({ s with flt := { s.flt with restarts := s.aonSeconds :: s.flt.restarts } }).afterReset 3 b := by
  have hended : (if s.rd F.FLT_STATUS_LAST_FS_CAUSE = 11 then decide (s.flt.silentAt + recoveryNs ≤ s.clk.now)
      else s.flt.bottling.isNone || decide (s.flt.silentAt + 200000000 ≤ s.clk.now)) = true := by
    split at h
    · next h11 =>
      rw [if_pos h11]
      exact decide_eq_true h
    · next h11 =>
      rw [if_neg h11]
      simpa using h
  exact if_neg (by simp only [hs, hh, hc, hd, hended]; simp)

-- the cellar (R678 to R680)

theorem cellarRecord_empty (h : s.fltq = []) : s.cellarRecord = s := by rw [State.cellarRecord, h]

theorem cellarRecord_cons {ev : Ev} {r : List Ev} (h : s.fltq = ev :: r) : s.cellarRecord =
    if s.recorded ev = true then
      if ev.cls < 2 ∧ s.recentRecord ev.code = true then { s with fltq := r }.inc C.FLT_CELLAR_SUPPRESSED
      else { s with fltq := r }.writeRecord ev
    else { s with fltq := r } := by
  unfold State.cellarRecord
  rw [h]
  exact ite_not ..

/-- A record is written at NEXT alone, which advances. -/
theorem writeRecord_next (u : State) (ev : Ev) :
    (u.writeRecord ev).rd F.FLT_CELLAR_HEAD_NEXT = (u.rd F.FLT_CELLAR_HEAD_NEXT + 1) % 4096 ∧
    ∀ a, a < 0x18000000 + u.rd F.FLT_CELLAR_HEAD_NEXT * 32 ∨ 0x18000000 + u.rd F.FLT_CELLAR_HEAD_NEXT * 32 + 32 ≤ a →
      (u.writeRecord ev).byte a = u.byte a := by
  refine ⟨(rd_inc_ne _ (by decide)).trans (rd_wr_same _ _ (by decide) _), fun a ha => ?_⟩
  have hmem (v : State) (f : Flt) (n : Nat) : (({ v with flt := f }.wr F.FLT_CELLAR_HEAD_NEXT n).inc C.FLT_CELLAR_RECORDS).byte a = v.byte a := rfl
  refine (hmem _ _ _).trans (byte_store_outside _ _ _ ?_)
  simp only [List.flatMap_cons, List.flatMap_nil, List.length_append, length_leBytes, List.length_nil]
  exact ha

-- the end of a bottling (R683, R688)

theorem bottled_idle (h : s.flt.bottling = none) (ok : Bool) : s.bottled ok = s := by rw [State.bottled, h]

/-- A bottle that the flash holds is shown and counted. -/
def State.showBottle (s : State) (b : Bottling) (valid : Nat) : State :=
  let s := ((s.wr F.FLT_BOTTLE_REASON b.reason).wr F.FLT_BOTTLE_LAST b.bottle).wr F.FLT_BOTTLE_VALID valid
  ((s.setRegN R.FLT_BOTTLE_SEQ b.seq).inc C.FLT_BOTTLES).raise 0x1104 0

theorem showBottle_rest (u : State) (b : Bottling) (v : Nat) :
    (u.showBottle b v).flt = u.flt ∧ (u.showBottle b v).flash = u.flash ∧ (u.showBottle b v).mem = u.mem :=
  ⟨raise_flt .., raise_flash .., raise_mem ..⟩

theorem bottled_written {b : Bottling} (h : s.flt.bottling = some b) :
    let u := ({ s with flt := { s.flt with bottling := none } }.wr F.FLT_STATUS_BOTTLING 0).keepThrottles
    (s.bottled true).flt.bottling = none ∧ (s.bottled true).flash = (u.program (bottleBase b.bottle) (u.bottleBytes b)).flash ∧
      (s.bottled true).mem = s.mem := by
  intro u
  have he : s.bottled true = (u.program (bottleBase b.bottle) (u.bottleBytes b)).showBottle b (u.rd F.FLT_BOTTLE_VALID ||| 2 ^ b.bottle) := by
    unfold State.bottled
    rw [h]
    exact if_pos rfl
  obtain ⟨hflt, hflash, hmem⟩ := showBottle_rest (u.program (bottleBase b.bottle) (u.bottleBytes b)) b (u.rd F.FLT_BOTTLE_VALID ||| 2 ^ b.bottle)
  rw [he, hflt, hflash, hmem, program_flt, program_mem]
  exact ⟨rfl, rfl, rfl⟩

theorem bottled_failed {b : Bottling} (h : s.flt.bottling = some b) :
    (s.bottled false).flt.bottling = none ∧ (s.bottled false).flash = s.flash ∧ (s.bottled false).mem = s.mem := by
  have hend (v : State) (n : Nat) : (((v.wr F.FLT_BOTTLE_VALID n).inc C.FLT_BOTTLE_FAILS).raise 0x1105 0).flt = v.flt ∧
      (((v.wr F.FLT_BOTTLE_VALID n).inc C.FLT_BOTTLE_FAILS).raise 0x1105 0).flash = v.flash ∧
      (((v.wr F.FLT_BOTTLE_VALID n).inc C.FLT_BOTTLE_FAILS).raise 0x1105 0).mem = v.mem := ⟨raise_flt .., raise_flash .., raise_mem ..⟩
  have hbegin (f : Flt) : let u := ({ s with flt := f }.wr F.FLT_STATUS_BOTTLING 0).keepThrottles
      u.flt = f ∧ u.flash = s.flash ∧ u.mem = s.mem := ⟨rfl, rfl, rfl⟩
  unfold State.bottled
  rw [h]
  dsimp only
  rw [if_neg Bool.false_ne_true]
  obtain ⟨hf, hflash, hmem⟩ := hend (({ s with flt := { s.flt with bottling := none } }.wr F.FLT_STATUS_BOTTLING 0).keepThrottles) _
  obtain ⟨hf', hflash', hmem'⟩ := hbegin { s.flt with bottling := none }
  exact ⟨(congrArg Flt.bottling (hf.trans hf')), hflash.trans hflash', hmem.trans hmem'⟩

-- the debug port (R690 to R692)

theorem job_flt (u : State) (k : Nat) : (u.job k).flt = u.flt := by
  unfold State.job
  dsimp only
  split <;> rfl

theorem eraseKey_rest (u : State) (k : Nat) : (u.eraseKey k).flt = u.flt ∧ (u.eraseKey k).cph.jobs = u.cph.jobs := by
  have hset (v : State) (n : Nat) (x : Key) : (v.setKey n x).flt = v.flt ∧ (v.setKey n x).cph.jobs = v.cph.jobs := ⟨rfl, rfl⟩
  obtain ⟨-, hjobs, -⟩ := retireKey_kept u k false
  have hflt : (u.retireKey k false).flt = u.flt := by
    rw [State.retireKey]
    extract_lets
    split
    · rfl
    · split <;> rfl
  exact ⟨((hset _ _ _).1).trans hflt, ((hset _ _ _).2).trans hjobs⟩

/-- Every slot that is erased in turn is empty. -/
theorem eraseKeys_empty (n : Nat) (u : State) : ∀ k, k < n → (((List.range n).foldl (fun s k => s.eraseKey k) u).key k).loaded = false := by
  induction n with
  | zero => exact fun k hk => absurd hk (Nat.not_lt_zero k)
  | succ n ih =>
    intro k hk
    rw [List.range_succ, List.foldl_append, List.foldl_cons, List.foldl_nil, key_eraseKey]
    split
    · rfl
    · exact ih k (by omega)

/-- Zeroisation leaves no job and no key. -/
theorem zeroise_empty (u : State) : u.zeroise.flt.silent = u.flt.silent ∧ u.zeroise.cph.jobs = [] ∧
    ∀ k, k < 256 → (u.zeroise.key k).loaded = false := by
  have hend (v : State) (j : Job) (n : Nat) : (((v.endDescriptor j.ring j.idx (some j.gen) 7).job 7).wr (F.CPH_RING_GET_GET j.ring) n).flt = v.flt :=
    (wr_flt _ _ _).trans (job_flt _ _)
  have hset (v : State) (n : Nat) (c : Cph) : ((v.add C.CPH_KEY_DESTROYED n).setCph c).flt = v.flt ∧
      ((v.add C.CPH_KEY_DESTROYED n).setCph c).cph = c := ⟨rfl, rfl⟩
  have hflt (l : List Nat) (v : State) : (l.foldl (fun s k => s.eraseKey k) v).flt = v.flt :=
    foldl_frame State.flt (fun x k => (eraseKey_rest x k).1) l v
  have hjobs (l : List Nat) (v : State) : (l.foldl (fun s k => s.eraseKey k) v).cph.jobs = v.cph.jobs :=
    foldl_frame (fun x : State => x.cph.jobs) (fun x k => (eraseKey_rest x k).2) l v
  have hlast (v : State) : let w := { v with flt := { v.flt with kekBlocked := true } };
      w.flt.silent = v.flt.silent ∧ w.cph = v.cph ∧ ∀ k, w.key k = v.key k := ⟨rfl, rfl, fun _ => rfl⟩
  unfold State.zeroise
  extract_lets a q b c f
  have ha : a.flt = u.flt := foldl_frame State.flt (fun x (j : Job) => hend x j _) _ u
  have hb : b.flt = a.flt := (hset a _ _).1
  have hcph : b.cph.jobs = [] := congrArg Cph.jobs (hset a a.cph.old.length { a.cph with jobs := [], old := [] }).2
  have hc : c.flt = b.flt ∧ c.cph.jobs = b.cph.jobs := ⟨hflt _ b, hjobs _ b⟩
  have hkeys : ∀ k, k < 256 → (c.key k).loaded = false := eraseKeys_empty 256 b
  clear_value c
  obtain ⟨hsilent, hjob, hkey⟩ := hlast c
  refine ⟨hsilent.trans (congrArg Flt.silent (hc.1.trans (hb.trans ha))), (congrArg Cph.jobs hjob).trans (hc.2.trans hcph), fun k hk => ?_⟩
  rw [hkey]
  exact hkeys k hk

theorem debugOpen_other {code : Nat} (h : code ≠ 0x0DB6) : s.debugOpen code = s := if_pos (.inl h)

section
variable (hd : s.flt.dbgStage = 0) (hb : 3 ≤ s.boot.step)
include hd hb

theorem debugOpen_refused (h : s.otp.debugLock = true ∨ s.on F.FLT_DBG_CTRL_ALLOW_OPEN = false) :
    s.debugOpen 0x0DB6 = (s.inc C.FLT_DEBUG_REFUSED).raiseMust 0x1107 0 0 0 0 :=
  (if_neg (by simp [hd]; omega)).trans (if_pos (h.imp id (by simp)))

theorem debugOpen_opens (hl : s.otp.debugLock = false) (ho : s.on F.FLT_DBG_CTRL_ALLOW_OPEN = true) :
    (s.debugOpen 0x0DB6).flt.silent = true ∧ (s.debugOpen 0x0DB6).flt.dbgStage = 1 ∧ (s.debugOpen 0x0DB6).qlb.key = none ∧
      (s.debugOpen 0x0DB6).cph.jobs = [] ∧ ∀ k, k < 256 → ((s.debugOpen 0x0DB6).key k).loaded = false := by
  have he : s.debugOpen 0x0DB6 = { (s.failSilent 10 0).zeroise with
      flt := { (s.failSilent 10 0).zeroise.flt with dbgStage := 1 }, qlb := { (s.failSilent 10 0).zeroise.qlb with key := none } } :=
    (if_neg (by simp [hd]; omega)).trans (if_neg (by simp [hl, ho]))
  have hshown (v : State) : let w := { v with flt := { v.flt with dbgStage := 1 }, qlb := { v.qlb with key := none } }
      w.flt.silent = v.flt.silent ∧ w.flt.dbgStage = 1 ∧ w.qlb.key = none ∧ w.cph = v.cph ∧ ∀ k, w.key k = v.key k :=
    ⟨rfl, rfl, rfl, rfl, fun _ => rfl⟩
  obtain ⟨hsilent, hjobs, hkeys⟩ := zeroise_empty (s.failSilent 10 0)
  obtain ⟨hs, hstage, hkey, hcph, hk⟩ := hshown (s.failSilent 10 0).zeroise
  rw [he]
  refine ⟨(hs.trans hsilent).trans (failSilent_silent _ _ _), hstage, hkey, (congrArg Cph.jobs hcph).trans hjobs, fun k hlt => ?_⟩
  rw [hk]
  exact hkeys k hlt

end

theorem zeroisationDone_not (h : s.flt.dbgStage ≠ 1) (ok : Bool) : s.zeroisationDone ok = s := if_pos h

theorem zeroisationDone_opens (h : s.flt.dbgStage = 1) :
    (s.zeroisationDone true).flt.dbgStage = 2 ∧ (s.zeroisationDone true).on F.FLT_STATUS_DBG_OPEN = true := by
  have he : s.zeroisationDone true = (({ s with flt := { s.flt with dbgStage := 2 } }).raiseMust 0x1108 0 0 0 0).wr F.FLT_STATUS_DBG_OPEN 1 :=
    (if_neg (not_not.mpr h)).trans (if_pos rfl)
  have hflt (v : State) : (v.raiseMust 0x1108 0 0 0 0).flt = v.flt := raiseFull_flt ..
  rw [he, wr_flt, hflt]
  exact ⟨rfl, on_wr_same _ _ (by decide) rfl 1⟩

theorem zeroisationDone_failed (h : s.flt.dbgStage = 1) :
    (s.zeroisationDone false).flt.dbgStage = 3 ∧ (s.zeroisationDone false).on F.FLT_STATUS_DBG_OPEN = s.on F.FLT_STATUS_DBG_OPEN := by
  have he : s.zeroisationDone false = _ := (if_neg (not_not.mpr h)).trans (if_neg Bool.false_ne_true)
  rw [he]
  exact ⟨rfl, rfl⟩

-- the temperature (R752)

theorem devTemp_early {t : Nat} {a : Nat} (h : s.boot.tempAt = some a) (hlt : s.clk.now < a + 1000000) : s.devTemp t = s := by
  unfold State.devTemp
  rw [h]
  exact if_pos (decide_eq_true hlt)

theorem devTemp_read {t : Nat} (ht : t < 2 ^ 16) (h : ∀ a, s.boot.tempAt = some a → a + 1000000 ≤ s.clk.now) :
    (s.devTemp t).rd F.DEV_TEMP_TEMP = t ∧ (s.devTemp t).rd F.DEV_TEMP_MAX =
      if s.rd F.DEV_TEMP_MAX = 0x8000 ∨ sgn 16 (s.rd F.DEV_TEMP_MAX) < sgn 16 t then t else s.rd F.DEV_TEMP_MAX := by
  have hmax : s.rd F.DEV_TEMP_MAX < 2 ^ 16 := bits_lt _ _ _
  have hshown (b : Boot) (m : Nat) (hm : m < 2 ^ 16) : let u := ({ s with boot := b }.wr F.DEV_TEMP_TEMP t).wr F.DEV_TEMP_MAX m
      u.rd F.DEV_TEMP_TEMP = t ∧ u.rd F.DEV_TEMP_MAX = m :=
    ⟨(rd_wr_other _ _ _ (by decide) _ (by decide)).trans ((rd_wr_same _ _ (by decide) t).trans (Nat.mod_eq_of_lt ht)),
      (rd_wr_same _ _ (by decide) m).trans (Nat.mod_eq_of_lt hm)⟩
  have hearly : ¬ (match s.boot.tempAt with | some a => decide (s.clk.now < a + 1000000) | none => false) = true := by
    cases hat : s.boot.tempAt with
    | none => exact Bool.false_ne_true
    | some a => simpa using h a hat
  have he : s.devTemp t = _ := if_neg hearly
  rw [he]
  exact hshown _ _ (by split <;> assumption)

end

end Sys2Proof.Machine
end

section
/-! PROOF. The harvest and the slot counters (17). -/

namespace Sys2Proof.Machine

-- the sweeps (R702 to R708)

section
variable {s : State}

theorem harvestSweep_not (h : s.forwarding = false ∨ s.rd F.CNT_HARVEST_PERIOD = 0 ∨ s.clk.now < s.cnt.nextAt ∨ s.cnt.run.isSome = true) :
    s.harvestSweep = s := if_pos (h.imp (by simp) id)

theorem harvestSweep_due (hf : s.forwarding = true) (hp : s.rd F.CNT_HARVEST_PERIOD ≠ 0) (ht : s.cnt.nextAt ≤ s.clk.now)
    (hr : s.cnt.run = none) : s.harvestSweep =
      (s.setCnt { s.cnt with nextAt := s.cnt.nextAt + s.rd F.CNT_HARVEST_PERIOD * 1000000 }).startSweep false :=
  if_neg (by simp [hf, hp, hr]; omega)

/-- The period that a write of CNT_HARVEST sets. -/
theorem period_written (s : State) (v : Nat) : (s.wr F.CNT_HARVEST_PERIOD (v % 65536)).rd F.CNT_HARVEST_PERIOD = v % 65536 :=
  (rd_wr_same s _ (by decide) _).trans (Nat.mod_mod v 65536)

theorem harvestPeriodWrite_eq (s : State) (n : Nat) : s.harvestPeriodWrite n = (s.wr F.CNT_HARVEST_PERIOD n).setCnt
    { s.cnt with nextAt := s.clk.now + (s.wr F.CNT_HARVEST_PERIOD n).rd F.CNT_HARVEST_PERIOD * 1000000 } := by
  rw [State.harvestPeriodWrite, wr_clk, wr_cnt]

theorem harvestStart_alive (ha : s.alive = true) (v : Nat) :
    s.harvestStart v = if v.testBit 31 = true ∧ s.cnt.run = none then s.startSweep true else s := by
  rw [State.harvestStart, ha]
  simp only [true_and]

/-- A write of CNT_HARVEST sets the period, and with START a sweep starts when none runs. -/
theorem harvestWrite_eq (ha : s.alive = true) (v : Nat) :
    let w := s.wr F.CNT_HARVEST_PERIOD (v % 65536)
    let u := w.setCnt { w.cnt with nextAt := s.clk.now + v % 65536 * 1000000 }
    s.harvestWrite v = if v.testBit 31 = true ∧ s.cnt.run = none then u.startSweep true else u := by
  intro w u
  have hkept (f : Fld) (n : Nat) (c : Cnt) (hc : c.run = s.cnt.run) : ((s.wr f n).setCnt c).alive = s.alive ∧
      ((s.wr f n).setCnt c).cnt.run = s.cnt.run := ⟨rfl, hc⟩
  have hperiod : s.harvestPeriodWrite (v % 65536) = u := by rw [harvestPeriodWrite_eq, period_written, ← wr_cnt s F.CNT_HARVEST_PERIOD (v % 65536)]
  obtain ⟨halive, hrun⟩ := hkept F.CNT_HARVEST_PERIOD (v % 65536) { w.cnt with nextAt := s.clk.now + v % 65536 * 1000000 } rfl
  rw [State.harvestWrite, hperiod, harvestStart_alive (halive.trans ha), hrun]

theorem captureSlots_kept (s : State) (r : Sweep) (l : List (Nat × List Slot)) : (s.captureSlots r l).n = r.n ∧
    (s.captureSlots r l).manual = r.manual ∧ (s.captureSlots r l).base = r.base ∧ (s.captureSlots r l).groups = r.groups + l.length := by
  induction l generalizing r with
  | nil => exact ⟨rfl, rfl, rfl, rfl⟩
  | cons g l ih =>
    obtain ⟨hn, hm, hb, hg⟩ := ih { r with slots := r.slots ++ g.2.map s.slotValue, groups := r.groups + 1,
                                           offs := if g.1 = r.offs.length then r.offs ++ [s.clk.now - r.at_] else r.offs }
    exact ⟨hn, hm, hb, hg.trans (Nat.succ_add_eq_add_succ r.groups l.length)⟩

/-- The catalogue of the harvest is not empty. -/
theorem harvestGroups_first : (harvestGroups.take 1).length = 1 := by decide +kernel

theorem startSweep_runs (m : Bool) (h : sweepBase (s.regN R.CNT_HARVEST_BASE) = true) :
    ∃ r, (s.startSweep m).cnt.run = some r ∧ r.manual = m ∧ r.n = s.cnt.count ∧ r.groups = 1 := by
  have hstarted (u : State) (r : Sweep) (hr : r.manual = m ∧ r.n = s.cnt.count ∧ r.groups = 0) :
      ∃ x, ((u.setCnt { u.cnt with run := some (u.captureSlots r (harvestGroups.take 1)) }).wr F.CNT_HARVEST_STATUS_BUSY 1).cnt.run = some x ∧
        x.manual = m ∧ x.n = s.cnt.count ∧ x.groups = 1 := by
    obtain ⟨hn, hm, -, hg⟩ := captureSlots_kept u r (harvestGroups.take 1)
    exact ⟨_, rfl, hm.trans hr.1, hn.trans hr.2.1, hg.trans (by rw [hr.2.2, harvestGroups_first])⟩
  unfold State.startSweep
  dsimp only
  rw [if_pos h]
  exact hstarted _ _ ⟨rfl, rfl, rfl⟩

theorem startSweep_bad (m : Bool) (h : sweepBase (s.regN R.CNT_HARVEST_BASE) = false) :
    (s.startSweep m).cnt.run = s.cnt.run ∧ (s.startSweep m).mem = s.mem ∧ (s.startSweep m).on F.CNT_HARVEST_STATUS_BASE_ERR = true := by
  have hbad (u : State) : ((u.wr F.CNT_HARVEST_STATUS_BASE_ERR 1).raise 0x1201 0).cnt = u.cnt ∧
      ((u.wr F.CNT_HARVEST_STATUS_BASE_ERR 1).raise 0x1201 0).mem = u.mem ∧
      ((u.wr F.CNT_HARVEST_STATUS_BASE_ERR 1).raise 0x1201 0).on F.CNT_HARVEST_STATUS_BASE_ERR = true := by
    refine ⟨raise_cnt .., raise_mem .., ?_⟩
    rw [State.on, rd_raise_ne _ _ _ fun f hf => by cases hf; decide]
    exact on_wr_same u _ (by decide) rfl 1
  have he : s.startSweep m = ((s.setCnt { s.cnt with count := (s.cnt.count + 1) % 2 ^ 32 }).wr F.CNT_HARVEST_STATUS_BASE_ERR 1).raise 0x1201 0 :=
    if_neg (by simp [h])
  obtain ⟨hcnt, hmem, hon⟩ := hbad (s.setCnt { s.cnt with count := (s.cnt.count + 1) % 2 ^ 32 })
  rw [he, hcnt, hmem]
  exact ⟨rfl, rfl, hon⟩

theorem sweepCycle_running {r : Sweep} (h : s.cnt.run = some r) :
    s.sweepCycle = s.setCnt { s.cnt with run := some (s.captureSlots r ((harvestGroups.drop r.groups).take 1)) } := by
  rw [State.sweepCycle, h]

theorem sweepComplete_idle (h : s.cnt.run = none) : s.sweepComplete = s := by rw [State.sweepComplete, h]

/-- What the end of a sweep shows: its bank, its duration and its number. -/
def State.sweepShown (s : State) (r : Sweep) (dur : Nat) : State :=
  let s := (s.writeBank r).wr F.CNT_HARVEST_STATUS_BASE_ERR 0
  let s := (s.wr F.CNT_HARVEST_STATUS_LAST_BANK (r.n % 2)).wr F.CNT_HARVEST_STATUS_DURATION dur
  s.setRegN R.CNT_HARVEST_SWEEP r.n

theorem sweepShown_end (u : State) (r : Sweep) (dur : Nat) (hr : r.n < 2 ^ 32) : (u.sweepShown r dur).cnt = u.cnt ∧
    (u.sweepShown r dur).regN R.CNT_HARVEST_SWEEP = r.n ∧ (u.sweepShown r dur).rd F.CNT_HARVEST_STATUS_LAST_BANK = r.n % 2 ∧
    (u.sweepShown r dur).word (sweepBank r + 0xADF8) = r.n := by
  have hbank : (u.writeBank r).cnt = u.cnt := by rw [State.writeBank, storeWord_cnt, State.writeHeader, store_cnt, store_cnt]
  have hcnt (v : State) (a b : Nat) : ((((v.wr F.CNT_HARVEST_STATUS_BASE_ERR 0).wr F.CNT_HARVEST_STATUS_LAST_BANK a).wr
      F.CNT_HARVEST_STATUS_DURATION dur).setRegN R.CNT_HARVEST_SWEEP b).cnt = v.cnt := rfl
  have hword (v : State) (a b : Nat) : ((((v.wr F.CNT_HARVEST_STATUS_BASE_ERR 0).wr F.CNT_HARVEST_STATUS_LAST_BANK a).wr
      F.CNT_HARVEST_STATUS_DURATION dur).setRegN R.CNT_HARVEST_SWEEP b).word = v.word := rfl
  refine ⟨(hcnt _ _ _).trans hbank, (regN_setRegN_same ..).trans (Nat.mod_eq_of_lt hr), ?_, ?_⟩
  · refine (rd_setRegN_ne _ (by decide) _).trans ((rd_wr_other _ _ _ (by decide) _ (by decide)).trans ?_)
    exact (rd_wr_same _ _ (by decide) _).trans (Nat.mod_mod r.n 2)
  · refine (congrFun (hword _ _ _) _).trans ?_
    exact (word_storeWord_same _ (sweepBank r + 0xADF8) r.n).trans (Nat.mod_eq_of_lt hr)

/-- A sweep ends with its number in SWEEP and in SWEEP_END of its bank. -/
theorem sweepComplete_ends {r : Sweep} (ha : s.alive = true) (h : s.cnt.run = some r) (hr : r.n < 2 ^ 32) :
    s.sweepComplete.cnt.run = none ∧ s.sweepComplete.regN R.CNT_HARVEST_SWEEP = r.n ∧
      s.sweepComplete.rd F.CNT_HARVEST_STATUS_LAST_BANK = r.n % 2 ∧ s.sweepComplete.word (sweepBank r + 0xADF8) = r.n := by
  obtain ⟨hn, -, hb, -⟩ := captureSlots_kept s r (harvestGroups.drop r.groups)
  have hbank : sweepBank (s.captureSlots r (harvestGroups.drop r.groups)) = sweepBank r := by rw [sweepBank, sweepBank, hn, hb]
  have he : ∃ dur, s.sweepComplete = ((s.setCnt { s.cnt with run := none }).wr F.CNT_HARVEST_STATUS_BUSY 0).sweepShown
      (s.captureSlots r (harvestGroups.drop r.groups)) dur := by
    unfold State.sweepComplete
    rw [h]
    exact ⟨_, if_neg (not_not.mpr ha)⟩
  obtain ⟨dur, he⟩ := he
  obtain ⟨hcnt, hsweep, hlast, hend⟩ := sweepShown_end ((s.setCnt { s.cnt with run := none }).wr F.CNT_HARVEST_STATUS_BUSY 0) _ dur
    (hn.symm ▸ hr : (s.captureSlots r (harvestGroups.drop r.groups)).n < 2 ^ 32)
  rw [hbank] at hend
  rw [he, hcnt, hsweep, hlast, hend, hn]
  exact ⟨rfl, rfl, rfl, rfl⟩

end

-- the slot counters (R714 to R717)

/-- A snapshot holds the halves of the five counters in turn. -/
theorem tdSnap_shown {s : State} {e : Nat} (h : s.engineActs e = true) :
    (s.tdSnap e).regN R.CNT_TD_RETIRED_LO = s.cnt.retired % 2 ^ 32 ∧
      (s.tdSnap e).regN (R.CNT_TD_RETIRED_LO + 32) = s.cnt.total % 2 ^ 32 ∧ sget 0 (s.tdSnap e).eng.rdata e = 0 ∧ (s.tdSnap e).cnt = s.cnt := by
  have he : s.tdSnap e = (s.latchHead R.CNT_TD_RETIRED_LO 10 (some s.tdWords)).setRdata e 0 := if_neg (not_not.mpr h)
  have hset (u : State) (a : Nat) : (u.setRdata e 0).regN a = u.regN a ∧ (u.setRdata e 0).cnt = u.cnt := ⟨rfl, rfl⟩
  have hreg (i : Nat) (hi : i < 10) : (s.tdSnap e).regN (R.CNT_TD_RETIRED_LO + 4 * i) = (headWord (some s.tdWords) i).toNat := by
    rw [he, (hset _ _).1, State.regN, reg_latchHead s _ _ hi]
  have hcnt (u : State) (a : Nat) (v : Word) : (u.setReg a v).cnt = u.cnt := rfl
  refine ⟨(hreg 0 (by decide)).trans (BitVec.toNat_ofNat ..), (hreg 8 (by decide)).trans (BitVec.toNat_ofNat ..), ?_, ?_⟩
  · rw [he]
    exact sget_sput_same ..
  · rw [he, (hset _ 0).2, State.latchHead]
    exact foldl_frame State.cnt (fun u _ => hcnt u _ _) _ s

/-- What a FABRIC cycle counts: the fates that are known, then the cycle itself. -/
theorem slotCycle_counts (s : State) :
    let due := s.cnt.fates.filter (fun x => x.1 ≤ 1)
    let w := (due.filter (fun x => x.2)).length
    let late := (s.cnt.fates.filter (fun x => 1 < x.1)).map (fun x => (x.1 - 1, x.2))
    let u := s.slotCycle.cnt
    let busy := s.headerHeld = true ∧ (s.freeCells = 0 ∨ s.freePkts = 0 ∨ s.freeCopies = 0)
    u.retired = (s.cnt.retired + (due.length - w)) % 2 ^ 64 ∧ u.wasted = (s.cnt.wasted + w) % 2 ^ 64 ∧
      (s.cnt.decided ≠ 0 → u.fates = late ++ [(28, false)] ∧ u.front = s.cnt.front ∧ u.back = s.cnt.back ∧
        u.total = (s.cnt.total + due.length) % 2 ^ 64) ∧
      (s.cnt.decided = 0 → s.cnt.discarded ≠ 0 → u.fates = late ++ [(28, true)] ∧ u.front = s.cnt.front ∧ u.back = s.cnt.back ∧
        u.total = (s.cnt.total + due.length) % 2 ^ 64) ∧
      (s.cnt.decided = 0 → s.cnt.discarded = 0 → busy → u.fates = late ∧ u.back = (s.cnt.back + 1) % 2 ^ 64 ∧ u.front = s.cnt.front ∧
        u.total = ((s.cnt.total + due.length) % 2 ^ 64 + 1) % 2 ^ 64) ∧
      (s.cnt.decided = 0 → s.cnt.discarded = 0 → ¬ busy → u.fates = late ∧ u.front = (s.cnt.front + 1) % 2 ^ 64 ∧ u.back = s.cnt.back ∧
        u.total = ((s.cnt.total + due.length) % 2 ^ 64 + 1) % 2 ^ 64) := by
  intro due w late u busy
  have hdecided : s.cnt.settleFates.decided = s.cnt.decided := rfl
  have hdiscarded : s.cnt.settleFates.discarded = s.cnt.discarded := rfl
  have hu : u = if s.cnt.decided ≠ 0 then
        { s.cnt.settleFates with decided := s.cnt.decided - 1, fates := s.cnt.settleFates.fates ++ [(28, false)] }
      else if s.cnt.discarded ≠ 0 then
        { s.cnt.settleFates with discarded := s.cnt.discarded - 1, fates := s.cnt.settleFates.fates ++ [(28, true)] }
      else if busy then
        { s.cnt.settleFates with total := (s.cnt.settleFates.total + 1) % 2 ^ 64, back := (s.cnt.settleFates.back + 1) % 2 ^ 64 }
      else { s.cnt.settleFates with total := (s.cnt.settleFates.total + 1) % 2 ^ 64, front := (s.cnt.settleFates.front + 1) % 2 ^ 64 } := rfl
  clear_value u
  subst hu
  by_cases hd : s.cnt.decided ≠ 0
  · rw [if_pos hd]
    exact ⟨rfl, rfl, fun _ => ⟨rfl, rfl, rfl, rfl⟩, fun h => absurd h hd, fun h => absurd h hd, fun h => absurd h hd⟩
  · rw [if_neg hd]
    by_cases hc : s.cnt.discarded ≠ 0
    · rw [if_pos hc]
      exact ⟨rfl, rfl, fun h => absurd h hd, fun _ _ => ⟨rfl, rfl, rfl, rfl⟩, fun _ h => absurd h hc, fun _ h => absurd h hc⟩
    · rw [if_neg hc]
      by_cases hb : busy
      · rw [if_pos hb]
        exact ⟨rfl, rfl, fun h => absurd h hd, fun _ h => absurd h hc, fun _ _ _ => ⟨rfl, rfl, rfl, rfl⟩, fun _ _ h => absurd hb h⟩
      · rw [if_neg hb]
        exact ⟨rfl, rfl, fun h => absurd h hd, fun _ h => absurd h hc, fun _ _ h => absurd h hb, fun _ _ _ => ⟨rfl, rfl, rfl, rfl⟩⟩

/-- A sum modulo `m` takes up what its first two terms gain. -/
theorem modEq_sum_gain {m r w f b t : Nat} (x y : Nat) (h : (r + w + f + b) % m = t) :
    (r + x) % m + (w + y) % m + f + b ≡ t + (x + y) [MOD m] :=
  calc (r + x) % m + (w + y) % m + f + b ≡ (r + x) + (w + y) + f + b [MOD m] :=
        (((Nat.mod_modEq _ m).add (Nat.mod_modEq _ m)).add_right f).add_right b
    _ = (r + w + f + b) + (x + y) := by omega
    _ ≡ t + (x + y) [MOD m] := (h ▸ (Nat.mod_modEq _ m).symm).add_right _

/-- One more in a term is one more in the sum. -/
theorem modEq_sum_succ {m a f b t : Nat} (h : a + f + b ≡ t [MOD m]) : (a + (f + 1) % m + b) % m = (t % m + 1) % m :=
  calc a + (f + 1) % m + b ≡ a + (f + 1) + b [MOD m] := ((Nat.mod_modEq _ m).add_left a).add_right b
    _ = a + f + b + 1 := by omega
    _ ≡ t + 1 [MOD m] := h.add_right 1
    _ ≡ t % m + 1 [MOD m] := (Nat.mod_modEq t m).symm.add_right 1

/-- TOTAL stays the sum of the four. -/
theorem slotCycle_total (s : State) (h : (s.cnt.retired + s.cnt.wasted + s.cnt.front + s.cnt.back) % 2 ^ 64 = s.cnt.total) :
    (s.slotCycle.cnt.retired + s.slotCycle.cnt.wasted + s.slotCycle.cnt.front + s.slotCycle.cnt.back) % 2 ^ 64 = s.slotCycle.cnt.total := by
  obtain ⟨hr, hw, hdec, hdis, hbusy, hfront⟩ := slotCycle_counts s
  have hle : ((s.cnt.fates.filter (fun x => decide (x.1 ≤ 1))).filter (fun x => x.2)).length ≤
      (s.cnt.fates.filter (fun x => decide (x.1 ≤ 1))).length := List.length_filter_le _ _
  have hgain := modEq_sum_gain ((s.cnt.fates.filter (fun x => decide (x.1 ≤ 1))).length -
    ((s.cnt.fates.filter (fun x => decide (x.1 ≤ 1))).filter (fun x => x.2)).length)
    ((s.cnt.fates.filter (fun x => decide (x.1 ≤ 1))).filter (fun x => x.2)).length h
  rw [Nat.sub_add_cancel hle] at hgain
  rw [hr, hw]
  by_cases hd : s.cnt.decided = 0
  · by_cases hc : s.cnt.discarded = 0
    · by_cases hb : s.headerHeld = true ∧ (s.freeCells = 0 ∨ s.freePkts = 0 ∨ s.freeCopies = 0)
      · obtain ⟨-, hback, hf, ht⟩ := hbusy hd hc hb
        rw [hback, hf, ht]
        exact modEq_sum_succ (b := 0) hgain
      · obtain ⟨-, hf, hback, ht⟩ := hfront hd hc hb
        rw [hback, hf, ht]
        exact modEq_sum_succ hgain
    · obtain ⟨-, hf, hback, ht⟩ := hdis hd hc
      rw [hback, hf, ht]
      exact hgain
  · obtain ⟨-, hf, hback, ht⟩ := hdec hd
    rw [hback, hf, ht]
    exact hgain

end Sys2Proof.Machine
end

section
/-! PROOF. O60, clause by clause. -/

namespace Sys2Proof.Machine

/-- Both rows of CNT_HARVEST are one write. -/
theorem exec_harvestWrite {s : State} (v : Word) (hw : s.writable R.CNT_HARVEST) :
    exec (.harvestStart v) s = .next (settle (s.harvestWrite v.toNat)) ∧
      exec (.harvestPeriodWrite v) s = .next (settle (s.harvestWrite v.toNat)) := ⟨finish_regLive hw _, finish_regLive hw _⟩

/-- Settles O60, from what each monitor, the cellar, the bottling, the debug port, the harvest and the slot counters do. -/
theorem faultsCountersAndHarvest : Obligations.FaultsCountersAndHarvest := by
  unfold Obligations.FaultsCountersAndHarvest
  intro s
  refine ⟨fun e => ⟨fun ha h => ?_, fun ha => congrArg finish (lockstep_dead ha e)⟩,
    fun cause data hc => ⟨failSilent_silent s cause data, failSilent_first data hc, failSilent_further cause data⟩,
    fun ha => ⟨fun c => live_next ha (backgroundScrub_runs ha none c), fun p => live_next ha (backgroundScrub_runs ha (some p) true),
      fun b w => live_next ha (backgroundScrub_runs ha (some (.other b w)) false)⟩,
    fun hb => ⟨congrArg finish (supplyMonitor_low hb), fun rail h h0 h4 => ?_⟩, ?_,
    fun c hc hb => congrArg finish (clockMonitor_out hb fun h => hc (Fin.ext h)), congrArg finish (clockMonitor_crystal s),
    fun b => ⟨fun h => congrArg finish (faultRestart_never b h), fun _ _ _ _ h => congrArg finish (faultRestart_early b h),
      fun hs hh hc hd h => congrArg finish (faultRestart_due b hs hh hc hd h)⟩,
    fun h => congrArg finish (cellarRecord_empty h), fun ev r h => ?_,
    fun e v ha hl => ⟨fun h => ?_, fun hlo hhi => ?_⟩,
    fun ok h => congrArg finish (bottled_idle h ok),
    fun b h => ⟨⟨_, finish_eq _, bottled_written h⟩, _, finish_eq _, bottled_failed h⟩,
    fun code => ⟨fun h => congrArg finish (debugOpen_other h), fun h hd hb => ⟨fun hr => ?_, fun hl ho => ⟨_, finish_eq _, ?_⟩⟩⟩,
    fun ok h => congrArg finish (zeroisationDone_not h ok),
    fun h => ⟨_, finish_eq _, zeroisationDone_opens h⟩, fun h => ⟨_, finish_eq _, zeroisationDone_failed h⟩,
    fun t a _ hat hlt => finish_live_id (devTemp_early hat hlt), fun t ha h => ⟨_, finish_live ha _, ?_⟩,
    fun ha => ⟨fun h => finish_live_id (harvestSweep_not h), fun hf hp ht hr => live_next ha (harvestSweep_due hf hp ht hr)⟩,
    fun v hw => ?_, fun m => ⟨startSweep_runs m, startSweep_bad m⟩, fun r h => sweepCycle_running h,
    fun _ h => finish_live_id (sweepComplete_idle h), fun r ha h hr => ⟨_, finish_live ha _, sweepComplete_ends ha h hr⟩,
    fun e he => ⟨_, finish_eq _, tdSnap_shown he⟩, ?_⟩
  · exact congrArg finish (if_pos ⟨ha, h.imp id fun ⟨h0, hb⟩ => ⟨congrArg Fin.val h0, hb⟩⟩)
  · exact congrArg finish (supplyMonitor_out hb (fun hz => h0 ⟨Fin.ext hz.1, hz.2⟩) fun hz => h4 ⟨Fin.ext hz.1, hz.2⟩)
  · exact congrArg finish (if_pos ⟨rfl, Bool.false_ne_true⟩)
  · obtain ⟨hnext, hrest⟩ := writeRecord_next { s with fltq := r } ev
    have hrun {t : State} (ht : s.cellarRecord = t) : exec .cellarRecord s = .next (settle t) := congrArg finish ht
    refine ⟨fun hno => hrun ?_, fun hyes hcls hrec => hrun ?_, fun hyes hnew => ⟨hrun ?_, hnext, hrest⟩⟩
    · exact (cellarRecord_cons h).trans (if_neg (by simp [hno]))
    · exact (cellarRecord_cons h).trans ((if_pos hyes).trans (if_pos ⟨hcls, hrec⟩))
    · refine (cellarRecord_cons h).trans ((if_pos hyes).trans (if_neg fun ⟨hcls, hrec⟩ => ?_))
      rcases hnew with hnew | hnew
      · omega
      · simp [hrec] at hnew
  · exact (finish_regEng ha hl _).trans (congrArg finish (if_pos h))
  · exact (finish_regEng ha hl _).trans (congrArg finish (if_neg (by omega)))
  · have he : exec (.debugOpen code) s = finish (s.debugOpen 0x0DB6) := congrArg (fun n => finish (s.debugOpen n)) h
    exact he.trans (congrArg finish (debugOpen_refused hd hb hr))
  · have hcode : code.toNat = 0x0DB6 := h
    rw [hcode]
    exact debugOpen_opens hd hb hl ho
  · obtain ⟨htemp, hmax⟩ := devTemp_read t.isLt h
    refine ⟨htemp, fun hnew => hmax.trans (if_pos hnew), fun h8 hle => hmax.trans (if_neg ?_)⟩
    exact fun hor => hor.elim h8 (not_lt.mpr hle)
  · obtain ⟨hstart, hperiod⟩ := exec_harvestWrite v hw
    have hset (u : State) (c : Cnt) : (u.setCnt c).rd F.CNT_HARVEST_PERIOD = u.rd F.CNT_HARVEST_PERIOD := rfl
    rw [hstart, hperiod, harvestWrite_eq (alive_of_firmwareRuns hw.1)]
    exact ⟨rfl, rfl, (hset _ _).trans (period_written s _)⟩
  · obtain ⟨hr, hw, hdec, hdis, hbusy, hfront⟩ := slotCycle_counts s
    exact ⟨hr, hw, hdec, hdis, fun hd hc hb => ⟨(hbusy hd hc hb).1, (hbusy hd hc hb).2.1, (hbusy hd hc hb).2.2.1⟩,
      fun hd hc hb => ⟨(hfront hd hc hb).1, (hfront hd hc hb).2.1, (hfront hd hc hb).2.2.1⟩, slotCycle_total s⟩

end Sys2Proof.Machine
end

section
/-! PROOF. O7: every step keeps the memories canonical. One lemma for each function of the model that answers a state, in the order of
the model, named after the function: `h.f.g` says it of `(s.f ..).g ..` when `h` says it of `s`. Only `store`, `program`, `erase` and
the resets touch memory or flash; every other function is made of functions before it. -/

namespace Sys2Proof.Machine

-- Hundreds of short proofs, elaborated side by side, would want more threads than the memory limit has room for.
set_option Elab.async false

section

variable {s : State}

/-- Memory and flash as they were: the canonical form stays. -/
theorem State.memWf.same {t : State} (h : s.memWf) (hm : t.mem = s.mem := by rfl) (hf : t.flash = s.flash := by rfl) :
    t.memWf := ⟨hm ▸ h.1, hf ▸ h.2⟩

/-- An update of other fields than memory and flash keeps the canonical form. -/
theorem State.memWf.upd (h : s.memWf)
    {regs tables otp boot clk iq eq skew cap pls mac fwd sct latAt buf lists credit eng
    flt evq fltq out24 out25 out26 kaq egsLast cph leases pers qlb aud can ser glv wak cnt
    free pending} :
    ({ s with
        regs, tables, otp, boot, clk, iq, eq, skew, cap, pls, mac, fwd, sct, latAt,
        buf, lists, credit, eng, flt, evq, fltq, out24, out25, out26, kaq, egsLast, cph, leases,
        pers, qlb, aud, can, ser, glv, wak, cnt, free, pending } : State).memWf := h

/-- A state that a function uses more than once. -/
theorem State.memWf.then {t : State} (h : s.memWf) (ht : s.memWf → t.memWf) : t.memWf := ht h

theorem memWf_ite {c : Prop} [Decidable c] {a b : State} (ha : a.memWf) (hb : b.memWf) : (if c then a else b).memWf := by
  split <;> assumption

theorem memWf_ite_fst {α : Type} {c : Prop} [Decidable c] {a b : State × α} (ha : a.1.memWf) (hb : b.1.memWf) :
    (if c then a else b).1.memWf := by
  split <;> assumption

theorem State.memWf.foldl {β : Type} {f : State → β → State} {l : List β} (h : s.memWf)
    (hf : ∀ u x, u.memWf → (f u x).memWf) : (l.foldl f s).memWf :=
  List.foldlRecOn (motive := State.memWf) l f h fun u hu x _ => hf u x hu

/-- What a step of Table 6-1 leaves has canonical memories, whether it drops the frame or passes it on. -/
def Pass.memWf (r : Pass) : Prop := (match r with | .error x => x.1 | .ok x => x.1).memWf

theorem Pass.memWf_ite {c : Prop} [Decidable c] {a b : Pass} (ha : Pass.memWf a) (hb : Pass.memWf b) :
    Pass.memWf (if c then a else b) := by
  split <;> assumption

theorem Pass.memWf.andThen {r : Pass} {k : State → Fate → Pass} (hr : Pass.memWf r)
    (hk : ∀ u t, u.memWf → Pass.memWf (k u t)) : Pass.memWf (Pass.andThen r k) := by
  cases r with
  | error x => exact hr
  | ok x => exact hk _ _ hr

/-! ### Machine/State -/

theorem memWf_reset : State.reset.memWf := ⟨rfl, rfl⟩

/-! ### Machine/Ops -/

theorem State.memWf.setReg (h : s.memWf) {a v} : (s.setReg a v).memWf := h.same
theorem State.memWf.setRegN (h : s.memWf) {a v} : (s.setRegN a v).memWf := h.same
theorem State.memWf.wr (h : s.memWf) {f v} : (s.wr f v).memWf := h.same
theorem State.memWf.setPair (h : s.memWf) {lo hi v} : (s.setPair lo hi v).memWf := h.same
theorem State.memWf.add (h : s.memWf) {c n} : (s.add c n).memWf := h.same
theorem State.memWf.inc (h : s.memWf) {c} : (s.inc c).memWf := h.same
theorem State.memWf.add64 (h : s.memWf) {lo n} : (s.add64 lo n).memWf := h.same
theorem State.memWf.incSat (h : s.memWf) {f} : (s.incSat f).memWf := h.same

theorem State.memWf.writeFields (h : s.memWf) {a value} : (s.writeFields a value).memWf := by
  unfold State.writeFields
  split
  · exact h.setRegN
  · exact h

theorem State.memWf.store (h : s.memWf) {a b} : (s.store a b).memWf := ⟨store_mem_wf s a b h.1, h.2⟩
theorem State.memWf.program (h : s.memWf) {o b} : (s.program o b).memWf := ⟨h.1, program_flash_wf s o b h.2⟩
theorem State.memWf.erase (h : s.memWf) {o n} : (s.erase o n).memWf := ⟨h.1, erase_flash_wf s o n h.2⟩
theorem State.memWf.storeWord (h : s.memWf) {a v} : (s.storeWord a v).memWf := h.store
theorem State.memWf.setEntry (h : s.memWf) {t i w} : (s.setEntry t i w).memWf := h.same
theorem State.memWf.modPort (h : s.memWf) {p f} : (s.modPort p f).memWf := h.same
theorem State.memWf.setQueue (h : s.memWf) {q l} : (s.setQueue q l).memWf := h.same
theorem State.memWf.setDyn (h : s.memWf) {hd d} : (s.setDyn hd d).memWf := h.same
theorem State.memWf.setGlist (h : s.memWf) {n l} : (s.setGlist n l).memWf := h.same
theorem State.memWf.drawFree (h : s.memWf) : s.drawFree.2.memWf := h.same

/-! ### Machine/Flags -/

theorem State.memWf.raiseFull (h : s.memWf) {inst code param cls d0 d1 must} :
    (s.raiseFull inst code param cls d0 d1 must).memWf := by
  unfold State.raiseFull
  extract_lets e s1
  clear_value e
  have hs1 : s1.memWf := by
    unfold s1
    split
    · exact h.wr
    · exact h
  exact hs1.upd

theorem State.memWf.raise (h : s.memWf) {code param} : (s.raise code param).memWf := h.raiseFull

theorem State.memWf.raiseMust (h : s.memWf) {code param cls d0 d1} : (s.raiseMust code param cls d0 d1).memWf :=
  h.raiseFull

theorem State.memWf.raiseOnce (h : s.memWf) {code param} : (s.raiseOnce code param).memWf := by
  unfold State.raiseOnce
  split
  · exact memWf_ite h h.raise
  · exact h.raise

theorem State.memWf.latchHead (h : s.memWf) {head n e} : (s.latchHead head n e).memWf := h.foldl fun _ _ h => h.setReg
theorem State.memWf.writeRecord (h : s.memWf) {e} : (s.writeRecord e).memWf := h.store.upd.wr.inc

theorem State.memWf.cellarRecord (h : s.memWf) : s.cellarRecord.memWf := by
  unfold State.cellarRecord
  split
  · exact h
  · exact memWf_ite h.upd (memWf_ite h.upd.inc h.upd.writeRecord)

theorem State.memWf.flushCellar (h : s.memWf) : s.flushCellar.memWf := h.foldl fun _ _ h => h.cellarRecord

theorem State.memWf.beginBottling (h : s.memWf) {reason} : (s.beginBottling reason).memWf := by
  unfold State.beginBottling
  split
  · exact memWf_ite h.upd h
  · exact h.flushCellar.upd.erase.wr

theorem State.memWf.haltEngines (h : s.memWf) : s.haltEngines.memWf := h.same
theorem State.memWf.setTxOn (h : s.memWf) {v} : (s.setTxOn v).memWf := h.foldl fun _ _ h => h.wr
theorem State.memWf.stopMacs (h : s.memWf) : s.stopMacs.memWf := h.setTxOn.upd
theorem State.memWf.stopPulses (h : s.memWf) : s.stopPulses.memWf := h.same

theorem State.memWf.stopChannels (h : s.memWf) : s.stopChannels.memWf :=
  ((h.foldl fun _ _ h => h.setRegN).foldl fun _ _ h => h.wr.wr).foldl fun _ _ h => h.wr.wr

theorem State.memWf.silenced (h : s.memWf) : s.silenced.memWf := h.haltEngines.stopMacs.stopPulses.stopChannels

theorem State.memWf.failSilent (h : s.memWf) {cause data} : (s.failSilent cause data).memWf :=
  memWf_ite h.raiseFull (h.upd.wr.setRegN.silenced.inc.raiseFull.then fun h1 => memWf_ite h1 h1.beginBottling)

theorem State.memWf.askHandover (h : s.memWf) {react} : (s.askHandover react).memWf := h.same

theorem State.memWf.detector (h : s.memWf) {k i} : (s.detector k i).1.memWf :=
  memWf_ite_fst (h.upd.incSat.upd.raiseMust.then fun h1 => memWf_ite (memWf_ite h1.askHandover.upd h1.failSilent)
    (memWf_ite h1 h1.askHandover)) h.upd.incSat

theorem State.memWf.detect (h : s.memWf) {k i} : (s.detect k i).memWf := h.detector
theorem State.memWf.eccFatal (h : s.memWf) {block word} : (s.eccFatal block word).memWf := h.inc.failSilent

/-! ### Machine/Gates -/

theorem State.memWf.startList (h : s.memWf) {n} : (s.startList n).memWf := h.same

theorem State.memWf.refreshList (h : s.memWf) {n} : (s.refreshList n).memWf :=
  memWf_ite h.startList (memWf_ite h.setGlist h)

/-! ### Machine/Clock -/

theorem State.memWf.setDc (h : s.memWf) {n v} : (s.setDc n v).memWf := memWf_ite h.upd h.upd
theorem State.memWf.setWt (h : s.memWf) {v} : (s.setWt v).memWf := h.same
theorem State.memWf.setWtState (h : s.memWf) {st} : (s.setWtState st).memWf := h.same

theorem State.memWf.pushStamp (h : s.memWf) {p dir e} : (s.pushStamp p dir e).1.memWf :=
  (memWf_ite h.upd h.upd).then fun h1 => (memWf_ite h1.inc h1).then fun h2 => memWf_ite h2.raise h2

theorem State.memWf.pushSkew (h : s.memWf) {e} : (s.pushSkew e).memWf :=
  (memWf_ite h.upd.inc h.upd).then fun h1 => memWf_ite h1.raise h1

/-! ### Machine/EgsBase -/

theorem State.memWf.feed (h : s.memWf) {p f} : (s.feed p f).memWf := h.same
theorem State.memWf.raiseNeverFits (h : s.memWf) {q sc} : (s.raiseNeverFits q sc).memWf := memWf_ite h h.raise

/-! ### Machine/Fwd -/

theorem State.memWf.moveAlong {l : List Nat} : ∀ {s : State} {free : Nat}, s.memWf → (s.moveAlong free l).memWf := by
  induction l with
  | nil => exact fun h => h
  | cons i r ih => exact fun h => ih h.same

theorem State.memWf.place (h : s.memWf) {e} : (s.place e).1.memWf := by
  unfold State.place
  extract_lets set k e1 b0 b1
  clear_value set k e1 b0 b1
  split
  · exact h.setEntry
  · split
    · exact h.moveAlong.setEntry
    · split
      · exact h.setEntry.setRegN.wr.wr.inc.raise
      · exact h.raise

theorem State.memWf.macInsert (h : s.memWf) {e} : (s.macInsert e).1.memWf := by
  unfold State.macInsert
  extract_lets k
  clear_value k
  split
  · exact memWf_ite_fst h.setEntry h
  · exact h.place

theorem State.memWf.setRemain (h : s.memWf) : s.setRemain.memWf := h.same
theorem State.memWf.migrateDone (h : s.memWf) : s.migrateDone.memWf := h.same
theorem State.memWf.dropOld (h : s.memWf) {e i} : (s.dropOld e i).memWf := h.foldl fun _ _ h => h.setEntry

theorem State.memWf.rehash (h : s.memWf) {i stash} : (s.rehash i stash).1.memWf := by
  unfold State.rehash
  extract_lets e r
  have hr : r.1.memWf := h.place
  clear_value e r
  split
  · exact hr.dropOld
  · exact memWf_ite_fst hr.dropOld h
  · exact memWf_ite hr h

theorem State.memWf.migrateSlot (h : s.memWf) {i} : (s.migrateSlot i).memWf :=
  memWf_ite (memWf_ite h.rehash (memWf_ite h.rehash h.rehash.setEntry.inc)) h

theorem State.memWf.retryStash (h : s.memWf) : s.retryStash.memWf := h.foldl fun _ _ h => memWf_ite h.rehash h

theorem State.memWf.retryKey (h : s.memWf) {k} : (s.retryKey k).memWf := by
  unfold State.retryKey
  split
  · exact h.rehash
  · exact h

theorem State.memWf.partialRetry (h : s.memWf) : s.partialRetry.memWf :=
  memWf_ite (((h.foldl fun _ _ h => h.retryKey).setRemain).then fun h1 => memWf_ite h1.migrateDone h1) h

theorem State.memWf.requestLearn (h : s.memWf) {fid mac port} : (s.requestLearn fid mac port).memWf :=
  memWf_ite h.upd h.inc.raiseOnce

theorem State.memWf.learnOrRefresh (h : s.memWf) {fid mac port mayLearn quiet t}
    (ht : s.learnOrRefresh fid mac port mayLearn quiet = some t) : t.memWf := by
  unfold State.learnOrRefresh at ht
  split at ht
  · dsimp only at ht
    split at ht
    · obtain rfl := Option.some.inj ht
      exact memWf_ite h.inc h
    · split at ht
      · obtain rfl := Option.some.inj ht
        exact memWf_ite h.setEntry.inc h.setEntry
      · obtain rfl := Option.some.inj ht
        exact h
  · split at ht
    · nomatch ht
    · split at ht
      · obtain rfl := Option.some.inj ht
        exact h.requestLearn
      · obtain rfl := Option.some.inj ht
        exact h

theorem State.memWf.flushMac (h : s.memWf) {scope port fid} : (s.flushMac scope port fid).memWf :=
  ((h.foldl fun _ _ h => h.setEntry).add).wr.then fun h1 => memWf_ite h1 h1.partialRetry

theorem State.memWf.copyToWak (h : s.memWf) {p d} : (s.copyToWak p d).memWf := memWf_ite h.upd h.inc

theorem State.memWf.identify (h : s.memWf) {flow d src vid} : (s.identify flow d src vid).1.memWf := by
  unfold State.identify
  split
  · exact memWf_ite_fst h.inc h
  · split
    · exact h.inc
    · split
      · exact h.inc
      · exact h

theorem State.memWf.decide_ (h : s.memWf) {p f} : (s.decide_ p f).1.memWf := by
  unfold State.decide_
  extract_lets -merge +onlyGivenNames s1 d
  have hs1 : s1.memWf := h.add64
  clear_value s1 d
  split
  · exact memWf_ite_fst hs1.inc hs1
  · extract_lets -merge +onlyGivenNames w2
    clear_value w2
    refine memWf_ite_fst hs1.inc (memWf_ite_fst hs1.inc (memWf_ite_fst hs1.inc ?_))
    extract_lets -merge +onlyGivenNames fid tc colour lookup router dropped l3 cls action may sHit
    clear_value fid tc colour lookup router dropped l3 cls action may sHit
    split
    · exact hs1.inc
    · next s2 ht =>
      have hs2 : s2.memWf := hs1.learnOrRefresh ht
      extract_lets -merge +onlyGivenNames dHit members named trap c2 finish
      have hnamed : ∀ u, u.memWf → (named u).1.memWf := fun u hu => hu.identify
      have htrap : ∀ u k, u.memWf → (trap u k).1.memWf := fun u k hu => hnamed _ hu.inc
      have hfinish : ∀ u mask vid data orig, u.memWf → (finish u mask vid data orig).1.memWf :=
        fun u mask vid data orig hu => memWf_ite_fst (hnamed _ (memWf_ite hu.inc hu)).inc (hnamed _ (memWf_ite
            hu.inc hu))
      clear_value dHit members named trap c2 finish
      refine memWf_ite_fst hs2.inc (memWf_ite_fst hs2.inc (memWf_ite_fst (htrap _ _ hs2) ?_))
      extract_lets -merge +onlyGivenNames s3
      have hs3 : s3.memWf := memWf_ite hs2.copyToWak hs2
      clear_value s3
      split
      · exact hs3.inc
      · refine htrap _ _ ?_
        split
        · exact hs3.inc
        · exact hs3
      · refine hfinish _ _ _ _ _ ?_
        split
        · exact hs3.inc
        · exact hs3
      · exact hfinish _ _ _ _ _ hs3.inc

theorem State.memWf.fwdTableWrite (h : s.memWf) {value} : (s.fwdTableWrite value).memWf :=
  memWf_ite h (memWf_ite h.setEntry.setRegN (memWf_ite h.upd.setEntry.setRegN (memWf_ite h.setEntry.setRegN h)))

theorem State.memWf.macStatus (h : s.memWf) {result slot} : (s.macStatus result slot).memWf := h.same

theorem State.memWf.macInsertCommit (h : s.memWf) : s.macInsertCommit.memWf := by
  unfold State.macInsertCommit
  extract_lets r
  have hr : r.1.memWf := h.macInsert
  clear_value r
  split <;> exact hr.macStatus

theorem State.memWf.macDeleteCommit (h : s.memWf) : s.macDeleteCommit.memWf := by
  unfold State.macDeleteCommit
  extract_lets k
  clear_value k
  split
  · exact h.setEntry.macStatus.partialRetry
  · exact h.macStatus

theorem State.memWf.macLookupCommit (h : s.memWf) : s.macLookupCommit.memWf := by
  unfold State.macLookupCommit
  extract_lets k
  clear_value k
  split
  · exact h.setReg.setReg.setReg.setReg.macStatus
  · exact h.macStatus

theorem State.memWf.fwdCommit (h : s.memWf) {value} : (s.fwdCommit value).memWf := by
  unfold State.fwdCommit
  refine memWf_ite ?_ h.fwdTableWrite
  split
  · exact h.macInsertCommit
  · exact h.macDeleteCommit
  · exact h.macLookupCommit
  · exact h

theorem State.memWf.seedWrite (h : s.memWf) {which value} : (s.seedWrite which value).memWf := memWf_ite h.setRegN h
theorem State.memWf.migrateStart (h : s.memWf) : s.migrateStart.memWf := memWf_ite h.wr.upd.setRemain h

theorem State.memWf.migrateStep (h : s.memWf) : s.migrateStep.memWf :=
  memWf_ite h (memWf_ite h.migrateSlot.upd.setRemain (memWf_ite h.retryStash.setRemain.migrateDone
    h.retryStash.setRemain.wr.raise))

theorem State.memWf.learnInsert (h : s.memWf) : s.learnInsert.memWf := by
  unfold State.learnInsert
  split
  · exact h
  · extract_lets _ s1 known x
    have hs1 : s1.memWf := h.upd
    have hx : x.1.memWf := hs1.macInsert
    clear_value s1 known x
    split
    · exact hx.inc
    · exact memWf_ite hx hx.inc

theorem State.memWf.ageingSweep (h : s.memWf) : s.ageingSweep.memWf :=
  memWf_ite h ((h.foldl fun _ _ h => memWf_ite h.setEntry h.setEntry).add.then fun h1 => memWf_ite h1 h1.partialRetry)

theorem State.memWf.fwdFlush (h : s.memWf) {value} : (s.fwdFlush value).memWf :=
  h.wr.wr.wr.then fun h1 => memWf_ite h1.flushMac h1

theorem State.memWf.tcamScrub (h : s.memWf) {i upset uncorrectable} : (s.tcamScrub i upset uncorrectable).memWf :=
  memWf_ite h.failSilent (memWf_ite h h.upd.inc.raise.detect)

/-! ### Machine/Sct -/

theorem State.memWf.dynInit (h : s.memWf) {hd} : (s.dynInit hd).memWf := h.same

theorem State.memWf.scCount (h : s.memWf) {hd p wt t} : (s.scCount hd p wt t).1.memWf :=
  memWf_ite_fst h.inc.pushStamp h.inc

theorem State.memWf.scAuth (h : s.memWf) {hd p keySlot t} : Pass.memWf (s.scAuth hd p keySlot t) :=
  Pass.memWf_ite h h.inc

theorem State.memWf.scSdu (h : s.memWf) {hd ended t} : Pass.memWf (s.scSdu hd ended t) := Pass.memWf_ite h.inc h

theorem State.memWf.scGate (h : s.memWf) {hd t} : Pass.memWf (s.scGate hd t) :=
  Pass.memWf_ite h (Pass.memWf_ite (memWf_ite h.inc.wr h.inc.wr.raise) h.inc)

theorem State.memWf.scFits (h : s.memWf) {hd p ended t} : Pass.memWf (s.scFits hd p ended t) := by
  unfold State.scFits
  extract_lets action nh mask vid tag bad
  clear_value action nh mask vid tag bad
  split
  · exact h
  · exact Pass.memWf_ite h.inc.raiseNeverFits (Pass.memWf_ite h.inc.raiseNeverFits h.inc.raiseNeverFits)

theorem State.memWf.scPolice (h : s.memWf) {hd p ended t} : Pass.memWf (s.scPolice hd p ended t) :=
  Pass.memWf_ite h (Pass.memWf_ite h.setDyn.inc h.setDyn)

theorem State.memWf.recover (h : s.memWf) {hd seq} : (s.recover hd seq).1.memWf :=
  memWf_ite_fst h.setDyn (memWf_ite_fst (memWf_ite_fst h h.setDyn) (memWf_ite_fst h (memWf_ite_fst (memWf_ite_fst h
    h.inc.setDyn) ((memWf_ite h.inc h).add.setDyn))))

theorem State.memWf.twin (h : s.memWf) {hd p seq wt lost accepted} : (s.twin hd p seq wt lost accepted).memWf :=
  memWf_ite h (memWf_ite (memWf_ite h.setDyn.pushSkew h.setDyn) (memWf_ite h.setDyn h))

theorem State.memWf.scRecover (h : s.memWf) {hd p wt lost t} : Pass.memWf (s.scRecover hd p wt lost t) := by
  unfold State.scRecover
  extract_lets rcv on
  clear_value rcv on
  split
  · exact Pass.memWf_ite h.inc h.inc
  · extract_lets r s1
    have hr : r.1.memWf := memWf_ite_fst h.recover h
    have hs1 : s1.memWf := memWf_ite hr.twin hr
    clear_value r s1
    split
    · exact hs1
    · exact hs1.inc
    · exact hs1.inc

theorem State.memWf.scGen (h : s.memWf) {hd esiFirst spf t} : Pass.memWf (s.scGen hd esiFirst spf t) := by
  unfold State.scGen
  split
  · exact h.setDyn
  · exact Pass.memWf_ite h.inc h
  · exact h

theorem State.memWf.scAction (h : s.memWf) {hd p t} : Pass.memWf (s.scAction hd p t) := by
  unfold State.scAction
  extract_lets action t1 finish exch
  have hfinish : ∀ u t, u.memWf → Pass.memWf (finish u t) := fun u t hu => Pass.memWf_ite hu.inc hu
  clear_value action t1 finish exch
  split
  · exact hfinish _ _ h
  · refine Pass.memWf_ite (hfinish _ _ h) ?_
    split
    · exact h.inc
    · exact hfinish _ _ h.inc.inc
    · exact hfinish _ _ (memWf_ite h h.inc)
  · exact hfinish _ _ h
  · exact hfinish _ _ h
  · exact h.inc

theorem State.memWf.sctSteps (h : s.memWf) {hd p f d} : Pass.memWf (s.sctSteps hd p f d) :=
  Pass.memWf_ite h.inc <|
    (((((((h.scCount.scAuth).andThen fun _ _ h => h.scSdu).andThen fun _ _ h => h.scGate).andThen fun _ _ h =>
        h.scFits).andThen
      fun _ _ h => h.scPolice).andThen fun _ _ h => h.scRecover).andThen fun _ _ h => h.scGen).andThen fun _ _ h =>
          h.scAction

theorem State.memWf.sctPass (h : s.memWf) {p f d} : Pass.memWf (s.sctPass p f d) := by
  unfold State.sctPass
  split
  · exact h
  · exact h.sctSteps

theorem State.memWf.refund (h : s.memWf) {charge len} : (s.refund charge len).memWf := by
  unfold State.refund
  split
  · exact h
  · exact memWf_ite h h.setDyn

theorem State.memWf.latSample (h : s.memWf) {m hd ns} : (s.latSample m hd ns).memWf :=
  h.setRegN.setRegN.add64.inc.then fun h1 => memWf_ite (h1.inc.then fun h2 => memWf_ite h2.upd.raise h2) h1

theorem State.memWf.sctCommit (h : s.memWf) {value} : (s.sctCommit value).memWf :=
  memWf_ite h.setEntry.dynInit h.setEntry

theorem State.memWf.sctStateSel (h : s.memWf) {value} : (s.sctStateSel value).memWf := h.same
theorem State.memWf.rcvReset (h : s.memWf) {hd} : (s.rcvReset hd).memWf := memWf_ite h.setDyn.inc.raise h

theorem State.memWf.latencyClear (h : s.memWf) {m value} : (s.latencyClear m value).memWf :=
  memWf_ite h.wr.setRegN.setRegN.setPair.setRegN.setRegN h.wr

/-! ### Machine/Buf -/

theorem State.memWf.setPkt (h : s.memWf) {id p} : (s.setPkt id p).memWf := h.same
theorem State.memWf.modPkt (h : s.memWf) {id f} : (s.modPkt id f).memWf := h.same
theorem State.memWf.sealCells (h : s.memWf) {id} : (s.sealCells id).memWf := h.same
theorem State.memWf.askPause (h : s.memWf) {p vec zero} : (s.askPause p vec zero).memWf := memWf_ite h.modPort h

theorem State.memWf.updatePause (h : s.memWf) {p} : (s.updatePause p).memWf :=
  memWf_ite h (memWf_ite h ((memWf_ite h.modPort.inc.askPause h.modPort).then fun h1 => memWf_ite h1.askPause h1))

theorem State.memWf.freePkt (h : s.memWf) {id} : (s.freePkt id).memWf :=
  h.upd.setPkt.then fun h1 => (memWf_ite h1 h1.modPort).updatePause

theorem State.memWf.dropRef (h : s.memWf) {id} : (s.dropRef id).memWf := memWf_ite h.modPkt.freePkt h.modPkt
theorem State.memWf.releaseCopy (h : s.memWf) {c} : (s.releaseCopy c).memWf := h.upd.dropRef
theorem State.memWf.restartHead (h : s.memWf) {q} : (s.restartHead q).memWf := h.same

theorem State.memWf.unlink (h : s.memWf) {q c} : (s.unlink q c).memWf :=
  (memWf_ite h.setQueue.restartHead h.setQueue).releaseCopy

theorem State.memWf.noCell (h : s.memWf) : s.noCell.memWf := h.inc.raiseOnce
theorem State.memWf.stompTx (h : s.memWf) {q c at_} : (s.stompTx q c at_).memWf := h.same
theorem State.memWf.countStomp (h : s.memWf) {q c} : (s.countStomp q c).memWf := memWf_ite h.inc h

theorem State.memWf.spoil (h : s.memWf) {id at_} : (s.spoil id at_).memWf :=
  h.modPkt.foldl fun _ _ h => memWf_ite h.countStomp.stompTx h.unlink

theorem State.memWf.takeCell (h : s.memWf) {c t} (ht : s.takeCell = some (c, t)) : t.memWf := by
  unfold State.takeCell at ht
  split at ht
  · cases ht
  · cases ht
    exact h.same

theorem State.memWf.takeCells {n : Nat} : ∀ {s : State} {l : List Nat} {t : State × List Nat}, s.memWf →
    s.takeCells n l = some t →
    t.1.memWf := by
  induction n with
  | zero => rintro s l t h ⟨⟩; exact h
  | succ n ih =>
    intro s l t h ht
    unfold State.takeCells at ht
    split at ht
    · cases ht
    · next hc => exact ih (h.takeCell hc) ht

theorem State.memWf.giveCells (h : s.memWf) {f l} : (s.giveCells f l).1.memWf := by
  unfold State.giveCells
  split
  · exact h.modPkt.sealCells.updatePause
  · exact h

theorem State.memWf.outOfCells (h : s.memWf) {f} : (s.outOfCells f).1.memWf := by
  unfold State.outOfCells
  extract_lets s1 _ s2 s3
  have hs1 : s1.memWf := h.noCell
  have hs2 : s2.memWf := hs1.upd
  clear_value s1 s2
  have hs3 : s3.memWf := by
    unfold s3
    split
    · exact hs2.spoil
    · exact hs2
  exact hs3

theorem State.memWf.fillCells (h : s.memWf) {f n} : (s.fillCells f n).1.memWf := by
  unfold State.fillCells
  split
  · next hc => exact memWf_ite_fst h (h.takeCells hc).giveCells
  · exact h.outOfCells

theorem State.memWf.lfsr8 (h : s.memWf) : s.lfsr8.2.memWf := h.same

theorem State.memWf.redTest (h : s.memWf) {q c capable} : (s.redTest q c capable).1.memWf :=
  memWf_ite_fst h (memWf_ite_fst (memWf_ite_fst h.lfsr8 h.lfsr8) h)

theorem State.memWf.updateAvg (h : s.memWf) {q d} : (s.updateAvg q d).memWf := h.same

theorem State.memWf.link (h : s.memWf) {q id ce} : (s.link q id ce).memWf := by
  unfold State.link
  extract_lets p cut
  clear_value p cut
  split
  · exact h
  · exact h.upd.setQueue.then fun h1 => (memWf_ite h1.upd h1).modPkt.inc.then fun h2 => (memWf_ite
      h2.inc h2).then fun h3 => memWf_ite h3.inc h3

theorem State.memWf.admitQueue (h : s.memWf) {q id} : (s.admitQueue q id).memWf := by
  unfold State.admitQueue
  extract_lets -merge +onlyGivenNames p n c d s1 cfgMin cfgMax
  have hs1 : s1.memWf := h.updateAvg
  clear_value p n c d s1 cfgMin cfgMax
  refine memWf_ite hs1.inc.raiseOnce ?_
  refine memWf_ite hs1.link ?_
  refine memWf_ite hs1.inc ?_
  refine memWf_ite hs1.inc ?_
  extract_lets -merge +onlyGivenNames r
  have hr : r.1.memWf := hs1.redTest
  clear_value r
  split
  · exact hr.link
  · exact hr.link
  · exact hr.inc

theorem State.memWf.refused (h : s.memWf) {q id t} (ht : s.refused q id = some t) : t.memWf := by
  unfold State.refused at ht
  extract_lets p len at ht
  clear_value p len
  split at ht
  · obtain rfl := Option.some.inj ht
    exact h.inc.raiseNeverFits
  · split at ht
    · obtain rfl := Option.some.inj ht
      exact h.inc
    · nomatch ht

theorem State.memWf.offer (h : s.memWf) {q id} : (s.offer q id).memWf := by
  unfold State.offer
  refine memWf_ite h.same ?_
  split
  · next ht => exact h.refused ht
  · exact h.admitQueue

theorem State.memWf.returnCells (h : s.memWf) {l} : (s.returnCells l).memWf := h.same

theorem State.memWf.admitFrame (h : s.memWf) {p inTc f t} : (s.admitFrame p inTc f t).1.memWf := by
  unfold State.admitFrame
  extract_lets n
  clear_value n
  split
  · exact h.inc.raiseOnce.returnCells
  · exact memWf_ite_fst h.noCell.returnCells (((memWf_ite_fst h.fillCells h).upd.setPkt.sealCells.foldl fun _ _ h =>
      h.offer).then fun h1 => memWf_ite_fst h1.freePkt h1.updatePause)

theorem State.memWf.retest (h : s.memWf) {id} : (s.retest id).memWf :=
  h.foldl fun _ _ h => memWf_ite h (memWf_ite h.unlink.inc.raiseNeverFits (memWf_ite h.unlink.inc h))

theorem State.memWf.completePkt (h : s.memWf) {id} : (s.completePkt id).memWf := h.modPkt.sealCells.retest

theorem State.memWf.popHead (h : s.memWf) {q} : (s.popHead q).memWf := by
  unfold State.popHead
  split
  · exact h
  · exact h.setQueue.restartHead.releaseCopy

theorem State.memWf.bufCommit (h : s.memWf) {value} : (s.bufCommit value).memWf := h.same
theorem State.memWf.leakAudit (h : s.memWf) : s.leakAudit.memWf := memWf_ite h h.upd

theorem State.memWf.auditWalkDone (h : s.memWf) : s.auditWalkDone.memWf :=
  memWf_ite h (h.upd.wr.then fun h1 => (memWf_ite h1 h1.raise).then fun h2 => memWf_ite h2 h2.add.raise.detect)

theorem State.memWf.flushQueue (h : s.memWf) {q} : (s.flushQueue q).memWf := h.wr.wr.foldl fun _ _ h => h.unlink.inc

theorem State.memWf.queueFlush (h : s.memWf) {value} : (s.queueFlush value).memWf :=
  memWf_ite h (memWf_ite h.wr.flushQueue h.wr)

theorem State.memWf.queueFlushDone (h : s.memWf) : s.queueFlushDone.memWf := by
  unfold State.queueFlushDone
  refine memWf_ite ?_ h
  extract_lets held _ _ s1 s2
  have hs1 : s1.memWf := h.wr.upd
  have hs2 : s2.memWf := hs1.foldl fun _ _ h => (memWf_ite h h.offer).dropRef
  clear_value held s1 s2
  split
  · exact hs2
  · exact hs2.upd.flushQueue

theorem State.memWf.holdHeads (h : s.memWf) : s.holdHeads.memWf := h.foldl fun _ _ h => memWf_ite h.upd h

theorem State.memWf.stuckHead (h : s.memWf) {q} : (s.stuckHead q).memWf := by
  unfold State.stuckHead
  extract_lets time
  clear_value time
  split
  · exact h
  · exact memWf_ite h (h.raise.inc.wr.wr.upd.then fun h1 => (memWf_ite h1 (memWf_ite h1.upd h1.flushQueue)).detect)

/-! ### Machine/Link -/

theorem State.memWf.setQlb (h : s.memWf) {q} : (s.setQlb q).memWf := h.same

theorem State.memWf.job (h : s.memWf) {status} : (s.job status).memWf := by
  unfold State.job
  extract_lets s1
  have hs1 : s1.memWf := h.add64
  clear_value s1
  split
  · exact hs1.inc
  · exact hs1.inc
  · exact hs1.inc
  · exact hs1.inc
  · exact hs1.inc
  · exact hs1

theorem State.memWf.linkJob (h : s.memWf) : s.linkJob.memWf := memWf_ite h.job h

theorem State.memWf.emit (h : s.memWf) {vc m} : (s.emit vc m).memWf :=
  h.setQlb.inc.linkJob.then fun h1 => memWf_ite h1.inc h1

theorem State.memWf.linkSend (h : s.memWf) {vc m} : (s.linkSend vc m).memWf := memWf_ite h (memWf_ite h.emit h.setQlb)

theorem State.memWf.drainVc {vc n : Nat} : ∀ {s : State}, s.memWf → (s.drainVc vc n).memWf := by
  induction n with
  | zero => exact fun h => h
  | succ n ih =>
    intro s h
    unfold State.drainVc
    split
    · exact h
    · exact memWf_ite (ih h.same.emit) h

theorem State.memWf.drainLink (h : s.memWf) : s.drainLink.memWf := h.drainVc.drainVc.drainVc.drainVc
theorem State.memWf.mirror (h : s.memWf) {m} : (s.mirror m).memWf := memWf_ite h.linkSend h
theorem State.memWf.raiseLost (h : s.memWf) : s.raiseLost.memWf := h.same
theorem State.memWf.setLease (h : s.memWf) {i l} : (s.setLease i l).memWf := h.same
theorem State.memWf.setCeil (h : s.memWf) {i c} : (s.setCeil i c).memWf := h.same

theorem State.memWf.takeBlock (h : s.memWf) {i g} : (s.takeBlock i g).memWf :=
  memWf_ite h.setLease h.setLease.setPair.wr.wr

theorem State.memWf.raiseCeil (h : s.memWf) {i g} : (s.raiseCeil i g).memWf := memWf_ite h.setCeil.linkSend h

theorem State.memWf.grantBlock (h : s.memWf) {i toHome} : (s.grantBlock i toHome).memWf :=
  (memWf_ite h.raiseCeil h).setLease.raiseCeil.linkSend.then fun h1 => memWf_ite (memWf_ite h1.setLease h1.takeBlock) h1

theorem State.memWf.askBlock (h : s.memWf) {i} : (s.askBlock i).memWf :=
  memWf_ite h (memWf_ite h.grantBlock (memWf_ite h.setLease.linkSend h))

theorem State.memWf.leaseStall (h : s.memWf) {i} : (s.leaseStall i).memWf := memWf_ite h h.wr.inc.raise

theorem State.memWf.advanceLease (h : s.memWf) {i v} : (s.advanceLease i v).memWf := by
  unfold State.advanceLease
  extract_lets l size _ s1
  clear_value l size
  have hs1 : s1.memWf := by
    unfold s1
    refine memWf_ite h.setPair ?_
    split
    · exact h.setPair.wr.setLease.takeBlock
    · exact h.setPair.wr
  exact memWf_ite hs1.askBlock hs1

theorem State.memWf.drawLease (h : s.memWf) {i} : (s.drawLease i).1.memWf :=
  (memWf_ite h h.askBlock).then fun h1 => memWf_ite_fst (memWf_ite_fst h1 h1.advanceLease) h1.leaseStall

theorem State.memWf.leaseMsg (h : s.memWf) {i m} : (s.leaseMsg i m).memWf := by
  unfold State.leaseMsg
  extract_lets l
  clear_value l
  split
  · exact memWf_ite h.grantBlock h
  · exact memWf_ite h.setLease.linkSend h.setLease.takeBlock
  · exact memWf_ite h.setLease.takeBlock h
  · exact h.setCeil
  · exact memWf_ite h.setLease.setPair.wr h.setLease

theorem State.memWf.leaseAgain (h : s.memWf) : s.leaseAgain.memWf := by
  unfold State.leaseAgain
  refine h.foldl fun u _ hu => ?_
  split
  · exact hu.linkSend
  · exact hu.setLease

theorem State.memWf.leaseAlone (h : s.memWf) : s.leaseAlone.memWf := by
  unfold State.leaseAlone
  refine h.foldl fun u _ hu => ?_
  split
  · exact hu.setLease.takeBlock
  · exact hu

theorem State.memWf.setHome (h : s.memWf) {home} : (s.setHome home).memWf := h.same

theorem State.memWf.restartLease (h : s.memWf) {i pn} : (s.restartLease i pn).memWf :=
  h.setLease.setPair.wr.setCeil.linkSend.linkSend

/-! ### Machine/Macsec -/

theorem State.memWf.setKey (h : s.memWf) {slot k} : (s.setKey slot k).memWf := h.same
theorem State.memWf.setCph (h : s.memWf) {c} : (s.setCph c).memWf := h.same
theorem State.memWf.moveAn (h : s.memWf) {p a} : (s.moveAn p a).memWf := memWf_ite h.wr.restartLease h.wr

theorem State.memWf.nextPn (h : s.memWf) {p} : (s.nextPn p).1.memWf := by
  unfold State.nextPn
  extract_lets -merge +onlyGivenNames a
  clear_value a
  refine memWf_ite_fst h ?_
  refine memWf_ite_fst ?_ (memWf_ite_fst h.setCph (memWf_ite h.setRegN.setRegN h.setRegN))
  extract_lets -merge +onlyGivenNames r
  have hr : r.1.memWf := h.drawLease
  clear_value r
  split
  · exact memWf_ite_fst hr.setCph hr
  · exact hr
  · exact hr.setCph

theorem State.memWf.pnThreshold (h : s.memWf) {p a pn} : (s.pnThreshold p a pn).memWf := memWf_ite h.setCph.raise h
theorem State.memWf.scStop (h : s.memWf) {p} : (s.scStop p).memWf := memWf_ite h.job.inc h.job.inc.setCph.raise

theorem State.memWf.txDenied (h : s.memWf) {p an t} (ht : s.txDenied p an = some t) : t.memWf := by
  unfold State.txDenied at ht
  dsimp only at ht
  split at ht
  · cases ht
    exact h.same.job
  · split at ht
    · cases ht
      exact h.job
    · cases ht

theorem State.memWf.txUnder (h : s.memWf) {p an pn} : (s.txUnder p an pn).1.memWf :=
  h.pnThreshold.job.inc.then fun h1 => memWf_ite h1.inc h1

theorem State.memWf.txNumber (h : s.memWf) {p} : (s.txNumber p).1.memWf := by
  unfold State.txNumber
  extract_lets -merge +onlyGivenNames r
  have hr : r.1.memWf := h.nextPn
  clear_value r
  split
  · exact hr.txUnder
  · exact hr
  · extract_lets -merge +onlyGivenNames a
    clear_value a
    refine memWf_ite_fst ?_ hr.scStop
    extract_lets -merge +onlyGivenNames r2
    have hr2 : r2.1.memWf := hr.moveAn.nextPn
    clear_value r2
    split
    · exact hr2.txUnder
    · exact hr2
    · exact hr2.scStop

theorem State.memWf.msSelect (h : s.memWf) {p d} : (s.msSelect p d).1.memWf := by
  unfold State.msSelect
  refine memWf_ite_fst h (memWf_ite_fst h.scStop (memWf_ite_fst h.txNumber ?_))
  split
  · next ht => exact h.txDenied ht
  · exact h.txNumber

theorem State.memWf.msCheck (h : s.memWf) {p c t d strict} : (s.msCheck p c t d strict).1.memWf :=
  memWf_ite_fst h.inc.job (memWf_ite_fst h.inc (memWf_ite_fst (memWf_ite_fst h.job.inc h.job.inc) (memWf_ite_fst
    h.job.inc (h.job.inc.setRegN.then fun h1 => memWf_ite h1.setRegN h1))))

theorem State.memWf.msReceive (h : s.memWf) {p d} : (s.msReceive p d).1.memWf := by
  unfold State.msReceive
  extract_lets v strict
  clear_value v strict
  refine memWf_ite_fst h ?_
  refine memWf_ite_fst (memWf_ite_fst h.inc h.inc) ?_
  split
  · exact h.inc
  · extract_lets loose
    clear_value loose
    split
    · exact h.inc
    · exact memWf_ite_fst h.inc (memWf_ite_fst h.inc h.msCheck)

theorem State.memWf.txAnWrite (h : s.memWf) {p a} : (s.txAnWrite p a).memWf :=
  (memWf_ite h h.moveAn).then fun h1 => memWf_ite h1.setCph h1

/-! ### Machine/Mac -/

theorem State.memWf.stampPtp (h : s.memWf) {p d lc} : (s.stampPtp p d lc).memWf := by
  unfold State.stampPtp
  split
  · exact memWf_ite h.pushStamp h
  · exact h

theorem State.memWf.noteSync (h : s.memWf) {d} : (s.noteSync d).memWf := by
  unfold State.noteSync
  split
  · exact memWf_ite h.upd h
  · exact h

theorem State.memWf.setPaused (h : s.memWf) {p v} : (s.setPaused p v).memWf := memWf_ite h.wr.modPort h.wr

theorem State.memWf.pauseClass (h : s.memWf) {p c q} : (s.pauseClass p c q).memWf :=
  memWf_ite h.setPaused h.modPort.setPaused

theorem State.memWf.macControl (h : s.memWf) {p d good} : (s.macControl p d good).memWf :=
  memWf_ite h.inc (memWf_ite h.inc.inc (memWf_ite h.inc (memWf_ite (h.inc.foldl fun _ _ h => h.pauseClass)
    (h.inc.foldl fun _ _ h => memWf_ite h.pauseClass h))))

theorem State.memWf.releasePause (h : s.memWf) {p} : (s.releasePause p).memWf := h.same
theorem State.memWf.pauseExpiry (h : s.memWf) {p c} : (s.pauseExpiry p c).memWf := memWf_ite h.setPaused h

theorem State.memWf.pauseWdTrip (h : s.memWf) {p} : (s.pauseWdTrip p).memWf :=
  memWf_ite h (h.releasePause.inc.raise.then fun h1 => memWf_ite h1 h1.wr.modPort)

theorem State.memWf.pauseIgnoredEnd (h : s.memWf) {p} : (s.pauseIgnoredEnd p).memWf := memWf_ite h.wr h

theorem State.memWf.pauseRefresh (h : s.memWf) {p} : (s.pauseRefresh p).memWf :=
  memWf_ite h.updatePause h.updatePause.askPause.modPort

theorem State.memWf.startFrame (h : s.memWf) {p phase bytes pre} : (s.startFrame p phase bytes pre).memWf := by
  unfold State.startFrame
  extract_lets _ f s1
  have hs1 : s1.memWf := h.modPort
  clear_value f s1
  split
  · exact hs1.stampPtp
  · exact hs1

theorem State.memWf.stompLong (h : s.memWf) {id} : (s.stompLong id).memWf :=
  h.foldl fun _ _ h => h.countStomp.stompTx.inc

theorem State.memWf.dropFrame (h : s.memWf) {f} : (s.dropFrame f).memWf := memWf_ite h.returnCells h
theorem State.memWf.countRx (h : s.memWf) {p octets} : (s.countRx p octets).memWf := h.same

theorem State.memWf.endDecided (h : s.memWf) {p f raw e} : (s.endDecided p f raw e).memWf := by
  unfold State.endDecided
  extract_lets len s1 long s2 bad s3
  have hs1 : s1.memWf := h.refund
  have hs2 : s2.memWf := by
    unfold s2
    generalize long = l
    split
    · exact hs1.inc
    · exact hs1
  have hs3 : s3.memWf := by
    unfold s3
    generalize bad = b
    split
    · exact hs2.inc
    · exact hs2.countRx
  split
  · exact hs3
  · exact memWf_ite (memWf_ite hs3.fillCells hs3.fillCells.completePkt.stompLong) hs3.spoil

theorem State.memWf.acceptFrame (h : s.memWf) {p f d vid pcp dei slot} :
    (s.acceptFrame p f d vid pcp dei slot).memWf := memWf_ite h.fillCells h.fillCells.modPort

theorem State.memWf.controlEnd (h : s.memWf) {p f raw d e} : (s.controlEnd p f raw d e).memWf := h.macControl.dropFrame

theorem State.memWf.endUnsealed (h : s.memWf) {p f raw d} : (s.endUnsealed p f raw d).memWf := by
  unfold State.endUnsealed
  extract_lets r
  have hr : r.1.memWf := h.msReceive
  clear_value r
  split
  · exact hr.countRx.dropFrame
  · extract_lets plain s1
    have hs1 : s1.memWf := memWf_ite hr.stampPtp.noteSync hr
    clear_value plain s1
    split
    · exact hs1.inc.dropFrame
    · exact hs1.countRx.acceptFrame

theorem State.memWf.endPlain (h : s.memWf) {p f raw e} : (s.endPlain p f raw e).memWf := by
  unfold State.endPlain
  extract_lets d ms
  clear_value d ms
  refine memWf_ite ?_ ?_
  · refine memWf_ite h.inc.dropFrame ?_
    split
    · exact h.inc.dropFrame
    · exact h.endUnsealed
  · split
    · exact h.inc.dropFrame
    · exact h.controlEnd
    · split
      · exact h.inc.dropFrame
      · exact memWf_ite h.endUnsealed h.countRx.acceptFrame

theorem State.memWf.fragError (h : s.memWf) {p} : (s.fragError p).memWf := h.same

theorem State.memWf.endFrame (h : s.memWf) {p f e} : (s.endFrame p f e).memWf := by
  unfold State.endFrame
  extract_lets -merge +onlyGivenNames raw s1
  clear_value raw
  have hs1 : s1.memWf := by
    unfold s1
    refine memWf_ite ?_ h
    split
    · exact h.noteSync
    · exact h
  clear_value s1
  refine memWf_ite hs1 ?_
  refine memWf_ite ?_ (memWf_ite hs1.endDecided hs1.endPlain)
  extract_lets -merge +onlyGivenNames s2
  have hs2 : s2.memWf := hs1.fragError.refund
  clear_value s2
  split
  · exact hs2.spoil
  · exact hs2.dropFrame

theorem State.memWf.abandonHeld (h : s.memWf) {p} : (s.abandonHeld p).memWf := by
  unfold State.abandonHeld
  extract_lets m s1 one
  have hone : ∀ u f, u.memWf → (one u f).memWf := fun u f hu => by
    cases f with
    | none => exact hu
    | some f => exact hu.endFrame
  exact hone _ _ (hone _ _ h.modPort)

theorem State.memWf.continueFrame (h : s.memWf) {p f before bytes} : (s.continueFrame p f before bytes).memWf := by
  unfold State.continueFrame
  extract_lets all s1
  have hs1 : s1.memWf := h.modPort
  clear_value all s1
  split
  · exact hs1.modPkt.sealCells
  · exact hs1

theorem State.memWf.frameArrives (h : s.memWf) {p smd phase bytes} : (s.frameArrives p smd phase bytes).memWf := by
  unfold State.frameArrives
  split
  · exact h.startFrame
  · exact memWf_ite h.abandonHeld.startFrame h.inc
  · refine memWf_ite h.inc ?_
    split
    · exact h.continueFrame
    · exact memWf_ite h.continueFrame h.fragError
    · exact h.fragError
  · exact memWf_ite h.modPort h
  · exact memWf_ite h.wr h

theorem State.memWf.plcaTaken (h : s.memWf) {p} : (s.plcaTaken p).memWf := memWf_ite h h.modPort
theorem State.memWf.plcaYield (h : s.memWf) {p} : (s.plcaYield p).memWf := memWf_ite h h.modPort

theorem State.memWf.plcaSentOne (h : s.memWf) {p} : (s.plcaSentOne p).memWf :=
  memWf_ite h (memWf_ite h.modPort h.modPort.plcaYield)

theorem State.memWf.plcaBeaconLost (h : s.memWf) {p} : (s.plcaBeaconLost p).memWf := memWf_ite h.modPort.wr.inc.raise h
theorem State.memWf.plcaBeacon (h : s.memWf) {p} : (s.plcaBeacon p).memWf := memWf_ite h.wr.modPort h

theorem State.memWf.frameStartRx (h : s.memWf) {p smd preambleOk phase bytes} :
    (s.frameStartRx p smd preambleOk phase bytes).memWf := memWf_ite h (memWf_ite h.inc h.plcaTaken.frameArrives)

theorem State.memWf.frameEndRx (h : s.memWf) {p e} : (s.frameEndRx p e).memWf := by
  unfold State.frameEndRx
  split
  · exact h
  · exact h.plcaYield.modPort.endFrame

theorem State.memWf.noteKeepAlive (h : s.memWf) {p d} : (s.noteKeepAlive p d).memWf := memWf_ite h.setQlb h

theorem State.memWf.decideFrame (h : s.memWf) {p f} : (s.decideFrame p f).1.memWf := by
  unfold State.decideFrame
  extract_lets r f1
  have hr : r.1.memWf := h.noteKeepAlive.decide_
  clear_value r f1
  split
  · exact hr.returnCells
  · next d _ =>
    have hp : Pass.memWf (r.1.sctPass p f1 d) := hr.sctPass
    split
    · next hx =>
      rw [hx] at hp
      exact State.memWf.returnCells hp
    · next s2 t hx =>
      rw [hx] at hp
      have hs2 : s2.memWf := hp
      extract_lets a f2
      have ha : a.1.memWf := hs2.admitFrame
      clear_value a f2
      split
      · exact ha
      · exact ha

theorem State.memWf.countDecision (h : s.memWf) : s.countDecision.memWf := h.same
theorem State.memWf.countDiscard (h : s.memWf) : s.countDiscard.memWf := h.same

theorem State.memWf.forwardingDecision (h : s.memWf) {p} : (s.forwardingDecision p).memWf := by
  unfold State.forwardingDecision
  refine memWf_ite h ?_
  split
  · exact h.modPort.fillCells.then fun h1 => memWf_ite h1 h1.countDecision.decideFrame
  · split
    · exact h
    · extract_lets d
      clear_value d
      refine memWf_ite h ?_
      split
      · exact h.inc.modPort.returnCells.then fun h2 => memWf_ite h2 h2.countDiscard
      · exact h
      · exact h.countDecision.decideFrame.modPort

theorem State.memWf.stagingCellTake (h : s.memWf) {p} : (s.stagingCellTake p).memWf := by
  unfold State.stagingCellTake
  split
  · exact h
  · exact memWf_ite h h.fillCells.modPort

theorem State.memWf.startVerify (h : s.memWf) {p} : (s.startVerify p).memWf :=
  memWf_ite (memWf_ite h.wr h.wr.modPort) h.wr

theorem State.memWf.modeError (h : s.memWf) {p} : (s.modeError p).memWf := h.same
theorem State.memWf.setLink (h : s.memWf) {p up} : (s.setLink p up).memWf := h.same

theorem State.memWf.linkComesUp (h : s.memWf) {p speed full} : (s.linkComesUp p speed full).memWf :=
  memWf_ite h (memWf_ite (memWf_ite h h.modeError) (h.setLink.wr.wr.then fun h1 => (memWf_ite
    h1.drawFree.wr.modPort h1).modPort.then fun h2 => (memWf_ite h2.wr h2).startVerify.raise))

theorem State.memWf.establish (h : s.memWf) {p} : (s.establish p).memWf := memWf_ite h.modPort.wr.modPort h.modPort.wr
theorem State.memWf.enablePorts (h : s.memWf) : s.enablePorts.memWf := h.foldl fun _ _ h => memWf_ite h.establish h

theorem State.memWf.abortTx (h : s.memWf) {p} : (s.abortTx p).memWf := by
  unfold State.abortTx
  extract_lets m s1 one
  have hone : ∀ u f, u.memWf → (one u f).memWf := fun u f hu => by
    cases f with
    | none => exact hu
    | some f => exact hu.inc.unlink
  exact hone _ _ (hone _ _ h.modPort)

theorem State.memWf.linkGoesDown (h : s.memWf) {p} : (s.linkGoesDown p).memWf := by
  unfold State.linkGoesDown
  refine memWf_ite h ?_
  extract_lets m cut cur s1 s2 s3 s4 s5 s6 s7 s8
  have hcut : ∀ u f, u.memWf → (cut u f).memWf := fun u f hu => by
    cases f with
    | none => exact hu
    | some f => exact hu.endFrame
  have hs2 : s2.memWf := hcut _ _ (hcut _ _ h.modPort)
  have hs6 : s6.memWf := hs2.abortTx.releasePause.setLink.wr.wr.wr.modPort
  have hs8 : s8.memWf := (memWf_ite hs6.wr (memWf_ite hs6.establish hs6)).inc.raise
  exact memWf_ite hs8.flushMac hs8

theorem State.memWf.linkdownDiscard (h : s.memWf) {p} : (s.linkdownDiscard p).memWf := by
  unfold State.linkdownDiscard
  refine memWf_ite h ?_
  split
  · exact h
  · split
    · exact h
    · exact h.modPort.popHead.inc

theorem State.memWf.checkMode (h : s.memWf) {p changed} : (s.checkMode p changed).memWf :=
  memWf_ite h.wr (memWf_ite h.modeError h)

theorem State.memWf.macCtrlWrite (h : s.memWf) {p value} : (s.macCtrlWrite p value).memWf :=
  (memWf_ite h.linkGoesDown.writeFields h.writeFields).checkMode.then fun h1 => (memWf_ite h1.wr.wr (memWf_ite
    h1.establish h1)).then fun h2 => (memWf_ite h2.modPort h2).then fun h3 => memWf_ite h3.startVerify h3

theorem State.memWf.krTrainFailed (h : s.memWf) {p} : (s.krTrainFailed p).memWf := memWf_ite h.wr.modPort.raise h
theorem State.memWf.krRetry (h : s.memWf) {p} : (s.krRetry p).memWf := memWf_ite h.establish h
theorem State.memWf.calibrationDone (h : s.memWf) {p} : (s.calibrationDone p).memWf := memWf_ite h.modPort.wr h

theorem State.memWf.verifyTimer (h : s.memWf) {p} : (s.verifyTimer p).memWf :=
  memWf_ite h (memWf_ite h.modPort h.wr.raise)

theorem State.memWf.collision (h : s.memWf) {p} : (s.collision p).memWf := memWf_ite h.drawFree.inc.modPort h
theorem State.memWf.setCoord (h : s.memWf) : s.setCoord.memWf := h.foldl fun _ _ h => memWf_ite h.wr h.wr.modPort

theorem State.memWf.mdioStart (h : s.memWf) {value} : (s.mdioStart value).memWf :=
  memWf_ite h (memWf_ite h.writeFields.wr h.writeFields)

theorem State.memWf.mdioDone (h : s.memWf) {data} : (s.mdioDone data).memWf := memWf_ite (memWf_ite h.wr.wr h.wr) h

/-! ### Machine/Aud -/

theorem State.memWf.setAud (h : s.memWf) {a} : (s.setAud a).memWf := h.same
theorem State.memWf.setGain (h : s.memWf) {t r} : (s.setGain t r).memWf := h.same
theorem State.memWf.setDuck (h : s.memWf) {t r} : (s.setDuck t r).memWf := h.same
theorem State.memWf.setTap (h : s.memWf) {t w0 w1} : (s.setTap t w0 w1).memWf := memWf_ite h.setEntry h.setEntry.setGain
theorem State.memWf.audCommit (h : s.memWf) {i} : (s.audCommit i).memWf := memWf_ite h.setTap (memWf_ite h.setEntry h)
theorem State.memWf.enqueueChange (h : s.memWf) {c unitB own} : (s.enqueueChange c unitB own).memWf := h.same

theorem State.memWf.commitChange (h : s.memWf) {c} : (s.commitChange c).memWf :=
  memWf_ite h.wr.inc.raise (memWf_ite h.wr.inc.raise (memWf_ite h.wr.inc.raise h.wr.enqueueChange.mirror))

theorem State.memWf.chgCmd (h : s.memWf) {kind index} : (s.chgCmd kind index).memWf := h.commitChange

theorem State.memWf.audChange (h : s.memWf) {c} : (s.audChange c).memWf :=
  memWf_ite h.inc.raise ((memWf_ite h.inc.raise h).enqueueChange)

theorem State.memWf.applyEntry (h : s.memWf) {loc e} : (s.applyEntry loc e).1.memWf := by
  unfold State.applyEntry
  split
  · exact memWf_ite_fst h.setTap h
  · exact memWf_ite_fst h.setEntry h
  · exact h
  · exact memWf_ite_fst h h.setAud
  · exact memWf_ite_fst (memWf_ite_fst h.setAud h) (memWf_ite_fst h h.setAud)

theorem State.memWf.applyDue {loc : Bool} {p : Nat} {l : List AudEntry} : ∀ {s : State}, s.memWf →
    (s.applyDue loc p l).1.memWf := by
  induction l with
  | nil => exact fun h => h
  | cons e r ih => exact fun h => memWf_ite_fst h (ih h.applyEntry)

theorem State.memWf.applyChanges (h : s.memWf) {loc p} : (s.applyChanges loc p).memWf := h.applyDue.setAud
theorem State.memWf.applyOffset (h : s.memWf) {k} : (s.applyOffset k).memWf := h.setAud.foldl fun _ _ h => h.wr
theorem State.memWf.setConc (h : s.memWf) {loc x c} : (s.setConc loc x c).memWf := memWf_ite h.setAud h.setAud

theorem State.memWf.readNi (h : s.memWf) {loc x j} : (s.readNi loc x j).1.memWf := by
  unfold State.readNi
  split
  · exact h.setConc
  · exact (memWf_ite h (h.foldl fun _ _ h => h.inc)).setConc

theorem State.memWf.readSource (h : s.memWf) {loc code j} : (s.readSource loc code j).1.memWf := by
  unfold State.readSource
  refine memWf_ite_fst h.readNi ?_
  refine memWf_ite_fst h ?_
  refine memWf_ite_fst h ?_
  refine memWf_ite_fst ?_ h
  split
  · exact h
  · exact h.inc.raiseOnce

theorem State.memWf.readAll {loc : Bool} {j : Nat} {l : List Nat} : ∀ {s : State}, s.memWf →
    (s.readAll loc j l).1.memWf := by
  induction l with
  | nil => exact fun h => h
  | cons c r ih => exact fun h => ih h.readSource

theorem State.memWf.duckOut (h : s.memWf) {o mask} : (s.duckOut o mask).memWf :=
  h.setAud.foldl fun _ _ h => memWf_ite h h.setDuck

theorem State.memWf.stepRamps (h : s.memWf) {o} : (s.stepRamps o).memWf := h.foldl fun _ _ h => h.setGain.setDuck
theorem State.memWf.undduck (h : s.memWf) {o} : (s.undduck o).memWf := memWf_ite (h.foldl fun _ _ h => h.setDuck) h

theorem State.memWf.mixOut (h : s.memWf) {o newBlock skipped src} : (s.mixOut o newBlock skipped src).1.memWf :=
  (memWf_ite h.duckOut.setAud h).undduck.then fun h1 => (memWf_ite h1.inc h1).setAud.stepRamps

theorem State.memWf.mixAll {newBlock skipped : Bool} {src : Sparse Int} {l : List Nat} :
    ∀ {s : State}, s.memWf → (s.mixAll newBlock skipped src l).1.memWf := by
  induction l with
  | nil => exact fun h => h
  | cons o r ih => exact fun h => ih h.mixOut

theorem State.memWf.installSync (h : s.memWf) {a loc} : (s.installSync a loc).memWf :=
  (((h.foldl fun _ _ h => memWf_ite h.setEntry h).foldl fun _ _ h => memWf_ite h.setGain h).foldl fun _ _ h =>
    memWf_ite h.setDuck h).setAud.then fun h1 => memWf_ite h1.setAud h1.setAud

theorem State.memWf.trySync (h : s.memWf) {loc p} : (s.trySync loc p).memWf := by
  unfold State.trySync
  split
  · exact memWf_ite h.installSync h
  · exact h

theorem State.memWf.audSync (h : s.memWf) {a} : (s.audSync a).memWf := h.same

theorem State.memWf.meterLatch (h : s.memWf) {p} : (s.meterLatch p).memWf :=
  memWf_ite h (((h.foldl fun _ _ h => h.setRegN).foldl fun _ _ h => h.setRegN).setAud)

theorem State.memWf.digestAdd (h : s.memWf) {t p d} : (s.digestAdd t p d).memWf := memWf_ite h h.setAud
theorem State.memWf.talkerFrame (h : s.memWf) {t ch p} : (s.talkerFrame t ch p).memWf := h.inc.feed.digestAdd
theorem State.memWf.twinCompare (h : s.memWf) {t block} : (s.twinCompare t block).memWf := memWf_ite h.inc.raiseOnce h

theorem State.memWf.digestClose (h : s.memWf) {p} : (s.digestClose p).memWf :=
  memWf_ite h (h.foldl fun _ _ h => memWf_ite h.setAud.setAud.mirror.twinCompare h.setAud)

theorem State.memWf.twinDigest (h : s.memWf) {t block crc} : (s.twinDigest t block crc).memWf :=
  memWf_ite h.setAud.twinCompare h.setAud

theorem State.memWf.talkersOpen (h : s.memWf) {p} : (s.talkersOpen p).memWf := h.foldl fun _ _ h => memWf_ite h.setAud h

theorem State.memWf.talkersLeave (h : s.memWf) : s.talkersLeave.memWf := by
  unfold State.talkersLeave
  split
  · exact h
  · extract_lets ts s1
    clear_value ts
    have hs1 : s1.memWf := by
      unfold s1
      refine h.foldl fun u _ hu => ?_
      extract_lets spf
      clear_value spf
      split
      · exact memWf_ite hu.talkerFrame hu
      · exact hu
    exact hs1.digestClose

theorem State.memWf.liFallback (h : s.memWf) {j} : (s.liFallback j).memWf := by
  unfold State.liFallback
  refine memWf_ite h ?_
  refine h.foldl fun u _ hu => ?_
  split
  · exact hu.inc.setAud
  · exact hu

theorem State.memWf.networkPass (h : s.memWf) {p} : (s.networkPass p).memWf :=
  h.trySync.applyChanges.meterLatch.liFallback.readAll.mixAll.setAud.then fun h1 => (memWf_ite h1 h1.setAud).talkersOpen

theorem State.memWf.capture (h : s.memWf) {p} : (s.capture p).memWf :=
  h.foldl fun _ _ h => memWf_ite h ((memWf_ite h.storeWord h).setPair)

theorem State.memWf.localIndex (h : s.memWf) {p} : (s.localIndex p).memWf :=
  h.trySync.applyChanges.liFallback.readAll.mixAll.setAud.then fun h1 => (memWf_ite h1 h1.setAud).capture

theorem State.memWf.localPass (h : s.memWf) {k} : (s.localPass k).memWf := by
  unfold State.localPass
  extract_lets s1 p s2 keep los
  have hs1 : s1.memWf := h.applyOffset
  clear_value s1 p
  have hs2 : s2.memWf := by
    unfold s2
    refine memWf_ite hs1 ?_
    split
    · exact memWf_ite hs1 hs1.localIndex
    · exact hs1.localIndex
  exact hs2.setAud

theorem State.memWf.tdmCompare (h : s.memWf) {p strobe line} : (s.tdmCompare p strobe line).memWf :=
  memWf_ite h (memWf_ite h (h.inc.raiseOnce.mirror.then fun h1 => memWf_ite h1.wr.inc.raise h1))

theorem State.memWf.tdmEnd (h : s.memWf) {prev tin line} : (s.tdmEnd prev tin line).memWf :=
  h.foldl fun _ _ h => memWf_ite h ((memWf_ite h.setAud.mirror h.setAud).tdmCompare)

theorem State.memWf.tdmBegin (h : s.memWf) : s.tdmBegin.memWf := h.same

theorem State.memWf.tdmHandover (h : s.memWf) {k} : (s.tdmHandover k).memWf := by
  unfold State.tdmHandover
  split
  · exact memWf_ite h.setQlb h
  · exact h

theorem State.memWf.liFrame (h : s.memWf) {p strobe slots} : (s.liFrame p strobe slots).memWf := h.same

theorem State.memWf.audStrobe (h : s.memWf) {k prev tin line} : (s.audStrobe k prev tin line).memWf := by
  unfold State.audStrobe
  extract_lets s1 s2
  have hs1 : s1.memWf := by
    unfold s1
    split
    · exact h.tdmEnd
    · exact h
  have hs2 : s2.memWf := hs1.talkersLeave.tdmHandover.tdmBegin
  exact memWf_ite hs2.networkPass.localPass hs2

theorem State.memWf.audDiscontinuity (h : s.memWf) {next} : (s.audDiscontinuity next).memWf :=
  h.talkersLeave.setAud.inc.raise

theorem State.memWf.niArrive (h : s.memWf) {l x j v} : (s.niArrive l x j v).memWf :=
  memWf_ite h.inc (memWf_ite h.inc ((memWf_ite h.inc h).then fun h1 => memWf_ite h1 h1.setAud))

theorem State.memWf.autoRaise (h : s.memWf) {l m} : (s.autoRaise l m).memWf :=
  memWf_ite (memWf_ite h.commitChange h.commitChange.setAud.inc.raise) h

theorem State.memWf.marginSample (h : s.memWf) {l k} : (s.marginSample l k).memWf := h.setRegN.setRegN.autoRaise

theorem State.memWf.niFrame (h : s.memWf) {l ch len k d} : (s.niFrame l ch len k d).memWf :=
  h.foldl fun _ _ h => h.niArrive

theorem State.memWf.listen (h : s.memWf) {l d} : (s.listen l d).memWf := by
  unfold State.listen
  split
  · exact h.inc
  · split
    · exact h.inc
    · refine memWf_ite h.inc ?_
      refine memWf_ite h.inc.inc.marginSample ?_
      split
      · exact h.inc
      · exact h.inc.niFrame.marginSample

theorem State.memWf.listenerFrame (h : s.memWf) : s.listenerFrame.memWf := by
  unfold State.listenerFrame
  split
  · exact h
  · extract_lets s1
    have hs1 : s1.memWf := h.upd
    clear_value s1
    split
    · exact memWf_ite hs1.listen hs1
    · exact hs1

theorem State.memWf.marginClear (h : s.memWf) {l value} : (s.marginClear l value).memWf :=
  memWf_ite ((h.writeFields.setRegN.foldl fun _ _ h => h.setRegN).raise) h.writeFields

theorem State.memWf.wrEsiHi (h : s.memWf) {n value} : (s.wrEsiHi n value).memWf := h.writeFields.setAud
theorem State.memWf.audForwarding (h : s.memWf) : s.audForwarding.memWf := h.same

/-! ### Machine/Can -/

theorem State.memWf.setCan (h : s.memWf) {n c} : (s.setCan n c).memWf := h.same
theorem State.memWf.modCan (h : s.memWf) {n f} : (s.modCan n f).memWf := h.same
theorem State.memWf.setTb (h : s.memWf) {n k t} : (s.setTb n k t).memWf := h.same
theorem State.memWf.setFill (h : s.memWf) {n r v} : (s.setFill n r v).memWf := h.same

theorem State.memWf.ringStore {n r : Nat} {l : List Byte} : ∀ {s : State} {o : Nat}, s.memWf →
    (s.ringStore n r o l).memWf := by
  induction l with
  | nil => exact fun h => h
  | cons b l ih => exact fun h => ih h.store

theorem State.memWf.ringAppend (h : s.memWf) {n r e} : (s.ringAppend n r e).memWf := h.ringStore.setRegN.setFill
theorem State.memWf.fqPop (h : s.memWf) {n k} : (s.fqPop n k).memWf := h.same

theorem State.memWf.fqOffer (h : s.memWf) {n k src e} : (s.fqOffer n k src e).1.memWf :=
  memWf_ite_fst h.inc (memWf_ite_fst h.inc h.ringAppend)

theorem State.memWf.mirrorElems {n k : Nat} {l : List (List Byte)} : ∀ {s : State}, s.memWf →
    (s.mirrorElems n k l).memWf := by
  induction l with
  | nil => exact fun h => h
  | cons e r ih => exact fun h => ih h.mirror

theorem State.memWf.fqPut (h : s.memWf) {n k value} : (s.fqPut n k value).memWf :=
  memWf_ite h.inc (memWf_ite h.inc (memWf_ite h.inc (memWf_ite h.setRegN.setFill.mirrorElems h.setRegN.setFill)))

theorem State.memWf.flushRing (h : s.memWf) {n k} : (s.flushRing n k).memWf := h.same
theorem State.memWf.fqFlush (h : s.memWf) {n k} : (s.fqFlush n k).memWf := memWf_ite h.flushRing.mirror h.flushRing

theorem State.memWf.txEvent (h : s.memWf) {n k status tag sof} : (s.txEvent n k status tag sof).memWf :=
  (memWf_ite h.modCan.inc h.modCan).then fun h1 => memWf_ite h1.raiseLost h1

theorem State.memWf.retire (h : s.memWf) {n k status} : (s.retire n k status).memWf := by
  unfold State.retire
  split
  · exact h
  · exact h.setTb.wr.fqPop.txEvent

theorem State.memWf.tbLoad (h : s.memWf) {n k} : (s.tbLoad n k).memWf := by
  unfold State.tbLoad
  refine memWf_ite h ?_
  split
  · exact h
  · exact memWf_ite h.fqPop.inc.txEvent h.setTb

theorem State.memWf.ttFresh (h : s.memWf) {n} : (s.ttFresh n).memWf := memWf_ite h h.setCan

theorem State.memWf.ttLocate (h : s.memWf) {n} : (s.ttLocate n).memWf :=
  memWf_ite h.modCan.setRegN h.ttFresh.modCan.setRegN

theorem State.memWf.ttClose (h : s.memWf) {n w} : (s.ttClose n w).memWf :=
  memWf_ite h.inc.raiseOnce (memWf_ite h.inc.raise h)

theorem State.memWf.ttAdvance (h : s.memWf) {n} : (s.ttAdvance n).memWf := by
  unfold State.ttAdvance
  split
  · exact h.ttLocate
  · exact memWf_ite h.ttLocate (memWf_ite h h.ttClose.ttLocate)

theorem State.memWf.startFrameCan (h : s.memWf) {n} : (s.startFrameCan n).memWf := by
  unfold State.startFrameCan
  refine memWf_ite h ?_
  split
  · exact h
  · split
    · exact h
    · extract_lets s1 s2
      have hs1 : s1.memWf := h.setTb.wr
      have hs2 : s2.memWf := hs1.wr
      clear_value s1 s2
      split
      · exact memWf_ite (memWf_ite hs2.modCan.inc hs2.modCan) hs2
      · exact hs2

theorem State.memWf.canFrameStart (h : s.memWf) {n} : (s.canFrameStart n).memWf := h.wr.ttAdvance.startFrameCan

theorem State.memWf.trellisColumn (h : s.memWf) {n idle} : (s.trellisColumn n idle).memWf :=
  h.ttAdvance.wr.then fun h1 => memWf_ite h1 (memWf_ite h1.startFrameCan h1.modCan)

theorem State.memWf.trellisWrite (h : s.memWf) {n reg value} : (s.trellisWrite n reg value).memWf :=
  (memWf_ite h.writeFields.modCan h.writeFields).ttLocate

theorem State.memWf.trellisStep (h : s.memWf) : s.trellisStep.memWf := h.foldl fun _ _ h => h.ttLocate

theorem State.memWf.canCommit (h : s.memWf) {value} : (s.canCommit value).memWf :=
  memWf_ite h.setEntry (memWf_ite ((memWf_ite h.ttFresh h).setEntry) h)

theorem State.memWf.rxStore (h : s.memWf) {n m filter ns sec f} : (s.rxStore n m filter ns sec f).memWf :=
  memWf_ite h.inc (memWf_ite (memWf_ite h.inc h.inc.wr.raise) (memWf_ite h.ringAppend.wr.raise h.ringAppend.wr))

theorem State.memWf.routeCan (h : s.memWf) {n dst fq f} : (s.routeCan n dst fq f).memWf :=
  memWf_ite h.inc.inc (h.inc.fqOffer.then fun h1 => memWf_ite h1 h1.inc)

theorem State.memWf.toGlv (h : s.memWf) {chan f d wt} : (s.toGlv chan f d wt).memWf := h.same

theorem State.memWf.canFilter (h : s.memWf) {n ago f} : (s.canFilter n ago f).memWf := by
  unfold State.canFilter
  extract_lets t ns sec
  clear_value t ns sec
  split
  · exact memWf_ite h.inc.drawFree.rxStore h.inc
  · exact (memWf_ite h.rxStore h).then fun h1 => (memWf_ite h1.toGlv h1).then fun h2 => memWf_ite h2.routeCan h2

theorem State.memWf.mirrorRetire (h : s.memWf) {n f} : (s.mirrorRetire n f).memWf := by
  unfold State.mirrorRetire
  refine memWf_ite h ?_
  split
  · exact h.retire.inc
  · exact h

theorem State.memWf.ttSee (h : s.memWf) {n ago f} : (s.ttSee n ago f).memWf := by
  unfold State.ttSee
  split
  · exact h
  · exact memWf_ite h.modCan h

theorem State.memWf.canWait (h : s.memWf) {n times} : (s.canWait n times).memWf := h.same

theorem State.memWf.confine (h : s.memWf) {n} : (s.confine n).memWf :=
  memWf_ite h (memWf_ite h.wr.raise.detect (memWf_ite h.wr h))

theorem State.memWf.recoveryStart (h : s.memWf) {n} : (s.recoveryStart n).memWf := h.same

theorem State.memWf.busOff (h : s.memWf) {n} : (s.busOff n).memWf :=
  h.wr.wr.inc.raise.detect.then fun h1 => memWf_ite h1.recoveryStart h1

theorem State.memWf.recError (h : s.memWf) {n step} : (s.recError n step).memWf := memWf_ite h.inc.wr.confine h.inc

theorem State.memWf.disabledFormat (h : s.memWf) {n} : (s.disabledFormat n).memWf :=
  memWf_ite h.canWait.inc.raiseOnce h.recError

theorem State.memWf.cancelEnds (h : s.memWf) {n k} : (s.cancelEnds n k).memWf := by
  unfold State.cancelEnds
  split
  · exact h
  · exact h.retire.wr.inc.then fun h1 => memWf_ite h1.mirror h1

theorem State.memWf.missedFrame (h : s.memWf) {n} : (s.missedFrame n).memWf :=
  h.foldl fun _ _ h => memWf_ite h (memWf_ite h.cancelEnds (memWf_ite h.retire h.wr))

theorem State.memWf.dropStarts (h : s.memWf) {n} : (s.dropStarts n).memWf :=
  h.foldl fun _ _ h => memWf_ite h.cancelEnds h.wr

theorem State.memWf.arbitrationLost (h : s.memWf) {n} : (s.arbitrationLost n).memWf := memWf_ite h.inc.missedFrame h

theorem State.memWf.canError (h : s.memWf) {n kind} : (s.canError n kind).memWf := by
  unfold State.canError
  refine memWf_ite h ?_
  split
  · exact memWf_ite h (memWf_ite h.inc.missedFrame (memWf_ite h.inc.missedFrame.busOff h.inc.missedFrame.wr.confine))
  · exact memWf_ite h h.recError
  · exact memWf_ite h (memWf_ite h h.disabledFormat)

theorem State.memWf.recGood (h : s.memWf) {n} : (s.recGood n).memWf :=
  memWf_ite h (memWf_ite h.drawFree.wr.confine h.wr.confine)

theorem State.memWf.canReceived (h : s.memWf) {n ago frame} : (s.canReceived n ago frame).memWf :=
  memWf_ite h (memWf_ite h.disabledFormat h.inc.recGood.ttSee.canFilter.mirrorRetire.wr)

theorem State.memWf.canSent (h : s.memWf) {n} : (s.canSent n).memWf := by
  unfold State.canSent
  split
  · exact h
  · split
    · exact h
    · exact (memWf_ite h.wr h).retire.inc.then fun h1 => (memWf_ite h1.inc h1).wr.then fun h2 => (memWf_ite
        h2.wr.confine h2).then fun h3 => memWf_ite h3.inc.canFilter h3

theorem State.memWf.cfgError (h : s.memWf) {n} : (s.cfgError n).memWf := h.same

theorem State.memWf.enterMode (h : s.memWf) {n m} : (s.enterMode n m).memWf :=
  memWf_ite h.wr.dropStarts.wr.wr.wr.modCan (memWf_ite h.wr.canWait h.wr)

theorem State.memWf.modeChange (h : s.memWf) {n} : (s.modeChange n).memWf := memWf_ite h (memWf_ite h h.enterMode)
theorem State.memWf.canCheck (h : s.memWf) {n bad} : (s.canCheck n bad).memWf := memWf_ite h.cfgError h.wr

theorem State.memWf.canCtrlWrite (h : s.memWf) {n value} : (s.canCtrlWrite n value).memWf :=
  h.writeFields.canCheck.then fun h1 => memWf_ite h1.enterMode h1

theorem State.memWf.bitTimingWrite (h : s.memWf) {n reg value} : (s.bitTimingWrite n reg value).memWf :=
  memWf_ite h.writeFields.canCheck h.cfgError

theorem State.memWf.ringCfgWrite (h : s.memWf) {n r value} : (s.ringCfgWrite n r value).memWf := h.writeFields.canCheck
theorem State.memWf.rxqGetWrite (h : s.memWf) {n m value} : (s.rxqGetWrite n m value).memWf := h.writeFields.setFill
theorem State.memWf.canRecover (h : s.memWf) {n value} : (s.canRecover n value).memWf := memWf_ite h.recoveryStart h
theorem State.memWf.busOffRecovery (h : s.memWf) {n} : (s.busOffRecovery n).memWf := memWf_ite h.wr.wr.wr.modCan h

theorem State.memWf.cancelTb (h : s.memWf) {n k} : (s.cancelTb n k).memWf :=
  memWf_ite h (memWf_ite h.wr h.cancelEnds.tbLoad)

theorem State.memWf.tbCancel (h : s.memWf) {n value} : (s.tbCancel n value).memWf :=
  h.foldl fun _ _ h => memWf_ite h.cancelTb h

theorem State.memWf.mirrorExpired (h : s.memWf) {n k} : (s.mirrorExpired n k).memWf := by
  unfold State.mirrorExpired
  extract_lets age
  clear_value age
  split
  · exact memWf_ite h.retire.inc h
  · exact h

theorem State.memWf.canAppend (h : s.memWf) {n k e} : (s.canAppend n k e).memWf :=
  memWf_ite h.inc (memWf_ite h.inc h.ringAppend)

theorem State.memWf.fqRewrite (h : s.memWf) {n k l} : (s.fqRewrite n k l).memWf :=
  h.setRegN.setFill.foldl fun _ _ h => h.ringAppend

theorem State.memWf.canCancel (h : s.memWf) {n k tag ident} : (s.canCancel n k tag ident).memWf :=
  memWf_ite h.retire.inc (memWf_ite h.fqRewrite.inc.txEvent h)

theorem State.memWf.canDuty (h : s.memWf) : s.canDuty.memWf := by
  unfold State.canDuty
  refine h.foldl fun u _ hu => ?_
  refine memWf_ite hu ?_
  refine hu.foldl fun u1 _ hu1 => ?_
  split
  · exact hu1.setTb
  · exact hu1

theorem State.memWf.canSyncClear (h : s.memWf) : s.canSyncClear.memWf :=
  h.foldl fun _ _ h => memWf_ite h (h.foldl fun _ _ h => memWf_ite h h.setTb.wr.setRegN.setFill)

/-! ### Machine/Cfg -/

theorem State.memWf.writeBootRec (h : s.memWf) {r} : (s.writeBootRec r).memWf := by
  unfold State.writeBootRec
  split <;> exact h.erase.program

theorem State.memWf.confirmTrial (h : s.memWf) : s.confirmTrial.memWf := by
  unfold State.confirmTrial
  split
  · exact memWf_ite h.writeBootRec.wr h
  · exact h

theorem State.memWf.trialConfirm (h : s.memWf) : s.trialConfirm.memWf := by
  unfold State.trialConfirm
  split
  · exact memWf_ite h.confirmTrial h
  · exact h

theorem State.memWf.takeBaseline (h : s.memWf) : s.takeBaseline.memWf := h.same

theorem State.memWf.scrubGroup (h : s.memWf) {disturbed i g base} : (s.scrubGroup disturbed i g base).memWf :=
  memWf_ite h (memWf_ite h.wr.raise.failSilent h.wr.incSat.detect)

theorem State.memWf.configurationScrub (h : s.memWf) {disturbed} : (s.configurationScrub disturbed).memWf :=
  memWf_ite h (h.upd.foldl fun _ _ h => memWf_ite h h.scrubGroup)

theorem State.memWf.censusPut (h : s.memWf) {i mac number fp viaHb} : (s.censusPut i mac number fp viaHb).memWf :=
  h.same

theorem State.memWf.censusReport (h : s.memWf) {mac number fp viaHb} : (s.censusReport mac number fp viaHb).memWf := by
  unfold State.censusReport
  refine memWf_ite h ?_
  split
  · exact h.censusPut
  · split
    · exact h.censusPut
    · exact memWf_ite h.wr h.wr.upd.raise

theorem State.memWf.censusCount (h : s.memWf) : s.censusCount.memWf := h.same

theorem State.memWf.censusJudge (h : s.memWf) {first} : (s.censusJudge first).memWf :=
  memWf_ite h.wr.raise (memWf_ite h.wr.raise h.wr)

theorem State.memWf.censusEvaluate (h : s.memWf) : s.censusEvaluate.memWf :=
  memWf_ite h (memWf_ite h.upd.censusCount.censusJudge h.upd.censusCount)

theorem State.memWf.censusSettle (h : s.memWf) : s.censusSettle.memWf := by
  unfold State.censusSettle
  split
  · exact memWf_ite h h.upd.censusCount.censusJudge
  · exact h

theorem State.memWf.censusAge (h : s.memWf) {i} : (s.censusAge i).memWf :=
  memWf_ite h ((h.foldl fun _ _ h => h.setRegN).wr.upd)

theorem State.memWf.setStage (h : s.memWf) {v} : (s.setStage v).memWf := h.same

theorem State.memWf.stageBegin (h : s.memWf) : s.stageBegin.1.memWf :=
  memWf_ite_fst h (memWf_ite_fst h h.erase.wr.wr.setStage)

theorem State.memWf.stageWrite (h : s.memWf) {offset b} : (s.stageWrite offset b).1.memWf := by
  unfold State.stageWrite
  split
  · exact memWf_ite_fst h (memWf_ite_fst h h.program.wr)
  · exact h
  · exact h

theorem State.memWf.stageVerify (h : s.memWf) : s.stageVerify.1.memWf := by
  unfold State.stageVerify
  split
  · exact h.setStage
  · exact h
  · exact h

theorem State.memWf.stageCheckDone (h : s.memWf) : s.stageCheckDone.memWf :=
  memWf_ite h (memWf_ite h.wr.wr.setPair.setStage h.wr.setStage)

theorem State.memWf.arm (h : s.memWf) : s.arm.1.memWf := memWf_ite_fst h h.writeBootRec.setStage
theorem State.memWf.disarm (h : s.memWf) : s.disarm.1.memWf := memWf_ite_fst h h.writeBootRec.setStage

theorem State.memWf.stageAbort (h : s.memWf) : s.stageAbort.1.memWf := by
  unfold State.stageAbort
  split
  · exact h
  · exact h.writeBootRec.setStage
  · exact h.setStage.wr

/-! ### Machine/Bridge -/

theorem State.memWf.busError (h : s.memWf) {e addr write cause} : (s.busError e addr write cause).memWf := h.same
theorem State.memWf.setRdata (h : s.memWf) {e v} : (s.setRdata e v).memWf := h.same
theorem State.memWf.setGuard (h : s.memWf) {e g} : (s.setGuard e g).memWf := h.same
theorem State.memWf.issue (h : s.memWf) {r} : (s.issue r).memWf := h.setQlb.linkSend

theorem State.memWf.request (h : s.memWf) {r} : (s.request r).memWf := by
  unfold State.request
  split
  · exact h.issue
  · exact h.setQlb

theorem State.memWf.unstall (h : s.memWf) : s.unstall.memWf := h.setQlb.foldl fun _ _ h => h.request
theorem State.memWf.dropReq (h : s.memWf) {r} : (s.dropReq r).memWf := h.same
theorem State.memWf.readFails (h : s.memWf) {e addr status} : (s.readFails e addr status).memWf := h.same

theorem State.memWf.farError (h : s.memWf) {e addr status atomic} : (s.farError e addr status atomic).memWf :=
  (memWf_ite h.setQlb.inc h.setQlb).then fun h1 => (memWf_ite h1.raiseLost h1).setRegN.inc.raise

theorem State.memWf.fenceDone (h : s.memWf) {e} : (s.fenceDone e).memWf := h.same
theorem State.memWf.endFences (h : s.memWf) : s.endFences.memWf := h.foldl fun _ _ h => memWf_ite h h.fenceDone
theorem State.memWf.setHeld (h : s.memWf) {sem v} : (s.setHeld sem v).memWf := h.same
theorem State.memWf.guardEnds (h : s.memWf) {e g} : (s.guardEnds e g).memWf := h.same

theorem State.memWf.guardLocal (h : s.memWf) {g} : (s.guardLocal g).1.memWf := by
  unfold State.guardLocal
  extract_lets old g1
  clear_value old g1
  split
  · exact h.storeWord
  · exact h

theorem State.memWf.guardGranted (h : s.memWf) {e g} : (s.guardGranted e g).1.memWf :=
  memWf_ite_fst h.setGuard.request h.guardLocal

theorem State.memWf.guardRelease (h : s.memWf) {e g} : (s.guardRelease e g).memWf :=
  memWf_ite h.setGuard.request h.setHeld.guardEnds

theorem State.memWf.takeSems {n : Nat} : ∀ {s : State}, s.memWf → (s.takeSems n).memWf := by
  induction n with
  | zero => exact fun h => h
  | succ n ih =>
    intro s h
    unfold State.takeSems
    split
    · exact h
    · split
      · exact h
      · dsimp only
        split
        · exact ih h.same.guardGranted
        · exact ih h.same.guardGranted.guardRelease

theorem State.memWf.bridgeGoesOn (h : s.memWf) : s.bridgeGoesOn.memWf :=
  (memWf_ite h.unstall h.unstall.takeSems).endFences

theorem State.memWf.guardFails (h : s.memWf) {e g status} : (s.guardFails e g status).memWf :=
  (memWf_ite h.farError h).setGuard.busError.then fun h1 => (memWf_ite
    h1.setRegN.setRegN.inc h1).then fun h2 => memWf_ite h2 (memWf_ite h2.request h2.setHeld)

theorem State.memWf.startGuard (h : s.memWf) {e g} : (s.startGuard e g).memWf :=
  memWf_ite (memWf_ite h.busError h.guardLocal.guardEnds) (memWf_ite h.setGuard.request h.setGuard.takeSems)

theorem State.memWf.linkTaken (h : s.memWf) {vc} : (s.linkTaken vc).memWf :=
  (memWf_ite h.inc.linkJob.inc h.inc.linkJob).setQlb

theorem State.memWf.readRsp (h : s.memWf) {tag status data} : (s.readRsp tag status data).memWf := by
  unfold State.readRsp
  refine memWf_ite h ?_
  extract_lets s1
  have hs1 : s1.memWf := h.linkTaken
  clear_value s1
  split
  · exact hs1
  · extract_lets s2 _ _ s3
    have hs2 : s2.memWf := hs1.dropReq
    clear_value s2
    have hs3 : s3.memWf := by
      unfold s3
      split
      · refine memWf_ite hs2.guardFails ?_
        extract_lets g
        clear_value g
        split
        · exact hs2.setGuard.request
        · exact hs2.guardRelease
      · exact memWf_ite hs2.readFails (memWf_ite hs2.setRdata.setQlb hs2.setRdata)
    exact hs3.bridgeGoesOn

theorem State.memWf.writeAck (h : s.memWf) {tag status} : (s.writeAck tag status).memWf := by
  unfold State.writeAck
  refine memWf_ite h ?_
  extract_lets s1
  have hs1 : s1.memWf := h.linkTaken
  clear_value s1
  split
  · exact hs1
  · extract_lets s2 s3
    have hs2 : s2.memWf := hs1.dropReq
    clear_value s2
    have hs3 : s3.memWf := by
      unfold s3
      split
      · exact memWf_ite hs2.guardFails hs2.guardRelease
      · exact memWf_ite hs2.farError hs2
    exact hs3.bridgeGoesOn

theorem State.memWf.semRsp (h : s.memWf) {tag status} : (s.semRsp tag status).memWf := by
  unfold State.semRsp
  refine memWf_ite h ?_
  extract_lets s1
  have hs1 : s1.memWf := h.linkTaken
  clear_value s1
  split
  · exact hs1
  · refine memWf_ite hs1.dropReq.setQlb ?_
    extract_lets s2 s3
    have hs2 : s2.memWf := hs1.dropReq
    clear_value s2
    have hs3 : s3.memWf := by
      unfold s3
      split
      · exact hs2
      · refine memWf_ite hs2.guardEnds ?_
        refine memWf_ite hs2.guardFails ?_
        extract_lets x
        have hx : x.1.memWf := hs2.guardGranted
        clear_value x
        split
        · exact hx
        · exact hx.guardRelease
    exact hs3.bridgeGoesOn

theorem State.memWf.semRetry (h : s.memWf) {tag} : (s.semRetry tag).memWf := by
  unfold State.semRetry
  split
  · exact h
  · exact memWf_ite h.dropReq.issue.inc h

theorem State.memWf.bridgeTimeout (h : s.memWf) {tag} : (s.bridgeTimeout tag).memWf := by
  unfold State.bridgeTimeout
  extract_lets us
  clear_value us
  split
  · exact h
  · refine memWf_ite h ?_
    extract_lets s1 s2
    have hs1 : s1.memWf := h.dropReq
    clear_value s1
    have hs2 : s2.memWf := by
      unfold s2
      split
      · exact hs1.guardFails
      · exact memWf_ite hs1.farError (memWf_ite hs1.readFails hs1)
    exact hs2.bridgeGoesOn

theorem State.memWf.bridgeDown (h : s.memWf) : s.bridgeDown.memWf := by
  unfold State.bridgeDown
  extract_lets l w _ s1 s2 s3 s4
  have hs1 : s1.memWf := h.setQlb
  have hs2 : s2.memWf := hs1.foldl fun _ _ h => memWf_ite h (memWf_ite h.farError h.readFails)
  have hs3 : s3.memWf := hs2.foldl fun _ _ h => memWf_ite h (memWf_ite h.farError h.readFails)
  clear_value l w s1 s2 s3
  have hs4 : s4.memWf := by
    unfold s4
    refine hs3.foldl fun u _ hu => ?_
    split
    · exact hu
    · exact memWf_ite hu.guardEnds (memWf_ite hu.guardFails hu.guardLocal.guardEnds)
  exact hs4.setRegN.endFences

theorem State.memWf.respond (h : s.memWf) {kind tag status data} : (s.respond kind tag status data).memWf :=
  memWf_ite h.linkSend h.emit

theorem State.memWf.bridgeRead (h : s.memWf) {tag size addr} : (s.bridgeRead tag size addr).memWf :=
  memWf_ite h (memWf_ite h.linkTaken.respond (memWf_ite h.linkTaken.respond (memWf_ite h.linkTaken.respond
    h.linkTaken.inc.respond)))

theorem State.memWf.bridgeWrite (h : s.memWf) {tag size addr data} : (s.bridgeWrite tag size addr data).memWf :=
  memWf_ite h (memWf_ite h.linkTaken.respond (memWf_ite h.linkTaken.respond (memWf_ite h.linkTaken.store.respond
    h.linkTaken.inc.respond)))

theorem State.memWf.semAcq (h : s.memWf) {tag sem} : (s.semAcq tag sem).memWf :=
  memWf_ite h (memWf_ite h.linkTaken.respond (memWf_ite h.linkTaken.respond h.linkTaken.setHeld.setQlb.respond))

theorem State.memWf.semRel (h : s.memWf) {tag sem} : (s.semRel tag sem).memWf :=
  memWf_ite h (memWf_ite h.linkTaken.respond ((memWf_ite h.linkTaken.setHeld.setQlb h.linkTaken).respond.takeSems))

theorem State.memWf.engineLoad (h : s.memWf) {e addr size} : (s.engineLoad e addr size).memWf := by
  unfold State.engineLoad
  refine memWf_ite h ?_
  split
  · exact memWf_ite h.readFails h.request
  · exact h.setRdata
  · exact h.setRdata
  · exact h.setRdata
  · exact h.setRdata
  · exact h.busError
  · exact h
  · exact h

theorem State.memWf.engineStore (h : s.memWf) {e addr data size} : (s.engineStore e addr data size).memWf := by
  unfold State.engineStore
  refine memWf_ite h ?_
  split
  · exact memWf_ite h.farError h.request
  · exact h.store
  · exact h.store
  · exact h.busError
  · exact h.busError
  · exact h.busError
  · exact h.busError
  · exact h

theorem State.memWf.fenceRead (h : s.memWf) {e f} : (s.fenceRead e f).memWf :=
  memWf_ite h (memWf_ite h.setRdata (memWf_ite h.setQlb h.fenceDone))

theorem State.memWf.loadReserved (h : s.memWf) {e addr} : (s.loadReserved e addr).memWf :=
  memWf_ite h (memWf_ite h.busError (memWf_ite (memWf_ite h.readFails h.request) (memWf_ite h.setRdata.setQlb
    (memWf_ite h.setRdata.upd h.busError))))

theorem State.memWf.storeConditional (h : s.memWf) {e addr data} : (s.storeConditional e addr data).memWf := by
  unfold State.storeConditional
  refine memWf_ite h ?_
  refine memWf_ite h.busError ?_
  refine memWf_ite ?_ (memWf_ite (memWf_ite h.upd.storeWord.setRdata h.upd.setRdata) h.busError)
  extract_lets lr _ s1
  have hs1 : s1.memWf := h.setQlb
  clear_value lr s1
  split
  · exact memWf_ite hs1.startGuard hs1.setRdata
  · exact hs1.setRdata

theorem State.memWf.amo (h : s.memWf) {e op addr data} : (s.amo e op addr data).memWf :=
  memWf_ite h (memWf_ite h.busError (memWf_ite h.startGuard (memWf_ite h.storeWord.setRdata h.busError)))

/-! ### Machine/Cph -/

theorem State.memWf.retireKey (h : s.memWf) {slot bank} : (s.retireKey slot bank).memWf :=
  memWf_ite h (memWf_ite h.setCph h.inc)

theorem State.memWf.writeKey (h : s.memWf) {slot mode b} : (s.writeKey slot mode b).memWf := h.retireKey.setCph.setKey
theorem State.memWf.eraseKey (h : s.memWf) {slot} : (s.eraseKey slot).memWf := h.retireKey.setKey
theorem State.memWf.keyErase (h : s.memWf) {value} : (s.keyErase value).memWf := memWf_ite h.eraseKey h
theorem State.memWf.cphKsSel (h : s.memWf) {value} : (s.cphKsSel value).memWf := h.same
theorem State.memWf.refreshPairs (h : s.memWf) : s.refreshPairs.memWf := h.same

theorem State.memWf.pickPair (h : s.memWf) {but} : (s.pickPair but).1.memWf := by
  unfold State.pickPair
  extract_lets l
  clear_value l
  split
  · exact h
  · exact h.drawFree

theorem State.memWf.dispatchJob (h : s.memWf) {e ops} : (s.dispatchJob e ops).memWf := by
  unfold State.dispatchJob
  split
  · exact h
  · refine memWf_ite h ?_
    extract_lets r slot p
    have hp : p.1.memWf := h.pickPair
    clear_value r slot p
    split
    · exact h
    · exact (memWf_ite hp.inc.raiseOnce hp).setCph

theorem State.memWf.endDescriptor (h : s.memWf) {e i gen status} : (s.endDescriptor e i gen status).memWf := by
  unfold State.endDescriptor
  extract_lets s1
  have hs1 : s1.memWf := by
    unfold s1
    split
    · exact h.storeWord
    · exact h
  exact hs1.storeWord.wr

theorem State.memWf.releaseJob (h : s.memWf) {j} : (s.releaseJob j).memWf := by
  unfold State.releaseJob
  extract_lets _ s1 s2 s3 s4
  have hs1 : s1.memWf := h.setCph
  have hs2 : s2.memWf := hs1.foldl fun _ _ h => h.store
  clear_value s1 s2
  have hs3 : s3.memWf := by
    unfold s3
    split
    · exact hs2.writeKey
    · exact hs2
  have hs4 : s4.memWf := hs3.endDescriptor.job
  exact hs4.wr

theorem State.memWf.abortRing {e n : Nat} : ∀ {s : State}, s.memWf → (s.abortRing e n).memWf := by
  induction n with
  | zero => exact fun h => h
  | succ n ih => exact fun h => memWf_ite h (ih h.endDescriptor.job.wr)

theorem State.memWf.tryAbort (h : s.memWf) {e} : (s.tryAbort e).memWf := memWf_ite h.abortRing.setCph.wr h

theorem State.memWf.releaseReady {e n : Nat} : ∀ {s : State}, s.memWf → (s.releaseReady e n).memWf := by
  induction n with
  | zero => exact fun h => h
  | succ n ih =>
    intro s h
    unfold State.releaseReady
    split
    · exact h
    · exact memWf_ite (ih h.releaseJob) h

theorem State.memWf.settleRings (h : s.memWf) : s.settleRings.memWf :=
  (h.foldl fun _ _ h => h.releaseReady.tryAbort).refreshPairs

theorem State.memWf.setJob (h : s.memWf) {old new} : (s.setJob old new).memWf := h.same
theorem State.memWf.noPair (h : s.memWf) : s.noPair.memWf := memWf_ite h.failSilent h

theorem State.memWf.pairDiffers (h : s.memWf) {c} : (s.pairDiffers c).memWf :=
  h.inc.raise.detector.then fun h1 => memWf_ite h1.wr.raise.pickPair.setCph h1

theorem State.memWf.jobComplete (h : s.memWf) {e differs} : (s.jobComplete e differs).memWf := by
  unfold State.jobComplete
  split
  · exact h
  · refine memWf_ite h.setJob.settleRings.noPair ?_
    extract_lets -merge +onlyGivenNames failed
    clear_value failed
    refine memWf_ite h.setJob.pairDiffers.settleRings.noPair ?_
    extract_lets -merge +onlyGivenNames p
    have hp : p.1.memWf := h.pickPair
    clear_value p
    split
    · exact hp.setJob.pairDiffers.settleRings.noPair
    · exact h.setJob.pairDiffers.settleRings.noPair

theorem State.memWf.ringPut (h : s.memWf) {e value} : (s.ringPut e value).memWf := h.writeFields
theorem State.memWf.ringAbort (h : s.memWf) {e} : (s.ringAbort e).memWf := h.setCph.tryAbort

theorem State.memWf.ringCtrlWrite (h : s.memWf) {e value} : (s.ringCtrlWrite e value).memWf :=
  memWf_ite h.writeFields.ringAbort h.writeFields

theorem State.memWf.keyDestroyed (h : s.memWf) {slot} : (s.keyDestroyed slot).memWf :=
  memWf_ite h h.setCph.add.settleRings

theorem State.memWf.pairEnWrite (h : s.memWf) {value} : (s.pairEnWrite value).memWf := h.writeFields.refreshPairs.noPair

theorem State.memWf.zeroise (h : s.memWf) : s.zeroise.memWf :=
  ((h.foldl fun _ _ h => h.endDescriptor.job.wr).add.setCph.foldl fun _ _ h => h.eraseKey).upd

theorem State.memWf.keyEccLost (h : s.memWf) {slot} : (s.keyEccLost slot).memWf := h.setCph.eraseKey.settleRings

/-! ### Machine/Egs -/

theorem State.memWf.listHeaderCommit (h : s.memWf) {n} : (s.listHeaderCommit n).memWf :=
  memWf_ite h.wr.raise.upd (memWf_ite h.setEntry.upd.setGlist.wr (memWf_ite h.setEntry.upd.setGlist.wr.upd
    h.setEntry.upd.refreshList.wr))

theorem State.memWf.gateEntryCommit (h : s.memWf) {i} : (s.gateEntryCommit i).memWf :=
  h.setEntry.wr.upd.foldl fun _ _ h => memWf_ite h.setGlist h

theorem State.memWf.egsCommit (h : s.memWf) {value} : (s.egsCommit value).memWf :=
  memWf_ite h.listHeaderCommit (memWf_ite h.gateEntryCommit h)

theorem State.memWf.egsListSel (h : s.memWf) {value} : (s.egsListSel value).memWf := h.same

theorem State.memWf.gateEvent (h : s.memWf) {n} : (s.gateEvent n).memWf := by
  unfold State.gateEvent
  extract_lets l
  clear_value l
  split
  · exact memWf_ite h.setGlist h
  · exact h

theorem State.memWf.testRest (h : s.memWf) {q} : (s.testRest q).memWf := by
  unfold State.testRest
  extract_lets p
  clear_value p
  split
  · exact memWf_ite h.modPort.raiseNeverFits.inc.unlink h
  · exact h

theorem State.memWf.testHead (h : s.memWf) {q} : (s.testHead q).memWf := by
  unfold State.testHead
  extract_lets s1
  have hs1 : s1.memWf := h.testRest
  clear_value s1
  split
  · exact hs1
  · exact memWf_ite hs1.unlink.inc.raiseNeverFits hs1

theorem State.memWf.listChanged (h : s.memWf) {n} : (s.listChanged n).memWf :=
  (memWf_ite h.wr.upd h).raise.foldl fun _ _ h => h.foldl fun _ _ h => h.testHead

theorem State.memWf.changeInstant (h : s.memWf) {n} : (s.changeInstant n).memWf := memWf_ite h.setGlist.listChanged h

theorem State.memWf.relocateLists (h : s.memWf) : s.relocateLists.memWf :=
  h.foldl fun _ _ h => memWf_ite (memWf_ite h.setGlist.listChanged h.setGlist) h

theorem State.memWf.setQCredit (h : s.memWf) {q c} : (s.setQCredit q c).memWf := h.same

theorem State.memWf.tickCredit (h : s.memWf) {q} : (s.tickCredit q).memWf :=
  memWf_ite h.setQCredit (memWf_ite h (memWf_ite h.setQCredit (memWf_ite h.setQCredit (memWf_ite h.setQCredit
    h.setQCredit))))

theorem State.memWf.tickShapers (h : s.memWf) : s.tickShapers.memWf := h.foldl fun _ _ h => h.tickCredit

theorem State.memWf.shaperWrite (h : s.memWf) {q burst value} : (s.shaperWrite q burst value).memWf :=
  memWf_ite h.writeFields (memWf_ite h.writeFields.setQCredit h.writeFields)

theorem State.memWf.countWait (h : s.memWf) {q c} : (s.countWait q c).memWf := memWf_ite h h.setQueue.inc

theorem State.memWf.eligible (h : s.memWf) {q} : (s.eligible q).1.memWf := by
  unfold State.eligible
  split
  · exact h
  · exact memWf_ite_fst h (memWf_ite_fst h (memWf_ite_fst h h.countWait))

theorem State.memWf.select {p : Nat} {l : List Nat} : ∀ {s : State}, s.memWf → (s.select p l).1.memWf := by
  induction l with
  | nil => exact fun h => h
  | cons t r ih =>
    intro s h
    unfold State.select
    dsimp only
    split
    · exact h.eligible
    · exact ih h.eligible

theorem State.memWf.delaySample (h : s.memWf) {q c} : (s.delaySample q c).memWf :=
  h.setRegN.foldl fun _ _ h => memWf_ite h.setRegN.setRegN h

theorem State.memWf.cellError (h : s.memWf) {cell ecc} : (s.cellError cell ecc).memWf := h.drawFree.inc.raiseFull.detect

theorem State.memWf.beginTx (h : s.memWf) {p q c} : (s.beginTx p q c).memWf := by
  unfold State.beginTx
  extract_lets -merge +onlyGivenNames pk d long
  clear_value pk d long
  refine memWf_ite h.inc.popHead ?_
  extract_lets -merge +onlyGivenNames sec
  have hsec : sec.1.memWf := h.msSelect
  clear_value sec
  split
  · exact hsec.popHead
  · exact hsec
  · extract_lets -merge +onlyGivenNames s1 sdu bad tx s2 s3 s4 s5
    have hs1 : s1.memWf := hsec
    have hs2 : s2.memWf := memWf_ite hs1.inc hs1
    have hs3 : s3.memWf := memWf_ite hs2.inc hs2
    have hs4 : s4.memWf := memWf_ite hs3.inc hs3
    clear_value s1 sdu bad tx s2 s3 s4
    have hs5 : s5.memWf := by
      unfold s5
      split
      · exact hs4.cellError
      · exact hs4
    exact memWf_ite hs5.popHead hs5.delaySample.modPort

theorem State.memWf.onWire (h : s.memWf) {p t octets} : (s.onWire p t octets).memWf := h.same
theorem State.memWf.preempt (h : s.memWf) {p t} : (s.preempt p t).memWf := h.same
theorem State.memWf.loopStart (h : s.memWf) {p phase t} : (s.loopStart p phase t).memWf := h.drawFree.frameArrives
theorem State.memWf.loopResume (h : s.memWf) {p} : (s.loopResume p).memWf := memWf_ite h.frameArrives h

theorem State.memWf.loopEnd (h : s.memWf) {p t} : (s.loopEnd p t).memWf := by
  unfold State.loopEnd
  split
  · exact h
  · exact h.modPort.endFrame

theorem State.memWf.sendControl (h : s.memWf) {p} : (s.sendControl p).memWf := by
  unfold State.sendControl
  split
  · exact h
  · exact memWf_ite h.modPort.inc.endFrame h.modPort.inc

theorem State.memWf.sendMpacket (h : s.memWf) {p} : (s.sendMpacket p).memWf := by
  unfold State.sendMpacket
  split
  · exact h
  · exact memWf_ite h.modPort.frameArrives h.modPort

theorem State.memWf.waitRest (h : s.memWf) {p c} : (s.waitRest p c).memWf := by
  unfold State.waitRest
  split
  · exact h
  · exact h.countWait.modPort

theorem State.memWf.selectFrame (h : s.memWf) {p} : (s.selectFrame p).memWf := by
  unfold State.selectFrame
  extract_lets -merge +onlyGivenNames m
  clear_value m
  split
  · extract_lets -merge +onlyGivenNames r
    have hr : r.1.memWf := h.select
    clear_value r
    split
    · exact hr.beginTx
    · exact hr
  · extract_lets -merge +onlyGivenNames r
    have hr : r.1.memWf := h.select
    clear_value r
    split
    · exact hr.beginTx
    · refine memWf_ite hr.modPort.loopResume ?_
      split
      · exact memWf_ite hr.waitRest hr
      · exact hr

theorem State.memWf.transmitSelection (h : s.memWf) {p} : (s.transmitSelection p).memWf := by
  unfold State.transmitSelection
  refine memWf_ite h ?_
  refine memWf_ite ?_ ?_
  · split
    · exact h
    · extract_lets r
      have hr : r.1.memWf := h.select
      clear_value r
      split
      · exact hr.beginTx
      · exact hr
  · refine memWf_ite h ?_
    split
    · exact memWf_ite (memWf_ite h.select.preempt.inc h.select.preempt) h
    · exact memWf_ite h (memWf_ite h.sendMpacket (memWf_ite h.sendControl h.selectFrame))

theorem State.memWf.holdRequest (h : s.memWf) {p} : (s.holdRequest p).memWf := by
  unfold State.holdRequest
  split
  · exact h
  · split
    · exact h
    · exact memWf_ite h (memWf_ite h.preempt.inc h.modPort)

theorem State.memWf.holdLead (h : s.memWf) {p t} : (s.holdLead p t).memWf := by
  unfold State.holdLead
  split <;> exact h.modPort

theorem State.memWf.trimSample (h : s.memWf) {p t open_ wt} : (s.trimSample p t open_ wt).memWf :=
  h.holdLead.wr.setRegN.inc.then fun h1 => memWf_ite h1 h1.raise

theorem State.memWf.egressQueue (h : s.memWf) {p pk lc wt} : (s.egressQueue p pk lc wt).memWf := by
  unfold State.egressQueue
  extract_lets s1
  have hs1 : s1.memWf := memWf_ite h.pushStamp h
  clear_value s1
  split
  · exact memWf_ite hs1.pushStamp hs1
  · exact hs1

theorem State.memWf.egressLatency (h : s.memWf) {p pk t} : (s.egressLatency p pk t).memWf := by
  unfold State.egressLatency
  split
  · exact memWf_ite h.latSample h
  · exact h

theorem State.memWf.egressStamp (h : s.memWf) {p phase} : (s.egressStamp p phase).memWf := by
  unfold State.egressStamp
  split
  · exact h
  · refine memWf_ite h ?_
    extract_lets pk lc wt tag body one s1 d d1 d2 t' s2 s3
    have hs1 : s1.memWf := memWf_ite h.inc h
    have hs2 : s2.memWf := hs1.modPort.egressQueue
    clear_value pk lc wt tag body one s1 d d1 d2 t' s2
    have hs3 : s3.memWf := by
      unfold s3
      split
      · exact hs2.trimSample
      · exact hs2
    exact memWf_ite hs3.loopStart hs3

theorem State.memWf.toPartner (h : s.memWf) {pk d} : (s.toPartner pk d).memWf := h.linkSend

theorem State.memWf.deliver (h : s.memWf) {p pk d} : (s.deliver p pk d).memWf := by
  unfold State.deliver
  extract_lets x
  clear_value x
  split
  · exact h.upd
  · exact h.upd
  · exact h.upd
  · exact h.toPartner

theorem State.memWf.frameLeft (h : s.memWf) {p t} : (s.frameLeft p t).memWf :=
  (memWf_ite h.inc.add64.inc h.inc.add64).egressLatency.plcaSentOne.onWire.modPort

theorem State.memWf.transmitComplete (h : s.memWf) {p} : (s.transmitComplete p).memWf := by
  unfold State.transmitComplete
  split
  · exact h
  · exact memWf_ite h ((memWf_ite h.modPort.frameLeft (memWf_ite h.modPort
      h.modPort.deliver)).inc.popHead.then fun h1 => memWf_ite h1.loopEnd h1)

theorem State.memWf.maxdlyClear (h : s.memWf) {value} : (s.maxdlyClear value).memWf :=
  memWf_ite (h.foldl fun _ _ h => h.setRegN) (memWf_ite h.setRegN h)

theorem State.memWf.hmClear (h : s.memWf) {m} : (s.hmClear m).memWf :=
  (h.foldl fun _ _ h => h.setRegN.setRegN).setRegN.setRegN

theorem State.memWf.hmQueueWrite (h : s.memWf) {m value} : (s.hmQueueWrite m value).memWf := h.writeFields.hmClear
theorem State.memWf.depthSample (h : s.memWf) {m} : (s.depthSample m).memWf := memWf_ite h h.upd.setRegN.setRegN

/-! ### Machine/Flt -/

theorem State.memWf.fltLog (h : s.memWf) {e value} : (s.fltLog e value).memWf := memWf_ite h h.upd
theorem State.memWf.keepThrottles (h : s.memWf) : s.keepThrottles.memWf := h.same

theorem State.memWf.bottled (h : s.memWf) {flashOk} : (s.bottled flashOk).memWf := by
  unfold State.bottled
  split
  · exact h
  · exact h.upd.wr.keepThrottles.then fun h1 => memWf_ite h1.program.wr.wr.wr.setRegN.inc.raise h1.wr.inc.raise

theorem State.memWf.cellLost (h : s.memWf) {cell} : (s.cellLost cell).memWf := by
  unfold State.cellLost
  split
  · exact h
  · exact h.modPkt.foldl fun _ _ h => memWf_ite h.countStomp.stompTx.cellError h

theorem State.memWf.ringLost (h : s.memWf) {n r i} : (s.ringLost n r i).memWf := memWf_ite h.fqRewrite h

theorem State.memWf.backgroundScrub (h : s.memWf) {place correctable} : (s.backgroundScrub place correctable).memWf :=
  by
  unfold State.backgroundScrub
  refine memWf_ite h ?_
  split
  · exact h.inc
  · refine memWf_ite h.inc.detect ?_
    split
    · exact h.inc.cellLost.detect
    · exact h.inc.keyEccLost.detect
    · exact h.inc.ringLost.detect
    · exact h.eccFatal

theorem State.memWf.lockstep (h : s.memWf) {e} : (s.lockstep e).memWf := memWf_ite h.failSilent h
theorem State.memWf.crystalLost (h : s.memWf) : s.crystalLost.memWf := memWf_ite h.setRegN.upd h.setRegN.upd.wr.raise

theorem State.memWf.clockMonitor (h : s.memWf) {c} : (s.clockMonitor c).memWf :=
  memWf_ite h.crystalLost (memWf_ite h h.setRegN.failSilent)

theorem State.memWf.crystalCheck (h : s.memWf) {within_} : (s.crystalCheck within_).memWf :=
  memWf_ite h (memWf_ite h.upd.crystalLost (memWf_ite h.upd (memWf_ite h.upd.upd.wr.setRegN h.upd.upd)))

theorem State.memWf.debugOpen (h : s.memWf) {code} : (s.debugOpen code).memWf :=
  memWf_ite h (memWf_ite h.inc.raiseMust h.failSilent.zeroise.upd)

theorem State.memWf.zeroisationDone (h : s.memWf) {verified} : (s.zeroisationDone verified).memWf :=
  memWf_ite h (memWf_ite h.upd.raiseMust.wr h.upd.drawFree.upd)

/-! ### Machine/Wak -/

theorem State.memWf.setWak (h : s.memWf) {w} : (s.setWak w).memWf := h.same
theorem State.memWf.setPower (h : s.memWf) {p} : (s.setPower p).memWf := h.same
theorem State.memWf.hearPeer (h : s.memWf) {key need} : (s.hearPeer key need).memWf := h.same
theorem State.memWf.peerNeedExpiry (h : s.memWf) {key} : (s.peerNeedExpiry key).memWf := h.same
theorem State.memWf.sendKa (h : s.memWf) {probe period mask} : (s.sendKa probe period mask).memWf := h.same
theorem State.memWf.canKa (h : s.memWf) : s.canKa.memWf := h.fqOffer

theorem State.memWf.keepAliveTx (h : s.memWf) : s.keepAliveTx.memWf :=
  memWf_ite h ((memWf_ite h.setWak.sendKa (memWf_ite h.setWak.sendKa h)).then fun h1 => memWf_ite h1.setWak.canKa h1)

theorem State.memWf.toAgreement (h : s.memWf) {a} : (s.toAgreement a).memWf := h.same
theorem State.memWf.armSources (h : s.memWf) {l} : (s.armSources l).memWf := h.same
theorem State.memWf.arming (h : s.memWf) : s.arming.memWf := h.same
theorem State.memWf.keepFalseWakes (h : s.memWf) : s.keepFalseWakes.memWf := h.upd

theorem State.memWf.commitSleep (h : s.memWf) : s.commitSleep.memWf :=
  h.toAgreement.setPower.raise.then fun h1 => (memWf_ite h1.sendKa h1).then fun h2 => (memWf_ite
    h2.mirror h2).then fun h3 => (memWf_ite h3.confirmTrial h3).keepFalseWakes.keepThrottles.beginBottling

theorem State.memWf.enterPrepare (h : s.memWf) : s.enterPrepare.memWf :=
  memWf_ite (h.arming.toAgreement.mirror.then fun h1 => memWf_ite h1.commitSleep h1) h.arming.toAgreement

theorem State.memWf.abortSleep (h : s.memWf) {tell} : (s.abortSleep tell).memWf :=
  h.setWak.toAgreement.inc.raise.then fun h1 => memWf_ite h1.mirror h1

theorem State.memWf.confirmWake (h : s.memWf) : s.confirmWake.memWf := by
  unfold State.confirmWake
  split
  · exact h
  · exact memWf_ite h (memWf_ite h.setWak.wr h)

theorem State.memWf.wakEvaluate (h : s.memWf) : s.wakEvaluate.memWf := by
  unfold State.wakEvaluate
  extract_lets s1 hold
  have hs1 : s1.memWf := h.confirmWake
  clear_value s1 hold
  split
  · exact memWf_ite hs1.toAgreement hs1
  · exact memWf_ite hs1.abortSleep hs1
  · exact hs1

theorem State.memWf.needWrite (h : s.memWf) {value} : (s.needWrite value).memWf := memWf_ite h.wr.setWak h.wr
theorem State.memWf.readyHold (h : s.memWf) : s.readyHold.memWf := memWf_ite h.enterPrepare h

theorem State.memWf.minAwake (h : s.memWf) : s.minAwake.memWf := by
  unfold State.minAwake
  split
  · exact h
  · exact memWf_ite (memWf_ite h.toAgreement.readyHold h.toAgreement) h

theorem State.memWf.sleepCommit (h : s.memWf) : s.sleepCommit.memWf := memWf_ite h.commitSleep h

theorem State.memWf.wakMessage (h : s.memWf) {m} : (s.wakMessage m).memWf := by
  unfold State.wakMessage
  split
  · exact memWf_ite h (memWf_ite h.mirror (memWf_ite h.enterPrepare h))
  · exact memWf_ite h.commitSleep h
  · exact memWf_ite h.abortSleep h

theorem State.memWf.latchWake (h : s.memWf) {c} : (s.latchWake c).memWf := memWf_ite h h.wr.wr.setWak.inc
theorem State.memWf.noteCause (h : s.memWf) {c} : (s.noteCause c).memWf := h.same

theorem State.memWf.peerHeard (h : s.memWf) {key need} : (s.peerHeard key need).memWf :=
  memWf_ite h.hearPeer.noteCause.latchWake h.hearPeer

theorem State.memWf.keepAliveRx (h : s.memWf) : s.keepAliveRx.memWf := by
  unfold State.keepAliveRx
  split
  · exact h
  · exact memWf_ite h.upd.inc (h.upd.inc.censusReport.then fun h1 => (memWf_ite h1
      h1.peerHeard).then fun h2 => memWf_ite ((memWf_ite h2.arming h2).commitSleep) h2)

theorem State.memWf.canKaRx (h : s.memWf) {n f} : (s.canKaRx n f).memWf := memWf_ite h.peerHeard h
theorem State.memWf.elementsLost (h : s.memWf) : s.elementsLost.memWf := h.same

theorem State.memWf.enterSleep (h : s.memWf) : s.enterSleep.memWf :=
  h.silenced.elementsLost.upd.setPower.wr.setWak.setRegN.armSources

theorem State.memWf.sleepEntry (h : s.memWf) : s.sleepEntry.memWf := memWf_ite h.enterSleep.inc.wr h
theorem State.memWf.decideWake (h : s.memWf) {c} : (s.decideWake c).memWf := h.same
theorem State.memWf.askWake (h : s.memWf) {c} : (s.askWake c).memWf := memWf_ite h.decideWake h.setWak

theorem State.memWf.wakeEvent (h : s.memWf) {c} : (s.wakeEvent c).memWf :=
  memWf_ite h (memWf_ite h.noteCause.abortSleep (memWf_ite h.noteCause.latchWake (memWf_ite h.noteCause.askWake
    h.noteCause)))

theorem State.memWf.dwellEnd (h : s.memWf) : s.dwellEnd.memWf := by
  unfold State.dwellEnd
  refine memWf_ite h ?_
  split
  · exact h.decideWake
  · exact h

theorem State.memWf.wakeN (h : s.memWf) {us} : (s.wakeN us).memWf := memWf_ite h.wakeEvent h

theorem State.memWf.wakeTimer (h : s.memWf) : s.wakeTimer.memWf :=
  memWf_ite h (memWf_ite h.setWak.noteCause.askWake (memWf_ite h.wakeEvent h))

theorem State.memWf.signalDetect (h : s.memWf) {p us} : (s.signalDetect p us).memWf := memWf_ite h.wakeEvent h
theorem State.memWf.setErrs (h : s.memWf) {c n} : (s.setErrs c n).memWf := h.same

theorem State.memWf.canWake (h : s.memWf) {c ev} : (s.canWake c ev).memWf := by
  unfold State.canWake
  extract_lets mode
  clear_value mode
  refine memWf_ite h ?_
  split
  · exact memWf_ite h.wakeEvent h
  · exact memWf_ite h (memWf_ite h.setErrs.wakeEvent h.setErrs)
  · exact memWf_ite h (memWf_ite h.setErrs.wakeEvent h.setErrs)

theorem State.memWf.t1sWake (h : s.memWf) {n ev} : (s.t1sWake n ev).memWf := by
  unfold State.t1sWake
  extract_lets mode
  clear_value mode
  split <;> exact memWf_ite h.wakeEvent h

theorem State.memWf.supplyFail (h : s.memWf) : s.supplyFail.memWf := memWf_ite h.enterSleep.inc.setWak.writeRecord h

theorem State.memWf.falseWake (h : s.memWf) : s.falseWake.memWf := by
  unfold State.falseWake
  split
  · exact h
  · exact memWf_ite h (memWf_ite h.setWak (h.setWak.incSat.incSat.raise.then fun h1 => memWf_ite
      h1.setRegN.raise.setWak h1))

theorem State.memWf.unquarantine (h : s.memWf) {mask} : (s.unquarantine mask).memWf :=
  memWf_ite h.setRegN.armSources h.setRegN

theorem State.memWf.quarantineEnd (h : s.memWf) {c} : (s.quarantineEnd c).memWf := memWf_ite h.unquarantine h
theorem State.memWf.quarClear (h : s.memWf) {value} : (s.quarClear value).memWf := h.unquarantine

theorem State.memWf.failsafeSleep (h : s.memWf) : s.failsafeSleep.memWf :=
  memWf_ite h h.arming.enterSleep.wr.wr.inc.setWak

theorem State.memWf.throttleEnter (h : s.memWf) : s.throttleEnter.memWf :=
  memWf_ite h (((memWf_ite h.setPower h).wr).setWak.inc.setRegN.raise.upd.detector.then fun h1 => memWf_ite h1.raise h1)

theorem State.memWf.throttleExit (h : s.memWf) : s.throttleExit.memWf :=
  memWf_ite h (((memWf_ite h.setPower h).wr).wr.setRegN.raise)

theorem State.memWf.throttleBottling (h : s.memWf) : s.throttleBottling.memWf :=
  memWf_ite h (memWf_ite h.setWak.inc h.setWak.upd.beginBottling)

theorem State.memWf.brownOut (h : s.memWf) {mv} : (s.brownOut mv).memWf :=
  memWf_ite h ((memWf_ite h.setRegN.setRegN h.setRegN).failSilent)

/-! ### Machine/Eng -/

theorem State.memWf.wdKick (h : s.memWf) {e value} : (s.wdKick e value).memWf := memWf_ite h.upd h
theorem State.memWf.watchdog (h : s.memWf) {e} : (s.watchdog e).memWf := memWf_ite h.inc.raise.failSilent h
theorem State.memWf.machineTimer (h : s.memWf) {e} : (s.machineTimer e).memWf := h.same
theorem State.memWf.latchHi (h : s.memWf) {e key v} : (s.latchHi e key v).memWf := h.same
theorem State.memWf.mtimeLoRead (h : s.memWf) {e} : (s.mtimeLoRead e).memWf := memWf_ite h.latchHi.setRdata h

theorem State.memWf.mbSend (h : s.memWf) {e value} : (s.mbSend e value).memWf :=
  memWf_ite h (memWf_ite h.upd.wr h.wr.inc)

theorem State.memWf.mailboxRead (h : s.memWf) {e} : (s.mailboxRead e).memWf := by
  unfold State.mailboxRead
  refine memWf_ite h ?_
  extract_lets _ s1
  have hs1 : s1.memWf := by
    unfold s1
    split
    · exact h.latchHead
    · exact h.upd.latchHead
  exact hs1.setRdata

theorem State.memWf.queueEvent (h : s.memWf) {v e} : (s.queueEvent v e).memWf := memWf_ite h.upd.inc h.upd

theorem State.memWf.eventRoute (h : s.memWf) : s.eventRoute.memWf := by
  unfold State.eventRoute
  split
  · exact h
  · exact memWf_ite h.upd (h.upd.foldl fun _ _ h => memWf_ite h.queueEvent h)

theorem State.memWf.txrPut (h : s.memWf) {e value} : (s.txrPut e value).memWf := h.same

theorem State.memWf.txrEnd (h : s.memWf) {e a status} : (s.txrEnd e a status).memWf :=
  h.storeWord.wr.wr.upd.then fun h1 => memWf_ite h1.inc (h1.inc.then fun h2 => memWf_ite h2.raise h2)

theorem State.memWf.txDescriptor (h : s.memWf) {e} : (s.txDescriptor e).memWf :=
  memWf_ite h (memWf_ite h.txrEnd (memWf_ite h.txrEnd h.feed.txrEnd))

theorem State.memWf.rxrStore (h : s.memWf) {r a p} : (s.rxrStore r a p).memWf :=
  h.store.storeWord.storeWord.storeWord.wr.wr.inc

theorem State.memWf.rxrFrame (h : s.memWf) : s.rxrFrame.memWf := by
  unfold State.rxrFrame
  split
  · exact h
  · exact memWf_ite h (memWf_ite h.upd.inc.raiseOnce (memWf_ite h.upd.inc h.upd.rxrStore))

theorem State.memWf.flashWindowRead (h : s.memWf) {e addr size} : (s.flashWindowRead e addr size).memWf :=
  memWf_ite h (memWf_ite h.drawFree.busError (memWf_ite h.busError h.setRdata))

theorem State.memWf.popHq (h : s.memWf) {q head n} {put : State → Hq → State} (hput : ∀ x, (put s x).memWf) :
    (s.popHq q head n put).memWf :=
  (hput _).latchHead

theorem State.memWf.head0Read (h : s.memWf) {e q} : (s.head0Read e q).memWf := by
  unfold State.head0Read
  refine memWf_ite h ?_
  split
  · exact (h.popHq fun _ => h.upd).setRdata
  · exact (h.popHq fun _ => h.upd).setRdata
  · exact (h.popHq fun _ => h.upd).setRdata
  · exact (h.popHq fun _ => h.upd).setRdata
  · exact (h.popHq fun _ => h.modCan).setRdata
  · exact (h.popHq fun _ => h.setQlb).setRdata
  · exact (h.popHq fun _ => h.upd).setRdata

theorem State.memWf.loRead (h : s.memWf) {e addr} : (s.loRead e addr).memWf := h.same

/-! ### Machine/Cnt -/

theorem State.memWf.setCnt (h : s.memWf) {c} : (s.setCnt c).memWf := h.same

theorem State.memWf.sweepCycle (h : s.memWf) : s.sweepCycle.memWf := by
  unfold State.sweepCycle
  split
  · exact h
  · exact h.setCnt

theorem State.memWf.startSweep (h : s.memWf) {manual} : (s.startSweep manual).memWf :=
  memWf_ite h.setCnt.setCnt.wr h.setCnt.wr.raise

theorem State.memWf.harvestSweep (h : s.memWf) : s.harvestSweep.memWf := memWf_ite h h.setCnt.startSweep
theorem State.memWf.harvestStart (h : s.memWf) {value} : (s.harvestStart value).memWf := memWf_ite h.startSweep h
theorem State.memWf.harvestPeriodWrite (h : s.memWf) {value} : (s.harvestPeriodWrite value).memWf := h.same
theorem State.memWf.writeHeader (h : s.memWf) {r} : (s.writeHeader r).memWf := h.store
theorem State.memWf.writeBank (h : s.memWf) {r} : (s.writeBank r).memWf := h.store.writeHeader.storeWord

theorem State.memWf.sweepComplete (h : s.memWf) : s.sweepComplete.memWf := by
  unfold State.sweepComplete
  split
  · exact h
  · exact memWf_ite h h.setCnt.wr.writeBank.wr.wr.wr.setRegN

theorem State.memWf.cutSweep (h : s.memWf) : s.cutSweep.memWf := by
  unfold State.cutSweep
  split
  · exact h
  · exact h.setCnt.wr.drawFree.store.then fun h1 => (memWf_ite h1 h1.writeHeader).drawFree.storeWord

theorem State.memWf.slotCycle (h : s.memWf) : s.slotCycle.memWf := h.same
theorem State.memWf.cntCycle (h : s.memWf) : s.cntCycle.memWf := h.sweepCycle.slotCycle
theorem State.memWf.slotTick (h : s.memWf) : s.slotTick.memWf := memWf_ite h (memWf_ite h.cntCycle h.cntCycle.cntCycle)

theorem State.memWf.tdSnap (h : s.memWf) {e} : (s.tdSnap e).memWf :=
  memWf_ite h ((h.foldl fun _ _ h => h.setReg).setRdata)

theorem State.memWf.counterLoRead (h : s.memWf) {e addr} : (s.counterLoRead e addr).memWf := memWf_ite h.loRead h

/-! ### Machine/Sched -/

theorem State.memWf.served (h : s.memWf) {q} : (s.served q).memWf := h.same

theorem State.memWf.dispatchTurn (h : s.memWf) {e ops} : (s.dispatchTurn e ops).memWf :=
  memWf_ite h.dispatchJob.served h

/-! ### Machine/Ser -/

theorem State.memWf.modSer (h : s.memWf) {n f} : (s.modSer n f).memWf := h.same

theorem State.memWf.serStore {base : Nat} {l : List Byte} : ∀ {s : State} {o : Nat}, s.memWf →
    (s.serStore base o l).memWf := by
  induction l with
  | nil => exact fun h => h
  | cons b l ih => exact fun h => ih h.store

theorem State.memWf.serFilled (h : s.memWf) {n len} : (s.serFilled n len).memWf := h.same
theorem State.memWf.serPop (h : s.memWf) {n} : (s.serPop n).memWf := h.same
theorem State.memWf.serAppendRing (h : s.memWf) {n e} : (s.serAppendRing n e).memWf := h.serStore.setRegN.serFilled

theorem State.memWf.serOffer (h : s.memWf) {n e} : (s.serOffer n e).1.memWf :=
  memWf_ite_fst h.inc (memWf_ite_fst h h.serAppendRing)

theorem State.memWf.serTxqPut (h : s.memWf) {n value} : (s.serTxqPut n value).memWf :=
  memWf_ite h.inc (memWf_ite h.inc (memWf_ite h (memWf_ite (h.setRegN.serFilled.foldl fun _ _ h => h.mirror)
    h.setRegN.serFilled)))

theorem State.memWf.serAppend (h : s.memWf) {n e} : (s.serAppend n e).memWf :=
  memWf_ite h.inc (memWf_ite h h.serAppendRing)

theorem State.memWf.serFlush (h : s.memWf) {n} : (s.serFlush n).memWf := h.same

theorem State.memWf.serialTxStart (h : s.memWf) {n} : (s.serialTxStart n).memWf := by
  unfold State.serialTxStart
  refine memWf_ite h ?_
  extract_lets len
  clear_value len
  refine memWf_ite h.serPop.inc ?_
  refine memWf_ite h ?_
  split
  · exact h
  · exact h.modSer.wr.wr

theorem State.memWf.serialTxEnd (h : s.memWf) {n} : (s.serialTxEnd n).memWf :=
  memWf_ite h ((memWf_ite h.inc.add.inc h.inc.add).wr.wr.serPop)

theorem State.memWf.serMirrorExpired (h : s.memWf) {n} : (s.serMirrorExpired n).memWf := memWf_ite h.serPop.inc h

theorem State.memWf.serRxStore (h : s.memWf) {n m brk} : (s.serRxStore n m brk).memWf :=
  memWf_ite (memWf_ite h.inc h.inc.wr.raise) h.serStore.setRegN.wr.modSer

theorem State.memWf.serGetWrite (h : s.memWf) {n value} : (s.serGetWrite n value).memWf := h.writeFields.modSer
theorem State.memWf.serMirrorRetire (h : s.memWf) {n d} : (s.serMirrorRetire n d).memWf := memWf_ite h.serPop.inc h

theorem State.memWf.serClose (h : s.memWf) {n brk} : (s.serClose n brk).memWf := by
  unfold State.serClose
  split
  · exact h
  · exact memWf_ite h.modSer.wr (h.modSer.wr.inc.add.then fun h1 => (memWf_ite h1.serRxStore h1).then fun h2 =>
      (memWf_ite h2.toGlv h2).serMirrorRetire)

theorem State.memWf.serGap (h : s.memWf) {n at_} : (s.serGap n at_).memWf :=
  memWf_ite h.inc.serClose (memWf_ite h.serClose h)

theorem State.memWf.messageClose (h : s.memWf) {n cause} : (s.messageClose n cause).memWf := by
  unfold State.messageClose
  split
  · exact h.serGap
  · exact memWf_ite h.serGap h
  · exact memWf_ite h (h.modSer.wr.inc.then fun h1 => memWf_ite h1.inc.serClose h1.serClose)

theorem State.memWf.serTake (h : s.memWf) {n value parity framing} : (s.serTake n value parity framing).memWf :=
  (memWf_ite h.inc h).then fun h1 => (memWf_ite h1.inc h1).then fun h2 => (memWf_ite
    h2.raiseOnce h2).modSer.wr.then fun h3 => memWf_ite h3.serGap h3

theorem State.memWf.serialCharacter (h : s.memWf) {n value parity framing} :
    (s.serialCharacter n value parity framing).memWf := memWf_ite h (h.serGap.modSer.wr.then fun h1 => memWf_ite h1
    h1.serTake)

theorem State.memWf.serBaudWrite (h : s.memWf) {n value} : (s.serBaudWrite n value).memWf :=
  memWf_ite h.writeFields.wr.wr.wr.wr.modSer.raise h.writeFields.wr

theorem State.memWf.serCtrlWrite (h : s.memWf) {n value} : (s.serCtrlWrite n value).memWf :=
  memWf_ite h.writeFields h.writeFields.wr.wr.wr.modSer

theorem State.memWf.serDuty (h : s.memWf) : s.serDuty.memWf := h.foldl fun _ _ h => memWf_ite h.modSer h

theorem State.memWf.serSyncClear (h : s.memWf) : s.serSyncClear.memWf :=
  h.foldl fun _ _ h => memWf_ite h.setRegN.modSer h

/-! ### Machine/Glv -/

theorem State.memWf.setGlv (h : s.memWf) {g} : (s.setGlv g).memWf := h.same
theorem State.memWf.setEnc (h : s.memWf) {c e} : (s.setEnc c e).memWf := h.same

theorem State.memWf.sealItem (h : s.memWf) {c body} : (s.sealItem c body).1.memWf := by
  unfold State.sealItem
  extract_lets -merge +onlyGivenNames slot
  clear_value slot
  refine memWf_ite_fst h.job.inc.raiseOnce ?_
  extract_lets -merge +onlyGivenNames r
  have hr : r.1.memWf := h.drawLease
  clear_value r
  split
  · exact hr.job.inc
  · exact hr
  · exact hr.job.inc.raiseOnce

theorem State.memWf.closeBundle (h : s.memWf) {c} : (s.closeBundle c).memWf := h.same

theorem State.memWf.bundle (h : s.memWf) {c body rx} : (s.bundle c body rx).memWf :=
  (memWf_ite h.closeBundle h).setEnc.inc.then fun h1 => memWf_ite h1.closeBundle h1

theorem State.memWf.xlOffered (h : s.memWf) {c} : (s.xlOffered c).memWf := h.same

theorem State.memWf.takeItem (h : s.memWf) {i} : (s.takeItem i).1.memWf := by
  unfold State.takeItem
  extract_lets -merge +onlyGivenNames c
  clear_value c
  refine memWf_ite_fst h.inc ?_
  refine memWf_ite_fst ?_ ?_
  · split
    · exact memWf_ite_fst h.xlOffered h.bundle
    · exact h
  · extract_lets -merge +onlyGivenNames body
    clear_value body
    refine memWf_ite_fst ?_ h.bundle
    refine memWf_ite_fst h ?_
    extract_lets -merge +onlyGivenNames r
    have hr : r.1.memWf := h.served.sealItem
    clear_value r
    split
    · exact hr.bundle
    · exact hr
    · exact hr

theorem State.memWf.takeFirst {l : List GlvItem} : ∀ {s : State} {held : List Nat}, s.memWf →
    (s.takeFirst held l).1.memWf := by
  induction l with
  | nil => exact fun h => h
  | cons i r ih => exact fun h => memWf_ite_fst (ih h) (memWf_ite_fst (ih h.takeItem) h.takeItem)

theorem State.memWf.gloveItem (h : s.memWf) : s.gloveItem.memWf := h.takeFirst.setGlv
theorem State.memWf.bundleClose (h : s.memWf) {c} : (s.bundleClose c).memWf := memWf_ite h.closeBundle h
theorem State.memWf.gloveKeepalive (h : s.memWf) {c} : (s.gloveKeepalive c).memWf := memWf_ite h.closeBundle.inc h

theorem State.memWf.glvRefresh (h : s.memWf) : s.glvRefresh.memWf :=
  h.foldl fun _ _ h => memWf_ite h.setEnc (memWf_ite h.setEnc h)

theorem State.memWf.glvCommit (h : s.memWf) {value} : (s.glvCommit value).memWf :=
  memWf_ite h.setEntry.glvRefresh (memWf_ite h.setEntry h)

/-- What the unsealing of a bundle leaves, whether it ends well or not. -/
theorem State.memWf.sealAll {d slot : Nat} {g : Glove} {l : List (List Byte)} : ∀ {s : State}, s.memWf →
    (∀ t, s.sealAll d slot g l = .error t → t.memWf) ∧ ∀ t, s.sealAll d slot g l = .ok t → t.1.memWf := by
  induction l with
  | nil => exact fun h => ⟨fun t ht => (nomatch ht), fun t ht => Except.ok.inj ht ▸ h⟩
  | cons b r ih =>
    intro s h
    unfold State.sealAll
    split
    · next f _ =>
      obtain ⟨herr, hok⟩ := ih (h.job (status := 0)).setPair
      split
      · next ht =>
        refine ⟨fun _ he => (nomatch he), fun _ he => ?_⟩
        obtain rfl := Except.ok.inj he
        have ht1 := hok _ ht
        exact ht1
      · next ht => exact ⟨fun _ he => Except.error.inj he ▸ herr _ ht, fun _ he => nomatch he⟩
    · exact ⟨fun t ht => Except.error.inj ht ▸ h.job.inc.raiseOnce, fun _ he => nomatch he⟩
    · exact ⟨fun t ht => Except.error.inj ht ▸ h.job.inc.raiseOnce, fun _ he => nomatch he⟩

theorem State.memWf.destDrop (h : s.memWf) {d} : (s.destDrop d).memWf := h.inc.raiseOnce

theorem State.memWf.deliverItem (h : s.memWf) {d g f b} : (s.deliverItem d g f b).memWf := by
  unfold State.deliverItem
  extract_lets w r
  clear_value w
  have hr : r.1.memWf := by
    unfold r
    split
    · exact memWf_ite_fst h h.fqOffer
    · exact memWf_ite_fst h.serOffer h
  exact memWf_ite hr.inc hr.destDrop

theorem State.memWf.gloveBody (h : s.memWf) {d g b} : (s.gloveBody d g b).memWf :=
  memWf_ite h.inc (memWf_ite h.deliverItem (memWf_ite h.inc h.deliverItem))

theorem State.memWf.acfMessages {d : Nat} {g : Glove} {n : Nat} : ∀ {s : State} {b : List Byte}, s.memWf →
    (s.acfMessages d g n b).memWf := by
  induction n with
  | zero => exact fun h => h
  | succ n ih =>
    intro s b h
    unfold State.acfMessages
    refine memWf_ite (memWf_ite h h.same) (memWf_ite h.same (memWf_ite h.same (ih (memWf_ite h.same ?_))))
    split
    · exact h.same
    · exact h.deliverItem

theorem State.memWf.seqCheck (h : s.memWf) {d g} : (s.seqCheck d g).1.memWf :=
  memWf_ite_fst (((memWf_ite h.inc h).wr.wr).setGlv) (memWf_ite_fst h.inc (memWf_ite_fst h.add.raiseOnce.wr.wr.setGlv
    h.wr.wr.setGlv))

theorem State.memWf.deliverAll (h : s.memWf) {d g items cut} : (s.deliverAll d g items cut).memWf :=
  memWf_ite (memWf_ite h.inc.inc h.inc.acfMessages) (memWf_ite h.inc.inc ((h.inc.foldl fun _ _ h =>
    h.gloveBody).then fun h1 => memWf_ite h1.inc h1))

theorem State.memWf.decapsulateAt (h : s.memWf) {d c g} : (s.decapsulateAt d c g).memWf := by
  unfold State.decapsulateAt
  refine memWf_ite (memWf_ite h.same.raiseOnce ?_) (memWf_ite h.seqCheck.deliverAll h.seqCheck)
  split
  · next ht => exact (h.sealAll.1 _ ht).same
  · next ht =>
    have hok := (h.sealAll.2 _ ht).seqCheck (d := d) (g := g)
    exact memWf_ite hok.deliverAll hok

theorem State.memWf.decapsulate (h : s.memWf) : s.decapsulate.memWf := by
  unfold State.decapsulate
  split
  · exact h
  · refine memWf_ite h ?_
    extract_lets s1 s2
    have hs1 : s1.memWf := memWf_ite h.served h
    have hs2 : s2.memWf := hs1.upd
    clear_value s1 s2
    split
    · exact hs2.inc.raiseOnce
    · split
      · exact hs2.inc
      · split
        · exact hs2.inc
        · exact hs2.decapsulateAt

theorem State.memWf.resync (h : s.memWf) {d} : (s.resync d).memWf := memWf_ite h.wr h

/-! ### Machine/Time -/

theorem State.memWf.putPulse (h : s.memWf) {n p} : (s.putPulse n p).memWf := h.same

theorem State.memWf.plsCtrlWrite (h : s.memWf) {n value} : (s.plsCtrlWrite n value).memWf :=
  memWf_ite h.writeFields.putPulse h.writeFields.putPulse

theorem State.memWf.plsEdge (h : s.memWf) {n p t} : (s.plsEdge n p t).memWf := memWf_ite h.putPulse h.putPulse
theorem State.memWf.plsFall (h : s.memWf) {n p} : (s.plsFall n p).memWf := h.same

theorem State.memWf.pulseEdge (h : s.memWf) {n} : (s.pulseEdge n).memWf := by
  unfold State.pulseEdge
  extract_lets p now
  clear_value p now
  refine memWf_ite h ?_
  split
  · exact memWf_ite h.plsEdge (memWf_ite h.plsFall h)
  · exact memWf_ite h.plsEdge h
  · exact memWf_ite h.plsFall h
  · exact h

theorem State.memWf.plsStrobe (h : s.memWf) {k n} : (s.plsStrobe k n).memWf :=
  memWf_ite h (memWf_ite h.putPulse h.putPulse)

theorem State.memWf.plsStrobes (h : s.memWf) {k} : (s.plsStrobes k).memWf :=
  memWf_ite h (h.foldl fun _ _ h => h.plsStrobe)

theorem State.memWf.plsStep (h : s.memWf) {n d} : (s.plsStep n d).memWf := memWf_ite h.putPulse h.putPulse

theorem State.memWf.pulsesStepped (h : s.memWf) {c d} : (s.pulsesStepped c d).memWf :=
  h.foldl fun _ _ h => memWf_ite h.plsStep h

theorem State.memWf.captureEdge (h : s.memWf) {n rising heldNs phase} : (s.captureEdge n rising heldNs phase).memWf :=
  memWf_ite h ((memWf_ite h.upd.inc h.upd).then fun h1 => memWf_ite h1.raiseLost h1)

theorem State.memWf.setSrc (h : s.memWf) {n} : (s.setSrc n).memWf := h.same
theorem State.memWf.setSlew (h : s.memWf) {off} : (s.setSlew off).memWf := h.same
theorem State.memWf.rephase (h : s.memWf) : s.rephase.memWf := h.upd.audDiscontinuity

theorem State.memWf.wtStepped (h : s.memWf) {d} : (s.wtStepped d).memWf :=
  h.raise.upd.rephase.relocateLists.pulsesStepped.trellisStep.upd

theorem State.memWf.moveWt (h : s.memWf) {v} : (s.moveWt v).memWf := memWf_ite h.setWt.wtStepped h.setWt
theorem State.memWf.lockOn (h : s.memWf) {n} : (s.lockOn n).memWf := h.setSrc.setWtState.setSlew.moveWt
theorem State.memWf.startHandover (h : s.memWf) {n} : (s.startHandover n).memWf := h.same
theorem State.memWf.enterHoldover (h : s.memWf) {rate} : (s.enterHoldover rate).memWf := h.same

theorem State.memWf.holdoverCheck (h : s.memWf) : s.holdoverCheck.memWf :=
  memWf_ite h (memWf_ite h.startHandover (memWf_ite h.startHandover h))

theorem State.memWf.sourceUnfit (h : s.memWf) {rate} : (s.sourceUnfit rate).memWf :=
  memWf_ite h.startHandover h.enterHoldover

theorem State.memWf.noteMismatch (h : s.memWf) : s.noteMismatch.memWf := memWf_ite h.upd (memWf_ite h.upd.wr h.upd)

theorem State.memWf.pairWtMismatch (h : s.memWf) : s.pairWtMismatch.memWf := by
  unfold State.pairWtMismatch
  extract_lets s1 g
  have hs1 : s1.memWf := h.noteMismatch
  clear_value s1 g
  split
  · exact hs1
  · exact memWf_ite hs1 hs1.wr.raise

theorem State.memWf.usableCleared (h : s.memWf) {n} : (s.usableCleared n).memWf :=
  memWf_ite h.sourceUnfit.noteMismatch h

theorem State.memWf.usableSet (h : s.memWf) {n} : (s.usableSet n).memWf := by
  unfold State.usableSet
  refine memWf_ite h ?_
  extract_lets -merge +onlyGivenNames s1 _ _ s2 cand s3
  have hs1 : s1.memWf := h.wr
  have hs2 : s2.memWf := memWf_ite hs1.upd hs1.upd
  clear_value s1 s2 cand
  have hs3 : s3.memWf := by
    unfold s3
    split
    · exact memWf_ite hs2.lockOn hs2
    · exact memWf_ite hs2 (memWf_ite hs2.holdoverCheck hs2.raise)
    · exact hs2
  exact hs3.noteMismatch

theorem State.memWf.usableWrite (h : s.memWf) {n v} : (s.usableWrite n v).memWf :=
  memWf_ite h.usableSet (memWf_ite h.wr.usableCleared h)

theorem State.memWf.domainLost (h : s.memWf) {n} : (s.domainLost n).memWf := memWf_ite h h.wr.raise.usableCleared

theorem State.memWf.dcStep (h : s.memWf) {n ns} : (s.dcStep n ns).memWf := by
  unfold State.dcStep
  refine memWf_ite h ?_
  extract_lets d s1 s2 s3
  have hs1 : s1.memWf := h.setRegN
  have hs2 : s2.memWf := hs1.setDc.pulsesStepped
  clear_value d s1 s2
  have hs3 : s3.memWf := by
    unfold s3
    split
    · exact memWf_ite hs2 (memWf_ite hs2.setWt (memWf_ite hs2.startHandover hs2.sourceUnfit))
    · exact memWf_ite hs2.enterHoldover hs2
    · exact hs2.holdoverCheck
    · exact hs2
  exact hs3.noteMismatch

theorem State.memWf.dcRateWrite (h : s.memWf) {n value} : (s.dcRateWrite n value).memWf := h.same
theorem State.memWf.forceStep (h : s.memWf) : s.forceStep.memWf := memWf_ite h.lockOn.noteMismatch h
theorem State.memWf.loadWt (h : s.memWf) : s.loadWt.memWf := memWf_ite h h.moveWt

theorem State.memWf.wtSrcWrite (h : s.memWf) {n} : (s.wtSrcWrite n).memWf :=
  (memWf_ite (memWf_ite h.lockOn h.setSrc) (memWf_ite h (memWf_ite h.startHandover h.raise))).noteMismatch

theorem State.memWf.slewUpdate (h : s.memWf) : s.slewUpdate.memWf :=
  memWf_ite h (memWf_ite h.setWt.setSlew.setWtState.raise.noteMismatch h.setSlew)

theorem State.memWf.snapClock (h : s.memWf) {base v} : (s.snapClock base v).memWf := h.same
theorem State.memWf.snap (h : s.memWf) : s.snap.memWf := h.snapClock.snapClock.snapClock.snapClock.setPair.setRegN

theorem State.memWf.mediaLock (h : s.memWf) {errNs} : (s.mediaLock errNs).1.memWf :=
  memWf_ite_fst h.upd.wr.raise (memWf_ite h.upd.wr h.upd)

theorem State.memWf.sampleStrobe (h : s.memWf) {errNs tin line} : (s.sampleStrobe errNs tin line).memWf :=
  memWf_ite h (h.upd.wr.mediaLock.plsStrobes.then fun h1 => (memWf_ite h1 h1.audStrobe).then fun h2 => memWf_ite
    h2.rephase h2)

/-! ### Machine/Pair -/

theorem State.memWf.setRole (h : s.memWf) {role duty} : (s.setRole role duty).memWf :=
  memWf_ite h (h.wr.wr.raiseMust.then fun h1 => memWf_ite ((memWf_ite h1.wr h1).canDuty.serDuty.glvRefresh.setCoord) h1)

theorem State.memWf.stopMirror (h : s.memWf) : s.stopMirror.memWf := h.same

theorem State.memWf.startMirror (h : s.memWf) : s.startMirror.memWf :=
  (((h.foldl fun _ _ h => h.linkSend).foldl fun _ _ h => h.linkSend).linkSend.foldl fun _ _ h => h.linkSend).wr

theorem State.memWf.clearForSync (h : s.memWf) : s.clearForSync.memWf :=
  memWf_ite h h.canSyncClear.serSyncClear.setAud.setQlb

theorem State.memWf.syncMirror (h : s.memWf) : s.syncMirror.memWf := by
  unfold State.syncMirror
  refine memWf_ite (memWf_ite h.stopMirror h) ?_
  refine memWf_ite h ?_
  split
  · exact memWf_ite (memWf_ite h h.startMirror) (memWf_ite h.clearForSync h)
  · exact h

theorem State.memWf.takeOver (h : s.memWf) : s.takeOver.memWf := h.setRole.setHome.leaseAlone

theorem State.memWf.sendVc4 (h : s.memWf) {isProtected payload} : (s.sendVc4 isProtected payload).memWf :=
  (memWf_ite h.setQlb.linkJob h.setQlb).inc

theorem State.memWf.lanesAligned (h : s.memWf) : s.lanesAligned.memWf :=
  memWf_ite h (h.setRegN.setQlb.then fun h1 => memWf_ite h1 (memWf_ite h1.raise h1.upd.setRegN))

theorem State.memWf.epoch (h : s.memWf) {value} : (s.epoch value).memWf :=
  memWf_ite h (memWf_ite h.inc.setQlb h.inc.setQlb.setQlb.wr)

theorem State.memWf.epochSend (h : s.memWf) : s.epochSend.memWf := memWf_ite h.setQlb.sendVc4 h

theorem State.memWf.linkComes (h : s.memWf) : s.linkComes.memWf :=
  memWf_ite h (h.wr.wr.setQlb.raise.setHome.leaseAgain.foldl fun _ _ h => h.linkSend)

theorem State.memWf.heartbeatTx (h : s.memWf) : s.heartbeatTx.memWf := memWf_ite h h.sendVc4.setQlb.linkComes
theorem State.memWf.acked (h : s.memWf) {ack} : (s.acked ack).memWf := memWf_ite h h.setQlb.drainLink
theorem State.memWf.dutyConflict (h : s.memWf) {hd} : (s.dutyConflict hd).memWf := memWf_ite h.setRole.inc.raise h

theorem State.memWf.roleOnHeartbeat (h : s.memWf) {hd} : (s.roleOnHeartbeat hd).memWf := by
  unfold State.roleOnHeartbeat
  extract_lets agree
  clear_value agree
  split
  · exact memWf_ite h h.setRole
  · exact memWf_ite (memWf_ite h h.setRole) (memWf_ite (memWf_ite h.wr h.wr.setRole) h.wr.setRole)
  · exact h.setRole
  · exact memWf_ite h.setRole h
  · exact h

theorem State.memWf.takeReverted (h : s.memWf) {hd} : (s.takeReverted hd).memWf :=
  memWf_ite h (h.foldl fun _ _ h => memWf_ite h.wr.inc h)

theorem State.memWf.heartbeat (h : s.memWf) {hd} : (s.heartbeat hd).memWf :=
  memWf_ite h (h.inc.linkJob.inc.setQlb.setPair.wr.censusReport.noteMismatch.linkComes.acked.then fun h1 =>
    memWf_ite h1 h1.dutyConflict.roleOnHeartbeat.takeReverted.syncMirror)

theorem State.memWf.resend (h : s.memWf) {n} : (s.resend n).memWf := (memWf_ite h.add.add.add64 h.add.add).setQlb
theorem State.memWf.nak (h : s.memWf) {seq} : (s.nak seq).memWf := memWf_ite h h.inc.linkJob.setQlb.resend
theorem State.memWf.retransmit (h : s.memWf) : s.retransmit.memWf := memWf_ite h.resend h
theorem State.memWf.sendNak (h : s.memWf) : s.sendNak.memWf := memWf_ite h.setQlb.sendVc4.inc h

theorem State.memWf.linkFrameDiscarded (h : s.memWf) {why} : (s.linkFrameDiscarded why).memWf := by
  unfold State.linkFrameDiscarded
  refine memWf_ite h ?_
  split
  · exact memWf_ite h.inc.sendNak h
  · exact memWf_ite h h.inc.sendNak
  · exact h.setQlb.sendNak
  · exact h.inc.setQlb

theorem State.memWf.quosorLinkDown (h : s.memWf) : s.quosorLinkDown.memWf :=
  memWf_ite h (h.setRegN.wr.wr.setQlb.then fun h1 => memWf_ite h1 h1.setQlb.stopMirror.bridgeDown.inc.raise.detect)

theorem State.memWf.pairProbe (h : s.memWf) : s.pairProbe.memWf := memWf_ite h h.sendKa.inc.setQlb

theorem State.memWf.markLinkOnly (h : s.memWf) : s.markLinkOnly.memWf :=
  h.wr.inc.raise.then fun h1 => memWf_ite h1.setRole h1

theorem State.memWf.partnerLost (h : s.memWf) : s.partnerLost.memWf := memWf_ite h h.setQlb.wr.inc.raise.takeOver

theorem State.memWf.formWait (h : s.memWf) : s.formWait.memWf := by
  unfold State.formWait
  split
  · exact h
  · exact memWf_ite h (memWf_ite (((memWf_ite h.wr h.wr.markLinkOnly).setRole).setHome) h.wr.takeOver)

theorem State.memWf.mirrorLost (h : s.memWf) : s.mirrorLost.memWf := h.setQlb.foldl fun _ _ h => h.inc.raise

theorem State.memWf.onLink (h : s.memWf) {f : State → State} (hf : ∀ u, u.memWf → (f u).memWf) : (s.onLink f).memWf :=
  memWf_ite (hf _ h.linkTaken) h

theorem State.memWf.onMirror (h : s.memWf) {f : State → State} (hf : ∀ u, u.memWf → (f u).memWf) :
    (s.onMirror f).memWf :=
  h.onLink fun u hu => memWf_ite (hf u hu) hu

theorem State.memWf.onSync (h : s.memWf) {f : State → State} (hf : ∀ u, u.memWf → (f u).memWf) : (s.onSync f).memWf :=
  h.onLink fun u hu => memWf_ite (hf u hu) (memWf_ite hu (hf _ hu.clearForSync))

theorem State.memWf.syncReceived (h : s.memWf) {a} : (s.syncReceived a).memWf := h.same
theorem State.memWf.pairFrame (h : s.memWf) {f} : (s.pairFrame f).memWf := memWf_ite h h.linkTaken.feed
theorem State.memWf.qlbRestart (h : s.memWf) {value} : (s.qlbRestart value).memWf := memWf_ite h.linkSend h

theorem State.memWf.restartReq (h : s.memWf) : s.restartReq.memWf :=
  h.onLink fun _ h => memWf_ite h.linkSend.upd h.linkSend

theorem State.memWf.restartRsp (h : s.memWf) {accepted} : (s.restartRsp accepted).memWf :=
  h.onLink fun _ h => memWf_ite h h.raise

theorem State.memWf.beginHandover (h : s.memWf) {restart} : (s.beginHandover restart).memWf :=
  memWf_ite h h.setQlb.linkSend

theorem State.memWf.qlbHandover (h : s.memWf) {value} : (s.qlbHandover value).memWf := memWf_ite h.beginHandover h

theorem State.memWf.dutyOffer (h : s.memWf) {index} : (s.dutyOffer index).memWf :=
  h.onMirror fun _ h => memWf_ite h.setQlb h

theorem State.memWf.releaseDuty (h : s.memWf) : s.releaseDuty.memWf := by
  unfold State.releaseDuty
  split
  · exact memWf_ite h.linkSend.setRole h
  · exact h

theorem State.memWf.dutyTaken (h : s.memWf) : s.dutyTaken.memWf := by
  unfold State.dutyTaken
  refine h.onLink fun u hu => ?_
  split
  · exact hu
  · exact memWf_ite (memWf_ite hu.setQlb (memWf_ite hu.setQlb.upd hu.setQlb)) hu.setQlb.setRole.linkSend

/-! ### Machine/RegFile -/

theorem State.memWf.writeBut (h : s.memWf) {f v} : (s.writeBut f v).memWf := h.writeFields

theorem State.memWf.tsuCtrlWrite (h : s.memWf) {v} : (s.tsuCtrlWrite v).memWf :=
  (memWf_ite h.writeBut.loadWt h.writeBut).wtSrcWrite.then fun h1 => (memWf_ite
    h1.forceStep h1).then fun h2 => memWf_ite h2.snap h2

theorem State.memWf.dcCtrlWrite (h : s.memWf) {n v} : (s.dcCtrlWrite n v).memWf := h.writeBut.usableWrite

theorem State.memWf.listNameWrite (h : s.memWf) {f v} : (s.listNameWrite f v).memWf :=
  h.writeFields.refreshList.refreshList

theorem State.memWf.msCtrlWrite (h : s.memWf) {p v} : (s.msCtrlWrite p v).memWf := h.writeBut.txAnWrite
theorem State.memWf.txPnWrite (h : s.memWf) {p a addr v} : (s.txPnWrite p a addr v).memWf := h.writeFields.setCph

theorem State.memWf.fqCfgWrite (h : s.memWf) {n k v} : (s.fqCfgWrite n k v).memWf :=
  memWf_ite h.ringCfgWrite.fqFlush h.ringCfgWrite

theorem State.memWf.qlbCtrlWrite (h : s.memWf) {v} : (s.qlbCtrlWrite v).memWf := h.writeFields.quosorLinkDown
theorem State.memWf.harvestWrite (h : s.memWf) {v} : (s.harvestWrite v).memWf := h.harvestPeriodWrite.harvestStart

theorem State.memWf.mtimecmpWrite (h : s.memWf) {e addr v} : (s.mtimecmpWrite e addr v).memWf :=
  h.writeFields.machineTimer

/-- A register's write keeps the memories canonical. -/
def WriteReg.KeepsMem (w : WriteReg) : Prop := ∀ s e n v, s.memWf → (w.run s e n v).memWf

theorem writeTsu_keepsMem : ∀ w ∈ writeTsu, w.KeepsMem := by
  simp only [writeTsu, WriteReg.KeepsMem, List.forall_mem_cons, List.not_mem_nil, false_imp_iff, implies_true, and_true]
  exact ⟨fun _ _ _ _ h => h.tsuCtrlWrite,
    fun _ _ _ _ h => h.dcCtrlWrite,
    fun _ _ _ _ h => h.dcRateWrite,
    fun _ _ _ _ h => h.dcStep,
    fun _ _ _ _ h => h.setRegN,
    fun _ _ _ _ h => h.setRegN,
    fun _ _ _ _ h => h.plsCtrlWrite⟩

theorem writeMac_keepsMem : ∀ w ∈ writeMac, w.KeepsMem := by
  simp only [writeMac, WriteReg.KeepsMem, List.forall_mem_cons, List.not_mem_nil, false_imp_iff, implies_true, and_true]
  exact ⟨fun _ _ _ _ h => h.macCtrlWrite,
    fun _ _ _ _ h => h.mdioStart⟩

theorem writeFwd_keepsMem : ∀ w ∈ writeFwd, w.KeepsMem := by
  simp only [writeFwd, WriteReg.KeepsMem, List.forall_mem_cons, List.not_mem_nil, false_imp_iff, implies_true, and_true]
  exact ⟨fun _ _ _ _ h => h.fwdCommit,
    fun _ _ _ _ h => h.seedWrite,
    fun _ _ _ _ h => memWf_ite h.migrateStart h,
    fun _ _ _ _ h => h.fwdFlush⟩

theorem writeSct_keepsMem : ∀ w ∈ writeSct, w.KeepsMem := by
  simp only [writeSct, WriteReg.KeepsMem, List.forall_mem_cons, List.not_mem_nil, false_imp_iff, implies_true, and_true]
  exact ⟨fun _ _ _ _ h => h.sctCommit,
    fun _ _ _ _ h => h.sctStateSel,
    fun _ _ _ _ h => h.listNameWrite,
    fun _ _ _ _ h => h.latencyClear⟩

theorem writeBuf_keepsMem : ∀ w ∈ writeBuf, w.KeepsMem := by
  simp only [writeBuf, WriteReg.KeepsMem, List.forall_mem_cons, List.not_mem_nil, false_imp_iff, implies_true, and_true]
  exact ⟨fun _ _ _ _ h => h.bufCommit,
    fun _ _ _ _ h => h.queueFlush⟩

theorem writeEgs_keepsMem : ∀ w ∈ writeEgs, w.KeepsMem := by
  simp only [writeEgs, WriteReg.KeepsMem, List.forall_mem_cons, List.not_mem_nil, false_imp_iff, implies_true, and_true]
  exact ⟨fun _ _ _ _ h => h.egsCommit,
    fun _ _ _ _ h => h.egsListSel,
    fun _ _ _ _ h => h.maxdlyClear,
    fun _ _ _ _ h => h.listNameWrite,
    fun _ _ _ _ h => h.shaperWrite,
    fun _ _ _ _ h => h.shaperWrite,
    fun _ _ _ _ h => h.hmQueueWrite⟩

theorem writeAud_keepsMem : ∀ w ∈ writeAud, w.KeepsMem := by
  simp only [writeAud, WriteReg.KeepsMem, List.forall_mem_cons, List.not_mem_nil, false_imp_iff, implies_true, and_true]
  exact ⟨fun _ _ _ _ h => h.audCommit,
    fun _ _ _ _ h => h.chgCmd,
    fun _ _ _ _ h => h.marginClear,
    fun _ _ _ _ h => h.wrEsiHi⟩

theorem writeCan_keepsMem : ∀ w ∈ writeCan, w.KeepsMem := by
  simp only [writeCan, WriteReg.KeepsMem, List.forall_mem_cons, List.not_mem_nil, false_imp_iff, implies_true, and_true]
  exact ⟨fun _ _ _ _ h => h.canCommit,
    fun _ _ _ _ h => h.canCtrlWrite,
    fun _ _ _ _ h => h.bitTimingWrite,
    fun _ _ _ _ h => h.bitTimingWrite,
    fun _ _ _ _ h => h.bitTimingWrite,
    fun _ _ _ _ h => h.bitTimingWrite,
    fun _ _ _ _ h => h.tbCancel,
    fun _ _ _ _ h => h.canRecover,
    fun _ _ _ _ h => h.fqCfgWrite,
    fun _ _ _ _ h => h.fqCfgWrite,
    fun _ _ _ _ h => h.fqCfgWrite,
    fun _ _ _ _ h => h.fqPut,
    fun _ _ _ _ h => h.fqPut,
    fun _ _ _ _ h => h.fqPut,
    fun _ _ _ _ h => h.ringCfgWrite,
    fun _ _ _ _ h => h.ringCfgWrite,
    fun _ _ _ _ h => h.rxqGetWrite,
    fun _ _ _ _ h => h.rxqGetWrite,
    fun _ _ _ _ h => h.trellisWrite,
    fun _ _ _ _ h => h.trellisWrite,
    fun _ _ _ _ h => h.trellisWrite⟩

theorem writeSer_keepsMem : ∀ w ∈ writeSer, w.KeepsMem := by
  simp only [writeSer, WriteReg.KeepsMem, List.forall_mem_cons, List.not_mem_nil, false_imp_iff, implies_true, and_true]
  exact ⟨fun _ _ _ _ h => h.serCtrlWrite,
    fun _ _ _ _ h => h.serBaudWrite,
    fun _ _ _ _ h => h.serTxqPut,
    fun _ _ _ _ h => h.serGetWrite⟩

theorem writeGlv_keepsMem : ∀ w ∈ writeGlv, w.KeepsMem := by
  simp only [writeGlv, WriteReg.KeepsMem, List.forall_mem_cons, List.not_mem_nil, false_imp_iff, implies_true, and_true]
  exact fun _ _ _ _ h => h.glvCommit

theorem writeCph_keepsMem : ∀ w ∈ writeCph, w.KeepsMem := by
  simp only [writeCph, WriteReg.KeepsMem, List.forall_mem_cons, List.not_mem_nil, false_imp_iff, implies_true, and_true]
  exact ⟨fun _ _ _ _ h => h.pairEnWrite,
    fun _ _ _ _ h => h.cphKsSel,
    fun _ _ _ _ h => h.keyErase,
    fun _ _ _ _ h => h.ringPut,
    fun _ _ _ _ h => h.ringCtrlWrite,
    fun _ _ _ _ h => h.msCtrlWrite,
    fun _ _ _ _ h => h.txPnWrite,
    fun _ _ _ _ h => h.txPnWrite,
    fun _ _ _ _ h => h.txPnWrite,
    fun _ _ _ _ h => h.txPnWrite,
    fun _ _ _ _ h => h.txPnWrite,
    fun _ _ _ _ h => h.txPnWrite,
    fun _ _ _ _ h => h.txPnWrite,
    fun _ _ _ _ h => h.txPnWrite⟩

theorem writeQlb_keepsMem : ∀ w ∈ writeQlb, w.KeepsMem := by
  simp only [writeQlb, WriteReg.KeepsMem, List.forall_mem_cons, List.not_mem_nil, false_imp_iff, implies_true, and_true]
  exact ⟨fun _ _ _ _ h => h.qlbCtrlWrite,
    fun _ _ _ _ h => h.qlbHandover,
    fun _ _ _ _ h => h.qlbRestart⟩

theorem writeWak_keepsMem : ∀ w ∈ writeWak, w.KeepsMem := by
  simp only [writeWak, WriteReg.KeepsMem, List.forall_mem_cons, List.not_mem_nil, false_imp_iff, implies_true, and_true]
  exact ⟨fun _ _ _ _ h => h.needWrite,
    fun _ _ _ _ h => h.quarClear⟩

theorem writeEng_keepsMem : ∀ w ∈ writeEng, w.KeepsMem := by
  simp only [writeEng, WriteReg.KeepsMem, List.forall_mem_cons, List.not_mem_nil, false_imp_iff, implies_true, and_true]
  exact ⟨fun _ _ _ _ h => h.wdKick,
    fun _ _ _ _ h => h.mbSend,
    fun _ _ _ _ h => h.mtimecmpWrite,
    fun _ _ _ _ h => h.mtimecmpWrite,
    fun _ _ _ _ h => h.txrPut⟩

theorem writeFlt_keepsMem : ∀ w ∈ writeFlt, w.KeepsMem := by
  simp only [writeFlt, WriteReg.KeepsMem, List.forall_mem_cons, List.not_mem_nil, false_imp_iff, implies_true, and_true]
  exact fun _ _ _ _ h => h.fltLog

theorem writeCnt_keepsMem : ∀ w ∈ writeCnt, w.KeepsMem := by
  simp only [writeCnt, WriteReg.KeepsMem, List.forall_mem_cons, List.not_mem_nil, false_imp_iff, implies_true, and_true]
  exact fun _ _ _ _ h => h.harvestWrite

theorem blockWrites_keepsMem (a : Nat) : ∀ w ∈ blockWrites a, w.KeepsMem := by
  unfold blockWrites
  split
  · exact writeTsu_keepsMem
  · exact writeMac_keepsMem
  · exact writeFwd_keepsMem
  · exact writeSct_keepsMem
  · exact writeBuf_keepsMem
  · exact writeEgs_keepsMem
  · exact writeAud_keepsMem
  · exact writeCan_keepsMem
  · exact writeSer_keepsMem
  · exact writeGlv_keepsMem
  · exact writeCph_keepsMem
  · exact writeQlb_keepsMem
  · exact writeWak_keepsMem
  · exact writeEng_keepsMem
  · exact writeFlt_keepsMem
  · exact writeCnt_keepsMem
  · exact List.forall_mem_nil _

theorem State.memWf.regEffect (h : s.memWf) {e a v} : (s.regEffect e a v).memWf := by
  unfold State.regEffect
  refine memWf_ite h.storeWord ?_
  extract_lets b
  clear_value b
  split
  · next w hw => exact blockWrites_keepsMem b w (List.mem_of_find?_eq_some hw) _ _ _ _ h
  · exact h.writeFields

theorem State.memWf.scrubDenied (h : s.memWf) {e a} : (s.scrubDenied e a).memWf := h.same

theorem State.memWf.engineWrite (h : s.memWf) {e a v} : (s.engineWrite e a v).memWf :=
  memWf_ite h (memWf_ite h.engineStore (memWf_ite h.busError (memWf_ite h.scrubDenied h.regEffect)))

theorem State.memWf.guarded (h : s.memWf) {e a} {f : State → State} (hf : ∀ u, u.memWf → (f u).memWf) :
    (s.guarded e a f).memWf :=
  memWf_ite h.same (hf s h)

theorem State.memWf.guardedAny (h : s.memWf) {a} {f : State → State} (hf : ∀ u, u.memWf → (f u).memWf) :
    (s.guardedAny a f).memWf :=
  memWf_ite h.same (hf s h)

theorem State.memWf.loadReg (h : s.memWf) {e a} : (s.loadReg e a).memWf := by
  unfold State.loadReg
  split
  · exact h.head0Read
  · exact h.fenceRead
  · exact memWf_ite h.mailboxRead (memWf_ite h.mtimeLoRead (memWf_ite h.tdSnap (memWf_ite h.loRead h.setRdata)))

theorem State.memWf.engineRead (h : s.memWf) {e addr size} : (s.engineRead e addr size).memWf := by
  unfold State.engineRead
  refine memWf_ite h ?_
  split
  · exact memWf_ite h.loadReg h.busError
  · exact h.flashWindowRead
  · exact h.engineLoad

theorem State.memWf.engineWriteAny (h : s.memWf) {e addr data size} : (s.engineWriteAny e addr data size).memWf :=
  memWf_ite (memWf_ite h.engineWrite h.busError) h.engineStore

/-! ### Machine/Maint -/

theorem State.memWf.maintRespond (h : s.memWf) {r cmd status args} : (s.maintRespond r cmd status args).memWf := h.same

theorem State.memWf.maint (h : s.memWf) {r cmd} {act : State → State} (hf : ∀ u, u.memWf → (act u).memWf) :
    (s.maint r cmd act).memWf :=
  memWf_ite h (memWf_ite (hf _ h.job.same) h.job.same)

theorem State.memWf.maintStatus (h : s.memWf) {r cmd} {x : State × Nat} (hx : x.1.memWf) :
    (s.maintStatus r cmd x).memWf :=
  memWf_ite hx.maintRespond h.maintRespond

theorem State.memWf.useBlock (h : s.memWf) : s.useBlock.memWf := by
  unfold State.useBlock
  extract_lets s1
  have hs1 : s1.memWf := h.setPair.wr
  clear_value s1
  split
  · exact hs1.setLease.takeBlock
  · exact hs1

theorem State.memWf.challengeAnswer (h : s.memWf) {r} : (s.challengeAnswer r).memWf := h.useBlock.maintRespond.upd

theorem State.memWf.challengeGoesOn (h : s.memWf) : s.challengeGoesOn.memWf := by
  unfold State.challengeGoesOn
  split
  · exact h
  · exact memWf_ite h.challengeAnswer h

theorem State.memWf.challenge (h : s.memWf) {r} : (s.challenge r).memWf :=
  memWf_ite h (memWf_ite h.maintRespond (memWf_ite h.maintRespond ((memWf_ite h.upd h.upd.askBlock).challengeGoesOn)))

theorem State.memWf.maintRead (h : s.memWf) {r} : (s.maintRead r).memWf :=
  memWf_ite h.maintRespond (memWf_ite h.maintRespond h.maintRespond)

theorem State.memWf.maintBottle (h : s.memWf) {r} : (s.maintBottle r).memWf := memWf_ite h.maintRespond h.maintRespond
theorem State.memWf.stageWriteNow (h : s.memWf) {r} : (s.stageWriteNow r).memWf := h.stageWrite.maintRespond

theorem State.memWf.stageNow (h : s.memWf) {cmd r} : (s.stageNow cmd r).memWf := by
  unfold State.stageNow
  split
  · exact h.maintStatus h.stageBegin
  · exact memWf_ite h.maintRespond h.stageWriteNow
  · exact h.maintStatus h.stageVerify
  · exact h.maintStatus h.arm
  · exact h.maintStatus h.disarm
  · exact h.maintStatus h.stageAbort

theorem State.memWf.stageCommand (h : s.memWf) {cmd r} : (s.stageCommand cmd r).memWf := memWf_ite h.upd h.stageNow
theorem State.memWf.stageGoesOn (h : s.memWf) : s.stageGoesOn.memWf := memWf_ite h (h.upd.foldl fun _ _ h => h.stageNow)

theorem State.memWf.maintRestart (h : s.memWf) {r} : (s.maintRestart r).memWf :=
  memWf_ite h.maintRespond (memWf_ite h.maintRespond.beginHandover h.maintRespond.upd)

/-! ### Machine/Boot -/

theorem State.memWf.coldReset (h : s.memWf) {pairId testEn} : (s.coldReset pairId testEn).memWf := ⟨memWf_reset.1, h.2⟩

theorem State.memWf.afterReset (h : s.memWf) {cause pairId} : (s.afterReset cause pairId).memWf := by
  have hkept : s.flushCellar.memWf := h.flushCellar
  have haon : ({ s.flushCellar with mem := s.flushCellar.mem.filter (fun e => aonByte e.1) } : State).memWf :=
    ⟨swf_filter _ _ _ hkept.1, hkept.2⟩
  unfold State.afterReset
  extract_lets
  refine State.memWf.same (memWf_ite ?_ ?_) <;> exact haon.same

theorem State.memWf.warmReset (h : s.memWf) {pairId} : (s.warmReset pairId).memWf := h.afterReset
theorem State.memWf.aonReady (h : s.memWf) : s.aonReady.memWf := memWf_ite h.upd h
theorem State.memWf.startSlot (h : s.memWf) {k armed} : (s.startSlot k armed).memWf := h.same

theorem State.memWf.slotFails (h : s.memWf) {cause} : (s.slotFails cause).memWf :=
  (memWf_ite_fst h.raiseMust.writeBootRec.raiseMust h.raiseMust).then fun h1 => memWf_ite h1.wr.wr.upd h1.startSlot

theorem State.memWf.slotFailsOpen (h : s.memWf) : s.slotFailsOpen.memWf := h.drawFree.slotFails

theorem State.memWf.chooseSlot (h : s.memWf) : s.chooseSlot.memWf := by
  unfold State.chooseSlot
  split
  · exact h.startSlot
  · exact memWf_ite h.writeBootRec.startSlot (memWf_ite h.writeBootRec.raiseMust.startSlot h.startSlot)

theorem State.memWf.checkBottles (h : s.memWf) : s.checkBottles.memWf := by
  unfold State.checkBottles
  extract_lets s1
  have hs1 : s1.memWf := h.wr
  clear_value s1
  split
  · exact hs1
  · exact hs1.wr.wr.setRegN

theorem State.memWf.loadPersistent (h : s.memWf) : s.loadPersistent.memWf :=
  (h.foldl fun _ _ h => h.wr.wr).foldl fun _ _ h => h.setLease.setRegN

theorem State.memWf.pllLock (h : s.memWf) : s.pllLock.memWf :=
  memWf_ite h ((memWf_ite h.upd h.upd.wr).checkBottles.loadPersistent.chooseSlot)

theorem State.memWf.copyFirmware (h : s.memWf) {k} : (s.copyFirmware k).memWf :=
  h.foldl fun _ _ h => memWf_ite h.store h

theorem State.memWf.imageStreamed (h : s.memWf) : s.imageStreamed.memWf :=
  memWf_ite h (memWf_ite h.slotFails (memWf_ite h.copyFirmware.slotFails (memWf_ite h.copyFirmware.slotFails
    (memWf_ite h.copyFirmware.slotFailsOpen h.copyFirmware.wr.upd))))

theorem State.memWf.bootWrite (h : s.memWf) {a v} : (s.bootWrite a v).memWf := by
  unfold State.bootWrite
  split
  · exact memWf_ite h.regEffect h
  · exact h.storeWord
  · exact h.storeWord
  · exact h

theorem State.memWf.stage {l : List Word} : ∀ {s : State} {base : Nat}, s.memWf → (s.stage base l).memWf := by
  induction l with
  | nil => exact fun h => h
  | cons w r ih => exact fun h => ih h.same

theorem State.memWf.loadEntry (h : s.memWf) {t i w} : (s.loadEntry t i w).1.memWf := by
  unfold State.loadEntry
  split
  · exact h.stage.fwdCommit
  · exact h.stage.sctCommit
  · exact h.stage.egsCommit
  · exact h.stage.bufCommit
  · exact h.stage.audCommit
  · exact h.stage.canCommit
  · exact h.stage.canCommit
  · exact h.stage.glvCommit
  · exact h.stage.fwdCommit

theorem State.memWf.setParams (h : s.memWf) {peers vintage settle age hold} :
    (s.setParams peers vintage settle age hold).memWf := h.same

theorem State.memWf.poll (h : s.memWf) {a mask expected timeout} : (s.poll a mask expected timeout).1.memWf := by
  unfold State.poll
  refine memWf_ite_fst h.upd ?_
  refine memWf_ite_fst h ?_
  split
  · exact h
  · exact h.upd

theorem State.memWf.applyOne (h : s.memWf) {k x} : (s.applyOne k x).1.memWf := by
  unfold State.applyOne
  split
  · exact h.bootWrite
  · exact h.bootWrite
  · exact h.poll
  · exact h
  · exact h.loadEntry
  · split
    · exact h.writeKey
    · exact h
  · exact h.setParams

theorem State.memWf.applyAll {k : Nat} {l : List ApplyOp} : ∀ {s : State}, s.memWf → (s.applyAll k l).1.memWf := by
  induction l with
  | nil => exact fun h => h
  | cons op r ih =>
    intro s h
    unfold State.applyAll
    dsimp only
    split
    · exact ih h.applyOne.same
    · exact h.applyOne

theorem State.memWf.releaseEngines (h : s.memWf) {k} : (s.releaseEngines k).memWf := h.same

theorem State.memWf.finishApply (h : s.memWf) : s.finishApply.memWf :=
  h.wr.upd.takeBaseline.store.releaseEngines.upd.enablePorts

theorem State.memWf.applyImage (h : s.memWf) : s.applyImage.memWf := by
  unfold State.applyImage
  extract_lets k r
  have hr : r.1.memWf := h.applyAll
  clear_value k r
  split
  · exact hr.finishApply
  · exact hr.upd
  · exact hr.slotFailsOpen

theorem State.memWf.signatureVerified (h : s.memWf) : s.signatureVerified.memWf :=
  memWf_ite h (memWf_ite h.slotFails h.wr.wr.setPair.setParams.applyImage)

theorem State.memWf.pollGoesOn (h : s.memWf) : s.pollGoesOn.memWf := by
  unfold State.pollGoesOn
  split
  · exact h
  · refine memWf_ite h ?_
    split
    · exact memWf_ite h.applyImage h
    · exact h

theorem State.memWf.pollTimeout (h : s.memWf) : s.pollTimeout.memWf := by
  unfold State.pollTimeout
  split
  · exact h
  · exact memWf_ite h.upd.slotFailsOpen h

theorem State.memWf.wakForwarding (h : s.memWf) : s.wakForwarding.memWf :=
  h.wr.setPower.setWak.then fun h1 => memWf_ite h1 (h1.raise.then fun h2 => (memWf_ite h2.raise h2).then fun h3 =>
    (memWf_ite h3.raise h3).setWak)

theorem State.memWf.atOnce (h : s.memWf) {hold} {f : State → State} (hf : ∀ u, u.memWf → (f u).memWf) :
    (s.atOnce hold f).memWf :=
  memWf_ite (hf s h) h

theorem State.memWf.startService (h : s.memWf) : s.startService.memWf :=
  h.setRole.wr.setHome.audForwarding.wakForwarding.setCnt

theorem State.memWf.settleRecord (h : s.memWf) : s.settleRecord.memWf :=
  (memWf_ite h.writeBootRec h).atOnce fun _ h => h.trialConfirm

theorem State.memWf.reachForwarding (h : s.memWf) : s.reachForwarding.memWf :=
  memWf_ite h (h.upd.wr.setRegN.setTxOn.settleRecord.startService.atOnce fun _ h => h.censusSettle)

theorem State.memWf.wakeSupplyGood (h : s.memWf) : s.wakeSupplyGood.memWf := memWf_ite h.afterReset h
theorem State.memWf.faultRestart (h : s.memWf) {pairId} : (s.faultRestart pairId).memWf := memWf_ite h h.upd.afterReset

theorem State.memWf.supplyMonitor (h : s.memWf) {rail high} : (s.supplyMonitor rail high).memWf :=
  memWf_ite h.coldReset (memWf_ite h (memWf_ite h.throttleEnter h.setRegN.failSilent))

theorem State.memWf.react (h : s.memWf) : s.react.memWf :=
  memWf_ite h (memWf_ite h.upd (memWf_ite h.upd.failSilent (memWf_ite (memWf_ite h.upd.upd.beginHandover h)
    (memWf_ite h.upd.upd h.upd))))

theorem State.memWf.dueReset (h : s.memWf) : s.dueReset.memWf := by
  unfold State.dueReset
  split
  · exact h.afterReset
  · exact h.afterReset
  · exact memWf_ite h h.afterReset
  · exact h

theorem State.memWf.giveUp (h : s.memWf) : s.giveUp.memWf := memWf_ite h.cutSweep.silenced h

theorem State.memWf.settle (h : s.memWf) : (settle s).memWf :=
  (memWf_ite h.react.releaseDuty.challengeGoesOn.stageGoesOn h).pollGoesOn.giveUp.then fun h1 => (memWf_ite
    h1.wakEvaluate h1).dueReset

theorem State.memWf.live (h : s.memWf) {f : State → State} (hf : ∀ u, u.memWf → (f u).memWf) : (s.live f).memWf :=
  memWf_ite (hf s h) h

theorem State.memWf.unsilent (h : s.memWf) {f : State → State} (hf : ∀ u, u.memWf → (f u).memWf) :
    (s.unsilent f).memWf :=
  memWf_ite h (hf s h)

theorem State.memWf.regLive (h : s.memWf) {a} {f : State → State} (hf : ∀ u, u.memWf → (f u).memWf) :
    (s.regLive a f).memWf :=
  memWf_ite (h.guardedAny hf) h

theorem State.memWf.regEng (h : s.memWf) {e a} {f : State → State} (hf : ∀ u, u.memWf → (f u).memWf) :
    (s.regEng e a f).memWf :=
  memWf_ite (h.guarded hf) h

/-! ### Machine/FltCommands -/

theorem State.memWf.devTemp (h : s.memWf) {t} : (s.devTemp t).memWf := memWf_ite h h.upd.wr.wr

/-! ### Machine/Tick -/

theorem State.memWf.tickClocks (h : s.memWf) : s.tickClocks.memWf := h.same
theorem State.memWf.tickNow (h : s.memWf) : s.tickNow.memWf := h.same

theorem State.memWf.tick (h : s.memWf) : (tick s).memWf :=
  (memWf_ite h.tickNow.tickClocks.holdoverCheck.noteMismatch.tickShapers.holdHeads.slotTick h.tickNow).settle

/-! ### Commands and steps -/

/-- The state that an answer leaves has canonical memories. -/
def LeavesCanonical (o : Host.Outcome State Fault Refusal) : Prop := ∀ t, o = .next t → t.memWf

theorem State.memWf.finish (h : s.memWf) : LeavesCanonical (finish s) := fun t ht => by
  cases ht
  exact h.settle

/-- Every command keeps the memories canonical, by the lemma of what it does. -/
theorem State.memWf.exec (h : s.memWf) (c : Instr) : LeavesCanonical (exec c s) := by
  cases c with
  | coldReset => exact h.coldReset.finish
  | warmReset => exact h.warmReset.finish
  | aonReady => exact (h.unsilent fun _ h => h.aonReady).finish
  | pllLock => exact (h.unsilent fun _ h => h.pllLock).finish
  | imageStreamed => exact h.imageStreamed.finish
  | signatureVerified => exact h.signatureVerified.finish
  | pollTimeout => exact h.pollTimeout.finish
  | forwarding => exact h.reachForwarding.finish
  | configurationScrub => exact h.configurationScrub.finish
  | censusEvaluate => exact (h.live fun _ h => h.censusEvaluate).finish
  | censusSettle => exact (h.live fun _ h => h.censusSettle).finish
  | censusAge => exact (h.live fun _ h => h.censusAge).finish
  | trialConfirm => exact (h.live fun _ h => h.trialConfirm).finish
  | stageBegin => exact (h.maint fun _ h => h.stageCommand).finish
  | stageWrite => exact (h.maint fun _ h => h.stageCommand).finish
  | stageVerify => exact (h.maint fun _ h => h.stageCommand).finish
  | stageCheckDone => exact (h.live fun _ h => h.stageCheckDone).finish
  | arm => exact (h.maint fun _ h => h.stageCommand).finish
  | disarm => exact (h.maint fun _ h => h.stageCommand).finish
  | stageAbort => exact (h.maint fun _ h => h.stageCommand).finish
  | challenge => exact h.challenge.finish
  | read => exact (h.maint fun _ h => h.maintRead).finish
  | readBottle => exact (h.maint fun _ h => h.maintBottle).finish
  | restart => exact (h.maint fun _ h => h.maintRestart).finish
  | dcStep => exact (h.regLive fun _ h => h.dcStep).finish
  | dcRate => exact (h.regLive fun _ h => h.dcRateWrite).finish
  | usableSet => exact (h.regLive fun _ h => h.usableSet).finish
  | domainLost => exact (h.live fun _ h => h.domainLost).finish
  | forceStep => exact (h.regLive fun _ h => h.forceStep).finish
  | loadWt => exact (h.regLive fun _ h => h.loadWt).finish
  | wtSrcWrite => exact (h.regLive fun _ h => h.wtSrcWrite).finish
  | snap => exact (h.regLive fun _ h => h.snap).finish
  | slewUpdate => exact (h.live fun _ h => h.slewUpdate).finish
  | pairWtMismatch => exact (h.live fun _ h => h.pairWtMismatch).finish
  | frameStartRx => exact (h.live fun _ h => h.frameStartRx).finish
  | calibrationDone => exact (h.live fun _ h => h.calibrationDone).finish
  | head0Read => exact h.head0Read.finish
  | plsCtrlWrite => exact (h.regLive fun _ h => h.plsCtrlWrite).finish
  | pulseEdge => exact (h.live fun _ h => h.pulseEdge).finish
  | captureEdge => exact (h.live fun _ h => h.captureEdge).finish
  | sampleStrobe => exact h.sampleStrobe.finish
  | macCtrlWrite => exact (h.regLive fun _ h => h.macCtrlWrite).finish
  | linkUp => exact (h.live fun _ h => h.linkComesUp).finish
  | linkDown => exact (h.live fun _ h => h.linkGoesDown).finish
  | linkdownDiscard => exact (h.live fun _ h => h.linkdownDiscard).finish
  | krTrainFailed => exact (h.live fun _ h => h.krTrainFailed).finish
  | krRetry => exact (h.live fun _ h => h.krRetry).finish
  | frameEndRx => exact (h.live fun _ h => h.frameEndRx).finish
  | pauseExpiry => exact (h.live fun _ h => h.pauseExpiry).finish
  | pauseWdTrip => exact (h.live fun _ h => h.pauseWdTrip).finish
  | pauseIgnoredEnd => exact (h.live fun _ h => h.pauseIgnoredEnd).finish
  | pauseRefresh => exact (h.live fun _ h => h.pauseRefresh).finish
  | verifyTimer => exact (h.live fun _ h => h.verifyTimer).finish
  | plcaBeaconLost => exact (h.live fun _ h => h.plcaBeaconLost).finish
  | mdioStart => exact (h.regLive fun _ h => h.mdioStart).finish
  | mdioDone => exact (h.live fun _ h => h.mdioDone).finish
  | forwardingDecision => exact (h.live fun _ h => h.forwardingDecision).finish
  | stagingCellTake => exact (h.live fun _ h => h.stagingCellTake).finish
  | learnInsert => exact (h.live fun _ h => h.learnInsert).finish
  | tableWrite => exact (h.regLive fun _ h => h.fwdTableWrite).finish
  | macInsert => exact (h.regLive fun _ h => h.macInsertCommit).finish
  | macDelete => exact (h.regLive fun _ h => h.macDeleteCommit).finish
  | macLookup => exact (h.regLive fun _ h => h.macLookupCommit).finish
  | seedWrite => exact (h.regLive fun _ h => h.seedWrite).finish
  | migrateStart => exact (h.regLive fun _ h => h.migrateStart).finish
  | migrateStep => exact (h.live fun _ h => h.migrateStep).finish
  | ageingSweep => exact (h.live fun _ h => h.ageingSweep).finish
  | fwdFlush => exact (h.regLive fun _ h => h.fwdFlush).finish
  | tcamScrub => exact (h.live fun _ h => h.tcamScrub).finish
  | sctCommit => exact (h.regLive fun _ h => h.sctCommit).finish
  | sctStateSel => exact (h.regLive fun _ h => h.sctStateSel).finish
  | rcvReset => exact (h.live fun _ h => h.rcvReset).finish
  | latencyClear => exact (h.regLive fun _ h => h.latencyClear).finish
  | listHeaderCommit => exact (h.regLive fun _ h => h.listHeaderCommit).finish
  | gateEntryCommit => exact (h.regLive fun _ h => h.gateEntryCommit).finish
  | egsListSel => exact (h.regLive fun _ h => h.egsListSel).finish
  | gateEvent => exact (h.live fun _ h => h.gateEvent).finish
  | changeInstant => exact (h.live fun _ h => h.changeInstant).finish
  | transmitSelection => exact (h.live fun _ h => h.transmitSelection).finish
  | holdRequest => exact (h.live fun _ h => h.holdRequest).finish
  | egressStamp => exact (h.live fun _ h => h.egressStamp).finish
  | transmitComplete => exact (h.live fun _ h => h.transmitComplete).finish
  | shaperWrite => exact (h.regLive fun _ h => h.shaperWrite).finish
  | maxdlyClear => exact (h.regLive fun _ h => h.maxdlyClear).finish
  | hmClear => exact (h.regLive fun _ h => h.hmClear).finish
  | hmQueueWrite => exact (h.regLive fun _ h => h.hmQueueWrite).finish
  | depthSample => exact (h.live fun _ h => h.depthSample).finish
  | bufCommit => exact (h.regLive fun _ h => h.bufCommit).finish
  | leakAudit => exact (h.live fun _ h => h.leakAudit).finish
  | auditWalkDone => exact (h.live fun _ h => h.auditWalkDone).finish
  | stuckHead => exact (h.live fun _ h => h.stuckHead).finish
  | queueFlush => exact (h.regLive fun _ h => h.queueFlush).finish
  | tapChange => exact (h.regLive fun _ h => h.chgCmd).finish
  | outputChange => exact (h.regLive fun _ h => h.chgCmd).finish
  | tgTrigger => exact (h.regLive fun _ h => h.chgCmd).finish
  | tgStop => exact (h.regLive fun _ h => h.chgCmd).finish
  | localOffset => exact (h.regLive fun _ h => h.chgCmd).finish
  | talker => exact (h.regLive fun _ h => h.chgCmd).finish
  | audCommit => exact (h.regLive fun _ h => h.audCommit).finish
  | wrEsiHiWrite => exact (h.regLive fun _ h => h.wrEsiHi).finish
  | marginClear => exact (h.regLive fun _ h => h.marginClear).finish
  | listenerFrame => exact (h.live fun _ h => h.listenerFrame).finish
  | canFrameReceived => exact (h.live fun _ h => h.canReceived.canKaRx).finish
  | canFrameStart => exact (h.live fun _ h => h.canFrameStart).finish
  | canFrameSent => exact (h.live fun _ h => h.canSent).finish
  | arbitrationLost => exact (h.live fun _ h => h.arbitrationLost).finish
  | canError => exact (h.live fun _ h => h.canError).finish
  | canRecover => exact (h.regLive fun _ h => h.canRecover).finish
  | busOffRecovery => exact (h.live fun _ h => h.busOffRecovery).finish
  | tbLoad => exact (h.live fun _ h => h.tbLoad).finish
  | fqPut => exact (h.regLive fun _ h => h.fqPut).finish
  | fqFlush => exact (h.regLive fun _ h => h.fqFlush).finish
  | tbCancel => exact (h.regLive fun _ h => h.tbCancel).finish
  | trellisColumn => exact (h.live fun _ h => h.trellisColumn).finish
  | trellisWrite => exact (h.regLive fun _ h => h.trellisWrite).finish
  | modeChange => exact (h.live fun _ h => h.modeChange).finish
  | bitTimingWrite => exact (h.regLive fun _ h => h.bitTimingWrite).finish
  | mirrorExpired => exact (h.live fun _ h => h.mirrorExpired).finish
  | serialCharacter => exact (h.live fun _ h => h.serialCharacter).finish
  | messageClose => exact (h.live fun _ h => h.messageClose).finish
  | serialTxStart => exact (h.live fun _ h => h.serialTxStart).finish
  | serialTxEnd => exact (h.live fun _ h => h.serialTxEnd).finish
  | serTxqPut => exact (h.regLive fun _ h => h.serTxqPut).finish
  | serBaudWrite => exact (h.regLive fun _ h => h.serBaudWrite).finish
  | serMirrorExpired => exact (h.live fun _ h => h.serMirrorExpired).finish
  | gloveItem => exact (h.live fun _ h => h.gloveItem).finish
  | bundleClose => exact (h.live fun _ h => h.bundleClose).finish
  | gloveKeepalive => exact (h.live fun _ h => h.gloveKeepalive).finish
  | decapsulate => exact (h.live fun _ h => h.decapsulate).finish
  | resync => exact (h.live fun _ h => h.resync).finish
  | glvCommit => exact (h.regLive fun _ h => h.glvCommit).finish
  | ringPut => exact (h.regLive fun _ h => h.ringPut).finish
  | nop => exact (h.live fun _ h => h.dispatchTurn).finish
  | gcmEnc => exact (h.live fun _ h => h.dispatchTurn).finish
  | gcmDec => exact (h.live fun _ h => h.dispatchTurn).finish
  | cmacGen => exact (h.live fun _ h => h.dispatchTurn).finish
  | cmacVer => exact (h.live fun _ h => h.dispatchTurn).finish
  | wrap => exact (h.live fun _ h => h.dispatchTurn).finish
  | unwrap => exact (h.live fun _ h => h.dispatchTurn).finish
  | derive => exact (h.live fun _ h => h.dispatchTurn).finish
  | jobComplete => exact (h.live fun _ h => h.jobComplete).finish
  | ringAbort => exact (h.regLive fun _ h => h.ringAbort).finish
  | keyErase => exact (h.regLive fun _ h => h.keyErase).finish
  | keyDestroyed => exact h.keyDestroyed.finish
  | cphKsSel => exact (h.regLive fun _ h => h.cphKsSel).finish
  | pairEnWrite => exact (h.regLive fun _ h => h.pairEnWrite).finish
  | txAnWrite => exact (h.regLive fun _ h => h.txAnWrite).finish
  | lanesAligned => exact (h.live fun _ h => h.lanesAligned).finish
  | epoch => exact (h.live fun _ h => h.epoch).finish
  | heartbeat => exact (h.live fun _ h => h.heartbeat).finish
  | heartbeatTx => exact (h.live fun _ h => h.heartbeatTx).finish
  | nak => exact (h.live fun _ h => h.nak).finish
  | retransmit => exact (h.live fun _ h => h.retransmit).finish
  | quosorLinkDown => exact (h.live fun _ h => h.quosorLinkDown).finish
  | pairProbe => exact (h.live fun _ h => h.pairProbe).finish
  | partnerLost => exact (h.live fun _ h => h.partnerLost).finish
  | formWait => exact (h.live fun _ h => h.formWait).finish
  | mirrorLost => exact (h.live fun _ h => h.mirrorLost).finish
  | frame => exact (h.live fun _ h => h.pairFrame).finish
  | audChange => exact (h.live fun _ h => h.onSync fun _ h => h.audChange).finish
  | liFrame => exact (h.live fun _ h => h.onMirror fun _ h => h.liFrame).finish
  | twinDigest => exact (h.live fun _ h => h.onMirror fun _ h => h.twinDigest).finish
  | tdmCmp => exact (h.live fun _ h => h.onLink fun _ h => h).finish
  | canAppend => exact (h.live fun _ h => h.onSync fun _ h => h.canAppend).finish
  | canFlush => exact (h.live fun _ h => h.onMirror fun _ h => h.flushRing).finish
  | canCancel => exact (h.live fun _ h => h.onMirror fun _ h => h.canCancel).finish
  | serAppend => exact (h.live fun _ h => h.onSync fun _ h => h.serAppend).finish
  | serFlush => exact (h.live fun _ h => h.onMirror fun _ h => h.serFlush).finish
  | lease => exact (h.live fun _ h => h.onLink fun _ h => h.leaseMsg).finish
  | wakState => exact (h.live fun _ h => h.onMirror fun _ h => h.wakMessage).finish
  | audSync => exact (h.live fun _ h => h.onSync fun _ h => h.syncReceived).finish
  | dutyOffer => exact (h.live fun _ h => h.dutyOffer).finish
  | dutyTaken => exact (h.live fun _ h => h.dutyTaken).finish
  | restartReq => exact (h.live fun _ h => h.restartReq).finish
  | restartRsp => exact (h.live fun _ h => h.restartRsp).finish
  | qlbRestart => exact (h.regLive fun _ h => h.qlbRestart).finish
  | qlbHandover => exact (h.regLive fun _ h => h.qlbHandover).finish
  | bridgeRead => exact (h.live fun _ h => h.bridgeRead).finish
  | bridgeWrite => exact (h.live fun _ h => h.bridgeWrite).finish
  | semAcq => exact (h.live fun _ h => h.semAcq).finish
  | semRel => exact (h.live fun _ h => h.semRel).finish
  | readRsp => exact (h.live fun _ h => h.readRsp).finish
  | writeAck => exact (h.live fun _ h => h.writeAck).finish
  | semRsp => exact (h.live fun _ h => h.semRsp).finish
  | semRetry => exact (h.live fun _ h => h.semRetry).finish
  | partnerWindowLoad => exact h.engineRead.finish
  | partnerWindowStore => exact h.engineWriteAny.finish
  | bridgeTimeout => exact (h.live fun _ h => h.bridgeTimeout).finish
  | qlbFence => exact h.fenceRead.finish
  | lr => exact h.loadReserved.finish
  | sc => exact h.storeConditional.finish
  | amo => exact h.amo.finish
  | keepAliveTx => exact (h.live fun _ h => h.keepAliveTx).finish
  | keepAliveRx => exact (h.live fun _ h => h.keepAliveRx).finish
  | needWrite => exact (h.regLive fun _ h => h.needWrite).finish
  | peerNeedExpiry => exact (h.live fun _ h => h.peerNeedExpiry).finish
  | minAwake => exact (h.live fun _ h => h.minAwake).finish
  | readyHold => exact (h.live fun _ h => h.readyHold).finish
  | sleepCommit => exact (h.live fun _ h => h.sleepCommit).finish
  | sleepEntry => exact (h.live fun _ h => h.sleepEntry).finish
  | wakeN => exact (h.unsilent fun _ h => h.wakeN).finish
  | wakeTimer => exact (h.unsilent fun _ h => h.wakeTimer).finish
  | signalDetect => exact (h.unsilent fun _ h => h.signalDetect).finish
  | canWake => exact (h.unsilent fun _ h => h.canWake).finish
  | t1sWake => exact (h.unsilent fun _ h => h.t1sWake).finish
  | dwellEnd => exact (h.unsilent fun _ h => h.dwellEnd).finish
  | wakeSupplyGood => exact (h.unsilent fun _ h => h.wakeSupplyGood).finish
  | supplyFail => exact (h.unsilent fun _ h => h.supplyFail).finish
  | falseWake => exact (h.live fun _ h => h.falseWake).finish
  | quarantineEnd => exact (h.unsilent fun _ h => h.quarantineEnd).finish
  | quarClear => exact (h.regLive fun _ h => h.quarClear).finish
  | failsafeSleep => exact (h.unsilent fun _ h => h.failsafeSleep).finish
  | throttleEnter => exact (h.unsilent fun _ h => h.throttleEnter).finish
  | throttleExit => exact (h.unsilent fun _ h => h.throttleExit).finish
  | throttleBottling => exact (h.live fun _ h => h.throttleBottling).finish
  | brownOut => exact h.brownOut.finish
  | crystalCheck => exact h.crystalCheck.finish
  | wdKick => exact (h.regEng fun _ h => h.wdKick).finish
  | watchdog => exact h.watchdog.finish
  | machineTimer => exact (h.live fun _ h => h.machineTimer).finish
  | mtimeLoRead => exact h.mtimeLoRead.finish
  | mbSend => exact (h.regEng fun _ h => h.mbSend).finish
  | mailboxRead => exact h.mailboxRead.finish
  | eventRoute => exact (h.live fun _ h => h.eventRoute).finish
  | txrPut => exact (h.regLive fun _ h => h.txrPut).finish
  | txDescriptor => exact (h.live fun _ h => h.txDescriptor).finish
  | rxrFrame => exact (h.live fun _ h => h.rxrFrame).finish
  | flashWindowRead => exact h.flashWindowRead.finish
  | counterLoRead => exact h.counterLoRead.finish
  | registerWrite => exact h.engineWrite.finish
  | lockstepMismatch => exact h.lockstep.finish
  | backgroundScrub => exact (h.live fun _ h => h.backgroundScrub).finish
  | supplyMonitor => exact h.supplyMonitor.finish
  | clockMonitor => exact h.clockMonitor.finish
  | faultRestart => exact h.faultRestart.finish
  | cellarRecord => exact h.cellarRecord.finish
  | fltLogCmd => exact (h.regEng fun _ h => h.fltLog).finish
  | bottled => exact h.bottled.finish
  | debugOpen => exact h.debugOpen.finish
  | zeroisationDone => exact h.zeroisationDone.finish
  | harvestSweep => exact (h.live fun _ h => h.harvestSweep).finish
  | harvestStart => exact (h.regLive fun _ h => h.harvestWrite).finish
  | harvestPeriodWrite => exact (h.regLive fun _ h => h.harvestWrite).finish
  | sweepComplete => exact (h.live fun _ h => h.sweepComplete).finish
  | tdSnap => exact h.tdSnap.finish
  | plcaBeacon => exact (h.live fun _ h => h.plcaBeacon).finish
  | collision => exact (h.live fun _ h => h.collision).finish
  | queueFlushDone => exact (h.live fun _ h => h.queueFlushDone).finish
  | fwdFlushDone => exact (h.live fun _ h => h.wr).finish
  | epochSend => exact (h.live fun _ h => h.epochSend).finish
  | linkFrameDiscarded => exact (h.live fun _ h => h.linkFrameDiscarded).finish
  | devTempUpdate => exact (h.live fun _ h => h.devTemp).finish

end

/-- Settles O7: the front of the queue runs as a command, and an empty queue as a TIME cycle. -/
theorem memoriesStayCanonical : Obligations.MemoriesStayCanonical := by
  intro s t h hst
  cases hp : s.pending with
  | nil =>
    rw [step_empty hp] at hst
    cases hst
    exact h.tick
  | cons c r =>
    rw [stepTakesTheFront c r s hp] at hst
    exact State.memWf.exec h.upd c t hst

end Sys2Proof.Machine
end
